-- ==== Sys2Proof/Word.lean ====
section
/-! DEFINITION. The word types and the sparse map type. -/

namespace Sys2Proof

/-- A byte of memory (00_scope.md R7). -/
abbrev Byte := BitVec 8

/-- A register word: registers are 32 bits wide (00_scope.md R7). -/
abbrev Word := BitVec 32

/-- A sparse table: (key, value) pairs with strictly rising keys, none of which holds what an unlisted key reads as. -/
abbrev SMap (α : Type) := List (Nat × α)

end Sys2Proof
end

