-- ==== Sys2Proof/Syntax.lean ====
section
/-! DEFINITION. The commands of the part: one constructor per row of spec/opcode_table.json. The first operand `t` of
each is its instant: device time in fine LSB of 1/128 ns (02_channels_and_time.md R46); POWER_ON_RESET has it in its operand. `req` is the identity of the
requester that makes an access (12_stream_memory.md R306); `ch` a part-wide channel (00_scope.md R6). -/

namespace Sys2Proof

/-- Which decision a CELL_DECISION makes: the oldest composed visit of a head (05_scan_out.md R127), or the oldest
probe of a sequencer (06_salrad.md R154). -/
inductive CellSource where
  | scan (head : Fin 2)
  | probe (sq : Fin 8)
  deriving DecidableEq, Repr

/-- An entry of an ACK block (10_trunk.md R253): the lane it names, NAK, and LSEQ. -/
structure AckEntry where
  lane : Nat
  nak : Bool
  lseq : Nat
  deriving DecidableEq, Repr

/-- A notice of the shadow schedule (11_twin.md R283, R287), with instants in the active's device time, ns. -/
inductive ShadowNotice where
  /-- a decision: descriptor words 1 and 2, lens positions, V0, frond, generation; outcome 0 issued, 1 + reason declined -/
  | decision (head cell ch w1 w2 : Nat) (lenses : List Nat) (v0 frond gen outcome : Nat)
  /-- the pulses of the cell's op below `upto` are accounted for; those listed were not fired -/
  | pulses (head cell upto : Nat) (notFired : List Nat)
  /-- the records of the cell's op, `records` of them, entered egress; SSEQ_NEXT of POINTS_A, POINTS_B, MILESTONE -/
  | egress (head cell records pa pb ms : Nat)
  deriving DecidableEq, Repr

/-- A head, and the interpolator boundaries of its channels that calibration has found since the last step
(15_thermal_calibration.md R355): 4,096 × die + boundary, and where it belongs. -/
structure HeadBounds where
  head : Fin 2
  found : List (Nat × Int)
  deriving DecidableEq, Repr

/-- The partner's stamps of the last 1 ms (11_twin.md R285): of the edges it sent and of those it saw, oldest first. -/
structure BeatStamps where
  sent : List Nat
  seen : List Nat
  deriving DecidableEq, Repr

/-- The release of power-on reset: its instant, and the level of TWINPOS that is sampled then (11_twin.md R277). -/
structure PorRelease where
  t : Nat
  twinPos : Bool
  deriving DecidableEq, Repr

/-- A partner's identity (11_twin.md R283). -/
structure Identity where
  variant : Nat
  unit : Bool
  fw : Nat
  cfg : Nat
  pair : Nat
  family : Nat
  seed : Nat
  deriving DecidableEq, Repr

/-- A die site's capability record as read at start-up (17_startup_faults.md R393). -/
structure DieRecord where
  die : Nat
  link : Bool
  groups : Nat
  corr : Nat
  rev : Nat
  deriving DecidableEq, Repr

/-- What training finds at a fitted DRAM port (12_stream_memory.md R300 to R303): die density in Gb per channel, ranks per
channel, whether two byte-mode dies stand for one x16 die, its read and write eyes, and whether a step did not complete. A
port that is not fitted has no record. -/
structure PortRecord where
  port : Nat
  density : Nat
  ranks : Nat
  byteMode : Bool
  eyeRd : Nat
  eyeWr : Nat
  fail : Bool
  deriving DecidableEq, Repr

/-- The end of a start-up stage (17_startup_faults.md R391), with what the stage finds outside the part: the boot flash
as (offset, bytes) pieces, the guard's self-tests, the die sites, the DRAM ports, the interpolator boundaries by 4,096 × die + boundary. -/
inductive StageWork where
  | rom (flash : List (Nat × List Byte))
  | guard (ok : Bool)
  | config
  | dies (recs : List DieRecord)
  | memory (ports : List PortRecord)
  | images
  | calibration (targets : List (Nat × Int))
  | ready
  deriving DecidableEq, Repr

/-- A record of the embedded non-volatile memory (15_thermal_calibration.md R362). -/
inductive NvRecord where
  | poweredHours
  | comparator (die : Nat)
  | interpolator (die : Nat)
  | reference
  deriving DecidableEq, Repr

/-- The commands. -/
inductive Instr where
  /-- REGISTER_WRITE (R10): A write to a register field that has no row of its own is applied field by field under the reserved-encoding and class rules. -/
  | registerWrite (t : Nat) (req : Nat) (addr size val : Nat)
  /-- UNMAPPED_CLEAR (R27): Clearing UNMAPPED resets FAB_UNMAPPED_COUNT to 0 and re-arms the address latch. -/
  | unmappedClear (t : Nat) (req : Nat)
  /-- PACE_MIN_RESTART (R16): Writing 1 to PACE_MIN_RESTART sets PACE_MIN to 1023 on every die. -/
  | paceMinRestart (t : Nat) (req : Nat)
  /-- PACE_WINDOW_END (R16): At the end of each 10 µs window each die recomputes its pace from its slowest ring that is not in fault. -/
  | paceWindowEnd (t : Nat) (counts : List (List Nat))
  /-- DIE_LINK_STALL (R24): A die-link request without acknowledge for 100 µs makes the hub declare the link stalled. -/
  | dieLinkStall (t : Nat) (die : Nat)
  /-- LATE_RESULT_DISCARD (R23): A fabric result that crosses to an island after its deadline is discarded and counted in the owning block's status. -/
  | lateResultDiscard (t : Nat) (island : Fin 4) (unit : Nat)
  /-- DRAM_REFRESH_DUE (R23): When refresh falls due, the DRAM PHY issues it ahead of pending fabric commands. -/
  | dramRefreshDue (t : Nat) (bank : Nat)
  /-- EVENT_START (R34): A rise of the low comparator starts an event and stamps LR. -/
  | eventStart (t : Nat) (ch : Nat)
  /-- HIGH_COMPARATOR_EDGE (R34): A crossing of the high comparator within an event records HR or HF and sets MULTI on a repeated crossing. -/
  | highComparatorEdge (t : Nat) (ch : Nat) (rise : Bool)
  /-- EVENT_END (R34): A fall of the low comparator ends the event, composes its event word and offers it to the input FIFO and to capture. -/
  | eventEnd (t : Nat) (ch : Nat)
  /-- EVENT_TIMEOUT_CLOSE (R34): An event with no LF 128 ns after LR is closed with ToT saturated and TOT_SAT set. -/
  | eventTimeoutClose (t : Nat) (ch : Nat)
  /-- REARM_END (R35): At the end of the re-arm time a low comparator still above threshold starts a new event with LATE set. -/
  | rearmEnd (t : Nat) (ch : Nat)
  /-- STUCK_HIGH_TIMEOUT (R37): A low comparator above threshold for more than 10 µs sets STUCK_HIGH and enters an error. -/
  | stuckHighTimeout (t : Nat) (ch : Nat)
  /-- STUCK_HIGH_CLEAR (R37): Writing 1 to STUCK_HIGH clears it only while the comparator is low. -/
  | stuckHighClear (t : Nat) (req : Nat) (ch : Nat)
  /-- DROP_COUNT_CLEAR (R42): Any 1 written to CH_DROP_COUNT clears the whole count. -/
  | dropCountClear (t : Nat) (req : Nat) (ch : Nat)
  /-- CH_THR_WRITE (R33): A threshold write that would leave THR_HI at or below THR_LO is refused with THR_REJ; otherwise it applies from the next event. -/
  | chThrWrite (t : Nat) (req : Nat) (ch val : Nat)
  /-- CHANNEL_DISABLE (R41): Clearing CH_EN stops the channel accepting events, while its open ops run to completion. -/
  | channelDisable (t : Nat) (req : Nat) (ch : Nat)
  /-- EVENT_BIN (R73): Binning takes an event from the FIFO, corrects it for walk and adds it into every covering window of the channel's open ops. -/
  | eventBin (t : Nat) (ch : Nat)
  /-- TIMEBASE_LOCK (R44): The multiplier locks to REFCLK, LOCKED is set and holdover ends. -/
  | timebaseLock (t : Nat)
  /-- TIMEBASE_LOCK_LOSS (R45): Loss of lock enters holdover, stops stamping and firing, sets LOCK_LOST and enters an error. -/
  | timebaseLockLoss (t : Nat)
  /-- DEVTIME_SNAPSHOT (R47): A read of DEVTIME_LO captures the whole device time into the requester's snapshot latch. -/
  | devtimeSnapshot (t : Nat) (req : Nat)
  /-- POWERED_HOURS_WRITE (R48): Every 6 minutes of powered time POWERED_HOURS is written to non-volatile memory. -/
  | poweredHoursWrite (t : Nat)
  /-- ANCHOR_GO (R49): Writing ANCHOR_GO enters an anchor into the queue, or discards it with ANCHOR_FULL when the queue is full. -/
  | anchorGo (t : Nat) (req : Nat)
  /-- ANCHOR_TAKE_EFFECT (R49): When device time reaches an anchor's AT, the anchor leaves the queue, an ANCHOR milestone is emitted and ev11 is raised. -/
  | anchorTakeEffect (t : Nat)
  /-- SYNC_EDGE (R52): A SYNC edge accepted 20 ns after it began is divided, stamped into the FIFO, graded and raises ev8. -/
  | syncEdge (t : Nat) (rising : Bool) (width : Nat)
  /-- SYNC_MISS (R53): No edge by SYNC_NOM + SYNC_TOL counts a missing edge, and two in a row make SYNC_QUAL lost. -/
  | syncMiss (t : Nat)
  /-- SYNC_FIFO_POP (R52): A read of SYNC_FIFO_LO pops the head entry into the latch, or zeroes the latch when the FIFO is empty. -/
  | syncFifoPop (t : Nat) (req : Nat)
  /-- IU_ARM (R54): Arming the interval unit sets IU_STATE to 1, or is refused with IU_BUSY_REJ while the unit is owned. -/
  | iuArm (t : Nat) (req : Nat)
  /-- IU_START_EDGE (R54): The first start edge after arming sets IU_STATE to 2. -/
  | iuStartEdge (t : Nat) (src : Nat) (rising : Bool) (bank : Fin 64)
  /-- IU_STOP_EDGE (R54): The first stop edge after the start ends the measurement with IU_RESULT, IU_VALID and ev19. -/
  | iuStopEdge (t : Nat) (src : Nat) (rising : Bool) (bank : Fin 64)
  /-- IU_SWSTOP (R54): Writing IU_SWSTOP provides a software stop edge. -/
  | iuSwstop (t : Nat) (req : Nat)
  /-- IU_TIMEOUT (R54): With no stop edge within IU_TIMEOUT of arming, the measurement ends invalid with IU_TIMEOUT_FLAG set. -/
  | iuTimeout (t : Nat)
  /-- IU_ABORT (R55): Writing IU_ABORT returns the interval unit to idle. -/
  | iuAbort (t : Nat) (req : Nat)
  /-- IU_RESULT_READ (R55): Reading IU_RESULT_HI returns the unit to idle and frees it. -/
  | iuResultRead (t : Nat) (req : Nat)
  /-- FU_START (R57): Writing FU_START opens an internal gate, which is ignored while a previous result is still being computed. -/
  | fuStart (t : Nat) (req : Nat)
  /-- FU_GATE_OPEN (R57): The GATE pin reaching its active level opens a gate of the frequency unit. -/
  | fuGateOpen (t : Nat) (level : Bool)
  /-- FU_GATE_END (R56): The end of a gate starts the regression over the stamped edges. -/
  | fuGateEnd (t : Nat) (level : Bool)
  /-- FU_RESULT (R56): The finished regression writes period, edges and residual, sets FU_DONE or FU_FEW and raises ev20. -/
  | fuResult (t : Nat)
  /-- CELL_DECISION (R61): At V0 the channel group gives the cell an op if a slot and its pages are free, and otherwise declines it. -/
  | cellDecision (t : Nat) (src : CellSource) (late : Bool)
  /-- PULSE_FIRE (R69): The firing scheduler fires a pulse of an op with its dither and sub-pulse code and opens its window. -/
  | pulseFire (t : Nat) (die slot : Nat)
  /-- ACCUMULATION_END (R67): When the window of the op's last fired pulse closes, the op enters SETTLING. -/
  | accumulationEnd (t : Nat) (die slot : Nat)
  /-- CORRELATOR_TAKE (R75): A free correlator engine takes the op at the head of the queue and filters its histogram. -/
  | correlatorTake (t : Nat) (die : Nat)
  /-- REDUCTION_END (R90): Filtering and echo extraction end and the op's echoes wait in the hand-off queue. -/
  | reductionEnd (t : Nat) (die slot : Nat)
  /-- HANDOFF (R86): The point processor accepts the hand-off, the op becomes COMPLETE and its slot is released. -/
  | handoff (t : Nat) (die : Nat)
  /-- LICHEN_OBSERVATION (R102): A queued observation is served and updates or initialises the cell's lichen entry. -/
  | lichenObservation (t : Nat)
  /-- OP_ABANDON (R68): An op past its age limit is abandoned and its slot and pages are released. -/
  | opAbandon (t : Nat) (die slot : Nat)
  /-- PAGE_CLEAR_DONE (R63): The group's clearing stream finishes clearing a page, which becomes free. -/
  | pageClearDone (t : Nat) (die group : Nat)
  /-- FRAME_CLOSED (R114): When every op of a frame is finished and its records have entered egress, FRAME_CLOSED is emitted with its counts. -/
  | frameClosed (t : Nat) (head : Fin 2) (frame : Nat)
  /-- LINE_START (R116): A line of a head starts; ev6 or ev7 and an optional LINE milestone follow, and facet phase and step lateness are checked. -/
  | lineStart (t : Nat) (at_ : HeadBounds)
  /-- LATCH_POINT (R131): At the latch point pending F fields, commits and formats are taken and ev2 or ev3 is raised. -/
  | latchPoint (t : Nat) (head : Fin 2)
  /-- FRAME_OPEN (R122): A head's frame opens, FRAME_COUNT increments, taken commits come into use and ev0 or ev1 is raised. -/
  | frameOpen (t : Nat) (head : Fin 2)
  /-- LINE_PREFETCH (R133): Each line's frond headers and bodies are fetched ahead and their generation tags are checked. -/
  | linePrefetch (t : Nat) (head : Fin 2) (line : Nat) (got : Fin 16)
  /-- VISIT_COMPOSE (R127): Scan-out composites a visit from the fronds and builds the descriptor and lens positions. -/
  | visitCompose (t : Nat) (head : Fin 2)
  /-- FROND_COMMIT (R131): Writing COMMIT captures the staged address and generation for the next latch point, or is refused with COMMIT_REJ. -/
  | frondCommit (t : Nat) (req : Nat) (head : Fin 2) (frond : Fin 4)
  /-- SCAN_START (R137): SCAN_EN = 1 on a stopped head creates a latch point and starts the format after a frame flyback, or sets FMT_REJ. -/
  | scanStart (t : Nat) (req : Nat) (head : Fin 2)
  /-- SCAN_STOP (R137): SCAN_EN = 0 stops composition, discards composed visits and leaves open ops with no further visit. -/
  | scanStop (t : Nat) (req : Nat) (head : Fin 2)
  /-- SQ_RUN (R142): Writing RUN = 1 clears pending events, the CQ and the watches and starts the sequencer at SQ_ENTRY. -/
  | sqRun (t : Nat) (req : Nat) (n : Fin 8)
  /-- SQ_STOP (R142): Writing RUN = 0 stops the sequencer at the next instruction boundary. -/
  | sqStop (t : Nat) (req : Nat) (n : Fin 8)
  /-- SQ_UNLOAD (R176): Writing UNLOAD in STATE 1, 4 or 5 clears the span and entry and makes the sequencer EMPTY. -/
  | sqUnload (t : Nat) (req : Nat) (n : Fin 8)
  /-- EV_SOFT (R151): Writing bit i of EV_SOFT raises software event ev(32 + i). -/
  | evSoft (t : Nat) (req : Nat) (mask : Nat)
  /-- IMAGE_LOAD (R176): A load request verifies a Salrad image and either refuses it or writes its sections and sets the claimed sequencers' spans. -/
  | imageLoad (t : Nat) (req : Nat) (image : List Byte) (start : Bool)
  /-- WATCHDOG_EXPIRY (R173): A sequencer that executes no KICK for WD_US faults with cause WATCHDOG. -/
  | watchdogExpiry (t : Nat) (n : Fin 8)
  /-- WAIT_WAKE (R152): A pending event in the mask ends a WAIT or WAIT1, reports the bits and clears them. -/
  | waitWake (t : Nat) (n : Fin 8)
  /-- WAIT_TIMEOUT (R152): A WAIT or WAIT1 timeout expires and writes 0 to its destination. -/
  | waitTimeout (t : Nat) (n : Fin 8)
  /-- SLEEP_END (R171): The device-time interval of a SLEEP ends and the sequencer resumes. -/
  | sleepEnd (t : Nat) (n : Fin 8)
  /-- FENCE_DONE (R158): The outstanding-probe condition of a FENCE is met and the sequencer resumes. -/
  | fenceDone (t : Nat) (n : Fin 8)
  /-- MFENCE_DONE (R144): Every earlier store of the sequencer becomes visible to every requester and the MFENCE finishes. -/
  | mfenceDone (t : Nat) (n : Fin 8)
  /-- NOP (R149): Does nothing. -/
  | nop (t : Nat) (n : Fin 8)
  /-- ADD (R149): Writes a + b to d. -/
  | add (t : Nat) (n : Fin 8)
  /-- ADDI (R149): Writes a + I to d. -/
  | addi (t : Nat) (n : Fin 8)
  /-- SUB (R149): Writes a − b to d. -/
  | sub (t : Nat) (n : Fin 8)
  /-- AND (R149): Writes a & b to d. -/
  | and (t : Nat) (n : Fin 8)
  /-- ANDI (R149): Writes a & I to d. -/
  | andi (t : Nat) (n : Fin 8)
  /-- OR (R149): Writes a | b to d. -/
  | or (t : Nat) (n : Fin 8)
  /-- ORI (R149): Writes a | I to d. -/
  | ori (t : Nat) (n : Fin 8)
  /-- XOR (R149): Writes a ^ b to d. -/
  | xor (t : Nat) (n : Fin 8)
  /-- XORI (R149): Writes a ^ I to d. -/
  | xori (t : Nat) (n : Fin 8)
  /-- SHL (R149): Writes a shifted left by b[4:0] to d. -/
  | shl (t : Nat) (n : Fin 8)
  /-- SHLI (R149): Writes a shifted left by I[4:0] to d. -/
  | shli (t : Nat) (n : Fin 8)
  /-- SHR (R149): Writes the logical right shift of a by b[4:0] to d. -/
  | shr (t : Nat) (n : Fin 8)
  /-- SHRI (R149): Writes the logical right shift of a by I[4:0] to d. -/
  | shri (t : Nat) (n : Fin 8)
  /-- SAR (R149): Writes the arithmetic right shift of a by b[4:0] to d. -/
  | sar (t : Nat) (n : Fin 8)
  /-- SARI (R149): Writes the arithmetic right shift of a by I[4:0] to d. -/
  | sari (t : Nat) (n : Fin 8)
  /-- MUL (R149): Writes the low 32 bits of a × b to d. -/
  | mul (t : Nat) (n : Fin 8)
  /-- MULHU (R149): Writes the high 32 bits of the unsigned product a × b to d. -/
  | mulhu (t : Nat) (n : Fin 8)
  /-- MULHS (R149): Writes the high 32 bits of the signed product a × b to d. -/
  | mulhs (t : Nat) (n : Fin 8)
  /-- DIVU (R149): Writes the unsigned quotient a ÷ b to d, or 0xFFFF_FFFF when b is 0. -/
  | divu (t : Nat) (n : Fin 8)
  /-- REMU (R149): Writes a mod b to d, or a when b is 0. -/
  | remu (t : Nat) (n : Fin 8)
  /-- MIN (R149): Writes the signed minimum of a and b to d. -/
  | min (t : Nat) (n : Fin 8)
  /-- MAX (R149): Writes the signed maximum of a and b to d. -/
  | max (t : Nat) (n : Fin 8)
  /-- MOVI (R149): Writes I to d. -/
  | movi (t : Nat) (n : Fin 8)
  /-- MULI (R149): Writes the low 32 bits of a × I to d. -/
  | muli (t : Nat) (n : Fin 8)
  /-- CMPEQ (R149): Sets the predicate to a = b. -/
  | cmpeq (t : Nat) (n : Fin 8)
  /-- CMPNE (R149): Sets the predicate to a ≠ b. -/
  | cmpne (t : Nat) (n : Fin 8)
  /-- CMPLT (R149): Sets the predicate to the signed comparison a < b. -/
  | cmplt (t : Nat) (n : Fin 8)
  /-- CMPLTU (R149): Sets the predicate to the unsigned comparison a < b. -/
  | cmpltu (t : Nat) (n : Fin 8)
  /-- CMPGE (R149): Sets the predicate to the signed comparison a ≥ b. -/
  | cmpge (t : Nat) (n : Fin 8)
  /-- CMPGEU (R149): Sets the predicate to the unsigned comparison a ≥ b. -/
  | cmpgeu (t : Nat) (n : Fin 8)
  /-- CMPEQI (R149): Sets the predicate to a = I. -/
  | cmpeqi (t : Nat) (n : Fin 8)
  /-- CMPLTI (R149): Sets the predicate to the signed comparison a < I. -/
  | cmplti (t : Nat) (n : Fin 8)
  /-- CMPLTUI (R149): Sets the predicate to the unsigned comparison a < I. -/
  | cmpltui (t : Nat) (n : Fin 8)
  /-- CMPGEI (R149): Sets the predicate to the signed comparison a ≥ I. -/
  | cmpgei (t : Nat) (n : Fin 8)
  /-- CMPGEUI (R149): Sets the predicate to the unsigned comparison a ≥ I. -/
  | cmpgeui (t : Nat) (n : Fin 8)
  /-- PAND (R149): Writes the AND of two predicates to a predicate. -/
  | pand (t : Nat) (n : Fin 8)
  /-- POR (R149): Writes the OR of two predicates to a predicate. -/
  | por (t : Nat) (n : Fin 8)
  /-- PNOT (R149): Writes the inverse of a predicate to a predicate. -/
  | pnot (t : Nat) (n : Fin 8)
  /-- TSTBIT (R149): Sets the predicate to bit I[4:0] of a. -/
  | tstbit (t : Nat) (n : Fin 8)
  /-- BR (R149): Branches to IMM[16:0]. -/
  | br (t : Nat) (n : Fin 8)
  /-- BRR (R149): Branches to a[16:0]. -/
  | brr (t : Nat) (n : Fin 8)
  /-- CALL (R149): Saves PC + 1 in g31 and branches to IMM[16:0]. -/
  | call (t : Nat) (n : Fin 8)
  /-- RET (R149): Branches to g31[16:0]. -/
  | ret (t : Nat) (n : Fin 8)
  /-- LOOP (R149): Decrements a and branches while the result is not 0. -/
  | loop (t : Nat) (n : Fin 8)
  /-- HALT (R149): Puts the sequencer in HALTED. -/
  | halt (t : Nat) (n : Fin 8)
  /-- KICK (R173): Restarts the watchdog interval. -/
  | kick (t : Nat) (n : Fin 8)
  /-- SLEEP (R149): Waits IMM[23:0] µs of device time. -/
  | sleep (t : Nat) (n : Fin 8)
  /-- TIME (R149): Writes the 64-bit device time of one instant to d and d + 1. -/
  | time (t : Nat) (n : Fin 8)
  /-- FSTAT (R169): Writes an item of the last closed frame of a head to d. -/
  | fstat (t : Nat) (n : Fin 8)
  /-- WAIT (R152): Waits for any pending event of a 64-bit mask, with an optional timeout. -/
  | wait (t : Nat) (n : Fin 8)
  /-- WAIT1 (R152): Waits for one event line, with an optional timeout. -/
  | wait1 (t : Nat) (n : Fin 8)
  /-- SIG (R149): Raises software event ev(32 + IMM[3:0]). -/
  | sig (t : Nat) (n : Fin 8)
  /-- EVCLR (R149): Clears the pending events in a 64-bit mask. -/
  | evclr (t : Nat) (n : Fin 8)
  /-- LD (R143): Loads from one of the address spaces, or faults. -/
  | ld (t : Nat) (n : Fin 8)
  /-- ST (R143): Stores to one of the address spaces, or faults. -/
  | st (t : Nat) (n : Fin 8)
  /-- MFENCE (R144): Waits until every earlier store of the sequencer is visible to every requester. -/
  | mfence (t : Nat) (n : Fin 8)
  /-- DBASE (R149): Sets DBASE from a[7:0], or faults ILLEGAL when the value lies outside 0x20 to 0x3F. -/
  | dbase (t : Nat) (n : Fin 8)
  /-- AMOADD (R145): Adds b to a data-memory word in one indivisible access and returns the old value. -/
  | amoadd (t : Nat) (n : Fin 8)
  /-- FFILL (R161): Fills a rectangle of a MODE 0 frond buffer with one profile. -/
  | ffill (t : Nat) (n : Fin 8)
  /-- FCOMMIT (R162): Stages and commits a frond buffer in one indivisible access and reports whether the commit was captured. -/
  | fcommit (t : Nat) (n : Fin 8)
  /-- FMT (R163): Writes FORMAT, SYNC_LOCK and optionally SCAN_EN of a head in one read-modify-write. -/
  | fmt (t : Nat) (n : Fin 8)
  /-- HLOCK (R163): Writes HEAD_LOCK and LINE_OFS in one access and reports rejection. -/
  | hlock (t : Nat) (n : Fin 8)
  /-- WATCH (R159): Sets or disables one of four watch windows. -/
  | watch (t : Nat) (n : Fin 8)
  /-- PROBE (R153): Issues a probe op with a tag, or writes 0xFFFF_FFFF when no tag is free. -/
  | probe (t : Nat) (n : Fin 8)
  /-- CQPOP (R157): Pops the oldest CQ entry into four registers. -/
  | cqpop (t : Nat) (n : Fin 8)
  /-- FENCE (R158): Waits on the count of outstanding probes or on one tag. -/
  | fence (t : Nat) (n : Fin 8)
  /-- ENERGY (R164): Requests an amplitude code for one bank or every bank of a head. -/
  | energy (t : Nat) (n : Fin 8)
  /-- HOP (R165): Writes a region's code, either given or the next allowed code, as a class-F write. -/
  | hop (t : Nat) (n : Fin 8)
  /-- LREAD (R166): Reads a whole lichen entry into eight registers indivisibly. -/
  | lread (t : Nat) (n : Fin 8)
  /-- LWRITE (R166): Writes a whole lichen entry indivisibly, setting T_CHANGE. -/
  | lwrite (t : Nat) (n : Fin 8)
  /-- LFLAG (R166): Sets and clears lichen flags indivisibly and returns the new word 2. -/
  | lflag (t : Nat) (n : Fin 8)
  /-- ANCHOR (R167): Enters an anchor into the queue as ANCHOR_GO does and reports whether it was discarded. -/
  | anchor (t : Nat) (n : Fin 8)
  /-- EMIT (R167): Emits an ANCHOR milestone at once, bypassing the queue. -/
  | emit (t : Nat) (n : Fin 8)
  /-- CARM (R168): Arms a capture setup and returns the arming status. -/
  | carm (t : Nat) (n : Fin 8)
  /-- MSET (R168): Writes a loop's set-point. -/
  | mset (t : Nat) (n : Fin 8)
  /-- MPROF (R234): Starts a profile move on a loop, or is refused. -/
  | mprof (t : Nat) (n : Fin 8)
  /-- DRIVE_ENABLE (R186): Setting DRV_EN starts the bring-up exchanges of a head's banks, or defers them to the OWN claim. -/
  | driveEnable (t : Nat) (req : Nat) (head : Fin 2)
  /-- EXCHANGE_START (R187): At φ the active part ends and an exchange of every bank of the head begins, unless one is still in progress. -/
  | exchangeStart (t : Nat) (head : Fin 2)
  /-- EXCHANGE_COMMAND (R195): At φ + 1 µs the drive fixes each bank's amplitude from request, envelope and guard cap and sends the command frame. -/
  | exchangeCommand (t : Nat) (head : Fin 2)
  /-- EXCHANGE_MARK (R192): The Nafel sends the mark edge, may start the interval unit for the cable rotation, and releases the pair. -/
  | exchangeMark (t : Nat) (head : Fin 2)
  /-- ECHO_EDGE (R193): The driver's echo edge arrives and is accepted or rejected against the mark window. -/
  | echoEdge (t : Nat) (head : Fin 2) (bank : Fin 32)
  /-- REPLY_FRAME (R191): A reply frame is received whole and its SOF, SEQ, CRC and STAT are checked. -/
  | replyFrame (t : Nat) (head : Fin 2) (bank : Fin 32) (frame : BitVec 80)
  /-- REPLY_DEADLINE (R194): At the reply deadline a failed attempt is retried once, or the bank fails with NO_REPLY. -/
  | replyDeadline (t : Nat) (head : Fin 2)
  /-- EXCHANGE_WINDOW_END (R186): An exchange window ends, starting the next bring-up exchange or setting DRV_READY. -/
  | exchangeWindowEnd (t : Nat) (head : Fin 2)
  /-- SOFT_STOP (R196): Writing SOFT_STOP starts a breathing-down ramp. -/
  | softStop (t : Nat) (req : Nat) (head : Fin 2)
  /-- STANDBY_CABLE_LISTEN (R288): A standby derives its own cable delay from an exchange it hears. -/
  | standbyCableListen (t : Nat) (head : Fin 2) (bank : Fin 32) (mark ca : Nat) (cap : BitVec 32)
  /-- GIN_CHANGE (R207): A guard input level lasting 200 ns gives a run, demand or disagreement reading and may move the guard to HOLD. -/
  | ginChange (t : Nat) (n : Fin 4) (a b : Bool)
  /-- GIN_DISCREPANCY_TIMEOUT (R207): A disagreement still present at T_disc + 1 µs latches DISCREPANCY. -/
  | ginDiscrepancyTimeout (t : Nat) (n : Fin 4)
  /-- GIN_AGREEMENT_END (R207): An agreement lasting 1 ms ends a disagreement, records GIN_DISC_LAST and may end the HOLD. -/
  | ginAgreementEnd (t : Nat) (n : Fin 4)
  /-- GUARD_RESTART (R208): A restart request is accepted into PERMIT by both channels or refused with RESTART_REJ. -/
  | guardRestart (t : Nat) (req : Nat)
  /-- GUARD_RESET (R219): A guard reset in FAULT clears the latched causes and the sums and enters WAIT_RESTART, or is refused with GRST_REJ. -/
  | guardReset (t : Nat) (req : Nat)
  /-- MOTION_WINDOW_END (R210): At the end of each 100 µs window the motion proof of each head is re-evaluated. -/
  | motionWindowEnd (t : Nat) (head : Fin 2) (lim proc : Bool)
  /-- GUARD_HEARTBEAT (R217): The limiter and the guard processor exchange a heartbeat every 50 µs, and four missed beats latch GUARD_CPU. -/
  | guardHeartbeat (t : Nat) (limBeat procAnswer : Bool)
  /-- FIRED_PULSE_REPORT (R217): A fired-pulse report reaches the guard processor, which updates its own sums and may latch CROSS_CHECK. -/
  | firedPulseReport (t : Nat) (head : Fin 2) (bank : Fin 32) (fired : Nat)
  /-- CHANNEL_DISAGREE_TIMEOUT (R217): The two channels disagreeing on permission for 1 ms latch CHANNEL_DISAGREE. -/
  | channelDisagreeTimeout (t : Nat)
  /-- EMEN_READBACK_FAULT (R204): An EMEN output read back different from its command for 10 µs latches EMEN_READBACK. -/
  | emenReadbackFault (t : Nat) (isH : Bool)
  /-- TWIN_GUARD_STATE (R221): The twin's guard state arrives and may latch CHANNEL_DISAGREE with DETAIL 1. -/
  | twinGuardState (t : Nat) (fault nrstStuck : Bool) (levels : List (Bool × Bool))
  /-- LOOP_SAMPLE (R232): At its sample instant a loop reads feedback, takes pending mode changes and computes its command. -/
  | loopSample (t : Nat) (n : Fin 8)
  /-- COMMAND_APPLY (R225): At t + 10 µs the computed command is applied to the PWM pair, or the previous command is held and LATE_COUNT increments. -/
  | commandApply (t : Nat) (n : Fin 8) (late : Bool)
  /-- ENC_EDGE (R227): A quadrature edge is stamped and counted, or counted as a quadrature error. -/
  | encEdge (t : Nat) (m : Fin 4) (a b : Bool)
  /-- ENC_INDEX (R227): An index edge latches ENC_IDX_POS and is checked against CPR. -/
  | encIndex (t : Nat) (m : Fin 4) (rise : Bool)
  /-- SETPOINT_WRITE (R234): A set-point write starts a move under profile 0, or is refused with SP_REJ. -/
  | setpointWrite (t : Nat) (req : Nat) (n : Fin 8) (val : BitVec 32)
  /-- RC_CLEAR (R237): Writing RC_CLEAR sets every entry of the repetitive table to 0. -/
  | rcClear (t : Nat) (req : Nat) (n : Fin 8)
  /-- PARK_REQUEST (R243): Each running loop starts a move to its park target, and further mode writes are refused. -/
  | parkRequest (t : Nat)
  /-- PARK_END (R353): The park finishes or PARK_MAX elapses and the stop proceeds. -/
  | parkEnd (t : Nat)
  /-- TR_START (R245): Starting the trace unit clears its flags and write pointer. -/
  | trStart (t : Nat) (req : Nat)
  /-- TR_STOP (R245): TR_STOP stops the trace unit, and counts as the trigger in mode 0. -/
  | trStop (t : Nat) (req : Nat)
  /-- LANE_ENABLE (R257): LANE_EN = 1 starts training with IDLE blocks. -/
  | laneEnable (t : Nat) (req : Nat) (lane : Fin 16) (on : Bool)
  /-- BLOCK_RECEIVE (R252): A received block's sync header is checked and block lock is gained or lost. -/
  | blockReceive (t : Nat) (lane : Fin 16) (bits : List Bool)
  /-- CAP_SEND (R257): In capability state a CAP block is sent every 1 µs. -/
  | capSend (t : Nat) (lane : Fin 16)
  /-- CAP_RECEIVE (R257): A received CAP is validated, sets CAP_ACK or brings the lane up, or sets CAP_MISMATCH. -/
  | capReceive (t : Nat) (lane : Fin 16) (cap : Nat)
  /-- CAP_TIMEOUT (R257): Failure to reach block lock in 1 ms or LSTATE 3 in 10 ms restarts training. -/
  | capTimeout (t : Nat) (lane : Fin 16)
  /-- ACK_RECEIVE (R263): An ACK or NAK entry retires unacknowledged parcels or triggers their replay. -/
  | ackReceive (t : Nat) (lane : Fin 16) (entries : List AckEntry)
  /-- CREDIT_RECEIVE (R267): A CREDIT entry advances a stream's CREDIT_LIMIT unless it would move it backwards. -/
  | creditReceive (t : Nat) (lane : Fin 16) (entries : List (Nat × Nat))
  /-- SLEEP_RECEIVE (R272): A received SLEEP block puts the receiver into light or deep sleep. -/
  | sleepReceive (t : Nat) (lane : Fin 16) (deep : Bool)
  /-- CONTROL_BLOCK_UNKNOWN (R253): A control block of a reserved type is ignored and counted. -/
  | controlBlockUnknown (t : Nat) (lane : Fin 16) (ctype : Nat)
  /-- PARCEL_RECEIVE (R262): A received parcel is accepted by LSEQ and CRC, or discarded with a NAK. -/
  | parcelReceive (t : Nat) (lane : Fin 16) (header : Nat) (blocks : List Nat)
  /-- ACK_SEND (R262): ACK entries are sent at least every 1 µs while parcels are unacknowledged. -/
  | ackSend (t : Nat) (lane : Fin 16)
  /-- TRANSMIT_SLOT (R254): At each block slot the lane sends the next parcel block, a due control block or an idle block. -/
  | transmitSlot (t : Nat) (lane : Fin 16)
  /-- ACK_TIMEOUT (R263): No ACK progress for ACK_TIMEOUT replays the unacknowledged parcels, and RETRY_MAX such replays fail the lane. -/
  | ackTimeout (t : Nat) (lane : Fin 16)
  /-- LANE_RESTART (R264): 1 ms after failure the lane restarts bring-up. -/
  | laneRestart (t : Nat) (lane : Fin 16)
  /-- PARCEL_TIMEOUT (R261): A parcel open for PARCEL_TIMEOUT µs is closed. -/
  | parcelTimeout (t : Nat) (stream : Fin 8)
  /-- LAYBY_DRAIN (R268): The oldest lay-by parcel moves to the egress buffer as room allows. -/
  | laybyDrain (t : Nat) (stream : Fin 8)
  /-- GAP_SPLIT_EXPIRY (R269): A loss episode lasting GAP_SPLIT ms ends and its GAP milestone is emitted. -/
  | gapSplitExpiry (t : Nat) (stream : Fin 8)
  /-- CTRL_READ (R271): A CTRL read request is executed under the port's role and answered in order. -/
  | ctrlRead (t : Nat) (port : Fin 2)
  /-- CTRL_WRITE (R271): A CTRL write request is executed under the port's role and answered in order. -/
  | ctrlWrite (t : Nat) (port : Fin 2)
  /-- CTRL_UNKNOWN_OP (R376): A CTRL request with any other OP is answered with STATUS 2. -/
  | ctrlUnknownOp (t : Nat) (port : Fin 2)
  /-- TX_SLEEP_ENTER (R272): An idle, fully acknowledged transmitter sends SLEEP and enters light or deep sleep. -/
  | txSleepEnter (t : Nat) (lane : Fin 16)
  /-- TX_WAKE (R273): A sleeping transmitter wakes when more than WAKE_BYTES are ready and sends IDLE. -/
  | txWake (t : Nat) (lane : Fin 16)
  /-- WAKE_RESUME (R273): A waking transmitter resumes parcels on an ACK for its lane or after 100 µs. -/
  | wakeResume (t : Nat) (lane : Fin 16)
  /-- PRBS_BITS_CAPTURE (R274): A read of PRBS_BITS_LO captures the upper half of the checked-bit count. -/
  | prbsBitsCapture (t : Nat) (req : Nat) (lane : Fin 16)
  /-- CHK_CLEAR (R274): Writing CHK_CLEAR zeroes the PRBS counts. -/
  | chkClear (t : Nat) (req : Nat) (lane : Fin 16)
  /-- INJ_BIT (R275): Inverts the next line bit. -/
  | injBit (t : Nat) (req : Nat) (lane : Fin 16)
  /-- INJ_BURST (R275): Inverts the next BURST_LEN line bits. -/
  | injBurst (t : Nat) (req : Nat) (lane : Fin 16)
  /-- INJ_CRC (R275): Corrupts the next parcel sent to force one CRC failure and one replay. -/
  | injCrc (t : Nat) (req : Nat) (lane : Fin 16)
  /-- BEAT_SEND (R284): Every 2 µs a healthy unit sends a beat on path A and path B. -/
  | beatSend (t : Nat)
  /-- HEALTH_CHECK (R284): Every 0.5 µs the health monitor decides whether beats may be sent. -/
  | healthCheck (t : Nat) (supplies cores firing : Bool)
  /-- BEAT_RECEIVE (R283): A path A BEAT block is received with the partner's state and device time. -/
  | beatReceive (t : Nat) (lane : Fin 4) (info : BitVec 8) (time : Nat)
  /-- HB_IN_PULSE (R284): A path B pulse arrives on HB_IN and is stamped for TW_TOFS. -/
  | hbInPulse (t : Nat)
  /-- PATH_LOST (R284): No beat for 8 µs loses a path, setting DEGRADED, or marks the partner failed when both are lost. -/
  | pathLost (t : Nat) (path : Fin 2)
  /-- OWN_KEEPER_LAPSE (R280): With no path B beat sent for 4 µs the keeper lapses and OWN, fire and PWM pairs are released. -/
  | ownKeeperLapse (t : Nat)
  /-- OWN_CLAIM (R281): An eligible unit claims OWN after it has read released for the required time, or enters REFUSED. -/
  | ownClaim (t : Nat) (other : Bool)
  /-- OWN_RELEASE (R290): Writing RELEASE releases OWN and emits RELEASED. -/
  | ownRelease (t : Nat) (req : Nat)
  /-- IDENTITY_RECEIVE (R278): The partner's identity arrives and the pairing tests are run, pairing or refusing. -/
  | identityReceive (t : Nat) (id : Identity)
  /-- TOFS_UPDATE (R285): Each 1 ms the partner time offset is recomputed. -/
  | tofsUpdate (t : Nat) (stamps : BeatStamps)
  /-- SHADOW_SCHEDULE (R287): A decision, not-fired or egress notice from the active is applied to the standby's shadow ops. -/
  | shadowSchedule (t : Nat) (notice : ShadowNotice)
  /-- MIRRORED_WRITE (R286): A forwarded write is applied by the standby in order. -/
  | mirroredWrite (t : Nat) (addr size val : Nat)
  /-- ALIGN_START (R295): The active starts an alignment copy for a paired partner that needs one. -/
  | alignStart (t : Nat)
  /-- EPOCH_RECEIVE (R295): A complete alignment epoch is checked and applied, setting CFG_MATCH at epoch 0. -/
  | epochReceive (t : Nat) (epoch len crc : Nat) (content : List Byte)
  /-- DQS_TRACK (R304): Every 100 ms each channel's drift is read and a write delay may move one step. -/
  | dqsTrack (t : Nat) (byteLane : Nat) (drift : Int)
  /-- DRAM_ACCESS (R307): A requester's DRAM access is scheduled and performed, with link-ECC checking. -/
  | dramAccess (t : Nat) (req : Nat) (addr size : Nat) (write : Bool) (val : Nat) (linkErr : Fin 3)
  /-- TOLL_HOLD_END (R308): After TOLL_NS the held requester's activations of that bank resume. -/
  | tollHoldEnd (t : Nat) (req : Nat) (bank : Nat)
  /-- SELF_REFRESH_ENTER (R309): An idle port with enough latency tolerance enters self-refresh. -/
  | selfRefreshEnter (t : Nat) (port : Fin 4)
  /-- SELF_REFRESH_EXIT (R309): A port leaves self-refresh before the tolerance ends or on an access. -/
  | selfRefreshExit (t : Nat) (port : Fin 4)
  /-- REPLAY_INDEX_WRITE (R313): Every 1 ms of device time a replay index entry is written. -/
  | replayIndexWrite (t : Nat)
  /-- REPLAY_START (R314): REQ_GO starts a replay read-out, or is refused with REQ_BUSY_REJ. -/
  | replayStart (t : Nat) (req : Nat)
  /-- REPLAY_ABORT (R314): REQ_ABORT ends the replay after the record being sent. -/
  | replayAbort (t : Nat) (req : Nat)
  /-- REPLAY_SEND (R315): The replay reader sends stored parcels as credit allows and ends with an end record. -/
  | replaySend (t : Nat)
  /-- CAPTURE_ARM (R321): CAP_ARM arms a capture setup, discarding the previous capture, or is refused with ARM_REJ. -/
  | captureArm (t : Nat) (req : Nat) (setup : Fin 16)
  /-- CAPTURE_STORE (R320): A sample is stored from its slot FIFO, with GAP and TIME records and trigger-condition tests. -/
  | captureStore (t : Nat) (slot : Fin 16)
  /-- CAPTURE_TIMEOUT_EXPIRY (R322): A timeout condition expires and a MARK record is stored. -/
  | captureTimeoutExpiry (t : Nat) (cond : Fin 4)
  /-- CAPTURE_AVG_INTERVAL_END (R326): An averaging interval ends and one summed VALUE record is stored. -/
  | captureAvgIntervalEnd (t : Nat) (slot : Fin 16)
  /-- CAPTURE_TRIGGER_REPORT (R324): A ranging die's trigger report reaches the hub. -/
  | captureTriggerReport (t : Nat)
  /-- CAP_FORCE (R324): Writing CAP_FORCE with FORCE_EN set triggers the capture by software. -/
  | capForce (t : Nat) (req : Nat)
  /-- XTRIG_RECEIVE (R324): A received XTRIG makes the next stored record the trigger record. -/
  | xtrigReceive (t : Nat) (setup mask cause time : Nat)
  /-- CAP_STOP (R327): CAP_STOP ends the capture and writes the header. -/
  | capStop (t : Nat) (req : Nat)
  /-- READOUT (R329): READOUT sends the capture on stream HIST, or is refused with ARM_REJ. -/
  | readout (t : Nat) (req : Nat)
  /-- LOOP_CONVERSION (R332): A reserved ADC conversion starts 1.2 µs before a loop's sample instant. -/
  | loopConversion (t : Nat) (n : Fin 8) (code : Fin 4096)
  /-- SUPPLY_CONVERSION (R332): A supply-round conversion converts one supply input. -/
  | supplyConversion (t : Nat) (k : Fin 8) (code : Fin 4096)
  /-- SEQ_ENTRY_RUN (R333): A sequence-table entry's conversions or port read place results in the queue. -/
  | seqEntryRun (t : Nat) (codes : List Nat)
  /-- SEQ_START (R333): Setting SEQ_EN starts the table at entry 0. -/
  | seqStart (t : Nat) (req : Nat)
  /-- RQ_POP (R334): A read of RQ_POP_LO pops the head entry and latches its word 1. -/
  | rqPop (t : Nat) (req : Nat)
  /-- SP_SAMPLE (R338): A sensor port excites, integrates and forms a raw sample, filters it and may produce a linearised output. -/
  | spSample (t : Nat) (n : Fin 8) (vs vf : List Int) (comply : Bool)
  /-- PORT_ENABLE (R340): Setting PORT_EN starts the port and resets its filter. -/
  | portEnable (t : Nat) (req : Nat) (n : Fin 8)
  /-- CURVE_EXPAND (R341): Writing CURVE starts a fit of a standard curve, or is refused with CFG_REJ. -/
  | curveExpand (t : Nat) (req : Nat) (n : Fin 8) (curve : Fin 8)
  /-- CURVE_EXPAND_DONE (R341): The expansion finishes, replaces the coefficients and sets CURVE_DONE and FIT_ERR. -/
  | curveExpandDone (t : Nat) (n : Fin 8)
  /-- SENSOR_CONVERSION (R346): Every 100 µs each temperature sensor is read and T_part and RISE are updated. -/
  | sensorConversion (t : Nat) (readings : List (Nat × Nat × Int))
  /-- THERMAL_LEVEL_CHANGE (R349): A level condition held for 10 ms changes the thermal level and its action. -/
  | thermalLevelChange (t : Nat)
  /-- ORDERLY_STOP_RECORDS (R353): The calibration records and POWERED_HOURS are written and the part enters shutdown. -/
  | orderlyStopRecords (t : Nat)
  /-- THERMAL_RESTART (R351): Every valid sensor below 100 °C for 2 s restarts the LNF2-E or LNF4-E after a threshold shutdown. -/
  | thermalRestart (t : Nat)
  /-- REF_OP_ISSUE (R356): At φ + 60 µs the hub issues a reference op and later moves REF_OFS toward its residual. -/
  | refOpIssue (t : Nat) (head : Fin 2)
  /-- CAL_GROUP (R358): A channel group is calibrated for 20 µs, and the run ends when every group is done. -/
  | calGroup (t : Nat) (die group : Nat) (results : List (Nat × Nat × Int))
  /-- CAL_NOW (R359): Writing CAL_NOW makes a comparator run due on every fitted die. -/
  | calNow (t : Nat) (req : Nat)
  /-- CAL_URGENT (R361): A run late by CAL_URGENT takes the next line of its groups, declining their cells and emitting CAL. -/
  | calUrgent (t : Nat) (die : Nat)
  /-- NV_RECORD_WRITE (R364): A calibration or setting record is written to the slot that does not hold the newer copy. -/
  | nvRecordWrite (t : Nat) (rec : NvRecord)
  /-- ATT_GO (R372): ATT_GO starts building a signed quote, or is refused with ATT_REJ while busy. -/
  | attGo (t : Nat) (req : Nat)
  /-- ATT_DONE (R372): The quote is complete and ATT_BUSY clears. -/
  | attDone (t : Nat)
  /-- AUTH_GO (R374): AUTH_GO verifies the challenge signature and opens a session in that role, or sets AUTH_FAIL. -/
  | authGo (t : Nat) (req : Nat)
  /-- SESS_END (R374): Writing SESS_END returns the session to Open. -/
  | sessEnd (t : Nat) (req : Nat)
  /-- LEDG_GO (R379): LEDG_GO judges a change request and accepts or refuses it with LEDG_RESULT. -/
  | ledgGo (t : Nat) (req : Nat)
  /-- LEDGER_CHANGE_DONE (R380): An accepted change burns its fuse, writes its value and appends its ledger entry. -/
  | ledgerChangeDone (t : Nat)
  /-- POWER_ON_RESET (R383): Power-on reset is released once every watched supply has stayed above its rising threshold for 2 ms. -/
  | powerOnReset (release : PorRelease)
  /-- UNDERVOLTAGE_TRIP (R383): A watched supply below its falling threshold for 5 µs takes the part into power-on reset. -/
  | undervoltageTrip (t : Nat) (supply : Fin 4)
  /-- PIN_RESET (R388): A low on nRST lasting 0.9 µs takes a pin reset. -/
  | pinReset (t : Nat)
  /-- NRST_RELEASE (R388): The rising edge of nRST releases the part from reset. -/
  | nrstRelease (t : Nat)
  /-- NRST_STUCK (R389): nRST low for more than 10 s releases the part with NRST_STUCK and the guard hold cause. -/
  | nrstStuck (t : Nat)
  /-- NRST_STUCK_END (R390): nRST high for 100 ms ends the stuck condition and re-arms the pin. -/
  | nrstStuckEnd (t : Nat)
  /-- STARTUP_STAGE (R391): A start-up stage completes and the next begins, up to READY. -/
  | startupStage (t : Nat) (work : StageWork)
  /-- ERROR_AUTO_ACK (R396): An entry of an AUTO class is acknowledged AUTO_ACK_MS after it entered. -/
  | errorAutoAck (t : Nat)
  /-- FATAL_TIMEOUT (R397): A fatal entry still open after FATAL_MS takes the part to its safe state. -/
  | fatalTimeout (t : Nat)
  /-- ERR_POP (R396): Writing ERR_POP acknowledges and removes the head entry of the error queue. -/
  | errPop (t : Nat) (req : Nat)
  /-- RECOVER (R400): Writing RECOVER from MSPI or CTRL takes a recovery reset. -/
  | recover (t : Nat) (req : Nat)
  /-- TRIM_STEP_NO_FORMAT (R360): Every 100 µs while a head runs no format, interpolator boundaries and comparator trims of that head's channels move one step toward their targets. -/
  | trimStepNoFormat (t : Nat) (at_ : HeadBounds)
  /-- FU_INPUT_EDGE (R56): A rising edge of the frequency unit's selected input during an open gate is stamped and added to the regression. -/
  | fuInputEdge (t : Nat) (src aux : Nat)
  /-- RX_SIGNAL_DETECT (R273): A sleeping lane receiver sees its partner's signal return and begins its wake to block lock. -/
  | rxSignalDetect (t : Nat) (lane : Fin 16)
  /-- RX_WAKE_LOCK_TIMEOUT (R273): A receiver that has not reached block lock within 1 ms of signal restarts bring-up. -/
  | rxWakeLockTimeout (t : Nat) (lane : Fin 16)
  /-- PRBS_BIT_CHECK (R274): In PRBS mode each received bit is checked, updating PRBS_ERR_COUNT and PRBS_BITS and gaining or losing PRBS_LOCK. -/
  | prbsBitCheck (t : Nat) (lane : Fin 16) (bit : Bool)
  /-- OWN_LINE_CHANGE (R281): The OWN line changes level, starting or cancelling the unit's released-for-2 µs timing and showing it whether the partner holds OWN. -/
  | ownLineChange (t : Nat) (high : Bool)
  /-- NV_PROGRAM_DONE (R364): A page program or erase of a non-volatile record slot completes, leaving the slot valid. -/
  | nvProgramDone (t : Nat)
  /-- CAL_GROUP_START (R358): At φ + 20 µs of a line flyback, up to two due groups of a die are switched to calibration, or are skipped with CAL_SKIP when a window is still open. -/
  | calGroupStart (t : Nat) (die : Nat)
  /-- NRST_FALL (R388): nRST falls, starting the 0.9 µs reset timing, or restarting the 100 ms count of a stuck condition. -/
  | nrstFall (t : Nat)
  deriving DecidableEq, Repr

end Sys2Proof
end

