-- ==== Sys2Proof/Decode.lean ====
section
/-! DEFINITION. The block takes commands and has no instruction words: no row of spec/opcode_table.json gives bits, so
no word spells a command. -/

namespace Sys2Proof

/-- The command that a word spells by the table's bits: none, for the table gives no row bits. -/
def decodeTableWord (_nbits _w : Nat) : Option Instr := none

end Sys2Proof
end

