-- ==== Sys2Proof/Config.lean ====
section
/-! DEFINITION. What the spec leaves open: constants with no body, so that no proof can see their values. -/

namespace Sys2Proof.Config

/-- The n-th free word drawn: random values (16_security_ledger.md R374, R372) and other values the spec leaves open.
The argument is the counter `fresh` of the state. -/
opaque freeWord : Nat → BitVec 32

/-- Production reference count of a pace ring at pace 1.0 (01_architecture.md), by 4 × die + ring. -/
opaque ringRef : Nat → Nat

/-- Where the value of a sensor port's polynomial, rounded to an integer, comes to lie among the values that rounding in
single precision admits (14_housekeeping.md R341): the 18 coefficient words, the filter output, and the cold-junction
temperature as numerator and denominator in °C. -/
opaque linearise : List Nat → Int → Int → Nat → Int

/-- What the range of a sensor port's converter has above 2 µV, in µV, by GAIN. -/
opaque portSpan : Nat → Nat

/-- The range of a sensor port's converter in µV, by GAIN (14_housekeeping.md R342 names it and gives no figure): free, but
for 2 µV, so that a pulse without a wire break exists (log 117). -/
def portRange (gain : Nat) : Nat := portSpan gain + 2

/-- A curve expansion (14_housekeeping.md R341): word i of the coefficients for i below 18, the fit error in m°C for 18;
the curve, KIND, GAIN, REF_CENTI, SPAN_LO, SPAN_HI and the three NTC words. -/
opaque curveFit : List Nat → Nat → Nat

/-- FR_PATH of a bank, the factory constant of its internal path in fine LSB (07_emitter_drive.md R199), by 32 × head +
bank. -/
opaque frPath : Nat → Nat

/-- The silicon revision of a die, the hub being die 0 (01_architecture.md R27 DIE_ID; 16_security_ledger.md R371). -/
opaque siliconRev : Nat → BitVec 8

/-- DEV_SERIAL, fused (16_security_ledger.md R371). -/
opaque devSerial : BitVec 64

/-- The die-unique secret, which no requester can read (R371). -/
opaque dieSecret : BitVec 256

/-- The fused Factory key, 32 bytes as a little-endian number (R377). -/
opaque fusedKey : BitVec 256

/-- The Factory's signature of the certificate (R371). -/
opaque certSign : BitVec 512

/-- The measurement of the Factory guard table (R369, R370). -/
opaque factoryTable : BitVec 512

/-- SHA-512 of the Factory guard table's 12,480 bytes, the VALUE_HASH of a ledger entry that finds it in force (R380, R381). -/
opaque factoryHash : BitVec 512

/-- Word k of AUTH_CHAL of path p before its first draw, by 8 × p + k (R374). -/
opaque firstChallenge : Nat → BitVec 32

end Sys2Proof.Config
end

