-- ==== Sys2Proof/Machine/Crc.lean ====
section
/-! DEFINITION. The check codes of the part: CRC-32C of parcels (10_trunk.md R260), CRC-8 of exchange frames
(07_emitter_drive.md R189), and a number's bytes. -/

namespace Sys2Proof.Machine

/-- The low n bytes of a number, lowest first. -/
def bytesOf (n v : Nat) : List Nat :=
  match n with
  | 0 => []
  | n + 1 => v % 256 :: bytesOf n (v / 256)

/-- One bit of the reflected CRC-32C register. -/
def crcBit (c : Nat) : Nat := if c % 2 = 1 then (c / 2) ^^^ 0x82F63B78 else c / 2

/-- One byte into the CRC-32C register. -/
def crcByte (c b : Nat) : Nat :=
  crcBit (crcBit (crcBit (crcBit (crcBit (crcBit (crcBit (crcBit (c ^^^ b))))))))

/-- CRC-32C of a list of bytes: initial value and final XOR 0xFFFF_FFFF (R260). -/
def crc32c (l : List Nat) : Nat := (l.foldl crcByte 0xFFFFFFFF) ^^^ 0xFFFFFFFF

/-- One bit of the CRC-8 register, polynomial x^8 + x^2 + x + 1 (07_emitter_drive.md R189). -/
def crc8Bit (c : Nat) : Nat := if 128 ≤ c then (c * 2 % 256) ^^^ 0x07 else c * 2

/-- One byte into the CRC-8 register, most significant bit first. -/
def crc8Byte (c b : Nat) : Nat :=
  crc8Bit (crc8Bit (crc8Bit (crc8Bit (crc8Bit (crc8Bit (crc8Bit (crc8Bit (c ^^^ b))))))))

/-- CRC-8 of a list of bytes: initial value 0 and no final XOR (R189). -/
def crc8 (l : List Nat) : Nat := l.foldl crc8Byte 0

end Sys2Proof.Machine
end

