-- ==== Sys2Proof/Machine/RegMap.lean ====
section
/-! DEFINITION. The register map: what each register address holds, field by field, with the classes and the
reserved encodings of the tables of spec/ (R9 to R13), and the reset values the tables give. -/

namespace Sys2Proof.Machine

/-- The class of a field (R10 to R13): S, L, F, RO, W1C, or a field that only requests an action (R12). -/
inductive FieldClass where
  | static | live | latched | readOnly | w1c | action
  deriving DecidableEq, Repr

/-- A field in the map: lowest bit, width, class, and the ranges of its reserved encodings (R9). -/
structure FieldDef where
  lo : Nat
  w : Nat
  cls : FieldClass
  resv : List (Nat × Nat) := []
  deriving DecidableEq, Repr

/-- One name per register table entry of spec/. -/
inductive RegId where
  | DIE_ID | PACE_STATUS | PACE_CFG | FAB_STATUS | PART_PACE | FAB_UNMAPPED_ADDR_LO
  | FAB_UNMAPPED_ADDR_HI | FAB_UNMAPPED_COUNT | CH_CFG | CH_THR | CH_OFS | CH_DEAD
  | CH_STATUS | CH_EVT_COUNT | CH_DROP_COUNT | CH_RUNT_COUNT | CH_WALK | TB_STATUS
  | DEVTIME_LO | DEVTIME_HI | POWERED_HOURS | ANCHOR_LABEL_LO | ANCHOR_LABEL_HI | ANCHOR_AT_LO
  | ANCHOR_AT_HI | ANCHOR_CTL | SYNC_CFG | SYNC_NOM | SYNC_TOL | SYNC_STATUS
  | SYNC_FIFO_LO | SYNC_FIFO_HI | SYNC_FIFO_X | SYNC_PERIOD | IU_CTL | IU_TIMEOUT
  | IU_STATUS | IU_RESULT_LO | IU_RESULT_HI | FU_CTL | FU_GATE_LEN | FU_STATUS
  | FU_EDGES | FU_PERIOD_INT | FU_PERIOD_FRAC | FU_RESID | FU_MAINS | OPS_CFG
  | OPS_STATUS | OPS_ISSUED | OPS_COMPLETED | OPS_ABANDONED | OPS_UNBINNED | OPS_SUPPRESSED
  | DECL_COUNT | GRP_STATUS | SLOT_VIEW_W0 | SLOT_VIEW_W1 | SLOT_VIEW_W2 | SLOT_VIEW_W3
  | TAP_W | TAP_CTL | CODE_PLAN | VENUE_SEED | HOP_CFG | HOP_STATUS
  | PROBE_AGE | REGION_CODE | REGION_CODE_NOW | PP_HEAD_CFG | CLASS_CFG | LICHEN_CFG
  | EXT_GAIN | PP_STATUS | PP_RECORDS | PP_SUPPRESSED | LICHEN_DROP_COUNT | EXCERPT_CFG
  | CH_RANGE_W0 | CH_RANGE_W1 | EXT_CFG | EXTRA_ECHO_COUNT | LENS_HIT_COUNT | LENS_MISS_COUNT
  | DEAD_EST | SO_CFG | LINE_OFS | SO_STATUS | HEAD_GROUPS_A | HEAD_GROUPS_B
  | HEAD_CTL | HEAD_STATUS | FRAME_COUNT | SYNC_OFS | FB_SLEW | PHASE_ERR
  | LTR_NOW | PF_LATE_LINES | FROND_ADDR_LO | FROND_ADDR_HI | FROND_GEN_EXP | FROND_COMMIT
  | COMMIT_FRAME | SYNC_OFS_NOW | P_W1 | P_W2 | P_X | P_RESERVED
  | SQ_CTL | SQ_ENTRY | SQ_SPAN_LO | SQ_SPAN_HI | SQ_STATUS | SQ_PC
  | SQ_CQ | SQ_WATCH_DROP | SQ_EV_PEND_LO | SQ_EV_PEND_HI | SQ_EV_MERGED | SQ_INSTR
  | SQ_DBASE | SQ_GREG | SQ_PRED | EV_SOFT | POLICY_CTL | SQ_FAULT_COUNT
  | DRV_CTL | DRV_SOFT | DRV_IDLE | DRV_STATUS | DRV_XCHG_COUNT | DRV_RETRY_COUNT
  | DRV_CABLE_CFG | DRV_FAIL | DRV_FAIL_MON | FAIL_MAP_A | FAIL_MAP_B | DRV_CABLE_NEXT
  | BANK_AMP | BANK_CAL | BANK_MON | BANK_LAT | BANK_CABLE | BANK_REPLY
  | BANK_CAP | BANK_DRIVE | GUARD_STATUS | GUARD_CAUSE | GUARD_CTL | GIN_LEVELS
  | GUARD_TABLE_ID | GIN_CFG_NOW | GIN_DISC01 | GIN_DISC23 | LIM_BLOCK_COUNT | GUARD_TRIP_COUNT
  | DEMAND_COUNT | GIN_DISC_LAST | BANK_GUARD_W0 | BANK_GUARD_W1 | BANK_GUARD_W2 | BANK_GUARD_W3
  | LOOP_CTL | LOOP_STATUS | SETPOINT | FEEDBACK | OUTPUT | PH_ERR
  | FACET_CFG | PH_GAIN | PH_TOL | STEP_POS01 | STEP_POS23 | STEP_TOL
  | SWEEP_LO | SWEEP_HI | HO_CFG | FOLLOW_MAX | FAULT_CFG | RC_CFG
  | RC_LIM | LATE_COUNT | STEP_LATE_COUNT | RC_STATUS | PWM_CFG | KP
  | KI | KD | KF | U_LIM | I_LIM | ENC_CFG
  | ENC_POS | ENC_STATUS | ENC_IDX_POS | TR_CTL | TR_POST | TR_STATUS
  | TR_WPTR | TR_NODE | MC_STATUS | TARGET | VMAX | AMAX
  | JMAX | LANE_CTL | LANE_STATUS | LANE_RETRY_COUNT | CRC_ERR_COUNT | HDR_ERR_COUNT
  | STUFF_ERR_COUNT | PRBS_ERR_COUNT | PRBS_BITS_LO | PRBS_BITS_HI | LANE_PARTNER | LANE_TX_PARCELS
  | LANE_RX_PARCELS | CAP_TIMEOUT_COUNT | TRK_CFG | TRK_SLEEP | TRK_WAKE | TRK_STATUS
  | PORT_PARTNER_LO | PORT_PARTNER_HI | TRK_GAP_SPLIT | CTYPE_UNKNOWN_COUNT | PORT_REORDER | STREAM_CFG
  | EGQ_QUOTA | LAYBY_QUOTA | CREDIT_LIMIT | SSEQ_NEXT | EGQ_BYTES | LAYBY_BYTES
  | LOST_PARCELS | TW_CTL | TW_STATUS | TW_PAIR_ID_LO | TW_PAIR_ID_HI | TW_PARTNER
  | TW_PARTNER_CFG_LO | TW_PARTNER_CFG_HI | TW_PARTNER_FW_LO | TW_PARTNER_FW_HI | TW_TOFS_LO | TW_TOFS_HI
  | TW_TOFS_FRAC | TW_TAKEOVERS | TW_REFUSALS | TW_MISS_A | TW_MISS_B | TW_SHADOW_MISS
  | TW_LAST_GAP | TW_HOLD_DROP | MEM_CFG | MEM_STATUS | SR_CFG | TOLL_CFG
  | LAYBY_BASE | LAYBY_SIZE | REPLAY_CFG | REPLAY_BASE | REPLAY_SIZE | REPLAY_IDX
  | REPLAY_OLDEST_LO | REPLAY_OLDEST_HI | REPLAY_SKIP | REQ_START_LO | REQ_START_HI | REQ_END_LO
  | REQ_END_HI | REQ_CTL | REQ_STATUS | PORT_TRAIN | PASR_MASK | SR_ENTRIES
  | LECC_CORR | LECC_UNCORR | REQ_HINT | CAP_CTL | CAP_STATUS | CAP_NUM
  | CAP_DRAM_BASE | CAP_DRAM_SIZE | CAP_ARM | CAP_LOST | CS_CTL | CS_PRE
  | CS_POST | CS_SLOT | TC_CTL | TC_A | TC_B | TC_C
  | TC_D | HK_CTL | HK_STATUS | RQ_POP_LO | RQ_POP_HI | RQ_DROP_COUNT
  | TEMP_SEL | SUP_STATUS | LOAD_STATUS | SUP_DWELL | SUP_WIN | SP_CFG
  | SP_TIMING | SP_STATUS | SP_OUT | SP_X | SP_OUT_COUNT | SP_FIT
  | SP_REF | SP_SPAN | SEQ_ENTRY | SP_COEF | SP_NTC | THERM_CTL
  | THERM_CFG | THERM_STATUS | PART_TEMP | THERMAL_CAP | HUB_SENSOR_FAULT | CROSS_COUNT
  | CAL_COUNT | CAL_LAST_LO | CAL_LAST_HI | LAST_SHUT | SHUT_COUNT | REF_CFG
  | REF_LEN | REF_STATUS | PORT_LIMIT | HUB_TEMP | DIE_THERM | DIE_CAL
  | DIE_CAL_LATE | DIE_CAL_SKIP | DIE_CAL_COUNT | DIE_TEMP | SEC_STATUS | CFG_FAIL
  | DEV_SERIAL_LO | DEV_SERIAL_HI | FW_ID_LO | FW_ID_HI | CFG_ID_LO | CFG_ID_HI
  | POWER_CYCLES | LEDGER_COUNT | FW_SVN | LIMIT_USED | KEY_USED | LEDG_CTL
  | LEDG_RESULT | DEV_PUBKEY | AUTH_CTL | AUTH_CHAL | AUTH_SIG | ATT_NONCE
  | ATT_CTL | RST_STATUS | RST_CTL | STARTUP_TIME_LO | STARTUP_TIME_HI | NRST_STUCK_COUNT
  | ERR_CFG | ERR_STATUS | ERR_CTL | ERR_HEAD | DIE_CAP | ERR_CLASS_CFG
  | ERR_COUNT
  deriving DecidableEq, Repr

/-- A register or a table of registers: its name, the offset of its first word in the window, the dimensions
(count, stride) of its indices, its reset word and its fields. -/
structure RegDef where
  id : RegId
  base : Nat
  dims : List (Nat × Nat)
  reset : Nat
  fields : List FieldDef
  deriving DecidableEq, Repr

def regMap_fabricHub : List RegDef := [
  ⟨.DIE_ID, 0x0, [], 0x0, [⟨0, 4, .readOnly, []⟩, ⟨4, 4, .readOnly, []⟩, ⟨8, 8, .readOnly, []⟩, ⟨16, 8, .readOnly, []⟩]⟩,
  ⟨.PACE_STATUS, 0x4, [], 0xFFC00, [⟨0, 10, .readOnly, []⟩, ⟨10, 10, .readOnly, []⟩, ⟨20, 4, .readOnly, []⟩, ⟨24, 1, .readOnly, []⟩, ⟨25, 1, .w1c, []⟩]⟩,
  ⟨.PACE_CFG, 0x8, [], 0x900, [⟨0, 10, .live, []⟩, ⟨10, 2, .live, []⟩, ⟨12, 1, .action, []⟩]⟩,
  ⟨.FAB_STATUS, 0xC, [], 0x0, [⟨0, 8, .readOnly, []⟩, ⟨16, 1, .w1c, []⟩]⟩,
  ⟨.PART_PACE, 0x10, [], 0x0, [⟨0, 10, .readOnly, []⟩]⟩,
  ⟨.FAB_UNMAPPED_ADDR_LO, 0x14, [], 0x0, [⟨0, 32, .readOnly, []⟩]⟩,
  ⟨.FAB_UNMAPPED_ADDR_HI, 0x18, [], 0x0, [⟨0, 8, .readOnly, []⟩, ⟨8, 8, .readOnly, []⟩]⟩,
  ⟨.FAB_UNMAPPED_COUNT, 0x1C, [], 0x0, [⟨0, 32, .readOnly, []⟩]⟩]

def regMap_fabricDie : List RegDef := [
  ⟨.DIE_ID, 0x0, [], 0x0, [⟨0, 4, .readOnly, []⟩, ⟨4, 4, .readOnly, []⟩, ⟨8, 8, .readOnly, []⟩, ⟨16, 8, .readOnly, []⟩]⟩,
  ⟨.PACE_STATUS, 0x4, [], 0xFFC00, [⟨0, 10, .readOnly, []⟩, ⟨10, 10, .readOnly, []⟩, ⟨20, 4, .readOnly, []⟩, ⟨24, 1, .readOnly, []⟩, ⟨25, 1, .w1c, []⟩]⟩,
  ⟨.PACE_CFG, 0x8, [], 0x900, [⟨0, 10, .live, []⟩, ⟨10, 2, .live, []⟩, ⟨12, 1, .action, []⟩]⟩]

def regMap_channels : List RegDef := [
  ⟨.CH_CFG, 0x10000, [(192, 0x40)], 0x0, [⟨0, 1, .live, []⟩, ⟨1, 2, .static, [(3, 3)]⟩, ⟨3, 1, .static, []⟩, ⟨4, 1, .live, []⟩]⟩,
  ⟨.CH_THR, 0x10004, [(192, 0x40)], 0x780028, [⟨0, 10, .live, []⟩, ⟨16, 10, .live, []⟩]⟩,
  ⟨.CH_OFS, 0x10008, [(192, 0x40)], 0x0, [⟨0, 10, .live, []⟩, ⟨16, 10, .live, []⟩]⟩,
  ⟨.CH_DEAD, 0x1000C, [(192, 0x40)], 0x8, [⟨0, 8, .live, []⟩]⟩,
  ⟨.CH_STATUS, 0x10010, [(192, 0x40)], 0x0, [⟨0, 1, .w1c, []⟩, ⟨1, 1, .w1c, []⟩, ⟨2, 1, .w1c, []⟩, ⟨3, 1, .w1c, []⟩]⟩,
  ⟨.CH_EVT_COUNT, 0x10014, [(192, 0x40)], 0x0, [⟨0, 32, .readOnly, []⟩]⟩,
  ⟨.CH_DROP_COUNT, 0x10018, [(192, 0x40)], 0x0, [⟨0, 32, .w1c, []⟩]⟩,
  ⟨.CH_RUNT_COUNT, 0x1001C, [(192, 0x40)], 0x0, [⟨0, 32, .readOnly, []⟩]⟩,
  ⟨.CH_WALK, 0x14000, [(192, 0x40), (16, 0x4)], 0x0, [⟨0, 16, .live, []⟩, ⟨16, 16, .live, []⟩]⟩]

def regMap_timeBase_0 : List RegDef := [
  ⟨.TB_STATUS, 0x1000, [], 0x2, [⟨0, 1, .readOnly, []⟩, ⟨1, 1, .readOnly, []⟩, ⟨2, 1, .w1c, []⟩, ⟨3, 1, .readOnly, []⟩, ⟨4, 1, .w1c, []⟩, ⟨16, 16, .readOnly, []⟩]⟩,
  ⟨.DEVTIME_LO, 0x1004, [], 0x0, [⟨0, 32, .readOnly, []⟩]⟩,
  ⟨.DEVTIME_HI, 0x1008, [], 0x0, [⟨0, 32, .readOnly, []⟩]⟩,
  ⟨.POWERED_HOURS, 0x100C, [], 0x0, [⟨0, 32, .readOnly, []⟩]⟩,
  ⟨.ANCHOR_LABEL_LO, 0x1010, [], 0x0, [⟨0, 32, .live, []⟩]⟩,
  ⟨.ANCHOR_LABEL_HI, 0x1014, [], 0x0, [⟨0, 32, .live, []⟩]⟩,
  ⟨.ANCHOR_AT_LO, 0x1018, [], 0x0, [⟨0, 32, .live, []⟩]⟩,
  ⟨.ANCHOR_AT_HI, 0x101C, [], 0x0, [⟨0, 32, .live, []⟩]⟩,
  ⟨.ANCHOR_CTL, 0x1020, [], 0x0, [⟨0, 1, .action, []⟩, ⟨1, 4, .readOnly, []⟩, ⟨5, 1, .w1c, []⟩, ⟨8, 8, .live, []⟩, ⟨16, 16, .readOnly, []⟩]⟩,
  ⟨.SYNC_CFG, 0x1030, [], 0x0, [⟨0, 1, .live, []⟩, ⟨1, 1, .static, []⟩, ⟨4, 4, .static, []⟩]⟩,
  ⟨.SYNC_NOM, 0x1034, [], 0x0, [⟨0, 32, .static, []⟩]⟩,
  ⟨.SYNC_TOL, 0x1038, [], 0x3E8, [⟨0, 20, .static, []⟩]⟩]

def regMap_timeBase_1 : List RegDef := [
  ⟨.SYNC_STATUS, 0x103C, [], 0x0, [⟨0, 2, .readOnly, []⟩, ⟨2, 1, .w1c, []⟩, ⟨3, 1, .w1c, []⟩, ⟨4, 1, .w1c, []⟩, ⟨8, 5, .readOnly, []⟩, ⟨16, 16, .readOnly, []⟩]⟩,
  ⟨.SYNC_FIFO_LO, 0x1040, [], 0x0, [⟨0, 32, .readOnly, []⟩]⟩,
  ⟨.SYNC_FIFO_HI, 0x1044, [], 0x0, [⟨0, 32, .readOnly, []⟩]⟩,
  ⟨.SYNC_FIFO_X, 0x1048, [], 0x0, [⟨0, 7, .readOnly, []⟩, ⟨7, 1, .readOnly, []⟩]⟩,
  ⟨.SYNC_PERIOD, 0x104C, [], 0x0, [⟨0, 32, .readOnly, []⟩]⟩,
  ⟨.IU_CTL, 0x1060, [], 0x0, [⟨0, 5, .static, [(10, 15), (18, 31)]⟩, ⟨5, 5, .static, [(10, 15), (18, 31)]⟩, ⟨10, 1, .static, []⟩, ⟨11, 1, .static, []⟩, ⟨12, 1, .action, []⟩, ⟨13, 1, .action, []⟩, ⟨14, 1, .action, []⟩, ⟨16, 6, .static, []⟩]⟩,
  ⟨.IU_TIMEOUT, 0x1064, [], 0xF4240, [⟨0, 32, .static, []⟩]⟩,
  ⟨.IU_STATUS, 0x1068, [], 0x0, [⟨0, 2, .readOnly, []⟩, ⟨2, 1, .readOnly, []⟩, ⟨3, 1, .w1c, []⟩, ⟨4, 1, .w1c, []⟩, ⟨5, 1, .readOnly, []⟩]⟩,
  ⟨.IU_RESULT_LO, 0x106C, [], 0x0, [⟨0, 32, .readOnly, []⟩]⟩,
  ⟨.IU_RESULT_HI, 0x1070, [], 0x0, [⟨0, 8, .readOnly, []⟩]⟩,
  ⟨.FU_CTL, 0x1080, [], 0x0, [⟨0, 4, .static, [(5, 15)]⟩, ⟨4, 1, .static, []⟩, ⟨5, 1, .static, []⟩, ⟨6, 1, .live, []⟩, ⟨7, 1, .action, []⟩, ⟨8, 4, .static, []⟩]⟩,
  ⟨.FU_GATE_LEN, 0x1084, [], 0x2710, [⟨0, 32, .static, []⟩]⟩]

def regMap_timeBase_2 : List RegDef := [
  ⟨.FU_STATUS, 0x1088, [], 0x0, [⟨0, 1, .readOnly, []⟩, ⟨1, 1, .w1c, []⟩, ⟨2, 1, .w1c, []⟩, ⟨3, 1, .w1c, []⟩, ⟨4, 1, .w1c, []⟩]⟩,
  ⟨.FU_EDGES, 0x108C, [], 0x0, [⟨0, 32, .readOnly, []⟩]⟩,
  ⟨.FU_PERIOD_INT, 0x1090, [], 0x0, [⟨0, 32, .readOnly, []⟩]⟩,
  ⟨.FU_PERIOD_FRAC, 0x1094, [], 0x0, [⟨0, 32, .readOnly, []⟩]⟩,
  ⟨.FU_RESID, 0x1098, [], 0x0, [⟨0, 32, .readOnly, []⟩]⟩,
  ⟨.FU_MAINS, 0x109C, [], 0xC350, [⟨0, 16, .readOnly, []⟩]⟩]

def regMap_timeBase : List RegDef := regMap_timeBase_0 ++ regMap_timeBase_1 ++ regMap_timeBase_2

def regMap_opBlock_0 : List RegDef := [
  ⟨.OPS_CFG, 0x20000, [], 0x80, [⟨0, 1, .live, []⟩, ⟨4, 4, .static, [(0, 0), (9, 15)]⟩]⟩,
  ⟨.OPS_STATUS, 0x20004, [], 0x0, [⟨0, 1, .w1c, []⟩, ⟨1, 1, .w1c, []⟩, ⟨2, 1, .w1c, []⟩, ⟨16, 12, .readOnly, []⟩]⟩,
  ⟨.OPS_ISSUED, 0x20008, [], 0x0, [⟨0, 32, .readOnly, []⟩]⟩,
  ⟨.OPS_COMPLETED, 0x2000C, [], 0x0, [⟨0, 32, .readOnly, []⟩]⟩,
  ⟨.OPS_ABANDONED, 0x20010, [], 0x0, [⟨0, 32, .readOnly, []⟩]⟩,
  ⟨.OPS_UNBINNED, 0x20014, [], 0x0, [⟨0, 32, .readOnly, []⟩]⟩,
  ⟨.OPS_SUPPRESSED, 0x20018, [], 0x0, [⟨0, 32, .readOnly, []⟩]⟩,
  ⟨.DECL_COUNT, 0x20020, [(8, 0x4)], 0x0, [⟨0, 32, .readOnly, []⟩]⟩,
  ⟨.GRP_STATUS, 0x20400, [(16, 0x4)], 0x1000000, [⟨0, 8, .readOnly, []⟩, ⟨16, 9, .readOnly, []⟩]⟩,
  ⟨.SLOT_VIEW_W0, 0x21000, [(2048, 0x10)], 0x0, [⟨0, 3, .readOnly, []⟩, ⟨8, 6, .readOnly, []⟩, ⟨16, 7, .readOnly, []⟩]⟩,
  ⟨.SLOT_VIEW_W1, 0x21004, [(2048, 0x10)], 0x0, [⟨0, 32, .readOnly, []⟩]⟩,
  ⟨.SLOT_VIEW_W2, 0x21008, [(2048, 0x10)], 0x0, [⟨0, 14, .readOnly, []⟩, ⟨16, 16, .readOnly, []⟩]⟩]

def regMap_opBlock_1 : List RegDef := [
  ⟨.SLOT_VIEW_W3, 0x2100C, [(2048, 0x10)], 0x0, [⟨0, 32, .readOnly, []⟩]⟩,
  ⟨.TAP_W, 0x30000, [(16, 0x200), (64, 0x4)], 0x0, [⟨0, 32, .static, []⟩]⟩,
  ⟨.TAP_CTL, 0x30100, [(16, 0x200)], 0x0, [⟨0, 9, .static, []⟩, ⟨16, 16, .static, []⟩]⟩]

def regMap_opBlock : List RegDef := regMap_opBlock_0 ++ regMap_opBlock_1

def regMap_rangingCtl : List RegDef := [
  ⟨.CODE_PLAN, 0x2000, [], 0x0, [⟨0, 6, .readOnly, []⟩]⟩,
  ⟨.VENUE_SEED, 0x2004, [], 0x0, [⟨0, 32, .readOnly, []⟩]⟩,
  ⟨.HOP_CFG, 0x2008, [], 0x40FF00, [⟨0, 1, .live, []⟩, ⟨8, 8, .live, []⟩, ⟨16, 16, .live, []⟩]⟩,
  ⟨.HOP_STATUS, 0x200C, [], 0x0, [⟨0, 16, .readOnly, []⟩, ⟨16, 16, .readOnly, []⟩]⟩,
  ⟨.PROBE_AGE, 0x2010, [], 0xC350, [⟨0, 24, .live, []⟩]⟩,
  ⟨.REGION_CODE, 0x2040, [(16, 0x4)], 0x0, [⟨0, 3, .latched, []⟩, ⟨4, 3, .latched, []⟩, ⟨8, 3, .latched, []⟩, ⟨12, 3, .latched, []⟩, ⟨16, 3, .latched, []⟩, ⟨20, 3, .latched, []⟩, ⟨24, 3, .latched, []⟩, ⟨28, 3, .latched, []⟩]⟩,
  ⟨.REGION_CODE_NOW, 0x2080, [(16, 0x4)], 0x0, [⟨0, 3, .readOnly, []⟩, ⟨4, 3, .readOnly, []⟩, ⟨8, 3, .readOnly, []⟩, ⟨12, 3, .readOnly, []⟩, ⟨16, 3, .readOnly, []⟩, ⟨20, 3, .readOnly, []⟩, ⟨24, 3, .readOnly, []⟩, ⟨28, 3, .readOnly, []⟩]⟩]

def regMap_points : List RegDef := [
  ⟨.PP_HEAD_CFG, 0x10000, [(2, 0x4)], 0x3F00, [⟨0, 2, .live, [(3, 3)]⟩, ⟨2, 2, .live, [(3, 3)]⟩, ⟨4, 1, .live, []⟩, ⟨8, 8, .live, []⟩]⟩,
  ⟨.CLASS_CFG, 0x10008, [], 0xE0803C0C, [⟨0, 8, .live, []⟩, ⟨8, 8, .live, []⟩, ⟨16, 8, .live, []⟩, ⟨24, 8, .live, []⟩]⟩,
  ⟨.LICHEN_CFG, 0x1000C, [], 0x24204054, [⟨0, 4, .live, []⟩, ⟨4, 4, .live, []⟩, ⟨8, 8, .live, []⟩, ⟨16, 8, .live, []⟩, ⟨24, 4, .live, []⟩, ⟨28, 4, .live, []⟩]⟩,
  ⟨.EXT_GAIN, 0x10010, [], 0x100, [⟨0, 16, .live, []⟩]⟩,
  ⟨.PP_STATUS, 0x10014, [], 0x0, [⟨1, 1, .w1c, []⟩, ⟨2, 1, .w1c, []⟩, ⟨16, 13, .readOnly, []⟩]⟩,
  ⟨.PP_RECORDS, 0x10018, [], 0x0, [⟨0, 32, .readOnly, []⟩]⟩,
  ⟨.PP_SUPPRESSED, 0x1001C, [], 0x0, [⟨0, 32, .readOnly, []⟩]⟩,
  ⟨.LICHEN_DROP_COUNT, 0x10020, [], 0x0, [⟨0, 32, .readOnly, []⟩]⟩,
  ⟨.EXCERPT_CFG, 0x10028, [], 0x10400, [⟨0, 3, .live, [(5, 7)]⟩, ⟨4, 9, .live, []⟩, ⟨16, 16, .live, []⟩]⟩,
  ⟨.CH_RANGE_W0, 0x18000, [(1344, 0x8)], 0x0, [⟨0, 16, .live, []⟩, ⟨16, 16, .live, []⟩]⟩,
  ⟨.CH_RANGE_W1, 0x18004, [(1344, 0x8)], 0x0, [⟨0, 16, .live, []⟩]⟩]

def regMap_extractor : List RegDef := [
  ⟨.EXT_CFG, 0x40000, [], 0x8045000, [⟨0, 1, .live, []⟩, ⟨8, 8, .live, []⟩, ⟨16, 8, .live, []⟩, ⟨24, 8, .live, []⟩]⟩,
  ⟨.EXTRA_ECHO_COUNT, 0x40008, [], 0x0, [⟨0, 32, .readOnly, []⟩]⟩,
  ⟨.LENS_HIT_COUNT, 0x4000C, [], 0x0, [⟨0, 32, .readOnly, []⟩]⟩,
  ⟨.LENS_MISS_COUNT, 0x40010, [], 0x0, [⟨0, 32, .readOnly, []⟩]⟩,
  ⟨.DEAD_EST, 0x40100, [(192, 0x4)], 0x8, [⟨0, 10, .readOnly, []⟩]⟩]

def regMap_scanOut_0 : List RegDef := [
  ⟨.SO_CFG, 0x4000, [], 0x0, [⟨0, 1, .static, []⟩]⟩,
  ⟨.LINE_OFS, 0x4004, [], 0x0, [⟨0, 23, .static, []⟩]⟩,
  ⟨.SO_STATUS, 0x4008, [], 0x0, [⟨0, 1, .w1c, []⟩, ⟨1, 1, .w1c, []⟩, ⟨2, 1, .w1c, []⟩, ⟨3, 1, .w1c, []⟩, ⟨4, 1, .w1c, []⟩, ⟨5, 1, .w1c, []⟩, ⟨6, 1, .w1c, []⟩]⟩,
  ⟨.HEAD_GROUPS_A, 0x4010, [(4, 0x4)], 0x0, [⟨0, 32, .static, []⟩]⟩,
  ⟨.HEAD_GROUPS_B, 0x4020, [(4, 0x4)], 0x0, [⟨0, 32, .static, []⟩]⟩,
  ⟨.HEAD_CTL, 0x4100, [(2, 0x100)], 0x10000, [⟨0, 1, .live, []⟩, ⟨4, 5, .latched, [(17, 31)]⟩, ⟨9, 1, .latched, []⟩, ⟨10, 1, .live, []⟩, ⟨12, 3, .live, []⟩, ⟨16, 2, .live, []⟩]⟩,
  ⟨.HEAD_STATUS, 0x4104, [(2, 0x100)], 0x0, [⟨0, 5, .readOnly, []⟩, ⟨5, 1, .readOnly, []⟩, ⟨6, 2, .readOnly, []⟩, ⟨8, 4, .readOnly, []⟩, ⟨12, 1, .readOnly, []⟩, ⟨13, 1, .readOnly, []⟩, ⟨16, 16, .readOnly, []⟩]⟩,
  ⟨.FRAME_COUNT, 0x4108, [(2, 0x100)], 0x0, [⟨0, 32, .readOnly, []⟩]⟩,
  ⟨.SYNC_OFS, 0x410C, [(2, 0x100)], 0x0, [⟨0, 24, .latched, []⟩]⟩,
  ⟨.FB_SLEW, 0x4110, [(2, 0x100)], 0x14, [⟨0, 10, .live, []⟩]⟩,
  ⟨.PHASE_ERR, 0x4114, [(2, 0x100)], 0x0, [⟨0, 32, .readOnly, []⟩]⟩,
  ⟨.LTR_NOW, 0x4118, [(2, 0x100)], 0x0, [⟨0, 24, .readOnly, []⟩]⟩]

def regMap_scanOut_1 : List RegDef := [
  ⟨.PF_LATE_LINES, 0x411C, [(2, 0x100)], 0x0, [⟨0, 32, .readOnly, []⟩]⟩,
  ⟨.FROND_ADDR_LO, 0x4120, [(2, 0x100), (4, 0x10)], 0x0, [⟨6, 26, .live, []⟩]⟩,
  ⟨.FROND_ADDR_HI, 0x4124, [(2, 0x100), (4, 0x10)], 0x0, [⟨0, 8, .live, []⟩]⟩,
  ⟨.FROND_GEN_EXP, 0x4128, [(2, 0x100), (4, 0x10)], 0x0, [⟨0, 16, .live, []⟩]⟩,
  ⟨.FROND_COMMIT, 0x412C, [(2, 0x100), (4, 0x10)], 0x0, [⟨0, 1, .action, []⟩, ⟨1, 1, .readOnly, []⟩, ⟨16, 16, .readOnly, []⟩]⟩,
  ⟨.COMMIT_FRAME, 0x4160, [(2, 0x100), (4, 0x4)], 0x0, [⟨0, 32, .readOnly, []⟩]⟩,
  ⟨.SYNC_OFS_NOW, 0x4170, [(2, 0x100)], 0x0, [⟨0, 24, .readOnly, []⟩]⟩,
  ⟨.P_W1, 0x8000, [(2, 0x1000), (255, 0x10)], 0x0, [⟨0, 32, .live, []⟩]⟩,
  ⟨.P_W2, 0x8004, [(2, 0x1000), (255, 0x10)], 0x3E8, [⟨0, 16, .live, []⟩, ⟨16, 13, .live, []⟩]⟩,
  ⟨.P_X, 0x8008, [(2, 0x1000), (255, 0x10)], 0x0, [⟨0, 8, .live, []⟩]⟩,
  ⟨.P_RESERVED, 0x800C, [(2, 0x1000), (255, 0x10)], 0x0, []⟩]

def regMap_scanOut : List RegDef := regMap_scanOut_0 ++ regMap_scanOut_1

def regMap_sequencers_0 : List RegDef := [
  ⟨.SQ_CTL, 0xA000, [(8, 0x100)], 0x0, [⟨0, 1, .live, []⟩, ⟨1, 1, .static, []⟩, ⟨2, 1, .action, []⟩, ⟨8, 24, .static, []⟩]⟩,
  ⟨.SQ_ENTRY, 0xA004, [(8, 0x100)], 0x0, [⟨0, 17, .static, []⟩]⟩,
  ⟨.SQ_SPAN_LO, 0xA008, [(8, 0x100)], 0x0, [⟨0, 17, .static, []⟩]⟩,
  ⟨.SQ_SPAN_HI, 0xA00C, [(8, 0x100)], 0x0, [⟨0, 17, .static, []⟩]⟩,
  ⟨.SQ_STATUS, 0xA010, [(8, 0x100)], 0x0, [⟨0, 3, .readOnly, []⟩, ⟨3, 1, .w1c, []⟩, ⟨8, 8, .readOnly, []⟩]⟩,
  ⟨.SQ_PC, 0xA014, [(8, 0x100)], 0x0, [⟨0, 17, .readOnly, []⟩]⟩,
  ⟨.SQ_CQ, 0xA018, [(8, 0x100)], 0x0, [⟨0, 9, .readOnly, []⟩, ⟨16, 9, .readOnly, []⟩]⟩,
  ⟨.SQ_WATCH_DROP, 0xA01C, [(8, 0x100)], 0x0, [⟨0, 32, .readOnly, []⟩]⟩,
  ⟨.SQ_EV_PEND_LO, 0xA020, [(8, 0x100)], 0x0, [⟨0, 32, .readOnly, []⟩]⟩,
  ⟨.SQ_EV_PEND_HI, 0xA024, [(8, 0x100)], 0x0, [⟨0, 32, .readOnly, []⟩]⟩,
  ⟨.SQ_EV_MERGED, 0xA028, [(8, 0x100)], 0x0, [⟨0, 32, .readOnly, []⟩]⟩,
  ⟨.SQ_INSTR, 0xA02C, [(8, 0x100)], 0x0, [⟨0, 32, .readOnly, []⟩]⟩]

def regMap_sequencers_1 : List RegDef := [
  ⟨.SQ_DBASE, 0xA030, [(8, 0x100)], 0x0, [⟨0, 8, .readOnly, []⟩]⟩,
  ⟨.SQ_GREG, 0xA040, [(8, 0x100), (32, 0x4)], 0x0, [⟨0, 32, .static, []⟩]⟩,
  ⟨.SQ_PRED, 0xA0C0, [(8, 0x100)], 0x1, [⟨0, 1, .readOnly, []⟩, ⟨1, 7, .static, []⟩]⟩,
  ⟨.EV_SOFT, 0xA800, [], 0x0, [⟨0, 16, .action, []⟩]⟩,
  ⟨.POLICY_CTL, 0xA804, [], 0x0, [⟨0, 1, .readOnly, []⟩, ⟨1, 1, .readOnly, []⟩, ⟨2, 1, .w1c, []⟩]⟩,
  ⟨.SQ_FAULT_COUNT, 0xA808, [], 0x0, [⟨0, 32, .readOnly, []⟩]⟩]

def regMap_sequencers : List RegDef := regMap_sequencers_0 ++ regMap_sequencers_1

def regMap_drive_0 : List RegDef := [
  ⟨.DRV_CTL, 0xC000, [(2, 0x40)], 0x40080000, [⟨0, 1, .static, []⟩, ⟨1, 1, .action, []⟩, ⟨8, 2, .latched, [(3, 3)]⟩, ⟨10, 6, .latched, []⟩, ⟨16, 8, .live, []⟩, ⟨24, 8, .live, []⟩]⟩,
  ⟨.DRV_SOFT, 0xC004, [(2, 0x40)], 0x801003E8, [⟨0, 16, .live, []⟩, ⟨16, 8, .live, []⟩, ⟨24, 8, .live, []⟩]⟩,
  ⟨.DRV_IDLE, 0xC008, [(2, 0x40)], 0x3E8, [⟨0, 20, .live, []⟩]⟩,
  ⟨.DRV_STATUS, 0xC00C, [(2, 0x40)], 0x0, [⟨0, 1, .w1c, []⟩, ⟨1, 1, .w1c, []⟩, ⟨2, 1, .w1c, []⟩, ⟨3, 1, .w1c, []⟩, ⟨4, 1, .w1c, []⟩, ⟨5, 1, .readOnly, []⟩, ⟨8, 2, .readOnly, []⟩, ⟨10, 6, .readOnly, []⟩]⟩,
  ⟨.DRV_XCHG_COUNT, 0xC010, [(2, 0x40)], 0x0, [⟨0, 32, .readOnly, []⟩]⟩,
  ⟨.DRV_RETRY_COUNT, 0xC014, [(2, 0x40)], 0x0, [⟨0, 32, .readOnly, []⟩]⟩,
  ⟨.DRV_CABLE_CFG, 0xC018, [(2, 0x40)], 0x30080, [⟨0, 16, .live, []⟩, ⟨16, 4, .live, []⟩]⟩,
  ⟨.DRV_FAIL, 0xC100, [], 0x0, [⟨0, 1, .readOnly, []⟩, ⟨1, 1, .readOnly, []⟩, ⟨2, 5, .readOnly, []⟩, ⟨8, 3, .readOnly, []⟩]⟩,
  ⟨.DRV_FAIL_MON, 0xC104, [], 0x0, [⟨0, 12, .readOnly, []⟩, ⟨16, 12, .readOnly, []⟩]⟩,
  ⟨.FAIL_MAP_A, 0xC108, [], 0x0, [⟨0, 32, .readOnly, []⟩]⟩,
  ⟨.FAIL_MAP_B, 0xC10C, [], 0x0, [⟨0, 32, .readOnly, []⟩]⟩,
  ⟨.DRV_CABLE_NEXT, 0xC110, [], 0x0, [⟨0, 6, .readOnly, []⟩]⟩]

def regMap_drive_1 : List RegDef := [
  ⟨.BANK_AMP, 0xC400, [(2, 0x200), (32, 0x10)], 0x280000, [⟨0, 12, .live, []⟩, ⟨16, 8, .latched, []⟩]⟩,
  ⟨.BANK_CAL, 0xC404, [(2, 0x200), (32, 0x10)], 0x0, [⟨0, 12, .static, []⟩, ⟨12, 4, .static, []⟩, ⟨16, 16, .static, []⟩]⟩,
  ⟨.BANK_MON, 0xC408, [(2, 0x200), (32, 0x10)], 0x101A000, [⟨0, 12, .static, []⟩, ⟨12, 8, .static, []⟩, ⟨20, 8, .static, []⟩]⟩,
  ⟨.BANK_LAT, 0xC40C, [(2, 0x200), (32, 0x10)], 0x0, [⟨0, 16, .live, []⟩]⟩,
  ⟨.BANK_CABLE, 0xC800, [(2, 0x200), (32, 0x10)], 0x0, [⟨0, 16, .readOnly, []⟩, ⟨16, 1, .readOnly, []⟩]⟩,
  ⟨.BANK_REPLY, 0xC804, [(2, 0x200), (32, 0x10)], 0x0, [⟨0, 12, .readOnly, []⟩, ⟨12, 8, .readOnly, []⟩, ⟨20, 4, .readOnly, []⟩]⟩,
  ⟨.BANK_CAP, 0xC808, [(2, 0x200), (32, 0x10)], 0x0, [⟨0, 32, .readOnly, []⟩]⟩,
  ⟨.BANK_DRIVE, 0xC80C, [(2, 0x200), (32, 0x10)], 0x5000000, [⟨0, 12, .readOnly, []⟩, ⟨12, 9, .readOnly, []⟩, ⟨21, 8, .readOnly, []⟩]⟩]

def regMap_drive : List RegDef := regMap_drive_0 ++ regMap_drive_1

def regMap_guard_0 : List RegDef := [
  ⟨.GUARD_STATUS, 0xD000, [], 0x0, [⟨0, 3, .readOnly, []⟩, ⟨3, 1, .readOnly, []⟩, ⟨4, 1, .readOnly, []⟩, ⟨5, 1, .readOnly, []⟩, ⟨6, 1, .readOnly, []⟩, ⟨7, 1, .readOnly, []⟩, ⟨8, 4, .readOnly, []⟩, ⟨12, 4, .readOnly, []⟩, ⟨16, 2, .readOnly, []⟩, ⟨18, 1, .w1c, []⟩, ⟨19, 1, .w1c, []⟩, ⟨20, 1, .w1c, []⟩]⟩,
  ⟨.GUARD_CAUSE, 0xD004, [], 0x0, [⟨0, 8, .readOnly, []⟩, ⟨8, 8, .readOnly, []⟩]⟩,
  ⟨.GUARD_CTL, 0xD008, [], 0x0, [⟨0, 1, .action, []⟩, ⟨1, 1, .action, []⟩]⟩,
  ⟨.GIN_LEVELS, 0xD00C, [], 0x0, [⟨0, 8, .readOnly, []⟩]⟩,
  ⟨.GUARD_TABLE_ID, 0xD010, [], 0x0, [⟨0, 32, .readOnly, []⟩]⟩,
  ⟨.GIN_CFG_NOW, 0xD014, [], 0x0, [⟨0, 4, .readOnly, []⟩, ⟨4, 4, .readOnly, []⟩]⟩,
  ⟨.GIN_DISC01, 0xD018, [], 0x0, [⟨0, 16, .readOnly, []⟩, ⟨16, 16, .readOnly, []⟩]⟩,
  ⟨.GIN_DISC23, 0xD01C, [], 0x0, [⟨0, 16, .readOnly, []⟩, ⟨16, 16, .readOnly, []⟩]⟩,
  ⟨.LIM_BLOCK_COUNT, 0xD020, [], 0x0, [⟨0, 32, .readOnly, []⟩]⟩,
  ⟨.GUARD_TRIP_COUNT, 0xD024, [], 0x0, [⟨0, 32, .readOnly, []⟩]⟩,
  ⟨.DEMAND_COUNT, 0xD028, [], 0x0, [⟨0, 32, .readOnly, []⟩]⟩,
  ⟨.GIN_DISC_LAST, 0xD040, [(4, 0x4)], 0x0, [⟨0, 24, .readOnly, []⟩]⟩]

def regMap_guard_1 : List RegDef := [
  ⟨.BANK_GUARD_W0, 0xD100, [(2, 0x200), (32, 0x10)], 0x0, [⟨0, 12, .readOnly, []⟩]⟩,
  ⟨.BANK_GUARD_W1, 0xD104, [(2, 0x200), (32, 0x10)], 0x0, [⟨0, 32, .readOnly, []⟩]⟩,
  ⟨.BANK_GUARD_W2, 0xD108, [(2, 0x200), (32, 0x10)], 0x0, [⟨0, 32, .readOnly, []⟩]⟩,
  ⟨.BANK_GUARD_W3, 0xD10C, [(2, 0x200), (32, 0x10)], 0x0, [⟨0, 32, .readOnly, []⟩]⟩]

def regMap_guard : List RegDef := regMap_guard_0 ++ regMap_guard_1

def regMap_motion_0 : List RegDef := [
  ⟨.LOOP_CTL, 0xE000, [(8, 0x100)], 0x0, [⟨0, 3, .live, [(7, 7)]⟩, ⟨3, 1, .live, []⟩, ⟨4, 1, .live, []⟩, ⟨5, 1, .live, []⟩, ⟨6, 1, .live, []⟩, ⟨7, 1, .action, []⟩, ⟨8, 8, .static, []⟩, ⟨16, 4, .static, [(5, 15)]⟩, ⟨20, 4, .static, []⟩]⟩,
  ⟨.LOOP_STATUS, 0xE004, [(8, 0x100)], 0x0, [⟨0, 3, .readOnly, []⟩, ⟨3, 1, .readOnly, []⟩, ⟨4, 1, .readOnly, []⟩, ⟨5, 1, .readOnly, []⟩, ⟨6, 1, .readOnly, []⟩, ⟨7, 1, .readOnly, []⟩, ⟨8, 1, .readOnly, []⟩, ⟨9, 1, .w1c, []⟩, ⟨10, 1, .w1c, []⟩, ⟨11, 1, .w1c, []⟩, ⟨12, 1, .w1c, []⟩, ⟨13, 1, .w1c, []⟩, ⟨14, 1, .w1c, []⟩, ⟨15, 1, .readOnly, []⟩, ⟨16, 4, .live, []⟩]⟩,
  ⟨.SETPOINT, 0xE008, [(8, 0x100)], 0x0, [⟨0, 32, .live, []⟩]⟩,
  ⟨.FEEDBACK, 0xE00C, [(8, 0x100)], 0x0, [⟨0, 32, .readOnly, []⟩]⟩,
  ⟨.OUTPUT, 0xE010, [(8, 0x100)], 0x0, [⟨0, 16, .readOnly, []⟩]⟩,
  ⟨.PH_ERR, 0xE014, [(8, 0x100)], 0x0, [⟨0, 16, .readOnly, []⟩]⟩,
  ⟨.FACET_CFG, 0xE018, [(8, 0x100)], 0x8, [⟨0, 8, .static, []⟩, ⟨8, 24, .static, []⟩]⟩,
  ⟨.PH_GAIN, 0xE01C, [(8, 0x100)], 0x0, [⟨0, 16, .live, []⟩, ⟨16, 16, .live, []⟩]⟩,
  ⟨.PH_TOL, 0xE020, [(8, 0x100)], 0x10, [⟨0, 16, .live, []⟩]⟩,
  ⟨.STEP_POS01, 0xE024, [(8, 0x100)], 0x0, [⟨0, 16, .live, []⟩, ⟨16, 16, .live, []⟩]⟩,
  ⟨.STEP_POS23, 0xE028, [(8, 0x100)], 0x0, [⟨0, 16, .live, []⟩, ⟨16, 16, .live, []⟩]⟩,
  ⟨.STEP_TOL, 0xE02C, [(8, 0x100)], 0x4, [⟨0, 16, .live, []⟩]⟩]

def regMap_motion_1 : List RegDef := [
  ⟨.SWEEP_LO, 0xE030, [(8, 0x100)], 0x0, [⟨0, 32, .live, []⟩]⟩,
  ⟨.SWEEP_HI, 0xE034, [(8, 0x100)], 0x0, [⟨0, 32, .live, []⟩]⟩,
  ⟨.HO_CFG, 0xE038, [(8, 0x100)], 0xC803E8, [⟨0, 16, .live, []⟩, ⟨16, 16, .live, []⟩]⟩,
  ⟨.FOLLOW_MAX, 0xE03C, [(8, 0x100)], 0x0, [⟨0, 32, .live, []⟩]⟩,
  ⟨.FAULT_CFG, 0xE040, [(8, 0x100)], 0x3E810, [⟨0, 8, .live, []⟩, ⟨8, 16, .live, []⟩]⟩,
  ⟨.RC_CFG, 0xE044, [(8, 0x100)], 0x0, [⟨0, 16, .live, []⟩, ⟨16, 4, .live, []⟩, ⟨20, 8, .live, []⟩]⟩,
  ⟨.RC_LIM, 0xE048, [(8, 0x100)], 0x1000, [⟨0, 16, .live, []⟩]⟩,
  ⟨.LATE_COUNT, 0xE04C, [(8, 0x100)], 0x0, [⟨0, 32, .readOnly, []⟩]⟩,
  ⟨.STEP_LATE_COUNT, 0xE050, [(8, 0x100)], 0x0, [⟨0, 32, .readOnly, []⟩]⟩,
  ⟨.RC_STATUS, 0xE054, [(8, 0x100)], 0x0, [⟨0, 12, .readOnly, []⟩]⟩,
  ⟨.PWM_CFG, 0xE058, [(8, 0x100)], 0x142710, [⟨0, 16, .static, []⟩, ⟨16, 8, .static, []⟩, ⟨24, 1, .static, []⟩]⟩,
  ⟨.KP, 0xE080, [(8, 0x100), (2, 0x40)], 0x0, [⟨0, 32, .static, []⟩]⟩]

def regMap_motion_2 : List RegDef := [
  ⟨.KI, 0xE084, [(8, 0x100), (2, 0x40)], 0x0, [⟨0, 32, .static, []⟩]⟩,
  ⟨.KD, 0xE088, [(8, 0x100), (2, 0x40)], 0x0, [⟨0, 32, .static, []⟩]⟩,
  ⟨.KF, 0xE08C, [(8, 0x100), (2, 0x40)], 0x0, [⟨0, 32, .static, []⟩]⟩,
  ⟨.U_LIM, 0xE090, [(8, 0x100), (2, 0x40)], 0x0, [⟨0, 16, .static, []⟩, ⟨16, 16, .static, []⟩]⟩,
  ⟨.I_LIM, 0xE094, [(8, 0x100), (2, 0x40)], 0x0, [⟨0, 15, .static, []⟩]⟩,
  ⟨.ENC_CFG, 0xE800, [(4, 0x10)], 0x0, [⟨0, 24, .static, []⟩, ⟨24, 1, .static, []⟩, ⟨25, 1, .static, []⟩]⟩,
  ⟨.ENC_POS, 0xE804, [(4, 0x10)], 0x0, [⟨0, 32, .readOnly, []⟩]⟩,
  ⟨.ENC_STATUS, 0xE808, [(4, 0x10)], 0x0, [⟨0, 1, .readOnly, []⟩, ⟨1, 1, .w1c, []⟩, ⟨2, 1, .w1c, []⟩, ⟨16, 16, .readOnly, []⟩]⟩,
  ⟨.ENC_IDX_POS, 0xE80C, [(4, 0x10)], 0x0, [⟨0, 32, .readOnly, []⟩]⟩,
  ⟨.TR_CTL, 0xE880, [], 0x0, [⟨0, 1, .action, []⟩, ⟨1, 1, .action, []⟩, ⟨2, 1, .static, []⟩, ⟨4, 3, .static, []⟩, ⟨8, 8, .static, []⟩, ⟨16, 3, .static, [(5, 7)]⟩]⟩,
  ⟨.TR_POST, 0xE884, [], 0x0, [⟨0, 16, .static, []⟩]⟩,
  ⟨.TR_STATUS, 0xE888, [], 0x0, [⟨0, 1, .readOnly, []⟩, ⟨1, 1, .w1c, []⟩, ⟨2, 1, .readOnly, []⟩, ⟨16, 16, .readOnly, []⟩]⟩]

def regMap_motion_3 : List RegDef := [
  ⟨.TR_WPTR, 0xE88C, [], 0x0, [⟨0, 16, .readOnly, []⟩]⟩,
  ⟨.TR_NODE, 0xE890, [(16, 0x4)], 0x0, [⟨0, 3, .static, []⟩, ⟨4, 4, .static, [(14, 15)]⟩]⟩,
  ⟨.MC_STATUS, 0xE8D0, [], 0x0, [⟨0, 8, .readOnly, []⟩, ⟨8, 8, .readOnly, []⟩, ⟨16, 1, .readOnly, []⟩, ⟨17, 1, .w1c, []⟩]⟩,
  ⟨.TARGET, 0xF000, [(8, 0x100), (16, 0x10)], 0x0, [⟨0, 32, .static, []⟩]⟩,
  ⟨.VMAX, 0xF004, [(8, 0x100), (16, 0x10)], 0x0, [⟨0, 32, .static, []⟩]⟩,
  ⟨.AMAX, 0xF008, [(8, 0x100), (16, 0x10)], 0x0, [⟨0, 32, .static, []⟩]⟩,
  ⟨.JMAX, 0xF00C, [(8, 0x100), (16, 0x10)], 0x0, [⟨0, 32, .static, []⟩]⟩]

def regMap_motion : List RegDef := regMap_motion_0 ++ regMap_motion_1 ++ regMap_motion_2 ++ regMap_motion_3

def regMap_lanes_0 : List RegDef := [
  ⟨.LANE_CTL, 0x20000, [(12, 0x100)], 0x80000, [⟨0, 1, .live, []⟩, ⟨1, 1, .static, []⟩, ⟨2, 2, .static, [(3, 3)]⟩, ⟨4, 2, .static, [(3, 3)]⟩, ⟨6, 1, .live, []⟩, ⟨7, 1, .live, []⟩, ⟨8, 1, .action, []⟩, ⟨9, 1, .action, []⟩, ⟨10, 1, .action, []⟩, ⟨11, 1, .action, []⟩, ⟨16, 8, .live, []⟩]⟩,
  ⟨.LANE_STATUS, 0x20004, [(12, 0x100)], 0x0, [⟨0, 3, .readOnly, []⟩, ⟨3, 2, .readOnly, []⟩, ⟨5, 2, .readOnly, []⟩, ⟨7, 1, .readOnly, []⟩, ⟨8, 1, .readOnly, []⟩, ⟨9, 1, .w1c, []⟩, ⟨10, 1, .w1c, []⟩, ⟨11, 1, .w1c, []⟩]⟩,
  ⟨.LANE_RETRY_COUNT, 0x20008, [(12, 0x100)], 0x0, [⟨0, 32, .readOnly, []⟩]⟩,
  ⟨.CRC_ERR_COUNT, 0x2000C, [(12, 0x100)], 0x0, [⟨0, 32, .readOnly, []⟩]⟩,
  ⟨.HDR_ERR_COUNT, 0x20010, [(12, 0x100)], 0x0, [⟨0, 32, .readOnly, []⟩]⟩,
  ⟨.STUFF_ERR_COUNT, 0x20014, [(12, 0x100)], 0x0, [⟨0, 32, .readOnly, []⟩]⟩,
  ⟨.PRBS_ERR_COUNT, 0x20018, [(12, 0x100)], 0x0, [⟨0, 32, .readOnly, []⟩]⟩,
  ⟨.PRBS_BITS_LO, 0x2001C, [(12, 0x100)], 0x0, [⟨0, 32, .readOnly, []⟩]⟩,
  ⟨.PRBS_BITS_HI, 0x20020, [(12, 0x100)], 0x0, [⟨0, 32, .readOnly, []⟩]⟩,
  ⟨.LANE_PARTNER, 0x20024, [(12, 0x100)], 0x0, [⟨0, 4, .readOnly, []⟩, ⟨4, 4, .readOnly, []⟩, ⟨8, 8, .readOnly, []⟩]⟩,
  ⟨.LANE_TX_PARCELS, 0x20028, [(12, 0x100)], 0x0, [⟨0, 32, .readOnly, []⟩]⟩,
  ⟨.LANE_RX_PARCELS, 0x2002C, [(12, 0x100)], 0x0, [⟨0, 32, .readOnly, []⟩]⟩]

def regMap_lanes_1 : List RegDef := [
  ⟨.CAP_TIMEOUT_COUNT, 0x20030, [(12, 0x100)], 0x0, [⟨0, 32, .readOnly, []⟩]⟩]

def regMap_lanes : List RegDef := regMap_lanes_0 ++ regMap_lanes_1

def regMap_causeway_0 : List RegDef := [
  ⟨.LANE_CTL, 0x28000, [(4, 0x100)], 0x80000, [⟨0, 1, .live, []⟩, ⟨2, 2, .static, [(3, 3)]⟩, ⟨4, 2, .static, [(3, 3)]⟩, ⟨6, 1, .live, []⟩, ⟨7, 1, .live, []⟩, ⟨8, 1, .action, []⟩, ⟨9, 1, .action, []⟩, ⟨10, 1, .action, []⟩, ⟨11, 1, .action, []⟩, ⟨16, 8, .live, []⟩]⟩,
  ⟨.LANE_STATUS, 0x28004, [(4, 0x100)], 0x0, [⟨0, 3, .readOnly, []⟩, ⟨3, 2, .readOnly, []⟩, ⟨5, 2, .readOnly, []⟩, ⟨7, 1, .readOnly, []⟩, ⟨8, 1, .readOnly, []⟩, ⟨9, 1, .w1c, []⟩, ⟨10, 1, .w1c, []⟩, ⟨11, 1, .w1c, []⟩]⟩,
  ⟨.LANE_RETRY_COUNT, 0x28008, [(4, 0x100)], 0x0, [⟨0, 32, .readOnly, []⟩]⟩,
  ⟨.CRC_ERR_COUNT, 0x2800C, [(4, 0x100)], 0x0, [⟨0, 32, .readOnly, []⟩]⟩,
  ⟨.HDR_ERR_COUNT, 0x28010, [(4, 0x100)], 0x0, [⟨0, 32, .readOnly, []⟩]⟩,
  ⟨.STUFF_ERR_COUNT, 0x28014, [(4, 0x100)], 0x0, [⟨0, 32, .readOnly, []⟩]⟩,
  ⟨.PRBS_ERR_COUNT, 0x28018, [(4, 0x100)], 0x0, [⟨0, 32, .readOnly, []⟩]⟩,
  ⟨.PRBS_BITS_LO, 0x2801C, [(4, 0x100)], 0x0, [⟨0, 32, .readOnly, []⟩]⟩,
  ⟨.PRBS_BITS_HI, 0x28020, [(4, 0x100)], 0x0, [⟨0, 32, .readOnly, []⟩]⟩,
  ⟨.LANE_PARTNER, 0x28024, [(4, 0x100)], 0x0, [⟨0, 4, .readOnly, []⟩, ⟨8, 8, .readOnly, []⟩]⟩,
  ⟨.LANE_TX_PARCELS, 0x28028, [(4, 0x100)], 0x0, [⟨0, 32, .readOnly, []⟩]⟩,
  ⟨.LANE_RX_PARCELS, 0x2802C, [(4, 0x100)], 0x0, [⟨0, 32, .readOnly, []⟩]⟩]

def regMap_causeway_1 : List RegDef := [
  ⟨.CAP_TIMEOUT_COUNT, 0x28030, [(4, 0x100)], 0x0, [⟨0, 32, .readOnly, []⟩]⟩]

def regMap_causeway : List RegDef := regMap_causeway_0 ++ regMap_causeway_1

def regMap_trunkCommon : List RegDef := [
  ⟨.TRK_CFG, 0x21000, [], 0x320814, [⟨0, 8, .live, []⟩, ⟨8, 4, .live, []⟩, ⟨16, 16, .live, []⟩]⟩,
  ⟨.TRK_SLEEP, 0x21004, [], 0x10064, [⟨0, 16, .live, []⟩, ⟨16, 4, .live, []⟩]⟩,
  ⟨.TRK_WAKE, 0x21008, [], 0x10000, [⟨0, 32, .live, []⟩]⟩,
  ⟨.TRK_STATUS, 0x2100C, [], 0x0, [⟨0, 1, .readOnly, []⟩, ⟨1, 1, .readOnly, []⟩, ⟨2, 1, .w1c, []⟩, ⟨3, 1, .w1c, []⟩]⟩,
  ⟨.PORT_PARTNER_LO, 0x21010, [(2, 0x8)], 0x0, [⟨0, 32, .readOnly, []⟩]⟩,
  ⟨.PORT_PARTNER_HI, 0x21014, [(2, 0x8)], 0x0, [⟨0, 32, .readOnly, []⟩]⟩,
  ⟨.TRK_GAP_SPLIT, 0x21020, [], 0x64, [⟨0, 16, .live, []⟩]⟩,
  ⟨.CTYPE_UNKNOWN_COUNT, 0x21024, [], 0x0, [⟨0, 32, .readOnly, []⟩]⟩,
  ⟨.PORT_REORDER, 0x21028, [(2, 0x4)], 0x0, [⟨0, 7, .readOnly, []⟩, ⟨16, 16, .readOnly, []⟩]⟩]

def regMap_streams : List RegDef := [
  ⟨.STREAM_CFG, 0x21100, [(7, 0x20)], 0x2, [⟨0, 1, .static, []⟩, ⟨1, 1, .live, []⟩]⟩,
  ⟨.EGQ_QUOTA, 0x21104, [(7, 0x20)], 0x400000, [⟨0, 32, .static, []⟩]⟩,
  ⟨.LAYBY_QUOTA, 0x21108, [(7, 0x20)], 0x0, [⟨0, 24, .static, []⟩]⟩,
  ⟨.CREDIT_LIMIT, 0x2110C, [(7, 0x20)], 0x0, [⟨0, 32, .readOnly, []⟩]⟩,
  ⟨.SSEQ_NEXT, 0x21110, [(7, 0x20)], 0x0, [⟨0, 32, .readOnly, []⟩]⟩,
  ⟨.EGQ_BYTES, 0x21114, [(7, 0x20)], 0x0, [⟨0, 32, .readOnly, []⟩]⟩,
  ⟨.LAYBY_BYTES, 0x21118, [(7, 0x20)], 0x0, [⟨0, 32, .readOnly, []⟩]⟩,
  ⟨.LOST_PARCELS, 0x2111C, [(7, 0x20)], 0x0, [⟨0, 32, .readOnly, []⟩]⟩]

def regMap_twin_0 : List RegDef := [
  ⟨.TW_CTL, 0x28800, [], 0x0, [⟨0, 1, .readOnly, []⟩, ⟨1, 1, .action, []⟩, ⟨8, 5, .readOnly, []⟩]⟩,
  ⟨.TW_STATUS, 0x28804, [], 0x0, [⟨0, 3, .readOnly, []⟩, ⟨3, 1, .readOnly, []⟩, ⟨4, 1, .readOnly, []⟩, ⟨5, 1, .readOnly, []⟩, ⟨6, 1, .readOnly, []⟩, ⟨7, 1, .readOnly, []⟩, ⟨8, 1, .w1c, []⟩, ⟨9, 1, .w1c, []⟩, ⟨10, 1, .readOnly, []⟩, ⟨11, 1, .readOnly, []⟩, ⟨12, 4, .readOnly, []⟩, ⟨16, 8, .readOnly, []⟩]⟩,
  ⟨.TW_PAIR_ID_LO, 0x28808, [], 0x0, [⟨0, 32, .readOnly, []⟩]⟩,
  ⟨.TW_PAIR_ID_HI, 0x2880C, [], 0x0, [⟨0, 32, .readOnly, []⟩]⟩,
  ⟨.TW_PARTNER, 0x28810, [], 0x0, [⟨0, 4, .readOnly, []⟩, ⟨4, 3, .readOnly, []⟩, ⟨7, 1, .readOnly, []⟩, ⟨8, 1, .readOnly, []⟩]⟩,
  ⟨.TW_PARTNER_CFG_LO, 0x28814, [], 0x0, [⟨0, 32, .readOnly, []⟩]⟩,
  ⟨.TW_PARTNER_CFG_HI, 0x28818, [], 0x0, [⟨0, 32, .readOnly, []⟩]⟩,
  ⟨.TW_PARTNER_FW_LO, 0x2881C, [], 0x0, [⟨0, 32, .readOnly, []⟩]⟩,
  ⟨.TW_PARTNER_FW_HI, 0x28820, [], 0x0, [⟨0, 32, .readOnly, []⟩]⟩,
  ⟨.TW_TOFS_LO, 0x28824, [], 0x0, [⟨0, 32, .readOnly, []⟩]⟩,
  ⟨.TW_TOFS_HI, 0x28828, [], 0x0, [⟨0, 32, .readOnly, []⟩]⟩,
  ⟨.TW_TOFS_FRAC, 0x2882C, [], 0x0, [⟨0, 7, .readOnly, []⟩]⟩]

def regMap_twin_1 : List RegDef := [
  ⟨.TW_TAKEOVERS, 0x28830, [], 0x0, [⟨0, 32, .readOnly, []⟩]⟩,
  ⟨.TW_REFUSALS, 0x28834, [], 0x0, [⟨0, 32, .readOnly, []⟩]⟩,
  ⟨.TW_MISS_A, 0x28838, [], 0x0, [⟨0, 32, .readOnly, []⟩]⟩,
  ⟨.TW_MISS_B, 0x2883C, [], 0x0, [⟨0, 32, .readOnly, []⟩]⟩,
  ⟨.TW_SHADOW_MISS, 0x28840, [], 0x0, [⟨0, 32, .readOnly, []⟩]⟩,
  ⟨.TW_LAST_GAP, 0x28844, [], 0x0, [⟨0, 32, .readOnly, []⟩]⟩,
  ⟨.TW_HOLD_DROP, 0x28848, [], 0x0, [⟨0, 32, .readOnly, []⟩]⟩]

def regMap_twin : List RegDef := regMap_twin_0 ++ regMap_twin_1

def regMap_memory_0 : List RegDef := [
  ⟨.MEM_CFG, 0x30000, [], 0x0, [⟨0, 2, .readOnly, []⟩, ⟨2, 1, .readOnly, []⟩, ⟨3, 1, .readOnly, []⟩, ⟨4, 1, .readOnly, []⟩, ⟨5, 3, .readOnly, []⟩, ⟨8, 6, .readOnly, []⟩, ⟨14, 4, .readOnly, []⟩]⟩,
  ⟨.MEM_STATUS, 0x30004, [], 0x0, [⟨0, 1, .readOnly, []⟩, ⟨1, 1, .readOnly, []⟩, ⟨2, 1, .w1c, []⟩, ⟨8, 4, .readOnly, []⟩, ⟨12, 4, .readOnly, []⟩, ⟨16, 9, .readOnly, []⟩]⟩,
  ⟨.SR_CFG, 0x30008, [], 0x320014, [⟨0, 1, .live, []⟩, ⟨1, 15, .live, []⟩, ⟨16, 16, .live, []⟩]⟩,
  ⟨.TOLL_CFG, 0x3000C, [], 0x641001, [⟨0, 1, .live, []⟩, ⟨1, 15, .live, []⟩, ⟨16, 16, .live, []⟩]⟩,
  ⟨.LAYBY_BASE, 0x30010, [], 0x0, [⟨0, 17, .static, []⟩]⟩,
  ⟨.LAYBY_SIZE, 0x30014, [], 0x0, [⟨0, 18, .static, []⟩]⟩,
  ⟨.REPLAY_CFG, 0x30020, [], 0xE, [⟨0, 1, .live, []⟩, ⟨1, 7, .static, []⟩]⟩,
  ⟨.REPLAY_BASE, 0x30024, [], 0x0, [⟨0, 17, .static, []⟩]⟩,
  ⟨.REPLAY_SIZE, 0x30028, [], 0x0, [⟨0, 18, .static, []⟩]⟩,
  ⟨.REPLAY_IDX, 0x3002C, [], 0x0, [⟨0, 17, .static, []⟩, ⟨17, 10, .static, []⟩]⟩,
  ⟨.REPLAY_OLDEST_LO, 0x30030, [], 0x0, [⟨0, 32, .readOnly, []⟩]⟩,
  ⟨.REPLAY_OLDEST_HI, 0x30034, [], 0x0, [⟨0, 32, .readOnly, []⟩]⟩]

def regMap_memory_1 : List RegDef := [
  ⟨.REPLAY_SKIP, 0x30038, [], 0x0, [⟨0, 32, .readOnly, []⟩]⟩,
  ⟨.REQ_START_LO, 0x30040, [], 0x0, [⟨0, 32, .live, []⟩]⟩,
  ⟨.REQ_START_HI, 0x30044, [], 0x0, [⟨0, 32, .live, []⟩]⟩,
  ⟨.REQ_END_LO, 0x30048, [], 0x0, [⟨0, 32, .live, []⟩]⟩,
  ⟨.REQ_END_HI, 0x3004C, [], 0x0, [⟨0, 32, .live, []⟩]⟩,
  ⟨.REQ_CTL, 0x30050, [], 0x0, [⟨0, 1, .action, []⟩, ⟨1, 1, .action, []⟩, ⟨2, 6, .live, []⟩, ⟨16, 16, .live, []⟩]⟩,
  ⟨.REQ_STATUS, 0x30054, [], 0x0, [⟨0, 1, .readOnly, []⟩, ⟨1, 1, .w1c, []⟩, ⟨2, 1, .w1c, []⟩, ⟨3, 1, .w1c, []⟩]⟩,
  ⟨.PORT_TRAIN, 0x30100, [(4, 0x40)], 0x0, [⟨0, 6, .readOnly, []⟩, ⟨8, 6, .readOnly, []⟩, ⟨14, 1, .readOnly, []⟩, ⟨15, 1, .readOnly, []⟩]⟩,
  ⟨.PASR_MASK, 0x30104, [(4, 0x40)], 0x0, [⟨0, 8, .static, []⟩]⟩,
  ⟨.SR_ENTRIES, 0x30108, [(4, 0x40)], 0x0, [⟨0, 32, .readOnly, []⟩]⟩,
  ⟨.LECC_CORR, 0x3010C, [(4, 0x40)], 0x0, [⟨0, 32, .readOnly, []⟩]⟩,
  ⟨.LECC_UNCORR, 0x30110, [(4, 0x40)], 0x0, [⟨0, 32, .readOnly, []⟩]⟩]

def regMap_memory_2 : List RegDef := [
  ⟨.REQ_HINT, 0x30400, [(48, 0x4)], 0x0, [⟨0, 1, .live, []⟩, ⟨16, 16, .readOnly, []⟩]⟩]

def regMap_memory : List RegDef := regMap_memory_0 ++ regMap_memory_1 ++ regMap_memory_2

def regMap_capture_0 : List RegDef := [
  ⟨.CAP_CTL, 0x38000, [], 0x0, [⟨0, 1, .action, []⟩, ⟨1, 1, .action, []⟩, ⟨2, 1, .live, []⟩, ⟨3, 1, .action, []⟩]⟩,
  ⟨.CAP_STATUS, 0x38004, [], 0x0, [⟨0, 3, .readOnly, []⟩, ⟨3, 4, .readOnly, []⟩, ⟨7, 1, .w1c, []⟩, ⟨8, 1, .w1c, []⟩]⟩,
  ⟨.CAP_NUM, 0x38008, [], 0x0, [⟨0, 32, .readOnly, []⟩]⟩,
  ⟨.CAP_DRAM_BASE, 0x3800C, [], 0x0, [⟨0, 17, .static, []⟩]⟩,
  ⟨.CAP_DRAM_SIZE, 0x38010, [], 0x0, [⟨0, 18, .static, []⟩]⟩,
  ⟨.CAP_ARM, 0x38014, [], 0x0, [⟨0, 4, .live, []⟩, ⟨4, 1, .action, []⟩]⟩,
  ⟨.CAP_LOST, 0x38018, [], 0x0, [⟨0, 32, .readOnly, []⟩]⟩,
  ⟨.CS_CTL, 0x38400, [(16, 0x100)], 0x0, [⟨0, 1, .static, []⟩, ⟨1, 1, .static, []⟩, ⟨2, 1, .static, []⟩, ⟨3, 1, .static, []⟩, ⟨8, 24, .static, []⟩]⟩,
  ⟨.CS_PRE, 0x38404, [(16, 0x100)], 0x0, [⟨0, 32, .static, []⟩]⟩,
  ⟨.CS_POST, 0x38408, [(16, 0x100)], 0x0, [⟨0, 32, .static, []⟩]⟩,
  ⟨.CS_SLOT, 0x38410, [(16, 0x100), (16, 0x4)], 0x0, [⟨0, 3, .static, [(5, 7)]⟩, ⟨8, 11, .static, []⟩]⟩,
  ⟨.TC_CTL, 0x38450, [(16, 0x100), (4, 0x20)], 0x0, [⟨0, 3, .static, [(5, 7)]⟩, ⟨3, 1, .static, []⟩, ⟨4, 4, .static, []⟩]⟩]

def regMap_capture_1 : List RegDef := [
  ⟨.TC_A, 0x38454, [(16, 0x100), (4, 0x20)], 0x0, [⟨0, 32, .static, []⟩]⟩,
  ⟨.TC_B, 0x38458, [(16, 0x100), (4, 0x20)], 0x0, [⟨0, 32, .static, []⟩]⟩,
  ⟨.TC_C, 0x3845C, [(16, 0x100), (4, 0x20)], 0x0, [⟨0, 32, .static, []⟩]⟩,
  ⟨.TC_D, 0x38460, [(16, 0x100), (4, 0x20)], 0x0, [⟨0, 32, .static, []⟩]⟩]

def regMap_capture : List RegDef := regMap_capture_0 ++ regMap_capture_1

def regMap_housekeeping_0 : List RegDef := [
  ⟨.HK_CTL, 0x40000, [], 0x10000, [⟨0, 1, .live, []⟩, ⟨1, 6, .static, []⟩, ⟨8, 8, .static, []⟩, ⟨16, 1, .live, []⟩]⟩,
  ⟨.HK_STATUS, 0x40004, [], 0x0, [⟨0, 1, .w1c, []⟩, ⟨1, 1, .w1c, []⟩, ⟨2, 6, .readOnly, []⟩, ⟨16, 9, .readOnly, []⟩]⟩,
  ⟨.RQ_POP_LO, 0x40008, [], 0x0, [⟨0, 32, .readOnly, []⟩]⟩,
  ⟨.RQ_POP_HI, 0x4000C, [], 0x0, [⟨0, 32, .readOnly, []⟩]⟩,
  ⟨.RQ_DROP_COUNT, 0x40010, [], 0x0, [⟨0, 32, .readOnly, []⟩]⟩,
  ⟨.TEMP_SEL, 0x40014, [], 0x0, [⟨0, 4, .live, []⟩, ⟨4, 5, .live, []⟩]⟩,
  ⟨.SUP_STATUS, 0x40020, [], 0x0, [⟨0, 8, .w1c, []⟩, ⟨8, 8, .w1c, []⟩, ⟨16, 8, .readOnly, []⟩]⟩,
  ⟨.LOAD_STATUS, 0x40024, [], 0x0, [⟨0, 2, .readOnly, []⟩, ⟨2, 1, .readOnly, []⟩, ⟨3, 4, .readOnly, []⟩, ⟨7, 8, .readOnly, []⟩]⟩,
  ⟨.SUP_DWELL, 0x40028, [], 0x4, [⟨0, 4, .live, []⟩]⟩,
  ⟨.SUP_WIN, 0x40040, [(8, 0x4)], 0x0, [⟨0, 12, .live, []⟩, ⟨16, 12, .live, []⟩]⟩,
  ⟨.SP_CFG, 0x40100, [(8, 0x40)], 0x1E0000, [⟨0, 1, .live, []⟩, ⟨1, 2, .static, [(3, 3)]⟩, ⟨3, 3, .live, []⟩, ⟨6, 3, .live, []⟩, ⟨9, 1, .static, []⟩, ⟨10, 1, .static, []⟩, ⟨11, 2, .static, []⟩, ⟨13, 2, .static, [(3, 3)]⟩, ⟨15, 2, .static, []⟩, ⟨17, 4, .static, [(9, 14)]⟩, ⟨21, 3, .live, []⟩]⟩,
  ⟨.SP_TIMING, 0x40104, [(8, 0x40)], 0x32193E8, [⟨0, 10, .static, []⟩, ⟨10, 10, .static, []⟩, ⟨20, 10, .static, []⟩]⟩]

def regMap_housekeeping_1 : List RegDef := [
  ⟨.SP_STATUS, 0x40108, [(8, 0x40)], 0x0, [⟨0, 1, .readOnly, []⟩, ⟨1, 1, .readOnly, []⟩, ⟨2, 1, .w1c, []⟩, ⟨3, 1, .w1c, []⟩, ⟨4, 1, .w1c, []⟩, ⟨5, 1, .readOnly, []⟩, ⟨6, 1, .w1c, []⟩, ⟨7, 1, .w1c, []⟩, ⟨8, 1, .w1c, []⟩, ⟨9, 1, .w1c, []⟩]⟩,
  ⟨.SP_OUT, 0x4010C, [(8, 0x40)], 0x0, [⟨0, 32, .readOnly, []⟩]⟩,
  ⟨.SP_X, 0x40110, [(8, 0x40)], 0x0, [⟨0, 32, .readOnly, []⟩]⟩,
  ⟨.SP_OUT_COUNT, 0x40114, [(8, 0x40)], 0x0, [⟨0, 32, .readOnly, []⟩]⟩,
  ⟨.SP_FIT, 0x40118, [(8, 0x40)], 0x0, [⟨0, 16, .readOnly, []⟩]⟩,
  ⟨.SP_REF, 0x4011C, [(8, 0x40)], 0x0, [⟨0, 24, .static, []⟩]⟩,
  ⟨.SP_SPAN, 0x40120, [(8, 0x40)], 0x0, [⟨0, 16, .static, []⟩, ⟨16, 16, .static, []⟩]⟩,
  ⟨.SEQ_ENTRY, 0x40400, [(64, 0x4)], 0x0, [⟨0, 6, .live, [(40, 63)]⟩, ⟨6, 1, .live, []⟩, ⟨7, 1, .live, []⟩, ⟨8, 8, .live, []⟩, ⟨16, 10, .live, []⟩]⟩,
  ⟨.SP_COEF, 0x41000, [(8, 0x100), (6, 0xC), (3, 0x4)], 0x0, [⟨0, 32, .static, []⟩]⟩,
  ⟨.SP_NTC, 0x41080, [(8, 0x100), (3, 0x4)], 0x0, [⟨0, 32, .static, []⟩]⟩]

def regMap_housekeeping : List RegDef := regMap_housekeeping_0 ++ regMap_housekeeping_1

def regMap_thermal_0 : List RegDef := [
  ⟨.THERM_CTL, 0x48000, [], 0x3E8400F, [⟨0, 1, .live, []⟩, ⟨1, 1, .live, []⟩, ⟨2, 1, .live, []⟩, ⟨3, 1, .live, []⟩, ⟨4, 1, .live, []⟩, ⟨5, 1, .live, []⟩, ⟨6, 1, .action, []⟩, ⟨8, 8, .live, []⟩, ⟨16, 16, .live, []⟩]⟩,
  ⟨.THERM_CFG, 0x48004, [], 0x4100096, [⟨0, 16, .live, []⟩, ⟨16, 8, .live, []⟩, ⟨24, 5, .live, []⟩]⟩,
  ⟨.THERM_STATUS, 0x48008, [], 0x0, [⟨0, 3, .readOnly, []⟩, ⟨3, 1, .readOnly, []⟩, ⟨4, 1, .w1c, []⟩, ⟨5, 1, .readOnly, []⟩, ⟨6, 1, .w1c, []⟩, ⟨7, 1, .w1c, []⟩, ⟨8, 1, .w1c, []⟩]⟩,
  ⟨.PART_TEMP, 0x4800C, [], 0x0, [⟨0, 16, .readOnly, []⟩, ⟨16, 16, .readOnly, []⟩]⟩,
  ⟨.THERMAL_CAP, 0x48010, [], 0xFFF, [⟨0, 12, .readOnly, []⟩]⟩,
  ⟨.HUB_SENSOR_FAULT, 0x48014, [], 0x0, [⟨0, 24, .readOnly, []⟩]⟩,
  ⟨.CROSS_COUNT, 0x48018, [(4, 0x4)], 0x0, [⟨0, 32, .readOnly, []⟩]⟩,
  ⟨.CAL_COUNT, 0x48028, [], 0x0, [⟨0, 32, .readOnly, []⟩]⟩,
  ⟨.CAL_LAST_LO, 0x4802C, [], 0x0, [⟨0, 32, .readOnly, []⟩]⟩,
  ⟨.CAL_LAST_HI, 0x48030, [], 0x0, [⟨0, 32, .readOnly, []⟩]⟩,
  ⟨.LAST_SHUT, 0x48034, [], 0x0, [⟨0, 3, .readOnly, []⟩, ⟨4, 4, .readOnly, []⟩, ⟨8, 5, .readOnly, []⟩, ⟨16, 16, .readOnly, []⟩]⟩,
  ⟨.SHUT_COUNT, 0x48038, [], 0x0, [⟨0, 32, .readOnly, []⟩]⟩]

def regMap_thermal_1 : List RegDef := [
  ⟨.REF_CFG, 0x48040, [(2, 0x10)], 0x100000, [⟨0, 5, .static, []⟩, ⟨5, 11, .static, []⟩, ⟨16, 7, .static, []⟩]⟩,
  ⟨.REF_LEN, 0x48044, [(2, 0x10)], 0x0, [⟨0, 20, .static, []⟩]⟩,
  ⟨.REF_STATUS, 0x48048, [(2, 0x10)], 0x0, [⟨0, 16, .readOnly, []⟩, ⟨16, 16, .readOnly, []⟩]⟩,
  ⟨.PORT_LIMIT, 0x48080, [(8, 0x4)], 0x7FFFFFFF, [⟨0, 32, .live, []⟩]⟩,
  ⟨.HUB_TEMP, 0x48100, [(24, 0x4)], 0x0, [⟨0, 16, .readOnly, []⟩]⟩]

def regMap_thermal : List RegDef := regMap_thermal_0 ++ regMap_thermal_1

def regMap_dieThermal : List RegDef := [
  ⟨.DIE_THERM, 0x50000, [], 0x0, [⟨0, 16, .readOnly, []⟩, ⟨16, 16, .readOnly, []⟩]⟩,
  ⟨.DIE_CAL, 0x50004, [], 0x0, [⟨0, 16, .readOnly, []⟩, ⟨16, 1, .readOnly, []⟩]⟩,
  ⟨.DIE_CAL_LATE, 0x50008, [], 0x0, [⟨0, 32, .readOnly, []⟩]⟩,
  ⟨.DIE_CAL_SKIP, 0x5000C, [], 0x0, [⟨0, 32, .readOnly, []⟩]⟩,
  ⟨.DIE_CAL_COUNT, 0x50010, [], 0x0, [⟨0, 32, .readOnly, []⟩]⟩,
  ⟨.DIE_TEMP, 0x50100, [(16, 0x4)], 0x0, [⟨0, 16, .readOnly, []⟩]⟩]

def regMap_security_0 : List RegDef := [
  ⟨.SEC_STATUS, 0x50000, [], 0x700, [⟨0, 1, .readOnly, []⟩, ⟨1, 1, .readOnly, []⟩, ⟨2, 1, .w1c, []⟩, ⟨3, 1, .readOnly, []⟩, ⟨4, 1, .readOnly, []⟩, ⟨5, 1, .readOnly, []⟩, ⟨6, 1, .w1c, []⟩, ⟨7, 1, .w1c, []⟩, ⟨8, 3, .readOnly, []⟩]⟩,
  ⟨.CFG_FAIL, 0x50004, [], 0x0, [⟨1, 12, .readOnly, []⟩]⟩,
  ⟨.DEV_SERIAL_LO, 0x50008, [], 0x0, [⟨0, 32, .readOnly, []⟩]⟩,
  ⟨.DEV_SERIAL_HI, 0x5000C, [], 0x0, [⟨0, 32, .readOnly, []⟩]⟩,
  ⟨.FW_ID_LO, 0x50010, [], 0x0, [⟨0, 32, .readOnly, []⟩]⟩,
  ⟨.FW_ID_HI, 0x50014, [], 0x0, [⟨0, 32, .readOnly, []⟩]⟩,
  ⟨.CFG_ID_LO, 0x50018, [], 0x0, [⟨0, 32, .readOnly, []⟩]⟩,
  ⟨.CFG_ID_HI, 0x5001C, [], 0x0, [⟨0, 32, .readOnly, []⟩]⟩,
  ⟨.POWER_CYCLES, 0x50020, [], 0x0, [⟨0, 32, .readOnly, []⟩]⟩,
  ⟨.LEDGER_COUNT, 0x50024, [], 0x0, [⟨0, 14, .readOnly, []⟩]⟩,
  ⟨.FW_SVN, 0x50028, [], 0x0, [⟨0, 16, .readOnly, []⟩, ⟨16, 16, .readOnly, []⟩]⟩,
  ⟨.LIMIT_USED, 0x5002C, [], 0x0, [⟨0, 5, .readOnly, []⟩, ⟨8, 6, .readOnly, []⟩, ⟨16, 4, .readOnly, []⟩]⟩]

def regMap_security_1 : List RegDef := [
  ⟨.KEY_USED, 0x50030, [], 0x0, [⟨0, 16, .readOnly, []⟩]⟩,
  ⟨.LEDG_CTL, 0x50034, [], 0x0, [⟨0, 1, .action, []⟩]⟩,
  ⟨.LEDG_RESULT, 0x50038, [], 0x0, [⟨0, 4, .readOnly, []⟩, ⟨16, 16, .readOnly, []⟩]⟩,
  ⟨.DEV_PUBKEY, 0x50040, [(8, 0x4)], 0x0, [⟨0, 32, .readOnly, []⟩]⟩,
  ⟨.AUTH_CTL, 0x50060, [], 0x0, [⟨0, 2, .live, []⟩, ⟨2, 1, .action, []⟩, ⟨3, 1, .action, []⟩]⟩,
  ⟨.AUTH_CHAL, 0x50080, [(8, 0x4)], 0x0, [⟨0, 32, .readOnly, []⟩]⟩,
  ⟨.AUTH_SIG, 0x500A0, [(16, 0x4)], 0x0, [⟨0, 32, .live, []⟩]⟩,
  ⟨.ATT_NONCE, 0x500E0, [(8, 0x4)], 0x0, [⟨0, 32, .live, []⟩]⟩,
  ⟨.ATT_CTL, 0x50100, [], 0x0, [⟨0, 1, .action, []⟩]⟩]

def regMap_security : List RegDef := regMap_security_0 ++ regMap_security_1

def regMap_startup : List RegDef := [
  ⟨.RST_STATUS, 0x800, [], 0x100, [⟨0, 3, .readOnly, []⟩, ⟨3, 1, .readOnly, []⟩, ⟨4, 1, .readOnly, []⟩, ⟨8, 4, .readOnly, []⟩, ⟨12, 1, .readOnly, []⟩, ⟨13, 1, .readOnly, []⟩, ⟨14, 1, .readOnly, []⟩]⟩,
  ⟨.RST_CTL, 0x804, [], 0x0, [⟨0, 1, .action, []⟩]⟩,
  ⟨.STARTUP_TIME_LO, 0x808, [], 0x0, [⟨0, 32, .readOnly, []⟩]⟩,
  ⟨.STARTUP_TIME_HI, 0x80C, [], 0x0, [⟨0, 32, .readOnly, []⟩]⟩,
  ⟨.NRST_STUCK_COUNT, 0x810, [], 0x0, [⟨0, 32, .readOnly, []⟩]⟩,
  ⟨.ERR_CFG, 0x814, [], 0x640064, [⟨0, 16, .live, []⟩, ⟨16, 16, .live, []⟩]⟩,
  ⟨.ERR_STATUS, 0x818, [], 0x0, [⟨0, 7, .readOnly, []⟩, ⟨8, 7, .readOnly, []⟩, ⟨16, 1, .w1c, []⟩, ⟨17, 1, .readOnly, []⟩]⟩,
  ⟨.ERR_CTL, 0x81C, [], 0x0, [⟨0, 1, .action, []⟩]⟩,
  ⟨.ERR_HEAD, 0x820, [(6, 0x4)], 0x0, [⟨0, 32, .readOnly, []⟩]⟩,
  ⟨.DIE_CAP, 0x880, [(8, 0x4)], 0x0, [⟨0, 8, .readOnly, []⟩, ⟨8, 8, .readOnly, []⟩, ⟨16, 8, .readOnly, []⟩, ⟨24, 1, .readOnly, []⟩, ⟨25, 1, .readOnly, []⟩]⟩,
  ⟨.ERR_CLASS_CFG, 0x8A0, [(18, 0x4)], 0x0, [⟨0, 2, .live, [(3, 3)]⟩, ⟨2, 1, .live, []⟩]⟩,
  ⟨.ERR_COUNT, 0x8E8, [(18, 0x4)], 0x0, [⟨0, 16, .readOnly, []⟩, ⟨16, 16, .readOnly, []⟩]⟩]

end Sys2Proof.Machine
end

