-- ==== Sys2Proof/Machine/Regs.lean ====
section
/-! DEFINITION. The names of the registers and fields, as the register tables of spec/ write them:
`R.<REGISTER>.addr` is a register's part address and `R.<REGISTER>.<FIELD>` a field of it. An index of a name
is the index of the table (d a die, c a local channel, h a head, and so on). A field that bears its register's
name is called `value`. -/

namespace Sys2Proof.Machine

/-- A field of a register: the part address of its register, its lowest bit and its width. -/
structure Field where
  addr : Nat
  lo : Nat
  w : Nat
  deriving DecidableEq, Repr

/-- Lanes 0 to 11 are the trunk's (R276); lanes 12 to 15 stand for causeway lanes 0 to 3, laid out alike (R299). -/
def R.laneBase (l : Nat) : Nat := if l < 12 then 0x20000 + 0x100 * l else 0x28000 + 0x100 * (l - 12)

/-- DIE_ID, 01_architecture.md R27. -/
def R.DIE_ID.addr (d : Nat) : Nat := 0x1000000 * d + 0x0
def R.DIE_ID.DIE_NUM (d : Nat) : Field := ⟨(R.DIE_ID.addr d), 0, 4⟩
def R.DIE_ID.VARIANT (d : Nat) : Field := ⟨(R.DIE_ID.addr d), 4, 4⟩
def R.DIE_ID.DIES_PRESENT (d : Nat) : Field := ⟨(R.DIE_ID.addr d), 8, 8⟩
def R.DIE_ID.REV (d : Nat) : Field := ⟨(R.DIE_ID.addr d), 16, 8⟩

/-- PACE_STATUS, 01_architecture.md R27. -/
def R.PACE_STATUS.addr (d : Nat) : Nat := 0x1000000 * d + 0x4
def R.PACE_STATUS.PACE_NOW (d : Nat) : Field := ⟨(R.PACE_STATUS.addr d), 0, 10⟩
def R.PACE_STATUS.PACE_MIN (d : Nat) : Field := ⟨(R.PACE_STATUS.addr d), 10, 10⟩
def R.PACE_STATUS.RING_FAULT (d : Nat) : Field := ⟨(R.PACE_STATUS.addr d), 20, 4⟩
def R.PACE_STATUS.PACE_VALID (d : Nat) : Field := ⟨(R.PACE_STATUS.addr d), 24, 1⟩
def R.PACE_STATUS.PACE_LOW (d : Nat) : Field := ⟨(R.PACE_STATUS.addr d), 25, 1⟩

/-- PACE_CFG, 01_architecture.md R27. -/
def R.PACE_CFG.addr (d : Nat) : Nat := 0x1000000 * d + 0x8
def R.PACE_CFG.PACE_LOW_THR (d : Nat) : Field := ⟨(R.PACE_CFG.addr d), 0, 10⟩
def R.PACE_CFG.PACE_DWELL (d : Nat) : Field := ⟨(R.PACE_CFG.addr d), 10, 2⟩
def R.PACE_CFG.PACE_MIN_RESTART (d : Nat) : Field := ⟨(R.PACE_CFG.addr d), 12, 1⟩

/-- FAB_STATUS, 01_architecture.md R27. -/
def R.FAB_STATUS.addr : Nat := 0xC
def R.FAB_STATUS.DIES_DARK : Field := ⟨R.FAB_STATUS.addr, 0, 8⟩
def R.FAB_STATUS.UNMAPPED : Field := ⟨R.FAB_STATUS.addr, 16, 1⟩

/-- PART_PACE, 01_architecture.md R27. -/
def R.PART_PACE.addr : Nat := 0x10
def R.PART_PACE.value : Field := ⟨R.PART_PACE.addr, 0, 10⟩

/-- FAB_UNMAPPED_ADDR_LO, 01_architecture.md R27. -/
def R.FAB_UNMAPPED_ADDR_LO.addr : Nat := 0x14
def R.FAB_UNMAPPED_ADDR_LO.UNMAPPED_ADDR_LO : Field := ⟨R.FAB_UNMAPPED_ADDR_LO.addr, 0, 32⟩

/-- FAB_UNMAPPED_ADDR_HI, 01_architecture.md R27. -/
def R.FAB_UNMAPPED_ADDR_HI.addr : Nat := 0x18
def R.FAB_UNMAPPED_ADDR_HI.UNMAPPED_ADDR_HI : Field := ⟨R.FAB_UNMAPPED_ADDR_HI.addr, 0, 8⟩
def R.FAB_UNMAPPED_ADDR_HI.UNMAPPED_REQ : Field := ⟨R.FAB_UNMAPPED_ADDR_HI.addr, 8, 8⟩

/-- FAB_UNMAPPED_COUNT, 01_architecture.md R27. -/
def R.FAB_UNMAPPED_COUNT.addr : Nat := 0x1C
def R.FAB_UNMAPPED_COUNT.UNMAPPED_COUNT : Field := ⟨R.FAB_UNMAPPED_COUNT.addr, 0, 32⟩

/-- CH_CFG, 02_channels_and_time.md R42. -/
def R.CH_CFG.addr (d c : Nat) : Nat := 0x1000000 * d + 0x10000 + 0x40 * c
def R.CH_CFG.CH_EN (d c : Nat) : Field := ⟨(R.CH_CFG.addr d c), 0, 1⟩
def R.CH_CFG.TERM (d c : Nat) : Field := ⟨(R.CH_CFG.addr d c), 1, 2⟩
def R.CH_CFG.INV (d c : Nat) : Field := ⟨(R.CH_CFG.addr d c), 3, 1⟩
def R.CH_CFG.WALK_EN (d c : Nat) : Field := ⟨(R.CH_CFG.addr d c), 4, 1⟩

/-- CH_THR, 02_channels_and_time.md R42. -/
def R.CH_THR.addr (d c : Nat) : Nat := 0x1000000 * d + 0x10004 + 0x40 * c
def R.CH_THR.THR_LO (d c : Nat) : Field := ⟨(R.CH_THR.addr d c), 0, 10⟩
def R.CH_THR.THR_HI (d c : Nat) : Field := ⟨(R.CH_THR.addr d c), 16, 10⟩

/-- CH_OFS, 02_channels_and_time.md R42. -/
def R.CH_OFS.addr (d c : Nat) : Nat := 0x1000000 * d + 0x10008 + 0x40 * c
def R.CH_OFS.OFS_LO (d c : Nat) : Field := ⟨(R.CH_OFS.addr d c), 0, 10⟩
def R.CH_OFS.OFS_HI (d c : Nat) : Field := ⟨(R.CH_OFS.addr d c), 16, 10⟩

/-- CH_DEAD, 02_channels_and_time.md R42. -/
def R.CH_DEAD.addr (d c : Nat) : Nat := 0x1000000 * d + 0x1000C + 0x40 * c
def R.CH_DEAD.REARM (d c : Nat) : Field := ⟨(R.CH_DEAD.addr d c), 0, 8⟩

/-- CH_STATUS, 02_channels_and_time.md R42. -/
def R.CH_STATUS.addr (d c : Nat) : Nat := 0x1000000 * d + 0x10010 + 0x40 * c
def R.CH_STATUS.THR_REJ (d c : Nat) : Field := ⟨(R.CH_STATUS.addr d c), 0, 1⟩
def R.CH_STATUS.FIFO_OVF (d c : Nat) : Field := ⟨(R.CH_STATUS.addr d c), 1, 1⟩
def R.CH_STATUS.STUCK_HIGH (d c : Nat) : Field := ⟨(R.CH_STATUS.addr d c), 2, 1⟩
def R.CH_STATUS.WRITE_REJECTED (d c : Nat) : Field := ⟨(R.CH_STATUS.addr d c), 3, 1⟩

/-- CH_EVT_COUNT, 02_channels_and_time.md R42. -/
def R.CH_EVT_COUNT.addr (d c : Nat) : Nat := 0x1000000 * d + 0x10014 + 0x40 * c
def R.CH_EVT_COUNT.EVT_COUNT (d c : Nat) : Field := ⟨(R.CH_EVT_COUNT.addr d c), 0, 32⟩

/-- CH_DROP_COUNT, 02_channels_and_time.md R42. -/
def R.CH_DROP_COUNT.addr (d c : Nat) : Nat := 0x1000000 * d + 0x10018 + 0x40 * c
def R.CH_DROP_COUNT.DROP_COUNT (d c : Nat) : Field := ⟨(R.CH_DROP_COUNT.addr d c), 0, 32⟩

/-- CH_RUNT_COUNT, 02_channels_and_time.md R42. -/
def R.CH_RUNT_COUNT.addr (d c : Nat) : Nat := 0x1000000 * d + 0x1001C + 0x40 * c
def R.CH_RUNT_COUNT.RUNT_COUNT (d c : Nat) : Field := ⟨(R.CH_RUNT_COUNT.addr d c), 0, 32⟩

/-- CH_WALK, 02_channels_and_time.md R42. -/
def R.CH_WALK.addr (d c j : Nat) : Nat := 0x1000000 * d + 0x14000 + 0x40 * c + 0x4 * j
def R.CH_WALK.E_EVEN (d c j : Nat) : Field := ⟨(R.CH_WALK.addr d c j), 0, 16⟩
def R.CH_WALK.E_ODD (d c j : Nat) : Field := ⟨(R.CH_WALK.addr d c j), 16, 16⟩

/-- TB_STATUS, 02_channels_and_time.md R58. -/
def R.TB_STATUS.addr : Nat := 0x1000
def R.TB_STATUS.LOCKED : Field := ⟨R.TB_STATUS.addr, 0, 1⟩
def R.TB_STATUS.HOLDOVER : Field := ⟨R.TB_STATUS.addr, 1, 1⟩
def R.TB_STATUS.LOCK_LOST : Field := ⟨R.TB_STATUS.addr, 2, 1⟩
def R.TB_STATUS.FREF_PRESENT : Field := ⟨R.TB_STATUS.addr, 3, 1⟩
def R.TB_STATUS.WRITE_REJECTED : Field := ⟨R.TB_STATUS.addr, 4, 1⟩
def R.TB_STATUS.LOCK_LOSS_COUNT : Field := ⟨R.TB_STATUS.addr, 16, 16⟩

/-- DEVTIME_LO, 02_channels_and_time.md R58. -/
def R.DEVTIME_LO.addr : Nat := 0x1004
def R.DEVTIME_LO.value : Field := ⟨R.DEVTIME_LO.addr, 0, 32⟩

/-- DEVTIME_HI, 02_channels_and_time.md R58. -/
def R.DEVTIME_HI.addr : Nat := 0x1008
def R.DEVTIME_HI.value : Field := ⟨R.DEVTIME_HI.addr, 0, 32⟩

/-- POWERED_HOURS, 02_channels_and_time.md R58. -/
def R.POWERED_HOURS.addr : Nat := 0x100C
def R.POWERED_HOURS.value : Field := ⟨R.POWERED_HOURS.addr, 0, 32⟩

/-- ANCHOR_LABEL_LO, 02_channels_and_time.md R58. -/
def R.ANCHOR_LABEL_LO.addr : Nat := 0x1010
def R.ANCHOR_LABEL_LO.LABEL_LO : Field := ⟨R.ANCHOR_LABEL_LO.addr, 0, 32⟩

/-- ANCHOR_LABEL_HI, 02_channels_and_time.md R58. -/
def R.ANCHOR_LABEL_HI.addr : Nat := 0x1014
def R.ANCHOR_LABEL_HI.LABEL_HI : Field := ⟨R.ANCHOR_LABEL_HI.addr, 0, 32⟩

/-- ANCHOR_AT_LO, 02_channels_and_time.md R58. -/
def R.ANCHOR_AT_LO.addr : Nat := 0x1018
def R.ANCHOR_AT_LO.AT_LO : Field := ⟨R.ANCHOR_AT_LO.addr, 0, 32⟩

/-- ANCHOR_AT_HI, 02_channels_and_time.md R58. -/
def R.ANCHOR_AT_HI.addr : Nat := 0x101C
def R.ANCHOR_AT_HI.AT_HI : Field := ⟨R.ANCHOR_AT_HI.addr, 0, 32⟩

/-- ANCHOR_CTL, 02_channels_and_time.md R58. -/
def R.ANCHOR_CTL.addr : Nat := 0x1020
def R.ANCHOR_CTL.ANCHOR_GO : Field := ⟨R.ANCHOR_CTL.addr, 0, 1⟩
def R.ANCHOR_CTL.ANCHOR_DEPTH : Field := ⟨R.ANCHOR_CTL.addr, 1, 4⟩
def R.ANCHOR_CTL.ANCHOR_FULL : Field := ⟨R.ANCHOR_CTL.addr, 5, 1⟩
def R.ANCHOR_CTL.ANCHOR_REPEAT : Field := ⟨R.ANCHOR_CTL.addr, 8, 8⟩
def R.ANCHOR_CTL.ANCHOR_REJ_COUNT : Field := ⟨R.ANCHOR_CTL.addr, 16, 16⟩

/-- SYNC_CFG, 02_channels_and_time.md R58. -/
def R.SYNC_CFG.addr : Nat := 0x1030
def R.SYNC_CFG.SYNC_EN : Field := ⟨R.SYNC_CFG.addr, 0, 1⟩
def R.SYNC_CFG.SYNC_EDGE : Field := ⟨R.SYNC_CFG.addr, 1, 1⟩
def R.SYNC_CFG.SYNC_DIV : Field := ⟨R.SYNC_CFG.addr, 4, 4⟩

/-- SYNC_NOM, 02_channels_and_time.md R58. -/
def R.SYNC_NOM.addr : Nat := 0x1034
def R.SYNC_NOM.value : Field := ⟨R.SYNC_NOM.addr, 0, 32⟩

/-- SYNC_TOL, 02_channels_and_time.md R58. -/
def R.SYNC_TOL.addr : Nat := 0x1038
def R.SYNC_TOL.value : Field := ⟨R.SYNC_TOL.addr, 0, 20⟩

/-- SYNC_STATUS, 02_channels_and_time.md R58. -/
def R.SYNC_STATUS.addr : Nat := 0x103C
def R.SYNC_STATUS.SYNC_QUAL : Field := ⟨R.SYNC_STATUS.addr, 0, 2⟩
def R.SYNC_STATUS.SYNC_EARLY : Field := ⟨R.SYNC_STATUS.addr, 2, 1⟩
def R.SYNC_STATUS.SYNC_MISS : Field := ⟨R.SYNC_STATUS.addr, 3, 1⟩
def R.SYNC_STATUS.SYNC_FIFO_OVF : Field := ⟨R.SYNC_STATUS.addr, 4, 1⟩
def R.SYNC_STATUS.SYNC_FIFO_DEPTH : Field := ⟨R.SYNC_STATUS.addr, 8, 5⟩
def R.SYNC_STATUS.SYNC_MISS_COUNT : Field := ⟨R.SYNC_STATUS.addr, 16, 16⟩

/-- SYNC_FIFO_LO, 02_channels_and_time.md R58. -/
def R.SYNC_FIFO_LO.addr : Nat := 0x1040
def R.SYNC_FIFO_LO.STAMP_LO : Field := ⟨R.SYNC_FIFO_LO.addr, 0, 32⟩

/-- SYNC_FIFO_HI, 02_channels_and_time.md R58. -/
def R.SYNC_FIFO_HI.addr : Nat := 0x1044
def R.SYNC_FIFO_HI.STAMP_HI : Field := ⟨R.SYNC_FIFO_HI.addr, 0, 32⟩

/-- SYNC_FIFO_X, 02_channels_and_time.md R58. -/
def R.SYNC_FIFO_X.addr : Nat := 0x1048
def R.SYNC_FIFO_X.STAMP_TOP : Field := ⟨R.SYNC_FIFO_X.addr, 0, 7⟩
def R.SYNC_FIFO_X.EARLY : Field := ⟨R.SYNC_FIFO_X.addr, 7, 1⟩

/-- SYNC_PERIOD, 02_channels_and_time.md R58. -/
def R.SYNC_PERIOD.addr : Nat := 0x104C
def R.SYNC_PERIOD.value : Field := ⟨R.SYNC_PERIOD.addr, 0, 32⟩

/-- IU_CTL, 02_channels_and_time.md R58. -/
def R.IU_CTL.addr : Nat := 0x1060
def R.IU_CTL.IU_START_SRC : Field := ⟨R.IU_CTL.addr, 0, 5⟩
def R.IU_CTL.IU_STOP_SRC : Field := ⟨R.IU_CTL.addr, 5, 5⟩
def R.IU_CTL.START_EDGE : Field := ⟨R.IU_CTL.addr, 10, 1⟩
def R.IU_CTL.STOP_EDGE : Field := ⟨R.IU_CTL.addr, 11, 1⟩
def R.IU_CTL.IU_ARM : Field := ⟨R.IU_CTL.addr, 12, 1⟩
def R.IU_CTL.IU_ABORT : Field := ⟨R.IU_CTL.addr, 13, 1⟩
def R.IU_CTL.IU_SWSTOP : Field := ⟨R.IU_CTL.addr, 14, 1⟩
def R.IU_CTL.IU_BANK : Field := ⟨R.IU_CTL.addr, 16, 6⟩

/-- IU_TIMEOUT, 02_channels_and_time.md R58. -/
def R.IU_TIMEOUT.addr : Nat := 0x1064
def R.IU_TIMEOUT.value : Field := ⟨R.IU_TIMEOUT.addr, 0, 32⟩

/-- IU_STATUS, 02_channels_and_time.md R58. -/
def R.IU_STATUS.addr : Nat := 0x1068
def R.IU_STATUS.IU_STATE : Field := ⟨R.IU_STATUS.addr, 0, 2⟩
def R.IU_STATUS.IU_VALID : Field := ⟨R.IU_STATUS.addr, 2, 1⟩
def R.IU_STATUS.IU_TIMEOUT_FLAG : Field := ⟨R.IU_STATUS.addr, 3, 1⟩
def R.IU_STATUS.IU_BUSY_REJ : Field := ⟨R.IU_STATUS.addr, 4, 1⟩
def R.IU_STATUS.IU_OWNER : Field := ⟨R.IU_STATUS.addr, 5, 1⟩

/-- IU_RESULT_LO, 02_channels_and_time.md R58. -/
def R.IU_RESULT_LO.addr : Nat := 0x106C
def R.IU_RESULT_LO.RESULT_LO : Field := ⟨R.IU_RESULT_LO.addr, 0, 32⟩

/-- IU_RESULT_HI, 02_channels_and_time.md R58. -/
def R.IU_RESULT_HI.addr : Nat := 0x1070
def R.IU_RESULT_HI.RESULT_HI : Field := ⟨R.IU_RESULT_HI.addr, 0, 8⟩

/-- FU_CTL, 02_channels_and_time.md R58. -/
def R.FU_CTL.addr : Nat := 0x1080
def R.FU_CTL.FU_SRC : Field := ⟨R.FU_CTL.addr, 0, 4⟩
def R.FU_CTL.FU_GATE_SEL : Field := ⟨R.FU_CTL.addr, 4, 1⟩
def R.FU_CTL.FU_GATE_POL : Field := ⟨R.FU_CTL.addr, 5, 1⟩
def R.FU_CTL.MAINS_AUTO : Field := ⟨R.FU_CTL.addr, 6, 1⟩
def R.FU_CTL.FU_START : Field := ⟨R.FU_CTL.addr, 7, 1⟩
def R.FU_CTL.MAINS_AUX : Field := ⟨R.FU_CTL.addr, 8, 4⟩

/-- FU_GATE_LEN, 02_channels_and_time.md R58. -/
def R.FU_GATE_LEN.addr : Nat := 0x1084
def R.FU_GATE_LEN.value : Field := ⟨R.FU_GATE_LEN.addr, 0, 32⟩

/-- FU_STATUS, 02_channels_and_time.md R58. -/
def R.FU_STATUS.addr : Nat := 0x1088
def R.FU_STATUS.FU_BUSY : Field := ⟨R.FU_STATUS.addr, 0, 1⟩
def R.FU_STATUS.FU_DONE : Field := ⟨R.FU_STATUS.addr, 1, 1⟩
def R.FU_STATUS.FU_CLIP : Field := ⟨R.FU_STATUS.addr, 2, 1⟩
def R.FU_STATUS.FU_FEW : Field := ⟨R.FU_STATUS.addr, 3, 1⟩
def R.FU_STATUS.MAINS_REJ : Field := ⟨R.FU_STATUS.addr, 4, 1⟩

/-- FU_EDGES, 02_channels_and_time.md R58. -/
def R.FU_EDGES.addr : Nat := 0x108C
def R.FU_EDGES.value : Field := ⟨R.FU_EDGES.addr, 0, 32⟩

/-- FU_PERIOD_INT, 02_channels_and_time.md R58. -/
def R.FU_PERIOD_INT.addr : Nat := 0x1090
def R.FU_PERIOD_INT.PERIOD_INT : Field := ⟨R.FU_PERIOD_INT.addr, 0, 32⟩

/-- FU_PERIOD_FRAC, 02_channels_and_time.md R58. -/
def R.FU_PERIOD_FRAC.addr : Nat := 0x1094
def R.FU_PERIOD_FRAC.PERIOD_FRAC : Field := ⟨R.FU_PERIOD_FRAC.addr, 0, 32⟩

/-- FU_RESID, 02_channels_and_time.md R58. -/
def R.FU_RESID.addr : Nat := 0x1098
def R.FU_RESID.value : Field := ⟨R.FU_RESID.addr, 0, 32⟩

/-- FU_MAINS, 02_channels_and_time.md R58. -/
def R.FU_MAINS.addr : Nat := 0x109C
def R.FU_MAINS.value : Field := ⟨R.FU_MAINS.addr, 0, 16⟩

/-- OPS_CFG, 03_ranging_operations.md R85. -/
def R.OPS_CFG.addr (d : Nat) : Nat := 0x1000000 * d + 0x20000
def R.OPS_CFG.DECL_REPORT (d : Nat) : Field := ⟨(R.OPS_CFG.addr d), 0, 1⟩
def R.OPS_CFG.CAND_N (d : Nat) : Field := ⟨(R.OPS_CFG.addr d), 4, 4⟩

/-- OPS_STATUS, 03_ranging_operations.md R85. -/
def R.OPS_STATUS.addr (d : Nat) : Nat := 0x1000000 * d + 0x20004
def R.OPS_STATUS.WRITE_REJECTED (d : Nat) : Field := ⟨(R.OPS_STATUS.addr d), 0, 1⟩
def R.OPS_STATUS.HIST_SAT_SEEN (d : Nat) : Field := ⟨(R.OPS_STATUS.addr d), 1, 1⟩
def R.OPS_STATUS.FIR_SAT_SEEN (d : Nat) : Field := ⟨(R.OPS_STATUS.addr d), 2, 1⟩
def R.OPS_STATUS.SLOTS_BUSY (d : Nat) : Field := ⟨(R.OPS_STATUS.addr d), 16, 12⟩

/-- OPS_ISSUED, 03_ranging_operations.md R85. -/
def R.OPS_ISSUED.addr (d : Nat) : Nat := 0x1000000 * d + 0x20008
def R.OPS_ISSUED.ISSUED (d : Nat) : Field := ⟨(R.OPS_ISSUED.addr d), 0, 32⟩

/-- OPS_COMPLETED, 03_ranging_operations.md R85. -/
def R.OPS_COMPLETED.addr (d : Nat) : Nat := 0x1000000 * d + 0x2000C
def R.OPS_COMPLETED.COMPLETED (d : Nat) : Field := ⟨(R.OPS_COMPLETED.addr d), 0, 32⟩

/-- OPS_ABANDONED, 03_ranging_operations.md R85. -/
def R.OPS_ABANDONED.addr (d : Nat) : Nat := 0x1000000 * d + 0x20010
def R.OPS_ABANDONED.ABANDONED (d : Nat) : Field := ⟨(R.OPS_ABANDONED.addr d), 0, 32⟩

/-- OPS_UNBINNED, 03_ranging_operations.md R85. -/
def R.OPS_UNBINNED.addr (d : Nat) : Nat := 0x1000000 * d + 0x20014
def R.OPS_UNBINNED.UNBINNED (d : Nat) : Field := ⟨(R.OPS_UNBINNED.addr d), 0, 32⟩

/-- OPS_SUPPRESSED, 03_ranging_operations.md R85. -/
def R.OPS_SUPPRESSED.addr (d : Nat) : Nat := 0x1000000 * d + 0x20018
def R.OPS_SUPPRESSED.SUPPRESSED (d : Nat) : Field := ⟨(R.OPS_SUPPRESSED.addr d), 0, 32⟩

/-- DECL_COUNT, 03_ranging_operations.md R85. -/
def R.DECL_COUNT.addr (d r : Nat) : Nat := 0x1000000 * d + 0x20020 + 0x4 * r
def R.DECL_COUNT.DECL (d r : Nat) : Field := ⟨(R.DECL_COUNT.addr d r), 0, 32⟩

/-- GRP_STATUS, 03_ranging_operations.md R85. -/
def R.GRP_STATUS.addr (d g : Nat) : Nat := 0x1000000 * d + 0x20400 + 0x4 * g
def R.GRP_STATUS.G_SLOTS_BUSY (d g : Nat) : Field := ⟨(R.GRP_STATUS.addr d g), 0, 8⟩
def R.GRP_STATUS.G_PAGES_FREE (d g : Nat) : Field := ⟨(R.GRP_STATUS.addr d g), 16, 9⟩

/-- SLOT_VIEW_W0, 03_ranging_operations.md R85. -/
def R.SLOT_VIEW_W0.addr (d s : Nat) : Nat := 0x1000000 * d + 0x21000 + 0x10 * s
def R.SLOT_VIEW_W0.OP_STATE (d s : Nat) : Field := ⟨(R.SLOT_VIEW_W0.addr d s), 0, 3⟩
def R.SLOT_VIEW_W0.PASSES_DONE (d s : Nat) : Field := ⟨(R.SLOT_VIEW_W0.addr d s), 8, 6⟩
def R.SLOT_VIEW_W0.GROUP_SLOT (d s : Nat) : Field := ⟨(R.SLOT_VIEW_W0.addr d s), 16, 7⟩

/-- SLOT_VIEW_W1, 03_ranging_operations.md R85. -/
def R.SLOT_VIEW_W1.addr (d s : Nat) : Nat := 0x1000000 * d + 0x21004 + 0x10 * s
def R.SLOT_VIEW_W1.DESC_W0 (d s : Nat) : Field := ⟨(R.SLOT_VIEW_W1.addr d s), 0, 32⟩

/-- SLOT_VIEW_W2, 03_ranging_operations.md R85. -/
def R.SLOT_VIEW_W2.addr (d s : Nat) : Nat := 0x1000000 * d + 0x21008 + 0x10 * s
def R.SLOT_VIEW_W2.PULSES_DONE (d s : Nat) : Field := ⟨(R.SLOT_VIEW_W2.addr d s), 0, 14⟩
def R.SLOT_VIEW_W2.OP_DROPS (d s : Nat) : Field := ⟨(R.SLOT_VIEW_W2.addr d s), 16, 16⟩

/-- SLOT_VIEW_W3, 03_ranging_operations.md R85. -/
def R.SLOT_VIEW_W3.addr (d s : Nat) : Nat := 0x1000000 * d + 0x2100C + 0x10 * s
def R.SLOT_VIEW_W3.V0_LO (d s : Nat) : Field := ⟨(R.SLOT_VIEW_W3.addr d s), 0, 32⟩

/-- TAP_W, 03_ranging_operations.md R85. -/
def R.TAP_W.addr (d n j : Nat) : Nat := 0x1000000 * d + 0x30000 + 0x200 * n + 0x4 * j
def R.TAP_W.WEIGHTS (d n j : Nat) : Field := ⟨(R.TAP_W.addr d n j), 0, 32⟩

/-- TAP_CTL, 03_ranging_operations.md R85. -/
def R.TAP_CTL.addr (d n : Nat) : Nat := 0x1000000 * d + 0x30100 + 0x200 * n
def R.TAP_CTL.TAPS (d n : Nat) : Field := ⟨(R.TAP_CTL.addr d n), 0, 9⟩
def R.TAP_CTL.TAP_G (d n : Nat) : Field := ⟨(R.TAP_CTL.addr d n), 16, 16⟩

/-- CODE_PLAN, 03_ranging_operations.md R85. -/
def R.CODE_PLAN.addr : Nat := 0x2000
def R.CODE_PLAN.CODE_FAMILY : Field := ⟨R.CODE_PLAN.addr, 0, 6⟩

/-- VENUE_SEED, 03_ranging_operations.md R85. -/
def R.VENUE_SEED.addr : Nat := 0x2004
def R.VENUE_SEED.value : Field := ⟨R.VENUE_SEED.addr, 0, 32⟩

/-- HOP_CFG, 03_ranging_operations.md R85. -/
def R.HOP_CFG.addr : Nat := 0x2008
def R.HOP_CFG.HOP_EN : Field := ⟨R.HOP_CFG.addr, 0, 1⟩
def R.HOP_CFG.HOP_MASK : Field := ⟨R.HOP_CFG.addr, 8, 8⟩
def R.HOP_CFG.HOP_THR : Field := ⟨R.HOP_CFG.addr, 16, 16⟩

/-- HOP_STATUS, 03_ranging_operations.md R85. -/
def R.HOP_STATUS.addr : Nat := 0x200C
def R.HOP_STATUS.HOP_COUNT : Field := ⟨R.HOP_STATUS.addr, 0, 16⟩
def R.HOP_STATUS.HOP_BLOCKED : Field := ⟨R.HOP_STATUS.addr, 16, 16⟩

/-- PROBE_AGE, 03_ranging_operations.md R85. -/
def R.PROBE_AGE.addr : Nat := 0x2010
def R.PROBE_AGE.value : Field := ⟨R.PROBE_AGE.addr, 0, 24⟩

/-- REGION_CODE, 03_ranging_operations.md R85. -/
def R.REGION_CODE.addr (w : Nat) : Nat := 0x2040 + 0x4 * w
def R.REGION_CODE.CODE_0 (w : Nat) : Field := ⟨(R.REGION_CODE.addr w), 0, 3⟩
def R.REGION_CODE.CODE_1 (w : Nat) : Field := ⟨(R.REGION_CODE.addr w), 4, 3⟩
def R.REGION_CODE.CODE_2 (w : Nat) : Field := ⟨(R.REGION_CODE.addr w), 8, 3⟩
def R.REGION_CODE.CODE_3 (w : Nat) : Field := ⟨(R.REGION_CODE.addr w), 12, 3⟩
def R.REGION_CODE.CODE_4 (w : Nat) : Field := ⟨(R.REGION_CODE.addr w), 16, 3⟩
def R.REGION_CODE.CODE_5 (w : Nat) : Field := ⟨(R.REGION_CODE.addr w), 20, 3⟩
def R.REGION_CODE.CODE_6 (w : Nat) : Field := ⟨(R.REGION_CODE.addr w), 24, 3⟩
def R.REGION_CODE.CODE_7 (w : Nat) : Field := ⟨(R.REGION_CODE.addr w), 28, 3⟩

/-- REGION_CODE_NOW, 03_ranging_operations.md R85. -/
def R.REGION_CODE_NOW.addr (w : Nat) : Nat := 0x2080 + 0x4 * w
def R.REGION_CODE_NOW.NOW_0 (w : Nat) : Field := ⟨(R.REGION_CODE_NOW.addr w), 0, 3⟩
def R.REGION_CODE_NOW.NOW_1 (w : Nat) : Field := ⟨(R.REGION_CODE_NOW.addr w), 4, 3⟩
def R.REGION_CODE_NOW.NOW_2 (w : Nat) : Field := ⟨(R.REGION_CODE_NOW.addr w), 8, 3⟩
def R.REGION_CODE_NOW.NOW_3 (w : Nat) : Field := ⟨(R.REGION_CODE_NOW.addr w), 12, 3⟩
def R.REGION_CODE_NOW.NOW_4 (w : Nat) : Field := ⟨(R.REGION_CODE_NOW.addr w), 16, 3⟩
def R.REGION_CODE_NOW.NOW_5 (w : Nat) : Field := ⟨(R.REGION_CODE_NOW.addr w), 20, 3⟩
def R.REGION_CODE_NOW.NOW_6 (w : Nat) : Field := ⟨(R.REGION_CODE_NOW.addr w), 24, 3⟩
def R.REGION_CODE_NOW.NOW_7 (w : Nat) : Field := ⟨(R.REGION_CODE_NOW.addr w), 28, 3⟩

/-- PP_HEAD_CFG, 04_echoes_and_points.md R115. -/
def R.PP_HEAD_CFG.addr (h : Nat) : Nat := 0x10000 + 0x4 * h
def R.PP_HEAD_CFG.LENS_MODE (h : Nat) : Field := ⟨(R.PP_HEAD_CFG.addr h), 0, 2⟩
def R.PP_HEAD_CFG.STATIC_MODE (h : Nat) : Field := ⟨(R.PP_HEAD_CFG.addr h), 2, 2⟩
def R.PP_HEAD_CFG.LEARN_EN (h : Nat) : Field := ⟨(R.PP_HEAD_CFG.addr h), 4, 1⟩
def R.PP_HEAD_CFG.CLASS_EMIT (h : Nat) : Field := ⟨(R.PP_HEAD_CFG.addr h), 8, 8⟩

/-- CLASS_CFG, 04_echoes_and_points.md R115. -/
def R.CLASS_CFG.addr : Nat := 0x10008
def R.CLASS_CFG.EXT_NS : Field := ⟨R.CLASS_CFG.addr, 0, 8⟩
def R.CLASS_CFG.DIST_NS : Field := ⟨R.CLASS_CFG.addr, 8, 8⟩
def R.CLASS_CFG.INT_Q : Field := ⟨R.CLASS_CFG.addr, 16, 8⟩
def R.CLASS_CFG.RETRO_P : Field := ⟨R.CLASS_CFG.addr, 24, 8⟩

/-- LICHEN_CFG, 04_echoes_and_points.md R115. -/
def R.LICHEN_CFG.addr : Nat := 0x1000C
def R.LICHEN_CFG.MOSS_SHIFT : Field := ⟨R.LICHEN_CFG.addr, 0, 4⟩
def R.LICHEN_CFG.LEARN_SHIFT : Field := ⟨R.LICHEN_CFG.addr, 4, 4⟩
def R.LICHEN_CFG.RELEARN_N : Field := ⟨R.LICHEN_CFG.addr, 8, 8⟩
def R.LICHEN_CFG.MATCH_ABS : Field := ⟨R.LICHEN_CFG.addr, 16, 8⟩
def R.LICHEN_CFG.MATCH_K : Field := ⟨R.LICHEN_CFG.addr, 24, 4⟩
def R.LICHEN_CFG.LICHEN_URGENT : Field := ⟨R.LICHEN_CFG.addr, 28, 4⟩

/-- EXT_GAIN, 04_echoes_and_points.md R115. -/
def R.EXT_GAIN.addr : Nat := 0x10010
def R.EXT_GAIN.value : Field := ⟨R.EXT_GAIN.addr, 0, 16⟩

/-- PP_STATUS, 04_echoes_and_points.md R115. -/
def R.PP_STATUS.addr : Nat := 0x10014
def R.PP_STATUS.LICHEN_DROP_SEEN : Field := ⟨R.PP_STATUS.addr, 1, 1⟩
def R.PP_STATUS.RANGE_CLAMP_SEEN : Field := ⟨R.PP_STATUS.addr, 2, 1⟩
def R.PP_STATUS.LICHEN_Q_DEPTH : Field := ⟨R.PP_STATUS.addr, 16, 13⟩

/-- PP_RECORDS, 04_echoes_and_points.md R115. -/
def R.PP_RECORDS.addr : Nat := 0x10018
def R.PP_RECORDS.RECORDS : Field := ⟨R.PP_RECORDS.addr, 0, 32⟩

/-- PP_SUPPRESSED, 04_echoes_and_points.md R115. -/
def R.PP_SUPPRESSED.addr : Nat := 0x1001C
def R.PP_SUPPRESSED.SUPPRESSED : Field := ⟨R.PP_SUPPRESSED.addr, 0, 32⟩

/-- LICHEN_DROP_COUNT, 04_echoes_and_points.md R115. -/
def R.LICHEN_DROP_COUNT.addr : Nat := 0x10020
def R.LICHEN_DROP_COUNT.LICHEN_DROP : Field := ⟨R.LICHEN_DROP_COUNT.addr, 0, 32⟩

/-- EXCERPT_CFG, 04_echoes_and_points.md R115. -/
def R.EXCERPT_CFG.addr : Nat := 0x10028
def R.EXCERPT_CFG.EXC_MODE : Field := ⟨R.EXCERPT_CFG.addr, 0, 3⟩
def R.EXCERPT_CFG.EXC_BINS : Field := ⟨R.EXCERPT_CFG.addr, 4, 9⟩
def R.EXCERPT_CFG.EXC_N : Field := ⟨R.EXCERPT_CFG.addr, 16, 16⟩

/-- CH_RANGE_W0, 04_echoes_and_points.md R115. -/
def R.CH_RANGE_W0.addr (n : Nat) : Nat := 0x18000 + 0x8 * n
def R.CH_RANGE_W0.RX_DLY (n : Nat) : Field := ⟨(R.CH_RANGE_W0.addr n), 0, 16⟩
def R.CH_RANGE_W0.TRIM_OFS (n : Nat) : Field := ⟨(R.CH_RANGE_W0.addr n), 16, 16⟩

/-- CH_RANGE_W1, 04_echoes_and_points.md R115. -/
def R.CH_RANGE_W1.addr (n : Nat) : Nat := 0x18004 + 0x8 * n
def R.CH_RANGE_W1.TRIM_SCALE (n : Nat) : Field := ⟨(R.CH_RANGE_W1.addr n), 0, 16⟩

/-- EXT_CFG, 04_echoes_and_points.md R115. -/
def R.EXT_CFG.addr (d : Nat) : Nat := 0x1000000 * d + 0x40000
def R.EXT_CFG.PU_EN (d : Nat) : Field := ⟨(R.EXT_CFG.addr d), 0, 1⟩
def R.EXT_CFG.CFAR_K (d : Nat) : Field := ⟨(R.EXT_CFG.addr d), 8, 8⟩
def R.EXT_CFG.ECHO_GAP (d : Nat) : Field := ⟨(R.EXT_CFG.addr d), 16, 8⟩
def R.EXT_CFG.LENS_MIN (d : Nat) : Field := ⟨(R.EXT_CFG.addr d), 24, 8⟩

/-- EXTRA_ECHO_COUNT, 04_echoes_and_points.md R115. -/
def R.EXTRA_ECHO_COUNT.addr (d : Nat) : Nat := 0x1000000 * d + 0x40008
def R.EXTRA_ECHO_COUNT.EXTRA (d : Nat) : Field := ⟨(R.EXTRA_ECHO_COUNT.addr d), 0, 32⟩

/-- LENS_HIT_COUNT, 04_echoes_and_points.md R115. -/
def R.LENS_HIT_COUNT.addr (d : Nat) : Nat := 0x1000000 * d + 0x4000C
def R.LENS_HIT_COUNT.HITS (d : Nat) : Field := ⟨(R.LENS_HIT_COUNT.addr d), 0, 32⟩

/-- LENS_MISS_COUNT, 04_echoes_and_points.md R115. -/
def R.LENS_MISS_COUNT.addr (d : Nat) : Nat := 0x1000000 * d + 0x40010
def R.LENS_MISS_COUNT.MISSES (d : Nat) : Field := ⟨(R.LENS_MISS_COUNT.addr d), 0, 32⟩

/-- DEAD_EST, 04_echoes_and_points.md R115. -/
def R.DEAD_EST.addr (d c : Nat) : Nat := 0x1000000 * d + 0x40100 + 0x4 * c
def R.DEAD_EST.value (d c : Nat) : Field := ⟨(R.DEAD_EST.addr d c), 0, 10⟩

/-- SO_CFG, 05_scan_out.md R139. -/
def R.SO_CFG.addr : Nat := 0x4000
def R.SO_CFG.HEAD_LOCK : Field := ⟨R.SO_CFG.addr, 0, 1⟩

/-- LINE_OFS, 05_scan_out.md R139. -/
def R.LINE_OFS.addr : Nat := 0x4004
def R.LINE_OFS.value : Field := ⟨R.LINE_OFS.addr, 0, 23⟩

/-- SO_STATUS, 05_scan_out.md R139. -/
def R.SO_STATUS.addr : Nat := 0x4008
def R.SO_STATUS.WRITE_REJECTED : Field := ⟨R.SO_STATUS.addr, 0, 1⟩
def R.SO_STATUS.FMT_REJ : Field := ⟨R.SO_STATUS.addr, 1, 1⟩
def R.SO_STATUS.COMMIT_REJ : Field := ⟨R.SO_STATUS.addr, 2, 1⟩
def R.SO_STATUS.FROND_TORN : Field := ⟨R.SO_STATUS.addr, 3, 1⟩
def R.SO_STATUS.PF_LATE : Field := ⟨R.SO_STATUS.addr, 4, 1⟩
def R.SO_STATUS.LIST_ORDER_ERR : Field := ⟨R.SO_STATUS.addr, 5, 1⟩
def R.SO_STATUS.BAD_MODE : Field := ⟨R.SO_STATUS.addr, 6, 1⟩

/-- HEAD_GROUPS_A, 05_scan_out.md R139. -/
def R.HEAD_GROUPS_A.addr (w : Nat) : Nat := 0x4010 + 0x4 * w
def R.HEAD_GROUPS_A.GROUPS_A (w : Nat) : Field := ⟨(R.HEAD_GROUPS_A.addr w), 0, 32⟩

/-- HEAD_GROUPS_B, 05_scan_out.md R139. -/
def R.HEAD_GROUPS_B.addr (w : Nat) : Nat := 0x4020 + 0x4 * w
def R.HEAD_GROUPS_B.GROUPS_B (w : Nat) : Field := ⟨(R.HEAD_GROUPS_B.addr w), 0, 32⟩

/-- HEAD_CTL, 05_scan_out.md R139. -/
def R.HEAD_CTL.addr (h : Nat) : Nat := 0x4100 + 0x100 * h
def R.HEAD_CTL.SCAN_EN (h : Nat) : Field := ⟨(R.HEAD_CTL.addr h), 0, 1⟩
def R.HEAD_CTL.FORMAT (h : Nat) : Field := ⟨(R.HEAD_CTL.addr h), 4, 5⟩
def R.HEAD_CTL.SYNC_LOCK (h : Nat) : Field := ⟨(R.HEAD_CTL.addr h), 9, 1⟩
def R.HEAD_CTL.LINE_MS (h : Nat) : Field := ⟨(R.HEAD_CTL.addr h), 10, 1⟩
def R.HEAD_CTL.FROND_MASK (h : Nat) : Field := ⟨(R.HEAD_CTL.addr h), 12, 3⟩
def R.HEAD_CTL.PF_LINES (h : Nat) : Field := ⟨(R.HEAD_CTL.addr h), 16, 2⟩

/-- HEAD_STATUS, 05_scan_out.md R139. -/
def R.HEAD_STATUS.addr (h : Nat) : Nat := 0x4104 + 0x100 * h
def R.HEAD_STATUS.FORMAT_NOW (h : Nat) : Field := ⟨(R.HEAD_STATUS.addr h), 0, 5⟩
def R.HEAD_STATUS.RUNNING (h : Nat) : Field := ⟨(R.HEAD_STATUS.addr h), 5, 1⟩
def R.HEAD_STATUS.LOCK_STATE (h : Nat) : Field := ⟨(R.HEAD_STATUS.addr h), 6, 2⟩
def R.HEAD_STATUS.LINE_NOW (h : Nat) : Field := ⟨(R.HEAD_STATUS.addr h), 8, 4⟩
def R.HEAD_STATUS.IN_FLYBACK (h : Nat) : Field := ⟨(R.HEAD_STATUS.addr h), 12, 1⟩
def R.HEAD_STATUS.SYNC_LOCK_NOW (h : Nat) : Field := ⟨(R.HEAD_STATUS.addr h), 13, 1⟩
def R.HEAD_STATUS.FROND_TORN_LINES (h : Nat) : Field := ⟨(R.HEAD_STATUS.addr h), 16, 16⟩

/-- FRAME_COUNT, 05_scan_out.md R139. -/
def R.FRAME_COUNT.addr (h : Nat) : Nat := 0x4108 + 0x100 * h
def R.FRAME_COUNT.value (h : Nat) : Field := ⟨(R.FRAME_COUNT.addr h), 0, 32⟩

/-- SYNC_OFS, 05_scan_out.md R139. -/
def R.SYNC_OFS.addr (h : Nat) : Nat := 0x410C + 0x100 * h
def R.SYNC_OFS.SYNC_OFFSET (h : Nat) : Field := ⟨(R.SYNC_OFS.addr h), 0, 24⟩

/-- FB_SLEW, 05_scan_out.md R139. -/
def R.FB_SLEW.addr (h : Nat) : Nat := 0x4110 + 0x100 * h
def R.FB_SLEW.value (h : Nat) : Field := ⟨(R.FB_SLEW.addr h), 0, 10⟩

/-- PHASE_ERR, 05_scan_out.md R139. -/
def R.PHASE_ERR.addr (h : Nat) : Nat := 0x4114 + 0x100 * h
def R.PHASE_ERR.value (h : Nat) : Field := ⟨(R.PHASE_ERR.addr h), 0, 32⟩

/-- LTR_NOW, 05_scan_out.md R139. -/
def R.LTR_NOW.addr (h : Nat) : Nat := 0x4118 + 0x100 * h
def R.LTR_NOW.value (h : Nat) : Field := ⟨(R.LTR_NOW.addr h), 0, 24⟩

/-- PF_LATE_LINES, 05_scan_out.md R139. -/
def R.PF_LATE_LINES.addr (h : Nat) : Nat := 0x411C + 0x100 * h
def R.PF_LATE_LINES.value (h : Nat) : Field := ⟨(R.PF_LATE_LINES.addr h), 0, 32⟩

/-- FROND_ADDR_LO, 05_scan_out.md R139. -/
def R.FROND_ADDR_LO.addr (h f : Nat) : Nat := 0x4120 + 0x100 * h + 0x10 * f
def R.FROND_ADDR_LO.ADDR_LO (h f : Nat) : Field := ⟨(R.FROND_ADDR_LO.addr h f), 6, 26⟩

/-- FROND_ADDR_HI, 05_scan_out.md R139. -/
def R.FROND_ADDR_HI.addr (h f : Nat) : Nat := 0x4124 + 0x100 * h + 0x10 * f
def R.FROND_ADDR_HI.ADDR_HI (h f : Nat) : Field := ⟨(R.FROND_ADDR_HI.addr h f), 0, 8⟩

/-- FROND_GEN_EXP, 05_scan_out.md R139. -/
def R.FROND_GEN_EXP.addr (h f : Nat) : Nat := 0x4128 + 0x100 * h + 0x10 * f
def R.FROND_GEN_EXP.GEN_EXP (h f : Nat) : Field := ⟨(R.FROND_GEN_EXP.addr h f), 0, 16⟩

/-- FROND_COMMIT, 05_scan_out.md R139. -/
def R.FROND_COMMIT.addr (h f : Nat) : Nat := 0x412C + 0x100 * h + 0x10 * f
def R.FROND_COMMIT.COMMIT (h f : Nat) : Field := ⟨(R.FROND_COMMIT.addr h f), 0, 1⟩
def R.FROND_COMMIT.PENDING (h f : Nat) : Field := ⟨(R.FROND_COMMIT.addr h f), 1, 1⟩
def R.FROND_COMMIT.GEN_NOW (h f : Nat) : Field := ⟨(R.FROND_COMMIT.addr h f), 16, 16⟩

/-- COMMIT_FRAME, 05_scan_out.md R139. -/
def R.COMMIT_FRAME.addr (h f : Nat) : Nat := 0x4160 + 0x100 * h + 0x4 * f
def R.COMMIT_FRAME.value (h f : Nat) : Field := ⟨(R.COMMIT_FRAME.addr h f), 0, 32⟩

/-- SYNC_OFS_NOW, 05_scan_out.md R139. -/
def R.SYNC_OFS_NOW.addr (h : Nat) : Nat := 0x4170 + 0x100 * h
def R.SYNC_OFS_NOW.SYNC_OFFSET_NOW (h : Nat) : Field := ⟨(R.SYNC_OFS_NOW.addr h), 0, 24⟩

/-- P_W1, 05_scan_out.md R139. -/
def R.P_W1.addr (h p : Nat) : Nat := 0x8000 + 0x1000 * h + 0x10 * p
def R.P_W1.value (h p : Nat) : Field := ⟨(R.P_W1.addr h p), 0, 32⟩

/-- P_W2, 05_scan_out.md R139. -/
def R.P_W2.addr (h p : Nat) : Nat := 0x8004 + 0x1000 * h + 0x10 * p
def R.P_W2.PRI (h p : Nat) : Field := ⟨(R.P_W2.addr h p), 0, 16⟩
def R.P_W2.WIN_START (h p : Nat) : Field := ⟨(R.P_W2.addr h p), 16, 13⟩

/-- P_X, 05_scan_out.md R139. -/
def R.P_X.addr (h p : Nat) : Nat := 0x8008 + 0x1000 * h + 0x10 * p
def R.P_X.PHASE (h p : Nat) : Field := ⟨(R.P_X.addr h p), 0, 8⟩

/-- SQ_CTL, 06_salrad.md R182. -/
def R.SQ_CTL.addr (n : Nat) : Nat := 0xA000 + 0x100 * n
def R.SQ_CTL.RUN (n : Nat) : Field := ⟨(R.SQ_CTL.addr n), 0, 1⟩
def R.SQ_CTL.WD_EN (n : Nat) : Field := ⟨(R.SQ_CTL.addr n), 1, 1⟩
def R.SQ_CTL.UNLOAD (n : Nat) : Field := ⟨(R.SQ_CTL.addr n), 2, 1⟩
def R.SQ_CTL.WD_US (n : Nat) : Field := ⟨(R.SQ_CTL.addr n), 8, 24⟩

/-- SQ_ENTRY, 06_salrad.md R182. -/
def R.SQ_ENTRY.addr (n : Nat) : Nat := 0xA004 + 0x100 * n
def R.SQ_ENTRY.ENTRY (n : Nat) : Field := ⟨(R.SQ_ENTRY.addr n), 0, 17⟩

/-- SQ_SPAN_LO, 06_salrad.md R182. -/
def R.SQ_SPAN_LO.addr (n : Nat) : Nat := 0xA008 + 0x100 * n
def R.SQ_SPAN_LO.SPAN_LO (n : Nat) : Field := ⟨(R.SQ_SPAN_LO.addr n), 0, 17⟩

/-- SQ_SPAN_HI, 06_salrad.md R182. -/
def R.SQ_SPAN_HI.addr (n : Nat) : Nat := 0xA00C + 0x100 * n
def R.SQ_SPAN_HI.SPAN_HI (n : Nat) : Field := ⟨(R.SQ_SPAN_HI.addr n), 0, 17⟩

/-- SQ_STATUS, 06_salrad.md R182. -/
def R.SQ_STATUS.addr (n : Nat) : Nat := 0xA010 + 0x100 * n
def R.SQ_STATUS.STATE (n : Nat) : Field := ⟨(R.SQ_STATUS.addr n), 0, 3⟩
def R.SQ_STATUS.WRITE_REJECTED (n : Nat) : Field := ⟨(R.SQ_STATUS.addr n), 3, 1⟩
def R.SQ_STATUS.FAULT_CAUSE (n : Nat) : Field := ⟨(R.SQ_STATUS.addr n), 8, 8⟩

/-- SQ_PC, 06_salrad.md R182. -/
def R.SQ_PC.addr (n : Nat) : Nat := 0xA014 + 0x100 * n
def R.SQ_PC.PC (n : Nat) : Field := ⟨(R.SQ_PC.addr n), 0, 17⟩

/-- SQ_CQ, 06_salrad.md R182. -/
def R.SQ_CQ.addr (n : Nat) : Nat := 0xA018 + 0x100 * n
def R.SQ_CQ.CQ_DEPTH (n : Nat) : Field := ⟨(R.SQ_CQ.addr n), 0, 9⟩
def R.SQ_CQ.PROBES_OUT (n : Nat) : Field := ⟨(R.SQ_CQ.addr n), 16, 9⟩

/-- SQ_WATCH_DROP, 06_salrad.md R182. -/
def R.SQ_WATCH_DROP.addr (n : Nat) : Nat := 0xA01C + 0x100 * n
def R.SQ_WATCH_DROP.WATCH_DROP (n : Nat) : Field := ⟨(R.SQ_WATCH_DROP.addr n), 0, 32⟩

/-- SQ_EV_PEND_LO, 06_salrad.md R182. -/
def R.SQ_EV_PEND_LO.addr (n : Nat) : Nat := 0xA020 + 0x100 * n
def R.SQ_EV_PEND_LO.PEND_LO (n : Nat) : Field := ⟨(R.SQ_EV_PEND_LO.addr n), 0, 32⟩

/-- SQ_EV_PEND_HI, 06_salrad.md R182. -/
def R.SQ_EV_PEND_HI.addr (n : Nat) : Nat := 0xA024 + 0x100 * n
def R.SQ_EV_PEND_HI.PEND_HI (n : Nat) : Field := ⟨(R.SQ_EV_PEND_HI.addr n), 0, 32⟩

/-- SQ_EV_MERGED, 06_salrad.md R182. -/
def R.SQ_EV_MERGED.addr (n : Nat) : Nat := 0xA028 + 0x100 * n
def R.SQ_EV_MERGED.EV_MERGED (n : Nat) : Field := ⟨(R.SQ_EV_MERGED.addr n), 0, 32⟩

/-- SQ_INSTR, 06_salrad.md R182. -/
def R.SQ_INSTR.addr (n : Nat) : Nat := 0xA02C + 0x100 * n
def R.SQ_INSTR.INSTR (n : Nat) : Field := ⟨(R.SQ_INSTR.addr n), 0, 32⟩

/-- SQ_DBASE, 06_salrad.md R182. -/
def R.SQ_DBASE.addr (n : Nat) : Nat := 0xA030 + 0x100 * n
def R.SQ_DBASE.DBASE (n : Nat) : Field := ⟨(R.SQ_DBASE.addr n), 0, 8⟩

/-- SQ_GREG, 06_salrad.md R182. -/
def R.SQ_GREG.addr (n k : Nat) : Nat := 0xA040 + 0x100 * n + 0x4 * k
def R.SQ_GREG.GREG (n k : Nat) : Field := ⟨(R.SQ_GREG.addr n k), 0, 32⟩

/-- SQ_PRED, 06_salrad.md R182. -/
def R.SQ_PRED.addr (n : Nat) : Nat := 0xA0C0 + 0x100 * n
def R.SQ_PRED.P0 (n : Nat) : Field := ⟨(R.SQ_PRED.addr n), 0, 1⟩
def R.SQ_PRED.PRED (n : Nat) : Field := ⟨(R.SQ_PRED.addr n), 1, 7⟩

/-- EV_SOFT, 06_salrad.md R182. -/
def R.EV_SOFT.addr : Nat := 0xA800
def R.EV_SOFT.SOFT_RAISE : Field := ⟨R.EV_SOFT.addr, 0, 16⟩

/-- POLICY_CTL, 06_salrad.md R182. -/
def R.POLICY_CTL.addr : Nat := 0xA804
def R.POLICY_CTL.POLICY_EN : Field := ⟨R.POLICY_CTL.addr, 0, 1⟩
def R.POLICY_CTL.POLICY_ACTIVE : Field := ⟨R.POLICY_CTL.addr, 1, 1⟩
def R.POLICY_CTL.POLICY_CONFLICT : Field := ⟨R.POLICY_CTL.addr, 2, 1⟩

/-- SQ_FAULT_COUNT, 06_salrad.md R182. -/
def R.SQ_FAULT_COUNT.addr : Nat := 0xA808
def R.SQ_FAULT_COUNT.FAULTS : Field := ⟨R.SQ_FAULT_COUNT.addr, 0, 32⟩

/-- DRV_CTL, 07_emitter_drive.md R202. -/
def R.DRV_CTL.addr (h : Nat) : Nat := 0xC000 + 0x40 * h
def R.DRV_CTL.DRV_EN (h : Nat) : Field := ⟨(R.DRV_CTL.addr h), 0, 1⟩
def R.DRV_CTL.SOFT_STOP (h : Nat) : Field := ⟨(R.DRV_CTL.addr h), 1, 1⟩
def R.DRV_CTL.CHASE_ORDER (h : Nat) : Field := ⟨(R.DRV_CTL.addr h), 8, 2⟩
def R.DRV_CTL.CHASE_STEP (h : Nat) : Field := ⟨(R.DRV_CTL.addr h), 10, 6⟩
def R.DRV_CTL.RAMP_LINES (h : Nat) : Field := ⟨(R.DRV_CTL.addr h), 16, 8⟩
def R.DRV_CTL.RAMP_START (h : Nat) : Field := ⟨(R.DRV_CTL.addr h), 24, 8⟩

/-- DRV_SOFT, 07_emitter_drive.md R202. -/
def R.DRV_SOFT.addr (h : Nat) : Nat := 0xC004 + 0x40 * h
def R.DRV_SOFT.SOFT_IDLE (h : Nat) : Field := ⟨(R.DRV_SOFT.addr h), 0, 16⟩
def R.DRV_SOFT.SOFT_LINES (h : Nat) : Field := ⟨(R.DRV_SOFT.addr h), 16, 8⟩
def R.DRV_SOFT.SOFT_START (h : Nat) : Field := ⟨(R.DRV_SOFT.addr h), 24, 8⟩

/-- DRV_IDLE, 07_emitter_drive.md R202. -/
def R.DRV_IDLE.addr (h : Nat) : Nat := 0xC008 + 0x40 * h
def R.DRV_IDLE.IDLE_XCHG (h : Nat) : Field := ⟨(R.DRV_IDLE.addr h), 0, 20⟩

/-- DRV_STATUS, 07_emitter_drive.md R202. -/
def R.DRV_STATUS.addr (h : Nat) : Nat := 0xC00C + 0x40 * h
def R.DRV_STATUS.WRITE_REJECTED (h : Nat) : Field := ⟨(R.DRV_STATUS.addr h), 0, 1⟩
def R.DRV_STATUS.PW_CLAMP (h : Nat) : Field := ⟨(R.DRV_STATUS.addr h), 1, 1⟩
def R.DRV_STATUS.CABLE_JUMP (h : Nat) : Field := ⟨(R.DRV_STATUS.addr h), 2, 1⟩
def R.DRV_STATUS.RETRY_SEEN (h : Nat) : Field := ⟨(R.DRV_STATUS.addr h), 3, 1⟩
def R.DRV_STATUS.SOFT_STOP_DONE (h : Nat) : Field := ⟨(R.DRV_STATUS.addr h), 4, 1⟩
def R.DRV_STATUS.DRV_READY (h : Nat) : Field := ⟨(R.DRV_STATUS.addr h), 5, 1⟩
def R.DRV_STATUS.CHASE_ORDER_NOW (h : Nat) : Field := ⟨(R.DRV_STATUS.addr h), 8, 2⟩
def R.DRV_STATUS.CHASE_STEP_NOW (h : Nat) : Field := ⟨(R.DRV_STATUS.addr h), 10, 6⟩

/-- DRV_XCHG_COUNT, 07_emitter_drive.md R202. -/
def R.DRV_XCHG_COUNT.addr (h : Nat) : Nat := 0xC010 + 0x40 * h
def R.DRV_XCHG_COUNT.XCHG (h : Nat) : Field := ⟨(R.DRV_XCHG_COUNT.addr h), 0, 32⟩

/-- DRV_RETRY_COUNT, 07_emitter_drive.md R202. -/
def R.DRV_RETRY_COUNT.addr (h : Nat) : Nat := 0xC014 + 0x40 * h
def R.DRV_RETRY_COUNT.RETRIES (h : Nat) : Field := ⟨(R.DRV_RETRY_COUNT.addr h), 0, 32⟩

/-- DRV_CABLE_CFG, 07_emitter_drive.md R202. -/
def R.DRV_CABLE_CFG.addr (h : Nat) : Nat := 0xC018 + 0x40 * h
def R.DRV_CABLE_CFG.CABLE_JUMP_THR (h : Nat) : Field := ⟨(R.DRV_CABLE_CFG.addr h), 0, 16⟩
def R.DRV_CABLE_CFG.CABLE_SHIFT (h : Nat) : Field := ⟨(R.DRV_CABLE_CFG.addr h), 16, 4⟩

/-- DRV_FAIL, 07_emitter_drive.md R202. -/
def R.DRV_FAIL.addr : Nat := 0xC100
def R.DRV_FAIL.FAILED : Field := ⟨R.DRV_FAIL.addr, 0, 1⟩
def R.DRV_FAIL.FAIL_HEAD : Field := ⟨R.DRV_FAIL.addr, 1, 1⟩
def R.DRV_FAIL.FAIL_BANK : Field := ⟨R.DRV_FAIL.addr, 2, 5⟩
def R.DRV_FAIL.FAIL_CAUSE : Field := ⟨R.DRV_FAIL.addr, 8, 3⟩

/-- DRV_FAIL_MON, 07_emitter_drive.md R202. -/
def R.DRV_FAIL_MON.addr : Nat := 0xC104
def R.DRV_FAIL_MON.MON_READ : Field := ⟨R.DRV_FAIL_MON.addr, 0, 12⟩
def R.DRV_FAIL_MON.MON_EXP : Field := ⟨R.DRV_FAIL_MON.addr, 16, 12⟩

/-- FAIL_MAP_A, 07_emitter_drive.md R202. -/
def R.FAIL_MAP_A.addr : Nat := 0xC108
def R.FAIL_MAP_A.MAP_A : Field := ⟨R.FAIL_MAP_A.addr, 0, 32⟩

/-- FAIL_MAP_B, 07_emitter_drive.md R202. -/
def R.FAIL_MAP_B.addr : Nat := 0xC10C
def R.FAIL_MAP_B.MAP_B : Field := ⟨R.FAIL_MAP_B.addr, 0, 32⟩

/-- DRV_CABLE_NEXT, 07_emitter_drive.md R202. -/
def R.DRV_CABLE_NEXT.addr : Nat := 0xC110
def R.DRV_CABLE_NEXT.NEXT : Field := ⟨R.DRV_CABLE_NEXT.addr, 0, 6⟩

/-- BANK_AMP, 07_emitter_drive.md R202. -/
def R.BANK_AMP.addr (h b : Nat) : Nat := 0xC400 + 0x200 * h + 0x10 * b
def R.BANK_AMP.REQ (h b : Nat) : Field := ⟨(R.BANK_AMP.addr h b), 0, 12⟩
def R.BANK_AMP.PW (h b : Nat) : Field := ⟨(R.BANK_AMP.addr h b), 16, 8⟩

/-- BANK_CAL, 07_emitter_drive.md R202. -/
def R.BANK_CAL.addr (h b : Nat) : Nat := 0xC404 + 0x200 * h + 0x10 * b
def R.BANK_CAL.THRESH (h b : Nat) : Field := ⟨(R.BANK_CAL.addr h b), 0, 12⟩
def R.BANK_CAL.WL_BIN (h b : Nat) : Field := ⟨(R.BANK_CAL.addr h b), 12, 4⟩
def R.BANK_CAL.SLOPE (h b : Nat) : Field := ⟨(R.BANK_CAL.addr h b), 16, 16⟩

/-- BANK_MON, 07_emitter_drive.md R202. -/
def R.BANK_MON.addr (h b : Nat) : Nat := 0xC408 + 0x200 * h + 0x10 * b
def R.BANK_MON.MON_GAIN (h b : Nat) : Field := ⟨(R.BANK_MON.addr h b), 0, 12⟩
def R.BANK_MON.MON_TOL (h b : Nat) : Field := ⟨(R.BANK_MON.addr h b), 12, 8⟩
def R.BANK_MON.MON_FLOOR (h b : Nat) : Field := ⟨(R.BANK_MON.addr h b), 20, 8⟩

/-- BANK_LAT, 07_emitter_drive.md R202. -/
def R.BANK_LAT.addr (h b : Nat) : Nat := 0xC40C + 0x200 * h + 0x10 * b
def R.BANK_LAT.EMIT_LAT (h b : Nat) : Field := ⟨(R.BANK_LAT.addr h b), 0, 16⟩

/-- BANK_CABLE, 07_emitter_drive.md R202. -/
def R.BANK_CABLE.addr (h b : Nat) : Nat := 0xC800 + 0x200 * h + 0x10 * b
def R.BANK_CABLE.CABLE_DLY (h b : Nat) : Field := ⟨(R.BANK_CABLE.addr h b), 0, 16⟩
def R.BANK_CABLE.CABLE_VALID (h b : Nat) : Field := ⟨(R.BANK_CABLE.addr h b), 16, 1⟩

/-- BANK_REPLY, 07_emitter_drive.md R202. -/
def R.BANK_REPLY.addr (h b : Nat) : Nat := 0xC804 + 0x200 * h + 0x10 * b
def R.BANK_REPLY.MON_LAST (h b : Nat) : Field := ⟨(R.BANK_REPLY.addr h b), 0, 12⟩
def R.BANK_REPLY.STAT_LAST (h b : Nat) : Field := ⟨(R.BANK_REPLY.addr h b), 12, 8⟩
def R.BANK_REPLY.SEQ_LAST (h b : Nat) : Field := ⟨(R.BANK_REPLY.addr h b), 20, 4⟩

/-- BANK_CAP, 07_emitter_drive.md R202. -/
def R.BANK_CAP.addr (h b : Nat) : Nat := 0xC808 + 0x200 * h + 0x10 * b
def R.BANK_CAP.CAP (h b : Nat) : Field := ⟨(R.BANK_CAP.addr h b), 0, 32⟩

/-- BANK_DRIVE, 07_emitter_drive.md R202. -/
def R.BANK_DRIVE.addr (h b : Nat) : Nat := 0xC80C + 0x200 * h + 0x10 * b
def R.BANK_DRIVE.DRIVE_NOW (h b : Nat) : Field := ⟨(R.BANK_DRIVE.addr h b), 0, 12⟩
def R.BANK_DRIVE.ENV_NOW (h b : Nat) : Field := ⟨(R.BANK_DRIVE.addr h b), 12, 9⟩
def R.BANK_DRIVE.PW_NOW (h b : Nat) : Field := ⟨(R.BANK_DRIVE.addr h b), 21, 8⟩

/-- GUARD_STATUS, 08_emission_guard.md R223. -/
def R.GUARD_STATUS.addr : Nat := 0xD000
def R.GUARD_STATUS.STATE : Field := ⟨R.GUARD_STATUS.addr, 0, 3⟩
def R.GUARD_STATUS.EMEN_P_OUT : Field := ⟨R.GUARD_STATUS.addr, 3, 1⟩
def R.GUARD_STATUS.EMEN_H_OUT : Field := ⟨R.GUARD_STATUS.addr, 4, 1⟩
def R.GUARD_STATUS.LIM_PERMIT : Field := ⟨R.GUARD_STATUS.addr, 5, 1⟩
def R.GUARD_STATUS.PROC_PERMIT : Field := ⟨R.GUARD_STATUS.addr, 6, 1⟩
def R.GUARD_STATUS.TABLE_VALID : Field := ⟨R.GUARD_STATUS.addr, 7, 1⟩
def R.GUARD_STATUS.GIN_RUN : Field := ⟨R.GUARD_STATUS.addr, 8, 4⟩
def R.GUARD_STATUS.GIN_DISAGREE : Field := ⟨R.GUARD_STATUS.addr, 12, 4⟩
def R.GUARD_STATUS.MOTION_OK : Field := ⟨R.GUARD_STATUS.addr, 16, 2⟩
def R.GUARD_STATUS.LIM_ACTED : Field := ⟨R.GUARD_STATUS.addr, 18, 1⟩
def R.GUARD_STATUS.GRST_REJ : Field := ⟨R.GUARD_STATUS.addr, 19, 1⟩
def R.GUARD_STATUS.RESTART_REJ : Field := ⟨R.GUARD_STATUS.addr, 20, 1⟩

/-- GUARD_CAUSE, 08_emission_guard.md R223. -/
def R.GUARD_CAUSE.addr : Nat := 0xD004
def R.GUARD_CAUSE.CAUSE : Field := ⟨R.GUARD_CAUSE.addr, 0, 8⟩
def R.GUARD_CAUSE.DETAIL : Field := ⟨R.GUARD_CAUSE.addr, 8, 8⟩

/-- GUARD_CTL, 08_emission_guard.md R223. -/
def R.GUARD_CTL.addr : Nat := 0xD008
def R.GUARD_CTL.GUARD_RESET : Field := ⟨R.GUARD_CTL.addr, 0, 1⟩
def R.GUARD_CTL.GUARD_RESTART : Field := ⟨R.GUARD_CTL.addr, 1, 1⟩

/-- GIN_LEVELS, 08_emission_guard.md R223. -/
def R.GIN_LEVELS.addr : Nat := 0xD00C
def R.GIN_LEVELS.LEVELS : Field := ⟨R.GIN_LEVELS.addr, 0, 8⟩

/-- GUARD_TABLE_ID, 08_emission_guard.md R223. -/
def R.GUARD_TABLE_ID.addr : Nat := 0xD010
def R.GUARD_TABLE_ID.TABLE_VER : Field := ⟨R.GUARD_TABLE_ID.addr, 0, 32⟩

/-- GIN_CFG_NOW, 08_emission_guard.md R223. -/
def R.GIN_CFG_NOW.addr : Nat := 0xD014
def R.GIN_CFG_NOW.USED : Field := ⟨R.GIN_CFG_NOW.addr, 0, 4⟩
def R.GIN_CFG_NOW.AUTO : Field := ⟨R.GIN_CFG_NOW.addr, 4, 4⟩

/-- GIN_DISC01, 08_emission_guard.md R223. -/
def R.GIN_DISC01.addr : Nat := 0xD018
def R.GIN_DISC01.DISC0 : Field := ⟨R.GIN_DISC01.addr, 0, 16⟩
def R.GIN_DISC01.DISC1 : Field := ⟨R.GIN_DISC01.addr, 16, 16⟩

/-- GIN_DISC23, 08_emission_guard.md R223. -/
def R.GIN_DISC23.addr : Nat := 0xD01C
def R.GIN_DISC23.DISC2 : Field := ⟨R.GIN_DISC23.addr, 0, 16⟩
def R.GIN_DISC23.DISC3 : Field := ⟨R.GIN_DISC23.addr, 16, 16⟩

/-- LIM_BLOCK_COUNT, 08_emission_guard.md R223. -/
def R.LIM_BLOCK_COUNT.addr : Nat := 0xD020
def R.LIM_BLOCK_COUNT.BLOCKS : Field := ⟨R.LIM_BLOCK_COUNT.addr, 0, 32⟩

/-- GUARD_TRIP_COUNT, 08_emission_guard.md R223. -/
def R.GUARD_TRIP_COUNT.addr : Nat := 0xD024
def R.GUARD_TRIP_COUNT.TRIPS : Field := ⟨R.GUARD_TRIP_COUNT.addr, 0, 32⟩

/-- DEMAND_COUNT, 08_emission_guard.md R223. -/
def R.DEMAND_COUNT.addr : Nat := 0xD028
def R.DEMAND_COUNT.DEMANDS : Field := ⟨R.DEMAND_COUNT.addr, 0, 32⟩

/-- GIN_DISC_LAST, 08_emission_guard.md R223. -/
def R.GIN_DISC_LAST.addr (n : Nat) : Nat := 0xD040 + 0x4 * n
def R.GIN_DISC_LAST.LAST_US (n : Nat) : Field := ⟨(R.GIN_DISC_LAST.addr n), 0, 24⟩

/-- BANK_GUARD_W0, 08_emission_guard.md R223. -/
def R.BANK_GUARD_W0.addr (h b : Nat) : Nat := 0xD100 + 0x200 * h + 0x10 * b
def R.BANK_GUARD_W0.GUARD_CAP (h b : Nat) : Field := ⟨(R.BANK_GUARD_W0.addr h b), 0, 12⟩

/-- BANK_GUARD_W1, 08_emission_guard.md R223. -/
def R.BANK_GUARD_W1.addr (h b : Nat) : Nat := 0xD104 + 0x200 * h + 0x10 * b
def R.BANK_GUARD_W1.LIM_E10 (h b : Nat) : Field := ⟨(R.BANK_GUARD_W1.addr h b), 0, 32⟩

/-- BANK_GUARD_W2, 08_emission_guard.md R223. -/
def R.BANK_GUARD_W2.addr (h b : Nat) : Nat := 0xD108 + 0x200 * h + 0x10 * b
def R.BANK_GUARD_W2.LIM_ELINE (h b : Nat) : Field := ⟨(R.BANK_GUARD_W2.addr h b), 0, 32⟩

/-- BANK_GUARD_W3, 08_emission_guard.md R223. -/
def R.BANK_GUARD_W3.addr (h b : Nat) : Nat := 0xD10C + 0x200 * h + 0x10 * b
def R.BANK_GUARD_W3.LIM_E1S (h b : Nat) : Field := ⟨(R.BANK_GUARD_W3.addr h b), 0, 32⟩

/-- LOOP_CTL, 09_scanner_control.md R246. -/
def R.LOOP_CTL.addr (n : Nat) : Nat := 0xE000 + 0x100 * n
def R.LOOP_CTL.MODE (n : Nat) : Field := ⟨(R.LOOP_CTL.addr n), 0, 3⟩
def R.LOOP_CTL.COEF_SEL (n : Nat) : Field := ⟨(R.LOOP_CTL.addr n), 3, 1⟩
def R.LOOP_CTL.PH_EN (n : Nat) : Field := ⟨(R.LOOP_CTL.addr n), 4, 1⟩
def R.LOOP_CTL.RC_EN (n : Nat) : Field := ⟨(R.LOOP_CTL.addr n), 5, 1⟩
def R.LOOP_CTL.RC_LEARN (n : Nat) : Field := ⟨(R.LOOP_CTL.addr n), 6, 1⟩
def R.LOOP_CTL.RC_CLEAR (n : Nat) : Field := ⟨(R.LOOP_CTL.addr n), 7, 1⟩
def R.LOOP_CTL.SAMPLE_DIV (n : Nat) : Field := ⟨(R.LOOP_CTL.addr n), 8, 8⟩
def R.LOOP_CTL.FB_SRC (n : Nat) : Field := ⟨(R.LOOP_CTL.addr n), 16, 4⟩
def R.LOOP_CTL.FB_AUX (n : Nat) : Field := ⟨(R.LOOP_CTL.addr n), 20, 4⟩

/-- LOOP_STATUS, 09_scanner_control.md R246. -/
def R.LOOP_STATUS.addr (n : Nat) : Nat := 0xE004 + 0x100 * n
def R.LOOP_STATUS.MODE_NOW (n : Nat) : Field := ⟨(R.LOOP_STATUS.addr n), 0, 3⟩
def R.LOOP_STATUS.COEF_NOW (n : Nat) : Field := ⟨(R.LOOP_STATUS.addr n), 3, 1⟩
def R.LOOP_STATUS.SAT (n : Nat) : Field := ⟨(R.LOOP_STATUS.addr n), 4, 1⟩
def R.LOOP_STATUS.HO_BLENDING (n : Nat) : Field := ⟨(R.LOOP_STATUS.addr n), 5, 1⟩
def R.LOOP_STATUS.PROF_RUN (n : Nat) : Field := ⟨(R.LOOP_STATUS.addr n), 6, 1⟩
def R.LOOP_STATUS.PH_LOCK (n : Nat) : Field := ⟨(R.LOOP_STATUS.addr n), 7, 1⟩
def R.LOOP_STATUS.PARKED (n : Nat) : Field := ⟨(R.LOOP_STATUS.addr n), 8, 1⟩
def R.LOOP_STATUS.WRITE_REJECTED (n : Nat) : Field := ⟨(R.LOOP_STATUS.addr n), 9, 1⟩
def R.LOOP_STATUS.MODE_REJ (n : Nat) : Field := ⟨(R.LOOP_STATUS.addr n), 10, 1⟩
def R.LOOP_STATUS.SP_REJ (n : Nat) : Field := ⟨(R.LOOP_STATUS.addr n), 11, 1⟩
def R.LOOP_STATUS.COEF_SWAP_SAT (n : Nat) : Field := ⟨(R.LOOP_STATUS.addr n), 12, 1⟩
def R.LOOP_STATUS.HANDOVER_BLEND (n : Nat) : Field := ⟨(R.LOOP_STATUS.addr n), 13, 1⟩
def R.LOOP_STATUS.STEP_LATE (n : Nat) : Field := ⟨(R.LOOP_STATUS.addr n), 14, 1⟩
def R.LOOP_STATUS.RC_VALID (n : Nat) : Field := ⟨(R.LOOP_STATUS.addr n), 15, 1⟩
def R.LOOP_STATUS.FAULT_CAUSE (n : Nat) : Field := ⟨(R.LOOP_STATUS.addr n), 16, 4⟩

/-- SETPOINT, 09_scanner_control.md R246. -/
def R.SETPOINT.addr (n : Nat) : Nat := 0xE008 + 0x100 * n
def R.SETPOINT.value (n : Nat) : Field := ⟨(R.SETPOINT.addr n), 0, 32⟩

/-- FEEDBACK, 09_scanner_control.md R246. -/
def R.FEEDBACK.addr (n : Nat) : Nat := 0xE00C + 0x100 * n
def R.FEEDBACK.Y (n : Nat) : Field := ⟨(R.FEEDBACK.addr n), 0, 32⟩

/-- OUTPUT, 09_scanner_control.md R246. -/
def R.OUTPUT.addr (n : Nat) : Nat := 0xE010 + 0x100 * n
def R.OUTPUT.U (n : Nat) : Field := ⟨(R.OUTPUT.addr n), 0, 16⟩

/-- PH_ERR, 09_scanner_control.md R246. -/
def R.PH_ERR.addr (n : Nat) : Nat := 0xE014 + 0x100 * n
def R.PH_ERR.value (n : Nat) : Field := ⟨(R.PH_ERR.addr n), 0, 16⟩

/-- FACET_CFG, 09_scanner_control.md R246. -/
def R.FACET_CFG.addr (n : Nat) : Nat := 0xE018 + 0x100 * n
def R.FACET_CFG.FACETS (n : Nat) : Field := ⟨(R.FACET_CFG.addr n), 0, 8⟩
def R.FACET_CFG.FACET_OFS (n : Nat) : Field := ⟨(R.FACET_CFG.addr n), 8, 24⟩

/-- PH_GAIN, 09_scanner_control.md R246. -/
def R.PH_GAIN.addr (n : Nat) : Nat := 0xE01C + 0x100 * n
def R.PH_GAIN.KPH (n : Nat) : Field := ⟨(R.PH_GAIN.addr n), 0, 16⟩
def R.PH_GAIN.KIPH (n : Nat) : Field := ⟨(R.PH_GAIN.addr n), 16, 16⟩

/-- PH_TOL, 09_scanner_control.md R246. -/
def R.PH_TOL.addr (n : Nat) : Nat := 0xE020 + 0x100 * n
def R.PH_TOL.value (n : Nat) : Field := ⟨(R.PH_TOL.addr n), 0, 16⟩

/-- STEP_POS01, 09_scanner_control.md R246. -/
def R.STEP_POS01.addr (n : Nat) : Nat := 0xE024 + 0x100 * n
def R.STEP_POS01.STEP_POS0 (n : Nat) : Field := ⟨(R.STEP_POS01.addr n), 0, 16⟩
def R.STEP_POS01.STEP_POS1 (n : Nat) : Field := ⟨(R.STEP_POS01.addr n), 16, 16⟩

/-- STEP_POS23, 09_scanner_control.md R246. -/
def R.STEP_POS23.addr (n : Nat) : Nat := 0xE028 + 0x100 * n
def R.STEP_POS23.STEP_POS2 (n : Nat) : Field := ⟨(R.STEP_POS23.addr n), 0, 16⟩
def R.STEP_POS23.STEP_POS3 (n : Nat) : Field := ⟨(R.STEP_POS23.addr n), 16, 16⟩

/-- STEP_TOL, 09_scanner_control.md R246. -/
def R.STEP_TOL.addr (n : Nat) : Nat := 0xE02C + 0x100 * n
def R.STEP_TOL.value (n : Nat) : Field := ⟨(R.STEP_TOL.addr n), 0, 16⟩

/-- SWEEP_LO, 09_scanner_control.md R246. -/
def R.SWEEP_LO.addr (n : Nat) : Nat := 0xE030 + 0x100 * n
def R.SWEEP_LO.value (n : Nat) : Field := ⟨(R.SWEEP_LO.addr n), 0, 32⟩

/-- SWEEP_HI, 09_scanner_control.md R246. -/
def R.SWEEP_HI.addr (n : Nat) : Nat := 0xE034 + 0x100 * n
def R.SWEEP_HI.value (n : Nat) : Field := ⟨(R.SWEEP_HI.addr n), 0, 32⟩

/-- HO_CFG, 09_scanner_control.md R246. -/
def R.HO_CFG.addr (n : Nat) : Nat := 0xE038 + 0x100 * n
def R.HO_CFG.HO_LIMIT (n : Nat) : Field := ⟨(R.HO_CFG.addr n), 0, 16⟩
def R.HO_CFG.HO_TIME (n : Nat) : Field := ⟨(R.HO_CFG.addr n), 16, 16⟩

/-- FOLLOW_MAX, 09_scanner_control.md R246. -/
def R.FOLLOW_MAX.addr (n : Nat) : Nat := 0xE03C + 0x100 * n
def R.FOLLOW_MAX.value (n : Nat) : Field := ⟨(R.FOLLOW_MAX.addr n), 0, 32⟩

/-- FAULT_CFG, 09_scanner_control.md R246. -/
def R.FAULT_CFG.addr (n : Nat) : Nat := 0xE040 + 0x100 * n
def R.FAULT_CFG.FOLLOW_N (n : Nat) : Field := ⟨(R.FAULT_CFG.addr n), 0, 8⟩
def R.FAULT_CFG.ENC_TIMEOUT (n : Nat) : Field := ⟨(R.FAULT_CFG.addr n), 8, 16⟩

/-- RC_CFG, 09_scanner_control.md R246. -/
def R.RC_CFG.addr (n : Nat) : Nat := 0xE044 + 0x100 * n
def R.RC_CFG.RC_GAIN (n : Nat) : Field := ⟨(R.RC_CFG.addr n), 0, 16⟩
def R.RC_CFG.RC_FORGET (n : Nat) : Field := ⟨(R.RC_CFG.addr n), 16, 4⟩
def R.RC_CFG.RC_LEAD (n : Nat) : Field := ⟨(R.RC_CFG.addr n), 20, 8⟩

/-- RC_LIM, 09_scanner_control.md R246. -/
def R.RC_LIM.addr (n : Nat) : Nat := 0xE048 + 0x100 * n
def R.RC_LIM.value (n : Nat) : Field := ⟨(R.RC_LIM.addr n), 0, 16⟩

/-- LATE_COUNT, 09_scanner_control.md R246. -/
def R.LATE_COUNT.addr (n : Nat) : Nat := 0xE04C + 0x100 * n
def R.LATE_COUNT.LATE (n : Nat) : Field := ⟨(R.LATE_COUNT.addr n), 0, 32⟩

/-- STEP_LATE_COUNT, 09_scanner_control.md R246. -/
def R.STEP_LATE_COUNT.addr (n : Nat) : Nat := 0xE050 + 0x100 * n
def R.STEP_LATE_COUNT.STEP_LATE_N (n : Nat) : Field := ⟨(R.STEP_LATE_COUNT.addr n), 0, 32⟩

/-- RC_STATUS, 09_scanner_control.md R246. -/
def R.RC_STATUS.addr (n : Nat) : Nat := 0xE054 + 0x100 * n
def R.RC_STATUS.RC_BIN (n : Nat) : Field := ⟨(R.RC_STATUS.addr n), 0, 12⟩

/-- PWM_CFG, 09_scanner_control.md R246. -/
def R.PWM_CFG.addr (n : Nat) : Nat := 0xE058 + 0x100 * n
def R.PWM_CFG.PWM_PERIOD (n : Nat) : Field := ⟨(R.PWM_CFG.addr n), 0, 16⟩
def R.PWM_CFG.DEAD (n : Nat) : Field := ⟨(R.PWM_CFG.addr n), 16, 8⟩
def R.PWM_CFG.PWM_INV (n : Nat) : Field := ⟨(R.PWM_CFG.addr n), 24, 1⟩

/-- KP, 09_scanner_control.md R246. -/
def R.KP.addr (n s : Nat) : Nat := 0xE080 + 0x100 * n + 0x40 * s
def R.KP.value (n s : Nat) : Field := ⟨(R.KP.addr n s), 0, 32⟩

/-- KI, 09_scanner_control.md R246. -/
def R.KI.addr (n s : Nat) : Nat := 0xE084 + 0x100 * n + 0x40 * s
def R.KI.value (n s : Nat) : Field := ⟨(R.KI.addr n s), 0, 32⟩

/-- KD, 09_scanner_control.md R246. -/
def R.KD.addr (n s : Nat) : Nat := 0xE088 + 0x100 * n + 0x40 * s
def R.KD.value (n s : Nat) : Field := ⟨(R.KD.addr n s), 0, 32⟩

/-- KF, 09_scanner_control.md R246. -/
def R.KF.addr (n s : Nat) : Nat := 0xE08C + 0x100 * n + 0x40 * s
def R.KF.value (n s : Nat) : Field := ⟨(R.KF.addr n s), 0, 32⟩

/-- U_LIM, 09_scanner_control.md R246. -/
def R.U_LIM.addr (n s : Nat) : Nat := 0xE090 + 0x100 * n + 0x40 * s
def R.U_LIM.U_MIN (n s : Nat) : Field := ⟨(R.U_LIM.addr n s), 0, 16⟩
def R.U_LIM.U_MAX (n s : Nat) : Field := ⟨(R.U_LIM.addr n s), 16, 16⟩

/-- I_LIM, 09_scanner_control.md R246. -/
def R.I_LIM.addr (n s : Nat) : Nat := 0xE094 + 0x100 * n + 0x40 * s
def R.I_LIM.value (n s : Nat) : Field := ⟨(R.I_LIM.addr n s), 0, 15⟩

/-- ENC_CFG, 09_scanner_control.md R246. -/
def R.ENC_CFG.addr (m : Nat) : Nat := 0xE800 + 0x10 * m
def R.ENC_CFG.CPR (m : Nat) : Field := ⟨(R.ENC_CFG.addr m), 0, 24⟩
def R.ENC_CFG.DIR (m : Nat) : Field := ⟨(R.ENC_CFG.addr m), 24, 1⟩
def R.ENC_CFG.IDX_POL (m : Nat) : Field := ⟨(R.ENC_CFG.addr m), 25, 1⟩

/-- ENC_POS, 09_scanner_control.md R246. -/
def R.ENC_POS.addr (m : Nat) : Nat := 0xE804 + 0x10 * m
def R.ENC_POS.value (m : Nat) : Field := ⟨(R.ENC_POS.addr m), 0, 32⟩

/-- ENC_STATUS, 09_scanner_control.md R246. -/
def R.ENC_STATUS.addr (m : Nat) : Nat := 0xE808 + 0x10 * m
def R.ENC_STATUS.ENC_PRESENT (m : Nat) : Field := ⟨(R.ENC_STATUS.addr m), 0, 1⟩
def R.ENC_STATUS.QUAD_ERR (m : Nat) : Field := ⟨(R.ENC_STATUS.addr m), 1, 1⟩
def R.ENC_STATUS.IDX_ERR (m : Nat) : Field := ⟨(R.ENC_STATUS.addr m), 2, 1⟩
def R.ENC_STATUS.QUAD_ERR_COUNT (m : Nat) : Field := ⟨(R.ENC_STATUS.addr m), 16, 16⟩

/-- ENC_IDX_POS, 09_scanner_control.md R246. -/
def R.ENC_IDX_POS.addr (m : Nat) : Nat := 0xE80C + 0x10 * m
def R.ENC_IDX_POS.IDX_POS (m : Nat) : Field := ⟨(R.ENC_IDX_POS.addr m), 0, 32⟩

/-- TR_CTL, 09_scanner_control.md R246. -/
def R.TR_CTL.addr : Nat := 0xE880
def R.TR_CTL.TR_START : Field := ⟨R.TR_CTL.addr, 0, 1⟩
def R.TR_CTL.TR_STOP : Field := ⟨R.TR_CTL.addr, 1, 1⟩
def R.TR_CTL.TR_MODE : Field := ⟨R.TR_CTL.addr, 2, 1⟩
def R.TR_CTL.TR_LOOP : Field := ⟨R.TR_CTL.addr, 4, 3⟩
def R.TR_CTL.TR_DEC : Field := ⟨R.TR_CTL.addr, 8, 8⟩
def R.TR_CTL.TR_TRIG : Field := ⟨R.TR_CTL.addr, 16, 3⟩

/-- TR_POST, 09_scanner_control.md R246. -/
def R.TR_POST.addr : Nat := 0xE884
def R.TR_POST.value : Field := ⟨R.TR_POST.addr, 0, 16⟩

/-- TR_STATUS, 09_scanner_control.md R246. -/
def R.TR_STATUS.addr : Nat := 0xE888
def R.TR_STATUS.TR_RUN : Field := ⟨R.TR_STATUS.addr, 0, 1⟩
def R.TR_STATUS.TR_DONE : Field := ⟨R.TR_STATUS.addr, 1, 1⟩
def R.TR_STATUS.TR_TRIGGERED : Field := ⟨R.TR_STATUS.addr, 2, 1⟩
def R.TR_STATUS.TR_TRIG_IDX : Field := ⟨R.TR_STATUS.addr, 16, 16⟩

/-- TR_WPTR, 09_scanner_control.md R246. -/
def R.TR_WPTR.addr : Nat := 0xE88C
def R.TR_WPTR.value : Field := ⟨R.TR_WPTR.addr, 0, 16⟩

/-- TR_NODE, 09_scanner_control.md R246. -/
def R.TR_NODE.addr (j : Nat) : Nat := 0xE890 + 0x4 * j
def R.TR_NODE.NODE_LOOP (j : Nat) : Field := ⟨(R.TR_NODE.addr j), 0, 3⟩
def R.TR_NODE.NODE_SIG (j : Nat) : Field := ⟨(R.TR_NODE.addr j), 4, 4⟩

/-- MC_STATUS, 09_scanner_control.md R246. -/
def R.MC_STATUS.addr : Nat := 0xE8D0
def R.MC_STATUS.FAULTED : Field := ⟨R.MC_STATUS.addr, 0, 8⟩
def R.MC_STATUS.PARKED_ALL : Field := ⟨R.MC_STATUS.addr, 8, 8⟩
def R.MC_STATUS.PARK_REQ : Field := ⟨R.MC_STATUS.addr, 16, 1⟩
def R.MC_STATUS.WRITE_REJECTED : Field := ⟨R.MC_STATUS.addr, 17, 1⟩

/-- TARGET, 09_scanner_control.md R246. -/
def R.TARGET.addr (n p : Nat) : Nat := 0xF000 + 0x100 * n + 0x10 * p
def R.TARGET.value (n p : Nat) : Field := ⟨(R.TARGET.addr n p), 0, 32⟩

/-- VMAX, 09_scanner_control.md R246. -/
def R.VMAX.addr (n p : Nat) : Nat := 0xF004 + 0x100 * n + 0x10 * p
def R.VMAX.value (n p : Nat) : Field := ⟨(R.VMAX.addr n p), 0, 32⟩

/-- AMAX, 09_scanner_control.md R246. -/
def R.AMAX.addr (n p : Nat) : Nat := 0xF008 + 0x100 * n + 0x10 * p
def R.AMAX.value (n p : Nat) : Field := ⟨(R.AMAX.addr n p), 0, 32⟩

/-- JMAX, 09_scanner_control.md R246. -/
def R.JMAX.addr (n p : Nat) : Nat := 0xF00C + 0x100 * n + 0x10 * p
def R.JMAX.value (n p : Nat) : Field := ⟨(R.JMAX.addr n p), 0, 32⟩

/-- LANE_CTL, 10_trunk.md R276. -/
def R.LANE_CTL.addr (l : Nat) : Nat := R.laneBase l + 0x0
def R.LANE_CTL.LANE_EN (l : Nat) : Field := ⟨(R.LANE_CTL.addr l), 0, 1⟩
def R.LANE_CTL.PORT (l : Nat) : Field := ⟨(R.LANE_CTL.addr l), 1, 1⟩
def R.LANE_CTL.LANE_MODE (l : Nat) : Field := ⟨(R.LANE_CTL.addr l), 2, 2⟩
def R.LANE_CTL.PRBS_SEL (l : Nat) : Field := ⟨(R.LANE_CTL.addr l), 4, 2⟩
def R.LANE_CTL.TX_SLEEP_EN (l : Nat) : Field := ⟨(R.LANE_CTL.addr l), 6, 1⟩
def R.LANE_CTL.DEEP_EN (l : Nat) : Field := ⟨(R.LANE_CTL.addr l), 7, 1⟩
def R.LANE_CTL.INJ_BIT (l : Nat) : Field := ⟨(R.LANE_CTL.addr l), 8, 1⟩
def R.LANE_CTL.INJ_BURST (l : Nat) : Field := ⟨(R.LANE_CTL.addr l), 9, 1⟩
def R.LANE_CTL.INJ_CRC (l : Nat) : Field := ⟨(R.LANE_CTL.addr l), 10, 1⟩
def R.LANE_CTL.CHK_CLEAR (l : Nat) : Field := ⟨(R.LANE_CTL.addr l), 11, 1⟩
def R.LANE_CTL.BURST_LEN (l : Nat) : Field := ⟨(R.LANE_CTL.addr l), 16, 8⟩

/-- LANE_STATUS, 10_trunk.md R276. -/
def R.LANE_STATUS.addr (l : Nat) : Nat := R.laneBase l + 0x4
def R.LANE_STATUS.LSTATE (l : Nat) : Field := ⟨(R.LANE_STATUS.addr l), 0, 3⟩
def R.LANE_STATUS.TX_PWR (l : Nat) : Field := ⟨(R.LANE_STATUS.addr l), 3, 2⟩
def R.LANE_STATUS.RX_PWR (l : Nat) : Field := ⟨(R.LANE_STATUS.addr l), 5, 2⟩
def R.LANE_STATUS.BLOCK_LOCK (l : Nat) : Field := ⟨(R.LANE_STATUS.addr l), 7, 1⟩
def R.LANE_STATUS.PRBS_LOCK (l : Nat) : Field := ⟨(R.LANE_STATUS.addr l), 8, 1⟩
def R.LANE_STATUS.WRITE_REJECTED (l : Nat) : Field := ⟨(R.LANE_STATUS.addr l), 9, 1⟩
def R.LANE_STATUS.LANE_FAILED (l : Nat) : Field := ⟨(R.LANE_STATUS.addr l), 10, 1⟩
def R.LANE_STATUS.STUFF_ERR (l : Nat) : Field := ⟨(R.LANE_STATUS.addr l), 11, 1⟩

/-- LANE_RETRY_COUNT, 10_trunk.md R276. -/
def R.LANE_RETRY_COUNT.addr (l : Nat) : Nat := R.laneBase l + 0x8
def R.LANE_RETRY_COUNT.RETRIES (l : Nat) : Field := ⟨(R.LANE_RETRY_COUNT.addr l), 0, 32⟩

/-- CRC_ERR_COUNT, 10_trunk.md R276. -/
def R.CRC_ERR_COUNT.addr (l : Nat) : Nat := R.laneBase l + 0xC
def R.CRC_ERR_COUNT.CRC_ERRS (l : Nat) : Field := ⟨(R.CRC_ERR_COUNT.addr l), 0, 32⟩

/-- HDR_ERR_COUNT, 10_trunk.md R276. -/
def R.HDR_ERR_COUNT.addr (l : Nat) : Nat := R.laneBase l + 0x10
def R.HDR_ERR_COUNT.HDR_ERRS (l : Nat) : Field := ⟨(R.HDR_ERR_COUNT.addr l), 0, 32⟩

/-- STUFF_ERR_COUNT, 10_trunk.md R276. -/
def R.STUFF_ERR_COUNT.addr (l : Nat) : Nat := R.laneBase l + 0x14
def R.STUFF_ERR_COUNT.STUFF_ERRS (l : Nat) : Field := ⟨(R.STUFF_ERR_COUNT.addr l), 0, 32⟩

/-- PRBS_ERR_COUNT, 10_trunk.md R276. -/
def R.PRBS_ERR_COUNT.addr (l : Nat) : Nat := R.laneBase l + 0x18
def R.PRBS_ERR_COUNT.PRBS_ERRS (l : Nat) : Field := ⟨(R.PRBS_ERR_COUNT.addr l), 0, 32⟩

/-- PRBS_BITS_LO, 10_trunk.md R276. -/
def R.PRBS_BITS_LO.addr (l : Nat) : Nat := R.laneBase l + 0x1C
def R.PRBS_BITS_LO.BITS_LO (l : Nat) : Field := ⟨(R.PRBS_BITS_LO.addr l), 0, 32⟩

/-- PRBS_BITS_HI, 10_trunk.md R276. -/
def R.PRBS_BITS_HI.addr (l : Nat) : Nat := R.laneBase l + 0x20
def R.PRBS_BITS_HI.BITS_HI (l : Nat) : Field := ⟨(R.PRBS_BITS_HI.addr l), 0, 32⟩

/-- LANE_PARTNER, 10_trunk.md R276. -/
def R.LANE_PARTNER.addr (l : Nat) : Nat := R.laneBase l + 0x24
def R.LANE_PARTNER.P_LANE (l : Nat) : Field := ⟨(R.LANE_PARTNER.addr l), 0, 4⟩
def R.LANE_PARTNER.P_PORT (l : Nat) : Field := ⟨(R.LANE_PARTNER.addr l), 4, 4⟩
def R.LANE_PARTNER.P_MAX_BLK (l : Nat) : Field := ⟨(R.LANE_PARTNER.addr l), 8, 8⟩

/-- LANE_TX_PARCELS, 10_trunk.md R276. -/
def R.LANE_TX_PARCELS.addr (l : Nat) : Nat := R.laneBase l + 0x28
def R.LANE_TX_PARCELS.TX_PARCELS (l : Nat) : Field := ⟨(R.LANE_TX_PARCELS.addr l), 0, 32⟩

/-- LANE_RX_PARCELS, 10_trunk.md R276. -/
def R.LANE_RX_PARCELS.addr (l : Nat) : Nat := R.laneBase l + 0x2C
def R.LANE_RX_PARCELS.RX_PARCELS (l : Nat) : Field := ⟨(R.LANE_RX_PARCELS.addr l), 0, 32⟩

/-- CAP_TIMEOUT_COUNT, 10_trunk.md R276. -/
def R.CAP_TIMEOUT_COUNT.addr (l : Nat) : Nat := R.laneBase l + 0x30
def R.CAP_TIMEOUT_COUNT.CAP_TIMEOUTS (l : Nat) : Field := ⟨(R.CAP_TIMEOUT_COUNT.addr l), 0, 32⟩

/-- TRK_CFG, 10_trunk.md R276. -/
def R.TRK_CFG.addr : Nat := 0x21000
def R.TRK_CFG.ACK_TIMEOUT : Field := ⟨R.TRK_CFG.addr, 0, 8⟩
def R.TRK_CFG.RETRY_MAX : Field := ⟨R.TRK_CFG.addr, 8, 4⟩
def R.TRK_CFG.PARCEL_TIMEOUT : Field := ⟨R.TRK_CFG.addr, 16, 16⟩

/-- TRK_SLEEP, 10_trunk.md R276. -/
def R.TRK_SLEEP.addr : Nat := 0x21004
def R.TRK_SLEEP.TX_SLEEP_IDLE : Field := ⟨R.TRK_SLEEP.addr, 0, 16⟩
def R.TRK_SLEEP.AWAKE_MIN : Field := ⟨R.TRK_SLEEP.addr, 16, 4⟩

/-- TRK_WAKE, 10_trunk.md R276. -/
def R.TRK_WAKE.addr : Nat := 0x21008
def R.TRK_WAKE.WAKE_BYTES : Field := ⟨R.TRK_WAKE.addr, 0, 32⟩

/-- TRK_STATUS, 10_trunk.md R276. -/
def R.TRK_STATUS.addr : Nat := 0x2100C
def R.TRK_STATUS.PORT0_UP : Field := ⟨R.TRK_STATUS.addr, 0, 1⟩
def R.TRK_STATUS.PORT1_UP : Field := ⟨R.TRK_STATUS.addr, 1, 1⟩
def R.TRK_STATUS.CAP_MISMATCH : Field := ⟨R.TRK_STATUS.addr, 2, 1⟩
def R.TRK_STATUS.GAP_SEEN : Field := ⟨R.TRK_STATUS.addr, 3, 1⟩

/-- PORT_PARTNER_LO, 10_trunk.md R276. -/
def R.PORT_PARTNER_LO.addr (k : Nat) : Nat := 0x21010 + 0x8 * k
def R.PORT_PARTNER_LO.ID_LO (k : Nat) : Field := ⟨(R.PORT_PARTNER_LO.addr k), 0, 32⟩

/-- PORT_PARTNER_HI, 10_trunk.md R276. -/
def R.PORT_PARTNER_HI.addr (k : Nat) : Nat := 0x21014 + 0x8 * k
def R.PORT_PARTNER_HI.ID_HI (k : Nat) : Field := ⟨(R.PORT_PARTNER_HI.addr k), 0, 32⟩

/-- TRK_GAP_SPLIT, 10_trunk.md R276. -/
def R.TRK_GAP_SPLIT.addr : Nat := 0x21020
def R.TRK_GAP_SPLIT.GAP_SPLIT : Field := ⟨R.TRK_GAP_SPLIT.addr, 0, 16⟩

/-- CTYPE_UNKNOWN_COUNT, 10_trunk.md R276. -/
def R.CTYPE_UNKNOWN_COUNT.addr : Nat := 0x21024
def R.CTYPE_UNKNOWN_COUNT.UNKNOWN : Field := ⟨R.CTYPE_UNKNOWN_COUNT.addr, 0, 32⟩

/-- PORT_REORDER, 10_trunk.md R276. -/
def R.PORT_REORDER.addr (k : Nat) : Nat := 0x21028 + 0x4 * k
def R.PORT_REORDER.REORDER_WIN (k : Nat) : Field := ⟨(R.PORT_REORDER.addr k), 0, 7⟩
def R.PORT_REORDER.INIT_CREDIT (k : Nat) : Field := ⟨(R.PORT_REORDER.addr k), 16, 16⟩

/-- STREAM_CFG, 10_trunk.md R276. -/
def R.STREAM_CFG.addr (s : Nat) : Nat := 0x21100 + 0x20 * s
def R.STREAM_CFG.STREAM_PORT (s : Nat) : Field := ⟨(R.STREAM_CFG.addr s), 0, 1⟩
def R.STREAM_CFG.SPILL_EN (s : Nat) : Field := ⟨(R.STREAM_CFG.addr s), 1, 1⟩

/-- EGQ_QUOTA, 10_trunk.md R276. -/
def R.EGQ_QUOTA.addr (s : Nat) : Nat := 0x21104 + 0x20 * s
def R.EGQ_QUOTA.value (s : Nat) : Field := ⟨(R.EGQ_QUOTA.addr s), 0, 32⟩

/-- LAYBY_QUOTA, 10_trunk.md R276. -/
def R.LAYBY_QUOTA.addr (s : Nat) : Nat := 0x21108 + 0x20 * s
def R.LAYBY_QUOTA.value (s : Nat) : Field := ⟨(R.LAYBY_QUOTA.addr s), 0, 24⟩

/-- CREDIT_LIMIT, 10_trunk.md R276. -/
def R.CREDIT_LIMIT.addr (s : Nat) : Nat := 0x2110C + 0x20 * s
def R.CREDIT_LIMIT.value (s : Nat) : Field := ⟨(R.CREDIT_LIMIT.addr s), 0, 32⟩

/-- SSEQ_NEXT, 10_trunk.md R276. -/
def R.SSEQ_NEXT.addr (s : Nat) : Nat := 0x21110 + 0x20 * s
def R.SSEQ_NEXT.value (s : Nat) : Field := ⟨(R.SSEQ_NEXT.addr s), 0, 32⟩

/-- EGQ_BYTES, 10_trunk.md R276. -/
def R.EGQ_BYTES.addr (s : Nat) : Nat := 0x21114 + 0x20 * s
def R.EGQ_BYTES.value (s : Nat) : Field := ⟨(R.EGQ_BYTES.addr s), 0, 32⟩

/-- LAYBY_BYTES, 10_trunk.md R276. -/
def R.LAYBY_BYTES.addr (s : Nat) : Nat := 0x21118 + 0x20 * s
def R.LAYBY_BYTES.LAYBY_KIB (s : Nat) : Field := ⟨(R.LAYBY_BYTES.addr s), 0, 32⟩

/-- LOST_PARCELS, 10_trunk.md R276. -/
def R.LOST_PARCELS.addr (s : Nat) : Nat := 0x2111C + 0x20 * s
def R.LOST_PARCELS.LOST (s : Nat) : Field := ⟨(R.LOST_PARCELS.addr s), 0, 32⟩

/-- TW_CTL, 11_twin.md R299. -/
def R.TW_CTL.addr : Nat := 0x28800
def R.TW_CTL.TWIN_EN : Field := ⟨R.TW_CTL.addr, 0, 1⟩
def R.TW_CTL.RELEASE : Field := ⟨R.TW_CTL.addr, 1, 1⟩
def R.TW_CTL.ALIGN_GBPS : Field := ⟨R.TW_CTL.addr, 8, 5⟩

/-- TW_STATUS, 11_twin.md R299. -/
def R.TW_STATUS.addr : Nat := 0x28804
def R.TW_STATUS.TW_STATE : Field := ⟨R.TW_STATUS.addr, 0, 3⟩
def R.TW_STATUS.UNIT : Field := ⟨R.TW_STATUS.addr, 3, 1⟩
def R.TW_STATUS.OWN_HELD : Field := ⟨R.TW_STATUS.addr, 4, 1⟩
def R.TW_STATUS.OWN_FREE : Field := ⟨R.TW_STATUS.addr, 5, 1⟩
def R.TW_STATUS.PATH_A_OK : Field := ⟨R.TW_STATUS.addr, 6, 1⟩
def R.TW_STATUS.PATH_B_OK : Field := ⟨R.TW_STATUS.addr, 7, 1⟩
def R.TW_STATUS.DEGRADED : Field := ⟨R.TW_STATUS.addr, 8, 1⟩
def R.TW_STATUS.REFUSED : Field := ⟨R.TW_STATUS.addr, 9, 1⟩
def R.TW_STATUS.CFG_MATCH : Field := ⟨R.TW_STATUS.addr, 10, 1⟩
def R.TW_STATUS.PARTNER_NRST_STUCK : Field := ⟨R.TW_STATUS.addr, 11, 1⟩
def R.TW_STATUS.REFUSE_CAUSE : Field := ⟨R.TW_STATUS.addr, 12, 4⟩
def R.TW_STATUS.EPOCHS_DONE : Field := ⟨R.TW_STATUS.addr, 16, 8⟩

/-- TW_PAIR_ID_LO, 11_twin.md R299. -/
def R.TW_PAIR_ID_LO.addr : Nat := 0x28808
def R.TW_PAIR_ID_LO.PAIR_ID_LO : Field := ⟨R.TW_PAIR_ID_LO.addr, 0, 32⟩

/-- TW_PAIR_ID_HI, 11_twin.md R299. -/
def R.TW_PAIR_ID_HI.addr : Nat := 0x2880C
def R.TW_PAIR_ID_HI.PAIR_ID_HI : Field := ⟨R.TW_PAIR_ID_HI.addr, 0, 32⟩

/-- TW_PARTNER, 11_twin.md R299. -/
def R.TW_PARTNER.addr : Nat := 0x28810
def R.TW_PARTNER.P_VARIANT : Field := ⟨R.TW_PARTNER.addr, 0, 4⟩
def R.TW_PARTNER.P_STATE : Field := ⟨R.TW_PARTNER.addr, 4, 3⟩
def R.TW_PARTNER.P_UNIT : Field := ⟨R.TW_PARTNER.addr, 7, 1⟩
def R.TW_PARTNER.P_VALID : Field := ⟨R.TW_PARTNER.addr, 8, 1⟩

/-- TW_PARTNER_CFG_LO, 11_twin.md R299. -/
def R.TW_PARTNER_CFG_LO.addr : Nat := 0x28814
def R.TW_PARTNER_CFG_LO.P_CFG_LO : Field := ⟨R.TW_PARTNER_CFG_LO.addr, 0, 32⟩

/-- TW_PARTNER_CFG_HI, 11_twin.md R299. -/
def R.TW_PARTNER_CFG_HI.addr : Nat := 0x28818
def R.TW_PARTNER_CFG_HI.P_CFG_HI : Field := ⟨R.TW_PARTNER_CFG_HI.addr, 0, 32⟩

/-- TW_PARTNER_FW_LO, 11_twin.md R299. -/
def R.TW_PARTNER_FW_LO.addr : Nat := 0x2881C
def R.TW_PARTNER_FW_LO.P_FW_LO : Field := ⟨R.TW_PARTNER_FW_LO.addr, 0, 32⟩

/-- TW_PARTNER_FW_HI, 11_twin.md R299. -/
def R.TW_PARTNER_FW_HI.addr : Nat := 0x28820
def R.TW_PARTNER_FW_HI.P_FW_HI : Field := ⟨R.TW_PARTNER_FW_HI.addr, 0, 32⟩

/-- TW_TOFS_LO, 11_twin.md R299. -/
def R.TW_TOFS_LO.addr : Nat := 0x28824
def R.TW_TOFS_LO.TOFS_LO : Field := ⟨R.TW_TOFS_LO.addr, 0, 32⟩

/-- TW_TOFS_HI, 11_twin.md R299. -/
def R.TW_TOFS_HI.addr : Nat := 0x28828
def R.TW_TOFS_HI.TOFS_HI : Field := ⟨R.TW_TOFS_HI.addr, 0, 32⟩

/-- TW_TOFS_FRAC, 11_twin.md R299. -/
def R.TW_TOFS_FRAC.addr : Nat := 0x2882C
def R.TW_TOFS_FRAC.TOFS_FRAC : Field := ⟨R.TW_TOFS_FRAC.addr, 0, 7⟩

/-- TW_TAKEOVERS, 11_twin.md R299. -/
def R.TW_TAKEOVERS.addr : Nat := 0x28830
def R.TW_TAKEOVERS.TAKEOVERS : Field := ⟨R.TW_TAKEOVERS.addr, 0, 32⟩

/-- TW_REFUSALS, 11_twin.md R299. -/
def R.TW_REFUSALS.addr : Nat := 0x28834
def R.TW_REFUSALS.REFUSALS : Field := ⟨R.TW_REFUSALS.addr, 0, 32⟩

/-- TW_MISS_A, 11_twin.md R299. -/
def R.TW_MISS_A.addr : Nat := 0x28838
def R.TW_MISS_A.MISS_A : Field := ⟨R.TW_MISS_A.addr, 0, 32⟩

/-- TW_MISS_B, 11_twin.md R299. -/
def R.TW_MISS_B.addr : Nat := 0x2883C
def R.TW_MISS_B.MISS_B : Field := ⟨R.TW_MISS_B.addr, 0, 32⟩

/-- TW_SHADOW_MISS, 11_twin.md R299. -/
def R.TW_SHADOW_MISS.addr : Nat := 0x28840
def R.TW_SHADOW_MISS.SHADOW_MISS : Field := ⟨R.TW_SHADOW_MISS.addr, 0, 32⟩

/-- TW_LAST_GAP, 11_twin.md R299. -/
def R.TW_LAST_GAP.addr : Nat := 0x28844
def R.TW_LAST_GAP.LAST_GAP : Field := ⟨R.TW_LAST_GAP.addr, 0, 32⟩

/-- TW_HOLD_DROP, 11_twin.md R299. -/
def R.TW_HOLD_DROP.addr : Nat := 0x28848
def R.TW_HOLD_DROP.HOLD_DROP : Field := ⟨R.TW_HOLD_DROP.addr, 0, 32⟩

/-- MEM_CFG, 12_stream_memory.md R316. -/
def R.MEM_CFG.addr : Nat := 0x30000
def R.MEM_CFG.ADDR_ORDER : Field := ⟨R.MEM_CFG.addr, 0, 2⟩
def R.MEM_CFG.BANK_XOR : Field := ⟨R.MEM_CFG.addr, 2, 1⟩
def R.MEM_CFG.LINK_ECC : Field := ⟨R.MEM_CFG.addr, 3, 1⟩
def R.MEM_CFG.DBI : Field := ⟨R.MEM_CFG.addr, 4, 1⟩
def R.MEM_CFG.RATE : Field := ⟨R.MEM_CFG.addr, 5, 3⟩
def R.MEM_CFG.TRAIN_MIN_EYE : Field := ⟨R.MEM_CFG.addr, 8, 6⟩
def R.MEM_CFG.TRACK_THR : Field := ⟨R.MEM_CFG.addr, 14, 4⟩

/-- MEM_STATUS, 12_stream_memory.md R316. -/
def R.MEM_STATUS.addr : Nat := 0x30004
def R.MEM_STATUS.MEM_READY : Field := ⟨R.MEM_STATUS.addr, 0, 1⟩
def R.MEM_STATUS.DRAM_DEGRADED : Field := ⟨R.MEM_STATUS.addr, 1, 1⟩
def R.MEM_STATUS.WRITE_REJECTED : Field := ⟨R.MEM_STATUS.addr, 2, 1⟩
def R.MEM_STATUS.PORTS_FITTED : Field := ⟨R.MEM_STATUS.addr, 8, 4⟩
def R.MEM_STATUS.PORTS_USED : Field := ⟨R.MEM_STATUS.addr, 12, 4⟩
def R.MEM_STATUS.CAP_GB : Field := ⟨R.MEM_STATUS.addr, 16, 9⟩

/-- SR_CFG, 12_stream_memory.md R316. -/
def R.SR_CFG.addr : Nat := 0x30008
def R.SR_CFG.SR_EN : Field := ⟨R.SR_CFG.addr, 0, 1⟩
def R.SR_CFG.SR_IDLE : Field := ⟨R.SR_CFG.addr, 1, 15⟩
def R.SR_CFG.SR_MIN : Field := ⟨R.SR_CFG.addr, 16, 16⟩

/-- TOLL_CFG, 12_stream_memory.md R316. -/
def R.TOLL_CFG.addr : Nat := 0x3000C
def R.TOLL_CFG.TOLL_EN : Field := ⟨R.TOLL_CFG.addr, 0, 1⟩
def R.TOLL_CFG.TOLL_ACT : Field := ⟨R.TOLL_CFG.addr, 1, 15⟩
def R.TOLL_CFG.TOLL_NS : Field := ⟨R.TOLL_CFG.addr, 16, 16⟩

/-- LAYBY_BASE, 12_stream_memory.md R316. -/
def R.LAYBY_BASE.addr : Nat := 0x30010
def R.LAYBY_BASE.value : Field := ⟨R.LAYBY_BASE.addr, 0, 17⟩

/-- LAYBY_SIZE, 12_stream_memory.md R316. -/
def R.LAYBY_SIZE.addr : Nat := 0x30014
def R.LAYBY_SIZE.value : Field := ⟨R.LAYBY_SIZE.addr, 0, 18⟩

/-- REPLAY_CFG, 12_stream_memory.md R316. -/
def R.REPLAY_CFG.addr : Nat := 0x30020
def R.REPLAY_CFG.REPLAY_EN : Field := ⟨R.REPLAY_CFG.addr, 0, 1⟩
def R.REPLAY_CFG.REPLAY_STREAMS : Field := ⟨R.REPLAY_CFG.addr, 1, 7⟩

/-- REPLAY_BASE, 12_stream_memory.md R316. -/
def R.REPLAY_BASE.addr : Nat := 0x30024
def R.REPLAY_BASE.value : Field := ⟨R.REPLAY_BASE.addr, 0, 17⟩

/-- REPLAY_SIZE, 12_stream_memory.md R316. -/
def R.REPLAY_SIZE.addr : Nat := 0x30028
def R.REPLAY_SIZE.value : Field := ⟨R.REPLAY_SIZE.addr, 0, 18⟩

/-- REPLAY_IDX, 12_stream_memory.md R316. -/
def R.REPLAY_IDX.addr : Nat := 0x3002C
def R.REPLAY_IDX.REPLAY_IDX_BASE : Field := ⟨R.REPLAY_IDX.addr, 0, 17⟩
def R.REPLAY_IDX.REPLAY_IDX_SIZE : Field := ⟨R.REPLAY_IDX.addr, 17, 10⟩

/-- REPLAY_OLDEST_LO, 12_stream_memory.md R316. -/
def R.REPLAY_OLDEST_LO.addr : Nat := 0x30030
def R.REPLAY_OLDEST_LO.OLDEST_LO : Field := ⟨R.REPLAY_OLDEST_LO.addr, 0, 32⟩

/-- REPLAY_OLDEST_HI, 12_stream_memory.md R316. -/
def R.REPLAY_OLDEST_HI.addr : Nat := 0x30034
def R.REPLAY_OLDEST_HI.OLDEST_HI : Field := ⟨R.REPLAY_OLDEST_HI.addr, 0, 32⟩

/-- REPLAY_SKIP, 12_stream_memory.md R316. -/
def R.REPLAY_SKIP.addr : Nat := 0x30038
def R.REPLAY_SKIP.SKIP : Field := ⟨R.REPLAY_SKIP.addr, 0, 32⟩

/-- REQ_START_LO, 12_stream_memory.md R316. -/
def R.REQ_START_LO.addr : Nat := 0x30040
def R.REQ_START_LO.START_LO : Field := ⟨R.REQ_START_LO.addr, 0, 32⟩

/-- REQ_START_HI, 12_stream_memory.md R316. -/
def R.REQ_START_HI.addr : Nat := 0x30044
def R.REQ_START_HI.START_HI : Field := ⟨R.REQ_START_HI.addr, 0, 32⟩

/-- REQ_END_LO, 12_stream_memory.md R316. -/
def R.REQ_END_LO.addr : Nat := 0x30048
def R.REQ_END_LO.END_LO : Field := ⟨R.REQ_END_LO.addr, 0, 32⟩

/-- REQ_END_HI, 12_stream_memory.md R316. -/
def R.REQ_END_HI.addr : Nat := 0x3004C
def R.REQ_END_HI.END_HI : Field := ⟨R.REQ_END_HI.addr, 0, 32⟩

/-- REQ_CTL, 12_stream_memory.md R316. -/
def R.REQ_CTL.addr : Nat := 0x30050
def R.REQ_CTL.REQ_GO : Field := ⟨R.REQ_CTL.addr, 0, 1⟩
def R.REQ_CTL.REQ_ABORT : Field := ⟨R.REQ_CTL.addr, 1, 1⟩
def R.REQ_CTL.REQ_STREAMS : Field := ⟨R.REQ_CTL.addr, 2, 6⟩
def R.REQ_CTL.REQ_TAG : Field := ⟨R.REQ_CTL.addr, 16, 16⟩

/-- REQ_STATUS, 12_stream_memory.md R316. -/
def R.REQ_STATUS.addr : Nat := 0x30054
def R.REQ_STATUS.REQ_BUSY : Field := ⟨R.REQ_STATUS.addr, 0, 1⟩
def R.REQ_STATUS.CLIPPED : Field := ⟨R.REQ_STATUS.addr, 1, 1⟩
def R.REQ_STATUS.OVERRUN : Field := ⟨R.REQ_STATUS.addr, 2, 1⟩
def R.REQ_STATUS.REQ_BUSY_REJ : Field := ⟨R.REQ_STATUS.addr, 3, 1⟩

/-- PORT_TRAIN, 12_stream_memory.md R316. -/
def R.PORT_TRAIN.addr (p : Nat) : Nat := 0x30100 + 0x40 * p
def R.PORT_TRAIN.EYE_RD (p : Nat) : Field := ⟨(R.PORT_TRAIN.addr p), 0, 6⟩
def R.PORT_TRAIN.EYE_WR (p : Nat) : Field := ⟨(R.PORT_TRAIN.addr p), 8, 6⟩
def R.PORT_TRAIN.TRAIN_FAIL (p : Nat) : Field := ⟨(R.PORT_TRAIN.addr p), 14, 1⟩
def R.PORT_TRAIN.SR_NOW (p : Nat) : Field := ⟨(R.PORT_TRAIN.addr p), 15, 1⟩

/-- PASR_MASK, 12_stream_memory.md R316. -/
def R.PASR_MASK.addr (p : Nat) : Nat := 0x30104 + 0x40 * p
def R.PASR_MASK.value (p : Nat) : Field := ⟨(R.PASR_MASK.addr p), 0, 8⟩

/-- SR_ENTRIES, 12_stream_memory.md R316. -/
def R.SR_ENTRIES.addr (p : Nat) : Nat := 0x30108 + 0x40 * p
def R.SR_ENTRIES.value (p : Nat) : Field := ⟨(R.SR_ENTRIES.addr p), 0, 32⟩

/-- LECC_CORR, 12_stream_memory.md R316. -/
def R.LECC_CORR.addr (p : Nat) : Nat := 0x3010C + 0x40 * p
def R.LECC_CORR.CORR (p : Nat) : Field := ⟨(R.LECC_CORR.addr p), 0, 32⟩

/-- LECC_UNCORR, 12_stream_memory.md R316. -/
def R.LECC_UNCORR.addr (p : Nat) : Nat := 0x30110 + 0x40 * p
def R.LECC_UNCORR.UNCORR (p : Nat) : Field := ⟨(R.LECC_UNCORR.addr p), 0, 32⟩

/-- REQ_HINT, 12_stream_memory.md R316. -/
def R.REQ_HINT.addr (r : Nat) : Nat := 0x30400 + 0x4 * r
def R.REQ_HINT.HINT (r : Nat) : Field := ⟨(R.REQ_HINT.addr r), 0, 1⟩
def R.REQ_HINT.TOLL_COUNT (r : Nat) : Field := ⟨(R.REQ_HINT.addr r), 16, 16⟩

/-- CAP_CTL, 13_capture.md R330. -/
def R.CAP_CTL.addr : Nat := 0x38000
def R.CAP_CTL.CAP_STOP : Field := ⟨R.CAP_CTL.addr, 0, 1⟩
def R.CAP_CTL.READOUT : Field := ⟨R.CAP_CTL.addr, 1, 1⟩
def R.CAP_CTL.AUTO_READ : Field := ⟨R.CAP_CTL.addr, 2, 1⟩
def R.CAP_CTL.CAP_FORCE : Field := ⟨R.CAP_CTL.addr, 3, 1⟩

/-- CAP_STATUS, 13_capture.md R330. -/
def R.CAP_STATUS.addr : Nat := 0x38004
def R.CAP_STATUS.CAP_STATE : Field := ⟨R.CAP_STATUS.addr, 0, 3⟩
def R.CAP_STATUS.SETUP_NOW : Field := ⟨R.CAP_STATUS.addr, 3, 4⟩
def R.CAP_STATUS.WRITE_REJECTED : Field := ⟨R.CAP_STATUS.addr, 7, 1⟩
def R.CAP_STATUS.ARM_REJ : Field := ⟨R.CAP_STATUS.addr, 8, 1⟩

/-- CAP_NUM, 13_capture.md R330. -/
def R.CAP_NUM.addr : Nat := 0x38008
def R.CAP_NUM.value : Field := ⟨R.CAP_NUM.addr, 0, 32⟩

/-- CAP_DRAM_BASE, 13_capture.md R330. -/
def R.CAP_DRAM_BASE.addr : Nat := 0x3800C
def R.CAP_DRAM_BASE.value : Field := ⟨R.CAP_DRAM_BASE.addr, 0, 17⟩

/-- CAP_DRAM_SIZE, 13_capture.md R330. -/
def R.CAP_DRAM_SIZE.addr : Nat := 0x38010
def R.CAP_DRAM_SIZE.value : Field := ⟨R.CAP_DRAM_SIZE.addr, 0, 18⟩

/-- CAP_ARM, 13_capture.md R330. -/
def R.CAP_ARM.addr : Nat := 0x38014
def R.CAP_ARM.SETUP : Field := ⟨R.CAP_ARM.addr, 0, 4⟩
def R.CAP_ARM.ARM : Field := ⟨R.CAP_ARM.addr, 4, 1⟩

/-- CAP_LOST, 13_capture.md R330. -/
def R.CAP_LOST.addr : Nat := 0x38018
def R.CAP_LOST.LOST : Field := ⟨R.CAP_LOST.addr, 0, 32⟩

/-- CS_CTL, 13_capture.md R330. -/
def R.CS_CTL.addr (s : Nat) : Nat := 0x38400 + 0x100 * s
def R.CS_CTL.SETUP_VALID (s : Nat) : Field := ⟨(R.CS_CTL.addr s), 0, 1⟩
def R.CS_CTL.XTRIG_OUT (s : Nat) : Field := ⟨(R.CS_CTL.addr s), 1, 1⟩
def R.CS_CTL.XTRIG_IN (s : Nat) : Field := ⟨(R.CS_CTL.addr s), 2, 1⟩
def R.CS_CTL.FORCE_EN (s : Nat) : Field := ⟨(R.CS_CTL.addr s), 3, 1⟩
def R.CS_CTL.AVG_US (s : Nat) : Field := ⟨(R.CS_CTL.addr s), 8, 24⟩

/-- CS_PRE, 13_capture.md R330. -/
def R.CS_PRE.addr (s : Nat) : Nat := 0x38404 + 0x100 * s
def R.CS_PRE.PRE (s : Nat) : Field := ⟨(R.CS_PRE.addr s), 0, 32⟩

/-- CS_POST, 13_capture.md R330. -/
def R.CS_POST.addr (s : Nat) : Nat := 0x38408 + 0x100 * s
def R.CS_POST.POST (s : Nat) : Field := ⟨(R.CS_POST.addr s), 0, 32⟩

/-- CS_SLOT, 13_capture.md R330. -/
def R.CS_SLOT.addr (s k : Nat) : Nat := 0x38410 + 0x100 * s + 0x4 * k
def R.CS_SLOT.SRC_KIND (s k : Nat) : Field := ⟨(R.CS_SLOT.addr s k), 0, 3⟩
def R.CS_SLOT.SRC_SEL (s k : Nat) : Field := ⟨(R.CS_SLOT.addr s k), 8, 11⟩

/-- TC_CTL, 13_capture.md R330. -/
def R.TC_CTL.addr (s c : Nat) : Nat := 0x38450 + 0x100 * s + 0x20 * c
def R.TC_CTL.KIND (s c : Nat) : Field := ⟨(R.TC_CTL.addr s c), 0, 3⟩
def R.TC_CTL.SENSE (s c : Nat) : Field := ⟨(R.TC_CTL.addr s c), 3, 1⟩
def R.TC_CTL.TC_SLOT (s c : Nat) : Field := ⟨(R.TC_CTL.addr s c), 4, 4⟩

/-- TC_A, 13_capture.md R330. -/
def R.TC_A.addr (s c : Nat) : Nat := 0x38454 + 0x100 * s + 0x20 * c
def R.TC_A.A (s c : Nat) : Field := ⟨(R.TC_A.addr s c), 0, 32⟩

/-- TC_B, 13_capture.md R330. -/
def R.TC_B.addr (s c : Nat) : Nat := 0x38458 + 0x100 * s + 0x20 * c
def R.TC_B.B (s c : Nat) : Field := ⟨(R.TC_B.addr s c), 0, 32⟩

/-- TC_C, 13_capture.md R330. -/
def R.TC_C.addr (s c : Nat) : Nat := 0x3845C + 0x100 * s + 0x20 * c
def R.TC_C.C (s c : Nat) : Field := ⟨(R.TC_C.addr s c), 0, 32⟩

/-- TC_D, 13_capture.md R330. -/
def R.TC_D.addr (s c : Nat) : Nat := 0x38460 + 0x100 * s + 0x20 * c
def R.TC_D.D (s c : Nat) : Field := ⟨(R.TC_D.addr s c), 0, 32⟩

/-- HK_CTL, 14_housekeeping.md R345. -/
def R.HK_CTL.addr : Nat := 0x40000
def R.HK_CTL.SEQ_EN : Field := ⟨R.HK_CTL.addr, 0, 1⟩
def R.HK_CTL.SEQ_LAST : Field := ⟨R.HK_CTL.addr, 1, 6⟩
def R.HK_CTL.DIFF_EN : Field := ⟨R.HK_CTL.addr, 8, 8⟩
def R.HK_CTL.SUP_EN : Field := ⟨R.HK_CTL.addr, 16, 1⟩

/-- HK_STATUS, 14_housekeeping.md R345. -/
def R.HK_STATUS.addr : Nat := 0x40004
def R.HK_STATUS.WRITE_REJECTED : Field := ⟨R.HK_STATUS.addr, 0, 1⟩
def R.HK_STATUS.RQ_OVF : Field := ⟨R.HK_STATUS.addr, 1, 1⟩
def R.HK_STATUS.SEQ_POS : Field := ⟨R.HK_STATUS.addr, 2, 6⟩
def R.HK_STATUS.RQ_DEPTH : Field := ⟨R.HK_STATUS.addr, 16, 9⟩

/-- RQ_POP_LO, 14_housekeeping.md R345. -/
def R.RQ_POP_LO.addr : Nat := 0x40008
def R.RQ_POP_LO.POP_LO : Field := ⟨R.RQ_POP_LO.addr, 0, 32⟩

/-- RQ_POP_HI, 14_housekeeping.md R345. -/
def R.RQ_POP_HI.addr : Nat := 0x4000C
def R.RQ_POP_HI.POP_HI : Field := ⟨R.RQ_POP_HI.addr, 0, 32⟩

/-- RQ_DROP_COUNT, 14_housekeeping.md R345. -/
def R.RQ_DROP_COUNT.addr : Nat := 0x40010
def R.RQ_DROP_COUNT.DROPS : Field := ⟨R.RQ_DROP_COUNT.addr, 0, 32⟩

/-- TEMP_SEL, 14_housekeeping.md R345. -/
def R.TEMP_SEL.addr : Nat := 0x40014
def R.TEMP_SEL.T_DIE : Field := ⟨R.TEMP_SEL.addr, 0, 4⟩
def R.TEMP_SEL.T_SENSOR : Field := ⟨R.TEMP_SEL.addr, 4, 5⟩

/-- SUP_STATUS, 14_housekeeping.md R345. -/
def R.SUP_STATUS.addr : Nat := 0x40020
def R.SUP_STATUS.SUP_LOW : Field := ⟨R.SUP_STATUS.addr, 0, 8⟩
def R.SUP_STATUS.SUP_HIGH : Field := ⟨R.SUP_STATUS.addr, 8, 8⟩
def R.SUP_STATUS.SUP_NOW : Field := ⟨R.SUP_STATUS.addr, 16, 8⟩

/-- LOAD_STATUS, 14_housekeeping.md R345. -/
def R.LOAD_STATUS.addr : Nat := 0x40024
def R.LOAD_STATUS.DRV_READY : Field := ⟨R.LOAD_STATUS.addr, 0, 2⟩
def R.LOAD_STATUS.DRV_FAILED : Field := ⟨R.LOAD_STATUS.addr, 2, 1⟩
def R.LOAD_STATUS.ENC_PRESENT : Field := ⟨R.LOAD_STATUS.addr, 3, 4⟩
def R.LOAD_STATUS.PORT_INTACT : Field := ⟨R.LOAD_STATUS.addr, 7, 8⟩

/-- SUP_DWELL, 14_housekeeping.md R345. -/
def R.SUP_DWELL.addr : Nat := 0x40028
def R.SUP_DWELL.value : Field := ⟨R.SUP_DWELL.addr, 0, 4⟩

/-- SUP_WIN, 14_housekeeping.md R345. -/
def R.SUP_WIN.addr (k : Nat) : Nat := 0x40040 + 0x4 * k
def R.SUP_WIN.SUP_LO (k : Nat) : Field := ⟨(R.SUP_WIN.addr k), 0, 12⟩
def R.SUP_WIN.SUP_HI (k : Nat) : Field := ⟨(R.SUP_WIN.addr k), 16, 12⟩

/-- SP_CFG, 14_housekeeping.md R345. -/
def R.SP_CFG.addr (n : Nat) : Nat := 0x40100 + 0x40 * n
def R.SP_CFG.PORT_EN (n : Nat) : Field := ⟨(R.SP_CFG.addr n), 0, 1⟩
def R.SP_CFG.KIND (n : Nat) : Field := ⟨(R.SP_CFG.addr n), 1, 2⟩
def R.SP_CFG.EXC_LEVEL (n : Nat) : Field := ⟨(R.SP_CFG.addr n), 3, 3⟩
def R.SP_CFG.GAIN (n : Nat) : Field := ⟨(R.SP_CFG.addr n), 6, 3⟩
def R.SP_CFG.THERMAL (n : Nat) : Field := ⟨(R.SP_CFG.addr n), 9, 1⟩
def R.SP_CFG.NOTCH_MODE (n : Nat) : Field := ⟨(R.SP_CFG.addr n), 10, 1⟩
def R.SP_CFG.MLEN (n : Nat) : Field := ⟨(R.SP_CFG.addr n), 11, 2⟩
def R.SP_CFG.Q_M1 (n : Nat) : Field := ⟨(R.SP_CFG.addr n), 13, 2⟩
def R.SP_CFG.DEC (n : Nat) : Field := ⟨(R.SP_CFG.addr n), 15, 2⟩
def R.SP_CFG.CJ_SRC (n : Nat) : Field := ⟨(R.SP_CFG.addr n), 17, 4⟩
def R.SP_CFG.CURVE (n : Nat) : Field := ⟨(R.SP_CFG.addr n), 21, 3⟩

/-- SP_TIMING, 14_housekeeping.md R345. -/
def R.SP_TIMING.addr (n : Nat) : Nat := 0x40104 + 0x40 * n
def R.SP_TIMING.EXC_PERIOD (n : Nat) : Field := ⟨(R.SP_TIMING.addr n), 0, 10⟩
def R.SP_TIMING.EXC_ON (n : Nat) : Field := ⟨(R.SP_TIMING.addr n), 10, 10⟩
def R.SP_TIMING.INT_US (n : Nat) : Field := ⟨(R.SP_TIMING.addr n), 20, 10⟩

/-- SP_STATUS, 14_housekeeping.md R345. -/
def R.SP_STATUS.addr (n : Nat) : Nat := 0x40108 + 0x40 * n
def R.SP_STATUS.SETTLING (n : Nat) : Field := ⟨(R.SP_STATUS.addr n), 0, 1⟩
def R.SP_STATUS.WIREBREAK (n : Nat) : Field := ⟨(R.SP_STATUS.addr n), 1, 1⟩
def R.SP_STATUS.WB_SEEN (n : Nat) : Field := ⟨(R.SP_STATUS.addr n), 2, 1⟩
def R.SP_STATUS.SAT_SEEN (n : Nat) : Field := ⟨(R.SP_STATUS.addr n), 3, 1⟩
def R.SP_STATUS.LIN_SAT_SEEN (n : Nat) : Field := ⟨(R.SP_STATUS.addr n), 4, 1⟩
def R.SP_STATUS.CURVE_BUSY (n : Nat) : Field := ⟨(R.SP_STATUS.addr n), 5, 1⟩
def R.SP_STATUS.CURVE_DONE (n : Nat) : Field := ⟨(R.SP_STATUS.addr n), 6, 1⟩
def R.SP_STATUS.FIT_WARN (n : Nat) : Field := ⟨(R.SP_STATUS.addr n), 7, 1⟩
def R.SP_STATUS.CFG_REJ (n : Nat) : Field := ⟨(R.SP_STATUS.addr n), 8, 1⟩
def R.SP_STATUS.WRITE_REJECTED (n : Nat) : Field := ⟨(R.SP_STATUS.addr n), 9, 1⟩

/-- SP_OUT, 14_housekeeping.md R345. -/
def R.SP_OUT.addr (n : Nat) : Nat := 0x4010C + 0x40 * n
def R.SP_OUT.OUT (n : Nat) : Field := ⟨(R.SP_OUT.addr n), 0, 32⟩

/-- SP_X, 14_housekeeping.md R345. -/
def R.SP_X.addr (n : Nat) : Nat := 0x40110 + 0x40 * n
def R.SP_X.X (n : Nat) : Field := ⟨(R.SP_X.addr n), 0, 32⟩

/-- SP_OUT_COUNT, 14_housekeeping.md R345. -/
def R.SP_OUT_COUNT.addr (n : Nat) : Nat := 0x40114 + 0x40 * n
def R.SP_OUT_COUNT.OUTPUTS (n : Nat) : Field := ⟨(R.SP_OUT_COUNT.addr n), 0, 32⟩

/-- SP_FIT, 14_housekeeping.md R345. -/
def R.SP_FIT.addr (n : Nat) : Nat := 0x40118 + 0x40 * n
def R.SP_FIT.FIT_ERR (n : Nat) : Field := ⟨(R.SP_FIT.addr n), 0, 16⟩

/-- SP_REF, 14_housekeeping.md R345. -/
def R.SP_REF.addr (n : Nat) : Nat := 0x4011C + 0x40 * n
def R.SP_REF.REF_CENTI (n : Nat) : Field := ⟨(R.SP_REF.addr n), 0, 24⟩

/-- SP_SPAN, 14_housekeeping.md R345. -/
def R.SP_SPAN.addr (n : Nat) : Nat := 0x40120 + 0x40 * n
def R.SP_SPAN.SPAN_LO (n : Nat) : Field := ⟨(R.SP_SPAN.addr n), 0, 16⟩
def R.SP_SPAN.SPAN_HI (n : Nat) : Field := ⟨(R.SP_SPAN.addr n), 16, 16⟩

/-- SEQ_ENTRY, 14_housekeeping.md R345. -/
def R.SEQ_ENTRY.addr (e : Nat) : Nat := 0x40400 + 0x4 * e
def R.SEQ_ENTRY.INPUT (e : Nat) : Field := ⟨(R.SEQ_ENTRY.addr e), 0, 6⟩
def R.SEQ_ENTRY.ALIGN_L (e : Nat) : Field := ⟨(R.SEQ_ENTRY.addr e), 6, 1⟩
def R.SEQ_ENTRY.DISC_SETTLE (e : Nat) : Field := ⟨(R.SEQ_ENTRY.addr e), 7, 1⟩
def R.SEQ_ENTRY.REPEAT_M1 (e : Nat) : Field := ⟨(R.SEQ_ENTRY.addr e), 8, 8⟩
def R.SEQ_ENTRY.DELAY (e : Nat) : Field := ⟨(R.SEQ_ENTRY.addr e), 16, 10⟩

/-- SP_COEF, 14_housekeeping.md R345. -/
def R.SP_COEF.addr (n i j : Nat) : Nat := 0x41000 + 0x100 * n + 0xC * i + 0x4 * j
def R.SP_COEF.C_IJ (n i j : Nat) : Field := ⟨(R.SP_COEF.addr n i j), 0, 32⟩

/-- SP_NTC, 14_housekeeping.md R345. -/
def R.SP_NTC.addr (n m : Nat) : Nat := 0x41080 + 0x100 * n + 0x4 * m
def R.SP_NTC.NTC (n m : Nat) : Field := ⟨(R.SP_NTC.addr n m), 0, 32⟩

/-- THERM_CTL, 15_thermal_calibration.md R366. -/
def R.THERM_CTL.addr : Nat := 0x48000
def R.THERM_CTL.CAL_ON_BOOT : Field := ⟨R.THERM_CTL.addr, 0, 1⟩
def R.THERM_CTL.CAL_ON_DT : Field := ⟨R.THERM_CTL.addr, 1, 1⟩
def R.THERM_CTL.CMP_CAL_EN : Field := ⟨R.THERM_CTL.addr, 2, 1⟩
def R.THERM_CTL.INTERP_CAL_EN : Field := ⟨R.THERM_CTL.addr, 3, 1⟩
def R.THERM_CTL.REF_CAL_EN : Field := ⟨R.THERM_CTL.addr, 4, 1⟩
def R.THERM_CTL.EMIT_CAL_EN : Field := ⟨R.THERM_CTL.addr, 5, 1⟩
def R.THERM_CTL.CAL_NOW : Field := ⟨R.THERM_CTL.addr, 6, 1⟩
def R.THERM_CTL.DT_CAL : Field := ⟨R.THERM_CTL.addr, 8, 8⟩
def R.THERM_CTL.CAL_URGENT : Field := ⟨R.THERM_CTL.addr, 16, 16⟩

/-- THERM_CFG, 15_thermal_calibration.md R366. -/
def R.THERM_CFG.addr : Nat := 0x48004
def R.THERM_CFG.PARK_MAX : Field := ⟨R.THERM_CFG.addr, 0, 16⟩
def R.THERM_CFG.EMIT_AVG : Field := ⟨R.THERM_CFG.addr, 16, 8⟩
def R.THERM_CFG.EMIT_LIM : Field := ⟨R.THERM_CFG.addr, 24, 5⟩

/-- THERM_STATUS, 15_thermal_calibration.md R366. -/
def R.THERM_STATUS.addr : Nat := 0x48008
def R.THERM_STATUS.LEVEL : Field := ⟨R.THERM_STATUS.addr, 0, 3⟩
def R.THERM_STATUS.WARN : Field := ⟨R.THERM_STATUS.addr, 3, 1⟩
def R.THERM_STATUS.RISE_WARN : Field := ⟨R.THERM_STATUS.addr, 4, 1⟩
def R.THERM_STATUS.ORDERLY_STOP : Field := ⟨R.THERM_STATUS.addr, 5, 1⟩
def R.THERM_STATUS.CAL_NV_EMPTY : Field := ⟨R.THERM_STATUS.addr, 6, 1⟩
def R.THERM_STATUS.EMIT_CAL_LIMIT : Field := ⟨R.THERM_STATUS.addr, 7, 1⟩
def R.THERM_STATUS.WRITE_REJECTED : Field := ⟨R.THERM_STATUS.addr, 8, 1⟩

/-- PART_TEMP, 15_thermal_calibration.md R366. -/
def R.PART_TEMP.addr : Nat := 0x4800C
def R.PART_TEMP.T_PART : Field := ⟨R.PART_TEMP.addr, 0, 16⟩
def R.PART_TEMP.RISE : Field := ⟨R.PART_TEMP.addr, 16, 16⟩

/-- THERMAL_CAP, 15_thermal_calibration.md R366. -/
def R.THERMAL_CAP.addr : Nat := 0x48010
def R.THERMAL_CAP.CAP : Field := ⟨R.THERMAL_CAP.addr, 0, 12⟩

/-- HUB_SENSOR_FAULT, 15_thermal_calibration.md R366. -/
def R.HUB_SENSOR_FAULT.addr : Nat := 0x48014
def R.HUB_SENSOR_FAULT.HUB_FAULT : Field := ⟨R.HUB_SENSOR_FAULT.addr, 0, 24⟩

/-- CROSS_COUNT, 15_thermal_calibration.md R366. -/
def R.CROSS_COUNT.addr (i : Nat) : Nat := 0x48018 + 0x4 * i
def R.CROSS_COUNT.CROSSINGS (i : Nat) : Field := ⟨(R.CROSS_COUNT.addr i), 0, 32⟩

/-- CAL_COUNT, 15_thermal_calibration.md R366. -/
def R.CAL_COUNT.addr : Nat := 0x48028
def R.CAL_COUNT.value : Field := ⟨R.CAL_COUNT.addr, 0, 32⟩

/-- CAL_LAST_LO, 15_thermal_calibration.md R366. -/
def R.CAL_LAST_LO.addr : Nat := 0x4802C
def R.CAL_LAST_LO.LAST_LO : Field := ⟨R.CAL_LAST_LO.addr, 0, 32⟩

/-- CAL_LAST_HI, 15_thermal_calibration.md R366. -/
def R.CAL_LAST_HI.addr : Nat := 0x48030
def R.CAL_LAST_HI.LAST_HI : Field := ⟨R.CAL_LAST_HI.addr, 0, 32⟩

/-- LAST_SHUT, 15_thermal_calibration.md R366. -/
def R.LAST_SHUT.addr : Nat := 0x48034
def R.LAST_SHUT.SHUT_CAUSE : Field := ⟨R.LAST_SHUT.addr, 0, 3⟩
def R.LAST_SHUT.SHUT_DIE : Field := ⟨R.LAST_SHUT.addr, 4, 4⟩
def R.LAST_SHUT.SHUT_SENSOR : Field := ⟨R.LAST_SHUT.addr, 8, 5⟩
def R.LAST_SHUT.SHUT_TEMP : Field := ⟨R.LAST_SHUT.addr, 16, 16⟩

/-- SHUT_COUNT, 15_thermal_calibration.md R366. -/
def R.SHUT_COUNT.addr : Nat := 0x48038
def R.SHUT_COUNT.SHUTS : Field := ⟨R.SHUT_COUNT.addr, 0, 32⟩

/-- REF_CFG, 15_thermal_calibration.md R366. -/
def R.REF_CFG.addr (h : Nat) : Nat := 0x48040 + 0x10 * h
def R.REF_CFG.REF_BANK (h : Nat) : Field := ⟨(R.REF_CFG.addr h), 0, 5⟩
def R.REF_CFG.REF_CHAN (h : Nat) : Field := ⟨(R.REF_CFG.addr h), 5, 11⟩
def R.REF_CFG.REF_K (h : Nat) : Field := ⟨(R.REF_CFG.addr h), 16, 7⟩

/-- REF_LEN, 15_thermal_calibration.md R366. -/
def R.REF_LEN.addr (h : Nat) : Nat := 0x48044 + 0x10 * h
def R.REF_LEN.value (h : Nat) : Field := ⟨(R.REF_LEN.addr h), 0, 20⟩

/-- REF_STATUS, 15_thermal_calibration.md R366. -/
def R.REF_STATUS.addr (h : Nat) : Nat := 0x48048 + 0x10 * h
def R.REF_STATUS.REF_OFS (h : Nat) : Field := ⟨(R.REF_STATUS.addr h), 0, 16⟩
def R.REF_STATUS.REF_SKIP (h : Nat) : Field := ⟨(R.REF_STATUS.addr h), 16, 16⟩

/-- PORT_LIMIT, 15_thermal_calibration.md R366. -/
def R.PORT_LIMIT.addr (n : Nat) : Nat := 0x48080 + 0x4 * n
def R.PORT_LIMIT.LIMIT (n : Nat) : Field := ⟨(R.PORT_LIMIT.addr n), 0, 32⟩

/-- HUB_TEMP, 15_thermal_calibration.md R366. -/
def R.HUB_TEMP.addr (k : Nat) : Nat := 0x48100 + 0x4 * k
def R.HUB_TEMP.READING (k : Nat) : Field := ⟨(R.HUB_TEMP.addr k), 0, 16⟩

/-- DIE_THERM, 15_thermal_calibration.md R366. -/
def R.DIE_THERM.addr (d : Nat) : Nat := 0x1000000 * d + 0x50000
def R.DIE_THERM.T_DIE (d : Nat) : Field := ⟨(R.DIE_THERM.addr d), 0, 16⟩
def R.DIE_THERM.SENSOR_FAULT (d : Nat) : Field := ⟨(R.DIE_THERM.addr d), 16, 16⟩

/-- DIE_CAL, 15_thermal_calibration.md R366. -/
def R.DIE_CAL.addr (d : Nat) : Nat := 0x1000000 * d + 0x50004
def R.DIE_CAL.GROUPS_DONE (d : Nat) : Field := ⟨(R.DIE_CAL.addr d), 0, 16⟩
def R.DIE_CAL.CAL_DUE (d : Nat) : Field := ⟨(R.DIE_CAL.addr d), 16, 1⟩

/-- DIE_CAL_LATE, 15_thermal_calibration.md R366. -/
def R.DIE_CAL_LATE.addr (d : Nat) : Nat := 0x1000000 * d + 0x50008
def R.DIE_CAL_LATE.LATE_MS (d : Nat) : Field := ⟨(R.DIE_CAL_LATE.addr d), 0, 32⟩

/-- DIE_CAL_SKIP, 15_thermal_calibration.md R366. -/
def R.DIE_CAL_SKIP.addr (d : Nat) : Nat := 0x1000000 * d + 0x5000C
def R.DIE_CAL_SKIP.CAL_SKIP (d : Nat) : Field := ⟨(R.DIE_CAL_SKIP.addr d), 0, 32⟩

/-- DIE_CAL_COUNT, 15_thermal_calibration.md R366. -/
def R.DIE_CAL_COUNT.addr (d : Nat) : Nat := 0x1000000 * d + 0x50010
def R.DIE_CAL_COUNT.RUNS (d : Nat) : Field := ⟨(R.DIE_CAL_COUNT.addr d), 0, 32⟩

/-- DIE_TEMP, 15_thermal_calibration.md R366. -/
def R.DIE_TEMP.addr (d k : Nat) : Nat := 0x1000000 * d + 0x50100 + 0x4 * k
def R.DIE_TEMP.READING (d k : Nat) : Field := ⟨(R.DIE_TEMP.addr d k), 0, 16⟩

/-- SEC_STATUS, 16_security_ledger.md R382. -/
def R.SEC_STATUS.addr : Nat := 0x50000
def R.SEC_STATUS.BOOT_ALT : Field := ⟨R.SEC_STATUS.addr, 0, 1⟩
def R.SEC_STATUS.CFG_DEFAULTED : Field := ⟨R.SEC_STATUS.addr, 1, 1⟩
def R.SEC_STATUS.ROLE_REJ : Field := ⟨R.SEC_STATUS.addr, 2, 1⟩
def R.SEC_STATUS.LEDGER_FULL : Field := ⟨R.SEC_STATUS.addr, 3, 1⟩
def R.SEC_STATUS.LEDG_BUSY : Field := ⟨R.SEC_STATUS.addr, 4, 1⟩
def R.SEC_STATUS.ATT_BUSY : Field := ⟨R.SEC_STATUS.addr, 5, 1⟩
def R.SEC_STATUS.ATT_REJ : Field := ⟨R.SEC_STATUS.addr, 6, 1⟩
def R.SEC_STATUS.AUTH_FAIL : Field := ⟨R.SEC_STATUS.addr, 7, 1⟩
def R.SEC_STATUS.SESS_ROLE : Field := ⟨R.SEC_STATUS.addr, 8, 3⟩

/-- CFG_FAIL, 16_security_ledger.md R382. -/
def R.CFG_FAIL.addr : Nat := 0x50004
def R.CFG_FAIL.DEFAULTED : Field := ⟨R.CFG_FAIL.addr, 1, 12⟩

/-- DEV_SERIAL_LO, 16_security_ledger.md R382. -/
def R.DEV_SERIAL_LO.addr : Nat := 0x50008
def R.DEV_SERIAL_LO.SERIAL_LO : Field := ⟨R.DEV_SERIAL_LO.addr, 0, 32⟩

/-- DEV_SERIAL_HI, 16_security_ledger.md R382. -/
def R.DEV_SERIAL_HI.addr : Nat := 0x5000C
def R.DEV_SERIAL_HI.SERIAL_HI : Field := ⟨R.DEV_SERIAL_HI.addr, 0, 32⟩

/-- FW_ID_LO, 16_security_ledger.md R382. -/
def R.FW_ID_LO.addr : Nat := 0x50010
def R.FW_ID_LO.value : Field := ⟨R.FW_ID_LO.addr, 0, 32⟩

/-- FW_ID_HI, 16_security_ledger.md R382. -/
def R.FW_ID_HI.addr : Nat := 0x50014
def R.FW_ID_HI.value : Field := ⟨R.FW_ID_HI.addr, 0, 32⟩

/-- CFG_ID_LO, 16_security_ledger.md R382. -/
def R.CFG_ID_LO.addr : Nat := 0x50018
def R.CFG_ID_LO.value : Field := ⟨R.CFG_ID_LO.addr, 0, 32⟩

/-- CFG_ID_HI, 16_security_ledger.md R382. -/
def R.CFG_ID_HI.addr : Nat := 0x5001C
def R.CFG_ID_HI.value : Field := ⟨R.CFG_ID_HI.addr, 0, 32⟩

/-- POWER_CYCLES, 16_security_ledger.md R382. -/
def R.POWER_CYCLES.addr : Nat := 0x50020
def R.POWER_CYCLES.CYCLES : Field := ⟨R.POWER_CYCLES.addr, 0, 32⟩

/-- LEDGER_COUNT, 16_security_ledger.md R382. -/
def R.LEDGER_COUNT.addr : Nat := 0x50024
def R.LEDGER_COUNT.COUNT : Field := ⟨R.LEDGER_COUNT.addr, 0, 14⟩

/-- FW_SVN, 16_security_ledger.md R382. -/
def R.FW_SVN.addr : Nat := 0x50028
def R.FW_SVN.SVN : Field := ⟨R.FW_SVN.addr, 0, 16⟩
def R.FW_SVN.FLOOR : Field := ⟨R.FW_SVN.addr, 16, 16⟩

/-- LIMIT_USED, 16_security_ledger.md R382. -/
def R.LIMIT_USED.addr : Nat := 0x5002C
def R.LIMIT_USED.GUARD_USED : Field := ⟨R.LIMIT_USED.addr, 0, 5⟩
def R.LIMIT_USED.CODE_USED : Field := ⟨R.LIMIT_USED.addr, 8, 6⟩
def R.LIMIT_USED.PAIR_USED : Field := ⟨R.LIMIT_USED.addr, 16, 4⟩

/-- KEY_USED, 16_security_ledger.md R382. -/
def R.KEY_USED.addr : Nat := 0x50030
def R.KEY_USED.USED : Field := ⟨R.KEY_USED.addr, 0, 16⟩

/-- LEDG_CTL, 16_security_ledger.md R382. -/
def R.LEDG_CTL.addr : Nat := 0x50034
def R.LEDG_CTL.LEDG_GO : Field := ⟨R.LEDG_CTL.addr, 0, 1⟩

/-- LEDG_RESULT, 16_security_ledger.md R382. -/
def R.LEDG_RESULT.addr : Nat := 0x50038
def R.LEDG_RESULT.RESULT : Field := ⟨R.LEDG_RESULT.addr, 0, 4⟩
def R.LEDG_RESULT.ENTRY : Field := ⟨R.LEDG_RESULT.addr, 16, 16⟩

/-- DEV_PUBKEY, 16_security_ledger.md R382. -/
def R.DEV_PUBKEY.addr (k : Nat) : Nat := 0x50040 + 0x4 * k
def R.DEV_PUBKEY.PUBKEY (k : Nat) : Field := ⟨(R.DEV_PUBKEY.addr k), 0, 32⟩

/-- AUTH_CTL, 16_security_ledger.md R382. -/
def R.AUTH_CTL.addr : Nat := 0x50060
def R.AUTH_CTL.AUTH_ROLE : Field := ⟨R.AUTH_CTL.addr, 0, 2⟩
def R.AUTH_CTL.AUTH_GO : Field := ⟨R.AUTH_CTL.addr, 2, 1⟩
def R.AUTH_CTL.SESS_END : Field := ⟨R.AUTH_CTL.addr, 3, 1⟩

/-- AUTH_CHAL, 16_security_ledger.md R382. -/
def R.AUTH_CHAL.addr (k : Nat) : Nat := 0x50080 + 0x4 * k
def R.AUTH_CHAL.CHAL (k : Nat) : Field := ⟨(R.AUTH_CHAL.addr k), 0, 32⟩

/-- AUTH_SIG, 16_security_ledger.md R382. -/
def R.AUTH_SIG.addr (k : Nat) : Nat := 0x500A0 + 0x4 * k
def R.AUTH_SIG.SIG (k : Nat) : Field := ⟨(R.AUTH_SIG.addr k), 0, 32⟩

/-- ATT_NONCE, 16_security_ledger.md R382. -/
def R.ATT_NONCE.addr (k : Nat) : Nat := 0x500E0 + 0x4 * k
def R.ATT_NONCE.NONCE (k : Nat) : Field := ⟨(R.ATT_NONCE.addr k), 0, 32⟩

/-- ATT_CTL, 16_security_ledger.md R382. -/
def R.ATT_CTL.addr : Nat := 0x50100
def R.ATT_CTL.ATT_GO : Field := ⟨R.ATT_CTL.addr, 0, 1⟩

/-- RST_STATUS, 17_startup_faults.md R401. -/
def R.RST_STATUS.addr : Nat := 0x800
def R.RST_STATUS.RST_CAUSE : Field := ⟨R.RST_STATUS.addr, 0, 3⟩
def R.RST_STATUS.NRST_STUCK : Field := ⟨R.RST_STATUS.addr, 3, 1⟩
def R.RST_STATUS.NRST_LEVEL : Field := ⟨R.RST_STATUS.addr, 4, 1⟩
def R.RST_STATUS.BOOT_STAGE : Field := ⟨R.RST_STATUS.addr, 8, 4⟩
def R.RST_STATUS.STARTUP_DONE : Field := ⟨R.RST_STATUS.addr, 12, 1⟩
def R.RST_STATUS.SAFE : Field := ⟨R.RST_STATUS.addr, 13, 1⟩
def R.RST_STATUS.BOOT_RECOVERY : Field := ⟨R.RST_STATUS.addr, 14, 1⟩

/-- RST_CTL, 17_startup_faults.md R401. -/
def R.RST_CTL.addr : Nat := 0x804
def R.RST_CTL.RECOVER : Field := ⟨R.RST_CTL.addr, 0, 1⟩

/-- STARTUP_TIME_LO, 17_startup_faults.md R401. -/
def R.STARTUP_TIME_LO.addr : Nat := 0x808
def R.STARTUP_TIME_LO.READY_LO : Field := ⟨R.STARTUP_TIME_LO.addr, 0, 32⟩

/-- STARTUP_TIME_HI, 17_startup_faults.md R401. -/
def R.STARTUP_TIME_HI.addr : Nat := 0x80C
def R.STARTUP_TIME_HI.READY_HI : Field := ⟨R.STARTUP_TIME_HI.addr, 0, 32⟩

/-- NRST_STUCK_COUNT, 17_startup_faults.md R401. -/
def R.NRST_STUCK_COUNT.addr : Nat := 0x810
def R.NRST_STUCK_COUNT.STUCKS : Field := ⟨R.NRST_STUCK_COUNT.addr, 0, 32⟩

/-- ERR_CFG, 17_startup_faults.md R401. -/
def R.ERR_CFG.addr : Nat := 0x814
def R.ERR_CFG.AUTO_ACK_MS : Field := ⟨R.ERR_CFG.addr, 0, 16⟩
def R.ERR_CFG.FATAL_MS : Field := ⟨R.ERR_CFG.addr, 16, 16⟩

/-- ERR_STATUS, 17_startup_faults.md R401. -/
def R.ERR_STATUS.addr : Nat := 0x818
def R.ERR_STATUS.ERR_DEPTH : Field := ⟨R.ERR_STATUS.addr, 0, 7⟩
def R.ERR_STATUS.ERR_OPEN : Field := ⟨R.ERR_STATUS.addr, 8, 7⟩
def R.ERR_STATUS.ERR_FULL : Field := ⟨R.ERR_STATUS.addr, 16, 1⟩
def R.ERR_STATUS.FATAL_OPEN : Field := ⟨R.ERR_STATUS.addr, 17, 1⟩

/-- ERR_CTL, 17_startup_faults.md R401. -/
def R.ERR_CTL.addr : Nat := 0x81C
def R.ERR_CTL.ERR_POP : Field := ⟨R.ERR_CTL.addr, 0, 1⟩

/-- ERR_HEAD, 17_startup_faults.md R401. -/
def R.ERR_HEAD.addr (w : Nat) : Nat := 0x820 + 0x4 * w
def R.ERR_HEAD.HEAD_W (w : Nat) : Field := ⟨(R.ERR_HEAD.addr w), 0, 32⟩

/-- DIE_CAP, 17_startup_faults.md R401. -/
def R.DIE_CAP.addr (n : Nat) : Nat := 0x880 + 0x4 * n
def R.DIE_CAP.GROUPS (n : Nat) : Field := ⟨(R.DIE_CAP.addr n), 0, 8⟩
def R.DIE_CAP.CORR (n : Nat) : Field := ⟨(R.DIE_CAP.addr n), 8, 8⟩
def R.DIE_CAP.CAP_REV (n : Nat) : Field := ⟨(R.DIE_CAP.addr n), 16, 8⟩
def R.DIE_CAP.LINK_UP (n : Nat) : Field := ⟨(R.DIE_CAP.addr n), 24, 1⟩
def R.DIE_CAP.CAP_VALID (n : Nat) : Field := ⟨(R.DIE_CAP.addr n), 25, 1⟩

/-- ERR_CLASS_CFG, 17_startup_faults.md R401. -/
def R.ERR_CLASS_CFG.addr (k : Nat) : Nat := 0x8A0 + 0x4 * k
def R.ERR_CLASS_CFG.SEV (k : Nat) : Field := ⟨(R.ERR_CLASS_CFG.addr k), 0, 2⟩
def R.ERR_CLASS_CFG.AUTO (k : Nat) : Field := ⟨(R.ERR_CLASS_CFG.addr k), 2, 1⟩

/-- ERR_COUNT, 17_startup_faults.md R401. -/
def R.ERR_COUNT.addr (k : Nat) : Nat := 0x8E8 + 0x4 * k
def R.ERR_COUNT.COUNT (k : Nat) : Field := ⟨(R.ERR_COUNT.addr k), 0, 16⟩
def R.ERR_COUNT.LOST (k : Nat) : Field := ⟨(R.ERR_COUNT.addr k), 16, 16⟩

end Sys2Proof.Machine
end

