-- ==== Sys2Proof/Machine/RegOps.lean ====
section
/-! DEFINITION. Looking a register address up in the register map, the reset word of a register, and reading and
writing one field of a register word. -/

namespace Sys2Proof.Machine

/-- Where an offset falls in a table of registers: the indices, outermost first; none where the offset misses it. -/
def RegDef.index (dims : List (Nat × Nat)) (off : Nat) : Option (List Nat) :=
  match dims with
  | [] => if off = 0 then some [] else none
  | (count, stride) :: r =>
    if off / stride < count then (RegDef.index r (off % stride)).map (off / stride :: ·) else none

/-- The definition in a list that an offset hits, with its indices. -/
def RegDef.search (l : List RegDef) (off : Nat) : Option (RegDef × List Nat) :=
  match l with
  | [] => none
  | d :: r =>
    if d.base ≤ off then
      match RegDef.index d.dims (off - d.base) with
      | some ix => some (d, ix)
      | none => RegDef.search r off
    else RegDef.search r off

/-- The block of hub registers in which an offset lies (the base addresses of the register chapters). -/
def RegMap.hubBlock (off : Nat) : List RegDef :=
  if off < 0x800 then regMap_fabricHub
  else if off < 0x1000 then regMap_startup
  else if off < 0x2000 then regMap_timeBase
  else if off < 0x4000 then regMap_rangingCtl
  else if off < 0xA000 then regMap_scanOut
  else if off < 0xC000 then regMap_sequencers
  else if off < 0xD000 then regMap_drive
  else if off < 0xE000 then regMap_guard
  else if off < 0x10000 then regMap_motion
  else if off < 0x20000 then regMap_points
  else if off < 0x21000 then regMap_lanes
  else if off < 0x21100 then regMap_trunkCommon
  else if off < 0x28000 then regMap_streams
  else if off < 0x28800 then regMap_causeway
  else if off < 0x30000 then regMap_twin
  else if off < 0x38000 then regMap_memory
  else if off < 0x40000 then regMap_capture
  else if off < 0x48000 then regMap_housekeeping
  else if off < 0x50000 then regMap_thermal
  else regMap_security

/-- The block of ranging-die registers in which an offset lies. -/
def RegMap.dieBlock (off : Nat) : List RegDef :=
  if off < 0x10000 then regMap_fabricDie
  else if off < 0x20000 then regMap_channels
  else if off < 0x40000 then regMap_opBlock
  else if off < 0x50000 then regMap_extractor
  else regMap_dieThermal

/-- A register hit: its definition and its indices, the die first where it is a die's register. -/
structure RegHit where
  def_ : RegDef
  ix : List Nat
  deriving DecidableEq, Repr

/-- The register at a part address below 0x00_0800_0000 (01_architecture.md R26); none at a reserved offset. -/
def RegMap.find (a : Nat) : Option RegHit :=
  let w := a / 0x1000000
  let off := a % 0x1000000
  if w = 0 then
    (RegDef.search (RegMap.hubBlock off) off).map fun h => ⟨h.1, if off < 0xC then 0 :: h.2 else h.2⟩
  else if w < 8 then
    (RegDef.search (RegMap.dieBlock off) off).map fun h => ⟨h.1, w :: h.2⟩
  else none

/-- Reset hints of the requesters that start OPEN (12_stream_memory.md R306); a reserved identity reads 0. -/
def Reg.closeHint (r : Nat) : Bool :=
  r == 0 || r == 1 || r == 2 || r == 4 || (decide (8 ≤ r) && decide (r ≤ 15))

/-- Reset severity of an error class (17_startup_faults.md R395). -/
def Reg.errSev (k : Nat) : Nat :=
  if k = 17 then 2 else if k = 1 ∨ k = 3 ∨ k = 5 ∨ k = 8 ∨ k = 9 ∨ k = 12 ∨ k = 15 then 0 else 1

/-- Reset window of supply k, SUP_HI in [27:16] and SUP_LO in [11:0] (14_housekeeping.md R343). -/
def Reg.supWin (k : Nat) : Nat :=
  match k with
  | 0 => 1450 * 0x10000 + 1109
  | 1 => 1433 * 0x10000 + 1297
  | 2 => 2150 * 0x10000 + 1945
  | 3 => 3225 * 0x10000 + 2918
  | 4 => 1612 * 0x10000 + 1459
  | 5 => 2150 * 0x10000 + 1945
  | 6 => 896 * 0x10000 + 810
  | _ => 2956 * 0x10000 + 2675

/-- Reset word of a register whose table gives one value per index. -/
def Reg.resetIx (id : RegId) (ix : List Nat) (word : Nat) : Nat :=
  match id, ix with
  | .LOOP_CTL, [n] =>
    if n = 0 then 0 else if n = 1 then 0x40000 else if n = 2 then 0x10000 else if n = 3 then 0x140000 else 0x20000
  | .REQ_HINT, [r] => if Reg.closeHint r then 1 else 0
  | .SUP_WIN, [k] => Reg.supWin k
  | .ERR_CLASS_CFG, [k] => if k = 17 then 2 else 4 + Reg.errSev k
  | _, _ => word
/-- The word a register holds after reset where nothing has been stored for it (the Reset columns of spec/). -/
def Reg.reset (a : Nat) : BitVec 32 :=
  match RegMap.find a with
  | none => 0
  | some h => BitVec.ofNat 32 (Reg.resetIx h.def_.id h.ix h.def_.reset)

/-- The bits of a field, at the field's place. -/
def Field.mask (f : Field) : BitVec 32 := (BitVec.ofNat 32 (2 ^ f.w - 1)) <<< f.lo

/-- The value of a field of a register word. -/
def Field.read (f : Field) (x : BitVec 32) : Nat := ((x >>> f.lo) &&& BitVec.ofNat 32 (2 ^ f.w - 1)).toNat

/-- A register word with one field given a value, cut to the field's width. -/
def Field.write (f : Field) (x : BitVec 32) (v : Nat) : BitVec 32 :=
  (x &&& ~~~ f.mask) ||| (BitVec.ofNat 32 (v % 2 ^ f.w) <<< f.lo)

end Sys2Proof.Machine
end

