-- ==== Sys2Proof/Machine/Store.lean ====
section
/-! DEFINITION. Reading and writing a sparse table in its canonical form: keys strictly rising and no entry equal to
what an unlisted key reads as. Registers, memory and the parts' tables are all held so. -/

namespace Sys2Proof

variable {α : Type}

/-- What key `k` holds; `d` where it is not listed. -/
def SMap.get (m : SMap α) (d : α) (k : Nat) : α :=
  match m with
  | [] => d
  | (j, v) :: r => if j = k then v else SMap.get r d k

/-- The table without key `k`. -/
def SMap.erase (m : SMap α) (k : Nat) : SMap α :=
  match m with
  | [] => []
  | (j, v) :: r => if j = k then SMap.erase r k else (j, v) :: SMap.erase r k

/-- The table with key `k` holding `v`, listed. -/
def SMap.insert (m : SMap α) (k : Nat) (v : α) : SMap α :=
  match m with
  | [] => [(k, v)]
  | (j, w) :: r =>
    if k < j then (k, v) :: (j, w) :: r
    else if k = j then (k, v) :: r
    else (j, w) :: SMap.insert r k v

/-- Write `v` at key `k`, where `d` is what an unlisted `k` reads as: writing `d` removes the entry. -/
def SMap.put [DecidableEq α] (m : SMap α) (d : α) (k : Nat) (v : α) : SMap α :=
  if v = d then SMap.erase m k else SMap.insert m k v

/-- Every key of the table is above `k`. -/
def SMap.above (k : Nat) (m : SMap α) : Bool :=
  match m with
  | [] => true
  | (j, _) :: r => decide (k < j) && SMap.above k r

/-- The canonical form, with `d k` what an unlisted key `k` reads as. -/
def SMap.wf [DecidableEq α] (d : Nat → α) (m : SMap α) : Bool :=
  match m with
  | [] => true
  | (j, v) :: r => SMap.above j r && decide (v ≠ d j) && SMap.wf d r

/-- The keys listed. -/
def SMap.keys (m : SMap α) : List Nat := m.map Prod.fst

end Sys2Proof
end

