-- ==== Sys2Proof/Machine/State.lean ====
section
/-! DEFINITION. The state of the part: everything the spec gives it, as plain data. Registers and fields live in `regs`
under their part addresses; memory in `mem`; what the rules name but no register holds is in the block records. Every
field's default is its value after power-on reset. -/

namespace Sys2Proof.Machine

/-- Why a run would stop with a fault. No meaning raises it: every row of the table has an effect in the spec, which
records what goes wrong in registers and in the error queue (17_startup_faults.md R394). Safe: a stop proves nothing. -/
inductive Fault where
  /-- raised by nothing; kept so that the type has a name for a stop. Safe. -/
  | unreachable
  deriving DecidableEq, Repr

/-- Why a command is refused. -/
inductive Refusal where
  /-- raised by an arm of exec whose meaning has not been written. Safe: nothing is proved of it. -/
  | notModelled (mnemonic : String)
  deriving DecidableEq, Repr

/-! ### Channels and the time base (02_channels_and_time.md) -/

/-- An event being composed on a channel (R34): stamps are device time in fine LSB. -/
structure OpenEvent where
  lr : Nat
  hr : Option Nat := none
  hf : Option Nat := none
  multi : Bool := false
  late : Bool := false
  /-- the walk table in force as the event began, entries 0 to 31; empty while WALK_EN is clear (R40) -/
  walk : List Int := []
  deriving DecidableEq, Repr

/-- A composed event in the input FIFO (R42): its LR in full, its event word (R38) and its walk correction W (R39, R40). -/
structure Event where
  lr : Nat
  word : BitVec 64
  w : Int := 0
  deriving DecidableEq, Repr

/-- A channel: the comparators' outputs, the event being composed, the end of the re-arm time, and the input FIFO. -/
structure Chan where
  low : Bool := false
  high : Bool := false
  ev : Option OpenEvent := none
  /-- end of the re-arm time after the last LF (R35) -/
  blind : Nat := 0
  /-- a re-arm time has begun and its end has not been taken yet (R35) -/
  rearming : Bool := false
  /-- no new event until the low comparator has fallen (R34, R37) -/
  blocked : Bool := false
  /-- when the low comparator last rose (R37) -/
  lowSince : Nat := 0
  /-- this stay above threshold has been reported as stuck (R37) -/
  stuck : Bool := false
  fifo : List Event := []
  /-- dead-time estimate (04_echoes_and_points.md R89) in 1/256 of 0.25 ns; DEAD_EST shows its whole part -/
  est : Nat := 2048
  deriving DecidableEq, Repr

/-- A time anchor (R49): its label and its AT in ns. -/
structure Anchor where
  label : Nat
  at_ : Nat
  deriving DecidableEq, Repr

/-- The frequency unit's gate (R56): the sums of the regression over the edges of the gate, relative to the first. -/
structure Gate where
  /-- the gate still takes edges -/
  open_ : Bool := true
  /-- when an internal gate ends (fine LSB); none for the GATE pin -/
  ends : Option Nat := none
  n : Nat := 0
  first : Nat := 0
  sumT : Nat := 0
  sumIT : Nat := 0
  sumTT : Nat := 0
  clip : Bool := false
  deriving DecidableEq, Repr

/-- The time base. -/
structure TimeBase where
  /-- snapshot of device time, bits [63:32], by requester (R47) -/
  snap : SMap Nat := []
  anchors : List Anchor := []
  /-- the most recent anchor to take effect (R51) -/
  last : Option Anchor := none
  /-- frames opened since then, heads A and B (R51) -/
  framesA : Nat := 0
  framesB : Nat := 0
  /-- SYNC stamp FIFO, oldest first: stamp and EARLY (R52) -/
  syncFifo : List (Nat × Bool) := []
  /-- accepted edges since the last used one (R52) -/
  syncDiv : Nat := 0
  /-- the reference of grading: the previous good edge or the instant a missing edge was due (R53) -/
  syncRef : Option Nat := none
  syncGood : Nat := 0
  /-- the latest good edge (05_scan_out.md R123) -/
  syncGoodAt : Option Nat := none
  syncMissed : Nat := 0
  /-- instants of arming and of the start edge (R54) -/
  iuArmed : Nat := 0
  iuStart : Nat := 0
  gate : Option Gate := none
  frefSeen : Option Nat := none
  /-- when the time base last locked (17_startup_faults.md R391) -/
  lockedAt : Nat := 0
  /-- stamping and firing of the head wait for its next frame after lock returned (R45) -/
  resumeA : Bool := false
  resumeB : Bool := false
  deriving DecidableEq, Repr

/-! ### Ranging operations (03_ranging_operations.md) and echoes (04_echoes_and_points.md) -/

/-- The states of an op that holds a slot (R66); COMPLETE and ABANDONED are transient. -/
inductive OpState where
  | issued | accumulating | settling | reducing
  deriving DecidableEq, Repr

/-- A fine lens (R92, R93): its position P, its 256 counters and its runt count. -/
structure Lens where
  p : Nat
  bins : SMap Nat := []
  runts : Nat := 0
  deriving DecidableEq, Repr

/-- An echo handed to the point processor (R86, R91, R94). Rational figures are pairs numerator, denominator. -/
structure Echo where
  /-- location D and group delay G, fine LSB -/
  d : Int
  g : Int
  /-- the lens that located it, and the runt test (R98) -/
  lens : Option Nat := none
  lensRunt : Bool := false
  /-- net count n -/
  nNum : Int
  nDen : Nat
  /-- 16 times the score z, rounded and saturated at 255 (R107 CONF) -/
  conf : Nat
  /-- coherence Q: denominator 0 where Q is 1 by R91 -/
  qNum : Int
  qDen : Nat
  /-- extent E in 0.25 ns -/
  ext : Nat
  /-- the parts of the retro test that need the histogram (R98) -/
  sat : Bool
  /-- the start of an excerpt about this echo: round(c) -/
  bin : Int
  deriving DecidableEq, Repr

/-- Who asked for a probe op (06_salrad.md R153). -/
structure ProbeInfo where
  sq : Nat
  /-- the tag, none once the sequencer gave up its ownership (R160) -/
  tag : Option Nat
  interval : Nat
  exc : Bool
  deriving DecidableEq, Repr

/-- A record in a parcel: its length in bytes and its bytes as one little-endian number. -/
structure Rec where
  len : Nat
  val : Nat
  deriving DecidableEq, Repr

/-- The header figures of a parcel that do not change on the way (R259, R261). -/
structure ParcelKey where
  framed : Bool := false
  head : Nat := 0
  frame : Nat := 0
  deriving DecidableEq, Repr

/-- An op holding a slot (R59 to R76). -/
structure Op where
  w0 : Nat := 0
  w1 : Nat := 0
  w2 : Nat := 0
  w3 : Nat := 0
  st : OpState := .issued
  groupSlot : Nat := 0
  /-- V0, ns -/
  v0 : Nat := 0
  /-- instants of the visits made, ns: visit q fires pass q (R67); a probe's are all known at issue (R153) -/
  vs : List Nat := []
  /-- ends of the active part of the line of each visit, ns; none for a probe (R121) -/
  ends : List (Option Nat) := []
  /-- no further visit remains (R67) -/
  noMore : Bool := false
  probe : Option ProbeInfo := none
  /-- the frame the op belongs to (R65, R155) -/
  frame : Option Nat := none
  /-- the head's frame counter at V0, for records of ops of no frame (R155) -/
  frameNow : Nat := 0
  /-- device time (fine LSB) beyond which the op is abandoned (R68) -/
  ageEnd : Nat := 0
  /-- FRAME_OPEN of its frame, ns (R107 TIME) -/
  frameT0 : Nat := 0
  code : Nat := 0
  bank : Nat := 0
  lfsr : Nat := 1
  /-- pulses whose dither has been taken: the number of the pulse due next (R69) -/
  pulses : Nat := 0
  /-- pulses with a window: number and fire instant F in ns (R73) -/
  fires : List (Nat × Nat) := []
  /-- pulses fired whose window has yet to open: number and F in ns (R73) -/
  waiting : List (Nat × Nat) := []
  /-- pulses fired, with or without a window, and the close of the last window fired (fine LSB) -/
  fired : Nat := 0
  lastClose : Nat := 0
  hist : SMap Nat := []
  histSat : Bool := false
  firSat : Bool := false
  lenses : List Lens := []
  drops : Nat := 0
  suppressed : Nat := 0
  unbinned : Nat := 0
  torn : Bool := false
  frondTorn : Bool := false
  frond : Nat := 0
  frondGen : Nat := 0
  /-- fired on the active unit and tracked here (11_twin.md R287) -/
  shadow : Bool := false
  /-- pulses below this number are covered by not-fired notices of the active (R287) -/
  covered : Nat := 0
  /-- pulses the active did not fire (R287) -/
  notFired : List Nat := []
  /-- a standby's op whose decision or pulses the active did not share (11_twin.md R287) -/
  unsh : Bool := false
  /-- a reference op of this head (15_thermal_calibration.md R356) -/
  ref : Option Nat := none
  /-- PHASE of the profile that opened it (R121) -/
  phase : Nat := 0
  /-- columns of the format in force at the decision; 0 for an op that is no scan op (06_salrad.md R159) -/
  cols : Nat := 0
  /-- in the correlator queue or in an engine -/
  queued : Bool := false
  /-- extraction has ended and the op waits for hand-off (R86) -/
  reduced : Bool := false
  echoes : List Echo := []
  /-- runs discarded beyond four (R90) -/
  extra : Nat := 0
  /-- background mean, 1/256 event per bin (R87) -/
  mu : Nat := 0
  /-- EXCERPT_CFG as the op entered REDUCING, and whether a mode of R111 that looks at the op's echoes selects it (R115) -/
  excCfg : Nat := 0
  excHit : Bool := false
  /-- its excerpt records, which a standby holds (11_twin.md R289) -/
  excRecs : List (Nat × ParcelKey × Rec) := []
  deriving DecidableEq, Repr

/-- A channel group's page pool (R61, R63): pages free and pages waiting to be cleared, in release order. -/
structure Group where
  free : Nat := 256
  clearing : Nat := 0
  deriving DecidableEq, Repr

/-- A ranging die's reduction (R75, R80, R86). -/
structure Die where
  corrQueue : List Nat := []
  engines : List Nat := []
  handoff : List Nat := []
  /-- completed ops since the last excerpt (R111) -/
  excCount : Nat := 0
  deriving DecidableEq, Repr

/-- An observation waiting in the lichen maintenance queue (R102, R105): class, range and intensity of each echo. -/
structure Obs where
  cell : Nat
  head : Nat
  at_ : Nat
  echoes : List (Nat × Nat × Nat)
  /-- LICHEN_CFG at the hand-off that made it (R115) -/
  cfg : Nat := 0
  deriving DecidableEq, Repr

/-- The account of an open or closing frame of a head (R65, R99, R114). -/
structure FrameAcc where
  t0 : Nat := 0
  /-- the next frame has opened or the head has stopped: no further decision falls in this frame -/
  ended : Bool := false
  issued : Nat := 0
  completed : Nat := 0
  declined : Nat := 0
  abandoned : Nat := 0
  /-- sum of (n / N) / E over class-2 echoes, as numerator and denominator (R99) -/
  extNum : Int := 0
  extDen : Nat := 1
  records : Nat := 0
  suppressed : Nat := 0
  torn : Bool := false
  frondTorn : Bool := false
  displaced : Bool := false
  lost : Bool := false
  /-- echoes of class c, and ops without echo at 7 (R169) -/
  classes : SMap Nat := []
  /-- class-4 echoes by hop region (R82) -/
  regions : SMap Nat := []
  deriving DecidableEq, Repr

/-- The default policy of a head, on its sequencer (06_salrad.md R177 to R181): the next row of the sweep; cells counted in
this sweep by bank, and those of them with RETRO or SCREEN; the standby buffer; the band committed and not yet in use (its
buffer, first row, rows); weather, the frames in a row that speak for a change, LEARN_EN as found on entry; steps down and
the frames since the last raise of ev9. -/
structure PolicySt where
  row : Nat := 0
  total : SMap Nat := []
  bright : SMap Nat := []
  buf : Nat := 0
  band : Option (Nat × Nat × Nat) := none
  weather : Bool := false
  frames : Nat := 0
  learn : Bool := false
  steps : Nat := 0
  quiet : Nat := 0
  deriving DecidableEq, Repr

/-- Ranging and points on the hub. -/
structure Points where
  obs : List Obs := []
  /-- items of the last closed frame by 16 × head + item (06_salrad.md R169) -/
  fstat : SMap Nat := []
  /-- codes chosen by the automatic hop, by 64 × head + region (R82) -/
  hops : SMap Nat := []
  /-- regions written since the last latch point, by 64 × head + region (R83) -/
  written : List Nat := []
  /-- consecutive windows with part pace below the threshold (01_architecture.md R19); 9 once this fall has been reported -/
  paceBelow : Nat := 0
  /-- die links that do not work, a bit per die (01_architecture.md R24, R25) -/
  linkDown : Nat := 0
  /-- the default policy by head (06_salrad.md R177) -/
  policy : SMap PolicySt := []
  /-- results that came after their deadline and were discarded (01_architecture.md R23) -/
  late : SMap Nat := []
  deriving DecidableEq, Repr

/-! ### Sequencers (06_salrad.md) -/

/-- What a sequencer in WAITING waits for (R141): the mask or line, the register to write, the deadline in fine LSB. -/
inductive Wait where
  | mask (m : Nat) (dst : Nat) (deadline : Option Nat)
  | line (k : Nat) (dst : Nat) (deadline : Option Nat)
  | sleep (until_ : Nat)
  | outstanding (n : Nat)
  | tag (n : Nat)
  | stores
  deriving DecidableEq, Repr

/-- A watch window (R159). -/
structure Watch where
  on : Bool := false
  head : Nat := 0
  row0 : Nat := 0
  row1 : Nat := 0
  col0 : Nat := 0
  col1 : Nat := 0
  classes : Nat := 0
  changed : Bool := false
  deriving DecidableEq, Repr

/-- A probe issued and not yet decided (R153): descriptor words, V0 (ns), BANK, lens positions (0: none) and what its op
keeps. -/
structure ProbeReq where
  w0 : Nat
  w1 : Nat
  w2 : Nat
  w3 : Nat
  v0 : Nat
  bank : Nat
  lenses : List Nat
  info : ProbeInfo
  deriving DecidableEq, Repr

/-- A sequencer's private state beside its registers (R140). -/
structure Seq where
  wait : Option Wait := none
  /-- completion queue, oldest first: four words an entry (R157) -/
  cq : List (Nat × Nat × Nat × Nat) := []
  /-- tags in use, and the tags of probes still outstanding (R156) -/
  tags : List Nat := []
  outstanding : List Nat := []
  watch : SMap Watch := []
  /-- probes issued and not yet decided -/
  probes : List ProbeReq := []
  /-- device time of the last KICK or start (R173) -/
  kick : Nat := 0
  /-- role of the image's signer (16_security_ledger.md R376) -/
  role : Nat := 0
  /-- the policy image of start-up holds it (R177) -/
  policy : Bool := false
  deriving DecidableEq, Repr

/-! ### Trunk and streams (10_trunk.md) -/

/-- A closed parcel: its stream (7 is the CTRL stream of port 1), its SSEQ, the device time of its close in ns, its records;
sent again after its lane failed; held in the hub's room outside every quota (R270). -/
structure Parcel where
  stream : Nat
  sseq : Nat
  key : ParcelKey
  time : Nat
  recs : List Rec
  retx : Bool := false
  outside : Bool := false
  deriving DecidableEq, Repr

/-- A parcel being filled: when its first record entered (fine LSB); whether it fills the room outside every quota (R270). -/
structure OpenParcel where
  key : ParcelKey
  since : Nat
  recs : List Rec
  room : Bool := false
  deriving DecidableEq, Repr

/-- A loss episode of a stream (R269): times in ns. -/
structure Loss where
  first : Nat
  last : Nat
  parcels : Nat
  records : Nat
  bytes : Nat
  deriving DecidableEq, Repr

/-- A stream: numbering, credit, the parcel being filled, the parcels in the egress buffer and in the lay-by. -/
structure Stream where
  sseq : Nat := 0
  credit : Nat := 0
  /-- the oldest SSEQ not acknowledged (R267) -/
  oldest : Nat := 0
  /-- SSEQs acknowledged out of order, beyond `oldest` -/
  acked : List Nat := []
  open_ : Option OpenParcel := none
  egress : List Parcel := []
  layby : List Parcel := []
  /-- write offset in the stream's sub-ring of the lay-by (12_stream_memory.md R311) -/
  laybyWr : Nat := 0
  loss : Option Loss := none
  /-- the stream takes no more records (17_startup_faults.md R399) -/
  closed : Bool := false
  deriving DecidableEq, Repr

/-- One direction's line coder (R250, R251): the last 58 scrambled bits, the last line bit and its run. -/
structure Coder where
  scr : BitVec 58 := 0
  last : Bool := false
  run : Nat := 0
  deriving DecidableEq, Repr

/-- A lane: trunk lanes 0 to 11 and causeway lanes 12 to 15. -/
structure Lane where
  tx : Coder := {}
  rx : Coder := {}
  /-- header validity of the last 64 blocks, newest first (R252) -/
  hdrs : List Bool := []
  /-- bits delivered and not yet a whole block; the latest whole block: whether control, and its descrambled payload -/
  rxBits : List Bool := []
  rxBlock : Option (Bool × Nat) := none
  /-- the parcel arriving (R254): its header and data blocks so far; the parcels arrived or cut short and not yet judged -/
  asm : Option (Nat × List Nat) := none
  rxParcels : List (Nat × List Nat) := []
  /-- line bits of the latest transmit slot (R249 to R251) -/
  line : List Bool := []
  /-- data blocks in a row (R254), and the parcel being sent: header and payload blocks left -/
  runData : Nat := 0
  sending : List Nat := []
  /-- sent and not acknowledged, oldest first: LSEQ and parcel (R262, R263) -/
  unacked : List (Nat × Parcel) := []
  /-- of these, copies still to be replayed -/
  resend : List (Nat × Parcel) := []
  lseq : Nat := 0
  rxLseq : Nat := 0
  /-- a parcel has been received since bring-up: there is an LSEQ to acknowledge (R262) -/
  gotParcel : Bool := false
  /-- NAK sent for the expected LSEQ (R262) -/
  naked : Bool := false
  /-- an ACK entry is due, and a NAK entry is due -/
  ackDue : Bool := false
  nakDue : Bool := false
  ackMoved : Nat := 0
  /-- replays in a row without ACK progress (R264) -/
  replays : Nat := 0
  /-- LANE_EN was set at (R257) -/
  since : Nat := 0
  gotCap : Bool := false
  capDue : Bool := false
  partnerDeep : Bool := false
  /-- last time the transmitter had anything but IDLE to send (R272) -/
  busyAt : Nat := 0
  /-- a woken transmitter sends IDLE until this instant or an ACK entry (R273) -/
  holdUntil : Option Nat := none
  /-- signal seen at a sleeping receiver (R273) -/
  signalAt : Option Nat := none
  /-- line bits still to invert; bit 0 of the payload of the next parcel, or of the one begun, is still to invert (R275) -/
  injBits : Nat := 0
  injCrc : Bool := false
  injNext : Bool := false
  /-- PRBS checker (R274): register, bits taken for its seed, error-free run, places of the latest errors, bits checked since
  the seed, bits counted -/
  prbs : BitVec 31 := 0
  prbsSeed : Nat := 0
  prbsGood : Nat := 0
  prbsErrs : List Nat := []
  prbsSeen : Nat := 0
  prbsBits : Nat := 0
  prbsTx : BitVec 31 := BitVec.allOnes 31
  /-- failed, restart of bring-up due 1 ms after this instant (R264) -/
  failedAt : Option Nat := none
  deriving DecidableEq, Repr

/-- A port of the trunk; port 2 stands for the causeway lanes, which form one link (11_twin.md R283). -/
structure Port where
  /-- ID, REORDER_WIN and INIT_CREDIT of the CAP that brought its first lane up (R258) -/
  id : Nat := 0
  win : Nat := 0
  credit : Nat := 0
  /-- CTRL requests received and not yet executed, oldest first: the SSEQ of its parcel, its 16 bytes (R271) -/
  reqs : List (Nat × Nat) := []
  /-- the SSEQ expected next from the partner, by stream, and the parcels that came before their turn: stream, SSEQ,
  requests (R267, R271) -/
  rx : SMap Nat := []
  early : List (Nat × Nat × List Nat) := []
  /-- a CREDIT block is due on the link (R267) -/
  creditDue : Bool := false
  /-- class-2 alternation (R265): the stream that went last -/
  lastPoints : Nat := 3
  deriving DecidableEq, Repr

/-- The trunk. Causeway stream k (11_twin.md R283) is stream 16 + k. -/
structure Trunk where
  lanes : SMap Lane := []
  streams : SMap Stream := []
  ports : SMap Port := []
  /-- the first milestone since start-up has been emitted (04_echoes_and_points.md R112) -/
  firstMs : Bool := false
  /-- some configuration record fell back to defaults (16_security_ledger.md R377) -/
  cfgDefaulted : Bool := false
  deriving DecidableEq, Repr

/-! ### External memory, replay (12_stream_memory.md) -/

/-- A parcel copy of the replay ring (R312): its position counts bytes since the store was started, of which the ring
holds the last REPLAY_SIZE MiB; its stored length. -/
structure ReplayCopy where
  stream : Nat
  time : Nat
  ofs : Nat
  len : Nat
  deriving DecidableEq, Repr

/-- A replay being read out (R314). -/
structure Reader where
  start : Nat
  end_ : Nat
  streams : Nat
  tag : Nat
  /-- the position of the next copy to look at, copies sent, and bytes passed over -/
  next : Nat
  sent : Nat := 0
  skipped : Nat := 0
  aborted : Bool := false
  deriving DecidableEq, Repr

/-- A single access to DRAM that waits (R307, R308): its requester, its offset from the DRAM base, its bytes, and the link
error it will meet (R301): 0 none, 1 a single bit, 2 more. -/
structure HeldAccess where
  req : Nat
  ofs : Nat
  size : Nat
  write : Bool
  val : Nat
  err : Nat
  deriving DecidableEq, Repr

/-- The DRAM side: the devices in service, the toll's counts and holds, and the replay store. -/
structure Mem where
  /-- the arrangement of the ports in service, as read at training (R300, R301): Gb per channel of a die, ranks a channel,
  two byte-mode dies in place of one x16 -/
  density : Nat := 0
  ranks : Nat := 0
  byteMode : Bool := false
  /-- accesses that the toll holds, and those of the same requester to the same bank behind them, oldest first (R307, R308) -/
  waiting : List HeldAccess := []
  /-- activations since the last refresh or RFM, by 1,024 × channel + 16 × rank + bank (R308) -/
  acts : SMap Nat := []
  /-- the row open in a bank -/
  rows : SMap Nat := []
  /-- holds: requester × 2^16 + bank key, and the end of the hold in fine LSB -/
  holds : SMap Nat := []
  /-- port: last access (R309) -/
  lastAccess : SMap Nat := []
  /-- write delay steps made since training (R304), by byte -/
  dqsMoved : SMap Int := []
  /-- RFMs issued by bank -/
  rfm : SMap Nat := []
  /-- replay ring: copies held, oldest first; write position -/
  ring : List ReplayCopy := []
  ringWr : Nat := 0
  /-- times of the index entries held, oldest first; entries written -/
  index : List Nat := []
  indexWr : Nat := 0
  /-- a parcel of this millisecond was not stored; the ring wrapped since the last entry -/
  skipped : Bool := false
  wrapped : Bool := false
  /-- parcel copies in the staging buffer, oldest first, with their stored bytes (R309, R312) -/
  staged : List (ReplayCopy × Nat) := []
  /-- the replay writer's latency tolerance as last stated, ns; none before its first write (R309) -/
  said : Option Int := none
  reader : Option Reader := none
  deriving DecidableEq, Repr

/-! ### The emission guard (08_emission_guard.md) -/

/-- The budgets of one entry of the guard table's body (R212), EU, 64 EU, 4,096 EU. -/
structure Budget where
  b10 : Nat := 0
  bline : Nat := 0
  b1s : Nat := 0
  deriving DecidableEq, Repr

/-- The guard table in force beyond what registers show (R212). -/
structure GuardTable where
  polyMin : Nat := 0
  polyIdxMax : Nat := 0
  elevSpan : Nat := 0
  elevWin : Nat := 0
  budgets : SMap Budget := []
  deriving DecidableEq, Repr

/-- A guard input (R207): the filtered levels, the start of the disagreement that has not ended, of the agreement now. -/
structure Gin where
  a : Bool := false
  b : Bool := false
  disFrom : Option Nat := none
  agreeFrom : Option Nat := none
  deriving DecidableEq, Repr

/-- A pulse seen by the limiter or reported to the guard processor: its instant in ns and its energy in EU. -/
structure Shot where
  at_ : Nat
  eu : Nat
  deriving DecidableEq, Repr

/-- A pulse requested of a bank, withheld ones included (R216): instant in ns and sum of widths in 0.125 ns. -/
structure Req where
  at_ : Nat
  width : Nat
  deriving DecidableEq, Repr

/-- A head's motion proof (R210). -/
structure MotionProof where
  /-- quadrature edges that the limiter has counted in this window; counts of the last 4 windows, newest first -/
  edges : Nat := 0
  windows : List Nat := []
  /-- ENC_POS at the end of the last window, and the guard processor's counts of the last 4 windows -/
  pos : Int := 0
  procWindows : List Nat := []
  /-- the limiter's last window ended, the guard processor's, the last index came (fine LSB) -/
  winEnd : Nat := 0
  procEnd : Nat := 0
  lastIdx : Option Nat := none
  /-- elevation conversions with their instants in ns, newest first -/
  elev : List (Nat × Nat) := []
  deriving DecidableEq, Repr

/-- The guard. -/
structure Guard where
  table : GuardTable := {}
  tableBad : Bool := false
  gin : SMap Gin := []
  /-- hold causes that stand: cause and detail (R206) -/
  holds : List (Nat × Nat) := []
  /-- inputs that demanded during the hold (R208) -/
  demanded : List Nat := []
  /-- a hold cause that always leads to WAIT_RESTART stood during the hold (R206) -/
  manual : Bool := false
  /-- a guard reset was accepted: the next restart begins a breathing-up ramp (R219) -/
  rampDue : Bool := false
  /-- latched causes: cause and detail -/
  latched : List (Nat × Nat) := []
  limShots : SMap (List Shot) := []
  procShots : SMap (List Shot) := []
  reqs : SMap (List Req) := []
  motion : SMap MotionProof := []
  /-- heartbeats unanswered in a row: by the processor, by the limiter (R217) -/
  missProc : Nat := 0
  missLim : Nat := 0
  /-- last frame or millisecond with a LIMIT_ACTED milestone, per head (R215) -/
  limMark : SMap (Option Nat) := []
  /-- fired pulses whose reports have not reached the guard processor, oldest first (R217) -/
  reports : SMap (List Shot) := []
  /-- since when one channel permits emission and the other does not (R217) -/
  differFrom : Option Nat := none
  /-- the two channels' self-tests pass; read-backs match -/
  selfTest : Bool := true
  readP : Bool := true
  readH : Bool := true
  /-- the twin's guard: the levels of its inputs as it last sent them, and since when a reading differs (R221) -/
  twinGin : Option (List (Bool × Bool)) := none
  twinDiffer : SMap (Option Nat) := []
  deriving DecidableEq, Repr

/-! ### Start-up, reset and errors (17_startup_faults.md) -/

/-- An entry of the error queue (R394). -/
structure ErrEntry where
  cls : Nat
  sev : Nat
  escalated : Bool
  depth : Nat
  detail : Nat
  bit : Nat
  src : Nat
  eseq : Nat
  time : Nat
  acked : Bool := false
  deriving DecidableEq, Repr

/-- Whether the part runs, is held in reset, or is in the thermal shutdown state. -/
inductive Power where
  | running | inReset | shutdown
  deriving DecidableEq, Repr

/-- Start-up, reset and error state beside the registers. -/
structure Startup where
  power : Power := .running
  errs : List ErrEntry := []
  eseq : Nat := 0
  /-- an error of this command takes the part to its safe state (R397, R398) -/
  wantSafe : Bool := false
  /-- when the safe state was entered (R399) -/
  safeAt : Option Nat := none
  /-- nRST: the level at the ball, when it fell, when it rose (R388 to R390) -/
  nrst : Bool := true
  nrstFell : Nat := 0
  nrstRose : Nat := 0
  /-- the release of the last power-on reset and of the last reset, fine LSB -/
  porAt : Nat := 0
  resetAt : Nat := 0
  /-- the latest end of the stage before the one in progress, fine LSB (R391) -/
  limit : Nat := 0
  /-- a watched supply is too low (R383) -/
  noSupply : Bool := false
  /-- sequencers that READY starts (R393) -/
  toStart : List Nat := []
  deriving DecidableEq, Repr
/-! ### Scan-out (05_scan_out.md) -/

/-- A frond buffer by its part address and expected generation (R131). -/
structure FrondRef where
  addr : Nat
  gen : Nat
  deriving DecidableEq, Repr

/-- The commits of a frond of a head: captured, taken at the latch point, in force (R131). -/
structure FrondSt where
  pending : Option FrondRef := none
  taken : Option FrondRef := none
  inForce : Option FrondRef := none
  deriving DecidableEq, Repr

/-- What a line's prefetch read of a frond (R126, R132, R133): whether its check passed, GEN, the uniform profile of
MODE 1, the clipped window, the row bytes of MODE 0 and the profiles of MODE 2 by 65,536 × row + column. -/
structure FrondRead where
  frond : Nat
  ok : Bool
  gen : Nat
  uni : Option Nat
  row0 : Nat
  row1 : Nat
  col0 : Nat
  col1 : Nat
  rows : List (Nat × Nat)
  list : List (Nat × Nat)
  deriving DecidableEq, Repr

/-- A line's prefetch: the line (those of the next frame count on from L), the fronds that take part, those whose data
have arrived, and the data. -/
structure PfLine where
  line : Nat
  mask : Nat
  got : Nat
  reads : List FrondRead
  deriving DecidableEq, Repr

/-- A composed visit (R127, R128): its instant (ns), its descriptor words 1 and 2, its marks and its lens positions. -/
structure Visit where
  /-- the fronds give a profile: without an open op this visit makes a decision -/
  shoot : Bool
  cell : Nat
  ch : Nat
  line : Nat
  v : Nat
  w1 : Nat
  w2 : Nat
  phase : Nat
  /-- chase delay, ns (07_emitter_drive.md R197) -/
  chase : Nat
  frond : Nat
  gen : Nat
  torn : Bool
  frondTorn : Bool
  lenses : List Nat
  /-- the active part of its line ends at (ns) -/
  endNs : Nat
  /-- start of the column's visit without PHASE and chase, ns -/
  base : Nat
  deriving DecidableEq, Repr

/-- A head of scan-out. Instants in ninths of a ns are exact for every format of R118. -/
structure Head where
  /-- FRAME_OPEN of the frame open, and of the next one due, 1/9 ns -/
  open9 : Nat := 0
  next9 : Option Nat := none
  /-- a frame is open -/
  opened : Bool := false
  /-- lines of the open frame, and facets swept before it since the format started (04_echoes_and_points.md R113) -/
  len : Nat := 0
  facet : Nat := 0
  /-- lines started and active parts ended in this frame -/
  lines : Nat := 0
  ends : Nat := 0
  /-- the latch point of this frame has passed -/
  latched : Bool := false
  /-- SCAN_EN was cleared (R137) -/
  stopping : Bool := false
  fronds : SMap FrondSt := []
  reads : List PfLine := []
  /-- the next visit to compose: line, column, head channel index (R129) -/
  cLine : Nat := 0
  cCol : Nat := 0
  cHc : Nat := 0
  visits : List Visit := []
  /-- cells declined in this frame (R129) -/
  declined : List Nat := []
  /-- a profile or a FROND_MASK bit changed since the last composed visit (R130) -/
  dirty : Bool := false
  /-- visits of the line being composed are torn; the line was late (R130, R134) -/
  tornLine : Bool := false
  lateLine : Bool := false
  /-- a FORMAT write waits for the latch point (R138) -/
  fmtWritten : Bool := false
  /-- the exchange at the start of the first frame flyback is due (07_emitter_drive.md R187) -/
  startPhi : Bool := false
  /-- FROND_GEN of a late line -/
  lateGen : Nat := 0
  /-- marks for the frame that opens next (R130, R132) -/
  nextFrondTorn : Bool := false
  nextTorn : Bool := false
  /-- the latency tolerance last stated, µs; none before the head's first stop (R133, 12_stream_memory.md R309) -/
  said : Option Nat := none
  /-- |e| at the latest FRAME_OPENs, ns, newest first (R124) -/
  syncErrs : List Nat := []
  /-- the line a calibration takes, its groups and the cells displaced (15_thermal_calibration.md R361) -/
  calLine : Option (Nat × List Nat × Nat) := none
  /-- the line after which the next urgent calibration line comes -/
  calNext : Option (List Nat) := none
  deriving DecidableEq, Repr

/-! ### Emitter drive (07_emitter_drive.md) -/

/-- A fire pair's line state (R183): driven low, driven high, electrical idle, high impedance with the termination on
(`listen`) or off (`off`, without OWN). -/
inductive PairLine where
  | low | high | idle | listen | off
  deriving DecidableEq, Repr

/-- Which exchange (R186, R187, R292). -/
inductive XKind where
  | bringUp | regular | takeOver
  deriving DecidableEq, Repr

/-- An exchange in its window: φ and the mark in fine LSB, the attempt, the bank timed and the interval measured. -/
structure Exchange where
  phi : Nat
  kind : XKind
  retry : Bool := false
  sent : Bool := false
  mark : Option Nat := none
  timed : Option Nat := none
  result : Option Nat := none
  /-- the attempt whose mark was timed is the retry -/
  timedRetry : Bool := false
  /-- the reply deadline of the attempt has been taken -/
  judged : Bool := false
  deriving DecidableEq, Repr

/-- A bank of a head. -/
structure Bank where
  /-- SEQ of the next exchange, and the last command frame sent (R190) -/
  seq : Nat := 0
  cmd : Nat := 0
  /-- the line state that the latest event left; State.pairAt is the pair at the instant, frames, mark and pulses included -/
  line : PairLine := .off
  /-- in this exchange: the echo edge of the attempt was accepted; a valid reply came; the retry is for this bank -/
  echo : Bool := false
  replied : Bool := false
  inRetry : Bool := false
  /-- a valid reply since DRV_EN was set: CAP is latched (R200) -/
  capSet : Bool := false
  /-- fired since the previous exchange; the latest pulse, ns (R196, R198) -/
  fired : Bool := false
  lastFire : Option Nat := none
  /-- step of the thermal soft-start in progress (R196) -/
  soft : Option Nat := none
  /-- req_eff sent at this exchange and at the previous one (R198) -/
  reqEff : Nat := 0
  reqPrev : Nat := 0
  /-- it fired between the previous exchange and this one (R198) -/
  firedPrev : Bool := false
  /-- consecutive cable delays beyond the threshold (R199) -/
  jumps : Nat := 0
  /-- the active's cable delay as a standby last heard it (11_twin.md R287, R288) -/
  heard : Option Nat := none
  /-- failed its take-over attempt: no firing until its next exchange (R292) -/
  mute : Bool := false
  /-- rising instants in ns and widths in 0.125 ns of its latest pulse (R184) -/
  edges : List (Nat × Nat) := []
  /-- SLOPE last written, and the latest readings of emitter calibration (15_thermal_calibration.md R357) -/
  hostSlope : Nat := 0
  slopes : List Nat := []
  /-- SLOPE stands at its bound (15_thermal_calibration.md R357) -/
  slopeStop : Bool := false
  deriving DecidableEq, Repr

/-- A head's drive. -/
structure DriveHead where
  x : Option Exchange := none
  /-- the latest instant φ taken, fine LSB -/
  phi : Nat := 0
  /-- bring-up is in progress -/
  bringUp : Bool := false
  /-- steps of breathing up and down in progress (R196) -/
  up : Option Nat := none
  down : Option Nat := none
  deriving DecidableEq, Repr

/-- The drive: heads, banks by 32 × head + bank; what the firing scheduler was told by a bank failure (R201). -/
structure Drive where
  heads : SMap DriveHead := []
  banks : SMap Bank := []
  /-- φ of the exchange whose failure DRV_FAIL records (R201) -/
  failPhi : Option Nat := none
  deriving DecidableEq, Repr

/-! ### Motion control (09_scanner_control.md) -/

/-- A generator's state: value, rate and rate of rate, with 16 fractional bits (R233). -/
structure Gen where
  v : Int := 0
  r : Int := 0
  a : Int := 0
  deriving DecidableEq, Repr

/-- A move: where it began and when (fine LSB), its target and limits, and the profile followed (R233). -/
structure Move where
  start : Gen
  t0 : Nat
  target : Int
  vmax : Nat
  amax : Nat
  jmax : Nat
  profile : Nat
  deriving DecidableEq, Repr

/-- A move asked for and taken at the next sample (R234): its target and profile; `direct` for one started by SETPOINT,
which steps where profile 0 has no limits. -/
structure MoveReq where
  target : Int
  profile : Nat
  direct : Bool := false
  deriving DecidableEq, Repr

/-- A blend of R240: samples since the change, its length, and the output it starts from. -/
structure Blend where
  k : Nat
  nb : Nat
  u0 : Int
  deriving DecidableEq, Repr

/-- A control loop beside its registers. -/
structure Loop where
  gen : Gen := {}
  move : Option Move := none
  req : Option MoveReq := none
  /-- MODE has been written since the last sample (R231, R239) -/
  modeReq : Bool := false
  /-- SWEEP moves toward SWEEP_HI -/
  sweepUp : Bool := false
  i : Int := 0
  yPrev : Int := 0
  /-- the output sent at the previous sample -/
  uLast : Int := 0
  /-- the set-point of HOLD -/
  hold : Int := 0
  blend : Option Blend := none
  /-- SPEED: count and stamp of the last edge at or before the previous sample, and the previous y (R228) -/
  spCount : Int := 0
  spStamp : Option Nat := none
  spY : Int := 0
  /-- SPEED: since when the generator value has not been 0 (R242) -/
  movingSince : Option Nat := none
  /-- consecutive samples beyond FOLLOW_MAX, and at a limit of the AUX range (R242) -/
  follow : Nat := 0
  range : Nat := 0
  /-- error of the last sample, for STEP_TOL (R235) -/
  e : Int := 0
  /-- facet phase (R236): Iph, ph_term, line starts in tolerance -/
  iph : Int := 0
  phTerm : Int := 0
  /-- ε of the latest line start, whole (R236, R244) -/
  eps : Int := 0
  phRun : Nat := 0
  /-- bin of the previous sample (R237) -/
  rcPrev : Nat := 0
  /-- latest conversion code, and whether it came since the last sample (R229) -/
  conv : Nat := 0
  convNew : Bool := false
  /-- commands computed and when they apply (fine LSB), oldest first; none for a late sample (R225, R229) -/
  cmds : List (Option Int × Nat) := []
  /-- the command in force and its application instant (R230) -/
  out : Int := 0
  outAt : Nat := 0
  /-- earlier commands and their application instants, newest first: a carrier period keeps the command it began with -/
  outs : List (Int × Nat) := []
  /-- one above the latest sample instant (fine LSB), 0 before the first -/
  sampled : Nat := 0
  /-- a park move is in progress (R243) -/
  parking : Bool := false
  /-- latest signals of R244 -/
  sig : SMap Int := []
  deriving DecidableEq, Repr

/-- An encoder input (R227): its legs, its last edge (fine LSB), index history. -/
structure Enc where
  a : Bool := false
  b : Bool := false
  last : Option Nat := none
  idxSeen : Bool := false
  /-- good indices since the last bad one; none while no bad index stands (R238) -/
  bad : Option Nat := none
  deriving DecidableEq, Repr

/-- The trace unit (R244, R245): sample instants of TR_LOOP until the next sample, samples left after the trigger. -/
structure Trace where
  skip : Nat := 0
  left : Option Nat := none
  taken : Nat := 0
  deriving DecidableEq, Repr

/-- Motion control. -/
structure Motion where
  loops : SMap Loop := []
  encs : SMap Enc := []
  trace : Trace := {}
  deriving DecidableEq, Repr

/-! ### Twin (11_twin.md) -/

/-- Records of an op held by a standby (R289): the stream, its key, and the record, in order. -/
structure Held where
  head : Nat
  cell : Nat
  recs : List (Nat × ParcelKey × Rec)
  frame : Option Nat
  deriving DecidableEq, Repr

/-- The twin block beside its registers. -/
structure Twin where
  /-- the OWN line is high; since when; this unit drives it low -/
  ownHigh : Bool := true
  ownSince : Nat := 0
  /-- instant of this unit's last path B beat; the health monitor permits beats (R280, R284) -/
  keeper : Option Nat := none
  healthy : Bool := false
  lastSend : Option Nat := none
  /-- last beats received on paths A and B (fine LSB) -/
  lastA : Option Nat := none
  lastB : Option Nat := none
  /-- path B stamps since the last guard report or offset: this unit's sends, the partner's beats seen (R285) -/
  hbSent : List Nat := []
  hbSeen : List Nat := []
  /-- the partner has been heard: partner failure can be declared (R284) -/
  heard : Bool := false
  /-- a beat received since OWN was released shows the partner not holding it (R282) -/
  released : Bool := false
  /-- the partner's last beat shows OWN held -/
  partnerOwn : Bool := false
  /-- after a planned release (R290): 2 until the partner has held OWN, then 1 until it has released it; 0 no bar -/
  bar : Nat := 0
  /-- read OWN held by the other after driving it: no claim until the next release (R281) -/
  yielded : Bool := false
  partner : Option Identity := none
  identAt : Nat := 0
  /-- the partner's identity as last tested (R278) -/
  tested : Option Identity := none
  /-- when this unit last sent its identity, and its guard's report and when (R283) -/
  identSent : Option Nat := none
  guardSent : Option (Nat × Nat) := none
  /-- unit B has found itself eligible and OWN released at this instant (R281) -/
  claimAt : Option Nat := none
  /-- an alignment copy is being sent (R295): the epoch under way, its length and content as they stood when it began, the
  bytes of it sent, the instant before which the next part does not go, the DRAM pieces from this epoch on (address, bytes),
  and whether the last epoch has gone -/
  copying : Bool := false
  copyEpoch : Nat := 0
  copyLen : Nat := 0
  copyBuf : Nat := 0
  copyOfs : Nat := 0
  copyFrom : Nat := 0
  copyRest : List (Nat × Nat) := []
  copyDone : Bool := false
  /-- the epoch expected next by a unit that is aligned -/
  epoch : Nat := 0
  /-- every epoch has been applied: STANDBY at the next FRAME_OPEN (R297) -/
  complete : Bool := false
  /-- writes forwarded while their epoch arrives -/
  mirrored : List (Nat × Nat × Nat) := []
  held : List Held := []
  /-- ops the active issued that found no slot or pages here (R287) -/
  missed : List Op := []
  /-- egress notices that came before completion: head, cell -/
  early : List (Nat × Nat) := []
  /-- SSEQ_NEXT of POINTS_A, POINTS_B, MILESTONE in the last egress notice, and records it reported by frame key -/
  lastNotice : Nat × Nat × Nat := (0, 0, 0)
  noticed : SMap Nat := []
  /-- the last beat before the claim (ns), while TW_LAST_GAP waits for the first shot (R293) -/
  gapFrom : Option Nat := none
  /-- pulses scheduled before this instant (ns) are not fired after a take-over (R293) -/
  fireFrom : Nat := 0
  /-- frames open at the claim: head, frame (R294) -/
  takenFrames : List Nat := []
  /-- the causeway has been without a lane since (R297) -/
  cwyDown : Option Nat := none
  /-- BEAT blocks, identities and XTRIG blocks due on causeway lanes, as lane and block bytes -/
  ctl : List (Nat × Nat) := []
  deriving DecidableEq, Repr

/-! ### Capture (13_capture.md) -/

/-- A sample: its device time in ns, its 64-bit data, and the mask of conditions it met as it was taken (R322). -/
structure Sample where
  at_ : Nat
  data : Nat
  met : Nat := 0
  deriving DecidableEq, Repr

/-- A source slot of the capture (R320, R326): its FIFO, the loss that has not been recorded (ns), the averaging interval in
progress (first sample, count, sum) and its end (ns), the previous raw sample. -/
structure CapSlot where
  fifo : List Sample := []
  lost : Nat := 0
  lostFrom : Nat := 0
  lostTo : Nat := 0
  avg : Option (Nat × Nat × Int) := none
  avgEnd : Nat := 0
  prev : Option (Nat × Int) := none
  deriving DecidableEq, Repr

/-- A condition in progress (R322): start of the run beyond the level; rising through C seen; timer start (ns). -/
structure CapCond where
  run : Option Nat := none
  rose : Bool := false
  timer : Nat := 0
  deriving DecidableEq, Repr

/-- A trigger: mask, cause, the position of its record (records stored since arming before it), the samples stored before
it and up to it, and its time (ns). -/
structure CapTrig where
  mask : Nat
  cause : Nat
  pos : Nat
  before : Nat
  upto : Nat
  time : Nat
  /-- the instant of the sample that met the conditions: in averaging not the record's (R323) -/
  met : Nat
  deriving DecidableEq, Repr

/-- The capture engine. -/
structure Capture where
  armTime : Nat := 0
  slots : SMap CapSlot := []
  conds : SMap CapCond := []
  /-- records and samples stored since arming, in all -/
  stored : Nat := 0
  samples : Nat := 0
  /-- changes of device time [63:32], newest first: the record from which it holds, and its value -/
  his : List (Nat × Nat) := []
  trig : Option CapTrig := none
  /-- trigger record met on a die, whose report has not reached the hub (R324) -/
  report : Option CapTrig := none
  /-- kept pre-trigger samples, first record kept, PRE_CUT -/
  keptPre : Nat := 0
  startRec : Nat := 0
  preCut : Bool := false
  /-- full (R325): CLIPPED, samples not stored, first and last (ns) -/
  isClipped : Bool := false
  clipped : Nat := 0
  clipFrom : Nat := 0
  clipTo : Nat := 0
  /-- samples of all GAP records -/
  lostGap : Nat := 0
  /-- a twin or software trigger waits for the next record: mask, cause, time for a twin trigger -/
  next : Option (Nat × Nat × Option Nat) := none
  deriving DecidableEq, Repr

/-! ### Housekeeping (14_housekeeping.md) -/

/-- A sensor port: raw samples since the reset, newest first, at most the filter's length, with which were clamped; the
number of samples since the reset; the last good output; whether there is an output since PORT_EN; the instant of an
excitation or gain change that waits for the next pulse; whether the last pulse showed a wire break. -/
structure SensorPort where
  hist : List (Int × Bool) := []
  count : Nat := 0
  good : Int := 0
  made : Bool := false
  change : Option Nat := none
  broken : Bool := false
  pulsed : Bool := false
  /-- flags of the latest output at their places in word 0 (R334), and its instant -/
  tags : Nat := 0
  at_ : Nat := 0
  /-- EXC_LEVEL in force: it follows the register from one pulse to the next (R340) -/
  level : Nat := 0
  /-- what the pending curve expansion was started with; a finished one, which waits for the next output (R341) -/
  curveOf : List Nat := []
  curveSet : Option (List Nat) := none
  /-- thermal supervision (R354): above the limit since, below the hysteresis since (ns); hot now -/
  above : Option Nat := none
  below : Option Nat := none
  hot : Bool := false
  deriving DecidableEq, Repr

/-- Housekeeping. -/
structure Housekeeping where
  rq : List (Nat × Nat) := []
  gap : Bool := false
  /-- the sequence table (R333): the entry running, as its register stood when its turn came; its conversions to come; the
  instant from which the next may start, ns; conversions begun before SEQ_EN was cleared: entry and start -/
  seqWord : Nat := 0
  seqLeft : Nat := 0
  seqAt : Nat := 0
  seqTail : List (Nat × Nat) := []
  /-- consecutive supply conversions outside the window (R343) -/
  outside : SMap Nat := []
  ports : SMap SensorPort := []
  deriving DecidableEq, Repr

/-! ### Temperature and calibration (15_thermal_calibration.md) -/

/-- A sensor: its readings of the last 100 ms with their instants (ns), newest first. -/
structure TempSensor where
  hist : List (Nat × Int) := []
  deriving DecidableEq, Repr

/-- A comparator run of a die: due since (ns), groups being calibrated with the start and the end of their 20 µs (ns), the
instant φ last used by head (fine LSB), the die's temperature at the end of its last run. -/
structure CalDie where
  due : Option Nat := none
  active : List (Nat × Nat × Nat) := []
  used : SMap (Option Nat) := []
  lastTemp : Option Int := none
  deriving DecidableEq, Repr

/-- The orderly stop (R353): when it began, whether the park was asked for and ended, and what began it. -/
structure OrderlyStop where
  at_ : Nat
  parkAt : Option Nat := none
  parked : Bool := false
  twin : Bool := false
  deriving DecidableEq, Repr

/-- Thermal supervision and calibration. -/
structure Thermal where
  sensors : SMap TempSensor := []
  /-- entry condition of level k held since, exit condition of level k held since (ns) -/
  enter : SMap (Option Nat) := []
  leave : SMap (Option Nat) := []
  stop : Option OrderlyStop := none
  /-- a part that shut down on a threshold restarts when every sensor has been cool since (ns) -/
  coolSince : Option Nat := none
  mayRestart : Bool := false
  cal : SMap CalDie := []
  /-- trim targets by 4 × channel + quantity (0 OFS_LO, 1 OFS_HI, 2 gain LO, 3 gain HI), and gain trims in force -/
  targets : SMap (Option Int) := []
  gains : SMap Int := []
  /-- interpolator boundaries in force and their targets, by 4,096 × die + boundary (R355) -/
  interp : SMap Int := []
  interpTo : SMap Int := []
  /-- residuals of the reference ops of a head, newest first, at most 16 (R356), and the last located bin -/
  residuals : SMap (List Int) := []
  refAt : SMap Nat := []
  /-- the instant φ whose reference op has been issued or declined, by head (fine LSB) -/
  refPhi : SMap (Option Nat) := []
  deriving DecidableEq, Repr

/-! ### Non-volatile memory, identity and the ledger (16_security_ledger.md, 15_thermal_calibration.md R362) -/

/-- A record slot (R362): the header's REC_ID, FMT_VER, SEQ, LEN and CRC, and the payload, little-endian. An erased slot
and one whose write was cut hold none of it. -/
structure NvSlot where
  id : Nat := 0
  fmt : Nat := 0
  seq : Nat := 0
  len : Nat := 0
  val : Nat := 0
  crc : Nat := 0
  deriving DecidableEq, Repr

/-- A record's two slots. -/
structure NvPair where
  a : NvSlot := {}
  b : NvSlot := {}
  deriving DecidableEq, Repr

/-- A path's session and its banked registers (R374). -/
structure Session where
  role : Option Nat := none
  authRole : Nat := 0
  /-- where AUTH_CHAL was drawn: a count of free values; none before the first draw -/
  chal : Option Nat := none
  sig : Nat := 0
  fail : Bool := false
  deriving DecidableEq, Repr

/-- A change accepted and being made (R380). -/
structure Change where
  setting : Nat
  role : Nat
  len : Nat
  val : Nat
  hash : Nat
  signer : Nat
  entry : Nat
  deriving DecidableEq, Repr

/-- Stored and fused state, sessions, and what boot verified. Keys, hashes and secrets are little-endian numbers. -/
structure Sec where
  /-- record slots by REC_ID -/
  records : SMap NvPair := []
  /-- the slot being erased and programmed: REC_ID, whether slot B, and what it will hold; the records that wait,
  with the instants since when, ns (15_thermal_calibration.md R364, R365) -/
  programming : Option (Nat × Bool × NvSlot) := none
  toWrite : List (NvRecord × Nat) := []
  /-- the keys in force by SETTING, 7 to 10; 0 is unset (R377) -/
  keys : SMap Nat := []
  /-- fuses burnt by SETTING -/
  fuses : SMap Nat := []
  /-- BOOT in force; the guard table in force and the firmware that runs: their measurements (R369) -/
  bootMask : Nat := 0xFFFFFFFFFFFFFFFF
  tableMeas : Nat := 0
  fwMeas : Nat := 0
  /-- headers of the images that hold the sequencers, by sequencer (R372) -/
  images : SMap Nat := []
  sessions : SMap Session := []
  change : Option Change := none
  /-- changes cut by a reset after a fuse was burnt or a value written (R380): their settings -/
  owed : List Nat := []
  /-- the quote being built, its 408 bytes (R372) -/
  quote : Option Nat := none
  /-- boot flash as it was read at start-up: (offset, bytes) -/
  flash : List (Nat × List Byte) := []
  /-- a RECOVERED entry was appended in this power cycle (R381) -/
  recovered : Bool := false
  /-- last milestone of powered time credited to POWERED_HOURS, fine LSB (R48) -/
  hoursAt : Nat := 0
  deriving DecidableEq, Repr


/-- The whole state of the part. -/
structure State where
  /-- device time in fine LSB, 1/128 ns (R46) -/
  now : Nat := 0
  /-- ranging dies fitted: 1, 3 or 7 (00_scope.md R1) -/
  variant : Nat := 7
  /-- register words by part address; an unlisted register holds its reset word -/
  regs : SMap (BitVec 32) := []
  /-- bytes of the SRAM windows, trace memory, repetitive tables and DRAM by part address -/
  mem : List Host.Cell := []
  /-- free values drawn so far (Config.freeWord) -/
  fresh : Nat := 0
  /-- commands waiting, first in first out -/
  pending : List Instr := []
  chans : SMap Chan := []
  tb : TimeBase := {}
  /-- ops by 2,048 × die + slot -/
  ops : SMap (Option Op) := []
  /-- channel groups by 16 × die + local group -/
  groups : SMap Group := []
  dies : SMap Die := []
  /-- frame accounts by 2 × frame + head -/
  frames : SMap (Option FrameAcc) := []
  pts : Points := {}
  seqs : SMap Seq := []
  trk : Trunk := {}
  dram : Mem := {}
  heads : SMap Head := []
  drive : Drive := {}
  motion : Motion := {}
  twin : Twin := {}
  cap : Capture := {}
  hk : Housekeeping := {}
  therm : Thermal := {}
  sec : Sec := {}
  guard : Guard := {}
  su : Startup := {}
  deriving DecidableEq, Repr

/-- The part at the release of a power-on reset, before the boot ROM has run (17_startup_faults.md R386, R391): every
field at its default, no command waiting. The values the spec does not state are named in logs 3, 6 and 8. -/
def State.reset : State := {}

end Sys2Proof.Machine
end

