-- ==== Sys2Proof/Machine/Ops.lean ====
section
/-! DEFINITION. The named operations over the state: time, registers and their fields, memory bytes, channels, dies and
ops, and the exact arithmetic the rules use. -/

namespace Sys2Proof.Machine

/-! ### Arithmetic -/

/-- A w-bit word read as two's complement (00_scope.md R8). -/
def sgn (w v : Nat) : Int := if v < 2 ^ (w - 1) then (v : Int) else (v : Int) - (2 ^ w : Nat)

/-- An integer cut to w bits, two's complement. -/
def ofInt (w : Nat) (i : Int) : Nat := (i % (2 ^ w : Nat)).toNat

/-- Quotient rounded to the nearest integer, halves away from zero. -/
def roundDiv (n : Int) (d : Nat) : Int :=
  if d = 0 then 0
  else if 0 ≤ n then ((2 * n.toNat + d) / (2 * d) : Nat) else -(((2 * (-n).toNat + d) / (2 * d) : Nat) : Int)

/-- Quotient truncated toward zero. -/
def truncDiv (n : Int) (d : Nat) : Int := if 0 ≤ n then ((n.toNat / d : Nat) : Int) else -((((-n).toNat / d : Nat)) : Int)

/-- Quotient rounded up. -/
def ceilDiv (n d : Nat) : Nat := (n + d - 1) / d

/-- Bits [lo + w - 1 : lo] of a number. -/
def bits (x lo w : Nat) : Nat := x >>> lo % 2 ^ w

/-- Bit i of a number. -/
def bit (x i : Nat) : Bool := x >>> i % 2 = 1

/-- A truth value as a bit. -/
def b2n (b : Bool) : Nat := if b then 1 else 0

/-- The integer square root, found bit by bit from bit `fuel - 1`. -/
def isqrtFrom (n : Nat) (fuel acc : Nat) : Nat :=
  match fuel with
  | 0 => acc
  | k + 1 => let c := acc + 2 ^ k; isqrtFrom n k (if c * c ≤ n then c else acc)

/-- The integer square root, rounded down. -/
def isqrt (n : Nat) : Nat := isqrtFrom n ((n.log2 + 2) / 2) 0

/-- An integer limited to a range. -/
def clampInt (lo hi x : Int) : Int := if x < lo then lo else if hi < x then hi else x

/-- The signed 32-bit difference a - b is negative (10_trunk.md R267). -/
def before32 (a b : Nat) : Bool := decide (2 ^ 31 ≤ (a + (2 ^ 32 - b % 2 ^ 32)) % 2 ^ 32)

/-- Little-endian number of a list of bytes. -/
def leNat : List Nat → Nat
  | [] => 0
  | b :: r => b % 256 + 256 * leNat r

/-- Little-endian number of 32-bit words. -/
def wordsNat : List Nat → Nat
  | [] => 0
  | w :: r => w % 2 ^ 32 + 2 ^ 32 * wordsNat r

/-! ### Time -/

/-- The state at the instant of a command: device time never runs backwards (R45, R46). -/
def State.tick (s : State) (t : Nat) : State := { s with now := max s.now t }

/-- Device time in whole ns (R46). -/
def State.ns (s : State) : Nat := s.now / 128

/-- A count of ns, µs or ms in fine LSB. -/
def fineNs (n : Nat) : Nat := 128 * n
def fineUs (n : Nat) : Nat := 128000 * n
def fineMs (n : Nat) : Nat := 128000000 * n

/-! ### Registers -/

/-- The word a register holds. -/
def State.reg (s : State) (a : Nat) : BitVec 32 := s.regs.get (Reg.reset a) a

/-- Store a register word. -/
def State.setReg (s : State) (a : Nat) (v : BitVec 32) : State := { s with regs := s.regs.put (Reg.reset a) a v }

/-- The value of a field. -/
def State.get (s : State) (f : Field) : Nat := f.read (s.reg f.addr)

/-- The value of a signed field (R8). -/
def State.geti (s : State) (f : Field) : Int := sgn f.w (s.get f)

/-- A field of one bit as a truth value. -/
def State.flag (s : State) (f : Field) : Bool := s.get f ≠ 0

/-- Give a field a value, cut to its width. -/
def State.put (s : State) (f : Field) (v : Nat) : State := s.setReg f.addr (f.write (s.reg f.addr) v)

/-- Give a signed field a value. -/
def State.puti (s : State) (f : Field) (v : Int) : State := s.put f (ofInt f.w v)

/-- Set or clear a flag. -/
def State.setFlag (s : State) (f : Field) : State := s.put f 1
def State.clrFlag (s : State) (f : Field) : State := s.put f 0
def State.putb (s : State) (f : Field) (b : Bool) : State := s.put f (b2n b)

/-- A counter that wraps at its width moves up by n. -/
def State.add (s : State) (f : Field) (n : Nat) : State := s.put f (s.get f + n)

/-- A counter that wraps at its width moves up by one. -/
def State.bump (s : State) (f : Field) : State := s.add f 1

/-- A counter that saturates at its width moves up by n. -/
def State.addSat (s : State) (f : Field) (n : Nat) : State := s.put f (min (2 ^ f.w - 1) (s.get f + n))

/-- A counter that saturates at its width moves up by one. -/
def State.bumpSat (s : State) (f : Field) : State := s.addSat f 1

/-! ### Memory (01_architecture.md R26) -/

/-- What a byte that nothing has written reads as: 0, but for the byte of a lichen entry that holds UNLEARNT, which is
set (04_echoes_and_points.md R100). Zero elsewhere: 17_startup_faults.md R386 for SRAM; DRAM is DESIGN CHOICE (log 3). -/
def memDefault (a : Nat) : Byte :=
  if 0x10D00000 ≤ a ∧ a < 0x11D00000 ∧ a % 32 = 11 then 4 else 0

/-- The byte at a part address. -/
def State.byte (s : State) (a : Nat) : Byte := SMap.get s.mem (memDefault a) a

/-- Write one byte. -/
def State.setByte (s : State) (a : Nat) (b : Byte) : State := { s with mem := SMap.put s.mem (memDefault a) a b }

/-- Read n bytes, little-endian (R7). -/
def State.load (s : State) (a : Nat) : Nat → Nat
  | 0 => 0
  | n + 1 => (s.byte a).toNat + 256 * State.load s (a + 1) n

/-- Write the low n bytes of a number, little-endian. -/
def State.store (s : State) (a n v : Nat) : State :=
  match n with
  | 0 => s
  | n + 1 => State.store (s.setByte a (BitVec.ofNat 8 v)) (a + 1) n (v / 256)

/-- Memory in canonical form: addresses strictly rising, no entry equal to what an unlisted address reads as. -/
def Memory.wf (m : List Host.Cell) : Bool := SMap.wf memDefault m

/-- The register file in canonical form: the same, with reset words. -/
def RegFile.wf (r : SMap (BitVec 32)) : Bool := SMap.wf Reg.reset r

/-- Memory and the register file are in canonical form. -/
def State.Canon (s : State) : Prop := Memory.wf s.mem = true ∧ RegFile.wf s.regs = true

/-- Bases of the regions of the part address space (R26). -/
def progBase : Nat := 0x10000000
def dataBase : Nat := 0x10100000
def frondBase : Nat := 0x10500000
def lichenBase : Nat := 0x10D00000
def egressBase : Nat := 0x11D00000
def captureBase : Nat := 0x13D00000
def sramEnd : Nat := 0x14D00000
def dramBase : Nat := 0x2000000000
def dramEnd : Nat := 0x4000000000
def rcBase : Nat := 0x380000
def traceBase : Nat := 0x400000

/-! ### Free values -/

/-- Draw a value the spec leaves open. -/
def State.draw (s : State) : BitVec 32 × State := (Config.freeWord s.fresh, { s with fresh := s.fresh + 1 })

/-- A value the spec leaves open where `c` holds, and `v` elsewhere. -/
def State.drawIf (s : State) (c : Bool) (v : BitVec 32) : BitVec 32 × State := if c then s.draw else (v, s)

/-! ### Dies and channels (00_scope.md R1, R6) -/

/-- Ranging die d is fitted. -/
def State.dieFitted (s : State) (d : Nat) : Bool := decide (1 ≤ d ∧ d ≤ s.variant)

/-- Ranging die d is dark (01_architecture.md R25). -/
def State.dieDark (s : State) (d : Nat) : Bool := bit (s.get R.FAB_STATUS.DIES_DARK) d

/-- Ranging die d is fitted and in service. -/
def State.dieUp (s : State) (d : Nat) : Bool := s.dieFitted d && !s.dieDark d

/-- PART_PACE: the lowest PACE_NOW of the dies fitted, not dark, with PACE_VALID; 0 where none qualifies (R18). -/
def State.partPace (s : State) : Nat :=
  let ds := (List.range 8).filter (fun d => (d = 0 || s.dieUp d) && s.flag (R.PACE_STATUS.PACE_VALID d))
  match ds with
  | [] => 0
  | d :: r => r.foldl (fun m k => min m (s.get (R.PACE_STATUS.PACE_NOW k))) (s.get (R.PACE_STATUS.PACE_NOW d))

/-- Part-wide channel n: its die, its local channel, its local group. -/
def chDie (n : Nat) : Nat := n / 192 + 1
def chLocal (n : Nat) : Nat := n % 192
def chGroup (n : Nat) : Nat := n % 192 / 12

/-- Channel n is fitted. -/
def State.chFitted (s : State) (n : Nat) : Bool := decide (n / 192 < s.variant)

/-- The channel's analogue side. -/
def State.chan (s : State) (n : Nat) : Chan := s.chans.get {} n
def State.setChan (s : State) (n : Nat) (c : Chan) : State := { s with chans := s.chans.put {} n c }

/-- The part-wide group number (R6). -/
def partGroup (d g : Nat) : Nat := (d - 1) * 16 + g

/-- The head to which a part-wide group is assigned (05_scan_out.md R135): 0 = A, 1 = B. -/
def State.groupHead (s : State) (pg : Nat) : Option Nat :=
  if bit (s.reg (R.HEAD_GROUPS_A.addr (pg / 32))).toNat (pg % 32) then some 0
  else if bit (s.reg (R.HEAD_GROUPS_B.addr (pg / 32))).toNat (pg % 32) then some 1
  else none

/-! ### Ops, groups, dies -/

def opKey (d slot : Nat) : Nat := 2048 * d + slot
def State.op (s : State) (d slot : Nat) : Option Op := s.ops.get none (opKey d slot)
def State.setOp (s : State) (d slot : Nat) (o : Option Op) : State := { s with ops := s.ops.put none (opKey d slot) o }

def State.group (s : State) (d g : Nat) : Group := s.groups.get {} (16 * d + g)
def State.setGroup (s : State) (d g : Nat) (x : Group) : State := { s with groups := s.groups.put {} (16 * d + g) x }

def State.die (s : State) (d : Nat) : Die := s.dies.get {} d
def State.setDie (s : State) (d : Nat) (x : Die) : State := { s with dies := s.dies.put {} d x }

def frameKey (h f : Nat) : Nat := 2 * f + h
def State.frame (s : State) (h f : Nat) : Option FrameAcc := s.frames.get none (frameKey h f)
def State.setFrame (s : State) (h f : Nat) (x : Option FrameAcc) : State :=
  { s with frames := s.frames.put none (frameKey h f) x }

/-- Change the account of a frame, where it is open. -/
def State.modFrame (s : State) (h f : Nat) (g : FrameAcc → FrameAcc) : State :=
  match s.frame h f with
  | some x => s.setFrame h f (some (g x))
  | none => s

def State.seq (s : State) (n : Nat) : Seq := s.seqs.get {} n
def State.setSeq (s : State) (n : Nat) (x : Seq) : State := { s with seqs := s.seqs.put {} n x }

def State.lane (s : State) (l : Nat) : Lane := s.trk.lanes.get {} l
def State.setLane (s : State) (l : Nat) (x : Lane) : State :=
  { s with trk := { s.trk with lanes := s.trk.lanes.put {} l x } }

def State.stream (s : State) (k : Nat) : Stream := s.trk.streams.get {} k
def State.setStream (s : State) (k : Nat) (x : Stream) : State :=
  { s with trk := { s.trk with streams := s.trk.streams.put {} k x } }

def State.port (s : State) (p : Nat) : Port := s.trk.ports.get {} p
def State.setPort (s : State) (p : Nat) (x : Port) : State :=
  { s with trk := { s.trk with ports := s.trk.ports.put {} p x } }

/-- Word i (0 to 3) of an op's descriptor, field [lo + w - 1 : lo] (03_ranging_operations.md R59). -/
def Op.cell (o : Op) : Nat := bits o.w0 0 19
def Op.chan (o : Op) : Nat := bits o.w0 19 11
def Op.head (o : Op) : Nat := bits o.w0 30 1
def Op.k (o : Op) : Nat := bits o.w1 0 8 + 1
def Op.passes (o : Op) : Nat := bits o.w1 8 5 + 1
def Op.pageCode (o : Op) : Nat := bits o.w1 13 2
def Op.pages (o : Op) : Nat := 2 ^ o.pageCode
def Op.binW (o : Op) : Nat := bits o.w1 15 2
def Op.nsub (o : Op) : Nat := bits o.w1 17 3 + 1
def Op.firCustom (o : Op) : Bool := bit o.w1 24
def Op.tapset (o : Op) : Nat := bits o.w1 25 4
def Op.pref (o : Op) : Nat := bits o.w1 29 2
def Op.pri (o : Op) : Nat := bits o.w2 0 16
def Op.winStart (o : Op) : Nat := bits o.w2 16 13
/-- Bins of the window (2,048 a page), the shift from fine LSB to bins, and the window's length in fine LSB. -/
def Op.bins (o : Op) : Nat := 2048 * o.pages
def Op.shift (o : Op) : Nat := 5 + o.binW
def Op.winLen (o : Op) : Nat := o.bins * 2 ^ o.shift
/-- The prefilter width S. -/
def Op.s (o : Op) : Nat := 2 ^ o.pref

/-- The head's frame counter (05_scan_out.md R122). -/
def State.frameCount (s : State) (h : Nat) : Nat := s.get (R.FRAME_COUNT.value h)

end Sys2Proof.Machine
end

