-- ==== Sys2Proof/Machine/Flags.lean ====
section
/-! DEFINITION. Event lines (06_salrad.md R151, R152), write-one-to-clear bits (00_scope.md R13), and the error queue
(17_startup_faults.md R394 to R398). -/

namespace Sys2Proof.Machine

/-! ### Sequencer states and event lines -/

/-- SQ_STATUS.STATE of sequencer n (R141): 0 EMPTY, 1 STOPPED, 2 RUNNING, 3 WAITING, 4 HALTED, 5 FAULTED. -/
def State.sqState (s : State) (n : Nat) : Nat := s.get (R.SQ_STATUS.STATE n)

/-- Sequencer n is in RUNNING or WAITING. -/
def State.sqLive (s : State) (n : Nat) : Bool := s.sqState n = 2 || s.sqState n = 3

/-- The pending set of a sequencer, 64 bits. -/
def State.pend (s : State) (n : Nat) : Nat :=
  s.get (R.SQ_EV_PEND_LO.PEND_LO n) + 2 ^ 32 * s.get (R.SQ_EV_PEND_HI.PEND_HI n)

/-- Replace the pending set of a sequencer. -/
def State.setPend (s : State) (n : Nat) (v : Nat) : State :=
  (s.put (R.SQ_EV_PEND_LO.PEND_LO n) v).put (R.SQ_EV_PEND_HI.PEND_HI n) (v / 2 ^ 32)

/-- A raise of line k reaches sequencer n (R152): it sets the bit, or merges with a bit already pending. -/
def raiseAt (k n : Nat) (s : State) : State :=
  if s.sqLive n then
    if bit (s.pend n) k then s.bumpSat (R.SQ_EV_MERGED.EV_MERGED n) else s.setPend n (s.pend n ||| 2 ^ k)
  else s

/-- Fold a state change over 0, 1, …, n - 1. -/
def upTo (n : Nat) (f : Nat → State → State) (s : State) : State :=
  match n with
  | 0 => s
  | k + 1 => f k (upTo k f s)

/-- Fold a state change over a list. -/
def forAll {α : Type} (l : List α) (f : α → State → State) (s : State) : State :=
  match l with
  | [] => s
  | x :: r => forAll r f (f x s)

/-- Raise event line k at every sequencer that runs or waits (R152). -/
def raiseEv (k : Nat) (s : State) : State := upTo 8 (raiseAt k) s

/-- The level lines of sequencer m: ev(24 + n) pends again while the CQ of SQn is not empty (R151). -/
def levelAt (m n : Nat) (s : State) : State :=
  if s.sqLive m && !(s.seq n).cq.isEmpty then s.setPend m (s.pend m ||| 2 ^ (24 + n)) else s

/-- Raise the level lines again wherever their condition holds (R151). -/
def levels (s : State) : State := upTo 8 (fun m => upTo 8 (levelAt m)) s

/-! ### The error queue -/

/-- Entries that are open: not acknowledged (R396). -/
def Startup.openErrs (x : Startup) : List ErrEntry := x.errs.filter (fun e => !e.acked)

/-- Enter an error of a class (R394, R395, R397, R398): DETAIL, and the field of the status register that records the
condition. Where it takes the part to its safe state, `wantSafe` is set and the command ends in it. -/
def enterErr (cls detail : Nat) (f : Field) (s : State) : State :=
  let opened := s.su.openErrs
  let esc := opened.any (fun e => e.cls = cls)
  let sev0 := s.get (R.ERR_CLASS_CFG.SEV cls)
  let sev := if esc then min 2 (sev0 + 1) else sev0
  let full := decide (64 ≤ s.su.errs.length)
  let e : ErrEntry :=
    { cls := cls, sev := sev, escalated := esc, depth := opened.length, detail := detail, bit := f.lo, src := f.addr,
      eseq := s.su.eseq % 2 ^ 32, time := s.ns }
  let safe := sev = 2 ∧ (full ∨ opened ≠ [])
  let su := { s.su with errs := if full then s.su.errs else s.su.errs ++ [e], eseq := (s.su.eseq + 1) % 2 ^ 32,
                        wantSafe := s.su.wantSafe || decide safe }
  let s := ({ s with su := su }).bumpSat (R.ERR_COUNT.COUNT cls)
  if full then (s.bumpSat (R.ERR_COUNT.LOST cls)).setFlag R.ERR_STATUS.ERR_FULL
  else raiseEv 12 s

end Sys2Proof.Machine
end

