-- ==== Sys2Proof/Machine/DramOps.lean ====
section
/-! DEFINITION. An access to the external memory (12_stream_memory.md): where an address lands (R305, R310), activations and
the toll (R306, R308), link errors (R301), and accesses that the toll holds (R307, R308). -/

namespace Sys2Proof.Machine

def State.setDram (s : State) (x : Mem) : State := { s with dram := x }

/-! ### Where an address lands (R305, R310) -/

/-- A MiB field's bytes. -/
def mib (n : Nat) : Nat := 2 ^ 20 * n

/-- DRAM in service: its capacity in bytes (R303). -/
def State.dramBytes (s : State) : Nat := 2 ^ 30 * s.get R.MEM_STATUS.CAP_GB

/-- Ports in service; they are DMP0 onward (R301). -/
def State.dramPorts (s : State) : Nat := ((List.range 4).filter (fun p => bit (s.get R.MEM_STATUS.PORTS_USED) p)).length

/-- The bytes of one port, and of one rank of one of its two channels. -/
def State.portBytes (s : State) : Nat := if s.dramPorts = 0 then 0 else s.dramBytes / s.dramPorts
def State.rankBytes (s : State) : Nat := s.portBytes / (2 * max 1 s.dram.ranks)

/-- The base-2 logarithm of the channel count, two channels a port (R305). -/
def State.logChans (s : State) : Nat := if s.dramPorts ≤ 1 then 1 else if s.dramPorts = 2 then 2 else 3

/-- ADDR_ORDER 1: each port holds one contiguous part of the region. -/
def State.portMajor (s : State) : Bool := s.get R.MEM_CFG.ADDR_ORDER = 1

/-- A byte offset within its port, in order 1. -/
def State.portOfs (s : State) (a : Nat) : Nat := if s.portBytes = 0 then 0 else a % s.portBytes

/-- Channel of a byte offset in DRAM: two channels a port, subchannel 0 first. -/
def State.dramChan (s : State) (a : Nat) : Nat :=
  if s.portMajor then 2 * (if s.portBytes = 0 then 0 else a / s.portBytes) + bits a 8 1 else bits a 8 s.logChans

/-- Port of a byte offset. -/
def State.dramPort (s : State) (a : Nat) : Nat := s.dramChan a / 2

/-- Offset within the channel: the channel bits, or the subchannel bit, taken out. -/
def State.chanOfs (s : State) (a : Nat) : Nat :=
  if s.portMajor then s.portOfs a / 512 * 256 + a % 256 else a / 2 ^ (8 + s.logChans) * 256 + a % 256

/-- Rank of a byte offset: the top bit of its channel's span. -/
def State.dramRank (s : State) (a : Nat) : Nat := if s.rankBytes = 0 then 0 else s.chanOfs a / s.rankBytes

/-- Row of a byte offset, with the rank above it, and its bank. -/
def State.dramRow (s : State) (a : Nat) : Nat := s.chanOfs a / 2 ^ 15
def State.dramBank (s : State) (a : Nat) : Nat :=
  let field := bits (s.chanOfs a) 11 4
  if s.flag R.MEM_CFG.BANK_XOR then field ^^^ bits (s.dramRow a) 0 4 ^^^ bits (s.dramRow a) 4 4 else field

/-- The key of the bank an offset falls in: 1,024 × channel + 16 × rank + bank. -/
def State.bankKey (s : State) (a : Nat) : Nat := 1024 * s.dramChan a + 16 * s.dramRank a + s.dramBank a

/-- The eighth of its die in which an offset falls (R310): a die spans a rank of its channel. -/
def State.pasrSegment (s : State) (a : Nat) : Nat := if s.rankBytes = 0 then 0 else s.chanOfs a % s.rankBytes * 8 / s.rankBytes

/-- A byte offset is mapped (R27, R303, R310): DRAM is in service, has it, and its segment is refreshed. -/
def State.dramMapped (s : State) (a : Nat) : Bool :=
  s.flag R.MEM_STATUS.MEM_READY && decide (a < s.dramBytes) &&
    !bit (s.get (R.PASR_MASK.value (s.dramPort a))) (s.pasrSegment a)

/-! ### Zones (R310, R311, R313) -/

/-- A region of DRAM in bytes from the DRAM base: its start and its size. -/
structure Zone where
  lo : Nat
  size : Nat
  deriving DecidableEq, Repr

def Zone.meets (a b : Zone) : Bool :=
  decide (0 < a.size ∧ 0 < b.size ∧ a.lo < b.lo + b.size ∧ b.lo < a.lo + a.size)

/-- The lay-by, the replay ring, the replay index and the capture extension (12_stream_memory.md R311 to R313,
13_capture.md R318). -/
def State.zones (s : State) : List Zone :=
  [⟨mib (s.get R.LAYBY_BASE.value), mib (s.get R.LAYBY_SIZE.value)⟩,
   ⟨mib (s.get R.REPLAY_BASE.value), mib (s.get R.REPLAY_SIZE.value)⟩,
   ⟨mib (s.get R.REPLAY_IDX.REPLAY_IDX_BASE), mib (s.get R.REPLAY_IDX.REPLAY_IDX_SIZE)⟩,
   ⟨mib (s.get R.CAP_DRAM_BASE.value), mib (s.get R.CAP_DRAM_SIZE.value)⟩]

/-- DRAM training is over: how much DRAM is in service is known (17_startup_faults.md R391). -/
def State.trained (s : State) : Bool := decide (5 < s.get R.RST_STATUS.BOOT_STAGE)

/-- Zone k of the configuration reaches beyond the DRAM in service. -/
def State.zoneBeyond (s : State) (k : Nat) : Bool :=
  let z := s.zones.getD k ⟨0, 0⟩
  decide (0 < z.size ∧ s.dramBytes < z.lo + z.size)

/-- Zone k of the configuration overlaps another, or reaches beyond the DRAM in service. The latter is judged once training is
over, when there is DRAM to compare with, and then of every zone (`memoryJudge`; DEDUCED, log 17). -/
def State.zoneBad (s : State) (k : Nat) : Bool :=
  let z := s.zones.getD k ⟨0, 0⟩
  (s.trained && s.zoneBeyond k) || (List.range 4).any (fun j => decide (j ≠ k) && z.meets (s.zones.getD j ⟨0, 0⟩))

/-- The bytes of segment k of port p in each of its ranks, the eighths of whose dies it is (R310). -/
def State.segmentZones (s : State) (p k : Nat) : List Zone :=
  let n := max 1 s.dram.ranks
  let base := if s.portMajor then p * s.portBytes else 0
  let span := (if s.portMajor then s.portBytes else s.dramBytes) / n
  (List.range n).map (fun r => ⟨base + r * span + k * span / 8, span / 8⟩)

/-- A port's mask marks a segment that holds part of the lay-by, the replay ring or the replay index (R310). -/
def State.maskBad (s : State) (p : Nat) : Bool :=
  (List.range 8).any (fun k => bit (s.get (R.PASR_MASK.value p)) k &&
    (s.segmentZones p k).any (fun z => (s.zones.take 3).any z.meets))

/-! ### Activations and the toll (R306, R308) -/

/-- The requester never pays toll (R306). -/
def tollExempt (r : Nat) : Bool := r == 0x10 || r == 0x11 || r == 0x18 || r == 0x19 || r == 0x1A || r == 0x20

/-- A refresh or RFM of a bank: its count starts again, and the bank is precharged (R308). -/
def bankRefresh (key : Nat) (s : State) : State :=
  s.setDram { s.dram with acts := s.dram.acts.erase key, rows := s.dram.rows.erase key }

/-- RFM at TOLL_ACT, and the hold of the requester that reached it (R308). -/
def tollTrigger (r key : Nat) (s : State) : State :=
  let s := bankRefresh key s
  let s := s.setDram { s.dram with rfm := s.dram.rfm.put 0 key (s.dram.rfm.get 0 key + 1) }
  if s.flag R.TOLL_CFG.TOLL_EN && !tollExempt r then
    let s := s.setDram { s.dram with holds := s.dram.holds.insert (65536 * r + key) (s.now + fineNs (s.get R.TOLL_CFG.TOLL_NS)) }
    s.bumpSat (R.REQ_HINT.TOLL_COUNT r)
  else s

/-- A port leaves self-refresh (R309). -/
def selfRefreshExit (p : Nat) (s : State) : State := s.clrFlag (R.PORT_TRAIN.SR_NOW p)

/-- The requester is held from activating a row of the offset's bank (R308). -/
def State.tollHeld (s : State) (r a : Nat) : Bool :=
  decide (s.now < s.dram.holds.get 0 (65536 * r + s.bankKey a)) && decide (s.dram.rows.get 0 (s.bankKey a) ≠ s.dramRow a + 1)

/-- An access opens its row where that is not open, and keeps it open or closes it by the requester's hint; an activation
counts toward the toll (R306, R308). Its port leaves self-refresh (R309). -/
def dramTouch (r a : Nat) (s : State) : State :=
  let p := s.dramPort a
  let key := s.bankKey a
  let row := s.dramRow a + 1
  let s := selfRefreshExit p s
  let s := s.setDram { s.dram with lastAccess := s.dram.lastAccess.insert p s.now }
  let opens := decide (s.dram.rows.get 0 key ≠ row)
  let s := s.setDram { s.dram with rows := s.dram.rows.put 0 key (if s.flag (R.REQ_HINT.HINT r) then 0 else row) }
  if opens then
    let n := s.dram.acts.get 0 key + 1
    let s := s.setDram { s.dram with acts := s.dram.acts.put 0 key n }
    if s.get R.TOLL_CFG.TOLL_ACT ≤ n then tollTrigger r key s else s
  else s

/-! ### Accesses by the part's own engines (R306) -/

/-- An unmapped access (01_architecture.md R27): UNMAPPED, the count, and the address and requester of the first. -/
def unmapped (req a : Nat) (s : State) : State :=
  let first := !s.flag R.FAB_STATUS.UNMAPPED
  let s := (s.setFlag R.FAB_STATUS.UNMAPPED).bumpSat R.FAB_UNMAPPED_COUNT.UNMAPPED_COUNT
  if first then
    ((s.put R.FAB_UNMAPPED_ADDR_LO.UNMAPPED_ADDR_LO a).put R.FAB_UNMAPPED_ADDR_HI.UNMAPPED_ADDR_HI (a / 2 ^ 32)).put
      R.FAB_UNMAPPED_ADDR_HI.UNMAPPED_REQ req
  else s

/-- An access at an offset: it is made, or reported as unmapped. -/
def dramUse (r a : Nat) (s : State) : State := if s.dramMapped a then dramTouch r a s else unmapped r (dramBase + a) s

/-- The 256-byte granules, each in one channel (R305), that n bytes from offset `ofs` of a ring on lie in. -/
def granules (base size ofs n : Nat) : List Nat :=
  if n = 0 ∨ size = 0 then []
  else (List.range ((ofs + n - 1) / 256 - ofs / 256 + 1)).map (fun i => base + (ofs / 256 * 256 + 256 * i) % size)

/-- Accesses to n bytes from offset `ofs` of a ring on. -/
def dramRing (r base size ofs n : Nat) (s : State) : State := forAll (granules base size ofs n) (dramUse r) s

/-- Accesses to n consecutive bytes. -/
def dramSpan (r a n : Nat) (s : State) : State := dramRing r 0 (2 ^ 40) a n s

/-- Write bytes into a ring of DRAM, wrapping at its end. -/
def ringBytes (base size : Nat) (n ofs v : Nat) (s : State) : State :=
  match n with
  | 0 => s
  | n + 1 => ringBytes base size n (ofs + 1) (v / 256) (s.setByte (dramBase + base + ofs % size) (BitVec.ofNat 8 v))

/-- A requester writes bytes into its ring. -/
def ringStore (r base size n ofs v : Nat) (s : State) : State :=
  if size = 0 then s else dramRing r base size ofs n (ringBytes base size n ofs v s)

/-- Bytes read at a part address: 0 where it lies in DRAM that is not mapped (01_architecture.md R27). -/
def State.loadMapped (s : State) (a n : Nat) : Nat := if dramBase ≤ a && !s.dramMapped (a - dramBase) then 0 else s.load a n

/-! ### Single accesses, and those that the toll holds (R301, R307, R308) -/

/-- A link error of an access with LINK_ECC set (R301): corrected, or counted and entered as an error. -/
def linkError (a : Nat) (err : Nat) (s : State) : State :=
  let p := s.dramPort a
  if s.flag R.MEM_CFG.LINK_ECC then
    if err = 1 then s.bumpSat (R.LECC_CORR.CORR p)
    else if err = 2 then enterErr 10 p (R.LECC_UNCORR.UNCORR p) (s.bumpSat (R.LECC_UNCORR.UNCORR p))
    else s
  else s

/-- An access cannot take place yet: the toll holds it, or one of the same requester to the same bank waits before it. -/
def State.dramHeld (s : State) (r a : Nat) : Bool :=
  s.tollHeld r a || s.dram.waiting.any (fun w => w.req == r && s.bankKey w.ofs == s.bankKey a)

/-- A requester has accesses waiting. -/
def State.dramWaits (s : State) (r : Nat) : Bool := s.dram.waiting.any (fun w => w.req == r)

/-- An access to n bytes of a ring cannot take place whole. -/
def State.ringHeld (s : State) (r base size ofs n : Nat) : Bool := (granules base size ofs n).any (s.dramHeld r)

/-- An access to mapped DRAM takes place. -/
def dramDo (w : HeldAccess) (s : State) : State :=
  linkError w.ofs w.err (dramTouch w.req w.ofs (if w.write then s.store (dramBase + w.ofs) w.size w.val else s))

/-- An access to mapped DRAM: it takes place, or waits behind the toll in the order of its requester (R307). -/
def dramAsk (w : HeldAccess) (s : State) : State :=
  if s.dramHeld w.req w.ofs then s.setDram { s.dram with waiting := s.dram.waiting ++ [w] } else dramDo w s

/-- A requester writes n consecutive bytes, a granule after the other; what is not mapped is reported (R27). -/
def dramWrite (fuel r a n v : Nat) (s : State) : State :=
  match fuel with
  | 0 => s
  | k + 1 =>
    if n = 0 then s
    else
      let m := min n (256 - a % 256)
      dramWrite k r (a + m) (n - m) (v / 2 ^ (8 * m))
        (if s.dramMapped a then dramAsk ⟨r, a, m, true, v % 2 ^ (8 * m), 0⟩ s else unmapped r (dramBase + a) s)

/-- A hold ends: what waited for that bank takes place in order, up to an access that a new hold stops. -/
def dramResume (r key : Nat) (s : State) : State :=
  let due := fun (w : HeldAccess) => w.req == r && s.bankKey w.ofs == key
  forAll (s.dram.waiting.filter due) dramAsk (s.setDram { s.dram with waiting := s.dram.waiting.filter (fun w => !due w) })

end Sys2Proof.Machine
end

