-- ==== Sys2Proof/Machine/Egress.lean ====
section
/-! DEFINITION. The egress stage: records into parcels (10_trunk.md R259 to R261), the placement of a closed parcel
(R268), loss episodes and GAP milestones (R269, R270), the replay writer (12_stream_memory.md R312), and milestones
(04_echoes_and_points.md R112, R113, R431). Stream 7 is the CTRL stream of port 1. -/

namespace Sys2Proof.Machine

/-- Payload bytes of a list of records. -/
def recsLen (l : List Rec) : Nat := (l.map Rec.len).sum

/-- Their bytes as one little-endian number. -/
def recsVal : List Rec → Nat
  | [] => 0
  | r :: l => r.val % 2 ^ (8 * r.len) + 2 ^ (8 * r.len) * recsVal l

/-- The stream as a parcel header and the registers number it: both CTRL streams are stream 0, and causeway stream k, held
as stream 16 + k, is stream k (11_twin.md R283). -/
def streamReg (k : Nat) : Nat := if 16 ≤ k then k - 16 else if k = 7 then 0 else k

/-- The link a stream goes to (R265): a port, or 2 for the causeway. -/
def State.streamPort (s : State) (k : Nat) : Nat :=
  if 16 ≤ k then 2 else if k = 0 then 0 else if k = 7 then 1 else s.get (R.STREAM_CFG.STREAM_PORT k)

/-- Lane l is up (R256): LSTATE 3. -/
def State.laneUp (s : State) (l : Nat) : Bool := s.get (R.LANE_STATUS.LSTATE l) = 3

/-- The trunk lanes of a port that are up (R247). -/
def State.portLanes (s : State) (p : Nat) : List Nat :=
  (List.range 12).filter (fun l => s.laneUp l && s.get (R.LANE_CTL.PORT l) = p)

/-- Largest payload a port's partner accepts, in bytes: MAX_BLK blocks of 32, 0 for 256 (R256, R258). -/
def State.maxPayload (s : State) (p : Nat) : Nat :=
  (s.portLanes p).foldl (fun m l => let b := s.get (R.LANE_PARTNER.P_MAX_BLK l)
                                    min m (32 * (if b = 0 then 256 else b))) 8192

/-- Payload bytes of parcels; the one in the room outside every quota counts in none (R270). -/
def Parcel.bytes (p : Parcel) : Nat := if p.outside then 0 else recsLen p.recs
def parcelsLen (l : List Parcel) : Nat := (l.map Parcel.bytes).sum

/-- Bytes of a stream in the egress buffer: parcels waiting, and parcels sent and not acknowledged (R263). -/
def State.egqBytes (s : State) (k : Nat) : Nat :=
  parcelsLen (s.stream k).egress +
  ((List.range 12).map (fun l => parcelsLen (((s.lane l).unacked.map Prod.snd).filter (fun p => p.stream = k)))).sum

/-- Bytes of a stream in the lay-by. -/
def State.laybyBytes (s : State) (k : Nat) : Nat := parcelsLen (s.stream k).layby

/-- A parcel header's first 28 bytes as words 0 to 6 (R259). -/
def parcelWords (p : Parcel) (lseq sseq : Nat) (retx : Bool) : List Nat :=
  [0x50 + 2 ^ 8 * streamReg p.stream + 2 ^ 16 * recsLen p.recs + 2 ^ 30 * b2n retx,
   lseq % 2 ^ 16 + 2 ^ 16 * (if p.key.framed then p.key.head else 0) + 2 ^ 17 * b2n p.key.framed,
   sseq, if p.key.framed then p.key.frame else 0, p.time % 2 ^ 32, p.time / 2 ^ 32, 0]

/-- A whole header of 32 bytes as a number: word 7 is the CRC over bytes 0 to 27 and the payload (R260). -/
def parcelHeader (p : Parcel) (lseq sseq : Nat) (retx : Bool) : Nat :=
  let h := wordsNat (parcelWords p lseq sseq retx)
  h + 2 ^ 224 * crc32c (bytesOf 28 h ++ bytesOf (recsLen p.recs) (recsVal p.recs))

/-- A stored parcel: header with LSEQ and RETX 0, payload, padding to 64 bytes (12_stream_memory.md R311). -/
def storedLen (p : Parcel) : Nat := (32 + recsLen p.recs + 63) / 64 * 64
def storedVal (p : Parcel) (sseq : Nat) : Nat := parcelHeader p 0 sseq false + 2 ^ 256 * recsVal p.recs

/-- What the replay writer's staging buffer holds, in bytes. -/
def State.stagedBytes (s : State) : Nat := (s.dram.staged.map (fun c => c.1.len)).sum

/-- The time until `room` bytes of the staging buffer fill at the rate since its oldest copy closed, less 20 µs, in ns
(R309); where nothing is staged, what was stated last. -/
def State.stagingTolerance (s : State) (room : Nat) : Option Int :=
  match s.dram.staged with
  | [] => s.dram.said
  | c :: _ => some (((room * (s.ns - c.1.time) / max 1 s.stagedBytes : Nat) : Int) - 20000)

/-- The replay writer moves its staged copies into the ring, which overwrites its oldest parcels (R312). It states how
long its buffer, now empty, lasts (R309). -/
def replayFlush (s : State) : State :=
  let base := mib (s.get R.REPLAY_BASE.value)
  let size := mib (s.get R.REPLAY_SIZE.value)
  let s := forAll s.dram.staged (fun c => ringStore 0x1A base size c.1.len c.1.ofs c.2) s
  let ring := s.dram.ring ++ s.dram.staged.map Prod.fst
  let keep := ring.filter (fun c => s.dram.ringWr ≤ c.ofs + size)
  { s with dram := { s.dram with staged := [], ring := keep, said := s.stagingTolerance 1048576 } }

/-- The replay writer copies a closing parcel of a selected stream (R312): into the 1 MiB staging buffer, or not at all
where that is full. -/
def replayCopy (p : Parcel) (sseq : Nat) (s : State) : State :=
  let k := p.stream
  if s.flag R.REPLAY_CFG.REPLAY_EN && s.flag R.MEM_STATUS.MEM_READY && decide (1 ≤ k ∧ k ≤ 6) && bit (s.get R.REPLAY_CFG.REPLAY_STREAMS) (k - 1) then
    let n := storedLen p
    if s.stagedBytes + n ≤ 1048576 then
      let c : ReplayCopy := { stream := k, time := p.time, ofs := s.dram.ringWr, len := n }
      { s with dram := { s.dram with
          staged := s.dram.staged ++ [(c, storedVal p sseq)], ringWr := s.dram.ringWr + n,
          wrapped := s.dram.wrapped ||
            decide (s.dram.ringWr / mib (s.get R.REPLAY_SIZE.value) ≠ (s.dram.ringWr + n) / mib (s.get R.REPLAY_SIZE.value)) } }
    else
      let s := { s with dram := { s.dram with skipped := true } }
      s.bumpSat R.REPLAY_SKIP.SKIP
  else s

/-- Bytes of the lay-by sub-ring of a stream, none while no DRAM is in service, and where it starts (12_stream_memory.md
R303, R311). -/
def State.laybyQuota (s : State) (k : Nat) : Nat :=
  if s.flag R.MEM_STATUS.MEM_READY then mib (s.get (R.LAYBY_QUOTA.value (streamReg k))) else 0
def State.laybyStart (s : State) (k : Nat) : Nat :=
  mib (s.get R.LAYBY_BASE.value) + ((List.range (streamReg k)).map (fun j => mib (s.get (R.LAYBY_QUOTA.value j)))).sum

/-- The egress quota of a stream; its low 13 bits are ignored (R276). -/
def State.egqQuota (s : State) (k : Nat) : Nat := 8192 * (s.get (R.EGQ_QUOTA.value (streamReg k)) / 8192)

/-- A loss episode has lasted GAP_SPLIT ms, 0 acting as 1 (R269). -/
def State.lossExpired (s : State) (l : Loss) : Bool :=
  decide (l.first + 1000000 * max 1 (s.get R.TRK_GAP_SPLIT.GAP_SPLIT) ≤ s.ns)

/-- Add a dropped parcel to a loss episode. -/
def lossAdd (old : Option Loss) (now len records : Nat) : Loss :=
  match old with
  | some l => { l with last := now, parcels := l.parcels + 1, records := l.records + records, bytes := l.bytes + len }
  | none => { first := now, last := now, parcels := 1, records := records, bytes := len }

/-- Where a closing parcel goes (R268): 0 egress, 1 lay-by, 2 dropped. REPLAY and the parcel in the room outside every quota
never drop (R270); where the lay-by holds parcels of the stream they go behind those. -/
def State.placement (s : State) (k len : Nat) (room : Bool) : Nat :=
  let free := (s.stream k).layby.isEmpty
  let never := room || decide (k = 6)
  if free ∧ (room ∨ s.egqBytes k + len ≤ s.egqQuota k) then 0
  else if s.flag (R.STREAM_CFG.SPILL_EN (streamReg k)) ∧ s.laybyBytes k + len ≤ s.laybyQuota k then 1
  else if never then (if free then 0 else 1) else 2

/-- Close the parcel being filled on stream k: copy it for replay, place it, give it its SSEQ where it is kept (R266),
begin, extend or end a loss episode (R269). The episode that ended is returned, for its GAP milestone. -/
def closeCore (k : Nat) (s : State) : State × Option Loss :=
  let st := s.stream k
  match st.open_ with
  | none => (s, none)
  | some o =>
    let len := recsLen o.recs
    let p : Parcel := { stream := k, sseq := st.sseq, key := o.key, time := s.ns, recs := o.recs, outside := o.room }
    let place := s.placement k len o.room
    let s := replayCopy p (if place = 2 then 0xFFFFFFFF else st.sseq) s
    if place = 2 then
      let ended := match st.loss with | some l => if s.lossExpired l then some l else none | none => none
      let old := if ended.isSome then none else st.loss
      let s := s.setStream k { st with open_ := none, loss := some (lossAdd old s.ns len o.recs.length) }
      (if o.key.framed then s.modFrame o.key.head o.key.frame (fun a => { a with lost := true }) else s, ended)
    else
      let st' := { st with open_ := none, loss := none, sseq := (st.sseq + 1) % 2 ^ 32 }
      if place = 0 then (s.setStream k { st' with egress := st.egress ++ [p] }, st.loss)
      else
        if o.room then (s.setStream k { st' with layby := st.layby ++ [p] }, st.loss)
        else
          let s := ringStore 0x18 (s.laybyStart k) (s.laybyQuota k) (storedLen p) st.laybyWr (storedVal p st.sseq) s
          (s.setStream k { st' with layby := st.layby ++ [p], laybyWr := st.laybyWr + storedLen p }, st.loss)

/-- A milestone record of 48 bytes (R112): type, HEAD, FRAME, device time in ns, payload P0 to P7. The first since
start-up carries CFG_DEFAULTED. -/
def msRec (s : State) (type head frame time : Nat) (p : List Nat) : Rec :=
  { len := 48
    val := wordsNat ([type + 2 ^ 8 * head + 2 ^ 9 * b2n (s.flag R.RST_STATUS.STARTUP_DONE && !s.trk.firstMs && s.trk.cfgDefaulted), frame,
      time % 2 ^ 32, time / 2 ^ 32 % 2 ^ 32] ++ p) }

/-- A GAP milestone's record for an ended episode of stream k (R113, R269). -/
def gapRec (k : Nat) (l : Loss) (s : State) : Rec :=
  msRec s 0x05 0 (s.frameCount 0) s.ns
    [streamReg k, if k = 5 ∨ k = 6 then 0 else l.records, l.bytes % 2 ^ 32, l.bytes / 2 ^ 32 % 2 ^ 32,
     l.first % 2 ^ 32, l.first / 2 ^ 32 % 2 ^ 32, l.last % 2 ^ 32, l.last / 2 ^ 32 % 2 ^ 32]

/-- The registers an ended episode writes, and ev18 (R269, R151). -/
def gapMarks (k : Nat) (l : Loss) (s : State) : State :=
  raiseEv 18 ((s.setFlag R.TRK_STATUS.GAP_SEEN).addSat (R.LOST_PARCELS.LOST (streamReg k)) l.parcels)

/-- A record enters the parcel being filled on stream k, or begins one. -/
def pushRec (k : Nat) (key : ParcelKey) (r : Rec) (s : State) : State :=
  let st := s.stream k
  match st.open_ with
  | some o => s.setStream k { st with open_ := some { o with recs := o.recs ++ [r] } }
  | none => s.setStream k { st with open_ := some { key := key, since := s.now, recs := [r] } }

/-- The next record does not fit the parcel being filled, or belongs to another frame or head (R261). -/
def State.mustClose (s : State) (k : Nat) (key : ParcelKey) (r : Rec) : Bool :=
  match (s.stream k).open_ with
  | none => false
  | some o => decide (o.key ≠ key) || decide (s.maxPayload (s.streamPort k) < recsLen o.recs + r.len)

/-- A standby sends no milestones but those of TWIN and GUARD (11_twin.md R289). -/
def State.msMuted (s : State) (type : Nat) : Bool := decide (s.get R.TW_STATUS.TW_STATE = 3 ∧ type ≠ 6 ∧ type ≠ 7)

/-- The hub's room for one milestone parcel outside every quota is free (R270): no parcel in it waits to be sent or
acknowledged. -/
def State.roomFree (s : State) : Bool :=
  !((s.stream 1).egress ++ (s.stream 1).layby ++
    (List.range 12).flatMap (fun l => ((s.lane l).unacked.map Prod.snd).filter (fun p => decide (p.stream = 1)))).any (·.outside)

/-- The GAP milestone of an ended episode of MILESTONE itself is the first record of a parcel in the room outside every quota
(R270). Where the room is still taken, it begins a parcel as any other (DESIGN CHOICE, log 116). -/
def openGap (l : Loss) (s : State) : State :=
  gapMarks 1 l (if s.msMuted 0x05 then s else s.setStream 1 { s.stream 1 with
    open_ := some { key := {}, since := s.now, recs := [gapRec 1 l s], room := s.roomFree } })

/-- Close the milestone stream's parcel; an episode that this ends has its GAP milestone. -/
def closeMs (s : State) : State :=
  match closeCore 1 s with
  | (s, none) => s
  | (s, some l) => openGap l s

/-- Room for the next milestone in the parcel being filled. -/
def fitMs (r : Rec) (s : State) : State := if s.mustClose 1 {} r then closeMs s else s

/-- A milestone enters stream 1. A parcel that a GAP milestone has begun just now may be full with it. -/
def pushMs (r : Rec) (s : State) : State :=
  if (s.stream 1).closed then s
  else
    let s := pushRec 1 {} r (fitMs r (fitMs r s))
    { s with trk := { s.trk with firstMs := s.trk.firstMs || s.flag R.RST_STATUS.STARTUP_DONE } }

/-- Emit a milestone with the given HEAD and FRAME, of the event at a given instant in ns (R112, R113). -/
def milestoneAt (type head frame time : Nat) (p : List Nat) (s : State) : State :=
  if s.msMuted type then s else pushMs (msRec s type head frame time p) s

/-- The same at the present instant. -/
def milestone (type head frame : Nat) (p : List Nat) (s : State) : State := milestoneAt type head frame s.ns p s

/-- A milestone that concerns no head: HEAD 0 and head A's frame counter (R431). -/
def milestone0 (type : Nat) (p : List Nat) (s : State) : State := milestone type 0 (s.frameCount 0) p s

/-- A milestone of a head with that head's frame counter now (R431). -/
def milestoneH (type head : Nat) (p : List Nat) (s : State) : State := milestone type head (s.frameCount head) p s

/-- The GAP milestone of an ended episode of a stream other than MILESTONE; a standby sends none (11_twin.md R289). -/
def emitGap (k : Nat) (l : Loss) (s : State) : State :=
  gapMarks k l (if s.msMuted 0x05 then s else pushMs (gapRec k l s) s)

/-- A capture read-out ends when its last parcel has closed (13_capture.md R329). -/
def readoutEnd (k : Nat) (s : State) : State :=
  if k = 5 ∧ s.get R.CAP_STATUS.CAP_STATE = 4 then s.put R.CAP_STATUS.CAP_STATE 3 else s

/-- Close the parcel being filled on a stream. -/
def closeParcel (k : Nat) (s : State) : State :=
  if k = 1 then closeMs s
  else match closeCore k s with
    | (s, none) => readoutEnd k s
    | (s, some l) => emitGap k l (readoutEnd k s)

/-- A record enters a stream (R261, R266). -/
def pushStream (k : Nat) (key : ParcelKey) (r : Rec) (s : State) : State :=
  if (s.stream k).closed then s
  else pushRec k key r (if s.mustClose k key r then closeParcel k s else s)

/-- Two 32-bit words of a number. -/
def lo32 (n : Nat) : Nat := n % 2 ^ 32
def hi32 (n : Nat) : Nat := n / 2 ^ 32 % 2 ^ 32

end Sys2Proof.Machine
end

