-- ==== Sys2Proof/Machine/Access.lean ====
section
/-! DEFINITION. Named reads and writes of the parts' records: heads, drive, motion, twin, capture, housekeeping and
thermal records, and the figures that several chapters use. -/

namespace Sys2Proof.Machine

def State.head (s : State) (h : Nat) : Head := s.heads.get {} h
def State.setHead (s : State) (h : Nat) (x : Head) : State := { s with heads := s.heads.put {} h x }
def State.modHead (s : State) (h : Nat) (f : Head → Head) : State := s.setHead h (f (s.head h))

def State.drv (s : State) (h : Nat) : DriveHead := s.drive.heads.get {} h
def State.setDrv (s : State) (h : Nat) (x : DriveHead) : State :=
  { s with drive := { s.drive with heads := s.drive.heads.put {} h x } }

/-- Bank b of head h (07_emitter_drive.md). -/
def State.bank (s : State) (h b : Nat) : Bank := s.drive.banks.get {} (32 * h + b)
def State.setBank (s : State) (h b : Nat) (x : Bank) : State :=
  { s with drive := { s.drive with banks := s.drive.banks.put {} (32 * h + b) x } }
def State.modBank (s : State) (h b : Nat) (f : Bank → Bank) : State := s.setBank h b (f (s.bank h b))

/-- Change every bank of a head. -/
def modBanks (h : Nat) (f : Nat → Bank → Bank) (s : State) : State := upTo 32 (fun b s => s.modBank h b (f b)) s

def State.loop (s : State) (n : Nat) : Loop := s.motion.loops.get {} n
def State.setLoop (s : State) (n : Nat) (x : Loop) : State :=
  { s with motion := { s.motion with loops := s.motion.loops.put {} n x } }
def State.enc (s : State) (m : Nat) : Enc := s.motion.encs.get {} m
def State.setEnc (s : State) (m : Nat) (x : Enc) : State :=
  { s with motion := { s.motion with encs := s.motion.encs.put {} m x } }

def State.sport (s : State) (n : Nat) : SensorPort := s.hk.ports.get {} n
def State.setSport (s : State) (n : Nat) (x : SensorPort) : State :=
  { s with hk := { s.hk with ports := s.hk.ports.put {} n x } }

def State.cslot (s : State) (k : Nat) : CapSlot := s.cap.slots.get {} k
def State.setCslot (s : State) (k : Nat) (x : CapSlot) : State :=
  { s with cap := { s.cap with slots := s.cap.slots.put {} k x } }

def State.calDie (s : State) (d : Nat) : CalDie := s.therm.cal.get {} d
def State.setCalDie (s : State) (d : Nat) (x : CalDie) : State :=
  { s with therm := { s.therm with cal := s.therm.cal.put {} d x } }

/-- A head's motion proof (08_emission_guard.md R210). -/
def State.proof (s : State) (h : Nat) : MotionProof := s.guard.motion.get {} h
def State.setProof (s : State) (h : Nat) (x : MotionProof) : State :=
  { s with guard := { s.guard with motion := s.guard.motion.put {} h x } }

/-- The head's RUNNING (05_scan_out.md R137), its drive's DRV_EN and DRV_READY (07_emitter_drive.md R186). -/
def State.running (s : State) (h : Nat) : Bool := s.flag (R.HEAD_STATUS.RUNNING h)
def State.drvEn (s : State) (h : Nat) : Bool := s.flag (R.DRV_CTL.DRV_EN h)
def State.drvReady (s : State) (h : Nat) : Bool := s.flag (R.DRV_STATUS.DRV_READY h)

/-- This unit holds OWN (11_twin.md R280). -/
def State.ownHeld (s : State) : Bool := s.flag R.TW_STATUS.OWN_HELD

/-- TW_STATE: 0 OFF, 1 SEEKING, 2 ALIGNING, 3 STANDBY, 4 ACTIVE, 5 REFUSED (11_twin.md R299). -/
def State.twState (s : State) : Nat := s.get R.TW_STATUS.TW_STATE

/-- The unit shadows an active partner: STANDBY. -/
def State.standby (s : State) : Bool := s.twState = 3

/-- The unit is aligned to, or shadows, an active partner: ALIGNING or STANDBY (11_twin.md R286, R295). -/
def State.follower (s : State) : Bool := decide (s.twState = 2 ∨ s.twState = 3)

/-- TWIN_EN in force (R299). -/
def State.twinEn (s : State) : Bool := s.flag R.TW_CTL.TWIN_EN

/-- An identity has been received within the last 2 ms (R299 P_VALID). -/
def State.partnerValid (s : State) : Bool := s.twin.partner.isSome && decide (s.now ≤ s.twin.identAt + fineMs 2)

/-- The partner has failed: both paths are lost (R284). -/
def State.partnerFailed (s : State) : Bool :=
  s.twin.heard && !s.flag R.TW_STATUS.PATH_A_OK && !s.flag R.TW_STATUS.PATH_B_OK

/-- Beats of a path that have fallen due unreceived since the last one, at 2 µs, with 1 µs of tolerance for one that is
coming; none before the first (R284, log 81). -/
def State.missedSince (s : State) (last : Option Nat) : Nat :=
  match last with
  | some l => (s.now - l - fineUs 1) / fineUs 2
  | none => 0

/-- The part is in its safe state (17_startup_faults.md R399). -/
def State.safe (s : State) : Bool := s.flag R.RST_STATUS.SAFE

/-- The two heads are locked (05_scan_out.md R136). -/
def State.headLock (s : State) : Bool := s.flag R.SO_CFG.HEAD_LOCK

/-- The head whose format, SYNC fields and latch point govern head h (R136). -/
def State.master (s : State) (h : Nat) : Nat := if s.headLock then 0 else h

/-- The part-wide groups of a head, ascending (R119, R135). -/
def State.headGroups (s : State) (h : Nat) : List Nat :=
  (List.range 112).filter (fun g => s.groupHead g = some h)

/-- Position of a number in a list. -/
def listIndex (l : List Nat) (x : Nat) : Option Nat :=
  match l with
  | [] => none
  | y :: r => if y = x then some 0 else (listIndex r x).map (· + 1)

/-- One scan format (R118): frame period in 1/9 ns, channels per head, interleave, columns, lines, column period in ns,
whether it can be locked to SYNC. -/
structure ScanFormat where
  tf9 : Nat
  chans : Nat
  inter : Nat
  cols : Nat
  lines : Nat
  pcol : Nat
  sync : Bool
  deriving DecidableEq, Repr

/-- The scan formats of R118; none for 0 and the reserved numbers. The frame period is 9 × 10^9 ÷ frame rate. -/
def scanFormat (n : Nat) : Option ScanFormat :=
  match n with
  | 1 => some ⟨360000000, 672, 2, 192, 4, 37500, true⟩
  | 2 => some ⟨300300000, 672, 2, 192, 4, 31281, true⟩
  | 3 => some ⟨300000000, 672, 2, 192, 4, 31250, true⟩
  | 4 => some ⟨180000000, 672, 2, 192, 2, 31250, true⟩
  | 5 => some ⟨150150000, 672, 2, 192, 2, 26067, true⟩
  | 6 => some ⟨150000000, 672, 2, 192, 2, 26041, true⟩
  | 7 => some ⟨150000000, 672, 1, 96, 4, 31250, true⟩
  | 8 => some ⟨180000000, 288, 2, 384, 4, 9375, true⟩
  | 9 => some ⟨300000000, 288, 4, 192, 4, 31250, true⟩
  | 10 => some ⟨360000000, 192, 4, 320, 8, 12500, true⟩
  | 11 => some ⟨150150000, 192, 2, 640, 2, 7820, true⟩
  | 12 => some ⟨900000000, 672, 4, 96, 8, 104166, false⟩
  | 13 => some ⟨450000000, 672, 2, 192, 4, 46875, false⟩
  | 14 => some ⟨225000000, 672, 2, 192, 2, 39062, false⟩
  | 15 => some ⟨75000000, 672, 1, 96, 2, 26041, false⟩
  | 16 => some ⟨75000000, 96, 1, 1024, 2, 2441, false⟩
  | _ => none

/-- The line period T_L and the line flyback B in 1/9 ns (R116). -/
def ScanFormat.tl9 (f : ScanFormat) : Nat := f.tf9 / (f.lines + 1)
def ScanFormat.b9 (f : ScanFormat) : Nat := f.tl9 / 10
def ScanFormat.rows (f : ScanFormat) : Nat := f.chans * f.inter

/-- The format in force on a head (R139 FORMAT_NOW). -/
def State.fmt (s : State) (h : Nat) : Option ScanFormat := scanFormat (s.get (R.HEAD_STATUS.FORMAT_NOW h))

/-- An instant in 1/9 ns as fine LSB, and as whole ns rounded down (R117). -/
def fine9 (x : Nat) : Nat := 128 * (x / 9)
def ns9 (x : Nat) : Nat := x / 9

/-- The command's instant has come, in ninths of a ns, rounded down to a whole ns (R117). -/
def State.due9 (s : State) (x : Nat) : Bool := decide (fine9 x ≤ s.now)

/-- The bank that fires a channel of a head (R119); none for a group on another head or a head without a format. -/
def State.chanBank (s : State) (h ch : Nat) : Option Nat :=
  match s.fmt h, listIndex (s.headGroups h) (ch / 192 * 16 + ch % 192 / 12) with
  | some f, some i => some ((12 * i + ch % 12) * 32 / f.chans)
  | _, _ => none

/-- Every slot an op holds: its die and slot. -/
def State.opKeys (s : State) : List (Nat × Nat) :=
  s.ops.filterMap (fun p => p.2.map fun _ => (p.1 / 2048, p.1 % 2048))

/-- TW_TOFS in fine LSB: the partner's device time less this unit's (11_twin.md R285). -/
def State.tofsFine (s : State) : Int :=
  sgn 64 (s.get R.TW_TOFS_LO.TOFS_LO + 2 ^ 32 * s.get R.TW_TOFS_HI.TOFS_HI) * 128 + s.get R.TW_TOFS_FRAC.TOFS_FRAC

/-- A partner's instant in ns mapped into this unit's device time (R285). -/
def State.mapNs (s : State) (t : Nat) : Nat := (((t : Int) * 128 - s.tofsFine) / 128).toNat

/-- The causeway lanes that are up, by lane index 12 to 15. -/
def State.cwyLanes (s : State) : List Nat := [12, 13, 14, 15].filter (fun l => s.laneUp l)

/-- TWIN milestone P1 (11_twin.md R298). -/
def State.unitState (s : State) : Nat :=
  s.twState + 2 ^ 3 * s.get R.TW_STATUS.UNIT + 2 ^ 4 * s.get R.TW_STATUS.OWN_HELD + 2 ^ 5 * s.get R.TW_STATUS.PATH_A_OK
    + 2 ^ 6 * s.get R.TW_STATUS.PATH_B_OK + 2 ^ 7 * s.get R.TW_STATUS.PARTNER_NRST_STUCK

/-- A TWIN milestone with event code and further payload from P2 on; ev16 (R298, 06_salrad.md R151). -/
def twinMs (event : Nat) (more : List Nat) (s : State) : State :=
  raiseEv 16 (milestone0 0x06 (event :: s.unitState :: more) s)

end Sys2Proof.Machine
end

