-- ==== Sys2Proof/Machine/Causeway.lean ====
section
/-! DEFINITION. What a unit sends on the causeway (11_twin.md R283, R286, R295): items in the order in which they arise,
each cut into parcels of its stream, held as stream 16 + k. R283 names what an item contains and not its bytes: the layouts
here, one or more parcels to an item, are the model's (DESIGN CHOICE, log 115). -/

namespace Sys2Proof.Machine

def within (a lo n : Nat) : Bool := decide (lo ≤ a ∧ a < lo + n)

/-! ### Parcels of the link (R283) -/

/-- Largest payload the partner accepts on the causeway, in bytes. -/
def State.cwyMax (s : State) : Nat :=
  s.cwyLanes.foldl (fun m l => let b := s.get (R.LANE_PARTNER.P_MAX_BLK l)
                               min m (32 * (if b = 0 then 256 else b))) 8192

/-- An item of 32-bit words. -/
def wordsRec (l : List Nat) : Rec := ⟨4 * l.length, wordsNat l⟩

/-- An item cut into pieces of at most `top` bytes. -/
def cutItem (fuel top : Nat) (r : Rec) : List Rec :=
  match fuel with
  | 0 => [r]
  | n + 1 => if r.len ≤ top then [r] else ⟨top, r.val % 2 ^ (8 * top)⟩ :: cutItem n top ⟨r.len - top, r.val / 2 ^ (8 * top)⟩

/-- A parcel enters causeway stream k. -/
def cwyParcel (k : Nat) (r : Rec) (s : State) : State :=
  let st := s.stream (16 + k)
  let p : Parcel := { stream := 16 + k, sseq := st.sseq, key := {}, time := s.ns, recs := [r] }
  s.setStream (16 + k) { st with egress := st.egress ++ [p], sseq := (st.sseq + 1) % 2 ^ 32 }

/-- An item goes on causeway stream k; without a lane up there is no link to take it. -/
def cwySend (k : Nat) (r : Rec) (s : State) : State :=
  if s.cwyLanes.isEmpty then s else forAll (cutItem r.len s.cwyMax r) (cwyParcel k) s

/-! ### Identity and guard state (R278, R221, R285) -/

/-- The unit's own identity. -/
def State.identity (s : State) : Identity :=
  { variant := s.variant, unit := s.flag R.TW_STATUS.UNIT,
    fw := s.get R.FW_ID_LO.value + 2 ^ 32 * s.get R.FW_ID_HI.value,
    cfg := s.get R.CFG_ID_LO.value + 2 ^ 32 * s.get R.CFG_ID_HI.value,
    pair := s.get R.TW_PAIR_ID_LO.PAIR_ID_LO + 2 ^ 32 * s.get R.TW_PAIR_ID_HI.PAIR_ID_HI,
    family := s.get R.CODE_PLAN.CODE_FAMILY, seed := s.get R.VENUE_SEED.value }

/-- An identity as eight words. -/
def identityWords (p : Identity) : List Nat :=
  [p.variant + 2 ^ 8 * b2n p.unit + 2 ^ 16 * p.family, p.seed, lo32 p.fw, hi32 p.fw, lo32 p.cfg, hi32 p.cfg, lo32 p.pair, hi32 p.pair]

/-- The identity that eight words hold. -/
def identityOf (w : Nat → Nat) : Identity :=
  { variant := bits (w 0) 0 8, unit := bit (w 0) 8, family := bits (w 0) 16 16, seed := w 1, fw := w 2 + 2 ^ 32 * w 3,
    cfg := w 4 + 2 ^ 32 * w 5, pair := w 6 + 2 ^ 32 * w 7 }

/-- The guard's report: FAULT, nRST stuck, and the levels it reads at its inputs. -/
def State.guardReport (s : State) : Nat :=
  b2n (s.get R.GUARD_STATUS.STATE = 4) + 2 * b2n (s.flag R.RST_STATUS.NRST_STUCK)
    + 2 ^ 8 * ((List.range 4).map (fun n => let g := s.guard.gin.get {} n; 4 ^ n * (b2n g.a + 2 * b2n g.b))).sum

/-- Stream 4: the guard's report with the path B stamps taken since the last one: instants of this unit's sends and of
the partner's beats seen, fine LSB. -/
def guardItem (s : State) : State :=
  let x := s.twin
  let stamps := fun (l : List Nat) => l.flatMap (fun t => [lo32 t, hi32 t])
  let s := { s with twin := { x with guardSent := some (s.guardReport, s.now) } }
  cwySend 4 (wordsRec ([s.guardReport, x.hbSent.length + 2 ^ 16 * x.hbSeen.length] ++ stamps x.hbSent ++ stamps x.hbSeen)) s

/-- The identity goes out every 1 ms, the guard state every 1 ms and where it has changed. -/
def unitItems (s : State) : State :=
  let x := s.twin
  let old := fun (t : Option Nat) => match t with | some t => decide (t + fineMs 1 ≤ s.now) | none => true
  let s := if s.twinEn && old x.identSent then
      cwySend 1 (wordsRec (identityWords s.identity)) { s with twin := { s.twin with identSent := some s.now } } else s
  let news := match x.guardSent with | some g => decide (g.1 ≠ s.guardReport ∨ g.2 + fineMs 1 ≤ s.now) | none => true
  if s.twinEn && news then guardItem s else s

/-! ### The shadow schedule (R283, R287) -/

/-- The active tells its partner of the schedule: from the start of a copy on, so that the standby misses no decision once
it has entered STANDBY. -/
def State.shadowing (s : State) : Bool :=
  decide (s.twState = 4) && (s.twin.copying || decide (s.get R.TW_PARTNER.P_STATE = 3))

/-- A decision on a scan cell: its outcome is 0 for issued, or 1 + the reason of the decline. -/
def noticeDecision (o : Op) (lenses : List Nat) (outcome : Nat) (s : State) : State :=
  if s.shadowing && o.probe.isNone && o.ref.isNone then
    cwySend 2 (wordsRec ([2 ^ 8 * outcome + 2 ^ 16 * lenses.length, o.w0, o.w1, o.w2, lo32 o.v0, hi32 o.v0,
      o.frond + 2 ^ 16 * o.frondGen] ++ lenses)) s
  else s

/-- The pulses of a scan op below `upto` are accounted for; those listed were not fired (R72, R121, R186, R203). -/
def noticePulses (o : Op) (upto : Nat) (notFired : List Nat) (s : State) : State :=
  if s.shadowing && o.probe.isNone && o.ref.isNone then
    cwySend 2 (wordsRec ([1 + 2 ^ 8 * o.head + 2 ^ 16 * notFired.length, o.cell, upto] ++ notFired)) s
  else s

/-- The records of a scan op entered egress, with the SSEQ_NEXT of POINTS_A, POINTS_B and MILESTONE. -/
def noticeEgress (o : Op) (records : Nat) (s : State) : State :=
  if s.shadowing && o.probe.isNone && o.ref.isNone then
    cwySend 2 (wordsRec [2 + 2 ^ 8 * o.head, o.cell, records, (s.stream 2).sseq, (s.stream 3).sseq, (s.stream 1).sseq]) s
  else s

/-! ### Forwarded writes (R286, R295) -/

/-- Register windows that the two units share (R286): base and size. -/
def sharedWindows : List (Nat × Nat) :=
  [(0x1010, 0x14), (0x2000, 0x2000), (0x4000, 0x6000), (0x10000, 0x8000), (0xC000, 0x80), (0xC400, 0x400), (0xE000, 0x880),
   (0xE8D0, 0x1730), (rcBase, 0x20000)]

/-- Addresses whose writes a standby takes from its active alone (R286). -/
def shared (a : Nat) : Bool :=
  sharedWindows.any (fun w => within a w.1 w.2) || within a dataBase 0x400000 || within a frondBase 0x800000

/-- The epoch that carries an address: registers, data memory, frond memory, the lichen map, DRAM (R295). -/
def mirrorEpoch (a : Nat) : Nat :=
  if within a dataBase 0x400000 then 1 + (a - dataBase) / 2 ^ 20
  else if within a frondBase 0x800000 then 5 + (a - frondBase) / 2 ^ 20
  else if within a lichenBase 0x1000000 then 13 + (a - lichenBase) / 2 ^ 20
  else if a < progBase then 0 else 29

/-- The active forwards writes to an address: to a standby, and during a copy once the address's epoch has begun. -/
def State.forwards (s : State) (a : Nat) : Bool :=
  decide (s.twState = 4) &&
    (decide (s.get R.TW_PARTNER.P_STATE = 3) || (s.twin.copying && decide (mirrorEpoch a ≤ s.twin.copyEpoch)))

/-- A write of the active's goes to the standby; its size is 0 for the start of a profile's move (MPROF), named by the
address of its TARGET. -/
def forward (a size v : Nat) (s : State) : State :=
  if s.forwards a then cwySend 3 ⟨12 + size, size + 2 ^ 32 * a + 2 ^ 96 * (v % 2 ^ (8 * size))⟩ s else s

/-- The register at an address has been written by an instruction or by the policy: its word goes to the standby. -/
def forwardReg (a : Nat) (s : State) : State := forward a 4 (s.reg a).toNat s

/-- Bytes from an address on have been stored: they go as writes of at most 32 bytes. -/
def forwardBytes (fuel a n : Nat) (s : State) : State :=
  match fuel with
  | 0 => s
  | k + 1 => if n = 0 then s else forwardBytes k (a + 32) (n - 32) (forward a (min n 32) (s.load a (min n 32)) s)

/-! ### Alignment copies (R295) -/

/-- Bytes of the frond buffer at an address, for frond f of head h, by its header (05_scan_out.md R125, R126): frond 0 covers
the grid of the format written for the head. -/
def State.frondBytes (s : State) (h f a : Nat) : Nat :=
  let w := fun i => s.load (a + 4 * i) 4
  let grid := match scanFormat (s.get (R.HEAD_CTL.FORMAT h)) with | some x => x.rows * x.cols | none => 0
  let body := match bits (w 0) 16 2 with
    | 0 => if f = 0 then grid else (bits (w 1) 16 16 + 1 - bits (w 1) 0 16) * (bits (w 2) 16 16 + 1 - bits (w 2) 0 16)
    | 2 => 8 * min 8192 (bits (w 3) 0 16)
    | _ => 0
  64 + body

/-- The latest commit of each frond of the heads: head, frond, address and generation. -/
def State.commits (s : State) : List (Nat × Nat × FrondRef) :=
  (List.range 8).filterMap (fun k =>
    let x := (s.head (k / 4)).fronds.get {} (k % 4)
    (x.pending.orElse (fun _ => x.taken.orElse (fun _ => x.inForce))).map (fun r => (k / 4, k % 4, r)))

/-- Cut a buffer into pieces of at most 1 MiB. -/
def cutMiB (fuel a n : Nat) : List (Nat × Nat) :=
  match fuel with
  | 0 => []
  | k + 1 => if n = 0 then [] else (a, min n (2 ^ 20)) :: cutMiB k (a + 2 ^ 20) (n - 2 ^ 20)

/-- A piece takes its place by address. -/
def putPiece (p : Nat × Nat) : List (Nat × Nat) → List (Nat × Nat)
  | [] => [p]
  | q :: r => if p.1 < q.1 then p :: q :: r else q :: putPiece p r

/-- The committed frond buffers in DRAM, in ascending order of address. -/
def State.copyPieces (s : State) : List (Nat × Nat) :=
  (s.commits.filter (fun c => decide (dramBase ≤ c.2.2.addr))).foldl (fun l c =>
    let n := s.frondBytes c.1 c.2.1 c.2.2.addr
    (cutMiB (ceilDiv n (2 ^ 20)) c.2.2.addr n).foldl (fun l p => if l.contains p then l else putPiece p l) l) []

/-- The memory an epoch carries, from its base: 1 MiB of data memory, frond memory or the lichen map. -/
def epochBase (n : Nat) : Nat :=
  if n < 5 then dataBase + 2 ^ 20 * (n - 1) else if n < 13 then frondBase + 2 ^ 20 * (n - 5) else lichenBase + 2 ^ 20 * (n - 13)

/-- The word that copies a register: the fields that hold a value, without those that a written 1 acts on. -/
def State.copyWord (s : State) (a : Nat) : Nat :=
  let w := (s.reg a).toNat
  match RegMap.find a with
  | some h => h.def_.fields.foldl (fun v f =>
      if f.cls = .w1c ∨ f.cls = .action then v - bits v f.lo f.w * 2 ^ f.lo else v) w
  | none => w

/-- The registers of R286, by address, HEAD_CTL last: the heads start with everything else in place. -/
def copyRegs : List Nat :=
  let l := (sharedWindows.filter (fun w => decide (w.1 ≠ rcBase))).flatMap (fun w => (List.range (w.2 / 4)).map (w.1 + 4 * ·))
  let heads := [R.HEAD_CTL.addr 0, R.HEAD_CTL.addr 1]
  l.filter (fun a => (RegMap.find a).isSome && !heads.contains a) ++ heads

/-- Epoch 0 (R295): the identity, then address and value of every register under R286, of the words of the repetitive
tables, and of the frond commits in force. -/
def State.epochZero (s : State) : List Nat :=
  let commits := s.commits.flatMap (fun c =>
    [R.FROND_ADDR_LO.addr c.1 c.2.1, lo32 c.2.2.addr, R.FROND_ADDR_HI.addr c.1 c.2.1, hi32 c.2.2.addr,
     R.FROND_GEN_EXP.addr c.1 c.2.1, c.2.2.gen, R.FROND_COMMIT.addr c.1 c.2.1, 1])
  let tables := (List.range 0x8000).flatMap (fun i => [rcBase + 4 * i, s.load (rcBase + 4 * i) 2])
  identityWords s.identity ++ commits ++ tables ++ copyRegs.flatMap (fun a => [a, s.copyWord a])

/-- An epoch begins, read by the causeway's requester where it lies in DRAM: its content is taken as it stands, and forwarding
of writes to it begins. Epochs from 29 on carry a piece of DRAM behind its address; one without content ends the copy
(DESIGN CHOICE, log 115). -/
def copyOpen (n : Nat) (s : State) : State :=
  let x := s.twin
  let rest := if n = 29 then s.copyPieces else x.copyRest.drop 1
  let c : Nat × Nat :=
    if n = 0 then (4 * s.epochZero.length, wordsNat s.epochZero)
    else if n < 29 then (2 ^ 20, s.load (epochBase n) (2 ^ 20))
    else match rest with
      | p :: _ => (8 + p.2, p.1 + 2 ^ 64 * s.load p.1 p.2)
      | [] => (0, 0)
  let s : State := { s with twin := { x with copyEpoch := n, copyLen := c.1, copyBuf := c.2, copyOfs := 0, copyRest := rest } }
  match n, rest with
  | _, [] => s
  | k, p :: _ => if k < 29 then s else dramSpan 0x28 (p.1 - dramBase) p.2 s

/-- ALIGN_GBPS in force: bytes per ns (R299). -/
def State.alignRate (s : State) : Nat := max 1 (min 24 (s.get R.TW_CTL.ALIGN_GBPS))

/-- The next part of a copy enters stream 5, at no more than ALIGN_GBPS: bytes of the epoch, or its trailer with number,
length and CRC-32C. -/
def copyNext (s : State) : State :=
  let x := s.twin
  if !x.copying || x.copyDone || !(s.stream 21).egress.isEmpty || decide (s.now < x.copyFrom) then s
  else if x.copyOfs < x.copyLen then
    let n := min (s.cwyMax - 8) (x.copyLen - x.copyOfs)
    cwyParcel 5 ⟨8 + n, x.copyEpoch + 2 ^ 32 * x.copyOfs + 2 ^ 64 * (x.copyBuf / 2 ^ (8 * x.copyOfs) % 2 ^ (8 * n))⟩
      { s with twin := { x with copyOfs := x.copyOfs + n, copyFrom := s.now + ceilDiv (fineNs n) s.alignRate } }
  else
    let s := cwyParcel 5 (wordsRec [x.copyEpoch + 2 ^ 31, x.copyLen, crc32c (bytesOf x.copyLen x.copyBuf)]) s
    if 29 ≤ x.copyEpoch ∧ x.copyLen = 0 then { s with twin := { s.twin with copyDone := true } } else copyOpen (x.copyEpoch + 1) s

end Sys2Proof.Machine
end

