-- ==== Sys2Proof/Machine/Release.lean ====
section
/-! DEFINITION. The end of an op: the release of its slot and pages (03_ranging_operations.md R63), its abandonment
(R68), a probe's completion-queue entry (06_salrad.md R156, R157), and the end of a head's visits (R67, R137). -/

namespace Sys2Proof.Machine

/-- The op's slot and pages are released: the slot is free at once, the pages wait to be cleared (R63). -/
def releaseOp (d slot : Nat) (s : State) : State :=
  match s.op d slot with
  | none => s
  | some o =>
    let g := chGroup o.chan
    let x := s.group d g
    (s.setOp d slot none).setGroup d g { x with clearing := x.clearing + o.pages }

/-! ### Windows (R73) -/

/-- The op holds an open histogram: it may still take events of its windows. -/
def Op.open_ (o : Op) : Bool := decide (o.st ≠ .reducing) && !o.queued

/-- Instants at which the window of a pulse fired at `f` ns opens and closes, fine LSB. -/
def Op.opens (o : Op) (f : Nat) : Nat := 128 * (f + o.winStart)
def Op.closes (o : Op) (f : Nat) : Nat := o.opens f + o.winLen

/-- The pulse's window covers an instant in fine LSB. -/
def Op.covers (o : Op) (f : Nat) (t : Int) : Bool := decide ((o.opens f : Int) ≤ t ∧ t < (o.closes f : Int))

/-- Ops holding a slot on a channel, by die and slot. -/
def State.chanOps (s : State) (ch : Nat) : List (Nat × Nat × Op) :=
  s.opKeys.filterMap (fun k => match s.op k.1 k.2 with
    | some o => if o.chan = ch then some (k.1, k.2, o) else none
    | none => none)

/-- Windows of a channel open at an instant, fine LSB. -/
def State.windowsOpen (s : State) (ch t : Nat) : Nat :=
  ((s.chanOps ch).map (fun x => if x.2.2.open_ then (x.2.2.fires.filter (fun f => x.2.2.covers f.2 t)).length else 0)).sum

/-- The next window of a channel to open: of the pulses that wait, the one whose window opens first, ops in the order of
their slots at one instant (R73 gives no order there: DESIGN CHOICE, log 109). -/
def State.nextWindow (s : State) (ch : Nat) : Option (Nat × Nat × Op) :=
  let opens := fun (x : Nat × Nat × Op) => match x.2.2.waiting with | f :: _ => x.2.2.opens f.2 | [] => 0
  match (s.chanOps ch).filter (fun x => !x.2.2.waiting.isEmpty) with
  | [] => none
  | x :: r =>
    let m := r.foldl (fun m y => if opens y < opens m then y else m) x
    if opens m ≤ s.now then some m else none

/-- The window of an op's first waiting pulse opens, or is the channel's 65th and stays shut (R73). -/
def openFirst (ch d slot : Nat) (o : Op) (s : State) : State :=
  match o.waiting with
  | [] => s
  | f :: r =>
    if s.windowsOpen ch (o.opens f.2) < 64 then s.setOp d slot (some { o with waiting := r, fires := o.fires ++ [f] })
    else (s.setOp d slot (some { o with waiting := r, unbinned := o.unbinned + 1 })).bump (R.OPS_UNBINNED.UNBINNED d)

/-- Up to n windows of a channel that have come to their opening by now open, in the order of their instants. -/
def takeWaitingN (ch n : Nat) (s : State) : State :=
  match n with
  | 0 => s
  | n + 1 =>
    match s.nextWindow ch with
    | some x => takeWaitingN ch n (openFirst ch x.1 x.2.1 x.2.2 s)
    | none => s

/-- Every window of a channel that has come to its opening by now opens or stays shut (R73). -/
def takeWaiting (ch : Nat) (s : State) : State := takeWaitingN ch (((s.chanOps ch).map (fun x => x.2.2.waiting.length)).sum) s

/-! ### The end of an op -/

/-- A CQ entry of sequencer n: four words (06_salrad.md R157); its level line rises (R151). -/
def cqAdd (n : Nat) (e : Nat × Nat × Nat × Nat) (s : State) : State :=
  let q := s.seq n
  levels (s.setSeq n { q with cq := q.cq ++ [e] })

/-- Words 0 and 1 of a CQ entry. -/
def cqWord0 (tag status reason necho head : Nat) (coarse : Bool) : Nat :=
  tag + 2 ^ 8 * status + 2 ^ 11 * reason + 2 ^ 14 * necho + 2 ^ 17 * head + 2 ^ 18 * b2n coarse
def cqWord1 (cell ch : Nat) : Nat := cell + 2 ^ 19 * ch

/-- A probe's entry is posted and the probe is no longer outstanding; nothing is posted for a probe whose sequencer was
restarted (R156, R160). -/
def cqProbe (p : ProbeInfo) (mk : Nat → Nat × Nat × Nat × Nat) (s : State) : State :=
  match p.tag with
  | none => s
  | some tag =>
    let q := s.seq p.sq
    cqAdd p.sq (mk tag) (s.setSeq p.sq { q with outstanding := q.outstanding.filter (· ≠ tag) })

/-- Abandon an op (R68): counted on its die and in its frame, entered in its sequencer's CQ, released. -/
def abandonOp (d slot : Nat) (s : State) : State :=
  match s.op d slot with
  | none => s
  | some o =>
    let s := takeWaiting o.chan s
    let s := s.bump (R.OPS_ABANDONED.ABANDONED d)
    let s := match o.frame with
      | some f => s.modFrame o.head f (fun a => { a with abandoned := a.abandoned + 1 })
      | none => s
    let s := match o.probe with
      | some p => cqProbe p (fun tag => (cqWord0 tag 1 0 0 o.head false, cqWord1 o.cell o.chan, 0, 0)) s
      | none => s
    let x := s.die d
    let s := s.setDie d { x with corrQueue := x.corrQueue.filter (· ≠ slot), engines := x.engines.filter (· ≠ slot),
                                 handoff := x.handoff.filter (· ≠ slot) }
    releaseOp d slot s

/-- An op that found no slot on a standby is abandoned: counted as any (11_twin.md R287, R293). -/
def abandonMissed (o : Op) (s : State) : State :=
  let s := s.bump (R.OPS_ABANDONED.ABANDONED (chDie o.chan))
  match o.frame with
  | some f => s.modFrame o.head f (fun a => { a with abandoned := a.abandoned + 1 })
  | none => s

/-- An op that may be abandoned: in ISSUED, ACCUMULATING or SETTLING (R68). -/
def Op.withdrawable (o : Op) : Bool := o.st ≠ .reducing

/-- Abandon every op that satisfies a test. -/
def abandonWhere (p : Nat → Op → Bool) (s : State) : State :=
  forAll s.opKeys (fun k s => match s.op k.1 k.2 with
    | some o => if p k.1 o then abandonOp k.1 k.2 s else s
    | none => s) s

/-- The cursor has composed a visit of the line: data that arrive for it now are too late (05_scan_out.md R134). -/
def Head.begun (x : Head) (line : Nat) : Bool :=
  decide (line < x.cLine) || (decide (line = x.cLine) && decide (x.cCol ≠ 0 ∨ x.cHc ≠ 0))

/-- The latency tolerance of scan-out in whole µs (05_scan_out.md R133): the time until the first visit whose frond data
are not yet buffered, less 20 µs. A line is buffered once every frond taking part has arrived. A head that composes no
visits keeps what it stated last (12_stream_memory.md R309). -/
def State.ltr (s : State) (h : Nat) : Nat :=
  let x := s.head h
  match s.running h && !x.stopping, s.fmt h, x.next9 with
  | true, some f, some n =>
    let full := fun l => x.reads.any (fun p => p.line = l && p.mask &&& (15 - p.got) = 0)
    let at9 := fun l => if x.opened ∧ l < x.len then x.open9 + l * f.tl9 else n + (if x.opened then l - x.len else l) * f.tl9
    let t := match (List.range (x.len + f.lines)).find? (fun l => !x.begun l && !full l) with
      | some l => at9 l
      | none => at9 (x.len + f.lines)
    (ns9 t - s.ns) / 1000 - 20
  | _, _, _ => x.said.getD 0

/-- The active part of a taken line has ended: its CAL milestone (15_thermal_calibration.md R361). -/
def calLineEnd (h : Nat) (s : State) : State :=
  match (s.head h).calLine with
  | some (line, _, displaced) =>
    milestoneH 0x08 h [1, line, displaced] (s.modHead h (fun x => { x with calLine := none }))
  | none => s

/-- Composition of a head stops (05_scan_out.md R137): its visits ahead are discarded, its frame takes no further
decision, its scan ops have no further visit (R67), and a line taken for calibration displaces no more cells. -/
def stopVisits (h : Nat) (s : State) : State :=
  let s := calLineEnd h s
  let x := s.head h
  let s := s.setHead h { x with stopping := true, visits := [], reads := [], said := some (s.ltr h) }
  let s := s.modFrame h (s.frameCount h) (fun a => { a with ended := true })
  forAll s.opKeys (fun k s => match s.op k.1 k.2 with
    | some o => if o.head = h ∧ o.probe = none ∧ o.ref = none then s.setOp k.1 k.2 (some { o with noMore := true }) else s
    | none => s) s

/-- The head is stopped: RUNNING clears, no format is in force (R137, R139). -/
def headStopped (h : Nat) (s : State) : State :=
  let s := (((s.clrFlag (R.HEAD_STATUS.RUNNING h)).put (R.HEAD_STATUS.FORMAT_NOW h) 0).put (R.HEAD_STATUS.LINE_NOW h) 0
    |>.clrFlag (R.HEAD_STATUS.IN_FLYBACK h)).put (R.HEAD_STATUS.LOCK_STATE h) 0
  s.modHead h (fun x => { x with next9 := none, opened := false, stopping := false, lines := 0, ends := 0, latched := false,
                                 visits := [], reads := [], syncErrs := [], calLine := none })

/-- A head stops (R137): at once where no frame is open, otherwise when its frame has closed. A locked head B stops with
head A (R136). -/
def stopHead (h : Nat) (s : State) : State :=
  let one := fun k (s : State) =>
    if s.running k && !(s.head k).stopping then
      let s := stopVisits k s
      if (s.head k).opened then s else headStopped k s
    else s
  if s.headLock then (if h = 0 then one 1 (one 0 s) else s) else one h s

end Sys2Proof.Machine
end

