-- ==== Sys2Proof/Machine/GuardOps.lean ====
section
/-! DEFINITION. Permission to emit: OWN (11_twin.md R280, R290) and the guard's states and causes
(08_emission_guard.md R205, R206, R208). Both guard channels act in the same step; their reaction times are timing. -/

namespace Sys2Proof.Machine

/-- Every fire pair takes a line state: driven low while its head may fire, high impedance without OWN (R183, R186). -/
def pairsAll (h : Nat) (l : PairLine) (s : State) : State := modBanks h (fun _ b => { b with line := l }) s

/-- The drive's measurement that a head's exchange leaves without a result frees the interval unit
(02_channels_and_time.md R55). -/
def iuFree (h : Nat) (s : State) : State :=
  match (s.drv h).x with
  | some x => if x.timed.isSome && x.result.isNone && s.flag R.IU_STATUS.IU_OWNER then
      (s.put R.IU_STATUS.IU_STATE 0).clrFlag R.IU_STATUS.IU_OWNER else s
  | none => s

/-- This unit stops driving OWN: the line reads released, fire and PWM pairs go to high impedance, exchanges end (R280). -/
def dropOwn (s : State) : State :=
  let s := s.clrFlag R.TW_STATUS.OWN_HELD
  let s := { s with twin := { s.twin with ownHigh := true, ownSince := s.now, released := false, yielded := false } }
  let s := iuFree 1 (iuFree 0 (pairsAll 0 .off (pairsAll 1 .off s)))
  let s := s.setDrv 0 { s.drv 0 with x := none }
  s.setDrv 1 { s.drv 1 with x := none }

/-- A unit holding OWN releases it (R290): an ACTIVE unit enters SEEKING; after a planned release it does not claim
until the partner has held OWN and released it. -/
def releaseOwn (cause : Nat) (s : State) : State :=
  if s.ownHeld then
    let s := dropOwn s
    let s := if s.twState = 4 then s.put R.TW_STATUS.TW_STATE 1 else s
    let s := if cause = 1 then { s with twin := { s.twin with bar := 2 } } else s
    twinMs 11 [cause] s
  else s

/-- GUARD_STATUS.STATE (R205): 0 START, 1 HOLD, 2 PERMIT, 3 WAIT_RESTART, 4 FAULT. -/
def State.guardState (s : State) : Nat := s.get R.GUARD_STATUS.STATE

/-- Both guard channels permit emission (R203). -/
def State.permitted (s : State) : Bool := s.flag R.GUARD_STATUS.LIM_PERMIT && s.flag R.GUARD_STATUS.PROC_PERMIT

/-- A GUARD milestone: cause, detail, state; HEAD and FRAME as R431. -/
def guardMs (cause detail st : Nat) (s : State) : State :=
  let h := if cause = 4 ∨ cause = 5 then detail % 2 else if cause = 6 ∨ cause = 7 ∨ cause = 8 then detail / 32 % 2 else 0
  milestoneH 0x07 h [cause + 2 ^ 8 * detail, st] s

/-- One channel permits emission and the other does not, timed from its first instant (R217). -/
def markDiffer (s : State) : State :=
  let d := s.flag R.GUARD_STATUS.LIM_PERMIT != s.flag R.GUARD_STATUS.PROC_PERMIT
  { s with guard := { s.guard with differFrom := if d then some (s.guard.differFrom.getD s.now) else none } }

/-- A channel's permission is commanded: its EMEN output follows, and reads back as commanded, where the command changes
(R204). -/
def emenP (p : Bool) (s : State) : State :=
  if s.flag R.GUARD_STATUS.PROC_PERMIT = p then s
  else { (s.putb R.GUARD_STATUS.PROC_PERMIT p).putb R.GUARD_STATUS.EMEN_P_OUT p with guard := { s.guard with readP := true } }
def emenH (p : Bool) (s : State) : State :=
  if s.flag R.GUARD_STATUS.LIM_PERMIT = p then s
  else { (s.putb R.GUARD_STATUS.LIM_PERMIT p).putb R.GUARD_STATUS.EMEN_H_OUT p with guard := { s.guard with readH := true } }

/-- The guard changes state (R205): both channels' permissions and EMEN outputs follow (R204). -/
def guardTo (st cause detail : Nat) (s : State) : State :=
  let p := decide (st = 2)
  let s := markDiffer (emenH p (emenP p (s.put R.GUARD_STATUS.STATE st)))
  raiseEv 15 (guardMs cause detail st s)

/-- A latched cause (R206): recorded, first in GUARD_CAUSE; the guard enters FAULT from any other state, which counts,
enters an error of class GUARD (17_startup_faults.md R395) and releases OWN (11_twin.md R290). -/
def guardLatch (cause detail : Nat) (s : State) : State :=
  let known := s.guard.latched.contains (cause, detail)
  let s := { s with guard := { s.guard with latched := s.guard.latched ++ (if known then [] else [(cause, detail)]) } }
  let s := if s.get R.GUARD_CAUSE.CAUSE = 0 then (s.put R.GUARD_CAUSE.CAUSE cause).put R.GUARD_CAUSE.DETAIL detail else s
  if s.guardState = 4 then s
  else releaseOwn 3 (enterErr 6 detail R.GUARD_CAUSE.CAUSE ((guardTo 4 cause detail s).bumpSat R.GUARD_TRIP_COUNT.TRIPS))

/-- A hold cause arises (R206); in PERMIT the guard enters HOLD. -/
def guardHold (cause detail : Nat) (s : State) : State :=
  let g := s.guard
  let manual := decide (cause = 13 ∨ cause = 14)
  let dem := decide (cause = 1 ∨ cause = 2)
  let fresh := decide (s.guardState = 2)
  let known := g.holds.contains (cause, detail)
  let g := { g with holds := g.holds ++ (if known then [] else [(cause, detail)]), manual := (g.manual && !fresh) || manual,
                    demanded := (if fresh then [] else g.demanded) ++ (if dem then [detail] else []) }
  let s := { s with guard := g }
  if fresh then guardTo 1 cause detail s else s

/-- A hold cause ends; when none remains HOLD ends in PERMIT or in WAIT_RESTART (R208). -/
def guardUnhold (cause detail : Nat) (s : State) : State :=
  let g := s.guard
  let holds := g.holds.filter (· ≠ (cause, detail))
  let s := { s with guard := { g with holds := holds } }
  if s.guardState = 1 ∧ holds = [] then
    let auto := g.demanded.all (fun n => bit (s.get R.GIN_CFG_NOW.AUTO) n)
    guardTo (if auto && !g.manual then 2 else 3) 0 0 s
  else s

end Sys2Proof.Machine
end

