-- ==== Sys2Proof/Machine/Safe.lean ====
section
/-! DEFINITION. The fault of a sequencer (06_salrad.md R172), the safe state (17_startup_faults.md R399, R174), and the
frame of every meaning: the command's instant, its effect, and the entry to the safe state where an error of it calls
for that (R397, R398). -/

namespace Sys2Proof.Machine

/-- A fault stops a sequencer (R172): FAULTED, the cause, an error of class SEQ; SQ_PC stays at the instruction. -/
def seqFault (n cause : Nat) (s : State) : State :=
  let q := s.seq n
  let s := s.setSeq n { q with wait := none }
  let s := ((s.put (R.SQ_STATUS.STATE n) 5).put (R.SQ_STATUS.FAULT_CAUSE n) cause).bumpSat R.SQ_FAULT_COUNT.FAULTS
  enterErr 0 n (R.SQ_STATUS.FAULT_CAUSE n) s

/-- A probe not yet decided is abandoned: its entry is posted. -/
def dropProbe (r : ProbeReq) (s : State) : State :=
  cqProbe r.info (fun tag => (cqWord0 tag 1 0 0 (bits r.w0 30 1) false, cqWord1 (bits r.w0 0 19) (bits r.w0 19 11), 0, 0)) s

/-- Every sequencer that runs or waits stops with cause SAFE_STATE, and its probes are abandoned (R174). -/
def seqsSafe (s : State) : State :=
  let s := upTo 8 (fun n s => if s.sqLive n then seqFault n 6 s else s) s
  let s := upTo 8 (fun n s =>
    let q := s.seq n
    forAll q.probes dropProbe (s.setSeq n { q with probes := [] })) s
  abandonWhere (fun _ o => o.probe.isSome && o.withdrawable) s

/-- Entry to the safe state (R399): SAFE, the guard latches SAFE_STATE, scan-out and the sequencers stop, OWN is released.
What follows after 200 µs is PARK_REQUEST's. -/
def safeEntry (s : State) : State :=
  let s := s.setFlag R.RST_STATUS.SAFE
  let s := { s with su := { s.su with safeAt := some s.now } }
  let s := releaseOwn 4 (stopHead 1 (stopHead 0 s))
  seqsSafe (guardLatch 15 0 s)

/-- The end of a command: where an error of it takes the part to its safe state, the part enters it; a second entry
changes nothing (R399). -/
def settle (s : State) : State :=
  if s.su.wantSafe then
    let s := if s.safe then s else safeEntry s
    { s with su := { s.su with wantSafe := false } }
  else s

/-- The frame of a meaning: device time comes to the command's instant, the effect takes place where the part is out of
reset and powered, and the safe state is entered where the command calls for it. -/
def act (t : Nat) (f : State → State) (s : State) : Host.Outcome State Fault Refusal :=
  let s := s.tick t
  .next (if s.su.power = .running then settle (f s) else s)

/-- The frame of a meaning of the parts that are always powered: the thermal supervisor, the time base and the pins. -/
def actAny (t : Nat) (f : State → State) (s : State) : Host.Outcome State Fault Refusal := .next (settle (f (s.tick t)))

end Sys2Proof.Machine
end

