-- ==== Sys2Proof/Machine/Nv.lean ====
section
/-! DEFINITION. The records of the embedded non-volatile memory (15_thermal_calibration.md R362 to R365): what a record
holds, the choice of its slot, its programming. How a payload packs the corrections is the model's own (log 15). -/

namespace Sys2Proof.Machine

/-- REC_ID (R362). -/
def recId : NvRecord → Nat
  | .poweredHours => 0x0001
  | .comparator d => 0x0010 + d
  | .interpolator d => 0x0020 + d
  | .reference => 0x0040

/-- Pack integers as 16-bit words, and take them back. -/
def pack16 : List Int → Nat
  | [] => 0
  | x :: r => ofInt 16 x + 65536 * pack16 r
def unpack16 (n v : Nat) : List Int :=
  match n with
  | 0 => []
  | n + 1 => sgn 16 (v % 65536) :: unpack16 n (v / 65536)

/-- A comparator's trim in force: OFS_LO, OFS_HI, gain of the low and of the high comparator (R358). -/
def State.trim (s : State) (ch q : Nat) : Int :=
  match q with
  | 0 => s.geti (R.CH_OFS.OFS_LO (chDie ch) (chLocal ch))
  | 1 => s.geti (R.CH_OFS.OFS_HI (chDie ch) (chLocal ch))
  | _ => s.therm.gains.get 0 (4 * ch + q)

/-- Give a trim a value. -/
def setTrim (ch q : Nat) (v : Int) (s : State) : State :=
  match q with
  | 0 => s.puti (R.CH_OFS.OFS_LO (chDie ch) (chLocal ch)) v
  | 1 => s.puti (R.CH_OFS.OFS_HI (chDie ch) (chLocal ch)) v
  | _ => { s with therm := { s.therm with gains := s.therm.gains.put 0 (4 * ch + q) v } }

/-- The payload of a record now: its length and its bytes. -/
def State.nvPayload (s : State) (r : NvRecord) : Nat × Nat :=
  match r with
  | .poweredHours => (4, s.get R.POWERED_HOURS.value)
  | .comparator d => (1536, pack16 ((List.range 768).map (fun i => s.trim (192 * (d - 1) + i / 4) (i % 4))))
  | .interpolator d => (8192, pack16 ((List.range 4096).map (fun i => s.therm.interp.get 0 (4096 * d + i))))
  | .reference => (4, pack16 [s.geti (R.REF_STATUS.REF_OFS 0), s.geti (R.REF_STATUS.REF_OFS 1)])

/-- SEQ x is newer than y: signed 32-bit difference (R363). -/
def seqNewer (x y : Nat) : Bool := before32 y x

/-- The CRC-32C of a slot over words 0 to 2 of its header and its payload (R362). -/
def NvSlot.check (x : NvSlot) : Nat :=
  crc32c (bytesOf 2 x.id ++ [x.fmt, 0] ++ bytesOf 4 x.seq ++ bytesOf 4 x.len ++ bytesOf x.len x.val)

/-- A slot is valid when its FMT_VER is 1 and its CRC matches (R363). -/
def NvSlot.valid (x : NvSlot) : Bool := decide (x.fmt = 1) && decide (x.crc = x.check)

/-- A slot programmed with a payload: FMT_VER 1 and the CRC that makes it valid. -/
def nvSlot (id seq len val : Nat) : NvSlot :=
  let x : NvSlot := { id := id, fmt := 1, seq := seq, len := len, val := val }
  { x with crc := x.check }

/-- The valid slot with the newer SEQ: false for slot A. -/
def NvPair.newer (p : NvPair) : Option Bool :=
  if p.a.valid && p.b.valid then some (seqNewer p.b.seq p.a.seq)
  else if p.a.valid then some false
  else if p.b.valid then some true
  else none

def NvPair.slot (p : NvPair) (b : Bool) : NvSlot := if b then p.b else p.a
def NvPair.setSlot (p : NvPair) (b : Bool) (x : NvSlot) : NvPair := if b then { p with b := x } else { p with a := x }

/-- What a record loads (R363); none where neither slot is valid. -/
def NvPair.load (p : NvPair) : Option Nat := p.newer.map (fun b => (p.slot b).val)

def State.nvPair (s : State) (id : Nat) : NvPair := s.sec.records.get {} id
def State.setNvPair (s : State) (id : Nat) (p : NvPair) : State :=
  { s with sec := { s.sec with records := s.sec.records.put {} id p } }

/-- The slot a record is written to, and its SEQ (R364). -/
def NvPair.next (p : NvPair) : Bool × Nat :=
  match p.newer with
  | some b => (!b, ((p.slot b).seq + 1) % 2 ^ 32)
  | none => (false, 1)

/-- The low-priority arbiter of R361 lets calibration write a record that waits since `at_` (ns): no lichen observation that
waits is older (04_echoes_and_points.md R105). -/
def State.recordTurn (s : State) (at_ : Nat) : Bool :=
  match s.pts.obs with
  | x :: _ => decide (at_ ≤ x.at_)
  | [] => true

/-- Erase and programming of the oldest record that waits begins, where its turn has come; its slot is invalid meanwhile
(R364, R365). -/
def nvBegin (s : State) : State :=
  match s.sec.programming, s.sec.toWrite with
  | none, (r, at_) :: l =>
    if s.recordTurn at_ then
      let p := s.nvPair (recId r)
      let (b, seq) := p.next
      let (len, val) := s.nvPayload r
      let s := s.setNvPair (recId r) (p.setSlot b {})
      { s with sec := { s.sec with programming := some (recId r, b, nvSlot (recId r) seq len val), toWrite := l } }
    else s
  | _, _ => s

/-- A record is to be written (R364); one that waits already is not entered twice. -/
def nvWrite (r : NvRecord) (s : State) : State :=
  if s.sec.toWrite.any (fun x => decide (x.1 = r)) then s
  else nvBegin { s with sec := { s.sec with toWrite := s.sec.toWrite ++ [(r, s.ns)] } }

/-- The program in progress completes: its slot is valid. -/
def nvDone (s : State) : State :=
  match s.sec.programming with
  | none => s
  | some (id, b, x) =>
    let s := s.setNvPair id ((s.nvPair id).setSlot b x)
    nvBegin { s with sec := { s.sec with programming := none } }

/-- Programming stops where it is (R365): the slot stays invalid, unless its page program may end first. -/
def nvCut (finish : Bool) (s : State) : State :=
  let s := match s.sec.programming with
    | some (id, b, x) => if finish then s.setNvPair id ((s.nvPair id).setSlot b x) else s
    | none => s
  { s with sec := { s.sec with programming := none, toWrite := [] } }

/-! ### Meanings -/

/-- NV_RECORD_WRITE (R364): a record of a fitted die, or of the hub. -/
def execNvRecordWrite (t : Nat) (rec : NvRecord) (s : State) : Host.Outcome State Fault Refusal :=
  act t (fun s =>
    match rec with
    | .comparator d => if s.dieFitted d then nvWrite rec s else s
    | .interpolator d => if d = 0 || s.dieFitted d then nvWrite rec s else s
    | _ => nvWrite rec s) s

/-- NV_PROGRAM_DONE (R364). -/
def execNvProgramDone (t : Nat) (s : State) : Host.Outcome State Fault Refusal := act t nvDone s

end Sys2Proof.Machine
end

