-- ==== Sys2Proof/Machine/Lichen.lean ====
section
/-! DEFINITION. The lichen map (04_echoes_and_points.md): its entries, the match test, and the observations of the
maintenance queue. -/

namespace Sys2Proof.Machine

/-! ### The lichen map (R100) -/

/-- The entry of a cell as a 256-bit number, and a write of it; an active's goes to its standby whole (11_twin.md R286). -/
def State.lichen (s : State) (cell : Nat) : Nat := s.load (lichenBase + 32 * cell) 32
def State.setLichen (s : State) (cell e : Nat) : State :=
  forward (lichenBase + 32 * cell) 32 e (s.store (lichenBase + 32 * cell) 32 e)

/-- Replace bits [lo + w - 1 : lo] of a number. -/
def setBits (x lo w v : Nat) : Nat := x - bits x lo w * 2 ^ lo + v % 2 ^ w * 2 ^ lo

/-- Places of the fields of an entry: first bit and width. -/
def L.staticRange : Nat × Nat := (0, 20)
def L.sigma : Nat × Nat := (20, 12)
def L.reflect : Nat × Nat := (32, 12)
def L.sun : Nat × Nat := (44, 12)
def L.moss : Nat × Nat := (64, 24)
def L.retro : Nat × Nat := (88, 1)
def L.screen : Nat × Nat := (89, 1)
def L.unlearnt : Nat × Nat := (90, 1)
def L.pin : Nat × Nat := (91, 1)
def L.prior0 : Nat × Nat := (96, 24)
def L.prior1 : Nat × Nat := (128, 24)
def L.missRun : Nat × Nat := (160, 16)
def L.tChange : Nat × Nat := (192, 64)

def lget (e : Nat) (f : Nat × Nat) : Nat := bits e f.1 f.2
def lset (e : Nat) (f : Nat × Nat) (v : Nat) : Nat := setBits e f.1 f.2 v

/-- A value moved toward another by 1/2^sh of the difference, truncated toward zero (R101, R102). -/
def moveBy (old new sh : Nat) : Nat := ((old : Int) + truncDiv ((new : Int) - old) (2 ^ sh)).toNat

/-! ### The match test (R102) -/

/-- The match test of R102 on an entry: the nearest good echo within the tolerance, by class, range and intensity; at equal
distance the lower echo number. -/
def matchOf (l : List (Nat × Nat × Nat)) (e absTol k : Nat) : Option Nat :=
  let st := lget e L.staticRange
  if lget e L.unlearnt = 1 ∨ st = 0 then none
  else
    let tol := max (absTol * 8) (k * lget e L.sigma)
    let dist := fun (r : Nat) => ((r : Int) - st).natAbs
    (((List.range l.length).zip l).foldl (fun (m : Option (Nat × Nat)) p =>
      let good := decide (p.2.1 = 0 ∨ p.2.1 = 1 ∨ p.2.1 = 3)
      let d := dist p.2.2.1
      if good ∧ d ≤ tol then
        match m with
        | none => some (p.1, d)
        | some (_, b) => if d < b then some (p.1, d) else m
      else m) none).map Prod.fst

/-- A field of a register word held as a number. -/
def Field.of_ (f : Field) (w : Nat) : Nat := bits w f.lo f.w

/-- The match test with the tolerances of a LICHEN_CFG word. -/
def matchCfg (cfg : Nat) (l : List (Nat × Nat × Nat)) (e : Nat) : Option Nat :=
  matchOf l e (R.LICHEN_CFG.MATCH_ABS.of_ cfg) (R.LICHEN_CFG.MATCH_K.of_ cfg)

/-- The match test with the registers' tolerances. -/
def State.matchEntry (s : State) (l : List (Nat × Nat × Nat)) (e : Nat) : Option Nat :=
  matchCfg (s.reg R.LICHEN_CFG.addr).toNat l e

/-! ### Observations (R102, R103, R105) -/

/-- The entry initialised from an op (R102): the farthest good echo, or none. -/
def learnEntry (now : Nat) (l : List (Nat × Nat × Nat)) (e : Nat) : Nat :=
  let good := l.filter (fun x => decide (x.1 = 0 ∨ x.1 = 1 ∨ x.1 = 3))
  let far := good.foldl (fun (m : Nat × Nat) x => if m.1 < x.2.1 then (x.2.1, x.2.2) else m)
    (match good with | x :: _ => (x.2.1, x.2.2) | [] => (0, 0))
  let e := lset (lset (lset e L.staticRange far.1) L.sigma 0) L.reflect far.2
  lset (lset (lset e L.missRun 0) L.unlearnt 0) L.tChange now

/-- The entry after an observation at `now` ns, under a LICHEN_CFG word. -/
def observed (now cfg : Nat) (l : List (Nat × Nat × Nat)) (e : Nat) : Nat :=
  let st := lget e L.staticRange
  let sh := R.LICHEN_CFG.LEARN_SHIFT.of_ cfg
  let miss :=
    let run := min 65535 (lget e L.missRun + 1)
    if R.LICHEN_CFG.RELEARN_N.of_ cfg * 64 ≤ run then learnEntry now l e else lset e L.missRun run
  if lget e L.unlearnt = 1 then learnEntry now l e
  else if st = 0 then
    if l.any (fun x => decide (x.1 = 0 ∨ x.1 = 1 ∨ x.1 = 3)) then miss else lset e L.missRun 0
  else match (matchCfg cfg l e).bind (fun i => l[i]?) with
    | none => miss
    | some x =>
      let dev := min 4095 ((x.2.1 : Int) - st).natAbs
      let e' := lset (lset e L.staticRange (moveBy st x.2.1 sh)) L.sigma (moveBy (lget e L.sigma) dev sh)
      let e' := lset (lset e' L.reflect (moveBy (lget e L.reflect) x.2.2 sh)) L.missRun 0
      let e' := if x.1 = 3 then lset e' L.retro 1 else e'
      if bits e' 0 32 = bits e 0 32 ∧ lget e' L.retro = lget e L.retro then e' else lset e' L.tChange now

/-- An observation updates its cell's entry under the settings of its hand-off (R115); an entry that has been pinned
meanwhile is not changed. -/
def learnObs (x : Obs) (s : State) : State :=
  let e := s.lichen x.cell
  if lget e L.pin = 0 then s.setLichen x.cell (observed s.ns x.cfg x.echoes e) else s

/-- The oldest observation of the maintenance queue is served; a record that waits may have its turn then
(15_thermal_calibration.md R361). A record that waits since before the observation goes first (`nvBegin`). -/
def serveObs (s : State) : State :=
  match s.pts.obs with
  | [] => s
  | x :: r => nvBegin (learnObs x { s with pts := { s.pts with obs := r } })

/-- A queued observation is older than LICHEN_URGENT frame periods of its head (R105); without a format a head has none. -/
def State.obsUrgent (s : State) (x : Obs) : Bool :=
  match s.fmt x.head with
  | some f => decide (s.get R.LICHEN_CFG.LICHEN_URGENT * f.tf9 < 9 * (s.ns - x.at_))
  | none => false

/-- Observations that have become urgent are served, oldest first, before further record building (R105). -/
def serveUrgent (s : State) : State :=
  nvBegin (forAll (s.pts.obs.filter s.obsUrgent) learnObs
    { s with pts := { s.pts with obs := s.pts.obs.filter (fun x => !s.obsUrgent x) } })

end Sys2Proof.Machine
end

