-- ==== Sys2Proof/Machine/Scan.lean ====
section
/-! DEFINITION. Scan-out (05_scan_out.md): commits and the latch point, start of a head, a line's prefetch, the
composition of visits, and locking to SYNC. -/

namespace Sys2Proof.Machine

/-! ### Instants -/

/-- Device time in 1/9 ns, rounded down to a whole ns. -/
def State.now9 (s : State) : Nat := s.ns * 9

/-- FRAME_OPEN of the frame to which a line counted on from this frame belongs, and the line within that frame: lines
from L on, and every line before the first FRAME_OPEN, belong to the frame that opens next. -/
def State.lineOf (s : State) (h line : Nat) : Option (Nat × Nat × Bool) :=
  match s.fmt h with
  | none => none
  | some _ =>
    let x := s.head h
    if x.opened ∧ line < x.len then some (x.open9, line, false)
    else match x.next9 with
      | some o => some (o, if x.opened then line - x.len else line, true)
      | none => none

/-! ### Commits (R131) -/

/-- A 64-byte-aligned address in frond memory or DRAM. -/
def State.frondAddrOk (s : State) (a : Nat) : Bool :=
  decide (a % 64 = 0 ∧ ((frondBase ≤ a ∧ a < lichenBase) ∨ (dramBase ≤ a ∧ a < dramBase + s.dramBytes)))

/-- A buffer in DRAM that is committed goes to the standby as it stands (11_twin.md R286). -/
def forwardFrond (h f a : Nat) (s : State) : State :=
  if dramBase ≤ a ∧ s.forwards a then
    let n := s.frondBytes h f a
    forwardBytes (ceilDiv n 32) a n (dramSpan 0x28 (a - dramBase) n s)
  else s

/-- COMMIT written 1: the staged address and generation are captured for the next latch point, or the commit is refused
with COMMIT_REJ and any pending commit kept. -/
def commitFrond (h f : Nat) (s : State) : State :=
  let a := 64 * s.get (R.FROND_ADDR_LO.ADDR_LO h f) + 2 ^ 32 * s.get (R.FROND_ADDR_HI.ADDR_HI h f)
  if s.frondAddrOk a then
    let x := s.head h
    let c := { x.fronds.get {} f with pending := some { addr := a, gen := s.get (R.FROND_GEN_EXP.GEN_EXP h f) } }
    let s := s.setHead h { x with fronds := x.fronds.put {} f c }
    forwardFrond h f a (s.setFlag (R.FROND_COMMIT.PENDING h f))
  else s.setFlag R.SO_STATUS.COMMIT_REJ

/-- The captured commits of a head are taken. -/
def takeCommits (h : Nat) (s : State) : State :=
  upTo 4 (fun f s =>
    let x := (s.head h).fronds.get {} f
    match x.pending with
    | some r => (s.modHead h (fun y => { y with fronds := y.fronds.put {} f { x with pending := none, taken := some r } })).clrFlag
        (R.FROND_COMMIT.PENDING h f)
    | none => s) s

/-- The commits taken come into use at FRAME_OPEN: GEN_NOW and COMMIT_FRAME. -/
def useCommits (h count : Nat) (s : State) : State :=
  upTo 4 (fun f s =>
    let x := (s.head h).fronds.get {} f
    match x.taken with
    | some r =>
      let s := s.modHead h (fun y => { y with fronds := y.fronds.put {} f { x with taken := none, inForce := some r } })
      (s.put (R.FROND_COMMIT.GEN_NOW h f) r.gen).put (R.COMMIT_FRAME.value h f) count
    | none => s) s

/-! ### The latch point (R131, R136 to R138) -/

/-- Field of region r of head h in the code registers: 8 regions a word, the 64 regions of head B after those of head A
(03_ranging_operations.md R85). -/
def regionField (now : Bool) (h r : Nat) : Field :=
  ⟨(if now then R.REGION_CODE_NOW.addr else R.REGION_CODE.addr) ((64 * h + r) / 8), 4 * (r % 8), 3⟩

/-- Region codes written, and hops, take effect (03_ranging_operations.md R82, R83): a written value applies over a hop,
which is still counted. -/
def latchRegions (h : Nat) (s : State) : State :=
  let s := upTo 64 (fun r s =>
    let key := 64 * h + r
    let hop := s.pts.hops.get 8 key
    let s := if hop < 8 then raiseEv 10 ((s.put (regionField true h r) hop).bumpSat R.HOP_STATUS.HOP_COUNT) else s
    if s.pts.written.contains key then s.put (regionField true h r) (s.get (regionField false h r)) else s) s
  { s with pts := { s.pts with hops := s.pts.hops.filter (fun p => decide (p.1 / 64 ≠ h)),
                               written := s.pts.written.filter (fun k => decide (k / 64 ≠ h)) } }

/-- The drive's class-F fields of a head come into force (07_emitter_drive.md R184, R197). -/
def latchDrive (h : Nat) (s : State) : State :=
  let s := (s.put (R.DRV_STATUS.CHASE_ORDER_NOW h) (s.get (R.DRV_CTL.CHASE_ORDER h))).put
    (R.DRV_STATUS.CHASE_STEP_NOW h) (s.get (R.DRV_CTL.CHASE_STEP h))
  upTo 32 (fun b s => s.put (R.BANK_DRIVE.PW_NOW h b) (s.get (R.BANK_AMP.PW h b))) s

/-- SYNC lock and offset in force; LOCK_STATE follows (R124): a lock that comes into force pulls while SYNC is good and
holds otherwise (DEDUCED, log 12). -/
def latchSync (h : Nat) (s : State) : State :=
  let was := s.flag (R.HEAD_STATUS.SYNC_LOCK_NOW h)
  let s := (s.put (R.HEAD_STATUS.SYNC_LOCK_NOW h) (s.get (R.HEAD_CTL.SYNC_LOCK h))).put
    (R.SYNC_OFS_NOW.SYNC_OFFSET_NOW h) (s.get (R.SYNC_OFS.SYNC_OFFSET h))
  let can := match s.fmt h with | some f => f.sync | none => false
  if s.flag (R.HEAD_STATUS.SYNC_LOCK_NOW h) && can && (s.master h = h) then
    if was ∧ s.get (R.HEAD_STATUS.LOCK_STATE h) ≠ 0 then s
    else s.put (R.HEAD_STATUS.LOCK_STATE h) (if s.get R.SYNC_STATUS.SYNC_QUAL = 2 then 1 else 3)
  else (s.put (R.HEAD_STATUS.LOCK_STATE h) 0).modHead h (fun x => { x with syncErrs := [] })

/-- A FORMAT written while the head runs (R138): taken with the same line rate and channels, refused otherwise. -/
def latchFormat (h : Nat) (s : State) : State :=
  let x := s.head h
  if x.fmtWritten then
    let s := s.setHead h { x with fmtWritten := false }
    let new := s.get (R.HEAD_CTL.FORMAT h)
    if new = s.get (R.HEAD_STATUS.FORMAT_NOW h) then s
    else match s.fmt h, scanFormat new with
      | some a, some b =>
        if a.tl9 = b.tl9 ∧ a.chans = b.chans then
          let s := s.put (R.HEAD_STATUS.FORMAT_NOW h) new
          if s.headLock then s.put (R.HEAD_STATUS.FORMAT_NOW 1) new else s
        else s.setFlag R.SO_STATUS.FMT_REJ
      | _, _ => s.setFlag R.SO_STATUS.FMT_REJ
  else s

/-- What a latch point of a head takes for a head: commits, region codes, drive fields. -/
def latchOne (h : Nat) (s : State) : State := latchDrive h (latchRegions h (takeCommits h s))

/-- The latch point of a head (R131): locked heads share head A's (R136). ev2 or ev3. -/
def latchPoint (h : Nat) (s : State) : State :=
  let s := latchOne h s
  let s := if s.headLock then latchOne 1 s else s
  raiseEv (2 + h) (latchSync h s)

/-! ### Start (R137) -/

/-- The format matches the groups of a head: they supply exactly its channels (R135). -/
def State.fmtFits (s : State) (h : Nat) (f : ScanFormat) : Bool := decide (12 * (s.headGroups h).length = f.chans)

/-- A head begins its first frame flyback. -/
def startOne (h fmt next9 : Nat) (s : State) : State :=
  let s := ((s.put (R.HEAD_STATUS.FORMAT_NOW h) fmt).setFlag (R.HEAD_STATUS.RUNNING h)).setFlag (R.HEAD_STATUS.IN_FLYBACK h)
  s.modHead h (fun x => { fronds := x.fronds, next9 := some next9, startPhi := true })

/-- SCAN_EN = 1 on a stopped head: a latch point at the grant of the write, then the format starts after a frame flyback,
or FMT_REJ. The latch point takes FORMAT and SYNC_LOCK of that same write (or of the FMT that sets SCAN_EN) too, where R12
and R137 name only what was granted before it (DESIGN CHOICE, log 111). Head B of a locked pair ignores its own SCAN_EN. No head starts in the safe state or during the orderly stop. -/
def scanStart (h : Nat) (s : State) : State :=
  if s.running h || s.safe || s.flag R.THERM_STATUS.ORDERLY_STOP || (s.headLock && decide (h = 1)) then s
  else
    let s := latchPoint h (s.modHead h (fun x => { x with fmtWritten := false }))
    let n := s.get (R.HEAD_CTL.FORMAT h)
    match scanFormat n with
    | some f =>
      if s.fmtFits h f && (!s.headLock || s.fmtFits 1 f) then
        let o := s.now9 + f.b9 + f.tl9
        let s := startOne h n o s
        let s := if s.headLock then startOne 1 n (o + 9 * s.get R.LINE_OFS.value) s else s
        latchSync h s
      else s.setFlag R.SO_STATUS.FMT_REJ
    | none => s.setFlag R.SO_STATUS.FMT_REJ

/-! ### A line's prefetch (R126, R132, R133) -/

/-- The rows of a line: hc × interleave + phase (R119). -/
def ScanFormat.lineRows (f : ScanFormat) (line : Nat) : List Nat :=
  (List.range f.chans).map (fun hc => hc * f.inter + line % f.inter)

/-- The valid entries of a list body, in order, with whether some entry was out of order: an entry not above its
predecessor, the last entry not ignored, is ignored (DEDUCED, log 33). -/
def frondList (s : State) (a : Nat) (n : Nat) (last : Option Nat) : List (Nat × Nat) × Bool :=
  match n with
  | 0 => ([], false)
  | n + 1 =>
    let e := s.loadMapped a 8
    let key := 65536 * bits e 0 16 + bits e 16 16
    let bad := match last with | some l => decide (key ≤ l) | none => false
    let r := frondList s (a + 8) n (if bad then last else some key)
    (if bad then r.1 else (key, bits e 32 8) :: r.1, bad || r.2)

/-- What a line's prefetch reads of a frond in a buffer: header and the body of the line's rows; with LIST_ORDER_ERR. -/
def readFrond (s : State) (fm : ScanFormat) (f line : Nat) (r : FrondRef) : FrondRead × Bool × Bool :=
  let w0 := s.loadMapped r.addr 4
  let w1 := s.loadMapped (r.addr + 4) 4
  let w2 := s.loadMapped (r.addr + 8) 4
  let mode := bits w0 16 2
  let badMode := decide (mode = 3 ∨ (f = 0 ∧ mode = 2))
  let ok := decide (bits w0 0 16 = r.gen) && !badMode
  let row0 := if f = 0 then 0 else bits w1 0 16
  let row1 := if f = 0 then fm.rows - 1 else bits w1 16 16
  let col0 := if f = 0 then 0 else bits w2 0 16
  let col1 := if f = 0 then fm.cols - 1 else bits w2 16 16
  let stride := col1 - col0 + 1
  let rows := if ok ∧ mode = 0 ∧ col0 ≤ col1 then
      ((fm.lineRows line).filter (fun x => decide (row0 ≤ x ∧ x ≤ row1))).map
        (fun x => (x, s.loadMapped (r.addr + 64 + (x - row0) * stride) stride))
    else []
  let l := if ok ∧ mode = 2 then frondList s (r.addr + 64) (min 8192 (s.loadMapped (r.addr + 12) 2)) none else ([], false)
  ({ frond := f, ok := ok, gen := bits w0 0 16, uni := if mode = 1 then some (bits w0 24 8) else none,
     row0 := row0, row1 := min row1 (fm.rows - 1), col0 := col0, col1 := min col1 (fm.cols - 1), rows := rows,
     list := l.1.filter (fun e => decide (e.1 / 65536 % fm.inter = line % fm.inter)) }, badMode, l.2)

/-- The accesses that this makes where the buffer lies in DRAM (12_stream_memory.md R306): the header, the rows of the line, or
the list. -/
def touchFrond (req f line : Nat) (fm : ScanFormat) (r : FrondRef) (s : State) : State :=
  if r.addr < dramBase then s
  else
    let a := r.addr - dramBase
    let x := (readFrond s fm f line r).1
    let list := if bits (s.loadMapped r.addr 4) 16 2 = 2 ∧ x.ok then 8 * min 8192 (s.loadMapped (r.addr + 12) 2) else 0
    let w := s.loadMapped (r.addr + 8) 4
    let stride := if f = 0 then fm.cols else bits w 16 16 - bits w 0 16 + 1
    forAll x.rows (fun e => dramSpan req (a + 64 + (e.1 - x.row0) * stride) stride) (dramSpan req a (64 + list) s)

/-- The buffer of a frond for a frame: the commit in force, or for the next frame the commit taken (R131). -/
def Head.frondRef (x : Head) (f : Nat) (next : Bool) : Option FrondRef :=
  let c := x.fronds.get {} f
  if next && c.taken.isSome then c.taken else c.inForce

/-- The fronds that take part in a line (R127): frond 0, and those whose FROND_MASK bit is set, where committed. -/
def State.frondsPart (s : State) (h : Nat) (next : Bool) : Nat :=
  let x := s.head h
  ((List.range 4).map (fun f =>
    if (f = 0 || bit (s.get (R.HEAD_CTL.FROND_MASK h)) (f - 1)) && (x.frondRef f next).isSome then 2 ^ f else 0)).sum

/-- A line's check failed (R132): FROND_TORN, its count, and the mark of the frame. -/
def markFrondTorn (h : Nat) (next : Bool) (s : State) : State :=
  let s := (s.setFlag R.SO_STATUS.FROND_TORN).bumpSat (R.HEAD_STATUS.FROND_TORN_LINES h)
  if next then s.modHead h (fun x => { x with nextFrondTorn := true })
  else s.modFrame h (s.frameCount h) (fun a => { a with frondTorn := true })

/-- A line's prefetch: the fronds in `got` arrive. Data that come once the line's first visit has been composed are too late
for it and are discarded (R134). -/
def prefetch (h line got : Nat) (s : State) : State :=
  match s.fmt h, s.lineOf h line with
  | some fm, some (_, l, next) =>
    let x := s.head h
    let ahead := s.get (R.HEAD_CTL.PF_LINES h) + 1
    if s.running h ∧ !x.stopping ∧ !x.begun line ∧ x.lines ≤ line + 1 ∧ line < x.lines + ahead ∧ (line < x.len ∨ !x.opened ∨ x.latched) then
      let old := (x.reads.filter (fun p => p.line = line)).head?
      let mask := match old with | some p => p.mask | none => s.frondsPart h next
      let had := match old with | some p => p.got | none => 0
      let new := (List.range 4).filter (fun f => bit mask f && bit got f && !bit had f)
      let read := new.filterMap (fun f => (x.frondRef f next).map (fun r => readFrond s fm f l r))
      let p : PfLine := { line := line, mask := mask, got := had ||| (got &&& mask),
                          reads := (match old with | some p => p.reads | none => []) ++ read.map (·.1) }
      let torn := match old with | some p => p.reads.any (fun r => !r.ok) | none => false
      let s := forAll new (fun f s => match x.frondRef f next with
        | some r => touchFrond (0x10 + h) f l fm r s
        | none => s) (s.setHead h { x with reads := x.reads.filter (fun q => q.line ≠ line) ++ [p] })
      let s := if read.any (fun r => r.2.1) then s.setFlag R.SO_STATUS.BAD_MODE else s
      let s := if read.any (fun r => r.2.2) then s.setFlag R.SO_STATUS.LIST_ORDER_ERR else s
      let s := if !torn && read.any (fun r => !r.1.ok) then markFrondTorn h next s else s
      s
    else s
  | _, _ => s

/-! ### Composition of a visit (R119 to R121, R127 to R130, R134) -/

/-- The profile that a frond's data give a cell; 255 where it says nothing. -/
def FrondRead.profile (r : FrondRead) (row col : Nat) : Nat :=
  if r.row0 ≤ row ∧ row ≤ r.row1 ∧ r.col0 ≤ col ∧ col ≤ r.col1 then
    match r.uni with
    | some p => p
    | none =>
      match r.rows.find? (fun e => e.1 = row) with
      | some e => bits e.2 (8 * (col - r.col0)) 8
      | none => match r.list.find? (fun e => e.1 = 65536 * row + col) with
        | some e => e.2
        | none => 255
  else 255

/-- The chase position of a bank (07_emitter_drive.md R197). -/
def chasePos (order b : Nat) : Nat :=
  if order = 1 then 31 - b else if order = 2 then (if b % 2 = 0 then b / 2 else 16 + (b - 1) / 2) else b

/-- The lens positions a lichen entry offers a cell (04_echoes_and_points.md R92). -/
def lensesFor (h cell ch bank : Nat) (s : State) : List Nat :=
  let a := lichenBase + 32 * cell
  if bit (s.load (a + 8) 4) 26 then []
  else
    let prior0 := s.load (a + 12) 3
    let prior1 := s.load (a + 16) 3
    let st : Nat := s.load a 4 % 2 ^ 20
    let some_ := fun (p : Nat) => if p = 0 then [] else [p]
    match s.get (R.PP_HEAD_CFG.LENS_MODE h) with
    | 0 => some_ prior0 ++ some_ prior1
    | 1 =>
      let scale := s.geti (R.CH_RANGE_W1.TRIM_SCALE ch)
      let q : Int := roundDiv (((st : Int) - s.geti (R.CH_RANGE_W0.TRIM_OFS ch)) * 100000000) (100000000 + scale).toNat
        + (s.get (R.BANK_CABLE.CABLE_DLY h bank) + s.get (R.BANK_LAT.EMIT_LAT h bank) + s.get (R.CH_RANGE_W0.RX_DLY ch) : Nat)
        + s.geti (R.REF_STATUS.REF_OFS h)
      (if st = 0 ∨ q < 0 then [] else [q.toNat]) ++ some_ prior0
    | _ => []

/-- The cursor moves to the next visit: head channels within a column, columns within a line. -/
def Head.advance (x : Head) (f : ScanFormat) : Head :=
  if x.cHc + 1 < f.chans then { x with cHc := x.cHc + 1 }
  else if x.cCol + 1 < f.cols then { x with cHc := 0, cCol := x.cCol + 1 }
  else { x with cHc := 0, cCol := 0, cLine := x.cLine + 1 }

/-- Begin a line of composition: a change of a class-L field first applying here marks nothing (R130); frond data that
have not arrived make the line late (R134). A line without frond 0's data is composed as MODE 1 with profile 0; the
generation that its records carry is open. -/
def beginLine (h : Nat) (next : Bool) (s : State) : State :=
  let x := s.head h
  let pl := (x.reads.filter (fun p => p.line = x.cLine)).head?
  let late := match pl with
    | some p => decide (p.mask &&& (15 - p.got) ≠ 0)
    | none => decide (s.frondsPart h next ≠ 0)
  let was := match pl with | some p => p.reads.any (fun r => !r.ok) | none => false
  let got0 := match pl with | some p => p.reads.any (fun r => r.frond = 0) | none => false
  let need0 := (x.frondRef 0 next).isSome
  let (v, s) := s.drawIf (late && need0 && !got0) 0
  let s := s.setHead h { x with dirty := false, tornLine := false, lateLine := late, lateGen := v.toNat % 4 }
  if late then
    let s := (s.setFlag R.SO_STATUS.PF_LATE).bumpSat (R.PF_LATE_LINES.value h)
    if was then s else markFrondTorn h next s
  else s

/-- The frond, generation, profile and FROND_TORN of a cell of the line being composed. -/
def State.composite (s : State) (h row col : Nat) (next : Bool) : Nat × Nat × Nat × Bool :=
  let x := s.head h
  let pl := (x.reads.filter (fun p => p.line = x.cLine)).head?
  let reads := match pl with | some p => p.reads | none => []
  let torn := x.lateLine || reads.any (fun r => !r.ok)
  let r0 := reads.find? (fun r => r.frond = 0)
  let base : Nat × Nat := match r0 with
    | some r => (r.gen % 4, if r.ok then r.profile row col else 0)
    | none => (if (x.frondRef 0 next).isSome then x.lateGen else 0, 0)
  if torn then (0, base.1, base.2, true)
  else
    let mask := match pl with | some p => p.mask | none => 0
    let upper := ([3, 2, 1].filterMap (fun f =>
      if bit mask f && bit (s.get (R.HEAD_CTL.FROND_MASK h)) (f - 1) then reads.find? (fun r => r.frond = f) else none)).find?
        (fun r => r.profile row col ≠ 255)
    match upper with
    | some r => (r.frond, r.gen % 4, r.profile row col, false)
    | none => (0, base.1, base.2, false)

/-- A change first applies inside a line (R130): FRAME_CLOSED P7 bit 0 of the line's frame. -/
def tearLine (h : Nat) (next : Bool) (s : State) : State :=
  if next then s.modHead h (fun x => { x with nextTorn := true })
  else s.modFrame h (s.frameCount h) (fun a => { a with torn := true })

/-- Compose the next visit of a head (R127 to R130). -/
def compose (h : Nat) (s : State) : State :=
  match s.fmt h, s.lineOf h (s.head h).cLine with
  | some f, some (o9, l, next) =>
    let x := s.head h
    if s.running h ∧ !x.stopping ∧ x.cLine ≤ x.lines ∧ (!x.opened ∨ x.cLine < x.len ∨ x.latched) then
      let first := decide (x.cCol = 0 ∧ x.cHc = 0)
      let s := if first then beginLine h next s
        else if x.dirty then tearLine h next (s.setHead h { x with dirty := false, tornLine := true }) else s
      let x := s.head h
      let col := x.cCol
      let row := x.cHc * f.inter + l % f.inter
      let g := (s.headGroups h).getD (x.cHc / 12) 0
      let ch := 192 * (g / 16) + 12 * (g % 16) + x.cHc % 12
      let cell := 262144 * h + row * f.cols + col
      let bank := x.cHc * 32 / f.chans
      let (frond, gen, p, torn) := s.composite h row col next
      let shoot := decide (p ≠ 255)
      let base := ns9 (o9 + l * f.tl9) + col * f.pcol
      let chase := chasePos (s.get (R.DRV_STATUS.CHASE_ORDER_NOW h)) bank * s.get (R.DRV_STATUS.CHASE_STEP_NOW h)
      let phase := if shoot then s.get (R.P_X.PHASE h p) else 0
      let v : Visit :=
        { shoot := shoot, cell := cell, ch := ch, line := l, v := base + 16 * phase + chase,
          w1 := if shoot then s.get (R.P_W1.value h p) % 2 ^ 31 else 0,
          w2 := if shoot then s.get (R.P_W2.PRI h p) + 2 ^ 16 * s.get (R.P_W2.WIN_START h p) else 0,
          phase := phase, chase := chase, frond := frond, gen := gen, torn := x.tornLine, frondTorn := torn,
          lenses := if shoot then lensesFor h cell ch bank s else [],
          endNs := ns9 (o9 + l * f.tl9 + (f.tl9 - f.b9)), base := base }
      s.setHead h { (x.advance f) with visits := x.visits ++ [v] }
    else s
  | _, _ => s

/-! ### SYNC (R123, R124) -/

/-- SYNC_QUAL changed from `old`: heads in lock hold, and pull again when it returns (R124). -/
def syncQualChanged (old : Nat) (s : State) : State :=
  let new := s.get R.SYNC_STATUS.SYNC_QUAL
  if old = new then s
  else upTo 2 (fun h s =>
    let st := s.get (R.HEAD_STATUS.LOCK_STATE h)
    if old = 2 ∧ (st = 1 ∨ st = 2) then
      (s.put (R.HEAD_STATUS.LOCK_STATE h) 3).modHead h (fun x => { x with syncErrs := [] })
    else if new = 2 ∧ st = 3 then s.put (R.HEAD_STATUS.LOCK_STATE h) 1 else s) s

/-- The phase error of a FRAME_OPEN at `o9` against the grid of the latest good edge, ns rounded down, and the change of
the coming frame flyback, ns (R123). -/
def State.phaseError (s : State) (h o9 : Nat) (f : ScanFormat) : Option (Int × Int) :=
  match s.tb.syncGoodAt with
  | none => none
  | some ts =>
    -- everything in 1/1152 ns
    let tf : Int := f.tf9 * 128
    let d : Int := (o9 : Int) * 128 - ((ts : Int) * 9 + (s.get (R.SYNC_OFS_NOW.SYNC_OFFSET_NOW h) : Int) * 1152)
    let m := d % tf
    let e := if 2 * m < tf then m else m - tf
    let e := e / 1152
    let lim : Int := (s.get (R.FB_SLEW.value h) : Int) * 1000
    some (e, clampInt (-lim) lim (-e))

/-- The adjustment at a FRAME_OPEN: PHASE_ERR, LOCK_STATE, and the ninths of a ns by which the flyback changes. -/
def syncAdjust (h o9 : Nat) (f : ScanFormat) (s : State) : State × Int :=
  let st := s.get (R.HEAD_STATUS.LOCK_STATE h)
  if st = 1 ∨ st = 2 then
    match s.phaseError h o9 f with
    | none => (s, 0)
    | some (e, adj) =>
      let s := s.puti (R.PHASE_ERR.value h) e
      let errs := ((e.natAbs :: (s.head h).syncErrs).take 4)
      let s := s.modHead h (fun x => { x with syncErrs := errs })
      let locked := decide (errs.length = 4) && errs.all (fun x => decide (x ≤ 1000))
      (s.put (R.HEAD_STATUS.LOCK_STATE h) (if locked then 2 else 1), adj * 9)
  else (s, 0)

end Sys2Proof.Machine
end

