-- ==== Sys2Proof/Machine/Policy.lean ====
section
/-! DEFINITION. The default policy (06_salrad.md R177 to R181): its parameters in data memory, the rung of a cell, the
energy of a bank, weather, pace steps; what it does at each FRAME_CLOSED and FRAME_OPEN of its head, at a raise of ev9 and at
its start. The spec gives what the policy does and not the words of its image: on a sequencer that the policy holds, these
steps stand in place of its instructions (DESIGN CHOICE, log 97). -/

namespace Sys2Proof.Machine

/-! ### Parameters (R178) -/

/-- Bits [lo + w - 1 : lo] of the parameter word at an offset. -/
def State.polWord (s : State) (ofs lo w : Nat) : Nat := bits (s.load (0x104F0000 + ofs) 4) lo w

/-- The parameters, as one reading of them. -/
structure PolicyParams where
  ctl : Nat
  rungs : List Nat
  zTarget : Nat
  skyRung : Nat
  retroRung : Nat
  retroFrac : Nat
  retroAtten : Nat
  baseCode : Nat
  wxOn : Nat
  wxOff : Nat
  wxBoost : Nat
  sweep : Nat
  paceFloor : Nat
  paceMax : Nat
  deriving DecidableEq, Repr

/-- The values stored with the image. -/
def PolicyParams.atReset : PolicyParams :=
  { ctl := 0x1F, rungs := [0, 1, 2, 3, 4, 5, 6, 7], zTarget := 128, skyRung := 2, retroRung := 0, retroFrac := 32, retroAtten := 64,
    baseCode := 4095, wxOn := 96, wxOff := 48, wxBoost := 2, sweep := 4, paceFloor := 4, paceMax := 3 }

/-- The words of the parameters at their reset values, by offset: stored with the image. -/
def policyResetWords : List (Nat × Nat) :=
  [(0x00, 0x1F), (0x04, 0x03020100), (0x08, 0x07060504), (0x0C, 128), (0x10, 2), (0x14, 0), (0x18, 32 + 64 * 2 ^ 8 + 4095 * 2 ^ 16),
   (0x1C, 96 + 48 * 2 ^ 8 + 2 * 2 ^ 16), (0x20, 4), (0x24, 4 + 3 * 2 ^ 8)]

/-- Data memory holds the parameters at their reset values. -/
def policyReset (s : State) : State :=
  forAll policyResetWords (fun w s => forward (0x104F0000 + w.1) 4 w.2 (s.store (0x104F0000 + w.1) 4 w.2)) s

/-- The parameters that data memory holds. -/
def State.policyParams (s : State) : PolicyParams :=
  { ctl := s.polWord 0 0 5
    rungs := (List.range 8).map (fun r => s.polWord (4 + r) 0 8)
    zTarget := s.polWord 0x0C 0 16
    skyRung := s.polWord 0x10 0 3
    retroRung := s.polWord 0x14 0 3
    retroFrac := s.polWord 0x18 0 8
    retroAtten := s.polWord 0x18 8 8
    baseCode := s.polWord 0x18 16 12
    wxOn := s.polWord 0x1C 0 8
    wxOff := s.polWord 0x1C 8 8
    wxBoost := s.polWord 0x1C 16 3
    sweep := s.polWord 0x20 0 4
    paceFloor := s.polWord 0x24 0 3
    paceMax := s.polWord 0x24 8 3 }

/-- The policy's two buffers of a head, offsets in frond memory, each of 262,144 bytes. -/
def policyBuffer (h k : Nat) : Nat := 0x700000 + 0x80000 * h + 0x40000 * k

/-! ### The rung of a cell (R179) -/

/-- n pulses of bins of w4 quarter ns reach the target score z on a cell of REFLECT r and MOSS m. -/
def pulsesSuffice (n w4 z r m : Nat) : Bool := decide (z * z * m * w4 ≤ n * 250 * r * r * 4)

/-- Pulses of a profile, K × passes, and its bin width in quarter ns. -/
def State.profilePulses (s : State) (h p : Nat) : Nat :=
  let o : Op := { w1 := s.get (R.P_W1.value h p) }
  o.k * o.passes
def State.profileBin (s : State) (h p : Nat) : Nat := 2 ^ bits (s.get (R.P_W1.value h p)) 15 2

/-- The lowest rung that suffices for a cell with a learnt range and a reflectance; rung 7 where none below it does. -/
def State.effortRung (s : State) (h : Nat) (x : PolicyParams) (e : Nat) : Nat :=
  let ok := fun r =>
    let p := x.rungs.getD r 0
    pulsesSuffice (s.profilePulses h p) (s.profileBin h p) x.zTarget (lget e L.reflect) (lget e L.moss)
  ((List.range 7).find? ok).getD 7

/-- The rung the pseudocode chooses for a cell whose lichen entry is `e`, in weather or not, `steps` rungs down. -/
def State.policyRung (s : State) (h : Nat) (x : PolicyParams) (e : Nat) (weather : Bool) (steps : Nat) : Nat :=
  let st := lget e L.staticRange
  let rung :=
    if lget e L.unlearnt = 1 ∨ (st ≠ 0 ∧ lget e L.reflect = 0) then 7
    else if lget e L.retro = 1 ∨ lget e L.screen = 1 then x.retroRung
    else if st = 0 then x.skyRung
    else s.effortRung h x e
  let rung := if weather then min 7 (rung + x.wxBoost) else rung
  if x.paceFloor ≤ rung then max x.paceFloor (rung - steps) else rung

/-! ### Energy, weather, pace (R180, R181) -/

/-- The amplitude code the policy requests for a bank of `total` cells of which `bright` are RETRO or SCREEN. -/
def PolicyParams.bankCode (x : PolicyParams) (bright total : Nat) : Nat :=
  if x.retroFrac * total < 256 * bright then x.baseCode * x.retroAtten / 256 else x.baseCode

/-- One frame with the echoes of classes 0, 1 and 2 (FSTAT items 8 to 10): the weather and its count of frames. -/
def PolicyParams.weatherFrame (x : PolicyParams) (c0 c1 c2 : Nat) (p : PolicySt) : PolicySt :=
  let all := c0 + c1 + c2
  if p.weather then
    let n := if 256 * c2 < x.wxOff * all then p.frames + 1 else 0
    if 10 ≤ n then { p with weather := false, frames := 0 } else { p with frames := n }
  else
    let n := if x.wxOn * all < 256 * c2 then p.frames + 1 else 0
    if 3 ≤ n then { p with weather := true, frames := 0 } else { p with frames := n }

/-- A raise of ev9, and the close of a frame. -/
def PolicyParams.paceRaise (x : PolicyParams) (p : PolicySt) : PolicySt :=
  { p with steps := min x.paceMax (p.steps + 1), quiet := 0 }
def paceFrame (p : PolicySt) : PolicySt :=
  if p.quiet + 1 = 64 then { p with steps := p.steps - 1, quiet := 0 } else { p with quiet := p.quiet + 1 }

/-! ### The policy runs (R177) -/

/-- The policy holds sequencer n. -/
def State.policyHolds (s : State) (n : Nat) : Bool := (s.seq n).policy

/-- POLICY_ACTIVE: the policy is loaded on SQ0 and SQ1. -/
def State.policyActive (s : State) : Bool := s.policyHolds 0 && s.policyHolds 1

/-- The policy of head h runs: SQ0 serves head A, SQ1 head B. -/
def State.policyRuns (s : State) (h : Nat) : Bool := s.policyHolds h && s.sqLive h

def State.policy (s : State) (h : Nat) : PolicySt := s.pts.policy.get {} h
def State.setPolicy (s : State) (h : Nat) (x : PolicySt) : State :=
  { s with pts := { s.pts with policy := s.pts.policy.put {} h x } }

/-- The policy starts on a sequencer: from the first row, with HOP_EN and HOP_MASK where POL_CTL has bit 2 (R180). -/
def policyStart (n : Nat) (s : State) : State :=
  if s.policyHolds n then
    let s := s.setPolicy n {}
    if bit s.policyParams.ctl 2 then forwardReg R.HOP_CFG.addr ((s.put R.HOP_CFG.HOP_EN 1).put R.HOP_CFG.HOP_MASK 0xFF) else s
  else s

/-- A raise of ev9 reaches the policy of a head (R181): with bit 4, one step down more. -/
def policyPace (h : Nat) (s : State) : State :=
  if s.policyRuns h && bit s.policyParams.ctl 4 then s.setPolicy h (s.policyParams.paceRaise (s.policy h)) else s

/-- Weather of a head changes (R181): LEARN_EN is cleared and restored, and a marker tells of it. -/
def policyWeather (h : Nat) (old new : PolicySt) (s : State) : State :=
  if old.weather = new.weather then s.setPolicy h new
  else
    let learn := R.PP_HEAD_CFG.LEARN_EN h
    let s := forwardReg learn.addr (if new.weather then (s.setPolicy h { new with learn := s.flag learn }).clrFlag learn
      else (s.setPolicy h new).putb learn old.learn)
    milestoneAt 0x04 h (s.frameCount h) s.ns [b2n new.weather, 0x57580000, lo32 s.ns, hi32 s.ns] s

/-- A cell of the band: the profile of its rung goes into the standby buffer where POL_CTL has bit 0, and the sweep counts
it for its bank. -/
def policyCell (h k : Nat) (x : PolicyParams) (f : ScanFormat) (row col : Nat) (s : State) : State :=
  let i := row * f.cols + col
  let p := s.policy h
  let e := s.lichen (262144 * h + i)
  let s := if bit x.ctl 0 then
      s.setByte (frondBase + policyBuffer h k + 64 + i)
        (BitVec.ofNat 8 (x.rungs.getD (s.policyRung h x e (bit x.ctl 3 && p.weather) (if bit x.ctl 4 then p.steps else 0)) 0))
    else s
  let bank := row / f.inter * 32 / f.chans
  s.setPolicy h { p with
    total := p.total.put 0 bank (p.total.get 0 bank + 1),
    bright := p.bright.put 0 bank (p.bright.get 0 bank + b2n (lget e L.retro = 1 ∨ lget e L.screen = 1)) }

/-- The standby buffer's header: MODE 0 over the whole grid with a GEN (R125). -/
def policyHeader (h k gen : Nat) (f : ScanFormat) (s : State) : State :=
  s.store (frondBase + policyBuffer h k) 16 (wordsNat [gen, 2 ^ 16 * (f.rows - 1), 2 ^ 16 * (f.cols - 1), 0])

/-- A complete sweep: the amplitude codes of its banks are requested (R180) and the counts begin anew. -/
def policySweep (h : Nat) (x : PolicyParams) (s : State) : State :=
  let p := s.policy h
  let s := if bit x.ctl 1 then
      upTo 32 (fun b s => forwardReg (R.BANK_AMP.addr h b)
        (s.put (R.BANK_AMP.REQ h b) (x.bankCode (p.bright.get 0 b) (p.total.get 0 b)))) s
    else s
  s.setPolicy h { s.policy h with row := 0, total := [], bright := [] }

/-- The next band of the sweep (R179): its cells into the standby buffer, which is committed with a new GEN, the one after
the last committed. SWEEP below 1 or above 8 acts as 1 or 8 (DESIGN CHOICE, log 97). -/
def policyBand (h : Nat) (x : PolicyParams) (f : ScanFormat) (s : State) : State :=
  let p := s.policy h
  let n := ceilDiv f.rows (max 1 (min 8 x.sweep))
  let rows := (List.range n).map (p.row + ·) |>.filter (fun r => decide (r < f.rows))
  let s := forAll rows (fun r s => forAll (List.range f.cols) (fun c s => policyCell h p.buf x f r c s) s) s
  let s := if bit x.ctl 0 then
      let gen := (s.get (R.FROND_GEN_EXP.GEN_EXP h 0) + 1) % 2 ^ 16
      let a := frondBase + policyBuffer h p.buf
      let n := rows.length * f.cols
      let s := forwardBytes 2 a 64 (forwardBytes (ceilDiv n 32) (a + 64 + p.row * f.cols) n (policyHeader h p.buf gen f s))
      let s := ((s.put (R.FROND_ADDR_LO.ADDR_LO h 0) (bits a 6 26)).put (R.FROND_ADDR_HI.ADDR_HI h 0) 0).put (R.FROND_GEN_EXP.GEN_EXP h 0) gen
      let s := forAll [R.FROND_ADDR_LO.addr h 0, R.FROND_ADDR_HI.addr h 0, R.FROND_GEN_EXP.addr h 0] forwardReg s
      let s := forward (R.FROND_COMMIT.addr h 0) 4 1 s
      commitFrond h 0 (s.setPolicy h { s.policy h with band := some (p.buf, p.row, rows.length), buf := 1 - p.buf })
    else s
  if f.rows ≤ p.row + n then policySweep h x s else s.setPolicy h { s.policy h with row := p.row + n }

/-- FRAME_CLOSED of a head reaches its policy (R179 to R181): weather and steps by the frame's figures, then the next band,
unless the band before is not yet in use. The order of the two is the model's (DESIGN CHOICE, log 97). -/
def policyFrame (h c0 c1 c2 : Nat) (s : State) : State :=
  if s.policyRuns h then
    let x := s.policyParams
    let p := s.policy h
    let s := if bit x.ctl 3 then policyWeather h p (x.weatherFrame c0 c1 c2 p) s else s
    let s := if bit x.ctl 4 then s.setPolicy h (paceFrame (s.policy h)) else s
    match s.fmt h with
    | some f => if (s.policy h).band.isNone then policyBand h x f s else s
    | none => s
  else s

/-- FRAME_OPEN of a head: once the committed buffer is in use, the same band goes into the retired one (R179). -/
def policyOpen (h : Nat) (s : State) : State :=
  match s.policyRuns h, (s.policy h).band, s.fmt h, ((s.head h).fronds.get {} 0).inForce with
  | true, some (k, row, n), some f, some r =>
    if r.addr = frondBase + policyBuffer h k then
      let from_ := 64 + row * f.cols
      let s := forAll (List.range (n * f.cols)) (fun i s =>
        s.setByte (frondBase + policyBuffer h (1 - k) + from_ + i) (s.byte (frondBase + policyBuffer h k + from_ + i))) s
      let s := forwardBytes (ceilDiv (n * f.cols) 32) (frondBase + policyBuffer h (1 - k) + from_) (n * f.cols) s
      s.setPolicy h { s.policy h with band := none }
    else s
  | _, _, _, _ => s

end Sys2Proof.Machine
end

