-- ==== Sys2Proof/Machine/Fabric.lean ====
section
/-! DEFINITION. The fabric (01_architecture.md): pace, die links and dark dies, late results. -/

namespace Sys2Proof.Machine

/-! ### Dark dies (R24, R25) -/

/-- A ranging die goes dark: its open ops are abandoned, but for those in REDUCING, which run to COMPLETE
(03_ranging_operations.md R68); its bit is set in DIES_DARK, an error of class DIE is entered. -/
def dieDark (d : Nat) (s : State) : State :=
  if !s.dieFitted d || s.dieDark d then s
  else
    let s := s.put R.FAB_STATUS.DIES_DARK (s.get R.FAB_STATUS.DIES_DARK ||| 2 ^ d)
    let s := abandonWhere (fun e o => decide (e = d) && o.withdrawable) s
    enterErr 2 d R.FAB_STATUS.DIES_DARK s

/-! ### Pace (R16 to R19) -/

/-- A ring's count lies outside 25 % to 400 % of its reference (R17). -/
def ringFault (d r count : Nat) : Bool :=
  decide (4 * count < Config.ringRef (4 * d + r) ∨ 4 * Config.ringRef (4 * d + r) < count)

/-- The rings of a die in fault, as a mask, and the pace of its slowest ring that is not; none where all four are. -/
def diePace (d : Nat) (counts : List Nat) : Nat × Option Nat :=
  let c := fun r => counts.getD r 0
  let bad := ((List.range 4).map (fun r => if ringFault d r (c r) then 2 ^ r else 0)).sum
  let good := (List.range 4).filter (fun r => !ringFault d r (c r))
  let pace := fun r => min 1023 (256 * c r / Config.ringRef (4 * d + r))
  (bad, match good with | [] => none | r :: l => some (l.foldl (fun m k => min m (pace k)) (pace r)))

/-- A die's window ends: RING_FAULT, PACE_NOW, PACE_MIN, PACE_VALID; an error where all four rings come into fault. -/
def paceDie (d : Nat) (counts : List Nat) (s : State) : State :=
  let r := diePace d counts
  let was := decide (s.get (R.PACE_STATUS.RING_FAULT d) = 15)
  let s := s.put (R.PACE_STATUS.RING_FAULT d) r.1
  match r.2 with
  | some p =>
    let s := (s.put (R.PACE_STATUS.PACE_NOW d) p).setFlag (R.PACE_STATUS.PACE_VALID d)
    if p < s.get (R.PACE_STATUS.PACE_MIN d) then s.put (R.PACE_STATUS.PACE_MIN d) p else s
  | none =>
    let s := (s.put (R.PACE_STATUS.PACE_NOW d) 0).clrFlag (R.PACE_STATUS.PACE_VALID d)
    if was then s else enterErr 1 d (R.PACE_STATUS.RING_FAULT d) s

/-- The link of a ranging die has stalled (R24): it no longer works, and the die goes dark. -/
def linkStall (d : Nat) (s : State) : State :=
  if s.dieFitted d then dieDark d { s with pts := { s.pts with linkDown := s.pts.linkDown ||| 2 ^ d } } else s

/-- A window ends on every die that is fitted and not dark, once the time base has locked since reset. -/
def paceWindow (counts : List (List Nat)) (s : State) : State :=
  if !s.flag R.TB_STATUS.LOCKED && s.get R.TB_STATUS.LOCK_LOSS_COUNT = 0 then s
  else
    let s := upTo 8 (fun d s => if d = 0 || s.dieUp d then paceDie d (counts.getD d []) s else s) s
    let p := s.partPace
    let need := 2 ^ s.get (R.PACE_CFG.PACE_DWELL 0)
    let n := if p < s.get (R.PACE_CFG.PACE_LOW_THR 0) then min 9 (s.pts.paceBelow + 1) else 0
    let hit := decide (n < 9 ∧ need ≤ n)
    let s := { s with pts := { s.pts with paceBelow := if hit then 9 else n } }
    if hit then policyPace 1 (policyPace 0 (raiseEv 9 (s.setFlag (R.PACE_STATUS.PACE_LOW 0)))) else s

/-- PACE_MIN_RESTART: PACE_MIN is 1023 on every die. -/
def paceMinRestart (s : State) : State := upTo 8 (fun d s => s.put (R.PACE_STATUS.PACE_MIN d) 1023) s

/-! ### Meanings -/

/-- PACE_WINDOW_END (R16). -/
def execPaceWindowEnd (t : Nat) (counts : List (List Nat)) (s : State) : Host.Outcome State Fault Refusal :=
  act t (paceWindow counts) s

/-- DIE_LINK_STALL (R24, R25): the link of a ranging die. -/
def execDieLinkStall (t : Nat) (die : Nat) (s : State) : Host.Outcome State Fault Refusal :=
  act t (linkStall die) s

/-- LATE_RESULT_DISCARD (R23): the result is discarded and counted by its island. -/
def execLateResultDiscard (t : Nat) (island : Fin 4) (_unit : Nat) (s : State) : Host.Outcome State Fault Refusal :=
  act t (fun s => { s with pts := { s.pts with late := s.pts.late.put 0 island (s.pts.late.get 0 island + 1) } }) s

end Sys2Proof.Machine
end

