-- ==== Sys2Proof/Machine/Profile.lean ====
section
/-! DEFINITION. The profile generator of motion control (09_scanner_control.md R233): the move of least time from any
state to rest under limits of rate, rate of rate and its change. A move is a list of segments of constant third
derivative; rounding is the model's (log 114). -/

namespace Sys2Proof.Machine

/-- A point of a move: value, rate, rate of rate, in units × 2^80. -/
structure Kin where
  x : Int := 0
  v : Int := 0
  a : Int := 0
  deriving DecidableEq, Repr

/-- A segment: its length in 2^−16 fine LSB, and the third derivative during it. -/
abbrev Segment := Nat × Int

/-- 2^−16 fine LSB in a second. -/
def tickRate : Int := 8388608000000000

/-- Time `t` into a segment. -/
def Kin.after (k : Kin) (j : Int) (t : Nat) : Kin :=
  let s := tickRate
  { x := k.x + k.v * t / s + k.a * t * t / (2 * s * s) + j * t * t * t / (6 * s * s * s)
    v := k.v + k.a * t / s + j * t * t / (2 * s * s)
    a := k.a + j * t / s }

/-- The end of a list of segments. -/
def Kin.run (k : Kin) (l : List Segment) : Kin := l.foldl (fun k p => k.after p.2 p.1) k

/-- Time `t` into a list of segments, and the third derivative there. -/
def Kin.runTo : Kin → List Segment → Nat → Kin × Int
  | k, [], _ => (k, 0)
  | k, p :: r, t => if t < p.1 then (k.after p.2 t, p.2) else (k.after p.2 p.1).runTo r (t - p.1)

/-- Quotient as a duration. -/
def duration (n d : Int) : Nat := (n * tickRate / d).toNat

/-- The change of rate from (v, a) to (vt, 0) in the least time under |a| ≤ am and a third derivative of jm. -/
def ramp (v a vt am jm : Int) : List Segment :=
  let sg : Int := if 2 * jm * v + a * a.natAbs ≤ 2 * jm * vt then 1 else -1
  let dv := sg * (vt - v)
  let b := sg * a
  let top := max b (isqrt (jm * dv + b * b / 2).toNat : Nat)
  if top ≤ am then [(duration (top - b) jm, sg * jm), (duration top jm, -(sg * jm))]
  else [(duration (am - b) jm, sg * jm), (duration (2 * jm * dv - 2 * am * am + b * b) (2 * jm * am), 0),
        (duration am jm, -(sg * jm))]

/-- The greatest parameter, to the last bit that `fuel` halvings reach, whose path does not pass `d`. -/
def bisect (f : Int → Int) (d : Int) : Nat → Int → Int → Int
  | 0, lo, _ => lo
  | k + 1, lo, hi => let m := (lo + hi) / 2; if f m ≤ d then bisect f d k m hi else bisect f d k lo m

/-- The move of least time over `d` from the rates (v, a) to rest, where stopping at once would not pass `d`. -/
def pathUp (d v a vm am jm : Int) : List Segment :=
  let vc := v + a * a.natAbs / (2 * jm)
  let dist := fun (l : List Segment) => (({ v := v, a := a } : Kin).run l).x
  let via := fun (p : Int) => ramp v a p am jm ++ ramp p 0 0 am jm
  if a < 0 ∧ 0 < vc ∧ d ≤ dist (via vc) then
    let late := fun (p : Int) => (duration (p - a) jm, jm) :: ramp (v + (p * p - a * a) / (2 * jm)) p 0 am jm
    late (bisect (fun p => dist (late p)) d 128 a 0)
  else if dist (via vm) ≤ d then ramp v a vm am jm ++ [(duration (d - dist (via vm)) vm, 0)] ++ ramp vm 0 0 am jm
  else via (bisect (fun p => dist (via p)) d 128 (max 0 vc) vm)

/-- The move of least time over `d` from the rates (v, a) to rest. -/
def movePath (d v a vm am jm : Int) : List Segment :=
  if (({ v := v, a := a } : Kin).run (ramp v a 0 am jm)).x ≤ d then pathUp d v a vm am jm
  else (pathUp (-d) (-v) (-a) vm am jm).map (fun p => (p.1, -p.2))

end Sys2Proof.Machine
end

