-- ==== Sys2Proof/Machine/Motion.lean ====
section
/-! DEFINITION. Motion control (09_scanner_control.md): encoders, the profile generator, the control law with its
hand-over, the repetitive controller, facet phase, faults, parking, and the trace unit. -/

namespace Sys2Proof.Machine

/-- Change a loop's record. -/
def State.modLoop (s : State) (n : Nat) (f : Loop → Loop) : State := s.setLoop n (f (s.loop n))

/-- The mode in force of a loop (R231), and whether it is running (R226). -/
def State.loopMode (s : State) (n : Nat) : Nat := s.get (R.LOOP_STATUS.MODE_NOW n)
def State.loopRuns (s : State) (n : Nat) : Bool := s.loopMode n ≠ 0

/-- The encoder that feeds a loop; none for an AUX input (R224). -/
def State.loopEnc (s : State) (n : Nat) : Option Nat :=
  let m := s.get (R.LOOP_CTL.FB_SRC n)
  if m < 4 then some m else none

/-- 64-bit arithmetic (R232): an integer cut to 64 bits, two's complement. -/
def wrap64 (x : Int) : Int := sgn 64 (ofInt 64 x)

/-- An arithmetic shift right by 16 of a 64-bit number (R232). -/
def sra16 (x : Int) : Int := wrap64 x / 65536

/-! ### Trace (R244, R245) -/

/-- The trace unit stops with TR_DONE set. -/
def traceDone (s : State) : State := (s.clrFlag R.TR_STATUS.TR_RUN).setFlag R.TR_STATUS.TR_DONE

/-- A trigger of source `src`: the first after start marks TR_TRIGGERED and TR_TRIG_IDX; in ring mode TR_POST further
samples follow. -/
def traceTrig (src : Nat) (s : State) : State :=
  if s.flag R.TR_STATUS.TR_RUN ∧ !s.flag R.TR_STATUS.TR_TRIGGERED ∧ s.get R.TR_CTL.TR_TRIG = src then
    let s := (s.setFlag R.TR_STATUS.TR_TRIGGERED).put R.TR_STATUS.TR_TRIG_IDX (s.get R.TR_WPTR.value)
    if s.flag R.TR_CTL.TR_MODE then
      let post := s.get R.TR_POST.value
      let s := { s with motion := { s.motion with trace := { s.motion.trace with left := some post } } }
      if post = 0 then traceDone s else s
    else s
  else s

/-- The latest value of a signal of a loop: 0 for a reserved code and for a loop that is not running (R244). -/
def State.nodeSignal (s : State) (n g : Nat) : Int :=
  let x := s.loop n
  if !s.loopRuns n then 0
  else if g ≤ 10 then x.sig.get 0 g
  else if g = 11 then x.eps
  else if g = 12 then (match s.loopEnc n with | some m => s.geti (R.ENC_POS.value m) | none => 0)
  else if g = 13 then x.conv
  else 0

/-- The value a node records (R244). -/
def State.nodeValue (s : State) (j : Nat) : Int := s.nodeSignal (s.get (R.TR_NODE.NODE_LOOP j)) (s.get (R.TR_NODE.NODE_SIG j))

/-- One sample of all 16 nodes at the write index. -/
def traceRecord (s : State) : State :=
  let w := s.get R.TR_WPTR.value
  let s := upTo 16 (fun j s => s.store (traceBase + 0x40000 * j + 4 * w) 4 (ofInt 32 (s.nodeValue j))) s
  let s := s.put R.TR_WPTR.value (w + 1)
  let x := s.motion.trace
  let x := { x with taken := x.taken + 1, left := x.left.map (· - 1) }
  let s := { s with motion := { s.motion with trace := x } }
  if s.flag R.TR_CTL.TR_MODE then (if x.left = some 0 then traceDone s else s)
  else if x.taken = 65536 then traceDone s else s

/-- A sample instant of loop TR_LOOP: every (TR_DEC + 1)-th is recorded. -/
def traceSample (n : Nat) (s : State) : State :=
  if s.flag R.TR_STATUS.TR_RUN ∧ s.get R.TR_CTL.TR_LOOP = n then
    let k := s.motion.trace.skip
    let set := fun (v : Nat) (s : State) => { s with motion := { s.motion with trace := { s.motion.trace with skip := v } } }
    if k = 0 then traceRecord (set (s.get R.TR_CTL.TR_DEC) s) else set (k - 1) s
  else s

/-- TR_START: the flags and the write pointer are cleared and recording begins. -/
def traceStart (s : State) : State :=
  let s := ((s.clrFlag R.TR_STATUS.TR_DONE).clrFlag R.TR_STATUS.TR_TRIGGERED).put R.TR_WPTR.value 0
  { s.setFlag R.TR_STATUS.TR_RUN with motion := { s.motion with trace := {} } }

/-- TR_STOP: it counts as the trigger in mode 0 of TR_TRIG, and the unit stops. -/
def traceStop (s : State) : State := (traceTrig 0 s).clrFlag R.TR_STATUS.TR_RUN

/-! ### Encoders (R227, R238) -/

/-- The step of a quadrature transition: +1 for A leading B, none where both legs change. -/
def quadStep (a b a' b' : Bool) : Option Int :=
  if a ≠ a' ∧ b ≠ b' then none
  else if a ≠ a' then some (if a' = b then -1 else 1)
  else if b ≠ b' then some (if b' = a then 1 else -1)
  else some 0

/-- A quadrature transition of encoder m to levels a, b. The limiter counts those of the polygons
(08_emission_guard.md R210). -/
def encEdge (m : Nat) (a b : Bool) (s : State) : State :=
  let x := s.enc m
  if x.a = a ∧ x.b = b then s
  else match quadStep x.a x.b a b with
    | none =>
      let s := s.setEnc m { x with a := a, b := b }
      (s.bumpSat (R.ENC_STATUS.QUAD_ERR_COUNT m)).setFlag (R.ENC_STATUS.QUAD_ERR m)
    | some d =>
      let d := if s.flag (R.ENC_CFG.DIR m) then -d else d
      let s := s.setEnc m { x with a := a, b := b, last := some s.now }
      let s := if m < 2 then s.setProof m { s.proof m with edges := (s.proof m).edges + 1 } else s
      s.puti (R.ENC_POS.value m) (s.geti (R.ENC_POS.value m) + d)

/-- An index edge of the polarity selected: ENC_IDX_POS takes ENC_POS, checked against CPR. The guard sees those of the
polygons (08_emission_guard.md R210). -/
def encIndex (m : Nat) (rise : Bool) (s : State) : State :=
  if s.flag (R.ENC_CFG.IDX_POL m) = rise then s
  else
    let x := s.enc m
    let pos := s.geti (R.ENC_POS.value m)
    let cpr := s.get (R.ENC_CFG.CPR m)
    let d := (sgn 32 (ofInt 32 (pos - s.geti (R.ENC_IDX_POS.IDX_POS m)))).natAbs
    let wrong := x.idxSeen && decide (cpr ≠ 0) && decide (cpr + 4 < d ∨ d + 4 < cpr)
    let s := s.puti (R.ENC_IDX_POS.IDX_POS m) pos
    let bad := if wrong then some 0 else match x.bad with
      | some k => if k = 1 then none else some (k + 1)
      | none => none
    let s := s.setEnc m { x with idxSeen := true, bad := bad }
    let s := if m < 2 then s.setProof m { s.proof m with lastIdx := some s.now } else s
    if wrong then s.setFlag (R.ENC_STATUS.IDX_ERR m) else s

/-- ENC_PRESENT: an edge within the last 100 µs. -/
def State.encPresent (s : State) (m : Nat) : Bool :=
  match (s.enc m).last with
  | some t => decide (s.now ≤ t + fineUs 100)
  | none => false

/-! ### Feedback (R228, R229) -/

/-- The speed of an encoder at a sample, counts/s, from the last edges at or before this and the previous sample. -/
def State.encSpeed (s : State) (n m inst : Nat) : Int :=
  let x := s.loop n
  match (s.enc m).last, x.spStamp with
  | some t, some t0 =>
    if t0 < t then truncDiv (sgn 32 (ofInt 32 (s.geti (R.ENC_POS.value m) - x.spCount)) * 128000000000) (t - t0)
    else if t < inst then
      let cap : Int := (128000000000 / (inst - t) : Nat)
      if cap < x.spY.natAbs then (if x.spY < 0 then -cap else cap) else x.spY
    else x.spY
  | _, _ => 0

/-- y of a loop at a sample: speed in SPEED, otherwise the count, or the conversion code of an AUX input. -/
def State.loopY (s : State) (n inst mode : Nat) : Int :=
  match s.loopEnc n with
  | some m => if mode = 2 then s.encSpeed n m inst else s.geti (R.ENC_POS.value m)
  | none => (s.loop n).conv

/-- The edge used at this sample is the reference of the next (R228). -/
def speedMark (n inst : Nat) (s : State) : State :=
  match s.loopEnc n with
  | some m =>
    let v := s.encSpeed n m inst
    s.modLoop n (fun x => { x with spY := v, spCount := s.geti (R.ENC_POS.value m), spStamp := (s.enc m).last })
  | none => s

/-! ### The profile generator (R233 to R235) -/

/-- The generator is a speed or drive generator, which ignores VMAX. -/
def velMode (mode : Nat) : Bool := mode = 1 || mode = 2

/-- The segments of a move; none where its limits allow no motion. A state beyond the limits keeps its own rates as limits
(DESIGN CHOICE, log 114). -/
def Move.path (m : Move) (vel : Bool) : Option (List Segment) :=
  let k : Int := 2 ^ 64
  let v := m.start.v * k
  let r := m.start.r * k
  let a := m.start.a * k
  let goal := m.target * 65536 * k
  let lim := fun (n : Nat) => (n : Int) * 65536 * k
  if m.amax = 0 ∨ m.jmax = 0 then none
  else if vel then some (ramp v r goal (max (lim m.amax) r.natAbs) (lim m.jmax))
  else
    let vc := r + a * a.natAbs / (2 * lim m.jmax)
    let vm := max (lim m.vmax) (max r.natAbs vc.natAbs)
    if vm = 0 then none else some (movePath (goal - v) r a vm (max (lim m.amax) a.natAbs) (lim m.jmax))

/-- A move has ended `el` fine LSB after its start: at once for one of no length, otherwise where its segments end. -/
def Move.ended (m : Move) (vel : Bool) (el : Nat) : Bool :=
  if m.start = { v := m.target * 65536 } then true
  else match m.path vel with
    | some l => decide ((l.map Prod.fst).sum ≤ el * 65536)
    | none => false

/-- The generator `el` fine LSB into a move; one whose limits allow no motion stays where it is. -/
def Move.shape (m : Move) (vel : Bool) (el : Nat) : Gen :=
  let k : Int := 2 ^ 64
  match m.path vel with
  | none => m.start
  | some l =>
    let (q, j) := (if vel then { v := m.start.v * k, a := m.start.r * k }
      else { x := m.start.v * k, v := m.start.r * k, a := m.start.a * k } : Kin).runTo l (el * 65536)
    if vel then { v := q.v / k, r := q.a / k, a := j / k } else { v := q.x / k, r := q.v / k, a := q.a / k }

/-- PARKED of a loop, with its bit of PARKED_ALL (R243). -/
def setParked (n : Nat) (s : State) : State :=
  (s.setFlag (R.LOOP_STATUS.PARKED n)).put R.MC_STATUS.PARKED_ALL (s.get R.MC_STATUS.PARKED_ALL ||| 2 ^ n)

/-- A loop enters OFF: both legs low at once; its move, blend and waiting commands are dropped (R230, R239). -/
def loopOff (n : Nat) (s : State) : State :=
  let s := s.modLoop n (fun x => { x with gen := {}, move := none, req := none, blend := none, out := 0, outAt := s.now,
                                          outs := [], cmds := [], uLast := 0, movingSince := none, follow := 0, range := 0,
                                          parking := false })
  let s := ((s.put (R.LOOP_STATUS.MODE_NOW n) 0).clrFlag (R.LOOP_STATUS.PROF_RUN n)).clrFlag (R.LOOP_STATUS.HO_BLENDING n)
  (s.clrFlag (R.LOOP_STATUS.SAT n)).put (R.OUTPUT.U n) 0

/-- A move is finished: the generator rests at its target and ev(48 + n) is raised; a parked loop in SPEED or OPEN enters
OFF (R233, R243). -/
def moveEnd (n : Nat) (target : Int) (s : State) : State :=
  let park := (s.loop n).parking
  let s := s.modLoop n (fun x => { x with gen := { v := target * 65536 }, move := none, parking := false })
  let s := raiseEv (48 + n) (s.clrFlag (R.LOOP_STATUS.PROF_RUN n))
  if park then setParked n (if velMode (s.loopMode n) then loopOff n s else s) else s

/-- A move starts from the generator's state at this sample; one in progress is replaced without its event. -/
def moveStart (n inst : Nat) (r : MoveReq) (s : State) : State :=
  let a := s.get (R.AMAX.value n r.profile)
  let j := s.get (R.JMAX.value n r.profile)
  let s := if s.get R.TR_CTL.TR_LOOP = n then traceTrig 1 s else s
  if r.direct ∧ (a = 0 ∨ j = 0) then moveEnd n r.target (s.modLoop n (fun x => { x with req := none }))
  else
    let v := s.get (R.VMAX.value n r.profile)
    (s.modLoop n (fun x => { x with req := none, move := some { start := x.gen, t0 := inst, target := r.target, vmax := v, amax := a * 1000, jmax := j * 1000000, profile := r.profile } })).setFlag
      (R.LOOP_STATUS.PROF_RUN n)

/-- STEP_POS[i] of a loop. -/
def State.stepPos (s : State) (n i : Nat) : Nat :=
  match i with
  | 0 => s.get (R.STEP_POS01.STEP_POS0 n)
  | 1 => s.get (R.STEP_POS01.STEP_POS1 n)
  | 2 => s.get (R.STEP_POS23.STEP_POS2 n)
  | _ => s.get (R.STEP_POS23.STEP_POS3 n)

/-- The target of a loop's move or of the move asked for, and where it rests otherwise. -/
def Loop.aim (x : Loop) : Int :=
  match x.req, x.move with
  | some r, _ => r.target
  | none, some m => m.target
  | none, none => x.gen.v / 65536

/-- The end of an active part in STEP: the generator moves to the next position, before frame flyback to STEP_POS[0]
(R235). -/
def stepMove (h line : Nat) (s : State) : State :=
  let n := 2 * h + 1
  match s.fmt h with
  | some f =>
    if s.loopMode n = 4 then
      let i := if line + 1 = (s.head h).len then 0 else (line + 1) % f.inter
      s.modLoop n (fun x => { x with req := some { target := s.stepPos n i, profile := 1 } })
    else s
  | none => s

/-- The head is in frame flyback, or runs no format: in STEP the target is STEP_POS[0] (R235). -/
def State.flyback (s : State) (h : Nat) : Bool :=
  let x := s.head h
  (s.fmt h).isNone || !x.opened || decide (x.len ≤ x.ends)

/-- Moves that a mode asks for by itself: STEP_POS[0] in frame flyback and while no format runs, and the ends of a sweep
(R235). -/
def modeMove (n : Nat) (y : Int) (s : State) : State :=
  let x := s.loop n
  let mode := s.loopMode n
  if mode = 4 ∧ s.flyback (n / 2) ∧ x.aim ≠ s.stepPos n 0 then
    s.setLoop n { x with req := some { target := s.stepPos n 0, profile := 1 } }
  else if mode = 5 ∧ x.move = none ∧ x.req = none then
    let lo := s.geti (R.SWEEP_LO.value n)
    let hi := s.geti (R.SWEEP_HI.value n)
    let up := if x.gen.v = lo * 65536 then true else if x.gen.v = hi * 65536 then false
      else decide ((hi - y).natAbs < (y - lo).natAbs)
    s.setLoop n { x with sweepUp := up, req := some { target := if up then hi else lo, profile := 1 } }
  else s

/-- The generator of a move in progress at a sample: on its target once the move has ended. -/
def Move.at_ (m : Move) (vel : Bool) (inst : Nat) : Gen :=
  if m.ended vel (inst - m.t0) then { v := m.target * 65536 } else m.shape vel (inst - m.t0)

/-- The move in progress is evaluated at a sample and may finish (R233). -/
def moveEval (n inst : Nat) (s : State) : State :=
  match (s.loop n).move with
  | none => s
  | some m =>
    let vel := velMode (s.loopMode n)
    if m.ended vel (inst - m.t0) then moveEnd n m.target s
    else s.modLoop n (fun x => { x with gen := m.shape vel (inst - m.t0) })

/-- A move asked for begins at a sample, from the state that the generator has there (R233). -/
def moveTake (n inst : Nat) (r : MoveReq) (s : State) : State :=
  let vel := velMode (s.loopMode n)
  moveStart n inst r (s.modLoop n (fun x => { x with gen := (x.move.map (fun m => m.at_ vel inst)).getD x.gen }))

/-- gen_step at a sample: the move asked for begins, and the move in progress is evaluated (R233). -/
def genStep (n inst : Nat) (y : Int) (s : State) : State :=
  let s := modeMove n y s
  moveEval n inst (match (s.loop n).req with | some r => moveTake n inst r s | none => s)

/-! ### Modes (R231, R239) -/

/-- The modes a loop allows (R224). -/
def modeAllowed (n : Nat) (enc : Bool) (mode : Nat) : Bool :=
  if mode = 7 then false
  else if n = 0 ∨ n = 2 then mode ≠ 4 && mode ≠ 5
  else if n = 1 ∨ n = 3 then mode ≠ 2
  else mode ≠ 4 && (mode ≠ 2 || enc)

/-- A mode is taken: the generator starts at y, in OPEN at the output last sent, with both rates 0 (R239). -/
def modeTake (n mode : Nat) (y : Int) (s : State) : State :=
  let s := if s.get R.TR_CTL.TR_LOOP = n then traceTrig 2 s else s
  if mode = 0 then
    let park := (s.loop n).parking
    let s := loopOff n s
    if park then setParked n s else s
  else
    let s := s.modLoop n (fun x => { x with gen := { v := (if mode = 1 then x.uLast else y) * 65536 }, move := none,
                                            req := none, hold := y, movingSince := none })
    (s.put (R.LOOP_STATUS.MODE_NOW n) mode).clrFlag (R.LOOP_STATUS.PROF_RUN n)

/-- MODE as written is looked at: not taken with MODE_REJ where it is not allowed, while FAULT_CAUSE stands or during a
park. -/
def takeMode (n : Nat) (y : Int) (s : State) : State :=
  let x := s.loop n
  let mode := s.get (R.LOOP_CTL.MODE n)
  let s := s.setLoop n { x with modeReq := false }
  if !x.modeReq || decide (mode = s.loopMode n) then s
  else if !modeAllowed n (s.loopEnc n).isSome mode ||
      (decide (mode ≠ 0) && (decide (s.get (R.LOOP_STATUS.FAULT_CAUSE n) ≠ 0) || s.flag R.MC_STATUS.PARK_REQ)) then
    s.setFlag (R.LOOP_STATUS.MODE_REJ n)
  else modeTake n mode y s

/-! ### The repetitive controller (R237, R238) -/

/-- The encoder and CPR of a loop whose repetitive controller is on. -/
def State.rcOn (s : State) (n : Nat) : Option (Nat × Nat) :=
  match s.loopEnc n with
  | some m => let cpr := s.get (R.ENC_CFG.CPR m)
              if cpr ≠ 0 ∧ s.flag (R.LOOP_CTL.RC_EN n) then some (m, cpr) else none
  | none => none

/-- RC_VALID: no bad index stands (R238). -/
def State.rcValid (s : State) (n : Nat) : Bool :=
  match s.rcOn n with
  | some (m, _) => (s.enc m).bad.isNone
  | none => false

/-- The current bin. -/
def State.rcBin (s : State) (n : Nat) : Nat :=
  match s.rcOn n with
  | some (m, cpr) => ((s.geti (R.ENC_POS.value m) - s.geti (R.ENC_IDX_POS.IDX_POS m)) % (cpr : Int)).toNat * 4096 / cpr
  | none => 0

/-- An entry of the repetitive table. -/
def State.rcEntry (s : State) (n b : Nat) : Int := sgn 16 (s.load (rcBase + 0x4000 * n + 4 * (b % 4096)) 2)

/-- rc_term(). -/
def State.rcTerm (s : State) (n : Nat) : Int :=
  if s.rcValid n then s.rcEntry n (s.rcBin n + s.get (R.RC_CFG.RC_LEAD n)) else 0

/-- The update of one bin. -/
def rcLearnBin (n : Nat) (e : Int) (b : Nat) (s : State) : State :=
  let l := s.rcEntry n b + sra16 ((s.get (R.RC_CFG.RC_GAIN n) : Int) * e)
  let fg := s.get (R.RC_CFG.RC_FORGET n)
  let l := if fg ≠ 0 then l - l / (2 ^ fg : Nat) else l
  let lim : Int := s.get (R.RC_LIM.value n)
  s.store (rcBase + 0x4000 * n + 4 * (b % 4096)) 2 (ofInt 16 (clampInt (-lim) lim l))

/-- The bins from the one after `from_`, `count` of them. -/
def rcLearn (n : Nat) (e : Int) (from_ count : Nat) (s : State) : State :=
  upTo count (fun i => rcLearnBin n e (from_ + 1 + i)) s

/-- RC_CLEAR: every entry of a loop's table is 0. -/
def rcClear (n : Nat) (s : State) : State :=
  let a := rcBase + 0x4000 * n
  { s with mem := s.mem.filter (fun c => !decide (a ≤ c.1 ∧ c.1 < a + 0x4000)) }

/-! ### Facet phase (R236) and lateness (R235) -/

/-- The facet phase of a head's polygon loop at a line start; a loop that does not measure it has no phase term. -/
def facetPhase (h : Nat) (s : State) : State :=
  let n := 2 * h
  match s.loopEnc n with
  | none => s
  | some m =>
    let cpr := s.get (R.ENC_CFG.CPR m)
    let facets := max 1 (s.get (R.FACET_CFG.FACETS n))
    if s.loopMode n ≠ 2 ∨ !s.flag (R.LOOP_CTL.PH_EN n) ∨ cpr = 0 ∨ cpr % facets ≠ 0 then
      s.modLoop n (fun x => { x with phTerm := 0, phRun := 0 })
    else
      let cf : Int := (cpr / facets : Nat)
      let p := (s.geti (R.ENC_POS.value m) - s.geti (R.ENC_IDX_POS.IDX_POS m)) % (cpr : Int)
      let u := (p - (s.get (R.FACET_CFG.FACET_OFS n) : Int)) % cf
      let eps := if u < (cf + 1) / 2 then u else u - cf
      let s := s.puti (R.PH_ERR.value n) eps
      let x : Loop := { s.loop n with eps := eps }
      let iph := x.iph + (s.get (R.PH_GAIN.KIPH n) : Int) * eps
      let inTol := decide (eps.natAbs ≤ s.get (R.PH_TOL.value n))
      let run := if inTol then x.phRun + 1 else 0
      let s := s.setLoop n { x with iph := iph, phTerm := sra16 ((s.get (R.PH_GAIN.KPH n) : Int) * eps + iph), phRun := run }
      if !inTol then s.clrFlag (R.LOOP_STATUS.PH_LOCK n)
      else if 16 ≤ run then s.setFlag (R.LOOP_STATUS.PH_LOCK n) else s

/-- Iph is 0 when PH_EN is set and when the head's format starts. -/
def facetZero (h : Nat) (s : State) : State := s.modLoop (2 * h) (fun x => { x with iph := 0 })

/-- STEP_LATE at a line start. -/
def stepLate (h : Nat) (s : State) : State :=
  let n := 2 * h + 1
  if s.loopMode n = 4 ∧ s.get (R.STEP_TOL.value n) < (s.loop n).e.natAbs then
    (s.setFlag (R.LOOP_STATUS.STEP_LATE n)).bumpSat (R.STEP_LATE_COUNT.STEP_LATE_N n)
  else s

/-! ### The sample (R225, R232, R239, R240, R242) -/

/-- A loop faults (R242): OFF, FAULT_CAUSE, MC_STATUS, an error of class MOTION. -/
def loopFault (n cause : Nat) (s : State) : State :=
  let park := (s.loop n).parking
  let s := (loopOff n s).put (R.LOOP_STATUS.FAULT_CAUSE n) cause
  let s := if park then setParked n s else s
  let s := s.put R.MC_STATUS.FAULTED (s.get R.MC_STATUS.FAULTED ||| 2 ^ n)
  enterErr 7 n (R.LOOP_STATUS.FAULT_CAUSE n) (traceTrig 3 s)

/-- FAULT_CAUSE that a sample gives, the lowest that holds; 0 for none. -/
def State.loopFaultCause (s : State) (n inst : Nat) : Nat :=
  let x := s.loop n
  let lost := match s.loopEnc n, x.movingSince with
    | some m, some t0 =>
      let last := match (s.enc m).last with | some t => max t t0 | none => t0
      decide (s.loopMode n = 2 ∧ last + fineUs (s.get (R.FAULT_CFG.ENC_TIMEOUT n)) ≤ inst)
    | _, _ => false
  if lost then 1
  else if 8 ≤ x.range then 2
  else if s.get (R.FOLLOW_MAX.value n) ≠ 0 ∧ max 1 (s.get (R.FAULT_CFG.FOLLOW_N n)) ≤ x.follow then 3
  else 0

/-- The blend of R240: the output sent, and the blend that goes on. -/
def blendOut (u lo hi : Int) (b : Option Blend) : Int × Option Blend :=
  match b with
  | none => (u, none)
  | some b =>
    if b.k < b.nb then
      (clampInt lo hi (truncDiv (u * b.nb + (b.u0 - u) * (b.nb - b.k : Nat)) b.nb), some { b with k := b.k + 1 })
    else (u, none)

/-- The control law of a running loop at a sample whose y is known and whose pending changes are taken (R232): `modeNew`
and `coefNew` say what was taken at this sample. -/
def loopLaw (n inst : Nat) (y : Int) (modeNew coefNew : Bool) (s : State) : State :=
  let x := s.loop n
  let mode := s.loopMode n
  let c := s.get (R.LOOP_STATUS.COEF_NOW n)
  let gv := sra16 x.gen.v
  let r0 := if mode = 6 then x.hold else gv
  let locked := decide (mode = 2) && s.flag (R.LOOP_CTL.PH_EN n) && decide (n = 0 ∨ n = 2) && (s.fmt (n / 2)).isSome
  let r := if locked then r0 - x.phTerm else r0
  let lim : Int := (s.get (R.I_LIM.value n c) : Int) * 65536
  let rate := if mode = 2 then gv else sra16 x.gen.r
  let rc := s.rcTerm n
  let e := if mode = 1 then 0 else r - y
  let p := wrap64 (s.geti (R.KP.value n c) * e)
  let d := if mode = 1 then 0 else wrap64 (s.geti (R.KD.value n c) * (x.yPrev - y))
  let f := if mode = 1 then 0 else wrap64 (s.geti (R.KF.value n c) * rate)
  let i := if mode = 1 then x.i
    else if modeNew || coefNew then clampInt (-lim) lim (wrap64 ((x.uLast - rc) * 65536 - (p + d + f)))
    else clampInt (-lim) lim (wrap64 (x.i + s.geti (R.KI.value n c) * e))
  let uRaw := if mode = 1 then r else sra16 (p + i + d + f) + rc
  let lo := s.geti (R.U_LIM.U_MIN n c)
  let hi := s.geti (R.U_LIM.U_MAX n c)
  let u := clampInt lo hi uRaw
  let sat := decide (u ≠ uRaw)
  let i := if sat ∧ mode ≠ 1 then clampInt (-lim) lim (wrap64 (i - (uRaw - u) * 65536)) else i
  let nb := ceilDiv (s.get (R.HO_CFG.HO_TIME n) * 1000) (10000 * (s.get (R.LOOP_CTL.SAMPLE_DIV n) + 1))
  let jump := modeNew && decide (s.get (R.HO_CFG.HO_LIMIT n) < (u - x.uLast).natAbs)
  let b := if modeNew then (if jump then some { k := 0, nb := nb, u0 := x.uLast } else none) else x.blend
  let (sent, b') := blendOut u lo hi b
  let s := if jump then s.setFlag (R.LOOP_STATUS.HANDOVER_BLEND n) else s
  let s := (s.putb (R.LOOP_STATUS.HO_BLENDING n) b'.isSome).putb (R.LOOP_STATUS.SAT n) sat
  let s := (s.puti (R.FEEDBACK.Y n) y).puti (R.OUTPUT.U n) sent
  let bin := s.rcBin n
  let learn := s.flag (R.LOOP_CTL.RC_LEARN n) && s.rcValid n && !sat && b'.isNone && decide (mode ≠ 1)
  let s := if learn then rcLearn n e x.rcPrev ((bin + 4096 - x.rcPrev) % 4096) s else s
  let sig : SMap Int := (((((((((((SMap.put [] 0 0 r).put 0 1 y).put 0 2 e).put 0 3 sent).put 0 4 (sra16 i)).put 0 5
    (sra16 p)).put 0 6 (sra16 d)).put 0 7 (sra16 f)).put 0 8 rc).put 0 9 (sra16 x.gen.r)).put 0 10 (sra16 x.gen.a))
  let atEnd := (s.loopEnc n).isNone && decide (y = 0 ∨ y = 4095)
  let moving := if mode = 2 ∧ x.gen.v ≠ 0 then (match x.movingSince with | some t => some t | none => some inst) else none
  let s := s.setLoop n { x with
    i := i, yPrev := y, uLast := sent, blend := b', e := e, rcPrev := bin, sig := sig, movingSince := moving,
    follow := if s.get (R.FOLLOW_MAX.value n) ≠ 0 ∧ s.get (R.FOLLOW_MAX.value n) < e.natAbs then x.follow + 1 else 0,
    range := if atEnd then x.range + 1 else 0,
    cmds := x.cmds ++ [(some sent, inst + fineUs 10)] }
  let cause := s.loopFaultCause n inst
  if cause = 0 then s else loopFault n cause s

/-- The latest sample instant of a loop at or before the present, in fine LSB (R225). -/
def State.sampleInst (s : State) (n : Nat) : Option Nat :=
  let p := 10000 * (s.get (R.LOOP_CTL.SAMPLE_DIV n) + 1)
  if s.ns < 1000 * n then none else some (fineNs ((s.ns - 1000 * n) / p * p + 1000 * n))

/-- A loop's sample at its instant: a sample whose conversion has not finished is late (R229). -/
def loopSampleAt (n inst : Nat) (s : State) : State :=
  let x := s.loop n
  let late := (s.loopEnc n).isNone && !x.convNew && s.loopRuns n
  let s := s.setLoop n { x with sampled := inst + 1, convNew := false }
  if late then s.modLoop n (fun x => { x with cmds := x.cmds ++ [(none, inst + fineUs 10)] })
  else
    let asked := if x.modeReq then s.get (R.LOOP_CTL.MODE n) else s.loopMode n
    let y := s.loopY n inst (if modeAllowed n (s.loopEnc n).isSome asked then asked else s.loopMode n)
    let old := s.loopMode n
    let s := takeMode n y s
    let now := s.loopMode n
    let y := s.loopY n inst now
    let s := speedMark n inst s
    let coef := decide (s.get (R.LOOP_CTL.COEF_SEL n) ≠ s.get (R.LOOP_STATUS.COEF_NOW n))
    let s := if coef ∧ now ≠ 0 ∧ s.flag (R.LOOP_STATUS.SAT n) then s.setFlag (R.LOOP_STATUS.COEF_SWAP_SAT n) else s
    let s := s.put (R.LOOP_STATUS.COEF_NOW n) (s.get (R.LOOP_CTL.COEF_SEL n))
    if now = 0 then s
    else
      let s := genStep n inst y s
      if s.loopRuns n then loopLaw n inst y (decide (now ≠ old)) coef s else s

/-- A loop samples (R225), and the trace unit with it (R244). -/
def loopSample (n : Nat) (s : State) : State :=
  match s.sampleInst n with
  | none => s
  | some inst => if inst < (s.loop n).sampled then s else traceSample n (loopSampleAt n inst s)

/-- The oldest command of a loop applies at its instant; one not ready leaves the previous command and counts (R225). -/
def commandApply (n : Nat) (late : Bool) (s : State) : State :=
  let x := s.loop n
  match x.cmds with
  | (u, t) :: r =>
    if s.now < t then s
    else match (if late then none else u) with
      | some v => s.setLoop n { x with cmds := r, out := v, outAt := t, outs := ((x.out, x.outAt) :: x.outs).take 8 }
      | none => (s.setLoop n { x with cmds := r }).bumpSat (R.LATE_COUNT.LATE n)
  | [] => s

/-- The carrier period of a pair, ns (R230). -/
def State.pwmPeriod (s : State) (n : Nat) : Nat := max 1000 (s.get (R.PWM_CFG.PWM_PERIOD n))

/-- The command of the carrier period that begins at `start` ns: the latest one applied by then (R230). -/
def Loop.carried (x : Loop) (start : Nat) : Int :=
  match ((x.out, x.outAt) :: x.outs).find? (fun p => decide (p.2 ≤ fineNs start)) with
  | some p => p.1
  | none => 0

/-- The high time of PWMn_H in the carrier period that begins at `start` ns; 0 in OFF, where both legs are low (R230). -/
def State.pwmHigh (s : State) (n start : Nat) : Nat :=
  if s.loopRuns n then ((32768 + (s.loop n).carried start) * s.pwmPeriod n / 65536).toNat else 0

/-- A pair's legs (R230). -/
structure Legs where
  h : Bool
  l : Bool
  deriving DecidableEq, Repr

/-- The legs of a pair at ns `t`: none at high impedance, in a unit without OWN (11_twin.md R280) or in reset
(17_startup_faults.md R387); both low in OFF; otherwise the complementary carrier, in which a leg that goes high waits DEAD
after the transition (log 113), swapped by PWM_INV. Carrier periods count from device time 0 (log 113). -/
def State.pwmLegs (s : State) (n t : Nat) : Option Legs :=
  let per := s.pwmPeriod n
  let start := t / per * per
  let high := s.pwmHigh n start
  let dead := max 5 (s.get (R.PWM_CFG.DEAD n))
  let o := t - start
  let x : Legs := if high = 0 then ⟨false, true⟩ else ⟨decide (dead ≤ o ∧ o < high), decide (high + dead ≤ o)⟩
  if !s.ownHeld then none
  else if !s.loopRuns n then some ⟨false, false⟩
  else some (if s.flag (R.PWM_CFG.PWM_INV n) then ⟨x.l, x.h⟩ else x)

/-! ### Set-points, profiles and the park (R234, R243) -/

/-- A set-point is taken: the loop is in torque, position or velocity mode and no park is requested. -/
def State.setpointOk (s : State) (n : Nat) : Bool :=
  decide (s.loopMode n = 1 ∨ s.loopMode n = 2 ∨ s.loopMode n = 3) && !s.flag R.MC_STATUS.PARK_REQ

/-- A set-point write: the move under profile 0, or SP_REJ with nothing changed. -/
def setpointWrite (n v : Nat) (s : State) : State :=
  if s.setpointOk n then
    (s.put (R.SETPOINT.value n) v).modLoop n
      (fun x => { x with req := some { target := sgn 32 (v % 2 ^ 32), profile := 0, direct := true } })
  else s.setFlag (R.LOOP_STATUS.SP_REJ n)

/-- MPROF: whether the move to profile p's target was refused. -/
def profileMove (n p : Nat) (s : State) : State × Bool :=
  let mode := s.loopMode n
  let refuse := decide (s.get (R.LOOP_STATUS.FAULT_CAUSE n) ≠ 0) || s.flag R.MC_STATUS.PARK_REQ ||
    !decide (mode = 1 ∨ mode = 2 ∨ mode = 3) || decide (s.get (R.AMAX.value n p) = 0) ||
    decide (s.get (R.JMAX.value n p) = 0) || (decide (mode = 3) && decide (s.get (R.VMAX.value n p) = 0))
  if refuse then (s, true)
  else (s.modLoop n (fun x => { x with req := some { target := s.geti (R.TARGET.value n p), profile := p } }), false)

/-- A park request reaches a loop. -/
def parkLoop (n : Nat) (s : State) : State :=
  if !s.loopRuns n ∨ s.get (R.LOOP_STATUS.FAULT_CAUSE n) ≠ 0 then setParked n s
  else if s.get (R.AMAX.value n 15) = 0 ∨ s.get (R.JMAX.value n 15) = 0 then setParked n (loopOff n s)
  else
    let x := s.loop n
    let mode := s.loopMode n
    let g := if mode = 6 then { v := x.hold * 65536 } else x.gen
    let s := s.setLoop n { x with gen := g, parking := true, req := some { target := s.geti (R.TARGET.value n 15), profile := 15 } }
    if velMode mode then s else s.put (R.LOOP_STATUS.MODE_NOW n) 3

/-- The park request (R243). -/
def parkAll (s : State) : State := upTo 8 parkLoop (s.setFlag R.MC_STATUS.PARK_REQ)

/-- Every loop is parked. -/
def State.allParked (s : State) : Bool := s.get R.MC_STATUS.PARKED_ALL = 255

/-! ### Meanings -/

/-- COMMAND_APPLY (R225). -/
def execCommandApply (t : Nat) (n : Fin 8) (late : Bool) (s : State) : Host.Outcome State Fault Refusal :=
  act t (fun s => commandApply n late s) s

/-- ENC_EDGE (R227). -/
def execEncEdge (t : Nat) (m : Fin 4) (a b : Bool) (s : State) : Host.Outcome State Fault Refusal :=
  act t (fun s => encEdge m a b s) s

/-- ENC_INDEX (R227, R238). -/
def execEncIndex (t : Nat) (m : Fin 4) (rise : Bool) (s : State) : Host.Outcome State Fault Refusal :=
  act t (fun s => encIndex m rise s) s

end Sys2Proof.Machine
end

