-- ==== Sys2Proof/Machine/Capture.lean ====
section
/-! DEFINITION. The capture engine (13_capture.md): sources and conditions, records in capture memory, the trigger, the
end of a capture and its read-out. -/

namespace Sys2Proof.Machine

def State.setCap (s : State) (x : Capture) : State := { s with cap := x }

/-- CAP_STATE (R330): 0 idle, 1 armed, 2 triggered, 3 done, 4 reading out; and the setup armed. -/
def State.capState (s : State) : Nat := s.get R.CAP_STATUS.CAP_STATE
def State.capSetup (s : State) : Nat := s.get R.CAP_STATUS.SETUP_NOW

/-! ### Memory and records (R318, R319) -/

/-- The capacity C in records. -/
def State.capSize (s : State) : Nat := 1048572 + 65536 * s.get R.CAP_DRAM_SIZE.value

/-- Where record number r since arming lies: the ring goes round the whole capacity before the trigger and after it. -/
def State.capAddr (s : State) (r : Nat) : Nat :=
  let i := r % s.capSize
  if i < 1048572 then captureBase + 64 + 16 * i
  else dramBase + mib (s.get R.CAP_DRAM_BASE.value) + 16 * (i - 1048572)

/-- A record may still be stored: before the trigger always, after it while more than the held-back record remains
(R325). -/
def State.capRoom (s : State) : Bool := s.cap.trig.isNone || decide (s.cap.stored - s.cap.startRec + 1 < s.capSize)

/-- A record's words. -/
def capWords (kind slot : Nat) (trig avg : Bool) (count t data : Nat) : Nat :=
  wordsNat [kind + 2 ^ 4 * slot + 2 ^ 8 * b2n trig + 2 ^ 9 * b2n avg + 2 ^ 16 * count, t, data, data / 2 ^ 32]

/-- A record of the extension is an access of the capture engine's to DRAM (R318). -/
def capTouch (a : Nat) (s : State) : State := if dramBase ≤ a then dramUse 0x20 (a - dramBase) s else s

/-- A record's bytes as they read. -/
def State.capLoad (s : State) (r : Nat) : Nat := s.loadMapped (s.capAddr r) 16

/-- Store one record at the end; DRAM that is not mapped takes none (01_architecture.md R27). -/
def capPut (w : Nat) (s : State) : State :=
  let a := s.capAddr s.cap.stored
  let s := capTouch a (if dramBase ≤ a && !s.dramMapped (a - dramBase) then s else s.store a 16 w)
  s.setCap { s.cap with stored := s.cap.stored + 1 }

/-! ### The end of a capture (R325, R327, R328) -/

/-- Samples that have followed the trigger record and were stored. -/
def Capture.post (x : Capture) : Nat := match x.trig with | some t => x.samples - t.upto | none => 0

/-- Whether a record in the ring is a sample (EVENT or VALUE). -/
def State.capIsSample (s : State) (r : Nat) : Bool :=
  let k := s.capLoad r % 16
  decide (k = 1 ∨ k = 2)

/-- Walk back from record r over `need` samples: the first record kept and how many samples were found. -/
def capWalk (s : State) (need r found : Nat) (fuel : Nat) : Nat × Nat :=
  match fuel with
  | 0 => (r, found)
  | n + 1 =>
    if need = 0 ∨ r = 0 then (r, found)
    else if s.capIsSample (r - 1) then capWalk s (need - 1) (r - 1) (found + 1) n
    else capWalk s need (r - 1) found n

/-- Bits [63:32] of device time of a record. -/
def Capture.hiAt (x : Capture) (r : Nat) : Nat :=
  match x.his.find? (fun p => decide (p.1 ≤ r)) with
  | some p => p.2
  | none => 0

/-- The header (R328). -/
def capHeader (stopped : Bool) (s : State) : State :=
  let x := s.cap
  let (trg, mask, cause, time, idx) := match x.trig with
    | some t => (true, t.mask, t.cause, t.time, t.pos - x.startRec)
    | none => (false, 0, 0, 0, 0)
  let w := wordsNat [0x50414343,
    s.capSetup + 2 ^ 4 * b2n trg + 2 ^ 5 * b2n x.isClipped + 2 ^ 6 * b2n x.preCut + 2 ^ 7 * b2n stopped
      + 2 ^ 8 * b2n (decide (s.get R.CAP_DRAM_SIZE.value ≠ 0)) + 2 ^ 16 * mask,
    cause, s.get R.CAP_NUM.value, x.armTime, x.armTime / 2 ^ 32, time, time / 2 ^ 32, x.stored - x.startRec,
    x.startRec % s.capSize, idx, x.keptPre, x.post, x.lostGap, s.capSize, x.hiAt x.startRec]
  s.store captureBase 64 w

/-- One record of the read-out. -/
def readoutRec (r : Nat) (s : State) : State := pushStream 5 {} ⟨16, s.capLoad r⟩ (capTouch (s.capAddr r) s)

/-- READOUT in state 3 (R329): header and records in read order on stream 5; the state is 4 until the last parcel has
closed. -/
def readoutAll (s : State) : State :=
  let x := s.cap
  let s := s.put R.CAP_STATUS.CAP_STATE 4
  let s := pushStream 5 {} ⟨64, s.load captureBase 64⟩ s
  let s := upTo (x.stored - x.startRec) (fun i => readoutRec (x.startRec + i)) s
  s.put R.CAP_STATUS.CAP_STATE (if (s.stream 5).open_.isSome then 4 else 3)

/-- READOUT, refused with ARM_REJ outside state 3. -/
def capReadout (s : State) : State :=
  if s.capState = 3 then readoutAll s else s.setFlag R.CAP_STATUS.ARM_REJ

/-- The capture is done: the closing GAP record where it was clipped, the header, state 3, and AUTO_READ (R325, R327). -/
def capFinish (stopped : Bool) (s : State) : State :=
  let x := s.cap
  let s := if x.isClipped then
      let s := capPut (capWords 3 0 false false 0 x.clipFrom (x.clipped % 2 ^ 32 + 2 ^ 32 * min (2 ^ 32 - 1) (x.clipTo - x.clipFrom))) s
      s.setCap { s.cap with lostGap := s.cap.lostGap + x.clipped }
    else s
  let s := (capHeader stopped s).put R.CAP_STATUS.CAP_STATE 3
  let s := s.setCap { s.cap with slots := [], conds := [], report := none, next := none }
  if s.flag R.CAP_CTL.AUTO_READ then readoutAll s else s

/-- After a record: the post-trigger part ends at POST samples, and CLIPPED is set when only the held-back record
remains (R325). -/
def capCheck (s : State) : State :=
  if s.capState ≠ 2 then s
  else
    let post := s.get (R.CS_POST.POST s.capSetup)
    if post ≤ s.cap.post + s.cap.clipped then capFinish false s
    else if s.capRoom then s else s.setCap { s.cap with isClipped := true }

/-! ### The trigger (R323, R324, R325) -/

/-- The cause field of a condition mask: the kinds in order timeout, runt, pulse width, slew rate; the lower condition
among one kind. -/
def State.capCause (s : State) (mask : Nat) : Nat :=
  let of := fun k => ((List.range 4).find? (fun c => bit mask c && decide (s.get (R.TC_CTL.KIND s.capSetup c) = k))).map
    (fun c => k + 16 * c)
  match [3, 2, 1, 4].filterMap of with
  | c :: _ => c
  | [] => 0

/-- When a timeout condition next expires (R322). -/
def State.capDue (s : State) (c : Nat) : Nat :=
  let x := s.cap.conds.get {} c
  let a := s.get (R.TC_A.A s.capSetup c)
  match x.run with | some r => min (x.timer + a) (r + a) | none => x.timer + a

/-- Timeout conditions that expire at the instant `ns` (R322, R323). -/
def State.capExpiring (s : State) (ns : Nat) : Nat :=
  (List.range 4).foldl (fun m c => if s.get (R.TC_CTL.KIND s.capSetup c) = 3 ∧ s.capDue c = ns then m ||| 2 ^ c else m) 0

/-- Conditions met at the same ns: by samples that wait in a slot FIFO, and timeouts that expire (R323). -/
def State.capSameNs (s : State) (ns : Nat) : Nat :=
  s.cap.slots.foldl (fun m p => p.2.fifo.foldl (fun m x => if x.at_ = ns then m ||| x.met else m) m) (s.capExpiring ns)

/-- The record at which `need` samples from record r on have been counted. -/
def capCut (s : State) (need r fuel : Nat) : Nat :=
  match fuel with
  | 0 => r
  | n + 1 => if need = 0 then r else capCut s (need - b2n (s.capIsSample r)) (r + 1) n

/-- The XTRIG block on every causeway lane that is up (R324, 11_twin.md R283). -/
def sendXtrig (mask cause time : Nat) (s : State) : State :=
  let b := 0x61 + 2 ^ 8 * s.capSetup + 2 ^ 16 * mask + 2 ^ 24 * cause + 2 ^ 64 * time
  { s with twin := { s.twin with ctl := s.twin.ctl ++ s.cwyLanes.map (fun l => (l, b)) } }

/-- Samples beyond POST that were stored while a die's report was on its way are no part of the capture (R324, R325). -/
def capTrim (g : CapTrig) (s : State) : State :=
  let post := s.get (R.CS_POST.POST s.capSetup)
  let x := s.cap
  if post < x.samples - g.upto then
    s.setCap { x with stored := capCut s post (g.pos + 1) (x.stored - (g.pos + 1)), samples := g.upto + post }
  else s

/-- The capture triggers. -/
def capTrigger (g : CapTrig) (s : State) : State :=
  let n := s.capSetup
  let room := s.capSize - 1 - (s.cap.stored - g.pos)
  let s := capTrim g s
  let pre := s.get (R.CS_PRE.PRE n)
  let most := min pre g.before
  let want := min most (s.capSize - 2 - s.get (R.CS_POST.POST n))
  let w := capWalk s want g.pos 0 (min g.pos room)
  let s := s.setCap { s.cap with trig := some g, report := none, next := none, keptPre := w.2, startRec := w.1, preCut := decide (w.2 < most) }
  let s := traceTrig 4 (raiseEv 17 (s.put R.CAP_STATUS.CAP_STATE 2))
  let s := milestoneAt 0x09 0 (s.frameCount 0) g.time [s.get R.CAP_NUM.value, g.mask, g.cause] s
  let s := if s.flag (R.CS_CTL.XTRIG_OUT n) then sendXtrig g.mask g.cause g.time s else s
  capCheck s

/-- The trigger that record `pos`, the sample of instant `at_` that meets the conditions `met`, makes; none where it makes
none. -/
def State.capMakes (s : State) (met pos before upto ns at_ : Nat) : Option CapTrig :=
  if s.capState ≠ 1 ∨ s.cap.report.isSome ∨ met = 0 then none
  else
    let m := met ||| s.capSameNs at_
    some { mask := m, cause := s.capCause m, pos := pos, before := before, upto := upto, time := ns, met := at_ }

/-- The trigger that the record about to be stored makes, of whatever kind it is, where a twin or a software trigger waits
and no condition is met in its ns (R324). -/
def State.capNext (s : State) (ns n : Nat) : Option CapTrig :=
  if s.capState ≠ 1 ∨ s.cap.report.isSome ∨ s.capSameNs ns ≠ 0 then none
  else s.cap.next.map (fun p =>
    { mask := p.1, cause := p.2.1, pos := s.cap.stored, before := s.cap.samples, upto := s.cap.samples + n,
      time := p.2.2.getD ns, met := ns })

/-! ### Storing (R320, R325, R326) -/

/-- Store a record of n samples; where it meets no condition, a waiting trigger takes it. -/
def capKeep (ns n : Nat) (met : Bool) (w : Nat) (s : State) : State :=
  let g := if met then none else s.capNext ns n
  let s := capPut (w + 2 ^ 8 * b2n g.isSome) s
  let s := s.setCap { s.cap with samples := s.cap.samples + n }
  match g with
  | some g => capTrigger g s
  | none => s

/-- The capture is armed or triggered: it still takes records. -/
def State.capLive (s : State) : Bool := decide (s.capState = 1 ∨ s.capState = 2)

/-- Store a record whose device time is `ns`, with a TIME record ahead of it where bits [63:32] have changed; whether it
was stored. -/
def capStore (ns n : Nat) (met : Bool) (w : Nat) (s : State) : State × Bool :=
  let hi := ns / 2 ^ 32
  let fresh := match s.cap.his with | (_, h) :: _ => decide (h ≠ hi) | [] => true
  let first := s.cap.his.isEmpty
  let mark := fun (s : State) => if fresh then s.setCap { s.cap with his := (s.cap.stored, hi) :: s.cap.his } else s
  if !s.capRoom then (s, false)
  else
    let s := mark s
    let s := if fresh && !first then capKeep ns 0 met (capWords 5 0 false false 0 0 ns) s else s
    if s.capLive && s.capRoom then (capKeep ns n met w s, true) else (s, false)

/-- The GAP record of a slot that has lost samples goes ahead of its next record (R320), which meets conditions at `met`. -/
def capGap (k : Nat) (met : Option Nat) (s : State) : State :=
  let x := s.cslot k
  if x.lost = 0 then s
  else
    let r := capStore x.lostFrom 0 (met == some x.lostFrom) (capWords 3 k false false 0 x.lostFrom
      (x.lost % 2 ^ 32 + 2 ^ 32 * min (2 ^ 32 - 1) (x.lostTo - x.lostFrom))) s
    if r.2 then
      let s := r.1.setCslot k { r.1.cslot k with lost := 0 }
      s.setCap { s.cap with lostGap := s.cap.lostGap + x.lost }
    else r.1

/-- Conditions met in a trigger's own ns join its mask, also where their record comes later (R323); they take precedence of a
twin or software trigger (R324). -/
def State.capJoin (s : State) (met at_ : Nat) (g : CapTrig) : CapTrig :=
  if met = 0 ∨ g.met ≠ at_ then g
  else
    let m := if 16 ≤ g.mask then met else g.mask ||| met
    { g with mask := m, cause := s.capCause m }

/-- Store a record of slot k (KIND `kind`), whose sample of instant `at_` meets `met`: GAP ahead, the record, and what
follows from it. Conditions on a channel are reported by its die; every other trigger is taken at once (R324). -/
def capRecord (kind k : Nat) (avg : Bool) (count ns at_ data met : Nat) (s : State) : State :=
  let s := capGap k (if met = 0 then none else some at_) s
  if !s.capLive then s
  else
    let sample := decide (kind = 1 ∨ kind = 2)
    let n := b2n sample
    let fresh := match s.cap.his with | (_, h) :: _ => decide (h ≠ ns / 2 ^ 32) | [] => false
    let g := s.capMakes met (s.cap.stored + b2n fresh) s.cap.samples (s.cap.samples + n) ns at_
    let r := capStore ns n (decide (met ≠ 0)) (capWords kind k g.isSome avg count ns data) s
    let s := r.1
    if r.2 then
      let s := s.setCap { s.cap with report := s.cap.report.map (s.capJoin met at_), trig := s.cap.trig.map (s.capJoin met at_) }
      match g with
      | some g => if s.get (R.CS_SLOT.SRC_KIND s.capSetup k) = 1 then s.setCap { s.cap with report := some g } else capTrigger g s
      | none => capCheck s
    else if sample && s.capLive then
      let x := s.cap
      capCheck (s.setCap { x with isClipped := true, clipped := x.clipped + 1, clipFrom := if x.clipped = 0 then ns else x.clipFrom, clipTo := ns })
    else s

/-- The averaging interval of a slot ends, at the sample of instant `at_` where that meets conditions: its record, where it
holds a sample (R326). -/
def capAvgFlush (k met at_ : Nat) (s : State) : State :=
  let x := s.cslot k
  match x.avg with
  | none => s
  | some (t, n, sum) => capRecord 2 k true n t at_ (ofInt 64 sum) met (s.setCslot k { x with avg := none })

/-- Move a slot's averaging interval on so that it covers `ns`, ending the one in progress. -/
def capAvgAdvance (k ns : Nat) (s : State) : State :=
  let len := 1000 * s.get (R.CS_CTL.AVG_US s.capSetup)
  let x := s.cslot k
  if len = 0 ∨ ns < x.avgEnd then s
  else
    let s := capAvgFlush k 0 ns s
    s.setCslot k { s.cslot k with avgEnd := x.avgEnd + ((ns - x.avgEnd) / len + 1) * len }

/-- A raw value joins its slot's averaging interval; the interval is cut at the trigger sample and at 65,535 samples. -/
def capAvgAdd (k : Nat) (m : Sample) (s : State) : State :=
  let s := capAvgAdvance k m.at_ s
  let x := s.cslot k
  let a := match x.avg with
    | some (t, n, sum) => (t, n + 1, sum + sgn 64 m.data)
    | none => (m.at_, 1, sgn 64 m.data)
  let s := s.setCslot k { x with avg := some a }
  if (m.met ≠ 0 ∧ s.capState = 1 ∧ s.cap.report = none) ∨ a.2.1 = 65535 then capAvgFlush k m.met m.at_ s else s

/-- An averaging interval ends: samples of it that still wait in the FIFO belong to it, and those that wait mark how far the
slot has come. -/
def captureAvgEnd (k : Nat) (s : State) : State :=
  if s.capLive then capAvgAdvance k (match (s.cslot k).fifo with | m :: _ => min m.at_ s.ns | [] => s.ns) s else s

/-- The oldest sample of a slot's FIFO is stored (R320). -/
def captureStore (k : Nat) (s : State) : State :=
  let x := s.cslot k
  match x.fifo with
  | [] => s
  | m :: r =>
    if s.capLive then
      let s := s.setCslot k { x with fifo := r }
      if s.get (R.CS_SLOT.SRC_KIND s.capSetup k) = 1 then capRecord 1 k false 0 m.at_ m.at_ m.data m.met s
      else if s.get (R.CS_CTL.AVG_US s.capSetup) ≠ 0 then capAvgAdd k m s
      else capRecord 2 k false 1 m.at_ m.at_ m.data m.met s
    else s

/-! ### Conditions (R322) -/

/-- Conditions on a channel event: pulse width, runt, slew rate. -/
def State.metEvent (s : State) (c word : Nat) : Bool :=
  let n := s.capSetup
  let a := s.get (R.TC_A.A n c)
  let b := s.get (R.TC_B.B n c)
  let sense := s.flag (R.TC_CTL.SENSE n c)
  let within := fun v => decide (a ≤ v ∧ v ≤ b) != sense
  match s.get (R.TC_CTL.KIND n c) with
  | 1 => within (bits word 30 14)
  | 2 => bit word 60 && decide (a ≤ bits word 30 14)
  | 4 => within (bits word 44 10)
  | _ => false

/-- A value lies beyond the level C of a condition: above it, or below it with SENSE. -/
def State.beyondC (s : State) (c : Nat) (v : Int) : Bool :=
  let l := s.geti (R.TC_C.C s.capSetup c)
  if s.flag (R.TC_CTL.SENSE s.capSetup c) then decide (v < l) else decide (l < v)

/-- A condition on a value: whether this sample meets it, and its progress. -/
def State.metValue (s : State) (c : Nat) (prev : Option (Nat × Int)) (ns : Nat) (v : Int) (x : CapCond) : Bool × CapCond :=
  let n := s.capSetup
  let a := s.get (R.TC_A.A n c)
  let b := s.get (R.TC_B.B n c)
  let lev := s.geti (R.TC_C.C n c)
  match s.get (R.TC_CTL.KIND n c) with
  | 1 =>
    if s.beyondC c v then (false, { x with run := match x.run with | some r => some r | none => some ns })
    else match x.run with
      | some r => (decide (a ≤ ns - r ∧ ns - r ≤ b), { x with run := none })
      | none => (false, x)
  | 2 =>
    let up := match prev with | some (_, p) => decide (p ≤ lev ∧ lev < v) | none => false
    if decide (s.geti (R.TC_D.D n c) ≤ v) then (false, { x with rose := false })
    else if v ≤ lev then (x.rose, { x with rose := false })
    else (false, { x with rose := x.rose || up })
  | 3 =>
    if s.beyondC c v then (false, { x with timer := ns, run := match x.run with | some r => some r | none => some ns })
    else (false, { x with timer := ns, run := none })
  | 4 =>
    match prev with
    | some (t, p) =>
      let l := (v - p).natAbs * 1000
      let r := a * (ns - t)
      (if s.flag (R.TC_CTL.SENSE n c) then decide (l ≤ r) else decide (r ≤ l), x)
    | none => (false, x)
  | _ => (false, x)

/-- The mask of conditions that a sample of slot k meets, with the conditions' progress. -/
def capConds (k ns data : Nat) (value : Option Int) (prev : Option (Nat × Int)) (s : State) : State × Nat :=
  (List.range 4).foldl (fun (r : State × Nat) c =>
    let s := r.1
    if s.get (R.TC_CTL.TC_SLOT s.capSetup c) = k ∧ s.get (R.TC_CTL.KIND s.capSetup c) ≠ 0 then
      let x := s.cap.conds.get {} c
      let m := match value with
        | some v => s.metValue c prev ns v x
        | none => (s.metEvent c data, { x with timer := ns })
      (s.setCap { s.cap with conds := s.cap.conds.put {} c m.2 }, r.2 + (if m.1 then 2 ^ c else 0))
    else r) (s, 0)

/-- A sample is taken for slot k: into its FIFO, or counted where that is full (R320). -/
def capTake (k ns data : Nat) (value : Option Int) (s : State) : State :=
  let prev := (s.cslot k).prev
  let r := capConds k ns data value prev s
  let s := r.1
  let x : CapSlot := { s.cslot k with prev := value.map (fun v => (ns, v)) }
  if x.fifo.length < 64 then s.setCslot k { x with fifo := x.fifo ++ [{ at_ := ns, data := data, met := r.2 }] }
  else
    let s := s.setCslot k { x with lost := x.lost + 1, lostFrom := if x.lost = 0 then ns else x.lostFrom, lostTo := ns }
    s.bumpSat R.CAP_LOST.LOST

/-- A source of the given kind and selection gives a sample: every slot that names it takes one (R317). -/
def capOffer (kind sel ns data : Nat) (value : Option Int) (s : State) : State :=
  if s.capState = 1 ∨ s.capState = 2 then
    upTo 16 (fun k s =>
      if s.get (R.CS_SLOT.SRC_KIND s.capSetup k) = kind ∧ s.get (R.CS_SLOT.SRC_SEL s.capSetup k) = sel then
        capTake k ns data value s else s) s
  else s

/-- A composed event of a channel (R317), and a value of a value source. -/
def capEvent (ch ns : Nat) (word : BitVec 64) (s : State) : State := capOffer 1 ch ns word.toNat none s
def capValue (kind sel ns : Nat) (v : Int) (s : State) : State := capOffer kind sel ns (ofInt 64 v) (some v) s

/-- The motion nodes of a loop at a sample instant. -/
def capMotion (n ns : Nat) (s : State) : State := upTo 16 (fun g s => capValue 4 (n + 8 * g) ns (s.nodeSignal n g) s) s

/-- A timeout condition expires: a MARK record in its slot, and its timers begin again (R322). -/
def captureTimeout (c : Nat) (s : State) : State :=
  let n := s.capSetup
  let k := s.get (R.TC_CTL.TC_SLOT n c)
  if (s.capState = 1 ∨ s.capState = 2) ∧ s.get (R.TC_CTL.KIND n c) = 3 then
    let x := s.cap.conds.get {} c
    let a := s.get (R.TC_A.A n c)
    let due := s.capDue c
    if s.ns < due then s
    else
      let x := { x with timer := if x.timer + a = due then due else x.timer, run := x.run.map (fun r => if r + a = due then due else r) }
      let s := s.setCap { s.cap with conds := s.cap.conds.put {} c x }
      capRecord 4 k false 0 due due 0 (2 ^ c) s
  else s

/-! ### Arming (R321) -/

/-- A slot or a condition of a setup names a source that exists and suits its kind. -/
def State.capSlotOk (s : State) (n k : Nat) : Bool :=
  let sel := s.get (R.CS_SLOT.SRC_SEL n k)
  match s.get (R.CS_SLOT.SRC_KIND n k) with
  | 0 => true
  | 1 => s.chFitted sel
  | 2 => decide (sel < 32)
  | 3 => decide (sel < 8)
  | 4 => decide (sel / 8 < 14)
  | _ => false
def State.capCondOk (s : State) (n c : Nat) : Bool :=
  let k := s.get (R.TC_CTL.KIND n c)
  k = 0 || (decide (k ≤ 4) && decide (s.get (R.CS_SLOT.SRC_KIND n (s.get (R.TC_CTL.TC_SLOT n c))) ≠ 0))

/-- The setup is loaded. -/
def State.capLoaded (s : State) (n : Nat) : Bool :=
  s.flag (R.CS_CTL.SETUP_VALID n) && (List.range 16).all (s.capSlotOk n) && (List.range 4).all (s.capCondOk n)

/-- Arm setup n: 0 accepted, 1 busy, 2 not loaded. -/
def capArm (n : Nat) (s : State) : State × Nat :=
  if !s.capLoaded n then (s.setFlag R.CAP_STATUS.ARM_REJ, 2)
  else if s.capState = 1 ∨ s.capState = 2 ∨ s.capState = 4 then (s.setFlag R.CAP_STATUS.ARM_REJ, 1)
  else
    let s := ((s.bump R.CAP_NUM.value).put R.CAP_STATUS.CAP_STATE 1).put R.CAP_STATUS.SETUP_NOW n
    let s := s.put R.CAP_LOST.LOST 0
    let len := 1000 * s.get (R.CS_CTL.AVG_US n)
    let s := s.setCap { armTime := s.ns }
    let s := upTo 4 (fun c s => s.setCap { s.cap with conds := s.cap.conds.put {} c { timer := s.ns } }) s
    (upTo 16 (fun k s => s.setCslot k { avgEnd := if len = 0 then 0 else s.ns + len }) s, 0)

/-- CAP_FORCE: with FORCE_EN set the next record stored is the trigger record (R324). -/
def capForce (s : State) : State :=
  if s.capState = 1 ∧ s.flag (R.CS_CTL.FORCE_EN s.capSetup) ∧ s.cap.next = none then
    s.setCap { s.cap with next := some (32, 6, none) }
  else s

/-- CAP_STOP (R327): before the trigger the last PRE samples are kept. -/
def capStop (s : State) : State :=
  if s.capState = 1 then
    let x := s.cap
    let most := min (s.get (R.CS_PRE.PRE s.capSetup)) x.samples
    let w := capWalk s most x.stored 0 (min x.stored (s.capSize - 1))
    capFinish true (s.setCap { x with keptPre := w.2, startRec := w.1, preCut := decide (w.2 < most) })
  else if s.capState = 2 then capFinish true s
  else s

/-! ### Meanings -/

/-- LOOP_SAMPLE (R232): the loop's sample, the trace unit's, and the motion nodes' (R317). -/
def execLoopSample (t : Nat) (n : Fin 8) (s : State) : Host.Outcome State Fault Refusal :=
  act t (fun s =>
    let inst := s.sampleInst n
    let s' := loopSample n s
    match inst with
    | some i => if i < (s.loop n).sampled then s' else capMotion n (i / 128) s'
    | none => s') s

/-- CAPTURE_STORE (R320). -/
def execCaptureStore (t : Nat) (slot : Fin 16) (s : State) : Host.Outcome State Fault Refusal :=
  act t (fun s => captureStore slot s) s

/-- CAPTURE_TIMEOUT_EXPIRY (R322). -/
def execCaptureTimeoutExpiry (t : Nat) (cond : Fin 4) (s : State) : Host.Outcome State Fault Refusal :=
  act t (fun s => captureTimeout cond s) s

/-- CAPTURE_AVG_INTERVAL_END (R326). -/
def execCaptureAvgIntervalEnd (t : Nat) (slot : Fin 16) (s : State) : Host.Outcome State Fault Refusal :=
  act t (captureAvgEnd slot) s

/-- CAPTURE_TRIGGER_REPORT (R324). -/
def execCaptureTriggerReport (t : Nat) (s : State) : Host.Outcome State Fault Refusal :=
  act t (fun s => match s.cap.report with
    | some g => if s.capState = 1 then capTrigger g s else s
    | none => s) s

/-- XTRIG_RECEIVE (R324). -/
def execXtrigReceive (t : Nat) (_setup _mask _cause time : Nat) (s : State) : Host.Outcome State Fault Refusal :=
  act t (fun s =>
    if s.capState = 1 ∧ s.flag (R.CS_CTL.XTRIG_IN s.capSetup) ∧ s.cap.next = none then
      s.setCap { s.cap with next := some (16, 5, some (s.mapNs time)) }
    else s) s

end Sys2Proof.Machine
end

