-- ==== Sys2Proof/Machine/Channels.lean ====
section
/-! DEFINITION. Return channels (02_channels_and_time.md): the composition of events from the comparators' edges, the
event word, walk correction, the input FIFO, and binning into the windows and lenses of the channel's open ops
(03_ranging_operations.md R73, 04_echoes_and_points.md R93). -/

namespace Sys2Proof.Machine

/-! ### The channel -/

/-- CH_EN of a part-wide channel. -/
def State.chEn (s : State) (ch : Nat) : Bool := s.flag (R.CH_CFG.CH_EN (chDie ch) (chLocal ch))

/-- Stamping on the channel's head waits for the head's next frame after lock returned (R45). -/
def State.chWaits (s : State) (ch : Nat) : Bool :=
  match s.groupHead (ch / 12) with
  | some 0 => s.tb.resumeA
  | some _ => s.tb.resumeB
  | none => false

/-- The channel's group is switched to calibration (15_thermal_calibration.md R358). -/
def State.chInCal (s : State) (ch : Nat) : Bool := (s.calDie (chDie ch)).active.any (fun g => decide (g.1 = chGroup ch ∧ g.2.1 ≤ s.ns ∧ s.ns < g.2.2))

/-- The channel can take a new event: fitted, its die in service, enabled, the time base locked (R41, R45). -/
def State.chTakes (s : State) (ch : Nat) : Bool :=
  s.chFitted ch && s.dieUp (chDie ch) && s.chEn ch && s.flag R.TB_STATUS.LOCKED && !s.chWaits ch && !s.chInCal ch

/-- The termination of a channel's input (R30). -/
inductive Termination where
  | highImpedance | ohm100 | ohm200
  deriving DecidableEq, Repr

/-- The termination in effect: high impedance while the part is unpowered or in reset or the channel is disabled, whatever
TERM holds; otherwise as TERM selects (R30). -/
def State.termination (s : State) (ch : Nat) : Termination :=
  if s.su.power = .running ∧ s.chEn ch then
    match s.get (R.CH_CFG.TERM (chDie ch) (chLocal ch)) with
    | 1 => .ohm100
    | 2 => .ohm200
    | _ => .highImpedance
  else .highImpedance

/-- Walk entry i of a channel. -/
def State.walk (s : State) (ch i : Nat) : Int :=
  s.geti ((if i % 2 = 0 then R.CH_WALK.E_EVEN else R.CH_WALK.E_ODD) (chDie ch) (chLocal ch) (i / 2))

/-- The walk table in force on a channel: its 32 entries, none while WALK_EN is clear. -/
def State.walkTable (s : State) (ch : Nat) : List Int :=
  if s.flag (R.CH_CFG.WALK_EN (chDie ch) (chLocal ch)) then (List.range 32).map (s.walk ch) else []

/-- The walk correction W of an event of a given ToT under a walk table (R39). -/
def walkOf (tbl : List Int) (tot : Nat) : Int :=
  let e := fun i => tbl.getD i 0
  let i := tot / 512
  if tbl.isEmpty then 0
  else if i = 31 then e 31
  else roundDiv (e i * 512 + (e (i + 1) - e i) * (tot % 512 : Nat)) 512

/-- Begin an event at the present instant: HR is taken as LR where the high comparator is above its threshold (R34). The
walk table of the moment is the event's: a change applies from the next event (R40). -/
def Chan.begin_ (c : Chan) (now : Nat) (late : Bool) (tbl : List Int) : Chan :=
  { c with ev := some { lr := now, hr := if c.high then some now else none, late := late, walk := tbl } }

/-- LR and the level of the low comparator (R34): an event starts at a rise outside the re-arm time. -/
def lowRise (ch : Nat) (s : State) : State :=
  let c := s.chan ch
  if c.low || !s.chFitted ch then s
  else
    let c := { c with low := true, lowSince := s.now }
    if s.chTakes ch && c.ev.isNone && !c.blocked && decide (c.blind ≤ s.now) then
      s.setChan ch (c.begin_ s.now false (s.walkTable ch))
    else s.setChan ch c

/-- A crossing of the high comparator (R34): the first HR and the last HF are kept, a second rise sets MULTI. -/
def highCross (ch : Nat) (rise : Bool) (s : State) : State :=
  let c := s.chan ch
  if c.high = rise || !s.chFitted ch then s
  else
    let c := { c with high := rise }
    match c.ev with
    | none => s.setChan ch c
    | some e =>
      let e := if rise then
          if e.hr.isNone then { e with hr := some s.now } else { e with multi := true }
        else { e with hf := some s.now }
      s.setChan ch { c with ev := some e }

/-- The re-arm time in fine LSB (R35). -/
def State.rearmLen (s : State) (ch : Nat) : Nat := 32 * max 8 (s.get (R.CH_DEAD.REARM (chDie ch) (chLocal ch)))

/-- The event word (R38) of an event that ends at `lf`, or is closed there at 128 ns. Where the high comparator is above its
threshold as the low one falls, R34 names no HF: the last fall seen counts, and `lf` where there was none (DESIGN CHOICE,
log 109). -/
def eventWord (e : OpenEvent) (lf : Nat) (sat : Bool) : BitVec 64 :=
  let tot := if sat then 16383 else min 16383 (lf - e.lr)
  let slew := match e.hr with | some h => min 1023 (h - e.lr) | none => 0
  let width := match e.hr, e.hf with
    | some h, some f => min 63 ((f - h) / 32)
    | some h, none => min 63 ((lf - h) / 32)
    | none, _ => 0
  BitVec.ofNat 64 (e.lr % 2 ^ 30 + 2 ^ 30 * tot + 2 ^ 44 * slew + 2 ^ 54 * width + 2 ^ 60 * b2n e.hr.isNone
    + 2 ^ 61 * b2n sat + 2 ^ 62 * b2n e.multi + 2 ^ 63 * b2n e.late)

/-! ### The ops of a channel -/

/-- Change every op of a channel. -/
def modOps (ch : Nat) (f : Op → Op) (s : State) : State :=
  forAll s.opKeys (fun k s => match s.op k.1 k.2 with
    | some o => if o.chan = ch then s.setOp k.1 k.2 (some (f o)) else s
    | none => s) s

/-- The ops of a channel that hold a slot, in whichever state of R66, are marked TORN (R40). -/
def tornChan (ch : Nat) (s : State) : State := modOps ch (fun o => { o with torn := true }) s

/-- Sub-pulse offsets of a code (R71): entry i of code c of family f. -/
def codeOffset (f c : Nat) : Nat → Nat
  | 0 => 0
  | i + 1 => codeOffset f c i + 2 + ((1 + f % 8) * (i + 1) + (1 + f / 8) * ((i + 1) * (i + 1)) + c) % 11

/-- The sub-pulse offsets an op uses, ns: family CODE_FAMILY always (R71, R81). -/
def State.offsets (s : State) (o : Op) : List Nat :=
  (List.range o.nsub).map (codeOffset (s.get R.CODE_PLAN.CODE_FAMILY) o.code)

/-! ### SETTLING (R66, R74) -/

/-- Every event of the channel stamped before an instant has been binned or dropped. -/
def Chan.binnedTo (c : Chan) (t : Nat) : Bool :=
  c.fifo.all (fun e => decide (t ≤ e.lr)) && (match c.ev with | some e => decide (t ≤ e.lr) | none => true)

/-- An op whose events are all binned enters the die's correlator queue. -/
def queueSettled (d slot : Nat) (s : State) : State :=
  match s.op d slot with
  | some o =>
    if o.st = .settling ∧ !o.queued ∧ (s.chan o.chan).binnedTo o.lastClose then
      let x := s.die d
      (s.setOp d slot (some { o with queued := true })).setDie d { x with corrQueue := x.corrQueue ++ [slot] }
    else s
  | none => s

/-- The same for every op of a channel. -/
def queueChan (ch : Nat) (s : State) : State :=
  forAll (s.opKeys.filter (fun k => match s.op k.1 k.2 with | some o => o.chan = ch | none => false))
    (fun k s => queueSettled k.1 k.2 s) s

/-! ### The end of an event -/

/-- A dropped event (R42): counted on the channel and against every open op whose window covers its LR. -/
def dropEvent (ch lr : Nat) (s : State) : State :=
  let s := (s.bumpSat (R.CH_DROP_COUNT.DROP_COUNT (chDie ch) (chLocal ch))).setFlag
    (R.CH_STATUS.FIFO_OVF (chDie ch) (chLocal ch))
  let s := takeWaiting ch s
  modOps ch (fun o => if o.open_ && o.fires.any (fun f => o.covers f.2 lr) then { o with drops := o.drops + 1 } else o) s

/-- A composed event: counted, offered to capture and to the input FIFO; DEAD_EST moves (R36, R42, R89). -/
def deliver (ch : Nat) (e : OpenEvent) (lf : Nat) (sat : Bool) (s : State) : State :=
  let d := chDie ch
  let l := chLocal ch
  let w := eventWord e lf sat
  let wk := walkOf e.walk (bits w.toNat 30 14)
  let s := s.bump (R.CH_EVT_COUNT.EVT_COUNT d l)
  let s := if e.hr.isNone then s.bump (R.CH_RUNT_COUNT.RUNT_COUNT d l) else s
  let c := s.chan ch
  let dead := min 16383 (lf - e.lr) + s.rearmLen ch
  let est := ((c.est : Int) + truncDiv ((dead * 8 : Nat) - (c.est : Int)) 256).toNat
  let s := (s.setChan ch { c with est := est }).put (R.DEAD_EST.value d l) (min 1023 (est / 256))
  let s := capEvent ch (e.lr / 128) w s
  let c := s.chan ch
  if 16 ≤ c.fifo.length then dropEvent ch e.lr s
  else s.setChan ch { c with fifo := c.fifo ++ [⟨e.lr, w, wk⟩] }

/-- No LF 128 ns after LR: the event is closed with ToT saturated, and no new event is taken until the comparator has
fallen (R34). HF is the close where the high comparator is still above. -/
def timeoutClose (ch : Nat) (s : State) : State :=
  let c := s.chan ch
  match c.ev with
  | some e =>
    if e.lr + fineNs 128 ≤ s.now then
      let at_ := e.lr + fineNs 128
      let e := if c.high then { e with hf := some at_ } else e
      queueChan ch (deliver ch e at_ true (s.setChan ch { c with ev := none, blocked := true }))
    else s
  | none => s

/-- A fall of the low comparator (R34, R35): LF ends the event, or follows its close at 128 ns; the re-arm time begins. -/
def lowFall (ch : Nat) (s : State) : State :=
  let s := timeoutClose ch s
  let c := s.chan ch
  if !c.low then s
  else
    let arm := c.ev.isSome || c.blocked
    let s := s.setChan ch { c with low := false, ev := none, blocked := false, stuck := false,
                                   blind := if arm then s.now + s.rearmLen ch else c.blind,
                                   rearming := c.rearming || arm }
    match c.ev with
    | some e => queueChan ch (deliver ch e s.now false s)
    | none => s

/-- The re-arm time ends (R35): where the low comparator is above threshold a new event starts there, with LATE. -/
def rearmEnd (ch : Nat) (s : State) : State :=
  let c := s.chan ch
  if c.rearming ∧ c.blind ≤ s.now then
    let c := { c with rearming := false }
    if c.low && s.chTakes ch && c.ev.isNone && !c.blocked then s.setChan ch (c.begin_ c.blind true (s.walkTable ch))
    else s.setChan ch c
  else s

/-- The low comparator has stayed above threshold for more than 10 µs (R37): once for each such stay, whether STUCK_HIGH
still stands from an earlier one or not. No event is composed until the comparator falls. -/
def stuckHigh (ch : Nat) (s : State) : State :=
  let s := timeoutClose ch s
  let c := s.chan ch
  let f := R.CH_STATUS.STUCK_HIGH (chDie ch) (chLocal ch)
  if c.low ∧ c.lowSince + fineUs 10 < s.now ∧ s.dieUp (chDie ch) ∧ !c.stuck then
    enterErr 3 (chDie ch) f ((s.setChan ch { c with stuck := true, blocked := true }).setFlag f)
  else s

/-! ### Binning -/

/-- Add one to a counter of a histogram or lens: it stays at 65,535; whether it was there already. -/
def countUp (m : SMap Nat) (b : Nat) : SMap Nat × Bool :=
  let n := m.get 0 b
  if n < 65535 then (m.put 0 b (n + 1), false) else (m, true)

/-- A lens takes an event of the pulse fired at `f` ns, once for each sub-pulse offset (R93). -/
def Lens.count (l : Lens) (offs : List Nat) (f : Nat) (t : Int) (runt : Bool) : Lens :=
  offs.foldl (fun l off =>
    let u : Int := t - (128 * (f + off) : Nat) - ((l.p : Int) - 128)
    if 0 ≤ u ∧ u < 256 then
      { l with bins := (countUp l.bins u.toNat).1, runts := l.runts + b2n runt }
    else l) l

/-- One covering window of an op takes the event (R73, R93). -/
def Op.addEvent (o : Op) (offs : List Nat) (f : Nat) (t : Int) (runt : Bool) : Op :=
  if o.covers f t then
    let r := countUp o.hist ((t - (o.opens f : Int)).toNat / 2 ^ o.shift)
    { o with hist := r.1, histSat := o.histSat || r.2, lenses := o.lenses.map (fun l => l.count offs f t runt) }
  else o

/-- Binning takes the oldest event of the input FIFO, corrects it for walk and adds it to every covering window of the
channel's open ops (R73). -/
def binEvent (ch : Nat) (s : State) : State :=
  let s := takeWaiting ch s
  let c := s.chan ch
  match c.fifo with
  | [] => s
  | e :: r =>
    let t : Int := (e.lr : Int) - e.w
    let runt := bit e.word.toNat 60
    let s := s.setChan ch { c with fifo := r }
    let s := forAll s.opKeys (fun k s => match s.op k.1 k.2 with
      | some o =>
        if o.chan = ch ∧ o.open_ then
          let offs := s.offsets o
          let o' := o.fires.foldl (fun o f => o.addEvent offs f.2 t runt) { o with histSat := false }
          let s := if o'.histSat then s.setFlag (R.OPS_STATUS.HIST_SAT_SEEN k.1) else s
          s.setOp k.1 k.2 (some { o' with histSat := o.histSat || o'.histSat })
        else s
      | none => s) s
    queueChan ch s

/-- Register writes of a channel. -/
def writeThr (ch val : Nat) (s : State) : State :=
  let lo := bits val 0 10
  let hi := bits val 16 10
  let d := chDie ch
  let l := chLocal ch
  if hi ≤ lo then s.setFlag (R.CH_STATUS.THR_REJ d l)
  else
    let same := decide (s.get (R.CH_THR.THR_LO d l) = lo ∧ s.get (R.CH_THR.THR_HI d l) = hi)
    let s := (s.put (R.CH_THR.THR_LO d l) lo).put (R.CH_THR.THR_HI d l) hi
    if same then s else tornChan ch s

/-- Events under way are lost when no stamps can be taken (R45). -/
def dropOpenEvents (p : Nat → Bool) (s : State) : State :=
  forAll s.chans.keys (fun ch s =>
    let c := s.chan ch
    if p ch && c.ev.isSome then queueChan ch (s.setChan ch { c with ev := none }) else s) s

/-! ### Meanings -/

/-- EVENT_START (R34, R35, R41). -/
def execEventStart (t : Nat) (ch : Nat) (s : State) : Host.Outcome State Fault Refusal := act t (lowRise ch) s

/-- HIGH_COMPARATOR_EDGE (R34). -/
def execHighComparatorEdge (t : Nat) (ch : Nat) (rise : Bool) (s : State) : Host.Outcome State Fault Refusal :=
  act t (highCross ch rise) s

/-- EVENT_END (R34 to R38, R42). -/
def execEventEnd (t : Nat) (ch : Nat) (s : State) : Host.Outcome State Fault Refusal := act t (lowFall ch) s

/-- EVENT_TIMEOUT_CLOSE (R34). -/
def execEventTimeoutClose (t : Nat) (ch : Nat) (s : State) : Host.Outcome State Fault Refusal := act t (timeoutClose ch) s

/-- REARM_END (R35). -/
def execRearmEnd (t : Nat) (ch : Nat) (s : State) : Host.Outcome State Fault Refusal := act t (rearmEnd ch) s

/-- STUCK_HIGH_TIMEOUT (R37). -/
def execStuckHighTimeout (t : Nat) (ch : Nat) (s : State) : Host.Outcome State Fault Refusal := act t (stuckHigh ch) s

/-- EVENT_BIN (R39, R73, R93). -/
def execEventBin (t : Nat) (ch : Nat) (s : State) : Host.Outcome State Fault Refusal := act t (binEvent ch) s

end Sys2Proof.Machine
end

