-- ==== Sys2Proof/Machine/Limit.lean ====
section
/-! DEFINITION. Pulse widths (07_emitter_drive.md R184, R185), the energy sums and budgets of the limiter and the guard
processor, and the guard's cap (08_emission_guard.md R214 to R217). A bank's key is 32 × head + bank. -/

namespace Sys2Proof.Machine

/-! ### Widths -/

/-- A bank's pulse width in 0.125 ns: PW in force within 8 to 160, at most MAX_PW of its capability word, and whether
MAX_PW cut it (R184, R185). -/
def State.bankWidth (s : State) (h b : Nat) : Nat × Bool :=
  let pw := max 8 (min 160 (s.get (R.BANK_DRIVE.PW_NOW h b)))
  let cap := s.get (R.BANK_CAP.CAP h b)
  if (s.bank h b).capSet ∧ 8 * bits cap 16 5 < pw then (8 * bits cap 16 5, true) else (pw, false)

/-- Widths of the sub-pulses at the given offsets (ns): a width that would reach the next rising edge ends 1 ns before
it (R184). -/
def cutWidths (pw : Nat) : List Nat → List Nat
  | [] => []
  | [_] => [pw]
  | a :: b :: r => (if 8 * (b - a) ≤ pw then 8 * (b - a - 1) else pw) :: cutWidths pw (b :: r)

/-! ### Sums -/

/-- The line window of a head in ns: T_L of the format in force, 1,000 µs while none runs (R214). -/
def State.lineNs (s : State) (h : Nat) : Nat := match s.fmt h with | some f => ns9 f.tl9 | none => 1000000

/-- Energy of the shots that satisfy a test. -/
def shotSum (l : List Shot) (p : Nat → Bool) : Nat := ((l.filter (fun x => p x.at_)).map Shot.eu).sum

/-- The three sums of a bank's shots at instant t: 10 µs, line, 1 s (R214). -/
def sums (l : List Shot) (line t : Nat) : Nat × Nat × Nat :=
  let w := max 1 (line / 64)
  (shotSum l (fun a => decide (t < a + 10000)), shotSum l (fun a => decide (t / w ≤ a / w + 64)),
   shotSum l (fun a => decide (t / 1000000 ≤ a / 1000000 + 1000)))

/-- The budgets of a bank in EU (R212, R216): all 0 while no valid table is in force (R213). -/
def State.budgets (s : State) (h b : Nat) : Nat × Nat × Nat :=
  if s.flag R.GUARD_STATUS.TABLE_VALID then
    let x := s.guard.table.budgets.get {} ((32 * h + b) * 16 + s.get (R.BANK_CAL.WL_BIN h b))
    (x.b10, 64 * x.bline, 4096 * x.b1s)
  else (0, 0, 0)

/-- The shots that still count in some window. -/
def recent (l : List Shot) (t : Nat) : List Shot := l.filter (fun x => decide (t ≤ x.at_ + 1002000000))

/-- The limiter adds a pulse's energy to a bank's sums where no budget would be exceeded (R215); none where it is
withheld. -/
def limiterAdd (h b t eu : Nat) (s : State) : Option State :=
  let k := 32 * h + b
  let l := recent (s.guard.limShots.get [] k) t ++ [⟨t, eu⟩]
  let x := sums l (s.lineNs h) t
  let m := s.budgets h b
  if x.1 ≤ m.1 ∧ x.2.1 ≤ m.2.1 ∧ x.2.2 ≤ m.2.2 then
    some { s with guard := { s.guard with limShots := s.guard.limShots.put [] k l } }
  else none

/-- Which window the pulse would exceed first: 0 10 µs, 1 line, 2 1 s (R206). -/
def limitWindow (h b t eu : Nat) (s : State) : Nat :=
  let x := sums (recent (s.guard.limShots.get [] (32 * h + b)) t ++ [⟨t, eu⟩]) (s.lineNs h) t
  let m := s.budgets h b
  if m.1 < x.1 then 0 else if m.2.1 < x.2.1 then 1 else 2

/-- The frame or millisecond of a head in which a LIMIT_ACTED milestone is emitted once (R215). -/
def State.limitMark (s : State) (h : Nat) : Nat :=
  if s.running h then 2 * s.frameCount h else 2 * (s.ns / 1000000) + 1

/-- A pulse withheld (R215): LIM_BLOCK_COUNT, LIM_ACTED, and the first in the frame or millisecond its milestone. -/
def limitBlock (h b t eu : Nat) (s : State) : State :=
  let w := limitWindow h b t eu s
  let s := (s.bump R.LIM_BLOCK_COUNT.BLOCKS).setFlag R.GUARD_STATUS.LIM_ACTED
  let m := s.limitMark h
  if s.guard.limMark.get none h = some m then s
  else guardMs 7 (64 * w + 32 * h + b) s.guardState
    { s with guard := { s.guard with limMark := s.guard.limMark.put none h (some m) } }

/-- A pulse requested of a bank, withheld ones included (R216). -/
def limiterReq (h b t width : Nat) (s : State) : State :=
  let k := 32 * h + b
  let l := (s.guard.reqs.get [] k).filter (fun x => decide (t ≤ x.at_ + 1000000000)) ++ [⟨t, width⟩]
  { s with guard := { s.guard with reqs := s.guard.reqs.put [] k l } }

/-- Most requests in any 10 µs that begins at one of them. -/
def busiest (l : List Req) : Nat :=
  l.foldl (fun m r => max m (l.filter (fun x => decide (r.at_ ≤ x.at_ ∧ x.at_ < r.at_ + 10000))).length) 0

/-- guard_cap of a bank at instant t (R216): the latest complete line and second are those that end at t (DEDUCED,
log 13). -/
def State.guardCap (s : State) (h b t : Nat) : Nat :=
  let all := s.guard.reqs.get [] (32 * h + b)
  let line := all.filter (fun r => decide (t ≤ r.at_ + s.lineNs h))
  let sec := all.filter (fun r => decide (t ≤ r.at_ + 1000000000))
  let wmax := fun (l : List Req) => if l.isEmpty then 1 else l.foldl (fun m r => max m r.width) 0
  let m := s.budgets h b
  let one := fun (budget p w : Nat) => budget / (max 1 p * max 1 w)
  min (min (min 4095 (one m.1 (busiest line) (wmax line))) (one m.2.1 line.length (wmax line)))
    (min (one m.2.2 sec.length (wmax sec)) (s.get R.THERMAL_CAP.CAP))

end Sys2Proof.Machine
end

