-- ==== Sys2Proof/Machine/Drive.lean ====
section
/-! DEFINITION. The emitter drive (07_emitter_drive.md): bring-up, exchanges, amplitude and envelopes, replies, cable
delay, bank failure. -/

namespace Sys2Proof.Machine

/-! ### Bank failure (R200, R201) -/

/-- The replies of an exchange whose mark has gone out are still checked where the failure of one of its banks ends the
unit's drive: every bank found failed is recorded (R201). -/
def keepReplies (h : Nat) (old s : State) : State :=
  s.setDrv h { s.drv h with x := (old.drv h).x.filter (fun x => x.mark.isSome) }

/-- A bank has failed: FAIL_MAP, DRV_FAIL with the lowest bank of one exchange, and the guard latches BANK_FAIL. -/
def bankFail (h b cause mon exp : Nat) (s : State) : State :=
  let s := if h = 0 then s.put R.FAIL_MAP_A.MAP_A (s.get R.FAIL_MAP_A.MAP_A ||| 2 ^ b)
    else s.put R.FAIL_MAP_B.MAP_B (s.get R.FAIL_MAP_B.MAP_B ||| 2 ^ b)
  let phi := (s.drv h).x.map Exchange.phi
  let lower := decide (32 * h + b < 32 * s.get R.DRV_FAIL.FAIL_HEAD + s.get R.DRV_FAIL.FAIL_BANK)
  let s := if !s.flag R.DRV_FAIL.FAILED || (decide (s.drive.failPhi = phi) && lower) then
      let s := (((s.setFlag R.DRV_FAIL.FAILED).put R.DRV_FAIL.FAIL_HEAD h).put R.DRV_FAIL.FAIL_BANK b).put
        R.DRV_FAIL.FAIL_CAUSE cause
      let s := (s.put R.DRV_FAIL_MON.MON_READ mon).put R.DRV_FAIL_MON.MON_EXP exp
      { s with drive := { s.drive with failPhi := phi } }
    else s
  let s' := guardLatch 6 (32 * h + b) s
  keepReplies 1 s (keepReplies 0 s s')

/-! ### DRV_EN (R186) and the rotation (R199) -/

/-- The next bank of the cable rotation at or after `n`: banks of the heads with DRV_EN set. -/
def State.rotFrom (s : State) (n : Nat) : Nat :=
  let ok := fun k => s.drvEn (k / 32)
  match ((List.range 64).map (fun i => (n + i) % 64)).find? ok with
  | some k => k
  | none => n % 64

/-- Begin an exchange of every bank of a head (R187, R190): the sequence number moves on. -/
def startExchange (h phi : Nat) (kind : XKind) (s : State) : State :=
  let s := s.setDrv h { s.drv h with x := some { phi := phi, kind := kind }, phi := phi }
  let s := modBanks h (fun _ b => { b with seq := (b.seq + 1) % 16, echo := false, replied := false, inRetry := false }) s
  s.bump (R.DRV_XCHG_COUNT.XCHG h)

/-- Bring-up begins: DRV_READY is clear and the first exchange starts (R186). -/
def bringUp (h : Nat) (s : State) : State :=
  let s := s.clrFlag (R.DRV_STATUS.DRV_READY h)
  let s := pairsAll h .low (s.setDrv h { s.drv h with bringUp := true, up := none, down := none })
  startExchange h s.now .bringUp s

/-- DRV_EN goes from 0 to 1 (R186, R199, R200): cable delays and latched capability words are forgotten, and bring-up
starts where the unit holds OWN. -/
def driveOn (h : Nat) (s : State) : State :=
  let s := modBanks h (fun _ b => { b with capSet := false, jumps := 0, mute := false }) s
  let s := upTo 32 (fun b s => s.clrFlag (R.BANK_CABLE.CABLE_VALID h b)) s
  let s := s.put R.DRV_CABLE_NEXT.NEXT (s.rotFrom (s.get R.DRV_CABLE_NEXT.NEXT))
  if s.ownHeld then bringUp h s else s.clrFlag (R.DRV_STATUS.DRV_READY h)

/-- DRV_EN goes from 1 to 0 (R186): pairs driven low by a unit that holds OWN, no exchange runs. -/
def driveOff (h : Nat) (s : State) : State :=
  let s := (iuFree h s).clrFlag (R.DRV_STATUS.DRV_READY h)
  let s := s.setDrv h { phi := (s.drv h).phi }
  let s := s.put R.DRV_CABLE_NEXT.NEXT (s.rotFrom (s.get R.DRV_CABLE_NEXT.NEXT))
  if s.ownHeld then pairsAll h .low s else s

/-- SOFT_STOP written 1 (R196): the breathing-down ramp starts. -/
def softStop (h : Nat) (s : State) : State :=
  let x := s.drv h
  if s.drvEn h ∧ x.down = none then s.setDrv h { x with down := some 0 } else s

/-! ### Instants φ (R187) -/

/-- End of the active part of a line of the open frame, 1/9 ns. -/
def Head.activeEnd9 (x : Head) (f : ScanFormat) (line : Nat) : Nat := x.open9 + line * f.tl9 + (f.tl9 - f.b9)

/-- An instant φ of a head that has come: the end of the active part of the line being fired, the start of the first
frame flyback, or the idle period while no format runs (fine LSB). -/
def State.phiDue (s : State) (h : Nat) : Option Nat :=
  let x := s.head h
  if s.running h then
    match s.fmt h with
    | none => none
    | some f =>
      if x.startPhi then some s.now
      else if x.opened ∧ x.ends < x.lines ∧ s.due9 (x.activeEnd9 f x.ends) then some (fine9 (x.activeEnd9 f x.ends))
      else none
  else
    let p := (s.drv h).phi + fineUs (max 100 (s.get (R.DRV_IDLE.IDLE_XCHG h)))
    if s.drvReady h ∧ p ≤ s.now then some p else none

/-- The instant has been taken: it does not come again. -/
def phiTaken (h : Nat) (s : State) : State :=
  if s.running h then
    s.modHead h (fun x => if x.startPhi then { x with startPhi := false } else { x with ends := x.ends + 1 })
  else s

/-- A regular exchange at φ, where the drive is ready, the unit holds OWN and none is in progress (R187). -/
def exchangeAt (h phi : Nat) (s : State) : State :=
  let x := s.drv h
  if s.drvEn h && s.drvReady h && s.ownHeld && x.x.isNone then startExchange h phi .regular s
  else s.setDrv h { x with phi := phi }

/-! ### Amplitude (R195, R196) -/

/-- A breathing factor at step k, in 1/256: rising from RAMP_START, or falling to it. -/
def State.breathing (s : State) (h k : Nat) (up : Bool) : Nat :=
  let a := s.get (R.DRV_CTL.RAMP_START h)
  let n := s.get (R.DRV_CTL.RAMP_LINES h)
  if up then a + (256 - a) * k / max 1 n else 256 - (256 - a) * k / max 1 n

/-- The bank's thermal soft-start step at this exchange (R196). -/
def State.softStep (s : State) (h b : Nat) : Option Nat :=
  let x := s.bank h b
  let idle := match x.lastFire with
    | none => true
    | some t => decide (t + 1000000 * s.get (R.DRV_SOFT.SOFT_IDLE h) ≤ s.ns)
  let n := s.get (R.DRV_SOFT.SOFT_LINES h)
  let k := if idle then some 0 else x.soft.map (fun k => if x.fired then k + 1 else k)
  k.filter (fun k => decide (k < n))

/-- The envelope of a bank at this exchange: the smallest factor active (R196). -/
def State.envelope (s : State) (h : Nat) (soft : Option Nat) : Nat :=
  let x := s.drv h
  let n := s.get (R.DRV_CTL.RAMP_LINES h)
  let e := match x.up with | some k => if k < n then s.breathing h k true else 256 | none => 256
  let e := match x.down with | some k => if k < n then min e (s.breathing h k false) else e | none => e
  match soft with
  | some k =>
    let a := s.get (R.DRV_SOFT.SOFT_START h)
    let m := s.get (R.DRV_SOFT.SOFT_LINES h)
    min e (a + (256 - a) * k / max 1 m)
  | none => e

/-! ### Frames and the line (R183, R184, R189, R190, R192) -/

/-- The two halves of a Manchester-coded bit, 10 ns each: 1 is high then low, 0 low then high (R189). -/
def manchester (b : Bool) : List Bool := [b, !b]

/-- A frame on the line, bit 0 first, in halves of 10 ns (R189). -/
def frameLine (n w : Nat) : List Bool := (List.range n).flatMap (fun i => manchester (bit w i))

/-- A bank takes part in the attempt in progress. -/
def State.inAttempt (s : State) (h b : Nat) (x : Exchange) : Bool := !x.retry || (s.bank h b).inRetry

/-- The start of the attempt in progress: φ, or φ + 10 µs for the retry (R187). -/
def Exchange.start (x : Exchange) : Nat := x.phi + if x.retry then fineUs 10 else 0

/-- The mark edge of the attempt in progress: 2.900 µs after its start (R192). -/
def Exchange.markAt (x : Exchange) : Nat := x.start + fineNs 2900

/-- A pair driven low or high: level. -/
def PairLine.level (b : Bool) : PairLine := if b then .high else .low

/-- The pair of a bank at the present instant (R183): a fire pulse of R184 drives it high; in an attempt the idle line
carries the command frame from 2.000 µs to 2.800 µs, the mark lasts 20 ns, the pair listens until 6.700 µs and is driven
low from then on (R192). -/
def State.pairAt (s : State) (h b : Nat) : PairLine :=
  let k := s.bank h b
  let d := match (s.drv h).x with | some x => s.now - x.start | none => fineUs 10
  match k.line with
  | .low | .high => .level (k.edges.any (fun e => decide (128 * e.1 ≤ s.now ∧ s.now < 128 * e.1 + 16 * e.2)))
  | .idle =>
    if d < fineUs 2 then .idle
    else match (frameLine 40 k.cmd)[(d - fineUs 2) / fineNs 10]? with | some x => .level x | none => .idle
  | .listen => if d < fineNs 2920 then .high else if d < fineNs 6700 then .listen else .low
  | .off => .off

/-- The pairs of a head stop listening and idling at the end of a window: a unit that holds OWN drives them low (R192). -/
def linesLow (h : Nat) (s : State) : State :=
  if s.ownHeld then pairsAll h .low s else s

/-- A command frame (R190): SOF, CMD, AMP, SEQ and the check byte. -/
def cmdFrame (cmd amp seq : Nat) : Nat :=
  let w := 0xA7 + 2 ^ 8 * cmd + 2 ^ 12 * amp + 2 ^ 24 * seq
  w + 2 ^ 32 * crc8 (bytesOf 4 w)

/-- Fix and send a bank's command at the first attempt of an exchange (R195, R216): SET while emission is permitted, OFF
otherwise (R190). -/
def sendCommand (h b : Nat) (s : State) : State :=
  let x := s.bank h b
  let soft := s.softStep h b
  let e := s.envelope h soft
  let cap := s.guardCap h b s.ns
  let eff := min (s.get (R.BANK_AMP.REQ h b) * e / 256) cap
  let drive := if eff = 0 then 0 else
    min 4095 (s.get (R.BANK_CAL.THRESH h b) + eff * s.get (R.BANK_CAL.SLOPE h b) / 65536)
  let cmd := if s.permitted && s.drvEn h then 0 else 2
  let s := s.setBank h b { x with
    soft := soft, reqPrev := x.reqEff, reqEff := eff, firedPrev := x.fired, fired := false, line := .idle,
    cmd := cmdFrame cmd drive x.seq }
  ((s.put (R.BANK_DRIVE.DRIVE_NOW h b) drive).put (R.BANK_DRIVE.ENV_NOW h b) e).put (R.BANK_GUARD_W0.GUARD_CAP h b) cap

/-- The breathing ramps step on (R196). -/
def stepRamps (h : Nat) (s : State) : State :=
  let x := s.drv h
  let n := s.get (R.DRV_CTL.RAMP_LINES h)
  s.setDrv h { x with up := (x.up.map (· + 1)).filter (fun k => decide (k ≤ n)), down := x.down.map (· + 1) }

/-- This exchange completes the ramp of a soft stop (R196). -/
def State.softEnds (s : State) (h : Nat) : Bool :=
  match (s.drv h).down with
  | some k => decide (s.get (R.DRV_CTL.RAMP_LINES h) ≤ k)
  | none => false

/-- A soft stop is complete: DRV_EN is cleared, SOFT_STOP_DONE is set and the exchange ends without a command (R186,
R196). -/
def softStopEnd (h : Nat) (s : State) : State :=
  driveOff h ((s.clrFlag (R.DRV_CTL.DRV_EN h)).setFlag (R.DRV_STATUS.SOFT_STOP_DONE h))

/-- φ + 1.000 µs of an attempt: the commands go out, in the retry to the banks that failed (R192, R194, R195). -/
def exchangeCommand (h : Nat) (s : State) : State :=
  match (s.drv h).x with
  | none => s
  | some x =>
    if x.sent ∨ s.now < x.start + fineUs 1 then s
    else
      let v := s.setDrv h { s.drv h with x := some { x with sent := true } }
      if x.retry then modBanks h (fun _ b => if b.inRetry then { b with line := .idle } else b) v
      else if s.softEnds h then softStopEnd h s
      else stepRamps h (upTo 32 (sendCommand h) v)

/-! ### The mark and the echo (R192, R193, R199) -/

/-- The mark edge, 2.900 µs after the start of the attempt: the interval unit starts for the next bank of the rotation where it is this head's and the unit is
free, in the retry only for the bank timed at the first attempt; then the pairs are released (R55, R192, R199). -/
def exchangeMark (h : Nat) (s : State) : State :=
  match (s.drv h).x with
  | none => s
  | some x =>
    if !x.sent || x.mark.isSome || decide (s.now < x.markAt) then s
    else
      let s := modBanks h (fun _ b => if !x.retry || b.inRetry then { b with line := .listen, echo := false } else b) s
      let next := s.rotFrom (s.get R.DRV_CABLE_NEXT.NEXT)
      let mine := decide (next / 32 = h) && s.inAttempt h (next % 32) x && s.drvEn h && decide (x.kind ≠ .takeOver) &&
        (!x.retry || decide (x.timed = some (next % 32)))
      if mine && decide (s.get R.IU_STATUS.IU_STATE = 0 ∨ s.get R.IU_STATUS.IU_STATE = 3) then
        let s := ((s.put R.IU_STATUS.IU_STATE 2).setFlag R.IU_STATUS.IU_OWNER).clrFlag R.IU_STATUS.IU_VALID
        let s := { s with tb := { s.tb with iuArmed := x.markAt, iuStart := x.markAt } }
        s.setDrv h { s.drv h with x := some { x with mark := some x.markAt, timed := some (next % 32), result := none,
                                                     timedRetry := x.retry } }
      else
        let s := if mine then s.setFlag R.IU_STATUS.IU_BUSY_REJ else s
        s.setDrv h { s.drv h with x := some { x with mark := some x.markAt } }

/-- The drive's measurement ends and frees the interval unit: its result stands, ev19. -/
def iuDriveDone (s : State) : State :=
  let r := s.now - s.tb.iuStart
  let s := ((s.put R.IU_RESULT_LO.RESULT_LO r).put R.IU_RESULT_HI.RESULT_HI (r / 2 ^ 32)).setFlag R.IU_STATUS.IU_VALID
  raiseEv 19 ((s.put R.IU_STATUS.IU_STATE 0).clrFlag R.IU_STATUS.IU_OWNER)

/-- The driver's echo edge: accepted from t_mark + 200 ns to t_mark + 1,300 ns (R193). -/
def echoEdge (h b : Nat) (s : State) : State :=
  match (s.drv h).x with
  | none => s
  | some x =>
    match x.mark with
    | none => s
    | some m =>
      if s.inAttempt h b x ∧ !(s.bank h b).echo ∧ !(s.bank h b).replied ∧ m + fineNs 200 ≤ s.now ∧
         s.now ≤ m + fineNs 1300 then
        let s := s.modBank h b (fun k => { k with echo := true })
        if x.timed = some b ∧ x.timedRetry = x.retry ∧ s.flag R.IU_STATUS.IU_OWNER ∧ s.get R.IU_STATUS.IU_STATE = 2 then
          let s := s.setDrv h { s.drv h with x := some { x with result := some (s.now - m) } }
          iuDriveDone s
        else s
      else s

/-! ### Replies (R191, R194, R198 to R200) -/

/-- A jump of the cable delay is reported (R199). -/
def cableJump (h b : Nat) (s : State) : State :=
  enterErr 5 (32 * h + b) (R.DRV_STATUS.CABLE_JUMP h) (s.setFlag (R.DRV_STATUS.CABLE_JUMP h))

/-- A valid cable delay c of a bank is filtered into CABLE_DLY (R199). -/
def cableUpdate (h b : Nat) (c : Int) (s : State) : State :=
  if c < 0 ∨ 65535 < c then cableJump h b s
  else if !s.flag (R.BANK_CABLE.CABLE_VALID h b) then
    ((s.puti (R.BANK_CABLE.CABLE_DLY h b) c).setFlag (R.BANK_CABLE.CABLE_VALID h b)).modBank h b
      (fun k => { k with jumps := 0 })
  else
    let old : Int := s.get (R.BANK_CABLE.CABLE_DLY h b)
    if s.get (R.DRV_CABLE_CFG.CABLE_JUMP_THR h) < (c - old).natAbs then
      let n := (s.bank h b).jumps + 1
      let s := cableJump h b s
      if n = 3 then (s.puti (R.BANK_CABLE.CABLE_DLY h b) c).modBank h b (fun k => { k with jumps := 0 })
      else s.modBank h b (fun k => { k with jumps := n })
    else
      (s.puti (R.BANK_CABLE.CABLE_DLY h b) (old + truncDiv (c - old) (2 ^ s.get (R.DRV_CABLE_CFG.CABLE_SHIFT h)))).modBank
        h b (fun k => { k with jumps := 0 })

/-- The cable delay that an interval gives (R199). -/
def cableOf (h b i echoLat : Nat) : Int := ((i : Int) - (512 * echoLat : Nat) - (Config.frPath (32 * h + b) : Nat)) / 2

/-- MON_EXP of the reply: the value sent at the previous exchange (R198). -/
def State.monExp (s : State) (h b : Nat) : Nat := (s.bank h b).reqPrev * s.get (R.BANK_MON.MON_GAIN h b) / 4096

/-- MON is in window (R198). -/
def State.monOk (s : State) (h b mon : Nat) : Bool :=
  let e := s.monExp h b
  decide (((mon : Int) - e).natAbs ≤ max (s.get (R.BANK_MON.MON_TOL h b) * e / 256) (s.get (R.BANK_MON.MON_FLOOR h b)))

/-- FAIL_CAUSE of an intact reply, the lowest that holds; 0 for none (R200). -/
def State.replyCause (s : State) (h b mon stat cap : Nat) : Nat :=
  if (s.bank h b).firedPrev && !s.monOk h b mon then 2
  else if bit stat 0 then 3
  else if bit stat 1 then 4
  else if cap ≠ s.get (R.BANK_CAP.CAP h b) then 5
  else if bits cap 0 4 ≠ 1 ∨ bits cap 4 8 < 50 ∨ bits cap 12 4 = 0 ∨ bits cap 16 5 = 0 ∨ bits cap 24 8 = 0 then 6
  else 0

/-- Emitter calibration takes a reading at an exchange that checks MON (15_thermal_calibration.md R357). -/
def emitReading (h b mon : Nat) (s : State) : State :=
  if s.flag R.THERM_CTL.EMIT_CAL_EN && (s.bank h b).firedPrev && decide (mon ≠ 0) then
    let r := s.get (R.BANK_CAL.SLOPE h b) * s.monExp h b / mon
    s.modBank h b (fun k => { k with slopes := (r :: k.slopes).take (max 1 (s.get R.THERM_CFG.EMIT_AVG)) })
  else s

/-- A stage status bit that becomes set is reported (R198). -/
def statBit (h b old stat i : Nat) (s : State) : State :=
  if bit stat i && !bit old i then enterErr 5 (32 * h + b) (R.BANK_REPLY.STAT_LAST h b) s else s

/-- A successful attempt of a bank (R194): status, the cable delay where it was timed, and the judgement of its content. -/
def replyGood (h b mon stat cap : Nat) (x : Exchange) (s : State) : State :=
  let old := s.get (R.BANK_REPLY.STAT_LAST h b)
  let s := ((s.put (R.BANK_REPLY.MON_LAST h b) mon).put (R.BANK_REPLY.STAT_LAST h b) stat).put (R.BANK_REPLY.SEQ_LAST h b)
    (s.bank h b).seq
  let s := if (s.bank h b).capSet then s else s.put (R.BANK_CAP.CAP h b) cap
  let s := s.modBank h b (fun k => { k with replied := true, capSet := true, mute := false })
  let s := statBit h b old stat 3 (statBit h b old stat 2 s)
  let s := if x.timed = some b then
      match x.result with
      | some i => (cableUpdate h b (cableOf h b i (bits cap 4 8)) s).put R.DRV_CABLE_NEXT.NEXT (s.rotFrom (32 * h + b + 1))
      | none => s
    else s
  let cause := s.replyCause h b mon stat cap
  let s := emitReading h b mon s
  if cause = 0 then s else bankFail h b cause mon (s.monExp h b) s

/-- A reply frame is received whole (R191, R194): SOF, SEQ and CRC are checked, and STAT BAD_FRAME. -/
def replyFrame (h b w : Nat) (s : State) : State :=
  match (s.drv h).x with
  | none => s
  | some x =>
    match x.mark with
    | none => s
    | some m =>
      let k := s.bank h b
      let good := decide (bits w 0 8 = 0x5B ∧ bits w 8 4 = k.seq ∧ bits w 72 8 = crc8 (bytesOf 9 w)) && !bit w 28
      if s.inAttempt h b x && !x.judged && k.echo && !k.replied && decide (s.now ≤ m + fineNs 3500) && good then
        replyGood h b (bits w 12 12) (bits w 24 8) (bits w 32 32) x s
      else s

/-- The reply deadline of an attempt, t_mark + 3.5 µs (R192, R194, R292): failed banks are repeated once, or have failed with NO_REPLY; a failed
bank of a take-over exchange stays dark until its next exchange, whose first attempt counts as its retry. -/
def replyDeadline (h : Nat) (s : State) : State :=
  match (s.drv h).x with
  | none => s
  | some x =>
    match x.mark with
    | none => s
    | some m =>
      if x.judged ∨ s.now < m + fineNs 3500 then s
      else
        let s := iuFree h s
        let s := s.setDrv h { s.drv h with x := some { x with judged := true } }
        upTo 32 (fun b s =>
          let k := s.bank h b
          if !s.inAttempt h b x || k.replied then s
          else if x.kind = .takeOver then s.setBank h b { k with mute := true }
          else if x.retry || k.mute then bankFail h b 1 0 (s.monExp h b) (s.setBank h b { k with inRetry := false })
          else ((s.setBank h b { k with inRetry := true }).setFlag (R.DRV_STATUS.RETRY_SEEN h)).bumpSat
            (R.DRV_RETRY_COUNT.RETRIES h)) s

/-- Every bank has had a valid reply and has a valid cable delay (R186). -/
def State.broughtUp (s : State) (h : Nat) : Bool :=
  (List.range 32).all (fun b => (s.bank h b).capSet && s.flag (R.BANK_CABLE.CABLE_VALID h b))

/-- The end of an exchange window (R186, R187): the retry window follows where a bank needs it; at the end of bring-up
DRV_READY is set and the breathing-up ramp starts, otherwise the next bring-up exchange begins. -/
def windowEnd (h : Nat) (s : State) : State :=
  match (s.drv h).x with
  | none => s
  | some x =>
    if !x.judged || decide (s.now < x.start + fineUs 10) then s
    else if s.ownHeld && !x.retry && (List.range 32).any (fun b => (s.bank h b).inRetry) then
      let s := linesLow h s
      s.setDrv h { s.drv h with x := some { x with retry := true, sent := false, mark := none, judged := false, result := none } }
    else
      let s := linesLow h (s.setDrv h { s.drv h with x := none })
      if (s.drv h).bringUp && s.ownHeld then
        if s.broughtUp h then
          (s.setDrv h { s.drv h with bringUp := false, up := some 0 }).setFlag (R.DRV_STATUS.DRV_READY h)
        else startExchange h s.now .bringUp s
      else s

/-- A standby derives its own cable delay from an exchange it hears (11_twin.md R288): the active's mark mapped by
TW_TOFS, its CABLE_DLY, and the capability word of the reply. The amplitude of that exchange, which its limiter uses, is what
the mirrored REQ gives at full envelope (DESIGN CHOICE, log 83). -/
def cableListen (h b mark ca cap : Nat) (s : State) : State :=
  if (s.standby || decide (s.twState = 2)) && !s.ownHeld && s.drvEn h then
    let s := if (s.bank h b).capSet then s else (s.put (R.BANK_CAP.CAP h b) cap).modBank h b (fun k => { k with capSet := true })
    let eff := min (s.get (R.BANK_AMP.REQ h b)) (s.guardCap h b s.ns)
    let s := s.modBank h b (fun k => { k with heard := some ca, reqEff := eff })
    let c := (s.now : Int) - ((mark : Int) - s.tofsFine) - ca - (512 * bits (s.get (R.BANK_CAP.CAP h b)) 4 8 : Nat)
      - ((Config.frPath (32 * h + b) / 2 : Nat) : Int)
    cableUpdate h b c s
  else s

/-! ### Emitter calibration (15_thermal_calibration.md R357) -/

/-- At each line SLOPE moves one LSB toward the running mean, never beyond EMIT_LIM ÷ 32 of the host's value. A bank that
comes to its bound sets EMIT_CAL_LIMIT and enters one error (log 112). -/
def slopeStep (h b : Nat) (s : State) : State :=
  let k := s.bank h b
  if !s.flag R.THERM_CTL.EMIT_CAL_EN || k.slopes.isEmpty then s
  else
    let cur := s.get (R.BANK_CAL.SLOPE h b)
    let mean := k.slopes.sum / k.slopes.length
    let lim := k.hostSlope * s.get R.THERM_CFG.EMIT_LIM / 32
    let aim := if cur < mean then cur + 1 else if mean < cur then cur - 1 else cur
    if aim = cur then s.setBank h b { k with slopeStop := false }
    else if (aim : Int) < (k.hostSlope : Int) - lim ∨ k.hostSlope + lim < aim then
      if k.slopeStop then s
      else enterErr 5 (32 * h + b) R.THERM_STATUS.EMIT_CAL_LIMIT
        ((s.setBank h b { k with slopeStop := true }).setFlag R.THERM_STATUS.EMIT_CAL_LIMIT)
    else (s.setBank h b { k with slopeStop := false }).put (R.BANK_CAL.SLOPE h b) aim

end Sys2Proof.Machine
end

