-- ==== Sys2Proof/Machine/Ranging.lean ====
section
/-! DEFINITION. Ranging operations (03_ranging_operations.md): the decision at the first pulse, slots and pages, coded
firing, accumulation, abandonment; and the point records a decline makes (04_echoes_and_points.md R107, R109). -/

namespace Sys2Proof.Machine

/-! ### Point records (04_echoes_and_points.md R107 to R110) -/

/-- The key of the parcels that take an op's records: its head and frame, or none for an op of no frame (R110). -/
def frameKeyOf (h : Nat) (frame : Option Nat) : ParcelKey :=
  match frame with
  | some f => { framed := true, head := h, frame := f }
  | none => {}

/-- TIME of a record (R107): V0 less the frame's FRAME_OPEN in 62.5 ns, all ones for an op of no frame (R155). -/
def recTime (frame : Option Nat) (t0 v0 : Nat) : Nat :=
  match frame with
  | some _ => (v0 - t0) * 2 / 125 % 2 ^ 24
  | none => 0xFFFFFF

/-- A point record (R107): cell, range, intensity, echo, class, channel, time, confidence, flags, head, frond, generation. -/
def pointRec (cell range inten echo cls ch time conf flags h frond gen : Nat) : Rec :=
  { len := 16
    val := cell + 2 ^ 19 * range + 2 ^ 39 * inten + 2 ^ 51 * echo + 2 ^ 53 * cls + 2 ^ 56 * ch + 2 ^ 67 * time
      + 2 ^ 91 * conf + 2 ^ 99 * flags + 2 ^ 107 * h + 2 ^ 108 * frond + 2 ^ 110 * (gen % 4) }

/-- The bytes of an op's records: the frame's account of them (R114), and PP_RECORDS. -/
def countRecord (h : Nat) (frame : Option Nat) (flags : Nat) (s : State) : State :=
  let s := s.bump R.PP_RECORDS.RECORDS
  match frame with
  | some f => s.modFrame h f (fun a => { a with
      records := a.records + 1, torn := a.torn || bit flags 4, frondTorn := a.frondTorn || bit flags 5 })
  | none => s

/-- A record enters the head's points stream (R110). -/
def pushPoint (h : Nat) (frame : Option Nat) (flags : Nat) (r : Rec) (s : State) : State :=
  if (s.stream (2 + h)).closed then s else pushStream (2 + h) (frameKeyOf h frame) r (countRecord h frame flags s)

/-! ### The decision (R60, R61, R64, R154, R185) -/

/-- Correlator tap count T of a code op with offsets `offs` (R76): p_last + 1. -/
def tapCount (offs : List Nat) (binW : Nat) : Nat := offs.getLastD 0 * 4 / 2 ^ binW + 1

/-- The code an op uses: CODE, or the code of its cell's hop region (R82). -/
def State.codeOf (s : State) (o : Op) : Nat :=
  if bit o.w1 23 then bits o.w1 20 3 else s.get (regionField true o.head (o.cell / 8192))

/-- The part-wide group of an op's channel, and the head it is assigned to. -/
def State.opHead (s : State) (o : Op) : Option Nat := s.groupHead (o.chan / 12)

/-- The bank that R119 gives a channel, from the groups of its head. -/
def State.bankOf (s : State) (ch : Nat) : Option Nat :=
  match s.groupHead (ch / 12) with
  | some h =>
    let gs := s.headGroups h
    (listIndex gs (ch / 12)).map (fun i => (12 * i + ch % 12) * 32 / (12 * gs.length))
  | none => none

/-- A descriptor is invalid (R60), or uses more sub-pulses than its bank's stage supports (R185). -/
def State.badDesc (s : State) (o : Op) : Bool :=
  let d := chDie o.chan
  let cap := s.get (R.BANK_CAP.CAP o.head o.bank)
  decide (o.pageCode = 3 ∨ o.pref = 3 ∨ 8192 * 128 < 128 * o.winStart + o.winLen ∨ o.pri < 755)
    || (o.firCustom && s.get (R.TAP_CTL.TAPS d o.tapset) = 0)
    || (if o.firCustom then decide (256 < s.get (R.TAP_CTL.TAPS d o.tapset))
        else decide (256 < tapCount (s.offsets o) o.binW))
    || ((s.bank o.head o.bank).capSet && decide (bits cap 12 4 < o.nsub))

/-- What else makes a probe's descriptor invalid (R154). -/
def State.badProbe (s : State) (o : Op) (p : ProbeInfo) (bank : Nat) : Bool :=
  (decide (1 < o.passes) && decide (p.interval < o.k * o.pri + 256))
    || (match s.opHead o with | some h => decide (h ≠ o.head) | none => false)
    || (decide (bank = 63) && (s.opHead o).isNone)
    || decide (32 ≤ bank ∧ bank ≤ 62)

/-- The ops of a channel group. -/
def State.groupOps (s : State) (d g : Nat) : List Nat :=
  s.opKeys.filterMap (fun k => if k.1 = d ∧ k.2 / 128 = g then some (k.2 % 128) else none)

/-- The lowest free slot of a group (R61: any free slot serves; DESIGN CHOICE, log 14). -/
def State.freeSlot (s : State) (d g : Nat) : Option Nat :=
  let used := s.groupOps d g
  (List.range 128).find? (fun k => !used.contains k)

/-- The group is held by a calibration that took the line being fired (15_thermal_calibration.md R361). -/
def State.calHolds (s : State) (h pg : Nat) : Bool :=
  match (s.head h).calLine with
  | some (line, gs, _) => decide (line + 1 = (s.head h).lines) && gs.contains pg
  | none => false

/-- The reason of a decline, the first that applies in the order of R64; none where the cell receives an op. -/
def State.declineReason (s : State) (o : Op) (bad late : Bool) : Option Nat :=
  let d := chDie o.chan
  let g := chGroup o.chan
  if s.dieDark d then some 0
  else if !s.flag R.TB_STATUS.LOCKED then some 1
  else if s.calHolds o.head (o.chan / 12) then some 2
  else if !s.chEn o.chan then some 3
  else if bad then some 4
  else if late then some 5
  else if (s.freeSlot d g).isNone then some 6
  else if (s.group d g).free < o.pages then some 7
  else none

/-- A decline (R64): counted on the die and in the frame; a probe's CQ entry; a class-7 record while DECL_REPORT is set,
whose building urgent observations precede (04_echoes_and_points.md R105). -/
def decline (o : Op) (reason : Nat) (s : State) : State :=
  let d := chDie o.chan
  let h := o.head
  let fitted := s.chFitted o.chan
  let s := if fitted then s.bump (R.DECL_COUNT.DECL d reason) else s
  let s := match o.frame with
    | some f => s.modFrame h f (fun a => { a with declined := a.declined + 1, displaced := a.displaced || decide (reason = 2) })
    | none => s
  let s := if reason = 2 then
      s.modHead h (fun x => { x with calLine := x.calLine.map (fun c => (c.1, c.2.1, c.2.2 + 1)) }) else s
  let s := match o.probe with
    | some p => cqProbe p (fun tag => (cqWord0 tag 2 reason 0 h false, cqWord1 o.cell o.chan, 0, 0)) s
    | none => noticeDecision o [] (1 + reason) (s.modHead h (fun x => { x with declined := x.declined ++ [o.cell] }))
  if fitted && s.flag (R.OPS_CFG.DECL_REPORT d) && !s.standby then
    let flags := 2 ^ 7 + 2 ^ 5 * b2n o.frondTorn
    pushPoint h o.frame flags
      (pointRec o.cell 0 reason 0 7 o.chan (recTime o.frame o.frameT0 o.v0) 0 flags h o.frond o.frondGen) (serveUrgent s)
  else s

/-- The dither seed of an op (R70): SEED, or VENUE_SEED with the cell and the frame; 0 acts as 1. R70 takes the op's frame
number; a probe that belongs to no frame takes the head's FRAME_COUNT as it stands (DESIGN CHOICE, log 110). -/
def State.seedOf (s : State) (o : Op) : Nat :=
  let f := match o.frame with | some f => f | none => s.frameCount o.head
  let x := if bit o.w1 31 then o.w3 else s.get R.VENUE_SEED.value ^^^ (8192 * o.cell) ^^^ (f % 8192)
  if x % 2 ^ 32 = 0 then 1 else x % 2 ^ 32

/-- The age limit of an op, fixed at issue (R68), fine LSB. -/
def State.ageOf (s : State) (o : Op) : Nat :=
  match o.frame, s.fmt o.head with
  | some _, some f => 128 * o.v0 + 384 * f.tf9 / 9
  | _, _ => 128 * o.v0 + fineUs (s.get R.PROBE_AGE.value)

/-- A lens lies whole inside the window of an op (R92). -/
def Op.lensFits (o : Op) (p : Nat) : Bool :=
  decide (128 * o.winStart + 128 ≤ p ∧ p + 128 ≤ 128 * o.winStart + o.winLen)

/-- The op is issued (R61, R66): a slot, its pages, its seed and its lenses. -/
def issue (o : Op) (lenses : List Nat) (s : State) : State :=
  let d := chDie o.chan
  let g := chGroup o.chan
  match s.freeSlot d g with
  | none => s
  | some k =>
    let x := s.group d g
    let o := { o with
      st := .issued, groupSlot := k, lfsr := s.seedOf o, ageEnd := s.ageOf o,
      lenses := (lenses.filter o.lensFits).map (fun p => { p := p }) }
    let s := (s.setOp d (128 * g + k) (some o)).setGroup d g { x with free := x.free - o.pages }
    let s := noticeDecision o lenses 0 (s.bump (R.OPS_ISSUED.ISSUED d))
    match o.frame with
    | some f => s.modFrame o.head f (fun a => { a with issued := a.issued + 1 })
    | none => s

/-- A decision (R61). -/
def decideOp (o : Op) (lenses : List Nat) (bad late : Bool) (s : State) : State :=
  let o := { o with code := s.codeOf o }
  if !s.chFitted o.chan then decline o 4 s
  else match s.declineReason o (bad || s.badDesc o) late with
    | some r => decline o r s
    | none => issue o lenses s

/-! ### Dither (R70), and the limiter of a standby (11_twin.md R287) -/

/-- One step of the dither generator (R70). -/
def lfsrStep (x : Nat) : Nat := if x % 2 = 1 then (x / 2) ^^^ 0x80200003 else x / 2

/-- Eight steps: the state whose low byte is the next pulse's dither. -/
def lfsr8 (x : Nat) : Nat :=
  lfsrStep (lfsrStep (lfsrStep (lfsrStep (lfsrStep (lfsrStep (lfsrStep (lfsrStep x)))))))

/-- The generator after the dithers of n pulses. -/
def lfsrAfter (n x : Nat) : Nat :=
  match n with
  | 0 => x
  | n + 1 => lfsrAfter n (lfsr8 x)

/-- A standby's limiter adds every pulse that the active fires (11_twin.md R287), at the amplitude of the bank's exchange
last heard (`cableListen`; log 83). -/
def limiterShadow (o : Op) (t : Nat) (s : State) : State :=
  let h := o.head
  let b := o.bank
  let w := (cutWidths (s.bankWidth h b).1 (s.offsets o)).sum
  let l := recent (s.guard.limShots.get [] (32 * h + b)) t ++ [⟨t, (s.bank h b).reqEff * w⟩]
  { s with guard := { s.guard with limShots := s.guard.limShots.put [] (32 * h + b) l } }

/-- Pulses of an op that its active did not fire after all leave the limiter's sums. -/
def limiterUndo (o : Op) (times : List Nat) (s : State) : State :=
  let k := 32 * o.head + o.bank
  let l := times.foldl (fun (l : List Shot) t => l.eraseP (fun x => decide (x.at_ = t))) (s.guard.limShots.get [] k)
  { s with guard := { s.guard with limShots := s.guard.limShots.put [] k l } }

/-- A visit comes to a cell that has no slot here (11_twin.md R287): the pulses of its pass, but those known not to be
fired, enter the limiter's sums at their instants. -/
def missedPass (o : Op) (at_ : Nat) (s : State) : State :=
  let o1 : Op := { o with vs := o.vs ++ [at_] }
  let fires := (List.range o.k).map (fun i => (o.pulses + i, (at_ + i * o.pri + lfsrAfter (i + 1) o.lfsr % 256)))
  let kept := fires.filter (fun f => !o.notFired.contains f.1)
  let o1 := { o1 with pulses := o.pulses + o.k, lfsr := lfsrAfter o.k o.lfsr, waiting := o.waiting ++ kept }
  let s := { s with twin := { s.twin with missed := s.twin.missed.map (fun m => if m = o then o1 else m) } }
  forAll kept (fun f s => limiterShadow o f.2 s) s

/-! ### Scan visits (R67, R127, R129) -/

/-- The open scan op of a cell in the head's open frame. -/
def State.scanOp (s : State) (h cell : Nat) : Option (Nat × Nat × Op) :=
  (s.opKeys.filterMap (fun k => (s.op k.1 k.2).map (fun o => (k.1, k.2, o)))).find?
    (fun x => x.2.2.head = h && x.2.2.cell = cell && x.2.2.probe.isNone && x.2.2.ref.isNone
      && decide (x.2.2.frame = some (s.frameCount h)))

/-- The instant of a visit, ns (R121): a visit that serves an open op uses that op's PHASE. -/
def State.visitAt (s : State) (h : Nat) (v : Visit) : Nat :=
  match s.scanOp h v.cell with
  | some x => v.base + 16 * x.2.2.phase + v.chase
  | none => v.v

/-- The earliest of the composed visits; at one instant the lowest channel and cell first (R62). -/
def State.nextVisit (s : State) (h : Nat) : Option Visit :=
  let key := fun (v : Visit) => 2 ^ 19 * (2048 * s.visitAt h v + v.ch) + v.cell
  match (s.head h).visits with
  | [] => none
  | v :: r => some (r.foldl (fun m w => if key w < key m then w else m) v)

/-- A decision still to be made with V0 at `v0` in the group of channel `ch` comes before one of that channel and `cell`
(R62): a visit that decides, or a probe of any sequencer, of a lower channel, or of the same channel and a lower cell. -/
def State.decisionBefore (s : State) (v0 ch cell : Nat) : Bool :=
  let first := fun (c k : Nat) => decide (c / 12 = ch / 12 ∧ (c < ch ∨ (c = ch ∧ k < cell)))
  (List.range 2).any (fun h => (s.head h).opened && (s.head h).visits.any (fun v =>
      decide (v.v = v0) && first v.ch v.cell && v.shoot && !(s.head h).declined.contains v.cell && (s.scanOp h v.cell).isNone))
    || (List.range 8).any (fun n => (s.seq n).probes.any (fun r =>
      decide (r.v0 = v0) && first (bits r.w0 19 11) (bits r.w0 0 19)))

/-- No later visit of a cell of this line will be made in its frame (R67). -/
def State.lastVisit (s : State) (h line : Nat) : Bool :=
  (s.head h).stopping || (match s.fmt h with | some f => decide ((s.head h).len ≤ line + f.inter) | none => true)

/-- A visit serves the open op of its cell as its next pass (R67, R129). On a line that calibration took it is not made. -/
def serveVisit (h : Nat) (v : Visit) (at_ d slot : Nat) (o : Op) (s : State) : State :=
  let last := s.lastVisit h v.line
  if (o.st = .issued ∨ o.st = .accumulating) ∧ o.vs.length < o.passes ∧ !o.noMore ∧ o.vs.getLastD 0 < at_ then
    if s.calHolds h (v.ch / 12) then s.setOp d slot (some { o with noMore := last })
    else s.setOp d slot (some { o with vs := o.vs ++ [at_], ends := o.ends ++ [some v.endNs], noMore := last })
  else s

/-- A scan visit comes: it serves an open op, or makes a decision (R127 to R129). A decision waits while one of the same V0
in its group comes before it (R62). -/
def scanVisit (h : Nat) (late : Bool) (s : State) : State :=
  match s.nextVisit h with
  | none => s
  | some v =>
    let at_ := s.visitAt h v
    if s.now < 128 * at_ ∨ !(s.head h).opened ∨ ((s.scanOp h v.cell).isNone ∧ s.decisionBefore at_ v.ch v.cell) then s
    else
      let s := s.modHead h (fun x => { x with visits := x.visits.filter (fun w => decide (w ≠ v)) })
      match s.scanOp h v.cell with
      | some (d, slot, o) => serveVisit h v at_ d slot o s
      | none =>
        match s.twin.missed.find? (fun o => o.head = h && o.cell = v.cell && o.frame = some (s.frameCount h)) with
        | some o => if o.vs.length < o.passes then missedPass o at_ s else s
        | none =>
        if v.shoot && !(s.head h).declined.contains v.cell then
          let f := s.frameCount h
          let o : Op :=
            { w0 := v.cell + 2 ^ 19 * v.ch + 2 ^ 30 * h, w1 := v.w1, w2 := v.w2, v0 := v.v, vs := [v.v],
              ends := [some v.endNs], noMore := s.lastVisit h v.line, frame := some f, frameNow := f,
              frameT0 := (match s.frame h f with | some a => a.t0 | none => 0),
              bank := (match s.chanBank h v.ch with | some b => b | none => 0),
              torn := v.torn, frondTorn := v.frondTorn, frond := v.frond, frondGen := v.gen, phase := v.phase,
              shadow := s.standby, cols := (match s.fmt h with | some f => f.cols | none => 0) }
          decideOp o v.lenses false late s
        else s

/-! ### Probes (06_salrad.md R153 to R155) -/

/-- The frame of a head in which an instant now falls: none while it runs no format, before its first FRAME_OPEN and once
SCAN_EN = 0 has been granted (R155). -/
def State.frameNowOf (s : State) (h : Nat) : Option Nat :=
  let x := s.head h
  if s.running h && x.opened && !x.stopping then some (s.frameCount h) else none

/-- The first of a sequencer's probes is decided at its V0; it waits while a decision of the same V0 in its group comes
before it (R62). -/
def probeDecision (n : Nat) (late : Bool) (s : State) : State :=
  let q := s.seq n
  match q.probes with
  | [] => s
  | r :: rest =>
    if s.now < 128 * r.v0 ∨ s.decisionBefore r.v0 (bits r.w0 19 11) (bits r.w0 0 19) then s
    else
      let s := s.setSeq n { q with probes := rest }
      let o : Op := { w0 := r.w0, w1 := r.w1, w2 := r.w2, w3 := r.w3, v0 := r.v0, probe := some r.info, frond := 3 }
      let f := s.frameNowOf o.head
      let bank := if r.bank = 63 then (match s.bankOf o.chan with | some b => b | none => 63) else r.bank
      let o := { o with
        vs := (List.range o.passes).map (fun q => r.v0 + q * r.info.interval), ends := List.replicate o.passes none,
        frame := f, frameNow := s.frameCount o.head, bank := bank % 32,
        frameT0 := (match f.bind (s.frame o.head) with | some a => a.t0 | none => 0) }
      decideOp o (r.lenses.filter (fun p => decide (p ≠ 0))) (s.badProbe o r.info bank) late s

/-! ### Firing (R69 to R73, R121) -/

/-- The pulses of the visits made so far: none is due beyond them. -/
def Op.pulsesVisited (o : Op) : Nat := o.k * min o.vs.length o.passes

/-- The instant of the pulse due next, ns, and its pass (R69). -/
def Op.nextFire (o : Op) : Nat × Nat :=
  let q := o.pulses / o.k
  (o.vs.getD q 0 + (o.pulses % o.k) * o.pri + lfsr8 o.lfsr % 256, q)

/-- n pulses are not fired (R72): counted on the die and in the op; the dither advances past them. A standby hears of it
(11_twin.md R283). -/
def suppress (d slot n : Nat) (s : State) : State :=
  match s.op d slot with
  | some o =>
    let s := noticePulses o (o.pulses + n) ((List.range n).map (o.pulses + ·)) s
    (s.setOp d slot (some { o with
      suppressed := o.suppressed + n, pulses := o.pulses + n, lfsr := lfsrAfter n o.lfsr })).add
      (R.OPS_SUPPRESSED.SUPPRESSED d) n
  | none => s

/-- The smallest spacing of a bank's pulses, ns (R72, R185): 500 ns or 1 ÷ MAX_PRF. -/
def State.spacing (s : State) (h b : Nat) : Nat :=
  let prf := bits (s.get (R.BANK_CAP.CAP h b)) 24 8
  if (s.bank h b).capSet ∧ prf ≠ 0 then max 500 (ceilDiv 100000 prf) else 500

/-- The next instant φ of a head, fine LSB (07_emitter_drive.md R187). -/
def State.nextPhi (s : State) (h : Nat) : Option Nat :=
  let x := s.head h
  if s.running h then
    match s.fmt h, x.next9 with
    | some f, some n =>
      if x.opened ∧ x.ends < x.len then some (fine9 (x.activeEnd9 f x.ends)) else some (fine9 (n + (f.tl9 - f.b9)))
    | _, _ => none
  else if s.drvReady h then some ((s.drv h).phi + fineUs (max 100 (s.get (R.DRV_IDLE.IDLE_XCHG h)))) else none

/-- An instant lies in an exchange window of the bank, a retry window only where the bank takes part in the retry
(R187, R188, R194). -/
def State.inExchange (s : State) (h b t : Nat) : Bool :=
  (match (s.drv h).x with
   | some x => decide (x.phi ≤ t ∧ t < x.phi + fineUs (if (s.bank h b).inRetry then 20 else 10))
   | none => false)
  || (match s.nextPhi h with
      | some p => s.drvReady h && decide (p ≤ t ∧ t < p + fineUs 10)
      | none => false)

/-- The pulse may not be fired: holdover and the wait for the next frame (R45), the drive not ready (07_emitter_drive.md
R186) or OWN not held (R183), no emission permission or motion proof
(08_emission_guard.md R203), the instant before a take-over's first
shot or a bank that failed its take-over attempt (11_twin.md R292, R293), a channel being calibrated
(15_thermal_calibration.md R358), a probe's or a calibration's pulse in an
exchange window (07_emitter_drive.md R188), the bank's spacing (R72). -/
def State.mayNotFire (s : State) (o : Op) (offs : List Nat) (f : Nat) : Bool :=
  let h := o.head
  let k := s.bank h o.bank
  !s.flag R.TB_STATUS.LOCKED || (if h = 0 then s.tb.resumeA else s.tb.resumeB)
    || !s.drvEn h || !s.drvReady h || !s.ownHeld || !s.permitted || !bit (s.get R.GUARD_STATUS.MOTION_OK) h
    || decide (f < s.twin.fireFrom) || k.mute || s.chInCal o.chan
    || ((o.probe.isSome || o.ref.isSome) && offs.any (fun x => s.inExchange h o.bank (128 * (f + x))))
    || (match k.lastFire with | some l => decide (f < l + s.spacing h o.bank) | none => false)

/-- A pulse has been fired: its window waits for its opening (R66, R73). -/
def openWindow (d slot : Nat) (o : Op) (f : Nat) (s : State) : State :=
  let o := { o with
    st := .accumulating, waiting := o.waiting ++ [(o.pulses, f)], fired := o.fired + 1,
    lastClose := max o.lastClose (o.closes f), pulses := o.pulses + 1, lfsr := lfsr8 o.lfsr }
  takeWaiting o.chan (s.setOp d slot (some o))

/-- A fired pulse's report goes to the guard processor (08_emission_guard.md R217). -/
def firedShot (k : Nat) (x : Shot) (s : State) : State :=
  { s with guard := { s.guard with reports := s.guard.reports.put [] k (s.guard.reports.get [] k ++ [x]) } }

/-- The bank fires the pulse at `f` ns: widths, the limiter, the wire (R184, R185, R214, R215). -/
def fireBank (d slot : Nat) (o : Op) (f : Nat) (s : State) : State :=
  let h := o.head
  let b := o.bank
  let offs := s.offsets o
  let (pw, clamp) := s.bankWidth h b
  let ws := cutWidths pw offs
  let eu := (s.bank h b).reqEff * ws.sum
  let s := if clamp then s.setFlag (R.DRV_STATUS.PW_CLAMP h) else s
  let s := limiterReq h b f ws.sum s
  match limiterAdd h b f eu s with
  | none => suppress d slot 1 (limitBlock h b f eu s)
  | some s =>
    let s := s.modBank h b (fun k => { k with
      fired := true, lastFire := some f, edges := (offs.map (f + ·)).zip ws })
    let s := firedShot (32 * h + b) ⟨f, eu⟩ s
    let s := match s.twin.gapFrom with
      | some g => ({ s with twin := { s.twin with gapFrom := none } }).put R.TW_LAST_GAP.LAST_GAP (f - g)
      | none => s
    openWindow d slot o f s

/-- The firing scheduler comes to the op's next pulse (R69). Where its instant falls after the active part of the line, it
and the rest of its pass are not fired (R121). -/
def pulseFire (d slot : Nat) (s : State) : State :=
  match s.op d slot with
  | none => s
  | some o =>
    let (f, q) := o.nextFire
    if (o.st ≠ .issued ∧ o.st ≠ .accumulating) ∨ o.pulsesVisited ≤ o.pulses ∨ s.now < 128 * f then s
    else
      let late := match o.ends.getD q none with | some e => decide (e < f) | none => false
      if late then suppress d slot (o.k - o.pulses % o.k) s
      else if o.shadow && s.standby then
        if o.notFired.contains o.pulses then suppress d slot 1 s
        else
          openWindow d slot o f (limiterShadow o f s)
      else if s.mayNotFire o (s.offsets o) f then suppress d slot 1 s
      else fireBank d slot o f s

/-! ### The end of accumulation, age, pages (R63, R66 to R68) -/

/-- The op's last pass has been fired, or no further visit remains, and its last window has closed (R67); a shadow op also
has the notices that cover its pulses (11_twin.md R287). An op none of whose pulses was fired leaves from ISSUED in the same
way, where R66 names a first fired pulse alone (DESIGN CHOICE, log 110). -/
def State.accumulated (s : State) (o : Op) : Bool :=
  decide ((o.st = .issued ∨ o.st = .accumulating) ∧ o.pulsesVisited ≤ o.pulses ∧ (o.passes ≤ o.vs.length ∨ o.noMore) ∧
    o.lastClose ≤ s.now) && (!(o.shadow && s.standby) || decide (o.pulses ≤ o.covered))

/-- The op leaves ACCUMULATING for SETTLING; a standby hears that all its pulses are accounted for. -/
def accumulationEnd (d slot : Nat) (s : State) : State :=
  let s := match s.op d slot with | some o => takeWaiting o.chan s | none => s
  match s.op d slot with
  | some o =>
    if s.accumulated o then noticePulses o o.pulses [] (queueSettled d slot (s.setOp d slot (some { o with st := .settling })))
    else s
  | none => s

/-- Device time has passed the op's age limit (R68). -/
def ageOut (d slot : Nat) (s : State) : State :=
  match s.op d slot with
  | some o => if o.withdrawable && decide (o.ageEnd < s.now) then abandonOp d slot s else s
  | none => s

/-- One page of the group has been cleared and is free (R63). -/
def clearPage (d g : Nat) (s : State) : State :=
  let x := s.group d g
  if x.clearing = 0 then s else s.setGroup d g { x with clearing := x.clearing - 1, free := x.free + 1 }

/-! ### Meanings -/

/-- CELL_DECISION (R61 to R64, R127 to R129, R154). -/
def execCellDecision (t : Nat) (src : CellSource) (late : Bool) (s : State) : Host.Outcome State Fault Refusal :=
  act t (match src with | .scan h => scanVisit h late | .probe n => probeDecision n late) s

/-- PULSE_FIRE (R69 to R73, R184 to R188, R215). -/
def execPulseFire (t : Nat) (die slot : Nat) (s : State) : Host.Outcome State Fault Refusal := act t (pulseFire die slot) s

/-- ACCUMULATION_END (R66, R67). -/
def execAccumulationEnd (t : Nat) (die slot : Nat) (s : State) : Host.Outcome State Fault Refusal :=
  act t (accumulationEnd die slot) s

/-- OP_ABANDON (R68). -/
def execOpAbandon (t : Nat) (die slot : Nat) (s : State) : Host.Outcome State Fault Refusal := act t (ageOut die slot) s

/-- PAGE_CLEAR_DONE (R63). -/
def execPageClearDone (t : Nat) (die group : Nat) (s : State) : Host.Outcome State Fault Refusal :=
  act t (clearPage die group) s

end Sys2Proof.Machine
end

