-- ==== Sys2Proof/Machine/Reduce.lean ====
section
/-! DEFINITION. Reduction of an op: the correlator (03_ranging_operations.md R75 to R80) and the echo extractor
(04_echoes_and_points.md R87 to R94), in exact arithmetic. Filter inputs and outputs are held in 1/256 event. -/

namespace Sys2Proof.Machine

/-! ### Sorting -/

/-- Put an element into a sorted list, after those it does not precede. -/
def insertBy {α : Type} (lt : α → α → Bool) (x : α) : List α → List α
  | [] => [x]
  | y :: r => if lt x y then x :: y :: r else y :: insertBy lt x r

/-- Stable sort. -/
def sortBy {α : Type} (lt : α → α → Bool) (l : List α) : List α := l.foldl (fun r x => insertBy lt x r) []

/-! ### Taps (R76 to R78) -/

/-- A filter: weights by lag on the unfiltered input, prefilter included; S, T, Σh, Σh², group delay, custom. -/
structure Taps where
  lags : List (Nat × Int)
  s : Nat
  t : Nat
  sumH : Int
  sumH2 : Nat
  g : Nat
  custom : Bool
  deriving DecidableEq, Repr

/-- Weight t of custom set n of a die (R78). -/
def State.tapWeight (s : State) (d n t : Nat) : Int := sgn 8 (bits (s.get (R.TAP_W.WEIGHTS d n (t / 4))) (8 * (t % 4)) 8)

/-- The group delay of a code op (R77). -/
def groupDelay (t wf sPre : Nat) : Nat := (t - 1) * wf + (sPre - 1) * wf / 2

/-- The taps of an op: its code's (R76), or its custom set's (R78). -/
def State.taps (s : State) (o : Op) : Taps :=
  let d := chDie o.chan
  let wf := 32 * 2 ^ o.binW
  if o.firCustom then
    let n := s.get (R.TAP_CTL.TAPS d o.tapset)
    let ws := (List.range n).map (s.tapWeight d o.tapset)
    { lags := ((List.range n).zip ws).filter (fun p => decide (p.2 ≠ 0)), s := 1, t := n, sumH := ws.sum,
      sumH2 := (ws.map (fun w => w.natAbs * w.natAbs)).sum, g := s.get (R.TAP_CTL.TAP_G d o.tapset), custom := true }
  else
    let pos := (s.offsets o).map (fun x => x * 4 / 2 ^ o.binW)
    let t := pos.getLastD 0 + 1
    let h := fun k => (pos.filter (fun p => p = k)).length
    { lags := (pos.map (fun p => (List.range o.s).map (fun u => (t - 1 - p + u, (1 : Int))))).flatten, s := o.s, t := t,
      sumH := (pos.length : Int), sumH2 := ((List.range t).map (fun k => h k * h k)).sum, g := groupDelay t wf o.s,
      custom := false }

/-! ### Blocks and background (R75, R87) -/

/-- Sums of the blocks of 64 bins. -/
def blockSums (x : SMap Nat) (bins : Nat) : List Nat :=
  (List.range (bins / 64)).map (fun k => ((x.filter (fun e => e.1 / 64 = k)).map Prod.snd).sum)

/-- Blocks in descending order of sum, equal sums in ascending order. -/
def rankBlocks (sums : List Nat) : List Nat :=
  (sortBy (fun (a b : Nat × Nat) => decide (b.2 < a.2)) ((List.range sums.length).zip sums)).map Prod.fst

/-- The background mean in 1/256 event per bin, rounded down (R87). -/
def background (sums : List Nat) (candN : Nat) : Nat :=
  let top := (rankBlocks sums).take candN
  let keep := ((List.range sums.length).zip sums).filter (fun p => !top.contains p.1 && !(decide (0 < p.1) && top.contains (p.1 - 1)))
  (keep.map Prod.snd).sum * 256 / max 1 (64 * keep.length)

/-- Bins that have a filter output (R75): all of a 1-page op, the candidate windows of a larger one. -/
def outputBins (o : Op) (sums : List Nat) (candN : Nat) (f : Taps) : List Nat :=
  if o.pages = 1 then List.range o.bins
  else
    let cand := ((rankBlocks sums).filter (fun k => decide (sums.sum < sums.getD k 0 * sums.length))).take candN
    (List.range o.bins).filter (fun i => cand.any (fun k => decide (64 * k ≤ i ∧ i < 64 * k + 64 + (f.t - 1) + (f.s - 1))))

/-! ### The filter (R76, R79, R89) -/

/-- The filter's input in 1/256 event: x, or x corrected for pile-up with dead time of d bins and N pulses. -/
def filterInput (x : SMap Nat) (pu : Bool) (n d : Nat) : SMap Nat :=
  if pu ∧ 0 < n then
    x.map (fun e =>
      let before := ((x.filter (fun p => decide (e.1 ≤ p.1 + d ∧ p.1 < e.1))).map Prod.snd).sum
      (e.1, if n ≤ 16 * (n - before) then e.2 * n * 256 / (n - before) else e.2 * 16 * 256))
  else x.map (fun e => (e.1, e.2 * 256))

/-- An output: its bin, its value in 1/256, whether it was clamped. -/
structure Output where
  bin : Nat
  y : Int
  clamped : Bool
  deriving DecidableEq, Repr

/-- One output, clamped to a signed 24-bit whole part (R79). -/
def output (xin : SMap Nat) (f : Taps) (i : Nat) : Output :=
  let y : Int := f.lags.foldl (fun acc p => if p.1 ≤ i then acc + p.2 * ((xin.get 0 (i - p.1) : Nat) : Int) else acc) 0
  if 8388608 * 256 ≤ y then ⟨i, 8388607 * 256, true⟩
  else if y < -8388608 * 256 then ⟨i, -8388608 * 256, true⟩
  else ⟨i, y, false⟩

/-! ### Runs (R88, R90) -/

/-- The figures of the threshold test in exact form: M S Σh, and V = max(M, 16) S Σh² (R88). -/
def Taps.muY (f : Taps) (m : Nat) : Int := (m : Int) * f.s * f.sumH
def Taps.var (f : Taps) (m : Nat) : Nat := max m 16 * f.s * f.sumH2

/-- y ≥ θ, for a = y − μ_y in 1/256: a ≥ 0 and a² ≥ K² V. -/
def isAbove (a : Int) (k v : Nat) : Bool := decide (0 ≤ a ∧ (k * k * v : Nat) ≤ a * a)

/-- A run: its outputs in ascending order, each with whether it is at or above θ. -/
abbrev Run := List (Output × Bool)

/-- Walk the outputs in ascending order: the run in progress (newest first), the bins below θ that follow it, and the runs
closed so far. Two runs fewer than `gap` bins apart are one; a bin without an output ends a run. -/
def runStep (gap : Nat) (st : Run × Run × List Run) (o : Output) (up : Bool) : Run × Run × List Run :=
  let (cur, below, done) := st
  let prev := match below, cur with
    | p :: _, _ => some p.1.bin
    | [], p :: _ => some p.1.bin
    | [], [] => none
  let broken := match prev with | some b => decide (b + 1 ≠ o.bin) | none => false
  let (cur, below, done) := if broken && !cur.isEmpty then (([] : Run), ([] : Run), cur :: done) else (cur, below, done)
  if up then
    if cur.isEmpty then ([(o, true)], [], done)
    else if below.isEmpty || decide (below.length < gap) then ((o, true) :: (below ++ cur), [], done)
    else ([(o, true)], [], cur :: done)
  else if cur.isEmpty then ([], [], done)
  else (cur, (o, false) :: below, done)

/-- The runs of a sequence of outputs, each newest first, the last run first. -/
def runsOf (gap : Nat) (up : Output → Bool) (l : List Output) : List Run :=
  let r := l.foldl (fun st o => runStep gap st o (up o)) (([] : Run), ([] : Run), ([] : List Run))
  if r.1.isEmpty then r.2.2 else r.1 :: r.2.2

/-- The highest output of a run and its bin, the lower bin on equal peaks. -/
def peakOf (r : Run) : Int × Nat :=
  match (r.filter Prod.snd).reverse with
  | [] => (0, 0)
  | o :: l => l.foldl (fun m p => if m.1 < p.1.y then (p.1.y, p.1.bin) else m) (o.1.y, o.1.bin)

/-- The four runs with the highest peaks (R90), and how many are discarded. -/
def topRuns (l : List Run) : List Run × Nat :=
  let order := sortBy (fun (a b : Run) =>
    let p := peakOf a
    let q := peakOf b
    decide (q.1 < p.1 ∨ (q.1 = p.1 ∧ p.2 < q.2))) l
  (order.take 4, order.length - 4)

/-! ### Echoes (R91) -/

/-- What the location of an echo needs beside its run. -/
structure Extract where
  o : Op
  f : Taps
  /-- μ_x in 1/256 event per bin -/
  m : Nat
  xin : SMap Nat
  /-- the outputs computed -/
  ys : List Output := []
  deriving DecidableEq, Repr

/-- The prefiltered filter input x' at bin i, 1/256 (R76). -/
def Extract.xp (e : Extract) (i : Nat) : Nat := ((List.range e.f.s).map (fun u => if u ≤ i then e.xin.get 0 (i - u) else 0)).sum

/-- The largest x' − S μ_x from span start − T + 1 to span end (R91). -/
def Extract.maxXp (e : Extract) (a b : Nat) : Int :=
  let lo := a - (e.f.t - 1)
  let m := (List.range (b + 1 - lo)).foldl (fun m i => max m (e.xp (lo + i))) 0
  (m : Int) - (e.f.s * e.m : Nat)

/-- An echo of a run; `free` stands for a figure whose quotient has no value (V or Σ(y − μ_y) is 0). -/
def Extract.echo (e : Extract) (free : Nat) (r : Run) : Echo :=
  let wf := 32 * 2 ^ e.o.binW
  let up := r.filter Prod.snd
  let my := e.f.muY e.m
  let num := (up.map (fun p => (p.1.bin : Int) * (p.1.y - my))).sum
  let den := (up.map (fun p => p.1.y - my)).sum
  let v := e.f.var e.m
  let peak := (peakOf r).1 - my
  let last := match r with | p :: _ => p.1.bin | [] => 0
  let first := match r.reverse with | p :: _ => p.1.bin | [] => 0
  let div := e.f.sumH * e.maxXp first last
  let whole := e.f.custom || decide (e.o.nsub = 1) || decide (div ≤ 0)
  let wlo := first - (e.f.t + e.f.s - 2)
  { d := ((128 * e.o.winStart : Nat) : Int) + (if den ≤ 0 then ((free % (e.o.bins * wf) : Nat) : Int) else roundDiv (num * wf) den.toNat)
      + ((wf / 2 : Nat) : Int)
    g := e.f.g
    nNum := if e.f.sumH ≤ 0 then 0 else den
    nDen := if e.f.sumH ≤ 0 then 1 else 256 * e.f.s * e.f.sumH.toNat
    conf := if v = 0 then free / 2 ^ 24 else min 255 ((isqrt (4 * (peak * peak).toNat / v) + 1) / 2)
    qNum := if whole then 1 else peak
    qDen := if whole then 0 else div.toNat
    ext := (last - first + 1 + 1 - e.f.s) * 2 ^ e.o.binW
    sat := e.ys.any (fun y => y.clamped && decide (wlo ≤ y.bin ∧ y.bin ≤ last))
      || e.o.hist.any (fun p => decide (wlo ≤ p.1 ∧ p.1 ≤ last ∧ 65535 ≤ p.2))
    bin := if den ≤ 0 then ((free % e.o.bins : Nat) : Int) else roundDiv num den.toNat }

/-! ### Lenses (R94) -/

/-- An echo's net count is above another's. -/
def netAbove (a b : Echo) : Bool := decide (b.nNum * a.nDen < a.nNum * b.nDen)

/-- The index of the echo with the highest net count among those that satisfy a test; the lower number on equal counts. -/
def bestEcho (l : List Echo) (p : Nat → Echo → Bool) : Option Nat :=
  ((List.range l.length).zip l).foldl (fun m x =>
    if p x.1 x.2 then
      match m with
      | none => some x.1
      | some j => match l[j]? with | some y => if netAbove x.2 y then some x.1 else some j | none => some x.1
    else m) none

/-- Lens j locates the echo it takes (R94): the echo list, and the echoes taken so far. -/
def Extract.lens (e : Extract) (lensMin free j : Nat) (l : Lens) (st : List Echo × List Nat) : List Echo × List Nat :=
  let wf := 32 * 2 ^ e.o.binW
  let inside := fun (x : Echo) => decide ((l.p : Int) - 128 ≤ x.d - x.g ∧ x.d - x.g < (l.p : Int) + 128)
  match bestEcho st.1 (fun i x => inside x && !st.2.contains i) with
  | none => st
  | some i =>
    let total := (l.bins.map Prod.snd).sum
    let net : Int := ((total * wf : Nat) : Int) - ((e.m * e.o.nsub : Nat) : Int)
    if net < ((lensMin * wf : Nat) : Int) then (st.1, i :: st.2)
    else
      let ws := l.bins.map (fun p => (p.1, p.2 * 256 * wf - e.m * e.o.nsub))
      let den : Nat := (ws.map Prod.snd).sum
      let num : Nat := (ws.map (fun p => (2 * p.1 + 1) * p.2)).sum
      let c : Int := if den = 0 then ((free % 256 : Nat) : Int) else roundDiv (num : Int) (2 * den)
      (st.1.set i (match st.1[i]? with
        | some x => { x with d := (l.p : Int) - 128 + c, g := 0, lens := some j,
                             lensRunt := decide (net ≤ ((2 * l.runts * wf : Nat) : Int)) }
        | none => { d := 0, g := 0, nNum := 0, nDen := 1, conf := 0, qNum := 1, qDen := 0, ext := 0, sat := false, bin := 0 }),
       i :: st.2)

/-! ### The whole reduction -/

/-- Reduction of an op (R75 to R79, R87 to R94): the op with its echoes, μ_x, FIR_SAT mark and discarded runs. `free`
gives the figures the rules leave without a value. -/
def reduceOp (s : State) (o : Op) (free : Nat → Nat) : Op :=
  let d := chDie o.chan
  let candN := s.get (R.OPS_CFG.CAND_N d)
  let f := s.taps o
  let sums := blockSums o.hist o.bins
  let m := background sums candN
  let dead := ceilDiv (s.get (R.DEAD_EST.value d (chLocal o.chan))) (2 ^ o.binW)
  let xin := filterInput o.hist (s.flag (R.EXT_CFG.PU_EN d)) o.fires.length dead
  let ys := (outputBins o sums candN f).map (output xin f)
  let k := max 1 (s.get (R.EXT_CFG.CFAR_K d))
  let runs := runsOf (s.get (R.EXT_CFG.ECHO_GAP d)) (fun y => isAbove (y.y - f.muY m) k (f.var m)) ys
  let (top, extra) := topRuns runs
  let e : Extract := { o := o, f := f, m := m, xin := xin, ys := ys }
  let found := ((List.range top.length).zip top).map (fun p => (e.echo (free p.1) p.2, (peakOf p.2).2))
  let echoes := (sortBy (fun (a b : Echo × Nat) => decide (a.1.d < b.1.d ∨ (a.1.d = b.1.d ∧ a.2 < b.2))) found).map Prod.fst
  let lensMin := s.get (R.EXT_CFG.LENS_MIN d)
  let located := ((List.range o.lenses.length).zip o.lenses).foldl
    (fun st p => e.lens lensMin (free (4 + p.1)) p.1 p.2 st) (echoes, [])
  { o with echoes := located.1, mu := m, firSat := ys.any Output.clamped, extra := extra }

/-! ### Classes and excerpts (R98, R111) -/

/-- The class of an echo (R98), for an op of N pulses binned and NSUB sub-pulses. -/
def State.classOf (s : State) (o : Op) (e : Echo) : Nat :=
  let n := o.fires.length
  if e.sat || (decide (0 < n) && decide ((s.get R.CLASS_CFG.RETRO_P * e.nDen * n * o.nsub : Nat) ≤ 256 * e.nNum)) then 3
  else if e.qDen ≠ 0 ∧ 256 * e.qNum < (s.get R.CLASS_CFG.INT_Q * e.qDen : Nat) then 4
  else if e.lens.isSome && e.lensRunt then 5
  else if s.get R.CLASS_CFG.DIST_NS < e.ext then 2
  else if s.get R.CLASS_CFG.EXT_NS < e.ext then 1
  else 0

/-- The strongest echo of an op: the highest net count (R111, 06_salrad.md R157). -/
def Op.strongest (o : Op) : Option (Nat × Echo) :=
  match bestEcho o.echoes (fun _ _ => true) with
  | some i => (o.echoes[i]?).map (fun e => (i, e))
  | none => none

/-- 16-bit counters as one little-endian number. -/
def packCounters : List Nat → Nat
  | [] => 0
  | c :: r => c % 2 ^ 16 + 2 ^ 16 * packCounters r

/-- An excerpt record (R111): header, counters, zeros to a multiple of 16 bytes. -/
def State.excerptRec (s : State) (o : Op) (lens : Option Lens) (start : Nat) (counters : List Nat) (g : Int) : Rec :=
  let n := counters.length
  let head := wordsNat
    [2 ^ 8 * o.head + 2 ^ 9 * b2n lens.isSome + 2 ^ 10 * o.binW + 2 ^ 16 * n, o.cell + 2 ^ 19 * o.chan, o.frameNow,
     start + 2 ^ 13 * o.winStart,
     o.fires.length % 2 ^ 14 + 2 ^ 14 * (o.nsub - 1) + 2 ^ 17 * s.get R.CODE_PLAN.CODE_FAMILY + 2 ^ 23 * o.code, o.mu,
     (match lens with | some l => l.p | none => 0), ofInt 17 g]
  { len := 32 + (2 * n + 15) / 16 * 16, val := head + 2 ^ 256 * packCounters counters }

/-- The op's echoes select it for excerpts under modes 2 to 4 (R111). -/
def State.excerptHit (s : State) (o : Op) : Bool :=
  match s.get R.EXCERPT_CFG.EXC_MODE with
  | 2 => o.echoes.any (fun e => decide (s.classOf o e = 4))
  | 3 => o.echoes.any (fun e => e.lens.isNone)
  | 4 => o.echoes.isEmpty
  | _ => false

/-- EXC_MODE, EXC_N and EXC_BINS as the op entered REDUCING (R115). -/
def Op.excMode (o : Op) : Nat := bits o.excCfg 0 3
def Op.excN (o : Op) : Nat := max 1 (bits o.excCfg 16 16)
def Op.excBins (o : Op) : Nat := if bits o.excCfg 4 9 = 0 then 256 else min 256 (bits o.excCfg 4 9)

/-- The op is selected for excerpts (R111; a probe with EXC, 06_salrad.md R153); `count` completed ops since the last of
mode 1. -/
def Op.excerptDue (o : Op) (count : Nat) : Bool :=
  (match o.probe with | some p => p.exc | none => false) || o.excHit || decide (o.excMode = 1 ∧ o.excN ≤ count)

/-- The excerpt records of an op, in order, for the excerpts stream. -/
def State.excerpts (s : State) (o : Op) : List (Nat × ParcelKey × Rec) :=
  let n := o.excBins
  let best := o.strongest
  let at_ : Int := match best with
    | some (_, e) => e.bin - (n / 2 : Nat)
    | none => (64 * (rankBlocks (blockSums o.hist o.bins)).headD 0 : Nat)
  let start := (clampInt 0 ((o.bins : Int) - n) at_).toNat
  let key := frameKeyOf o.head o.frame
  let lens := match best with
    | some (_, e) => (e.lens.bind (fun j => o.lenses[j]?)).toList.map (fun l =>
        (4, key, s.excerptRec o (some l) 0 ((List.range 256).map (fun u => l.bins.get 0 u)) 0))
    | none => []
  (4, key, s.excerptRec o none start ((List.range n).map (fun i => o.hist.get 0 (start + i))) (s.taps o).g) :: lens

/-! ### The steps of a reduction -/

/-- A free correlator engine takes the op at the head of the die's queue (R75): it enters REDUCING with the extractor's and
the excerpts' settings of that moment (04_echoes_and_points.md R115). -/
def correlatorTake (d : Nat) (s : State) : State :=
  let x := s.die d
  match x.corrQueue with
  | [] => s
  | slot :: r =>
    if 16 ≤ x.engines.length then s
    else match s.op d slot with
      | none => s.setDie d { x with corrQueue := r }
      | some o =>
        let o := reduceOp s o (fun i => (Config.freeWord (s.fresh + i)).toNat)
        let o := { o with st := .reducing, excCfg := (s.reg R.EXCERPT_CFG.addr).toNat, excHit := s.excerptHit o }
        let s := { s with fresh := s.fresh + 6 }
        (s.setOp d slot (some o)).setDie d { x with corrQueue := r, engines := x.engines ++ [slot] }

/-- Filtering and extraction end (R86, R90): the engine is free, the op's echoes wait for hand-off, its excerpts are sent;
a standby holds them with the op's records (11_twin.md R289). -/
def reductionEnd (d slot : Nat) (s : State) : State :=
  let x := s.die d
  match s.op d slot with
  | some o =>
    if x.engines.contains slot then
      let count := x.excCount + 1
      let recs := if o.excerptDue count then s.excerpts o else []
      let s := s.setDie d { x with engines := x.engines.filter (· ≠ slot), handoff := x.handoff ++ [slot],
                                   excCount := if o.excMode = 1 ∧ o.excN ≤ count then 0 else count }
      let s := s.setOp d slot (some { o with reduced := true, excRecs := if s.standby then recs else [] })
      let s := s.add (R.EXTRA_ECHO_COUNT.EXTRA d) o.extra
      let s := s.add (R.LENS_HIT_COUNT.HITS d) (o.echoes.filter (fun e => e.lens.isSome)).length
      let s := if o.firSat then s.setFlag (R.OPS_STATUS.FIR_SAT_SEEN d) else s
      if s.standby then s else forAll recs (fun r s => pushStream r.1 r.2.1 r.2.2 s) s
    else s
  | none => s

/-! ### Meanings -/

/-- CORRELATOR_TAKE (R75, R76, R78, R80, R89). -/
def execCorrelatorTake (t : Nat) (die : Nat) (s : State) : Host.Outcome State Fault Refusal := act t (correlatorTake die) s

/-- REDUCTION_END (R79, R87, R88, R90, R91, R94, R111). -/
def execReductionEnd (t : Nat) (die slot : Nat) (s : State) : Host.Outcome State Fault Refusal :=
  act t (reductionEnd die slot) s

end Sys2Proof.Machine
end

