-- ==== Sys2Proof/Machine/Points.lean ====
section
/-! DEFINITION. The point processor (04_echoes_and_points.md): the range equation, classes, priors, moss and sun, point records, watch entries, the close of a frame and the automatic hop. -/

namespace Sys2Proof.Machine

/-! ### An echo's figures at hand-off -/

/-- What the point processor makes of an echo: number, range code, whether it was clamped, class, intensity. -/
structure EchoOut where
  ix : Nat
  e : Echo
  range : Nat
  clamped : Bool
  cls : Nat
  inten : Nat
  deriving DecidableEq, Repr

/-- The range code before clamping (R96); an op that shadows the active's takes the active's cable delay (11_twin.md
R287). -/
def State.rangeOf (s : State) (o : Op) (e : Echo) (refOfs : Int) : Int :=
  let h := o.head
  let own := s.get (R.BANK_CABLE.CABLE_DLY h o.bank)
  let cable := if o.shadow then (s.bank h o.bank).heard.getD own else own
  let tau := e.d - cable - s.get (R.BANK_LAT.EMIT_LAT h o.bank) - s.get (R.CH_RANGE_W0.RX_DLY o.chan) - e.g - refOfs
  roundDiv (tau * (100000000 + s.geti (R.CH_RANGE_W1.TRIM_SCALE o.chan))) 100000000 + s.geti (R.CH_RANGE_W0.TRIM_OFS o.chan)

/-- The figures of an echo; `free` stands for the intensity of an op with no pulse binned, which no rule gives. -/
def State.echoOut (s : State) (o : Op) (free ix : Nat) (e : Echo) : EchoOut :=
  let r := s.rangeOf o e (s.geti (R.REF_STATUS.REF_OFS o.head))
  let n := o.fires.length
  { ix := ix, e := e, range := (clampInt 0 1048575 r).toNat, clamped := decide (r < 0 ∨ 1048575 < r), cls := s.classOf o e,
    inten := if n = 0 then free % 4096 else min 4095 (roundDiv (512 * e.nNum) (e.nDen * n)).toNat }

/-- An echo of class 0, 1 or 3 (R95, R102). -/
def EchoOut.good (x : EchoOut) : Bool := decide (x.cls = 0 ∨ x.cls = 1 ∨ x.cls = 3)

/-- Echo figures as an observation keeps them. -/
def EchoOut.obs (x : EchoOut) : Nat × Nat × Nat := (x.cls, x.range, x.inten)

/-! ### Priors, moss and sun (R95, R101) -/

/-- A prior's value: D − G; one that does not fit 24 bits is a value no rule gives. -/
def priorOf (free : Nat) (x : EchoOut) : Nat :=
  let v := x.e.d - x.e.g
  if 0 ≤ v ∧ v < 2 ^ 24 then v.toNat else free % 2 ^ 24

/-- Priors of an entry after an op with good echoes. -/
def priorsOf (l : List EchoOut) (free : Nat) (e : Nat) : Nat :=
  let order := sortBy (fun (a b : EchoOut) => netAbove a.e b.e) (l.filter EchoOut.good)
  let e := match order with | x :: _ => lset e L.prior0 (priorOf free x) | [] => e
  match order with | _ :: y :: _ => lset e L.prior1 (priorOf free y) | _ => e

/-- MOSS and SUN after an op of N pulses with background M (R101). -/
def mossOf (n m binW sh e : Nat) : Nat :=
  if n = 0 then e
  else
    let r := min (2 ^ 24 - 1) (4000 * m / (n * 2 ^ binW))
    let moss := if lget e L.unlearnt = 1 then r else moveBy (lget e L.moss) r sh
    lset (lset e L.moss moss) L.sun (min 4095 (512 * moss / 1000))

/-! ### Observations (R102, R103, R105) -/

/-- An observation goes to the maintenance queue, or is discarded where that is full (R105). -/
def queueObs (o : Op) (l : List EchoOut) (s : State) : State :=
  if 4096 ≤ s.pts.obs.length then (s.bumpSat R.LICHEN_DROP_COUNT.LICHEN_DROP).setFlag R.PP_STATUS.LICHEN_DROP_SEEN
  else
    let x : Obs := { cell := o.cell, head := o.head, at_ := s.ns, echoes := l.map EchoOut.obs, cfg := (s.reg R.LICHEN_CFG.addr).toNat }
    { s with pts := { s.pts with obs := s.pts.obs ++ [x] } }

/-! ### Records and counts (R99, R104, R107 to R109) -/

/-- FLAGS that all records of an op carry (R108). -/
def Op.flags (o : Op) : Nat :=
  2 ^ 2 * b2n (o.histSat || o.firSat) + 2 ^ 3 * b2n (decide (o.drops ≠ 0)) + 2 ^ 4 * b2n o.torn + 2 ^ 5 * b2n o.frondTorn
    + 2 ^ 6 * b2n (decide (o.fires.length < o.k * o.passes))

/-- A record of an op enters its stream, or is held by a standby (11_twin.md R289). -/
def emitRecord (o : Op) (range inten echo cls conf flags : Nat) (s : State) : State × List (Nat × ParcelKey × Rec) :=
  let r := pointRec o.cell range inten echo cls o.chan (recTime o.frame o.frameT0 o.v0) conf flags o.head o.frond o.frondGen
  if s.standby then (s, [(2 + o.head, frameKeyOf o.head o.frame, r)]) else (pushPoint o.head o.frame flags r s, [])

/-- The static mode that applies to a cell (R104). -/
def State.staticMode (s : State) (h e : Nat) : Nat :=
  let m := s.get (R.PP_HEAD_CFG.STATIC_MODE h)
  if m = 2 ∧ lget e L.screen = 1 then 1 else m

/-- The record of one echo (R104, R109). -/
def echoRecord (o : Op) (entry : Nat) (matched : Option Nat) (x : EchoOut) (s : State) : State × List (Nat × ParcelKey × Rec) :=
  let mode := if matched = some x.ix then s.staticMode o.head entry else 0
  if mode = 2 then
    let s := s.bump R.PP_SUPPRESSED.SUPPRESSED
    (match o.frame with
     | some f => s.modFrame o.head f (fun a => { a with suppressed := a.suppressed + 1 })
     | none => s, [])
  else if bit (s.get (R.PP_HEAD_CFG.CLASS_EMIT o.head)) x.cls then
    emitRecord o x.range x.inten x.ix x.cls (if x.clamped then 0 else x.e.conf)
      (o.flags + b2n x.e.lens.isNone + 2 * b2n (decide (mode = 1))) s
  else (s, [])

/-- The records of a list of echoes, in order. -/
def echoRecords (o : Op) (entry : Nat) (matched : Option Nat) (l : List EchoOut) (s : State) :
    State × List (Nat × ParcelKey × Rec) :=
  match l with
  | [] => (s, [])
  | x :: r =>
    let a := echoRecord o entry matched x s
    let b := echoRecords o entry matched r a.1
    (b.1, a.2 ++ b.2)

/-- A fraction a / b plus c / d, in lowest terms. -/
def addFrac (a : Int) (b : Nat) (c : Int) (d : Nat) : Int × Nat :=
  let n := a * d + c * b
  let m := b * d
  let g := max 1 (Nat.gcd n.natAbs m)
  (n / (g : Nat), m / g)

/-- What an echo adds to its frame (R82, R99, R169). -/
def countEcho (hop : Bool) (o : Op) (x : EchoOut) (a : FrameAcc) : FrameAcc :=
  let a := { a with classes := a.classes.put 0 x.cls (a.classes.get 0 x.cls + 1) }
  let r := o.cell / 8192
  let a := if x.cls = 4 ∧ hop then { a with regions := a.regions.put 0 r (a.regions.get 0 r + 1) } else a
  let n := o.fires.length
  if x.cls = 2 ∧ 0 < n ∧ 0 < x.e.ext then
    let f := addFrac a.extNum a.extDen (x.e.nNum * 4000000) (x.e.nDen * n * x.e.ext * 149896)
    { a with extNum := f.1, extDen := f.2 }
  else a

/-- A frame's account of a completed op. -/
def countOp (hop : Bool) (o : Op) (l : List EchoOut) (a : FrameAcc) : FrameAcc :=
  let a := { a with completed := a.completed + 1 }
  if l.isEmpty then { a with classes := a.classes.put 0 7 (a.classes.get 0 7 + 1) }
  else l.foldl (fun a x => countEcho hop o x a) a

/-! ### Completion-queue and watch entries (06_salrad.md R157, R159) -/

/-- Words 2 and 3 of an entry for an echo. -/
def cqEcho (o : Op) (x : EchoOut) : Nat × Nat :=
  (x.range + 2 ^ 20 * x.cls + 2 ^ 23 * (if x.clamped then 0 else x.e.conf),
   x.inten + 2 ^ 12 * x.ix + 2 ^ 14 * (o.fires.length % 2 ^ 14))

/-- The strongest of the echoes that satisfy a test. -/
def strongestOut (l : List EchoOut) (p : EchoOut → Bool) : Option EchoOut :=
  (l.filter p).foldl (fun m x => match m with
    | none => some x
    | some y => if netAbove x.e y.e then some x else some y) none

/-- The echoes that a window selects. -/
def Watch.selects (w : Watch) (matched : Option Nat) (x : EchoOut) : Bool :=
  bit w.classes x.cls && (!w.changed || decide (matched ≠ some x.ix))

/-- The window holds the op's cell. -/
def Watch.holds (w : Watch) (o : Op) : Bool :=
  let i := o.cell % 262144
  let row := i / max 1 o.cols
  let col := i % max 1 o.cols
  w.on && decide (w.head = o.head ∧ w.row0 ≤ row ∧ row ≤ w.row1 ∧ w.col0 ≤ col ∧ col ≤ w.col1)

/-- The watch entry of a sequencer for a completed scan op: that of the lowest window with a selected echo. -/
def watchPost (o : Op) (l : List EchoOut) (matched : Option Nat) (n : Nat) (s : State) : State :=
  let q := s.seq n
  let hit := [0, 1, 2, 3].find? (fun k => let w := q.watch.get {} k
                                          w.holds o && l.any (w.selects matched))
  match hit with
  | none => s
  | some k =>
    if 256 ≤ q.cq.length + q.outstanding.length then s.bumpSat (R.SQ_WATCH_DROP.WATCH_DROP n)
    else
      match strongestOut l ((q.watch.get {} k).selects matched) with
      | none => s
      | some x =>
        let e := cqEcho o x
        cqAdd n (cqWord0 k 3 0 l.length o.head x.e.lens.isNone, cqWord1 o.cell o.chan, e.1, e.2) s

/-- The entry of a completed probe. -/
def probePost (o : Op) (p : ProbeInfo) (l : List EchoOut) (s : State) : State :=
  let x := strongestOut l (fun _ => true)
  let coarse := match x with | some y => y.e.lens.isNone | none => false
  let e := match x with | some y => cqEcho o y | none => (0, 0)
  cqProbe p (fun tag => (cqWord0 tag 0 0 l.length o.head coarse, cqWord1 o.cell o.chan, e.1, e.2)) s

/-! ### A standby's held records (11_twin.md R289) -/

/-- Bytes of the held records. -/
def heldBytes (l : List Held) : Nat := (l.map (fun x => (x.recs.map (fun r => r.2.2.len)).sum)).sum

/-- Discard the oldest held records while the area of 4 MiB overflows. -/
def heldTrim (fuel : Nat) (s : State) : State :=
  match fuel with
  | 0 => s
  | n + 1 =>
    match s.twin.held with
    | [] => s
    | _ :: r =>
      if 4194304 < heldBytes s.twin.held then
        heldTrim n (({ s with twin := { s.twin with held := r } }).bumpSat R.TW_HOLD_DROP.HOLD_DROP)
      else s

/-- A standby holds an op's records, or discards them where the active's egress notice came first. -/
def holdRecords (o : Op) (recs : List (Nat × ParcelKey × Rec)) (s : State) : State :=
  if o.excRecs.isEmpty && recs.isEmpty then s
  else if s.twin.early.contains (o.head, o.cell) then
    { s with twin := { s.twin with early := s.twin.early.filter (fun k => decide (k ≠ (o.head, o.cell))) } }
  else
    let x : Held := { head := o.head, cell := o.cell, recs := o.excRecs ++ recs, frame := o.frame }
    let s := { s with twin := { s.twin with held := s.twin.held ++ [x] } }
    heldTrim s.twin.held.length s

/-! ### Hand-off -/

/-- A reference op's result (15_thermal_calibration.md R356): its residual, of which the last 16 count, and the next lens
position. -/
def refHandoff (h : Nat) (o : Op) (s : State) : State :=
  match o.strongest with
  | none => s
  | some (_, e) =>
    let res := s.rangeOf o e 0 - s.get (R.REF_LEN.value h)
    let l := (res :: s.therm.residuals.get [] h).take 16
    { s with therm := { s.therm with residuals := s.therm.residuals.put [] h l, refAt := s.therm.refAt.put 0 h (e.d - e.g).toNat } }

/-- What an op that is no reference op does at hand-off. A class-7 record's INTENSITY is the entry's SUN after this op has
moved MOSS and SUN; R109 does not say before or after (DESIGN CHOICE, log 110). -/
def pointHandoff (d : Nat) (o : Op) (s : State) : State :=
  let (v, s) := s.drawIf (o.fires.isEmpty || o.echoes.any (fun e => decide (e.d < e.g))) 0
  let h := o.head
  let l := ((List.range o.echoes.length).zip o.echoes).map (fun p => s.echoOut o v.toNat p.1 p.2)
  let s := if l.any EchoOut.clamped then s.setFlag R.PP_STATUS.RANGE_CLAMP_SEEN else s
  let s := s.add (R.LENS_MISS_COUNT.MISSES d) (l.filter (fun x => x.good && x.e.lens.isNone)).length
  let e := s.lichen o.cell
  let matched := s.matchEntry (l.map EchoOut.obs) e
  let n := o.fires.length
  let s := if s.standby then s
    else s.setLichen o.cell (mossOf n o.mu o.binW (s.get R.LICHEN_CFG.MOSS_SHIFT) (priorsOf l v.toNat e))
  let s := if s.flag (R.PP_HEAD_CFG.LEARN_EN h) && decide (lget e L.pin = 0) && !s.standby then queueObs o l s else s
  let s := match o.frame with
    | some f => s.modFrame h f (countOp (s.flag R.HOP_CFG.HOP_EN) o l)
    | none => s
  let (s, held) := if l.isEmpty then
      (if bit (s.get (R.PP_HEAD_CFG.CLASS_EMIT h)) 7 then
        emitRecord o 0 (lget (s.lichen o.cell) L.sun) 0 7 0 o.flags s
       else (s, []))
    else echoRecords o e matched l s
  let s := if s.standby then holdRecords o held s else s
  match o.probe with
  | some p => probePost o p l s
  | none => upTo 8 (watchPost o l matched) s

/-- The point processor accepts the hand-off at the head of a die's queue (R86): the op is COMPLETE. A standby hears of its
records (11_twin.md R283). -/
def handoff (d : Nat) (s : State) : State :=
  let x := s.die d
  match x.handoff with
  | [] => s
  | slot :: r =>
    let s := s.setDie d { x with handoff := r }
    match s.op d slot with
    | none => s
    | some o =>
      let before := s.get R.PP_RECORDS.RECORDS
      let s := s.bump (R.OPS_COMPLETED.COMPLETED d)
      let s := match o.ref with
        | some h => refHandoff h o s
        | none => pointHandoff d o (serveUrgent s)
      noticeEgress o ((s.get R.PP_RECORDS.RECORDS + 2 ^ 32 - before) % 2 ^ 32) (releaseOp d slot s)

/-! ### The close of a frame (R82, R99, R114) -/

/-- EXTINCT of a frame (R99). -/
def State.extinct (s : State) (a : FrameAcc) : Nat :=
  if a.completed = 0 then 0
  else min 65535 (roundDiv ((s.get R.EXT_GAIN.value : Nat) * 100000 * a.extNum) (256 * a.extDen * a.completed)).toNat

/-- The next code after the current one that the mask allows (R82). -/
def nextCode (mask cur : Nat) : Option Nat :=
  ((List.range 7).map (fun i => (cur + 1 + i) % 8)).find? (bit mask)

/-- The automatic hop at the close of a frame (R82). -/
def hopRegions (h : Nat) (a : FrameAcc) (s : State) : State :=
  if s.flag R.HOP_CFG.HOP_EN then
    upTo 64 (fun r s =>
      if s.get R.HOP_CFG.HOP_THR ≤ a.regions.get 0 r then
        match nextCode (s.get R.HOP_CFG.HOP_MASK) (s.get (regionField true h r)) with
        | some c => { s with pts := { s.pts with hops := s.pts.hops.put 8 (64 * h + r) c } }
        | none => s.bumpSat R.HOP_STATUS.HOP_BLOCKED
      else s) s
  else s

/-- Items that FSTAT reads (06_salrad.md R169). -/
def setFstat (h frame : Nat) (a : FrameAcc) (ext : Nat) (s : State) : State :=
  let items := [frame, a.issued, a.completed, a.declined, a.abandoned, ext, a.records, a.suppressed] ++
    (List.range 8).map (fun c => if c = 6 then 0 else a.classes.get 0 c)
  let m := ((List.range 16).zip items).foldl (fun m p => m.put 0 (16 * h + p.1) (min (2 ^ 32 - 1) p.2)) s.pts.fstat
  { s with pts := { s.pts with fstat := m } }

/-- RUNNING of a stopping head clears once its last frame has closed; a SCAN_EN = 1 written meanwhile takes effect (R137). -/
def stopDone (h frame : Nat) (s : State) : State :=
  let x := s.head h
  if x.stopping ∧ x.opened ∧ s.frameCount h = frame then
    let s := headStopped h s
    if s.flag (R.HEAD_CTL.SCAN_EN h) then scanStart h s else s
  else s

/-- A standby still holds records of a frame, or an op of it that found no slot here (11_twin.md R287, R289). -/
def State.frameHeld (s : State) (h frame : Nat) : Bool :=
  s.standby && (s.twin.held.any (fun x => x.head = h && x.frame = some frame) ||
    s.twin.missed.any (fun o => o.head = h && o.frame = some frame))

/-- FRAME_CLOSED of a frame whose ops are all finished and in which no further decision falls (R114); ev4 or ev5, and the
policy's turn (06_salrad.md R179). -/
def closeFrame (h frame : Nat) (s : State) : State :=
  match s.frame h frame with
  | none => s
  | some a =>
    if a.ended ∧ a.issued = a.completed + a.abandoned ∧ !s.frameHeld h frame then
      let ext := s.extinct a
      let p7 := b2n a.torn + 2 * b2n a.frondTorn + 4 * b2n a.displaced + 8 * b2n a.lost
      let s := milestone 0x02 h frame [a.issued, a.completed, a.declined, a.abandoned, ext, a.records, a.suppressed, p7] s
      let s := setFstat h frame a ext (s.setFrame h frame none)
      let s := hopRegions h a (raiseEv (4 + h) s)
      stopDone h frame (policyFrame h (a.classes.get 0 0) (a.classes.get 0 1) (a.classes.get 0 2) s)
    else s

/-- Close every frame that can be closed. -/
def closeFrames (s : State) : State := forAll s.frames.keys (fun k s => closeFrame (k % 2) (k / 2) s) s

/-! ### Meanings -/

/-- HANDOFF (R86, R95 to R99, R101, R104, R105, R107 to R110; 06_salrad.md R156, R159; 11_twin.md R289). -/
def execHandoff (t : Nat) (die : Nat) (s : State) : Host.Outcome State Fault Refusal := act t (handoff die) s

/-- LICHEN_OBSERVATION (R102, R103, R105). -/
def execLichenObservation (t : Nat) (s : State) : Host.Outcome State Fault Refusal := act t serveObs s

/-- FRAME_CLOSED (R82, R99, R114). -/
def execFrameClosed (t : Nat) (head : Fin 2) (frame : Nat) (s : State) : Host.Outcome State Fault Refusal :=
  act t (closeFrame head frame) s

end Sys2Proof.Machine
end

