-- ==== Sys2Proof/Machine/Thermal.lean ====
section
/-! DEFINITION. The thermal supervisor, its levels, the hardware shutdown and the orderly stop
(15_thermal_calibration.md R346 to R354). A sensor's key is 32 × die + sensor, the hub being die 0. -/

namespace Sys2Proof.Machine

def State.sensor (s : State) (d k : Nat) : TempSensor := s.therm.sensors.get {} (32 * d + k)
def State.setSensor (s : State) (d k : Nat) (x : TempSensor) : State :=
  { s with therm := { s.therm with sensors := s.therm.sensors.put {} (32 * d + k) x } }

/-- Sensors of a die. -/
def sensorCount (d : Nat) : Nat := if d = 0 then 24 else 16

/-- The dies that have sensors: the hub and the dies fitted. -/
def State.sensorDies (s : State) : List Nat := (List.range 8).filter (fun d => decide (d = 0) || s.dieFitted d)

/-- The register bits of the faulted sensors of a die (R347). -/
def faultField (d : Nat) : Field := if d = 0 then R.HUB_SENSOR_FAULT.HUB_FAULT else R.DIE_THERM.SENSOR_FAULT d

/-- A sensor has a reading and is not faulted. -/
def State.sensorValid (s : State) (d k : Nat) : Bool := !bit (s.get (faultField d)) k && !(s.sensor d k).hist.isEmpty

/-- The latest reading of a sensor, 1/16 °C. -/
def State.reading (s : State) (d k : Nat) : Int :=
  match (s.sensor d k).hist with
  | x :: _ => x.2
  | [] => 0

/-- Valid readings: die, sensor, reading. -/
def State.validReadings (s : State) (dies : List Nat) : List (Nat × Nat × Int) :=
  dies.flatMap (fun d => ((List.range (sensorCount d)).filter (s.sensorValid d)).map (fun k => (d, k, s.reading d k)))

/-- The hottest of a list of readings; the first of equals. -/
def hottest : List (Nat × Nat × Int) → Option (Nat × Nat × Int)
  | [] => none
  | x :: r =>
    match hottest r with
    | some y => if x.2.2 < y.2.2 then some y else some x
    | none => some x

/-! ### Hardware shutdown (R351, R352, R365) -/

/-- T_PART, 1/16 °C. -/
def State.tPart (s : State) : Int := s.geti R.PART_TEMP.T_PART

/-- The part enters the shutdown state: LAST_SHUT, SHUT_COUNT; EMEN low, pairs off, OWN released; a page program that may
end in time ends (R365). -/
def hwShutdown (cause die sensor : Nat) (temp : Int) (s : State) : State :=
  let s := (((s.put R.LAST_SHUT.SHUT_CAUSE cause).put R.LAST_SHUT.SHUT_DIE die).put R.LAST_SHUT.SHUT_SENSOR sensor).puti
    R.LAST_SHUT.SHUT_TEMP temp
  let s := s.bumpSat R.SHUT_COUNT.SHUTS
  let (v, s) := s.drawIf s.sec.programming.isSome 0
  let s := nvCut (decide (s.tPart < 2080) && bit v.toNat 0) s
  let s := (((s.clrFlag R.GUARD_STATUS.EMEN_P_OUT).clrFlag R.GUARD_STATUS.EMEN_H_OUT).clrFlag
    R.GUARD_STATUS.LIM_PERMIT).clrFlag R.GUARD_STATUS.PROC_PERMIT
  let s := dropOwn s
  { s with su := { s.su with power := .shutdown, wantSafe := false },
           therm := { s.therm with coolSince := none, stop := none,
                                   mayRestart := decide ((cause = 1 ∨ cause = 2) ∧ s.variant ≠ 7) } }

/-- A hardware shutdown that takes its die, sensor and temperature from the hottest valid sensor. -/
def hwShutdownHot (cause : Nat) (s : State) : State :=
  match hottest (s.validReadings s.sensorDies) with
  | some (d, k, v) => hwShutdown cause d k v s
  | none => hwShutdown cause 0 0 0 s

/-! ### The orderly stop (R353) -/

/-- t_s of the orderly stop: the THERMAL hold cause and its milestone, scan-out stops, ORDERLY_STOP; a unit whose partner
is in STANDBY releases OWN and does not park. -/
def orderlyStop (s : State) : State :=
  if s.therm.stop.isSome then s
  else
    let permit := decide (s.guardState = 2)
    let s := guardHold 13 0 s
    let s := if permit then s else guardMs 13 0 s.guardState s
    let s := (stopHead 1 (stopHead 0 s)).setFlag R.THERM_STATUS.ORDERLY_STOP
    let twin := s.ownHeld && s.partnerValid && decide (s.get R.TW_PARTNER.P_STATE = 3)
    let s := if twin then releaseOwn 1 s else s
    { s with therm := { s.therm with stop := some { at_ := s.ns, twin := twin } } }

/-! ### Faulted sensors (R347) -/

/-- The readings of a sensor from the last 20 ms, newest first. -/
def State.last20 (s : State) (d k : Nat) : List Int :=
  ((s.sensor d k).hist.filter (fun x => decide (s.ns < x.1 + 20000000))).map Prod.snd

/-- A list's spread is at least 1 °C. -/
def moved (l : List Int) : Bool := l.any (fun a => l.any (fun b => decide (16 ≤ a - b)))

/-- The sensor shows a fault: silent, out of range, or stuck. -/
def State.sensorFaulty (s : State) (d k : Nat) : Bool :=
  let x := s.sensor d k
  let since := match x.hist with | p :: _ => max p.1 (s.su.resetAt / 128) | [] => s.su.resetAt / 128
  let v := s.reading d k
  let l := (x.hist.take 200).map Prod.snd
  decide (since + 1000000 ≤ s.ns)
    || (!x.hist.isEmpty && decide (v < -960 ∨ 2560 < v))
    || (decide (l.length = 200) && l.all (fun y => y = v) &&
        (List.range (sensorCount d)).any (fun j => decide (j ≠ k) && s.sensorValid d j && moved (s.last20 d j)))

/-- A sensor is faulted: its bit, an error, and its die goes dark, or the part stops (R347, R351). -/
def faultSensor (d k : Nat) (s : State) : State :=
  if bit (s.get (faultField d)) k || !s.sensorFaulty d k then s
  else
    let s := s.put (faultField d) (s.get (faultField d) ||| 2 ^ k)
    if s.su.power ≠ .running then (if d = 0 then { s with therm := { s.therm with mayRestart := false } } else s)
    else
      let s := enterErr 11 k (faultField d) s
      if d ≠ 0 then dieDark d s
      else if s.variant = 7 then orderlyStop s
      else hwShutdown 3 0 k (s.reading 0 k) s

/-! ### Temperatures, levels and crossings (R348 to R350) -/

/-- Entry and exit values of a level, 1/16 °C; none where the variant has no such level, or no exit. -/
def State.levelIn (s : State) (k : Nat) : Option Int :=
  match k with
  | 1 => some 1840
  | 2 => some 1920
  | 3 => if s.variant = 7 then some 1968 else none
  | 4 => some 2032
  | _ => none
def State.levelOut (s : State) (k : Nat) : Option Int :=
  match k with
  | 1 => some 1792
  | 2 => some 1872
  | 3 => if s.variant = 7 then some 1920 else none
  | _ => none

/-- The temperature that counts for entry: while RISE exceeds 20 °C/s from 115 °C on, the next threshold above (R349). -/
def State.effective (s : State) (temp rise : Int) : Int :=
  if 320 < rise ∧ 1840 ≤ temp then
    (([1, 2, 3, 4].filterMap s.levelIn).find? (fun e => decide (temp < e))).getD temp
  else temp

/-- The rise rate of a sensor, 1/16 °C/s, where it has a reading from 100 ms ago (R348). -/
def State.riseOf (s : State) (d k : Nat) : Option Int :=
  ((s.sensor d k).hist.find? (fun x => decide (x.1 + 100000000 ≤ s.ns))).map (fun x => (s.reading d k - x.2) * 10)

/-- thermal_cap (R350). -/
def thermalCap (level : Nat) (temp : Int) : Nat := if level < 2 then 4095 else min 4095 (4095 * (2032 - temp).toNat / 112)

/-- THERMAL_CAP follows the level and the temperature. -/
def setCap (s : State) : State := s.put R.THERMAL_CAP.CAP (thermalCap (s.get R.THERM_STATUS.LEVEL) s.tPart)

/-- A level's conditions and crossings at a conversion from T_part `old` to `new`. -/
def levelStep (old new eff : Int) (k : Nat) (s : State) : State :=
  match s.levelIn k with
  | none => s
  | some i =>
    let inNow := decide (i ≤ eff)
    let outNow := match s.levelOut k with | some o => decide (new < o) && !inNow | none => false
    let keep := fun (now : Bool) (x : Option Nat) => if now then some (x.getD s.ns) else none
    let s := { s with therm := { s.therm with
      enter := s.therm.enter.put none k (keep inNow (s.therm.enter.get none k)),
      leave := s.therm.leave.put none k (keep outNow (s.therm.leave.get none k)) } }
    let up := decide (old < i ∧ i ≤ new)
    let down := match s.levelOut k with | some o => decide (o ≤ old ∧ new < o) | none => false
    if up || down then s.bumpSat (R.CROSS_COUNT.CROSSINGS (k - 1)) else s

/-- RISE_WARN and ev13 each time it becomes set (R349). -/
def riseWarn (rise : Int) (s : State) : State :=
  if 80 < rise ∧ !s.flag R.THERM_STATUS.RISE_WARN then raiseEv 13 (s.setFlag R.THERM_STATUS.RISE_WARN) else s

/-- T_DIE, T_PART, RISE and what follows from them. What RISE shows of a rate beyond its 16 bits is a free value; the tests
of R349 are made on the rate. -/
def temperatures (s : State) : State :=
  let s := forAll (s.sensorDies.filter (fun d => decide (d ≠ 0))) (fun d s =>
    match hottest (s.validReadings [d]) with
    | some (_, _, v) => s.puti (R.DIE_THERM.T_DIE d) v
    | none => s) s
  let all := s.validReadings s.sensorDies
  let old := s.tPart
  let new := match hottest all with | some (_, _, v) => v | none => old
  let rises := all.filterMap (fun x => s.riseOf x.1 x.2.1)
  let rise : Int := match rises with | [] => 0 | r :: l => l.foldl max r
  let (v, s) := s.drawIf (decide (rise < -32768 ∨ 32767 < rise)) 0
  let shown := if rise < -32768 ∨ 32767 < rise then sgn 16 (v.toNat % 65536) else rise
  let s := (s.puti R.PART_TEMP.T_PART new).puti R.PART_TEMP.RISE shown
  let eff := s.effective new rise
  let s := levelStep old new eff 4 (levelStep old new eff 3 (levelStep old new eff 2 (levelStep old new eff 1 s)))
  setCap (riseWarn rise s)

/-- Every valid sensor is below 100 °C. -/
def State.allCool (s : State) : Bool := (s.validReadings s.sensorDies).all (fun x => decide (x.2.2 < 1600))

/-- A reading arrives: its register and the sensor's history of 100 ms. -/
def takeReading (r : Nat × Nat × Int) (s : State) : State :=
  let (d, k, v) := r
  if !s.sensorDies.contains d || decide (sensorCount d ≤ k) then s
  else
    let x := s.sensor d k
    let s := s.setSensor d k { hist := (s.ns, v) :: x.hist.filter (fun p => decide (s.ns ≤ p.1 + 100050000)) }
    s.puti (if d = 0 then R.HUB_TEMP.READING k else R.DIE_TEMP.READING d k) v

/-! ### Sensor ports with THERMAL set (R354) -/

/-- The supervision of a sensor port's latest output: above its limit or with a wire break for 10 ms it is hot; below the
limit by 3 °C for 10 ms it is cool again. -/
def portStep (n : Nat) (s : State) : State :=
  let x := s.sport n
  let on := s.flag (R.SP_CFG.THERMAL n) && s.flag (R.SP_CFG.PORT_EN n)
  let v := s.geti (R.SP_OUT.OUT n)
  let lim := s.geti (R.PORT_LIMIT.LIMIT n)
  let hi := on && (x.broken || (x.made && decide (lim < v)))
  let lo := !on || (!x.broken && decide (v < lim - 3000))
  let keep := fun (now : Bool) (o : Option Nat) => if now then some (o.getD s.ns) else none
  let above := keep hi x.above
  let below := keep lo x.below
  let held := fun (o : Option Nat) => match o with | some t => decide (t + 10000000 ≤ s.ns) | none => false
  let hot := if held above then true else if held below || !on then false else x.hot
  s.setSport n { x with above := above, below := below, hot := hot }

/-- The THERMAL hold cause follows the ports and the orderly stop. -/
def portsHold (s : State) : State :=
  let s := upTo 8 portStep s
  if (List.range 8).any (fun n => (s.sport n).hot) then
    (if s.guard.holds.contains (13, 0) then s else guardHold 13 0 s)
  else if s.guard.holds.contains (13, 0) && s.therm.stop.isNone then guardUnhold 13 0 s
  else s

/-! ### Comparator runs that become due (R359) -/

/-- A comparator run of a die becomes due, or is merged with the one that is. -/
def makeDue (d : Nat) (s : State) : State :=
  let x := s.calDie d
  if x.due.isSome || !s.dieUp d then s
  else (s.setCalDie d { x with due := some s.ns }).setFlag (R.DIE_CAL.CAL_DUE d)

/-- A write of CAL_NOW. -/
def calNow (s : State) : State := upTo 8 makeDue s

/-- CAL_ON_DT: the die's temperature has moved by more than DT_CAL since the end of its last run. -/
def dueByTemp (d : Nat) (s : State) : State :=
  match (s.calDie d).lastTemp with
  | some v =>
    if s.flag R.THERM_CTL.CAL_ON_DT ∧ s.get R.THERM_CTL.DT_CAL < (s.geti (R.DIE_THERM.T_DIE d) - v).natAbs then makeDue d s else s
  | none => s

/-- A conversion of every sensor. In the shutdown state the supervisor goes on, and notes since when every sensor is cool;
in reset nothing happens. -/
def sensorConversion (readings : List (Nat × Nat × Int)) (s : State) : State :=
  if s.su.power = .inReset then s
  else
    let s := forAll readings takeReading s
    let s := forAll s.sensorDies (fun d => upTo (sensorCount d) (faultSensor d)) s
    let s := temperatures s
    if s.su.power = .shutdown then
      { s with therm := { s.therm with coolSince := if s.allCool then some (s.therm.coolSince.getD s.ns) else none } }
    else portsHold (upTo 8 dueByTemp s)

/-! ### Levels (R349) -/

/-- A condition has held for 10 ms. -/
def State.held10 (s : State) (x : Option Nat) : Bool := match x with | some t => decide (t + 10000000 ≤ s.ns) | none => false

/-- The highest level whose entry condition has held; the level falls to k when every higher level's conditions have been
absent. -/
def State.levelNext (s : State) (old : Nat) : Nat :=
  let up := ([4, 3, 2, 1].find? (fun k => s.held10 (s.therm.enter.get none k))).getD 0
  if old < up then up
  else ((List.range (old + 1)).find? (fun k => decide (up ≤ k) &&
    (List.range (old + 1)).all (fun j => decide (j ≤ k) || s.held10 (s.therm.leave.get none j)))).getD old

/-- A level change and its action. -/
def thermalLevel (s : State) : State :=
  let old := s.get R.THERM_STATUS.LEVEL
  let new := s.levelNext old
  if new = old then s
  else
    let s := (s.put R.THERM_STATUS.LEVEL new).putb R.THERM_STATUS.WARN (decide (1 ≤ new))
    let s := setCap s
    let s := if old = 0 then enterErr 11 0 R.THERM_STATUS.WARN (raiseEv 13 s) else s
    if new = 4 then
      hwShutdownHot (if s.therm.stop.isSome then 5 else if 2032 ≤ s.tPart then 1 else 2) s
    else if new = 3 ∧ old < 3 then orderlyStop s
    else s

/-! ### The course of a stop (R353, 17_startup_faults.md R399) -/

/-- Every op that remains is abandoned (REDUCING ones too), and every open frame is closed. -/
def endOps (s : State) : State :=
  let s := abandonWhere (fun _ _ => true) s
  let s := upTo 2 (fun h s => stopVisits h s) s
  let s := forAll s.frames.keys (fun k s => s.modFrame (k % 2) (k / 2) (fun a => { a with ended := true })) s
  closeFrames s

/-- 200 µs after an orderly stop or the entry to the safe state: ops and frames end, and the park is asked for. -/
def parkRequest (s : State) : State :=
  match s.therm.stop with
  | some x =>
    if x.parkAt.isNone ∧ x.at_ + 200000 ≤ s.ns then
      let s := endOps s
      let s := if x.twin then s else parkAll s
      { s with therm := { s.therm with stop := some { x with parkAt := some s.ns, parked := x.twin } } }
    else s
  | none =>
    match s.su.safeAt with
    | some t =>
      if !s.flag R.MC_STATUS.PARK_REQ ∧ t + fineUs 200 ≤ s.now then parkAll (endOps s) else s
    | none => s

/-- The episode of a stream with undelivered parcels is told in a final GAP milestone, and the stream closes (R399): a
parcel still open closes first. -/
def closeStream (k : Nat) (s : State) : State :=
  let s := closeParcel k s
  let st := s.stream k
  let mine := ((List.range 12).flatMap (fun l => (s.lane l).unacked.map Prod.snd)).filter
    (fun p => p.stream = k)
  let left := st.egress ++ st.layby ++ mine
  let loss := left.foldl (fun l p => some (lossAdd l p.time (recsLen p.recs) p.recs.length)) st.loss
  let s := s.setStream k { st with loss := none }
  let s := match loss with | some l => emitGap k l s | none => s
  s.setStream k { s.stream k with closed := true }

/-- The park has ended or PARK_MAX has elapsed: the orderly stop goes on to its records; in the safe state streams 1 to 6
close, the milestone stream last. -/
def parkEnd (s : State) : State :=
  let over_ := fun (t : Nat) => decide (t + 1000000 * s.get R.THERM_CFG.PARK_MAX ≤ s.ns)
  match s.therm.stop with
  | some x =>
    match x.parkAt with
    | some t =>
      if s.allParked || over_ t then { s with therm := { s.therm with stop := some { x with parked := true } } } else s
    | none => s
  | none =>
    match s.su.safeAt with
    | some t =>
      if s.flag R.MC_STATUS.PARK_REQ && (s.allParked || over_ (t / 128 + 200000)) && !(s.stream 1).closed then
        closeStream 1 (forAll [2, 3, 4, 5, 6] closeStream s)
      else s
    | none => s

/-- The calibration records and POWERED_HOURS are written, then the part shuts down (R353). -/
def orderlyRecords (s : State) : State :=
  match s.therm.stop with
  | some x =>
    if x.parked then
      let recs := [NvRecord.reference, .poweredHours, .interpolator 0] ++
        ((List.range 8).filter s.dieFitted).flatMap (fun d => [NvRecord.comparator d, .interpolator d])
      let write := fun r s => nvDone (nvWrite r s)
      let s := forAll (List.range 32) (fun _ s => nvDone s) s
      hwShutdownHot 4 (forAll recs write s)
    else s
  | none => s

/-! ### Meanings -/

/-- SENSOR_CONVERSION (R346 to R350, R354, R359). -/
def execSensorConversion (t : Nat) (readings : List (Nat × Nat × Int)) (s : State) : Host.Outcome State Fault Refusal :=
  actAny t (sensorConversion readings) s

/-- THERMAL_LEVEL_CHANGE (R349 to R353). -/
def execThermalLevelChange (t : Nat) (s : State) : Host.Outcome State Fault Refusal := act t thermalLevel s

/-- PARK_REQUEST (R353, R399; 09_scanner_control.md R243). -/
def execParkRequest (t : Nat) (s : State) : Host.Outcome State Fault Refusal := act t parkRequest s

/-- PARK_END (R353, R399). -/
def execParkEnd (t : Nat) (s : State) : Host.Outcome State Fault Refusal := act t parkEnd s

/-- ORDERLY_STOP_RECORDS (R353). -/
def execOrderlyStopRecords (t : Nat) (s : State) : Host.Outcome State Fault Refusal := act t orderlyRecords s

end Sys2Proof.Machine
end

