-- ==== Sys2Proof/Machine/Housekeeping.lean ====
section
/-! DEFINITION. Housekeeping (14_housekeeping.md): the SAR ADC and its sequence table, the result queue, the sensor
ports with their filters and curves, and the supply windows. -/

namespace Sys2Proof.Machine

/-! ### The ADC (R331, R332) -/

/-- An input converts as a differential pair (R331). -/
def State.adcDiff (s : State) (i : Nat) : Bool := decide (i < 16 ∧ i % 2 = 0) && bit (s.get R.HK_CTL.DIFF_EN) (i / 2)

/-- The latest reading of a temperature sensor as a code (15_thermal_calibration.md R346). -/
def State.tempCode (s : State) (d k : Nat) : Nat := ofInt 12 (s.reading d k + 1024)

/-- The code of a conversion of input i: the converter's code, a sensor's reading for the temperature inputs, 0 for the
reserved inputs; signed for a pair. -/
def State.adcCode (s : State) (i raw : Nat) : Int :=
  if i = 24 then s.tempCode 0 16
  else if i = 27 then s.tempCode (s.get R.TEMP_SEL.T_DIE) (s.get R.TEMP_SEL.T_SENSOR)
  else if 28 ≤ i then 0
  else if s.adcDiff i then sgn 12 (raw % 4096)
  else ((raw % 4096 : Nat) : Int)

/-- The smallest number at or above x that is r modulo p. -/
def nextCong (p r x : Nat) : Nat := x + (r % p + p - x % p) % p

/-- Loop n has reserved conversions (R332): fed from an AUX input and running, or loops 1 and 3. A loop whose LOOP_CTL has
been written and waits for its sample instant counts as running, so that the sample at which it starts has its conversion
(DEDUCED, log 75). -/
def State.loopConverts (s : State) (n : Nat) : Bool :=
  (s.loopEnc n).isNone && (s.loopRuns n || (s.loop n).modeReq || decide (n = 1 ∨ n = 3))

/-- The end of a reserved conversion that a conversion starting at x ns would overlap. -/
def State.reservedAt (s : State) (x : Nat) : Option Nat :=
  let b := nextCong 10000 7000 (x - 999)
  if b < x + 1000 ∧ x < b + 1000 ∧ b / 10000 % 10 < 8 then some (b + 1000)
  else
    ((List.range 8).filterMap (fun n =>
      let t := nextCong (10000 * (s.get (R.LOOP_CTL.SAMPLE_DIV n) + 1)) (1000 * n) (x + 201)
      if s.loopConverts n ∧ t < x + 2200 then some (t - 200) else none)).head?

/-- The first instant from x on at which a sequence conversion can start. -/
def State.seqStartAt (s : State) (fuel x : Nat) : Nat :=
  match fuel with
  | 0 => x
  | f + 1 => match s.reservedAt x with
    | some e => s.seqStartAt f e
    | none => x

/-- Start instants of n conversions back to back from x on. -/
def State.seqStarts (s : State) (n x : Nat) : List Nat :=
  match n with
  | 0 => []
  | n + 1 => let t := s.seqStartAt 128 x; t :: s.seqStarts n (t + 1000)

/-! ### The result queue (R334, R335, R337) -/

/-- An entry is placed, or dropped where the queue is full. -/
def rqPlace (w0 w1 : Nat) (s : State) : State :=
  if 256 ≤ s.hk.rq.length then
    ({ s with hk := { s.hk with gap := true } }.setFlag R.HK_STATUS.RQ_OVF).bumpSat R.RQ_DROP_COUNT.DROPS
  else { s with hk := { s.hk with rq := s.hk.rq ++ [(w0 + 2 ^ 11 * b2n s.hk.gap, w1)], gap := false } }

/-- DATA of an ADC result. -/
def adcData (code : Int) (left : Bool) : Nat := ofInt 32 (if left then code * 16 else code)

/-- A read of RQ_POP_LO: the head entry, whose word 1 is latched. -/
def rqPop (s : State) : Nat × State :=
  match s.hk.rq with
  | e :: r => (e.1, { s with hk := { s.hk with rq := r } }.put R.RQ_POP_HI.POP_HI e.2)
  | [] => (0, s.put R.RQ_POP_HI.POP_HI 0)

/-! ### The sequence table (R333) -/

/-- Fields of an entry as it was read. -/
def entryInput (w : Nat) : Nat := bits w 0 6
def entryLeft (w : Nat) : Bool := bit w 6
def entryDisc (w : Nat) : Bool := bit w 7
def entryRepeat (w : Nat) : Nat := bits w 8 8
def entryDelay (w : Nat) : Nat := bits w 16 10

/-- Entry e's turn comes, `from_` being the end of the one before: it is read now, and its DELAY begins. -/
def seqTurn (e from_ : Nat) (s : State) : State :=
  let w := (s.reg (R.SEQ_ENTRY.addr e)).toNat
  { s.put R.HK_STATUS.SEQ_POS e with hk := { s.hk with seqWord := w, seqLeft := entryRepeat w + 1, seqAt := from_ + 1000 * entryDelay w } }

/-- SEQ_EN becomes 1: the table starts at entry 0, behind a conversion still in progress. -/
def seqStart (s : State) : State := seqTurn 0 (s.hk.seqTail.foldl (fun m p => max m (p.2 + 1000)) s.ns) s

/-- SEQ_EN becomes 0: the table stops after the conversion in progress. -/
def seqStop (s : State) : State :=
  let starts := if entryInput s.hk.seqWord < 32 then s.seqStarts s.hk.seqLeft s.hk.seqAt else []
  { s with hk := { s.hk with seqTail := s.hk.seqTail ++ ((starts.filter (fun x => decide (x ≤ s.ns))).map (s.hk.seqWord, ·)) } }

/-- The entry is done: the next one counts from `end_`. -/
def seqNext (end_ : Nat) (s : State) : State :=
  let p := s.get R.HK_STATUS.SEQ_POS
  seqTurn (if s.get R.HK_CTL.SEQ_LAST ≤ p then 0 else p + 1) end_ s

/-- A conversion of an entry that started at `start`, with the converter's code: a sample for capture, and a result. -/
def seqConvert (w start raw : Nat) (s : State) : State :=
  let i := entryInput w
  let c := s.adcCode i raw
  let w0 := i + 2 ^ 6 * b2n (entryLeft w) + 2 ^ 7 * b2n (s.adcDiff i) + 2 ^ 16 * (start / 1000 % 65536)
  rqPlace w0 (adcData c (entryLeft w)) (capValue 2 i start c s)

/-- Conversions that were in progress when the table stopped end. -/
def seqDrain (codes : List Nat) (s : State) : State :=
  match codes, s.hk.seqTail with
  | c :: r, (w, start) :: l =>
    if s.ns < start + 1000 then s
    else seqDrain r (seqConvert w start c { s with hk := { s.hk with seqTail := l } })
  | _, _ => s

/-- The conversions of the running entry that have ended, each with the converter's code, as far as codes are given. -/
def seqRun (codes : List Nat) (s : State) : State :=
  match codes with
  | [] => s
  | c :: r =>
    let start := s.seqStartAt 128 s.hk.seqAt
    if s.ns < start + 1000 then s
    else
      let h := s.hk
      let s := seqConvert h.seqWord start c { s with hk := { h with seqLeft := h.seqLeft - 1, seqAt := start + 1000 } }
      if h.seqLeft ≤ 1 then seqNext (start + 1000) s else seqRun r s

/-- An entry that names a sensor port places that port's latest output. -/
def seqPort (w : Nat) (s : State) : State :=
  let x := s.sport (entryInput w - 32)
  if x.made && !(entryDisc w && bit x.tags 8) then
    rqPlace (entryInput w + 2 ^ 7 + x.tags + 2 ^ 16 * (x.at_ / 1000 % 65536)) (s.get (R.SP_OUT.OUT (entryInput w - 32))) s
  else s

/-- The table runs: conversions that have ended, or the grant of an entry that names a sensor port. A reserved INPUT places
nothing and takes no ADC time. -/
def seqEntry (codes : List Nat) (s : State) : State :=
  if !s.hk.seqTail.isEmpty then seqDrain codes s
  else if !s.flag R.HK_CTL.SEQ_EN then s
  else
    let w := s.hk.seqWord
    if entryInput w < 32 then seqRun codes s
    else if s.ns < s.hk.seqAt then s
    else seqNext s.hk.seqAt (if entryInput w < 40 then seqPort w s else s)

/-! ### Reserved conversions (R332, R343) -/

/-- The guard processor reads a head's elevation conversion (08_emission_guard.md R210, 09_scanner_control.md R224). -/
def elevRead (h code : Nat) (s : State) : State :=
  let x := s.proof h
  let keep := fun (p : Nat × Nat) => decide (s.ns ≤ p.1 + 1000000 * s.guard.table.elevWin)
  s.setProof h { x with elev := ((s.ns, code) :: x.elev).filter keep }

/-- A loop's conversion: its code is y at the loop's next sample (09_scanner_control.md R229). -/
def loopConversion (n code : Nat) (s : State) : State :=
  if s.loopConverts n then
    let i := s.get (R.LOOP_CTL.FB_AUX n)
    let s := s.modLoop n (fun x => { x with conv := code, convNew := true })
    let s := if n = 1 ∨ n = 3 then elevRead (n / 2) code s else s
    capValue 2 i s.ns (s.adcCode i code) s
  else s

/-- A supply conversion, compared with its window while SUP_EN is set. -/
def supplyConversion (k code : Nat) (s : State) : State :=
  let s := capValue 2 (16 + k) s.ns (s.adcCode (16 + k) code) s
  if !s.flag R.HK_CTL.SUP_EN then s
  else
    let low := decide (code < s.get (R.SUP_WIN.SUP_LO k))
    let high := decide (s.get (R.SUP_WIN.SUP_HI k) < code)
    let dwell := max 1 (s.get R.SUP_DWELL.value)
    let n := if low || high then min 15 (s.hk.outside.get 0 k + 1) else 0
    let s := { s with hk := { s.hk with outside := s.hk.outside.put 0 k n } }
    let now := s.get R.SUP_STATUS.SUP_NOW
    if n = 0 then s.put R.SUP_STATUS.SUP_NOW (now - 2 ^ k * b2n (bit now k))
    else if dwell ≤ n ∧ !bit now k then
      let f := if low then R.SUP_STATUS.SUP_LOW else R.SUP_STATUS.SUP_HIGH
      enterErr 13 k f ((s.put R.SUP_STATUS.SUP_NOW (now ||| 2 ^ k)).put f (s.get f ||| 2 ^ k))
    else s

/-! ### Sensor ports (R338 to R342) -/

/-- M, Q, N and the decimation of a port (R339). -/
def State.spM (s : State) (n : Nat) : Nat := 24 * 2 ^ s.get (R.SP_CFG.MLEN n)
def State.spQ (s : State) (n : Nat) : Nat := s.get (R.SP_CFG.Q_M1 n) + 1
def State.spTaps (s : State) (n : Nat) : Nat := s.spQ n * (s.spM n - 1) + 1
def State.spEvery (s : State) (n : Nat) : Nat := s.spM n / 2 ^ s.get (R.SP_CFG.DEC n)

/-- T_s in ns (R339), and the pulse length in ns (R338). -/
def State.spPeriod (s : State) (n : Nat) : Nat :=
  if s.flag (R.SP_CFG.NOTCH_MODE n) then 10 ^ 12 / (s.spM n * max 1 (s.get R.FU_MAINS.value))
  else 1000 * max 50 (min 1000 (s.get (R.SP_TIMING.EXC_PERIOD n)))
def State.spPulse (s : State) (n : Nat) : Nat := min (1000 * s.get (R.SP_TIMING.EXC_ON n)) (s.spPeriod n - 10000)

/-- The excitation of a port (R338): µA for a current, µV for a bridge's voltage. -/
def excitation (kind level : Nat) : Nat :=
  if kind = 0 then [10, 50, 100, 250, 500, 1000].getD level 0
  else if kind = 1 then [500000, 1000000, 2000000, 2500000].getD level 0
  else 100

/-- What port n drives: its excitation at the level in force, nothing while it is off. -/
def State.spDrives (s : State) (n : Nat) : Nat :=
  if s.flag (R.SP_CFG.PORT_EN n) then excitation (s.get (R.SP_CFG.KIND n)) (s.sport n).level else 0

/-- Nominal V_F in µV (R338): across the reference resistor, at the bridge, or the internal reference. -/
def State.spNominal (s : State) (n : Nat) : Nat :=
  let k := s.get (R.SP_CFG.KIND n)
  if k = 0 then s.spDrives n * s.get (R.SP_REF.REF_CENTI n) / 100 else if k = 1 then s.spDrives n else 1200000

/-- INT_US in force (R338), µs: at most EXC_ON less 10. -/
def State.spInt (s : State) (n : Nat) : Nat := min (s.get (R.SP_TIMING.INT_US n)) (s.spPulse n / 1000 - 10)

/-- A pulse as the port sees it: V_S and V_F in µV over each µs, oldest first, and whether the source stayed in compliance. -/
structure Pulse where
  volts : List (Int × Int)
  comply : Bool
  deriving DecidableEq, Repr

/-- V_S and V_F integrated over the last INT_US µs of a pulse, as sums, and the µs summed; a thermocouple divides by the
internal 1.2 V reference (R338). -/
def State.spSums (s : State) (n : Nat) (p : Pulse) : Int × Int × Nat :=
  let l := p.volts.drop (p.volts.length - s.spInt n)
  ((l.map Prod.fst).sum, if s.get (R.SP_CFG.KIND n) = 2 then 1200000 * (l.length : Int) else (l.map Prod.snd).sum, l.length)

/-- The pulse shows a wire break (R342): the source out of compliance, an average beyond 95 % of the converter's range, V_F
below 2 % of its nominal value, or a thermocouple's V_S above 100 mV during the 10 µs test pulse. The converter's range is
not stated: a free constant (log 117). -/
def State.spBroken (s : State) (n : Nat) (p : Pulse) : Bool :=
  let x := s.spSums n p
  let most : Int := 95 * (Config.portRange (s.get (R.SP_CFG.GAIN n)) * x.2.2 : Nat)
  !p.comply || decide (most < 100 * (x.1.natAbs : Int)) || decide (most < 100 * (x.2.1.natAbs : Int))
    || decide (50 * x.2.1 < ((s.spNominal n * x.2.2 : Nat) : Int))
    || (decide (s.get (R.SP_CFG.KIND n) = 2) && (p.volts.take 10).any (fun v => decide (100000 < v.1)))

/-- The port's filter is reset (R340). -/
def SensorPort.clear (x : SensorPort) : SensorPort := { x with hist := [], count := 0, change := none }

/-- PORT_EN becomes 1. -/
def portEnable (n : Nat) (s : State) : State :=
  let x := (s.sport n).clear
  let s := s.setSport n { x with made := false, broken := false, pulsed := false, level := s.get (R.SP_CFG.EXC_LEVEL n) }
  s.clrFlag (R.SP_STATUS.WIREBREAK n)

/-- EXC_LEVEL or GAIN changed: the filter is reset at the next pulse. -/
def portChange (n : Nat) (s : State) : State := s.setSport n { s.sport n with change := some s.ns }

/-- A raw sample and whether it was clamped; `free` stands for the quotient by a zero reference. -/
def spRaw (gain : Nat) (vs vf free : Int) : Int × Bool :=
  let x := if vf = 0 then free
    else roundDiv ((2 ^ (22 + gain) : Nat) * (if vf < 0 then -vs else vs)) vf.natAbs
  (clampInt (-8388607) 8388607 x, decide (x < -8388607 ∨ 8388607 < x))

/-- Sums of m neighbours. -/
def boxcar (m : Nat) (l : List Int) : List Int := (List.range (l.length + 1 - m)).map (fun i => ((l.drop i).take m).sum)
def boxcars (q m : Nat) (l : List Int) : List Int :=
  match q with
  | 0 => l
  | q + 1 => boxcars q m (boxcar m l)

/-- The filter's window: the samples since the reset, filled up with the first (R340). -/
def spWindow (taps : Nat) (hist : List (Int × Bool)) : List (Int × Bool) :=
  hist ++ List.replicate (taps - hist.length) (hist.getLastD (0, false))

/-- The coefficient words of a port. -/
def State.spCoefs (s : State) (n : Nat) : List Nat := (List.range 18).map (fun i => s.get (R.SP_COEF.C_IJ n (i / 3) (i % 3)))

/-- The cold-junction temperature in °C as a quotient (R341). -/
def State.coldJunction (s : State) (n : Nat) : Int × Nat :=
  let c := s.get (R.SP_CFG.CJ_SRC n)
  if c < 8 then (s.geti (R.SP_OUT.OUT c), 1000)
  else if c = 8 then (((s.tempCode 0 16 : Nat) : Int) - 1024, 16)
  else (0, 1)

/-- A single-precision number: its significand and the power of two by which the scale 2^-149 exceeds it; none where it is
not finite. -/
def single (w : Nat) : Option (Int × Nat) :=
  let e := bits w 23 8
  let m := bits w 0 23 + (if e = 0 then 0 else 2 ^ 23)
  if e = 255 then none else some (if bit w 31 then -(m : Int) else m, max e 1 - 1)

/-- The terms of the polynomial (R341) over the common denominator 2^149 × 2^110 × td^2: coefficient word i is c of
s^(i / 3) t^(i mod 3), s = x / 2^22, t = tn / td. -/
def polyTerms (c : List Nat) (x tn : Int) (td : Nat) : List Int :=
  (List.range c.length).map (fun i =>
    match single (c.getD i 0) with
    | some (m, e) => m * (2 ^ (e + 22 * (5 - i / 3)) : Nat) * x ^ (i / 3) * tn ^ (i % 3) * (td ^ (2 - i % 3) : Nat)
    | none => 0)
def polyScale (td : Nat) : Nat := td ^ 2 * 2 ^ (149 + 22 * 5)

/-- The linearised value. The rule gives the sum and single precision throughout, and not the order in which it is rounded: the
value is a free one (DESIGN CHOICE, log 77) no further from the exact sum than 64 roundings of each term could take it; where
a coefficient or a term is beyond single precision it is free altogether. -/
def polyValue (c : List Nat) (x tn : Int) (td : Nat) : Int :=
  let l := polyTerms c x tn td
  let d := polyScale td
  let most := (l.map Int.natAbs).sum
  let free := Config.linearise c x tn td
  if c.any (fun w => (single w).isNone) || decide (d * 2 ^ 127 ≤ most) then free
  else
    let err : Int := (most / 2 ^ 18 + d / 2 ^ 64 : Nat)
    clampInt (roundDiv (l.sum - err) d) (roundDiv (l.sum + err) d) free

/-- The linearised value and whether it was clamped. -/
def State.spLinear (s : State) (n : Nat) (x : Int) : Int × Bool :=
  let t := s.coldJunction n
  let y := polyValue (s.spCoefs n) x t.1 t.2
  (clampInt (-2147483648) 2147483647 y, decide (y < -2147483648 ∨ 2147483647 < y))

/-- The arguments of a port's curve expansion: curve, KIND, GAIN, REF_CENTI, SPAN_LO, SPAN_HI, the NTC words. -/
def State.curveArgs (s : State) (n : Nat) : List Nat :=
  [s.get (R.SP_CFG.CURVE n), s.get (R.SP_CFG.KIND n), s.get (R.SP_CFG.GAIN n), s.get (R.SP_REF.REF_CENTI n),
   s.get (R.SP_SPAN.SPAN_LO n), s.get (R.SP_SPAN.SPAN_HI n)] ++ (List.range 3).map (fun m => s.get (R.SP_NTC.NTC n m))

/-- A finished expansion replaces the coefficients at the next output (R341). -/
def takeCurve (n : Nat) (s : State) : State :=
  match (s.sport n).curveSet with
  | some l => upTo 18 (fun i s => s.put (R.SP_COEF.C_IJ n (i / 3) (i % 3)) (l.getD i 0)) (s.setSport n { s.sport n with curveSet := none })
  | none => s

/-- An output: its tags, its value, its registers. -/
def spOutput (n tags : Nat) (y : Int) (s : State) : State :=
  let x := s.sport n
  let s := s.setSport n { x with made := true, tags := tags, at_ := s.ns, good := if bit tags 9 then x.good else y }
  ((s.puti (R.SP_OUT.OUT n) y).bump (R.SP_OUT_COUNT.OUTPUTS n)).putb (R.SP_STATUS.SETTLING n) (bit tags 8)

/-- A sample enters the filter, which gives an output after every M ÷ 2^DEC samples. -/
def spFilter (n : Nat) (v : Int × Bool) (s : State) : State :=
  let x := s.sport n
  let taps := s.spTaps n
  let hist := (v :: x.hist).take taps
  let s := s.setSport n { x with hist := hist, count := x.count + 1 }
  let s := if v.2 then s.setFlag (R.SP_STATUS.SAT_SEEN n) else s
  if (x.count + 1) % s.spEvery n = 0 then
    let w := spWindow taps hist
    let sum := (boxcars (s.spQ n) (s.spM n) (w.map Prod.fst)).headD 0
    let out := roundDiv sum (s.spM n ^ s.spQ n)
    let s := takeCurve n s
    let y := s.spLinear n out
    let settling := decide (x.count < taps - 1) || s.flag (R.SP_STATUS.CURVE_BUSY n)
    let tags := 2 ^ 8 * b2n settling + 2 ^ 10 * b2n (w.any Prod.snd) + 2 ^ 12 * b2n y.2
    let s := if y.2 then s.setFlag (R.SP_STATUS.LIN_SAT_SEEN n) else s
    capValue 3 n s.ns out (spOutput n tags y.1 (s.puti (R.SP_X.X n) out))
  else s

/-- A pulse with a wire break (R342): an output at once, holding the last good value. -/
def spBreak (n : Nat) (s : State) : State :=
  let x := s.sport n
  let first := !x.broken
  let s := s.setSport n { x with broken := true, pulsed := true }
  let s := (s.setFlag (R.SP_STATUS.WIREBREAK n)).setFlag (R.SP_STATUS.WB_SEEN n)
  let s := spOutput n (2 ^ 9 + 2 ^ 8 * b2n (s.flag (R.SP_STATUS.CURVE_BUSY n))) x.good s
  let s := if first then enterErr 12 n (R.SP_STATUS.WIREBREAK n) s else s
  if s.flag (R.SP_CFG.THERMAL n) then portsHold s else s

/-- A port's pulse has been integrated: a wire break, a discarded sample, or a raw sample. A change of EXC_LEVEL or GAIN
written before the pulse began is in force in it. -/
def spSample (n : Nat) (p : Pulse) (s : State) : State :=
  if !s.flag (R.SP_CFG.PORT_EN n) then s
  else
    let x := s.sport n
    let mid := match x.change with | some c => decide (s.ns < c + s.spPulse n) | none => false
    let s := if mid then s else s.setSport n { x with level := s.get (R.SP_CFG.EXC_LEVEL n) }
    if s.spBroken n p then spBreak n s
    else
      let x := s.sport n
      let x := if !mid && (x.broken || x.change.isSome) then x.clear else x
      let s := (s.setSport n { x with broken := false, pulsed := true }).clrFlag (R.SP_STATUS.WIREBREAK n)
      if mid then (if s.flag (R.SP_CFG.THERMAL n) then portsHold s else s)
      else
        let v := s.spSums n p
        let (w, s) := s.drawIf (v.2.1 == 0) 0
        let s := spFilter n (spRaw (s.get (R.SP_CFG.GAIN n)) v.1 v.2.1 (sgn 32 w.toNat)) s
        if s.flag (R.SP_CFG.THERMAL n) then portsHold s else s

/-! ### Curves (R341) -/

/-- The kind of a curve. -/
def curveKind (c : Nat) : Nat := if c = 1 ∨ c = 2 ∨ c = 7 then 0 else 2

/-- An expansion of the curve in CURVE starts, in place of one that has not replaced the coefficients yet, or is refused with
CFG_REJ and leaves them unchanged. -/
def curveExpand (n : Nat) (s : State) : State :=
  let c := s.get (R.SP_CFG.CURVE n)
  let s := (s.setSport n { s.sport n with curveOf := s.curveArgs n, curveSet := none }).clrFlag (R.SP_STATUS.CURVE_BUSY n)
  if c = 0 then s
  else if s.get (R.SP_CFG.KIND n) ≠ curveKind c ∨ (curveKind c = 0 ∧ s.get (R.SP_REF.REF_CENTI n) = 0) then
    s.setFlag (R.SP_STATUS.CFG_REJ n)
  else s.setFlag (R.SP_STATUS.CURVE_BUSY n)

/-- The expansion finishes: FIT_ERR, FIT_WARN, CURVE_DONE. -/
def curveExpandDone (n : Nat) (s : State) : State :=
  if s.flag (R.SP_STATUS.CURVE_BUSY n) then
    let x := s.sport n
    let e := Config.curveFit x.curveOf 18 % 65536
    let s := (s.clrFlag (R.SP_STATUS.CURVE_BUSY n)).setFlag (R.SP_STATUS.CURVE_DONE n)
    let s := s.put (R.SP_FIT.FIT_ERR n) e
    let s := if 50 < e then s.setFlag (R.SP_STATUS.FIT_WARN n) else s
    s.setSport n { x with curveSet := some ((List.range 18).map (Config.curveFit x.curveOf)) }
  else s

/-! ### Meanings -/

/-- LOOP_CONVERSION (R332; 09_scanner_control.md R229). -/
def execLoopConversion (t : Nat) (n : Fin 8) (code : Fin 4096) (s : State) : Host.Outcome State Fault Refusal :=
  act t (loopConversion n code) s

/-- SUPPLY_CONVERSION (R332, R343). -/
def execSupplyConversion (t : Nat) (k : Fin 8) (code : Fin 4096) (s : State) : Host.Outcome State Fault Refusal :=
  act t (supplyConversion k code) s

/-- SEQ_ENTRY_RUN (R333 to R335, R337). -/
def execSeqEntryRun (t : Nat) (codes : List Nat) (s : State) : Host.Outcome State Fault Refusal := act t (seqEntry codes) s

/-- SP_SAMPLE (R338 to R342). -/
def execSpSample (t : Nat) (n : Fin 8) (vs vf : List Int) (comply : Bool) (s : State) :
    Host.Outcome State Fault Refusal :=
  act t (spSample n ⟨vs.zip vf, comply⟩) s

/-- CURVE_EXPAND_DONE (R341). -/
def execCurveExpandDone (t : Nat) (n : Fin 8) (s : State) : Host.Outcome State Fault Refusal := act t (curveExpandDone n) s

end Sys2Proof.Machine
end

