-- ==== Sys2Proof/Machine/Calibration.lean ====
section
/-! DEFINITION. Calibration (15_thermal_calibration.md R355 to R361): comparator runs, trim steps, urgent lines,
reference ops, emitter slopes. Trims of groups assigned to neither head step with head A (DESIGN CHOICE, log 15). -/

namespace Sys2Proof.Machine

/-! ### Trim steps (R355, R357, R360) -/

/-- One LSB toward a target. -/
def stepTo (v aim : Int) : Int := if v < aim then v + 1 else if aim < v then v - 1 else v

/-- The head whose lines move a channel's trims. -/
def State.trimHeadOf (s : State) (ch : Nat) : Nat := (s.groupHead (ch / 12)).getD 0

/-- One comparator trim moves by one LSB toward its target. -/
def stepTrim (key : Nat) (s : State) : State :=
  match s.therm.targets.get none key with
  | none => s
  | some aim =>
    let ch := key / 4
    let q := key % 4
    let aim := if q < 2 then clampInt (-512) 511 aim else aim
    let v := stepTo (s.trim ch q) aim
    let s := setTrim ch q v s
    if v = aim then { s with therm := { s.therm with targets := s.therm.targets.put none key none } } else s

/-- The head whose lines move a die's translation table: that of the first of its groups that has one. The hub's table
moves with head A (DESIGN CHOICE, log 15). -/
def State.interpHead (s : State) (d : Nat) : Nat :=
  if d = 0 then 0 else ((List.range 16).findSome? (fun g => s.groupHead (partGroup d g))).getD 0

/-- Interpolator calibration has found where boundaries belong (R355), by 4,096 × die + boundary. -/
def takeBounds (found : List (Nat × Int)) (s : State) : State :=
  if s.flag R.THERM_CTL.INTERP_CAL_EN then
    { s with therm := { s.therm with interpTo := found.foldl (fun m p => SMap.put m 0 p.1 p.2) s.therm.interpTo } }
  else s

/-- A comparator trim may move: while CMP_CAL_EN is clear the host's values of CH_OFS stand (R359). -/
def State.trimMoves (s : State) (key : Nat) : Bool := s.flag R.THERM_CTL.CMP_CAL_EN || decide (2 ≤ key % 4)

/-- The trims of a head's channels move: comparators, and the interpolator's boundaries while INTERP_CAL_EN is set. -/
def stepTrims (h : Nat) (s : State) : State :=
  let s := forAll (s.therm.targets.keys.filter (fun k => s.trimHeadOf (k / 4) = h && s.trimMoves k)) stepTrim s
  if s.flag R.THERM_CTL.INTERP_CAL_EN then
    forAll (s.therm.interpTo.keys.filter (fun k => s.interpHead (k / 4096) = h)) (fun k s =>
      let v := stepTo (s.therm.interp.get 0 k) (s.therm.interpTo.get 0 k)
      { s with therm := { s.therm with interp := s.therm.interp.put 0 k v } }) s
  else s

/-- REF_OFS moves one fine LSB toward the mean of the last 16 residuals (R356). -/
def refStep (h : Nat) (s : State) : State :=
  let l := s.therm.residuals.get [] h
  if !s.flag R.THERM_CTL.REF_CAL_EN || l.isEmpty then s
  else s.puti (R.REF_STATUS.REF_OFS h)
    (clampInt (-32768) 32767 (stepTo (s.geti (R.REF_STATUS.REF_OFS h)) (roundDiv l.sum l.length)))

/-- What a line of a head moves. -/
def lineTrims (h : Nat) (s : State) : State := refStep h (upTo 32 (slopeStep h) (stepTrims h s))

/-- The 100 µs step while a head runs no format (R355, R360). -/
def idleTrims (h : Nat) (found : List (Nat × Int)) (s : State) : State :=
  let s := takeBounds found s
  if s.running h then s else stepTrims h s

/-! ### Comparator runs (R358 to R361) -/

/-- Groups of a die's run that are neither done nor being calibrated. -/
def State.calLeft (s : State) (d : Nat) : List Nat :=
  let x := s.calDie d
  (List.range 16).filter (fun g => !bit (s.get (R.DIE_CAL.GROUPS_DONE d)) g && x.active.all (fun a => decide (a.1 ≠ g)))

/-- A run of the die is due and may start, or has started (R359). -/
def State.calRuns (s : State) (d : Nat) : Bool :=
  s.dieUp d && (s.calDie d).due.isSome &&
    (s.flag R.THERM_CTL.CMP_CAL_EN || decide (s.get (R.DIE_CAL.GROUPS_DONE d) ≠ 0) || !(s.calDie d).active.isEmpty)

/-- The head that runs a format with a group of a die. -/
def State.groupRuns (s : State) (d g : Nat) : Option Nat := (s.groupHead (partGroup d g)).filter s.running

/-- A window of the group's channels is open (R358). -/
def State.groupOpen (s : State) (d g t : Nat) : Bool :=
  (List.range 12).any (fun c => (s.chanOps ((d - 1) * 192 + 12 * g + c)).any (fun x =>
    x.2.2.open_ && (x.2.2.fires ++ x.2.2.waiting).any (fun f => x.2.2.covers f.2 t)))

/-- Groups are switched to calibration one after another, 20 µs each, from an instant in ns on. -/
def startGroups (d : Nat) (from_ : Nat) (l : List Nat) (s : State) : State :=
  let x := s.calDie d
  let new := (List.range l.length).map (fun i => (l.getD i 0, from_ + 20000 * i, from_ + 20000 * (i + 1)))
  s.setCalDie d { x with active := x.active ++ new }

/-- A line flyback of a head, from φ + 20 µs on and once in it: at most two groups of the die; those with a window open are
skipped and counted. -/
def calFlyback (d h : Nat) (s : State) : State :=
  let phi := (s.drv h).phi
  let x := s.calDie d
  if !s.running h || x.used.get none h = some phi || decide (s.now < phi + fineUs 20 ∨ phi + fineUs 40 < s.now) then s
  else
    let cand := (s.calLeft d).filter (fun g => s.groupRuns d g = some h)
    let free := cand.filter (fun g => !s.groupOpen d g (phi + fineUs 20))
    let two := free.take 2
    let skip := cand.filter (fun g => s.groupOpen d g (phi + fineUs 20) &&
      (decide (two.length < 2) || two.any (fun k => decide (g < k))))
    if cand.isEmpty then s
    else
      let s := s.setCalDie d { x with used := x.used.put none h (some phi) }
      startGroups d (phi / 128 + 20000) two (s.addSat (R.DIE_CAL_SKIP.CAL_SKIP d) skip.length)

/-- A line that calibration has taken (R361): the die's groups of it, during its active part. -/
def calTaken (d h : Nat) (s : State) : State :=
  match (s.head h).calLine with
  | some (line, gs, _) =>
    if line + 1 = (s.head h).lines then startGroups d s.ns ((s.calLeft d).filter (fun g => gs.contains (partGroup d g))) s else s
  | none => s

/-- Groups of no running head: at once, one after another (R358). -/
def calIdle (d : Nat) (s : State) : State :=
  if (s.calDie d).active.any (fun a => (s.groupRuns d a.1).isNone) then s
  else startGroups d s.ns (((s.calLeft d).filter (fun g => (s.groupRuns d g).isNone)).take 1) s

/-- CAL_GROUP_START of a die. -/
def calStart (d : Nat) (s : State) : State :=
  if s.calRuns d then calFlyback d 1 (calFlyback d 0 (calTaken d 1 (calTaken d 0 (calIdle d s)))) else s

/-- Every group of the die is done: the run ends (R358). -/
def calEnd (d : Nat) (s : State) : State :=
  if s.get (R.DIE_CAL.GROUPS_DONE d) = 0xFFFF then
    let x := s.calDie d
    let s := s.setCalDie d { x with due := none, lastTemp := some (s.geti (R.DIE_THERM.T_DIE d)) }
    let s := (s.put (R.DIE_CAL.GROUPS_DONE d) 0).clrFlag (R.DIE_CAL.CAL_DUE d)
    let s := (s.bump R.CAL_COUNT.value).bump (R.DIE_CAL_COUNT.RUNS d)
    raiseEv 14 ((s.put R.CAL_LAST_LO.LAST_LO s.ns).put R.CAL_LAST_HI.LAST_HI (s.ns / 2 ^ 32))
  else s

/-- A group's 20 µs have passed: the targets found for its comparators replace the old ones (R360). -/
def calGroup (d g : Nat) (results : List (Nat × Nat × Int)) (s : State) : State :=
  let x := s.calDie d
  match x.active.find? (fun a => a.1 = g) with
  | none => s
  | some a =>
    if s.ns < a.2.2 then s
    else
      let s := s.setCalDie d { x with active := x.active.filter (fun b => b.1 ≠ g) }
      let mine := results.filter (fun r => decide (chDie r.1 = d ∧ chGroup r.1 = g ∧ r.2.1 < 4))
      let s := forAll mine (fun r s =>
        { s with therm := { s.therm with targets := s.therm.targets.put none (4 * r.1 + r.2.1) (some r.2.2) } }) s
      calEnd d (s.put (R.DIE_CAL.GROUPS_DONE d) (s.get (R.DIE_CAL.GROUPS_DONE d) ||| 2 ^ g))

/-- A run late by CAL_URGENT takes the next line of each head that has a group still to calibrate (R361). -/
def calUrgent (d : Nat) (s : State) : State :=
  match (s.calDie d).due with
  | none => s
  | some t =>
    if s.calRuns d && decide (t + 1000000 * s.get R.THERM_CTL.CAL_URGENT ≤ s.ns) then
      upTo 2 (fun h s =>
        let gs := ((s.calLeft d).filter (fun g => s.groupRuns d g = some h)).map (partGroup d)
        if gs.isEmpty then s
        else s.modHead h (fun x => { x with calNext := some ((x.calNext.getD []).filter (fun g => !gs.contains g) ++ gs) })) s
    else s

/-- A line of a head starts: it is taken where a run is late (R361). A standby's ops of the groups are unshadowed. -/
def calLineStart (h line : Nat) (s : State) : State :=
  let s := calLineEnd h s
  match (s.head h).calNext with
  | some gs =>
    let s := s.modHead h (fun x => { x with calNext := none, calLine := some (line, gs, 0) })
    let s := s.modFrame h (s.frameCount h) (fun a => { a with displaced := true })
    if s.standby then
      forAll s.opKeys (fun k s => match s.op k.1 k.2 with
        | some o => if o.shadow && gs.contains (o.chan / 12) then s.setOp k.1 k.2 (some { o with unsh := true }) else s
        | none => s) s
    else s
  | none => s

/-! ### Reference ops (R356) -/

/-- The reference op of a head at φ + 60 µs of its line flyback. -/
def refOp (s : State) (h : Nat) : Op :=
  let k := max 1 (min 64 (s.get (R.REF_CFG.REF_K h)))
  { w0 := 2 ^ 19 * s.get (R.REF_CFG.REF_CHAN h) + 2 ^ 30 * h
    w1 := k - 1 + 2 ^ 23
    w2 := 1000
    v0 := (s.drv h).phi / 128 + 60000
    vs := [(s.drv h).phi / 128 + 60000]
    ends := [none]
    noMore := true
    bank := s.get (R.REF_CFG.REF_BANK h)
    frameNow := s.frameCount h
    ref := some h }

/-- A reference op takes a slot as any other, or is declined. -/
def refIssue (h : Nat) (s : State) : State :=
  let phi := (s.drv h).phi
  if !s.flag R.THERM_CTL.REF_CAL_EN || !s.running h || decide (s.now < phi + fineUs 60) || s.therm.refPhi.get none h = some phi
  then s
  else
    let s := { s with therm := { s.therm with refPhi := s.therm.refPhi.put none h (some phi) } }
    let o := refOp s h
    let p := s.therm.refAt.get 0 h
    if !s.chFitted o.chan then s.bumpSat (R.REF_STATUS.REF_SKIP h)
    else match s.declineReason o false false with
      | some r => (s.bump (R.DECL_COUNT.DECL (chDie o.chan) r)).bumpSat (R.REF_STATUS.REF_SKIP h)
      | none => issue o (if p = 0 then [] else [p]) s

/-! ### Meanings -/

/-- TRIM_STEP_NO_FORMAT (R355, R360). -/
def execTrimStepNoFormat (t : Nat) (at_ : HeadBounds) (s : State) : Host.Outcome State Fault Refusal :=
  act t (idleTrims at_.head at_.found) s

/-- REF_OP_ISSUE (R356). -/
def execRefOpIssue (t : Nat) (head : Fin 2) (s : State) : Host.Outcome State Fault Refusal := act t (refIssue head) s

/-- CAL_GROUP_START (R358). -/
def execCalGroupStart (t : Nat) (die : Nat) (s : State) : Host.Outcome State Fault Refusal := act t (calStart die) s

/-- CAL_GROUP (R358, R360). -/
def execCalGroup (t : Nat) (die group : Nat) (results : List (Nat × Nat × Int)) (s : State) :
    Host.Outcome State Fault Refusal := act t (calGroup die group results) s

/-- CAL_URGENT (R361). -/
def execCalUrgent (t : Nat) (die : Nat) (s : State) : Host.Outcome State Fault Refusal := act t (calUrgent die) s

end Sys2Proof.Machine
end

