-- ==== Sys2Proof/Machine/TimeBase.lean ====
section
/-! DEFINITION. The time base (02_channels_and_time.md R44 to R58): lock and holdover, device time, anchors, SYNC, the
interval unit and the frequency unit. -/

namespace Sys2Proof.Machine

/-! ### Lock (R44, R45) -/

/-- The multiplier locks. When lock returns, a head that runs waits for its next frame. -/
def tbLock (s : State) : State :=
  if s.flag R.TB_STATUS.LOCKED then s
  else
    let again := decide (0 < s.get R.TB_STATUS.LOCK_LOSS_COUNT)
    let s := (s.setFlag R.TB_STATUS.LOCKED).clrFlag R.TB_STATUS.HOLDOVER
    let s := { s with tb := { s.tb with lockedAt := s.now } }
    if again ∧ s.su.power = .running then
      { s with tb := { s.tb with resumeA := s.running 0, resumeB := s.running 1 } }
    else s

/-- The multiplier loses lock: holdover, LOCK_LOST, an error; OWN is released (11_twin.md R290); events being composed are
lost (no channel takes stamps). -/
def tbLoss (s : State) : State :=
  if !s.flag R.TB_STATUS.LOCKED then s
  else
    let s := (s.clrFlag R.TB_STATUS.LOCKED).setFlag R.TB_STATUS.HOLDOVER
    if s.su.power = .running then
      let s := (s.setFlag R.TB_STATUS.LOCK_LOST).bumpSat R.TB_STATUS.LOCK_LOSS_COUNT
      releaseOwn 2 (dropOpenEvents (fun _ => true) (enterErr 4 0 R.TB_STATUS.LOCK_LOST s))
    else s

/-- 6 minutes of powered time have passed since the last write of POWERED_HOURS (R48). -/
def hoursWrite (s : State) : State :=
  if s.sec.hoursAt + 360 * 128000000000 ≤ s.now then
    let s := { s with sec := { s.sec with hoursAt := s.sec.hoursAt + 360 * 128000000000 } }
    nvWrite .poweredHours (s.bump R.POWERED_HOURS.value)
  else s

/-! ### Anchors (R49 to R51) -/

/-- Enter an anchor in AT order, after those of equal AT. -/
def anchorInsert (x : Anchor) : List Anchor → List Anchor
  | [] => [x]
  | y :: r => if x.at_ < y.at_ then x :: y :: r else y :: anchorInsert x r

/-- Enter an anchor (R49, R50): the instant of entry replaces an AT already past; a full queue discards it. -/
def anchorEnter (label at_ : Nat) (s : State) : State × Bool :=
  if 8 ≤ s.tb.anchors.length then
    ((s.setFlag R.ANCHOR_CTL.ANCHOR_FULL).bumpSat R.ANCHOR_CTL.ANCHOR_REJ_COUNT, true)
  else ({ s with tb := { s.tb with anchors := anchorInsert ⟨label, max at_ s.ns⟩ s.tb.anchors } }, false)

/-- A write of ANCHOR_GO. -/
def anchorGo (s : State) : State :=
  (anchorEnter (s.get R.ANCHOR_LABEL_LO.LABEL_LO + 2 ^ 32 * s.get R.ANCHOR_LABEL_HI.LABEL_HI)
    (s.get R.ANCHOR_AT_LO.AT_LO + 2 ^ 32 * s.get R.ANCHOR_AT_HI.AT_HI) s).1

/-- Payload of an ANCHOR milestone. -/
def Anchor.words (a : Anchor) : List Nat := [lo32 a.label, hi32 a.label, lo32 a.at_, hi32 a.at_]

/-- The anchor whose AT has come takes effect; ev11. -/
def anchorEffect (s : State) : State :=
  match s.tb.anchors with
  | a :: r =>
    if a.at_ ≤ s.ns then
      let s := { s with tb := { s.tb with anchors := r, last := some a, framesA := 0, framesB := 0 } }
      raiseEv 11 (milestoneAt 0x04 0 (s.frameCount 0) a.at_ a.words s)
    else s
  | [] => s

/-- A frame of a head opens: every ANCHOR_REPEAT-th since the last anchor repeats it (R51). -/
def anchorRepeat (h frame at_ : Nat) (s : State) : State :=
  match s.tb.last with
  | none => s
  | some a =>
    let n := s.get R.ANCHOR_CTL.ANCHOR_REPEAT
    let k := (if h = 0 then s.tb.framesA else s.tb.framesB) + 1
    let s := if h = 0 then { s with tb := { s.tb with framesA := k } } else { s with tb := { s.tb with framesB := k } }
    if n ≠ 0 ∧ k % n = 0 then milestoneAt 0x04 h frame at_ a.words s else s

/-! ### SYNC (R52, R53) -/

/-- Grading starts anew: absent. -/
def syncOff (s : State) : State :=
  let old := s.get R.SYNC_STATUS.SYNC_QUAL
  let s := { s.put R.SYNC_STATUS.SYNC_QUAL 0 with
    tb := { s.tb with syncRef := none, syncGood := 0, syncMissed := 0, syncDiv := 0, syncGoodAt := none } }
  syncQualChanged old s

/-- SYNC_QUAL takes a value; locked heads follow (05_scan_out.md R124). -/
def setQual (q : Nat) (s : State) : State :=
  let old := s.get R.SYNC_STATUS.SYNC_QUAL
  syncQualChanged old (s.put R.SYNC_STATUS.SYNC_QUAL q)

/-- A missing edge, due by the reference plus SYNC_NOM + SYNC_TOL, has not come by instant `t` (fine LSB). -/
def syncMiss (t : Nat) (s : State) : State :=
  match s.tb.syncRef with
  | none => s
  | some r =>
    let nom := s.get R.SYNC_NOM.value
    if t < r + fineNs (nom + s.get R.SYNC_TOL.value) then s
    else
      let s := (s.setFlag R.SYNC_STATUS.SYNC_MISS).bumpSat R.SYNC_STATUS.SYNC_MISS_COUNT
      let n := s.tb.syncMissed + 1
      if n = 2 then
        setQual 3 { s with tb := { s.tb with syncRef := none, syncGood := 0, syncMissed := 0 } }
      else { s with tb := { s.tb with syncRef := some (r + fineNs nom), syncGood := 0, syncMissed := n } }

/-- A used edge is graded (R53); true where it is early. SYNC_PERIOD has whole ns and P is a figure in fine LSB: it is
rounded down (DESIGN CHOICE, log 109). -/
def syncGrade (at_ : Nat) (s : State) : State × Bool :=
  match s.tb.syncRef with
  | none => (setQual 1 { s with tb := { s.tb with syncRef := some at_, syncGood := 0, syncMissed := 0 } }, false)
  | some r =>
    let p := at_ - r
    let nom := s.get R.SYNC_NOM.value
    let tol := s.get R.SYNC_TOL.value
    if p + fineNs tol < fineNs nom then
      let s := { s.setFlag R.SYNC_STATUS.SYNC_EARLY with tb := { s.tb with syncGood := 0 } }
      (if s.get R.SYNC_STATUS.SYNC_QUAL = 2 then setQual 1 s else s, true)
    else
      let n := min 4 (s.tb.syncGood + 1)
      let s := { s.put R.SYNC_PERIOD.value (p / 128) with
        tb := { s.tb with syncRef := some at_, syncGood := n, syncMissed := 0, syncGoodAt := some at_ } }
      (if n = 4 then setQual 2 s else s, false)

/-- A SYNC edge whose level lasted, begun at `at_` and accepted 20 ns later (R52). Missing edges due before it come first. -/
def syncEdge (at_ : Nat) (rising : Bool) (width : Nat) (s : State) : State :=
  if !s.flag R.SYNC_CFG.SYNC_EN || decide (rising = s.flag R.SYNC_CFG.SYNC_EDGE) || decide (width < fineNs 20) then s
  else if s.tb.syncDiv < s.get R.SYNC_CFG.SYNC_DIV then { s with tb := { s.tb with syncDiv := s.tb.syncDiv + 1 } }
  else
    let s := { s with tb := { s.tb with syncDiv := 0 } }
    let s := syncMiss (at_ - 1) (syncMiss (at_ - 1) s)
    let (s, early) := syncGrade at_ s
    let full := decide (16 ≤ s.tb.syncFifo.length)
    let s := { s with tb := { s.tb with syncFifo := (if full then s.tb.syncFifo.tail else s.tb.syncFifo) ++ [(at_, early)] } }
    raiseEv 8 (if full then s.setFlag R.SYNC_STATUS.SYNC_FIFO_OVF else s)

/-- A read of SYNC_FIFO_LO: the head entry goes to the latch, which SYNC_FIFO_HI and SYNC_FIFO_X show (R52). -/
def syncPop (s : State) : Nat × State :=
  let e : Nat × Bool := s.tb.syncFifo.headD (0, false)
  let s := { s with tb := { s.tb with syncFifo := s.tb.syncFifo.tail } }
  let s := ((s.put R.SYNC_FIFO_HI.STAMP_HI (e.1 / 2 ^ 32)).put R.SYNC_FIFO_X.STAMP_TOP (e.1 / 2 ^ 64)).putb
    R.SYNC_FIFO_X.EARLY e.2
  (e.1 % 2 ^ 32, s)

/-! ### The interval unit (R54, R55) -/

/-- An edge of a source matches a selection: polarity counts for pins and banks, the bank for sources 16 and 17; sources 5
to 8 are instants. -/
def State.iuMatch (s : State) (sel : Nat) (falling : Bool) (src : Nat) (rising : Bool) (bank : Nat) : Bool :=
  decide (sel = src ∧ src ≠ 9) && (decide (5 ≤ src ∧ src ≤ 8) || decide (rising ≠ falling)) &&
    (decide (src < 16) || decide (bank = s.get R.IU_CTL.IU_BANK))

/-- A host or a program owns the unit and its measurement stands in a state. -/
def State.iuHost (s : State) (st : Nat) : Bool := !s.flag R.IU_STATUS.IU_OWNER && decide (s.get R.IU_STATUS.IU_STATE = st)

/-- The unit is idle and free. -/
def iuIdle (s : State) : State := (s.put R.IU_STATUS.IU_STATE 0).clrFlag R.IU_STATUS.IU_OWNER

/-- The end of a measurement whose stop edge has not come within IU_TIMEOUT of arming (R54). A measurement of the drive
frees the unit. -/
def iuExpire (s : State) : State :=
  let s := (s.clrFlag R.IU_STATUS.IU_VALID).setFlag R.IU_STATUS.IU_TIMEOUT_FLAG
  raiseEv 19 (if s.flag R.IU_STATUS.IU_OWNER then iuIdle s else s.put R.IU_STATUS.IU_STATE 3)

/-- A measurement stands, armed at least `n` fine LSB longer ago than IU_TIMEOUT. -/
def State.iuOverdue (s : State) (n : Nat) : Bool :=
  let st := s.get R.IU_STATUS.IU_STATE
  decide ((st = 1 ∨ st = 2) ∧ s.tb.iuArmed + fineNs (s.get R.IU_TIMEOUT.value) + n ≤ s.now)

/-- No stop edge within IU_TIMEOUT of arming (R54). -/
def iuTimeout (s : State) : State := if s.iuOverdue 0 then iuExpire s else s

/-- What an edge or a write finds: a measurement whose time is past has ended, whether IU_TIMEOUT told of it or not (R54). -/
def iuPast (s : State) : State := if s.iuOverdue 1 then iuExpire s else s

/-- Arm the unit, or refuse while it is owned. A software start is the arming write. -/
def iuArm (s : State) : State :=
  let s := iuPast s
  let st := s.get R.IU_STATUS.IU_STATE
  if st = 1 ∨ st = 2 then s.setFlag R.IU_STATUS.IU_BUSY_REJ
  else
    let soft := decide (s.get R.IU_CTL.IU_START_SRC = 9)
    let s := ((s.put R.IU_STATUS.IU_STATE (if soft then 2 else 1)).clrFlag R.IU_STATUS.IU_OWNER).clrFlag R.IU_STATUS.IU_VALID
    { s with tb := { s.tb with iuArmed := s.now, iuStart := s.now } }

/-- The measurement ends at a stop edge: IU_RESULT, IU_VALID, state 3, ev19. -/
def iuStop (s : State) : State :=
  let r := s.now - s.tb.iuStart
  let s := ((s.put R.IU_RESULT_LO.RESULT_LO r).put R.IU_RESULT_HI.RESULT_HI (r / 2 ^ 32)).setFlag R.IU_STATUS.IU_VALID
  raiseEv 19 (s.put R.IU_STATUS.IU_STATE 3)

/-- A start edge. -/
def iuStartEdge (src : Nat) (rising : Bool) (bank : Nat) (s : State) : State :=
  let s := iuPast s
  if s.iuHost 1 && s.iuMatch (s.get R.IU_CTL.IU_START_SRC) (s.flag R.IU_CTL.START_EDGE) src rising bank then
    { s.put R.IU_STATUS.IU_STATE 2 with tb := { s.tb with iuStart := s.now } }
  else s

/-- A stop edge; with one source for both, the next edge after the start. -/
def iuStopEdge (src : Nat) (rising : Bool) (bank : Nat) (s : State) : State :=
  let s := iuPast s
  if s.iuHost 2 && s.iuMatch (s.get R.IU_CTL.IU_STOP_SRC) (s.flag R.IU_CTL.STOP_EDGE) src rising bank &&
     !(decide (src = s.get R.IU_CTL.IU_START_SRC) && decide (s.now = s.tb.iuStart)) then iuStop s
  else s

/-- A write of IU_SWSTOP. -/
def iuSwstop (s : State) : State :=
  let s := iuPast s
  if s.iuHost 2 && decide (s.get R.IU_CTL.IU_STOP_SRC = 9) then iuStop s else s

/-! ### The frequency unit (R56 to R58) -/

/-- A gate opens, unless the unit is busy (R57). -/
def gateOpen (ends : Option Nat) (s : State) : State :=
  if s.flag R.FU_STATUS.FU_BUSY then s
  else { s.setFlag R.FU_STATUS.FU_BUSY with tb := { s.tb with gate := some { ends := ends } } }

/-- A write of FU_START: an internal gate. R56 and R57 give it no effect while FU_GATE_SEL = 0 selects the GATE pin: it is
then ignored (DESIGN CHOICE, log 109). -/
def fuStart (s : State) : State :=
  if s.flag R.FU_CTL.FU_GATE_SEL then gateOpen (some (s.now + fineUs (max 1 (s.get R.FU_GATE_LEN.value)))) s else s

/-- The GATE pin at its active level opens a gate. -/
def fuGateOpen (level : Bool) (s : State) : State :=
  if !s.flag R.FU_CTL.FU_GATE_SEL && decide (level ≠ s.flag R.FU_CTL.FU_GATE_POL) then gateOpen none s else s

/-- The gate ends: the internal gate's time has come, or the pin is at its inactive level. -/
def fuGateEnd (level : Bool) (s : State) : State :=
  match s.tb.gate with
  | some g =>
    let over_ := match g.ends with
      | some e => decide (e ≤ s.now)
      | none => decide (level = s.flag R.FU_CTL.FU_GATE_POL)
    if over_ then { s with tb := { s.tb with gate := some { g with open_ := false } } } else s
  | none => s

/-- An edge of the selected input in an open gate enters the sums of the regression, taken from the first edge on. -/
def gateEdge (t : Nat) (g : Gate) : Gate :=
  if !g.open_ || (match g.ends with | some e => decide (e ≤ t) | none => false) then g
  else if g.n = 2 ^ 32 - 1 then { g with clip := true }
  else
    let first := if g.n = 0 then t else g.first
    let x := t - first
    { g with n := g.n + 1, first := first, sumT := g.sumT + x, sumIT := g.sumIT + g.n * x, sumTT := g.sumTT + x * x }

/-- A rising edge of an input of the frequency unit. -/
def fuEdge (src aux : Nat) (s : State) : State :=
  let s := if src = 0 then { s with tb := { s.tb with frefSeen := some s.now } } else s
  if src = s.get R.FU_CTL.FU_SRC ∧ (src ≠ 3 ∨ aux = s.get R.FU_CTL.MAINS_AUX) then
    { s with tb := { s.tb with gate := s.tb.gate.map (gateEdge s.now) } }
  else s

/-- N² times the sums of R56: of squares of i about its mean, of products, and of squares of t. -/
def Gate.sums (g : Gate) : Nat × Int × Int :=
  let n : Nat := g.n
  let si : Nat := n * (n - 1) / 2
  let sii : Nat := n * (n - 1) * (2 * n - 1) / 6
  (n * sii - si * si, ((n * g.sumIT : Nat) : Int) - ((si * g.sumT : Nat) : Int),
   ((n * g.sumTT : Nat) : Int) - ((g.sumT * g.sumT : Nat) : Int))

/-- FU_MAINS follows a mains result between 45 and 65 Hz (R58), in mHz. -/
def mainsResult (d : Nat) (sxy : Int) (s : State) : State :=
  if s.flag R.FU_CTL.MAINS_AUTO ∧ s.get R.FU_CTL.FU_SRC = 3 then
    let x := 128000000000000 * d
    let p := sxy.toNat
    if 45000 * p ≤ x ∧ x ≤ 65000 * p ∧ p ≠ 0 then s.put R.FU_MAINS.value (roundDiv x p).toNat
    else s.setFlag R.FU_STATUS.MAINS_REJ
  else s

/-- The fields of a finished regression over at least three edges (R56): the period, the residual and the edges. A period
of 2^32 fine LSB or more, and a residual beyond its field, are values the spec does not state. The period's and the
residual's fractions are rounded down (DESIGN CHOICE, log 43). -/
def fuStore (g : Gate) (d : Nat) (sxy syy : Int) (s : State) : State :=
  let p := 2 ^ 32 * sxy.toNat / d
  let r := isqrt (2 ^ 32 * (syy * d - sxy * sxy).toNat / (g.n * g.n * d))
  let (v, s) := s.drawIf (decide (2 ^ 64 ≤ p)) (BitVec.ofNat 32 (p / 2 ^ 32))
  let (w, s) := s.drawIf (decide (2 ^ 32 ≤ r)) (BitVec.ofNat 32 r)
  let s := (((s.put R.FU_PERIOD_INT.PERIOD_INT v.toNat).put R.FU_PERIOD_FRAC.PERIOD_FRAC p).put R.FU_RESID.value
    w.toNat).put R.FU_EDGES.value g.n
  if g.clip then s.setFlag R.FU_STATUS.FU_CLIP else s

/-- The end of a regression with at least three edges (R56, R58): its fields, FU_DONE, ev20. -/
def fuFinish (g : Gate) (s : State) : State :=
  let (d, sxy, syy) := g.sums
  raiseEv 20 (mainsResult d sxy ((fuStore g d sxy syy s).setFlag R.FU_STATUS.FU_DONE))

/-- The regression is finished (R56). -/
def fuResult (s : State) : State :=
  match s.tb.gate with
  | some g =>
    if g.open_ then s
    else
      let s := ({ s with tb := { s.tb with gate := none } }).clrFlag R.FU_STATUS.FU_BUSY
      if g.n < 3 then raiseEv 20 (s.setFlag R.FU_STATUS.FU_FEW) else fuFinish g s
  | none => s

/-! ### Meanings -/

/-- TIMEBASE_LOCK (R44, R45): the time base is always powered. -/
def execTimebaseLock (t : Nat) (s : State) : Host.Outcome State Fault Refusal := actAny t tbLock s

/-- TIMEBASE_LOCK_LOSS (R45). -/
def execTimebaseLockLoss (t : Nat) (s : State) : Host.Outcome State Fault Refusal := actAny t tbLoss s

/-- POWERED_HOURS_WRITE (R48). -/
def execPoweredHoursWrite (t : Nat) (s : State) : Host.Outcome State Fault Refusal := act t hoursWrite s

/-- ANCHOR_TAKE_EFFECT (R49, R50). -/
def execAnchorTakeEffect (t : Nat) (s : State) : Host.Outcome State Fault Refusal := act t anchorEffect s

/-- SYNC_EDGE (R52, R53): `t` is the instant the level began and `width` how long it lasted, both in fine LSB; the edge is
accepted 20 ns later. -/
def execSyncEdge (t : Nat) (rising : Bool) (width : Nat) (s : State) : Host.Outcome State Fault Refusal :=
  act (t + fineNs (if fineNs 20 ≤ width then 20 else 0)) (syncEdge t rising width) s

/-- SYNC_MISS (R53). -/
def execSyncMiss (t : Nat) (s : State) : Host.Outcome State Fault Refusal := act t (fun s => syncMiss s.now s) s

/-- IU_START_EDGE (R54). -/
def execIuStartEdge (t : Nat) (src : Nat) (rising : Bool) (bank : Fin 64) (s : State) : Host.Outcome State Fault Refusal :=
  act t (iuStartEdge src rising bank) s

/-- IU_STOP_EDGE (R54). -/
def execIuStopEdge (t : Nat) (src : Nat) (rising : Bool) (bank : Fin 64) (s : State) : Host.Outcome State Fault Refusal :=
  act t (iuStopEdge src rising bank) s

/-- IU_TIMEOUT (R54). -/
def execIuTimeout (t : Nat) (s : State) : Host.Outcome State Fault Refusal := act t iuTimeout s

/-- FU_GATE_OPEN (R57). -/
def execFuGateOpen (t : Nat) (level : Bool) (s : State) : Host.Outcome State Fault Refusal := act t (fuGateOpen level) s

/-- FU_GATE_END (R56). -/
def execFuGateEnd (t : Nat) (level : Bool) (s : State) : Host.Outcome State Fault Refusal := act t (fuGateEnd level) s

/-- FU_RESULT (R56, R58). -/
def execFuResult (t : Nat) (s : State) : Host.Outcome State Fault Refusal := act t fuResult s

/-- FU_INPUT_EDGE (R56). -/
def execFuInputEdge (t : Nat) (src aux : Nat) (s : State) : Host.Outcome State Fault Refusal := act t (fuEdge src aux) s

end Sys2Proof.Machine
end

