-- ==== Sys2Proof/Machine/ScanOut.lean ====
section
/-! DEFINITION. The course of a frame (05_scan_out.md R116, R122, R131, R136, R138): line starts, the latch point,
FRAME_OPEN; and the meanings of scan-out and of the drive's exchange (07_emitter_drive.md R186 to R200). -/

namespace Sys2Proof.Machine

/-! ### Line start -/

/-- The facet number of a line (04_echoes_and_points.md R113): sweeps counted from the first FRAME_OPEN after the format
started, modulo FACETS of the head's polygon loop, 0 acting as 1. -/
def State.facetNo (s : State) (h line : Nat) : Nat :=
  ((s.head h).facet + line) % max 1 (s.get (R.FACET_CFG.FACETS (2 * h)))

/-- The next line of the open frame starts once its instant has come; `found` is where interpolator calibration has come to
place boundaries (15_thermal_calibration.md R355). -/
def lineStart (h : Nat) (found : List (Nat × Int)) (s : State) : State :=
  match s.fmt h with
  | none => s
  | some f =>
    let x := s.head h
    let at9 := x.open9 + x.lines * f.tl9
    if !s.running h || !x.opened || decide (x.len ≤ x.lines) || !s.due9 at9 then s
    else
      let line := x.lines
      let s := s.setHead h { x with lines := line + 1 }
      let s := (s.put (R.HEAD_STATUS.LINE_NOW h) line).clrFlag (R.HEAD_STATUS.IN_FLYBACK h)
      let s := raiseEv (6 + h) s
      let s := if s.flag (R.HEAD_CTL.LINE_MS h) then
          milestoneAt 0x03 h (s.frameCount h) (ns9 at9) [line, s.facetNo h line] s else s
      stepLate h (facetPhase h (lineTrims h (takeBounds found (calLineStart h line s))))

/-! ### The latch point -/

/-- λ of the open frame, 1/9 ns. -/
def State.latch9 (s : State) (h : Nat) (f : ScanFormat) : Nat := (s.head h).activeEnd9 f ((s.head h).len - 1)

/-- The latch point of a head's frame, once every line has started. A locked head B takes its pending fields at head A's
latch point; its own λ only begins its frame flyback. -/
def latch (h : Nat) (s : State) : State :=
  match s.fmt h with
  | none => s
  | some f =>
    let x := s.head h
    if !s.running h || !x.opened || decide (x.lines < x.len) || !s.due9 (s.latch9 h f) || s.flag (R.HEAD_STATUS.IN_FLYBACK h)
    then s
    else
      let s := s.setFlag (R.HEAD_STATUS.IN_FLYBACK h)
      if s.headLock ∧ h = 1 then s
      else
        let s := s.modHead h (fun x => { x with latched := true })
        let s := if s.headLock then s.modHead 1 (fun x => { x with latched := true }) else s
        latchPoint h (latchFormat h s)

/-! ### FRAME_OPEN -/

/-- Generations in force of fronds 0 to 3, 2 bits each. -/
def State.gens (s : State) (h : Nat) : Nat :=
  ((List.range 4).map (fun f => s.get (R.FROND_COMMIT.GEN_NOW h f) % 4 * 4 ^ f)).sum

/-- The head's record as its frame opens at `o9`, the next one at `n9`. -/
def Head.open_ (x : Head) (f : ScanFormat) (o9 : Nat) (n9 : Option Nat) : Head :=
  let old := if x.opened then x.len else 0
  { x with
    open9 := o9, next9 := n9, opened := true, len := f.lines, lines := 0, ends := 0, latched := false, declined := [],
    facet := x.facet + (if x.opened then x.len + 1 else 0), nextFrondTorn := false, nextTorn := false, cLine := x.cLine - old,
    reads := (x.reads.filter (fun p => decide (old ≤ p.line))).map (fun p => { p with line := p.line - old }) }

/-- A head's frame opens (R122, R131, R123): the count, commits in use, the milestone, ev0 or ev1, the anchor's repeat,
the phase error and the instant of the next frame. Stamping and firing resume (02_channels_and_time.md R45). -/
def frameOpenAt (h o9 : Nat) (f : ScanFormat) (s : State) : State :=
  let x := s.head h
  let first := !x.opened
  let s := s.modFrame h (s.frameCount h) (fun a => { a with ended := true })
  let count := if s.headLock ∧ h = 1 then s.frameCount 0 else (s.frameCount h + 1) % 2 ^ 32
  let s := s.put (R.FRAME_COUNT.value h) count
  let s := s.setFrame h count (some { t0 := ns9 o9, frondTorn := x.nextFrondTorn, torn := x.nextTorn })
  let s := policyOpen h (useCommits h count s)
  let s := if first then facetZero h s else s
  let (s, adj) := if s.standby then (s, 0) else syncAdjust h o9 f s
  let n9 : Option Nat := if s.headLock ∧ h = 1 then (s.head 0).next9.map (· + 9 * s.get R.LINE_OFS.value)
    else some (((o9 + f.tf9 : Nat) : Int) + adj).toNat
  let s := s.setHead h ((s.head h).open_ f o9 n9)
  let s := s.clrFlag (R.HEAD_STATUS.IN_FLYBACK h)
  let s := if h = 0 then { s with tb := { s.tb with resumeA := false } } else { s with tb := { s.tb with resumeB := false } }
  let fmt := s.get (R.HEAD_STATUS.FORMAT_NOW h)
  let s := milestoneAt 0x01 h count (ns9 o9) [fmt, f.rows * f.cols, s.gens h, s.partPace] s
  anchorRepeat h count (ns9 o9) (raiseEv h s)

/-- Ops that found no slot on a standby and have reached their age are abandoned there (11_twin.md R287;
03_ranging_operations.md R68). -/
def missedAge (s : State) : State :=
  let old := s.twin.missed.filter (fun o => decide (o.ageEnd < s.now))
  let s := { s with twin := { s.twin with missed := s.twin.missed.filter (fun o => !decide (o.ageEnd < s.now)) } }
  forAll old abandonMissed s

/-- A standby whose alignment is complete enters STANDBY at a FRAME_OPEN of head A, or of head B where only head B runs
(11_twin.md R297); ops decided before stay unshadowed. -/
def standbyEnter (h : Nat) (s : State) : State :=
  if s.twin.complete && decide (s.twState = 2) && s.flag R.TW_STATUS.CFG_MATCH && (h = 0 || !s.running 0) then
    let s := s.put R.TW_STATUS.TW_STATE 3
    let s := forAll s.opKeys (fun k s => match s.op k.1 k.2 with
      | some o => s.setOp k.1 k.2 (some { o with unsh := true })
      | none => s) s
    twinMs 4 [s.get R.TW_STATUS.EPOCHS_DONE] s
  else s

/-- The FRAME_OPEN due of a head that is not stopping. A locked head B's follows head A's, of which it carries the count
(R136): it waits for head A's where both fall due together. An active's new count goes to its standby (11_twin.md R293,
log 84). -/
def frameOpen (h : Nat) (s : State) : State :=
  match s.fmt h, (s.head h).next9 with
  | some f, some n =>
    let x := s.head h
    if !s.running h || x.stopping || !s.due9 n || (x.opened && !x.latched)
      || (s.headLock && decide (h = 1) && (!(s.head 0).opened || decide ((s.head 0).open9 + 9 * s.get R.LINE_OFS.value < n)))
    then s
    else
      forwardReg (R.FRAME_COUNT.addr h) (standbyEnter h (missedAge (frameOpenAt h n f s)))
  | _, _ => s

/-! ### Meanings -/

/-- LINE_START (R116; 09_scanner_control.md R235, R236; 15_thermal_calibration.md R355, R357, R360, R361). -/
def execLineStart (t : Nat) (at_ : HeadBounds) (s : State) : Host.Outcome State Fault Refusal :=
  act t (lineStart at_.head at_.found) s

/-- LATCH_POINT (R131, R136, R138). -/
def execLatchPoint (t : Nat) (head : Fin 2) (s : State) : Host.Outcome State Fault Refusal := act t (latch head) s

/-- FRAME_OPEN (R122 to R124, R131). -/
def execFrameOpen (t : Nat) (head : Fin 2) (s : State) : Host.Outcome State Fault Refusal := act t (frameOpen head) s

/-- LINE_PREFETCH (R126, R132, R133): the fronds in `got` arrive. -/
def execLinePrefetch (t : Nat) (head : Fin 2) (line : Nat) (got : Fin 16) (s : State) : Host.Outcome State Fault Refusal :=
  act t (prefetch head line got) s

/-- VISIT_COMPOSE (R127 to R130, R134). -/
def execVisitCompose (t : Nat) (head : Fin 2) (s : State) : Host.Outcome State Fault Refusal := act t (compose head) s

/-- EXCHANGE_START (07_emitter_drive.md R187): φ ends the active part; the elevation loop steps on (09_scanner_control.md
R235) and a line taken by calibration is told (15_thermal_calibration.md R361). -/
def execExchangeStart (t : Nat) (head : Fin 2) (s : State) : Host.Outcome State Fault Refusal :=
  act t (fun s =>
    match s.phiDue head with
    | none => s
    | some phi =>
      let x := s.head head
      let s := if s.running head && x.opened && !x.startPhi then stepMove head x.ends (calLineEnd head s) else s
      exchangeAt head phi (phiTaken head s)) s

/-- EXCHANGE_COMMAND (07_emitter_drive.md R190, R192, R195, R196). -/
def execExchangeCommand (t : Nat) (head : Fin 2) (s : State) : Host.Outcome State Fault Refusal :=
  act t (exchangeCommand head) s

/-- EXCHANGE_MARK (07_emitter_drive.md R192, R199). -/
def execExchangeMark (t : Nat) (head : Fin 2) (s : State) : Host.Outcome State Fault Refusal := act t (exchangeMark head) s

/-- ECHO_EDGE (07_emitter_drive.md R193). -/
def execEchoEdge (t : Nat) (head : Fin 2) (bank : Fin 32) (s : State) : Host.Outcome State Fault Refusal :=
  act t (echoEdge head bank) s

/-- REPLY_FRAME (07_emitter_drive.md R191, R194, R198 to R200). -/
def execReplyFrame (t : Nat) (head : Fin 2) (bank : Fin 32) (frame : BitVec 80) (s : State) :
    Host.Outcome State Fault Refusal := act t (replyFrame head bank frame.toNat) s

/-- REPLY_DEADLINE (07_emitter_drive.md R194; 11_twin.md R292). -/
def execReplyDeadline (t : Nat) (head : Fin 2) (s : State) : Host.Outcome State Fault Refusal := act t (replyDeadline head) s

/-- EXCHANGE_WINDOW_END (07_emitter_drive.md R186, R187). -/
def execExchangeWindowEnd (t : Nat) (head : Fin 2) (s : State) : Host.Outcome State Fault Refusal := act t (windowEnd head) s

/-- STANDBY_CABLE_LISTEN (11_twin.md R288): the active's mark in its device time, its CABLE_DLY, the capability word. -/
def execStandbyCableListen (t : Nat) (head : Fin 2) (bank : Fin 32) (mark ca : Nat) (cap : BitVec 32) (s : State) :
    Host.Outcome State Fault Refusal := act t (cableListen head bank mark ca cap.toNat) s

end Sys2Proof.Machine
end

