-- ==== Sys2Proof/Machine/Dram.lean ====
section
/-! DEFINITION. The external memory (12_stream_memory.md): where an address lands, activations and the toll,
self-refresh, tracking, and the replay store's index and reader. -/

namespace Sys2Proof.Machine

/-- The end of a hold (R308): what the requester has waiting for the bank takes place. -/
def tollHoldEnd (r key : Nat) (s : State) : State :=
  if s.dram.holds.get 0 (65536 * r + key) ≤ s.now then
    dramResume r key (s.setDram { s.dram with holds := s.dram.holds.erase (65536 * r + key) })
  else s

/-! ### Self-refresh (R309) and tracking (R304) -/

/-- The smallest tolerance stated is at least SR_MIN µs (R309). A requester that has stated none yet does not count
(DESIGN CHOICE, log 90). -/
def State.srTolerance (s : State) : Bool :=
  let need := s.get R.SR_CFG.SR_MIN
  let scan := (List.range 2).all (fun h =>
    (!s.running h && (s.head h).said.isNone) || decide (need ≤ s.ltr h))
  let zero := !s.dram.waiting.isEmpty || (List.range 8).any (fun k => !(s.stream k).layby.isEmpty)
  let rep := match s.stagingTolerance (1048576 - s.stagedBytes) with | none => true | some x => decide (1000 * (need : Int) ≤ x)
  scan && (!zero || decide (need = 0)) && rep

/-- A port enters self-refresh (R309): idle for SR_IDLE µs, with tolerance enough. -/
def selfRefreshEnter (p : Nat) (s : State) : State :=
  if s.flag R.SR_CFG.SR_EN && s.flag R.MEM_STATUS.MEM_READY && bit (s.get R.MEM_STATUS.PORTS_USED) p
      && !s.flag (R.PORT_TRAIN.SR_NOW p)
      && decide (s.dram.lastAccess.get 0 p + fineUs (s.get R.SR_CFG.SR_IDLE) ≤ s.now) && s.srTolerance then
    (s.setFlag (R.PORT_TRAIN.SR_NOW p)).bump (R.SR_ENTRIES.value p)
  else s

/-- The check of a byte lane's drift every 100 ms (R304): beyond TRACK_THR its write delay moves one step with it. -/
def dqsTrack (lane : Nat) (drift : Int) (s : State) : State :=
  if s.flag R.MEM_STATUS.MEM_READY && decide (s.get R.MEM_CFG.TRACK_THR < drift.natAbs) then
    s.setDram { s.dram with dqsMoved := s.dram.dqsMoved.put 0 lane (s.dram.dqsMoved.get 0 lane + if drift < 0 then -1 else 1) }
  else s

/-! ### The replay store (R312 to R315) -/

/-- The index holds this many entries of 16 bytes (R313). -/
def State.replayIdxRoom (s : State) : Nat := mib (s.get R.REPLAY_IDX.REPLAY_IDX_SIZE) / 16

/-- REPLAY_OLDEST (R313): the later of the oldest intact parcel and the oldest index entry. -/
def replayOldest (s : State) : State :=
  let a := match s.dram.ring with | c :: _ => c.time | [] => 0
  let b := s.dram.index.headD 0
  let o := max a b
  (s.put R.REPLAY_OLDEST_LO.OLDEST_LO o).put R.REPLAY_OLDEST_HI.OLDEST_HI (o / 2 ^ 32)

/-- Ring offset of the oldest parcel that counts as held: those older than REPLAY_OLDEST count as overwritten (R313). -/
def State.replayFirst (s : State) : Nat :=
  match s.dram.ring.find? (fun c => decide (s.dram.index.headD 0 ≤ c.time)) with
  | some c => c.ofs
  | none => s.dram.ringWr

/-- The replay writer moves its staging buffer into the ring, and REPLAY_OLDEST follows. -/
def replayStore (s : State) : State := replayOldest (replayFlush s)

/-- An index entry (R313); the parcels it covers are visible first (R307). -/
def replayIndex (s : State) : State :=
  if s.flag R.REPLAY_CFG.REPLAY_EN && s.flag R.MEM_STATUS.MEM_READY && decide (0 < s.replayIdxRoom) then
    let s := replayFlush s
    let size := mib (s.get R.REPLAY_SIZE.value)
    let ofs := if size = 0 then 0 else s.dram.ringWr % size / 64
    let at_ := dramBase + mib (s.get R.REPLAY_IDX.REPLAY_IDX_BASE) + 16 * (s.dram.indexWr % s.replayIdxRoom)
    let s := dramUse 0x1A (at_ - dramBase) s
    let s := s.store at_ 16 (wordsNat [lo32 s.ns, hi32 s.ns, ofs, b2n s.dram.skipped + 2 * b2n s.dram.wrapped])
    let l := s.dram.index ++ [s.ns]
    replayOldest (s.setDram { s.dram with index := l.drop (l.length - s.replayIdxRoom), indexWr := s.dram.indexWr + 1,
                                          skipped := false, wrapped := false })
  else s

/-- REQ_GO (R314). -/
def replayStart (s : State) : State :=
  if s.flag R.REQ_STATUS.REQ_BUSY then s.setFlag R.REQ_STATUS.REQ_BUSY_REJ
  else
    let s := replayStore s
    let oldest := s.get R.REPLAY_OLDEST_LO.OLDEST_LO + 2 ^ 32 * s.get R.REPLAY_OLDEST_HI.OLDEST_HI
    let from_ := s.get R.REQ_START_LO.START_LO + 2 ^ 32 * s.get R.REQ_START_HI.START_HI
    let upto := s.get R.REQ_END_LO.END_LO + 2 ^ 32 * s.get R.REQ_END_HI.END_HI
    let s := if from_ < oldest then s.setFlag R.REQ_STATUS.CLIPPED else s
    let from_ := max from_ oldest
    let next := match s.dram.ring.find? (fun c => decide (from_ ≤ c.time)) with | some c => c.ofs | none => s.dram.ringWr
    let r : Reader := { start := from_, end_ := min upto s.ns, streams := s.get R.REQ_CTL.REQ_STREAMS,
                        tag := s.get R.REQ_CTL.REQ_TAG, next := next }
    (s.setDram { s.dram with reader := some r }).setFlag R.REQ_STATUS.REQ_BUSY

/-- REQ_ABORT (R314): the end record follows the record being sent. -/
def replayAbort (s : State) : State :=
  match s.dram.reader with
  | some r => s.setDram { s.dram with reader := some { r with aborted := true } }
  | none => s

/-- Bytes of a replay record enter stream 6, split where a parcel is full (R315). -/
def pushSplit (fuel len val : Nat) (s : State) : State :=
  match fuel with
  | 0 => s
  | fuel + 1 =>
    if len = 0 then s
    else
      let top := s.maxPayload (s.streamPort 6)
      let used := match (s.stream 6).open_ with | some o => recsLen o.recs | none => 0
      let s := if used < top then s else closeParcel 6 s
      let used := if used < top then used else 0
      let n := min len (max 16 (top - used))
      pushSplit fuel (len - n) (val / 2 ^ (8 * n)) (pushStream 6 {} ⟨n, val % 2 ^ (8 * n)⟩ s)

/-- A replay record: its 16-byte header and what follows it (R315). -/
def replayRec (rtype src tag rlen info body : Nat) (s : State) : State :=
  pushSplit 1024 (16 + rlen) (wordsNat [rtype + 2 ^ 8 * src + 2 ^ 16 * tag, rlen, lo32 info, hi32 info] + 2 ^ 128 * body) s

/-- Read bytes of a ring of DRAM, wrapping at its end. -/
def State.ringLoad (s : State) (base size : Nat) (n ofs : Nat) : Nat :=
  match n with
  | 0 => 0
  | n + 1 => (s.byte (dramBase + base + ofs % size)).toNat + 256 * State.ringLoad s base size n (ofs + 1)

/-- The end record (R314, R315). -/
def replayEnd (r : Reader) (s : State) : State :=
  let s := replayRec 2 0 r.tag 0 (r.sent % 2 ^ 32 + 2 ^ 32 * (r.skipped % 2 ^ 31) + 2 ^ 63 * b2n r.aborted) 0 s
  (s.setDram { s.dram with reader := none }).clrFlag R.REQ_STATUS.REQ_BUSY

/-- A stored copy goes out (R315): the bytes the ring holds, its length padded to 16. -/
def replayOne (r : Reader) (c : ReplayCopy) (s : State) : State :=
  let base := mib (s.get R.REPLAY_BASE.value)
  let size := mib (s.get R.REPLAY_SIZE.value)
  let len := bits (s.ringLoad base size 4 c.ofs) 16 14
  let rlen := ceilDiv (32 + len) 16 * 16
  let s := dramRing 0x1B base size c.ofs c.len s
  let s := replayRec 1 c.stream r.tag rlen c.time (s.ringLoad base size rlen c.ofs) s
  s.setDram { s.dram with reader := some { r with next := c.ofs + c.len, sent := r.sent + 1 } }

/-- Stream 6 has credit for the parcel being filled (R267, R314). -/
def State.replayCredit (s : State) : Bool := before32 (s.stream 6).sseq (s.stream 6).credit

/-- The reader sends its next record (R314): where the writer has overtaken it, it jumps to the oldest copy held. -/
def replaySend (s : State) : State :=
  match s.dram.reader with
  | none => s
  | some _ =>
    if !s.replayCredit then s
    else
      let s := replayStore s
      match s.dram.reader with
      | none => s
      | some r =>
        let oldest := s.replayFirst
        let lost := oldest - r.next
        let s := if lost = 0 then s else s.setFlag R.REQ_STATUS.OVERRUN
        let r := { r with next := max r.next oldest, skipped := r.skipped + lost }
        match s.dram.ring.find? (fun c => decide (r.next ≤ c.ofs ∧ c.time ≤ r.end_ ∧ r.start ≤ c.time) && bit r.streams (c.stream - 1)) with
        | some c =>
          if r.aborted then replayEnd r s
          else if s.ringHeld 0x1B (mib (s.get R.REPLAY_BASE.value)) (mib (s.get R.REPLAY_SIZE.value)) c.ofs c.len then s
          else replayOne r c s
        | none => replayEnd r s

/-! ### The meanings -/

/-- DRAM_REFRESH_DUE (R23, R308): the refresh goes ahead of every fabric command. -/
def execDramRefreshDue (t : Nat) (bank : Nat) (s : State) : Host.Outcome State Fault Refusal := act t (bankRefresh bank) s

/-- TOLL_HOLD_END (R308). -/
def execTollHoldEnd (t : Nat) (req : Nat) (bank : Nat) (s : State) : Host.Outcome State Fault Refusal :=
  act t (tollHoldEnd req bank) s

/-- DQS_TRACK (R304). -/
def execDqsTrack (t : Nat) (byteLane : Nat) (drift : Int) (s : State) : Host.Outcome State Fault Refusal :=
  act t (dqsTrack byteLane drift) s

/-- SELF_REFRESH_ENTER (R309). -/
def execSelfRefreshEnter (t : Nat) (port : Fin 4) (s : State) : Host.Outcome State Fault Refusal := act t (selfRefreshEnter port) s

/-- SELF_REFRESH_EXIT (R309). -/
def execSelfRefreshExit (t : Nat) (port : Fin 4) (s : State) : Host.Outcome State Fault Refusal := act t (selfRefreshExit port) s

/-- REPLAY_INDEX_WRITE (R313). -/
def execReplayIndexWrite (t : Nat) (s : State) : Host.Outcome State Fault Refusal := act t replayIndex s

/-- REPLAY_SEND (R314, R315). -/
def execReplaySend (t : Nat) (s : State) : Host.Outcome State Fault Refusal := act t replaySend s

end Sys2Proof.Machine
end

