-- ==== Sys2Proof/Machine/Crypto.lean ====
section
/-! DEFINITION. The signatures and hashes of the part (16_security_ledger.md R367): SHA-512 of FIPS 180-4 and Ed25519 of
RFC 8032. Byte strings are lists of numbers below 256. -/

namespace Sys2Proof.Machine

/-! ### SHA-512 -/

/-- Constants of rounds 0 to 19: fractional bits of the cube roots of the primes. -/
def shaK0 : List Nat :=
  [
    0x428A2F98D728AE22, 0x7137449123EF65CD, 0xB5C0FBCFEC4D3B2F, 0xE9B5DBA58189DBBC,
    0x3956C25BF348B538, 0x59F111F1B605D019, 0x923F82A4AF194F9B, 0xAB1C5ED5DA6D8118,
    0xD807AA98A3030242, 0x12835B0145706FBE, 0x243185BE4EE4B28C, 0x550C7DC3D5FFB4E2,
    0x72BE5D74F27B896F, 0x80DEB1FE3B1696B1, 0x9BDC06A725C71235, 0xC19BF174CF692694,
    0xE49B69C19EF14AD2, 0xEFBE4786384F25E3, 0x0FC19DC68B8CD5B5, 0x240CA1CC77AC9C65]

/-- Constants of rounds 20 to 39: fractional bits of the cube roots of the primes. -/
def shaK1 : List Nat :=
  [
    0x2DE92C6F592B0275, 0x4A7484AA6EA6E483, 0x5CB0A9DCBD41FBD4, 0x76F988DA831153B5,
    0x983E5152EE66DFAB, 0xA831C66D2DB43210, 0xB00327C898FB213F, 0xBF597FC7BEEF0EE4,
    0xC6E00BF33DA88FC2, 0xD5A79147930AA725, 0x06CA6351E003826F, 0x142929670A0E6E70,
    0x27B70A8546D22FFC, 0x2E1B21385C26C926, 0x4D2C6DFC5AC42AED, 0x53380D139D95B3DF,
    0x650A73548BAF63DE, 0x766A0ABB3C77B2A8, 0x81C2C92E47EDAEE6, 0x92722C851482353B]

/-- Constants of rounds 40 to 59: fractional bits of the cube roots of the primes. -/
def shaK2 : List Nat :=
  [
    0xA2BFE8A14CF10364, 0xA81A664BBC423001, 0xC24B8B70D0F89791, 0xC76C51A30654BE30,
    0xD192E819D6EF5218, 0xD69906245565A910, 0xF40E35855771202A, 0x106AA07032BBD1B8,
    0x19A4C116B8D2D0C8, 0x1E376C085141AB53, 0x2748774CDF8EEB99, 0x34B0BCB5E19B48A8,
    0x391C0CB3C5C95A63, 0x4ED8AA4AE3418ACB, 0x5B9CCA4F7763E373, 0x682E6FF3D6B2B8A3,
    0x748F82EE5DEFB2FC, 0x78A5636F43172F60, 0x84C87814A1F0AB72, 0x8CC702081A6439EC]

/-- Constants of rounds 60 to 79: fractional bits of the cube roots of the primes. -/
def shaK3 : List Nat :=
  [
    0x90BEFFFA23631E28, 0xA4506CEBDE82BDE9, 0xBEF9A3F7B2C67915, 0xC67178F2E372532B,
    0xCA273ECEEA26619C, 0xD186B8C721C0C207, 0xEADA7DD6CDE0EB1E, 0xF57D4F7FEE6ED178,
    0x06F067AA72176FBA, 0x0A637DC5A2C898A6, 0x113F9804BEF90DAE, 0x1B710B35131C471B,
    0x28DB77F523047D84, 0x32CAAB7B40C72493, 0x3C9EBE0A15C9BEBC, 0x431D67C49C100D4C,
    0x4CC5D4BECB3E42B6, 0x597F299CFC657E2A, 0x5FCB6FAB3AD6FAEC, 0x6C44198C4A475817]

/-- The working variables a to h. -/
structure ShaRegs where
  a : Nat
  b : Nat
  c : Nat
  d : Nat
  e : Nat
  f : Nat
  g : Nat
  h : Nat
  deriving DecidableEq, Repr

/-- The initial hash value: fractional bits of the square roots of the first eight primes. -/
def shaInit : ShaRegs :=
  ⟨0x6A09E667F3BCC908, 0xBB67AE8584CAA73B, 0x3C6EF372FE94F82B, 0xA54FF53A5F1D36F1,
   0x510E527FADE682D1, 0x9B05688C2B3E6C1F, 0x1F83D9ABFB41BD6B, 0x5BE0CD19137E2179⟩

/-- Rotation of a 64-bit word to the right. -/
def rotr64 (x n : Nat) : Nat := x / 2 ^ n + x % 2 ^ n * 2 ^ (64 - n)

def shaSum0 (x : Nat) : Nat := rotr64 x 28 ^^^ rotr64 x 34 ^^^ rotr64 x 39
def shaSum1 (x : Nat) : Nat := rotr64 x 14 ^^^ rotr64 x 18 ^^^ rotr64 x 41
def shaSig0 (x : Nat) : Nat := rotr64 x 1 ^^^ rotr64 x 8 ^^^ (x / 2 ^ 7)
def shaSig1 (x : Nat) : Nat := rotr64 x 19 ^^^ rotr64 x 61 ^^^ (x / 2 ^ 6)
def shaCh (x y z : Nat) : Nat := (x &&& y) ^^^ ((2 ^ 64 - 1 - x) &&& z)
def shaMaj (x y z : Nat) : Nat := (x &&& y) ^^^ (x &&& z) ^^^ (y &&& z)

/-- The message schedule: `n` more words, newest first. -/
def shaSchedule (n : Nat) (w : List Nat) : List Nat :=
  match n with
  | 0 => w
  | n + 1 => shaSchedule n ((shaSig1 (w.getD 1 0) + w.getD 6 0 + shaSig0 (w.getD 14 0) + w.getD 15 0) % 2 ^ 64 :: w)

/-- One round with its constant and schedule word. -/
def shaRound (r : ShaRegs) (kw : Nat × Nat) : ShaRegs :=
  let t1 := r.h + shaSum1 r.e + shaCh r.e r.f r.g + kw.1 + kw.2
  let t2 := shaSum0 r.a + shaMaj r.a r.b r.c
  ⟨(t1 + t2) % 2 ^ 64, r.a, r.b, r.c, (r.d + t1) % 2 ^ 64, r.e, r.f, r.g⟩

/-- A big-endian number of bytes. -/
def beNat (l : List Nat) : Nat := l.foldl (fun n b => 256 * n + b) 0

/-- The words of a block of 128 bytes. -/
def shaWords (n : Nat) (l : List Nat) : List Nat :=
  match n with
  | 0 => []
  | n + 1 => beNat (l.take 8) :: shaWords n (l.drop 8)

/-- One block. -/
def shaBlock (r : ShaRegs) (block : List Nat) : ShaRegs :=
  let w := (shaSchedule 64 (shaWords 16 block).reverse).reverse
  let x := ((shaK0 ++ shaK1 ++ shaK2 ++ shaK3).zip w).foldl shaRound r
  ⟨(r.a + x.a) % 2 ^ 64, (r.b + x.b) % 2 ^ 64, (r.c + x.c) % 2 ^ 64, (r.d + x.d) % 2 ^ 64,
   (r.e + x.e) % 2 ^ 64, (r.f + x.f) % 2 ^ 64, (r.g + x.g) % 2 ^ 64, (r.h + x.h) % 2 ^ 64⟩

/-- The blocks of a padded message. -/
def shaBlocks (n : Nat) (r : ShaRegs) (l : List Nat) : ShaRegs :=
  match n with
  | 0 => r
  | n + 1 => shaBlocks n (shaBlock r (l.take 128)) (l.drop 128)

/-- The n bytes of a number, most significant first. -/
def beBytes (n v : Nat) : List Nat := (bytesOf n v).reverse

/-- SHA-512: 64 bytes. -/
def sha512 (l : List Nat) : List Nat :=
  let blocks := (l.length + 17 + 127) / 128
  let m := l ++ [0x80] ++ List.replicate (blocks * 128 - l.length - 17) 0 ++ beBytes 16 (8 * l.length)
  let r := shaBlocks blocks shaInit m
  [r.a, r.b, r.c, r.d, r.e, r.f, r.g, r.h].flatMap (beBytes 8)

/-! ### Ed25519 -/

/-- The field's prime, the order of the base point, the curve's constant d, and a square root of -1. -/
def edP : Nat := 2 ^ 255 - 19
def edL : Nat := 2 ^ 252 + 27742317777372353535851937790883648493
def edD : Nat := 37095705934669439343138083508754565189542113879843219016388785533085940283555
def edI : Nat := 19681161376707505956807079304988542015446066515923890162744021073123829784752

/-- Power in the field, by the low `n` bits of the exponent. -/
def fpow (n x e : Nat) : Nat :=
  match n with
  | 0 => 1
  | n + 1 => let y := fpow n (x * x % edP) (e / 2); if e % 2 = 1 then x * y % edP else y

/-- The inverse in the field. -/
def finv (x : Nat) : Nat := fpow 255 x (edP - 2)

/-- A difference in the field. -/
def fsub (a b : Nat) : Nat := (a + edP - b) % edP

/-- A point in extended coordinates: x = X / Z, y = Y / Z, x y = T / Z. -/
structure EdPoint where
  x : Nat
  y : Nat
  z : Nat
  t : Nat
  deriving DecidableEq, Repr

/-- The neutral point, and the sum of two points (RFC 8032 5.1.4). -/
def edZero : EdPoint := ⟨0, 1, 1, 0⟩
def edAdd (p q : EdPoint) : EdPoint :=
  let a := fsub p.y p.x * fsub q.y q.x % edP
  let b := (p.y + p.x) * (q.y + q.x) % edP
  let c := p.t * 2 * edD % edP * q.t % edP
  let d := p.z * 2 * q.z % edP
  let e := fsub b a
  let f := fsub d c
  let g := (d + c) % edP
  let h := (b + a) % edP
  ⟨e * f % edP, g * h % edP, f * g % edP, e * h % edP⟩

/-- A multiple of a point, by the low `n` bits of the factor. -/
def edMul (n k : Nat) (p : EdPoint) : EdPoint :=
  match n with
  | 0 => edZero
  | n + 1 => let q := edMul n (k / 2) (edAdd p p); if k % 2 = 1 then edAdd q p else q

/-- The same point. -/
def edSame (p q : EdPoint) : Bool := p.x * q.z % edP == q.x * p.z % edP && p.y * q.z % edP == q.y * p.z % edP

/-- The point that 32 bytes encode, as a little-endian number; none where the encoding is not canonical or no point has
it (R367). -/
def edDecode (v : Nat) : Option EdPoint :=
  let y := v % 2 ^ 255
  let sign := v / 2 ^ 255 % 2
  if edP ≤ y then none
  else
    let u := fsub (y * y % edP) 1
    let w := (edD * (y * y % edP) + 1) % edP
    let w3 := w * w % edP * w % edP
    let w7 := w3 * w3 % edP * w % edP
    let x := u * w3 % edP * fpow 253 (u * w7 % edP) ((edP - 5) / 8) % edP
    let vx2 := w * (x * x % edP) % edP
    let r := if vx2 = u then some x else if vx2 = fsub 0 u then some (x * edI % edP) else none
    match r with
    | none => none
    | some x =>
      if x = 0 ∧ sign = 1 then none
      else
        let x := if x % 2 = sign then x else edP - x
        some ⟨x, y, 1, x * y % edP⟩

/-- The encoding of a point, as a little-endian number. -/
def edEncode (p : EdPoint) : Nat :=
  let zi := finv p.z
  p.y * zi % edP + 2 ^ 255 * (p.x * zi % edP % 2)

/-- The base point. -/
def edBase : EdPoint := (edDecode 46316835694926478169428394003475163141307993866256225615783033603165251855960).getD edZero

/-- A signature of 64 bytes over a message verifies under a public key (R367): key and signature are little-endian
numbers, R in the low 32 bytes of the signature. -/
def edVerify (key sig : Nat) (msg : List Nat) : Bool :=
  let r := sig % 2 ^ 256
  let s := sig / 2 ^ 256
  match edDecode r, edDecode key with
  | some rp, some a =>
    let k := leNat (sha512 (bytesOf 32 r ++ bytesOf 32 key ++ msg)) % edL
    decide (s < edL) && edSame (edMul 256 s edBase) (edAdd rp (edMul 256 k a))
  | _, _ => false

/-- The secret scalar and the prefix of a seed (RFC 8032 5.1.5). -/
def edSecret (seed : Nat) : Nat × Nat :=
  let h := leNat (sha512 (bytesOf 32 seed))
  (h % 2 ^ 254 / 8 * 8 + 2 ^ 254, h / 2 ^ 256)

/-- The public key of a seed, and its signature over a message. -/
def edPublic (seed : Nat) : Nat := edEncode (edMul 256 (edSecret seed).1 edBase)
def edSign (seed : Nat) (msg : List Nat) : Nat :=
  let x := edSecret seed
  let key := edPublic seed
  let r := leNat (sha512 (bytesOf 32 x.2 ++ msg)) % edL
  let rp := edEncode (edMul 256 r edBase)
  let k := leNat (sha512 (bytesOf 32 rp ++ bytesOf 32 key ++ msg)) % edL
  rp + 2 ^ 256 * ((r + k * x.1) % edL)

end Sys2Proof.Machine
end

