-- ==== Sys2Proof/Machine/Guard.lean ====
section
/-! DEFINITION. The emission guard's inputs, motion proof, cross-checks, restart and reset (08_emission_guard.md R204 to
R221). -/

namespace Sys2Proof.Machine

/-! ### Antivalent inputs (R207, R208) -/

/-- A bit of a field becomes a truth value. -/
def putBit (f : Field) (i : Nat) (b : Bool) (s : State) : State :=
  let v := s.get f
  s.put f (v - 2 ^ i * b2n (bit v i) + 2 ^ i * b2n b)

def State.ginp (s : State) (n : Nat) : Gin := s.guard.gin.get {} n
def State.setGin (s : State) (n : Nat) (x : Gin) : State := { s with guard := { s.guard with gin := s.guard.gin.put {} n x } }

/-- The table marks input n as used. -/
def State.ginUsed (s : State) (n : Nat) : Bool := bit (s.get R.GIN_CFG_NOW.USED) n

/-- T_disc of an input, ms. -/
def State.ginDisc (s : State) (n : Nat) : Nat :=
  match n with
  | 0 => s.get R.GIN_DISC01.DISC0
  | 1 => s.get R.GIN_DISC01.DISC1
  | 2 => s.get R.GIN_DISC23.DISC2
  | _ => s.get R.GIN_DISC23.DISC3

/-- Readings of R207. -/
def Gin.run (x : Gin) : Bool := x.a && !x.b
def Gin.demand (x : Gin) : Bool := !x.a && x.b
def Gin.disagree (x : Gin) : Bool := x.a == x.b

/-- The disagreement has reached T_disc + 1 µs and is present (R207). -/
def State.discrepant (s : State) (n : Nat) : Bool :=
  match (s.ginp n).disFrom with
  | some t => (s.ginp n).disagree && decide (t + fineMs (s.ginDisc n) + fineUs 1 ≤ s.now)
  | none => false

/-- A used input is read: GIN_RUN and GIN_DISAGREE, a demand that begins, the hold causes and the timing of a
disagreement whose level began at `since`. -/
def ginRead (n since : Nat) (was : Bool) (s : State) : State :=
  let x := s.ginp n
  let s := putBit R.GUARD_STATUS.GIN_RUN n x.run (putBit R.GUARD_STATUS.GIN_DISAGREE n x.disagree s)
  let s := if was && !x.run then s.bump R.DEMAND_COUNT.DEMANDS else s
  let x := if x.disagree then { x with disFrom := some (x.disFrom.getD since), agreeFrom := none }
    else if x.disFrom.isSome then { x with agreeFrom := some (x.agreeFrom.getD since) } else x
  let s := s.setGin n x
  let s := if x.disagree then guardHold 2 n s else s
  let s := if x.demand then guardHold 1 n s else guardUnhold 1 n s
  if s.discrepant n then guardLatch 3 n s else s

/-! ### The twin's inputs (R221) -/

/-- A used input whose reading differs from the twin's is timed. -/
def twinCompare (s : State) : State :=
  upTo 4 (fun n s =>
    let d := match s.guard.twinGin with
      | some l => s.partnerValid && s.ginUsed n && decide (l.getD n (false, false) ≠ ((s.ginp n).a, (s.ginp n).b))
      | none => false
    let old := s.guard.twinDiffer.get none n
    { s with guard := { s.guard with twinDiffer := s.guard.twinDiffer.put none n (if d then some (old.getD s.now) else none) } }) s

/-- A reading that has differed for more than T_disc latches CHANNEL_DISAGREE with DETAIL 1. -/
def twinCheck (s : State) : State :=
  let long := (List.range 4).any (fun n => match s.guard.twinDiffer.get none n with
    | some t => decide (t + fineMs (s.ginDisc n) < s.now)
    | none => false)
  if long then guardLatch 9 1 s else s

/-- An input's pins stand at levels. -/
def ginPins (n : Nat) (a b : Bool) (s : State) : State := s.setGin n { s.ginp n with a := a, b := b }

/-- An input's pins take levels that last 200 ns; a part in reset or shut down reads them when its guard begins. -/
def ginChange (n since : Nat) (a b : Bool) (s : State) : State :=
  let was := (s.ginp n).run
  let s := ginPins n a b s
  if s.su.power = .running ∧ s.ginUsed n then twinCheck (twinCompare (ginRead n since was s)) else s

/-- The disagreement is still present at T_disc + 1 µs. -/
def ginTimeout (n : Nat) (s : State) : State := if s.ginUsed n && s.discrepant n then guardLatch 3 n s else s

/-- An agreement has lasted 1 ms: the disagreement ended at its start. -/
def ginAgreed (n : Nat) (s : State) : State :=
  let x := s.ginp n
  match x.disFrom, x.agreeFrom with
  | some d, some a =>
    if s.ginUsed n ∧ a + fineMs 1 ≤ s.now then
      let s := s.setGin n { x with disFrom := none, agreeFrom := none }
      guardUnhold 2 n (s.put (R.GIN_DISC_LAST.LAST_US n) (min (2 ^ 24 - 1) ((a - d) / 128000)))
    else s
  | _, _ => s

/-- The guard begins to read its inputs, as the table marks them. -/
def ginBegin (s : State) : State := upTo 4 (fun n s => if s.ginUsed n then ginRead n s.now true s else s) s

/-! ### Motion proof (R210, R211) -/

/-- The two polygon tests on a channel's counts of the last 4 windows: each of POLY_MIN at least, and an index within
POLY_IDX_MAX × 10 µs. -/
def State.polyOk (s : State) (h : Nat) (counts : List Nat) : Bool :=
  let t := s.guard.table
  let idx := match (s.proof h).lastIdx with | some i => decide (s.now ≤ i + fineUs (10 * t.polyIdxMax)) | none => false
  decide (counts.length = 4) && counts.all (fun w => decide (t.polyMin ≤ w)) && idx

/-- Difference between the greatest and the least of a list. -/
def spanOf : List Nat → Nat
  | [] => 0
  | v :: r => r.foldl max v - r.foldl min v

/-- The limiter finds the proof of a head present. -/
def State.limProof (s : State) (h : Nat) : Bool := s.polyOk h (s.proof h).windows

/-- The guard processor finds it present: the polygon tests on its own counts, and the span of the elevation conversions
of the last ELEV_WIN ms. -/
def State.procProof (s : State) (h : Nat) : Bool :=
  let t := s.guard.table
  let e := ((s.proof h).elev.filter (fun p => decide (s.ns ≤ p.1 + 1000000 * t.elevWin))).map Prod.snd
  s.polyOk h (s.proof h).procWindows && decide (t.elevSpan ≤ spanOf e)

/-- The proof of a head: both channels find it present. -/
def State.proofOk (s : State) (h : Nat) : Bool := s.limProof h && s.procProof h

/-- A window of the limiter ends: its own count of the polygon's edges. -/
def MotionProof.limWindow (x : MotionProof) (now : Nat) : MotionProof :=
  { x with edges := 0, windows := (x.edges :: x.windows).take 4, winEnd := now }

/-- A window of the guard processor ends: the change of ENC_POS of loop 0 or 2 (09_scanner_control.md R224). -/
def MotionProof.procWindow (x : MotionProof) (pos : Int) (now : Nat) : MotionProof :=
  { x with pos := pos, procWindows := ((sgn 32 (ofInt 32 (pos - x.pos))).natAbs :: x.procWindows).take 4, procEnd := now }

/-- A 100 µs window of a head ends, in the limiter, in the guard processor or in both: each channel's last 100 µs at least.
A change of the proof is marked; a running head with its drive ready that loses it latches MOTION_LOST. -/
def motionWindow (h : Nat) (lim proc : Bool) (s : State) : State :=
  let x := s.proof h
  let a := lim && decide (x.winEnd + fineUs 100 ≤ s.now)
  let b := proc && decide (x.procEnd + fineUs 100 ≤ s.now)
  if !a && !b then s else
  let x := if a then x.limWindow s.now else x
  let s := s.setProof h (if b then x.procWindow (s.geti (R.ENC_POS.value h)) s.now else x)
  let ok := s.proofOk h
  if ok = bit (s.get R.GUARD_STATUS.MOTION_OK) h then s
  else
    let s := guardMs 4 h s.guardState (putBit R.GUARD_STATUS.MOTION_OK h ok s)
    if !ok && s.running h && s.drvReady h then guardLatch 5 h s else s

/-! ### Cross-checks (R204, R217, R221) -/

/-- A heartbeat of the limiter and the processor's answer: 4 in a row missed by either latch GUARD_CPU. The inputs are held
against the twin's at each (R221). -/
def heartbeat (limBeat procAnswer : Bool) (s : State) : State :=
  let g := s.guard
  let ml := if limBeat then 0 else min 4 (g.missLim + 1)
  let mp := if !limBeat then g.missProc else if procAnswer then 0 else min 4 (g.missProc + 1)
  let s := { s with guard := { g with missLim := ml, missProc := mp } }
  twinCheck (if ml = 4 ∨ mp = 4 then guardLatch 12 0 s else s)

/-- A sum exceeds its budget by more than 2 %. -/
def beyond2 (sum budget : Nat) : Bool := decide (102 * budget < 100 * sum)

/-- The report of the bank's pulse fired at the instant `fired`, ns, reaches the guard processor's own sums; a pulse that has
none under way changes nothing. -/
def firedReport (h b fired : Nat) (s : State) : State :=
  let k := 32 * h + b
  let under := s.guard.reports.get [] k
  match under.find? (fun x => x.at_ = fired) with
  | none => s
  | some x =>
    let r := under.erase x
    let l := recent (s.guard.procShots.get [] k) s.ns ++ [x]
    let s := { s with guard := { s.guard with procShots := s.guard.procShots.put [] k l, reports := s.guard.reports.put [] k r } }
    let x := sums l (s.lineNs h) s.ns
    let m := s.budgets h b
    if beyond2 x.1 m.1 || beyond2 x.2.1 m.2.1 || beyond2 x.2.2 m.2.2 then guardLatch 8 k s else s

/-- One channel has permitted emission and the other not for more than 1 ms. -/
def channelsDiffer (s : State) : State :=
  match s.guard.differFrom with
  | some t =>
    if s.flag R.GUARD_STATUS.LIM_PERMIT ≠ s.flag R.GUARD_STATUS.PROC_PERMIT ∧ t + fineMs 1 < s.now then guardLatch 9 0 s else s
  | none => s

/-- An EMEN output has read back for 10 µs the opposite of what its channel commands (R204). It stands so until the
command changes. -/
def emenFault (isH : Bool) (s : State) : State :=
  let s := if isH then
      { s.putb R.GUARD_STATUS.EMEN_H_OUT (!s.flag R.GUARD_STATUS.LIM_PERMIT) with guard := { s.guard with readH := false } }
    else
      { s.putb R.GUARD_STATUS.EMEN_P_OUT (!s.flag R.GUARD_STATUS.PROC_PERMIT) with guard := { s.guard with readP := false } }
  guardLatch 10 (b2n isH) s

/-- The twin's guard state arrives (R221), with the levels of its inputs: its fault, or a reading that has differed for more
than T_disc, latches CHANNEL_DISAGREE with DETAIL 1. -/
def twinGuard (fault nrstStuck : Bool) (levels : List (Bool × Bool)) (s : State) : State :=
  if !s.partnerValid then s
  else
    let was := s.flag R.TW_STATUS.PARTNER_NRST_STUCK
    let s := s.putb R.TW_STATUS.PARTNER_NRST_STUCK nrstStuck
    let s := if nrstStuck && !was then twinMs 13 [] s else s
    let s := twinCheck (twinCompare { s with guard := { s.guard with twinGin := some levels } })
    if fault then guardLatch 9 1 s else s

/-! ### Restart and reset (R208, R219) -/

/-- A restart request: accepted in WAIT_RESTART where every used input reads run and no hold cause stands; ignored in
PERMIT. After a guard reset each bank begins its breathing-up ramp. -/
def guardRestart (s : State) : State :=
  if s.guardState = 2 then s
  else if s.guardState = 3 ∧ s.guard.holds = [] ∧ (List.range 4).all (fun n => !s.ginUsed n || (s.ginp n).run) then
    let s := guardTo 2 0 0 s
    if s.guard.rampDue then
      let s := { s with guard := { s.guard with rampDue := false } }
      upTo 2 (fun h s => s.setDrv h { s.drv h with up := some 0 }) s
    else s
  else s.setFlag R.GUARD_STATUS.RESTART_REJ

/-- The condition behind a latched cause has gone (R219, R220). -/
def State.causeGone (s : State) (c : Nat × Nat) : Bool :=
  match c.1 with
  | 3 => (List.range 4).all (fun n => !s.ginUsed n || !(s.ginp n).disagree)
  | 5 => bit (s.get R.GUARD_STATUS.MOTION_OK) c.2 || !s.running c.2
  | 6 => true
  | 10 => if c.2 = 1 then s.guard.readH else s.guard.readP
  | 8 => s.guard.selfTest
  | 9 => s.guard.selfTest
  | 12 => s.guard.selfTest
  | _ => false

/-- A reset request in FAULT looks at the parts again (R219): an output that read back wrong is read once more, and the
self-tests run again where a cause asks for them; what either gives is open (free values, log 70). -/
def guardRetest (s : State) : State :=
  if s.guardState ≠ 4 then s
  else
    let s := if s.guard.readP then s else
      let (v, s) := s.draw
      if v.toNat % 2 = 1 then { s.putb R.GUARD_STATUS.EMEN_P_OUT (s.flag R.GUARD_STATUS.PROC_PERMIT) with guard := { s.guard with readP := true } }
      else s
    let s := if s.guard.readH then s else
      let (v, s) := s.draw
      if v.toNat % 2 = 1 then { s.putb R.GUARD_STATUS.EMEN_H_OUT (s.flag R.GUARD_STATUS.LIM_PERMIT) with guard := { s.guard with readH := true } }
      else s
    if s.guard.latched.any (fun c => decide (c.1 = 8 ∨ c.1 = 9 ∨ c.1 = 12)) then
      let (v, s) := s.draw
      { s with guard := { s.guard with selfTest := decide (v.toNat % 2 = 1) } }
    else s

/-- A guard reset: accepted in FAULT where every latched condition has gone. -/
def guardReset (s : State) : State :=
  let s := guardRetest s
  if s.guardState = 4 ∧ s.guard.latched.all s.causeGone then
    let s := (s.put R.GUARD_CAUSE.CAUSE 0).put R.GUARD_CAUSE.DETAIL 0
    let s := (s.setReg R.DRV_FAIL.addr 0).setReg R.DRV_FAIL_MON.addr 0
    let s := (s.put R.FAIL_MAP_A.MAP_A 0).put R.FAIL_MAP_B.MAP_B 0
    let s := { s with guard := { s.guard with latched := [], limShots := [], procShots := [], reports := [], rampDue := true } }
    guardTo 3 0 0 s
  else s.setFlag R.GUARD_STATUS.GRST_REJ

/-! ### Meanings -/

/-- GIN_CHANGE (R207, R208): `t` is the instant the levels began; they act after 200 ns. -/
def execGinChange (t : Nat) (n : Fin 4) (a b : Bool) (s : State) : Host.Outcome State Fault Refusal :=
  actAny (t + fineNs 200) (ginChange n t a b) s

/-- GIN_DISCREPANCY_TIMEOUT (R207). -/
def execGinDiscrepancyTimeout (t : Nat) (n : Fin 4) (s : State) : Host.Outcome State Fault Refusal := act t (ginTimeout n) s

/-- GIN_AGREEMENT_END (R207, R208). -/
def execGinAgreementEnd (t : Nat) (n : Fin 4) (s : State) : Host.Outcome State Fault Refusal := act t (ginAgreed n) s

/-- MOTION_WINDOW_END (R210, R211). -/
def execMotionWindowEnd (t : Nat) (head : Fin 2) (lim proc : Bool) (s : State) : Host.Outcome State Fault Refusal :=
  act t (motionWindow head lim proc) s

/-- GUARD_HEARTBEAT (R217). -/
def execGuardHeartbeat (t : Nat) (limBeat procAnswer : Bool) (s : State) : Host.Outcome State Fault Refusal :=
  act t (heartbeat limBeat procAnswer) s

/-- FIRED_PULSE_REPORT (R217). -/
def execFiredPulseReport (t : Nat) (head : Fin 2) (bank : Fin 32) (fired : Nat) (s : State) :
    Host.Outcome State Fault Refusal := act t (firedReport head bank fired) s

/-- CHANNEL_DISAGREE_TIMEOUT (R217). -/
def execChannelDisagreeTimeout (t : Nat) (s : State) : Host.Outcome State Fault Refusal := act t channelsDiffer s

/-- EMEN_READBACK_FAULT (R204). -/
def execEmenReadbackFault (t : Nat) (isH : Bool) (s : State) : Host.Outcome State Fault Refusal := act t (emenFault isH) s

/-- TWIN_GUARD_STATE (R221). -/
def execTwinGuardState (t : Nat) (fault nrstStuck : Bool) (levels : List (Bool × Bool)) (s : State) :
    Host.Outcome State Fault Refusal := act t (twinGuard fault nrstStuck levels) s

end Sys2Proof.Machine
end

