-- ==== Sys2Proof/Machine/SqOps.lean ====
section
/-! DEFINITION. Run control of the sequencers (06_salrad.md R141, R142, R160, R176) and the event lines a sequencer waits
on. -/

namespace Sys2Proof.Machine

/-- The sequencer is in STOPPED, HALTED or FAULTED. -/
def State.sqStopped (s : State) (n : Nat) : Bool := s.sqState n = 1 || s.sqState n = 4 || s.sqState n = 5

/-- Probes of sequencer n lose their owner: their entries are discarded on completion (R160). -/
def disown (n : Nat) (s : State) : State :=
  let q := s.seq n
  let s := s.setSeq n { q with tags := [], outstanding := [],
                               probes := q.probes.map (fun r => { r with info := { r.info with tag := none } }) }
  forAll s.opKeys (fun k s => match s.op k.1 k.2 with
    | some o => match o.probe with
      | some p => if p.sq = n then s.setOp k.1 k.2 (some { o with probe := some { p with tag := none } }) else s
      | none => s
    | none => s) s

/-- RUN = 1 (R142): in STOPPED, HALTED or FAULTED the sequencer starts at SQ_ENTRY with nothing pending. In the safe state
no program runs (R174), and a unit being aligned or standing by keeps its sequencers in STOPPED (11_twin.md R286). -/
def sqStart (n : Nat) (s : State) : State :=
  if s.sqStopped n && !s.safe && !s.follower then
    let s := disown n s
    let s := s.setSeq n { s.seq n with wait := none, cq := [], watch := [], kick := s.now }
    let s := (s.setPend n 0).put (R.SQ_PC.PC n) (s.get (R.SQ_ENTRY.ENTRY n))
    policyStart n (levels ((s.put (R.SQ_STATUS.STATE n) 2).put (R.SQ_STATUS.FAULT_CAUSE n) 0))
  else s

/-- RUN = 0 (R142): a sequencer that runs or waits enters STOPPED; what it waited for is abandoned. -/
def sqStop (n : Nat) (s : State) : State :=
  if s.sqLive n then (s.setSeq n { s.seq n with wait := none }).put (R.SQ_STATUS.STATE n) 1 else s

/-- UNLOAD (R176): the span and the entry are cleared and the sequencer is EMPTY. -/
def sqUnload (n : Nat) (s : State) : State :=
  if s.sqStopped n then
    let s := s.setSeq n { s.seq n with wait := none, policy := false }
    let s := (s.put (R.SQ_SPAN_LO.SPAN_LO n) 0).put (R.SQ_SPAN_HI.SPAN_HI n) 0
    (s.put (R.SQ_ENTRY.ENTRY n) 0).put (R.SQ_STATUS.STATE n) 0
  else s

/-- EV_SOFT written (R151): bit i raises ev(32 + i). -/
def evSoft (mask : Nat) (s : State) : State := upTo 16 (fun i s => if bit mask i then raiseEv (32 + i) s else s) s

/-- Every sequencer that runs or waits is stopped. -/
def sqStopAll (s : State) : State := upTo 8 sqStop s

end Sys2Proof.Machine
end

