-- ==== Sys2Proof/Machine/Twin.lean ====
section
/-! DEFINITION. The twin (11_twin.md): beats and paths, OWN, pairing, take-over, the shadow schedule and the offset
between the units. Alignment copies and mirrored writes stand in TwinCopy.lean. -/

namespace Sys2Proof.Machine

def State.setTwin (s : State) (x : Twin) : State := { s with twin := x }

/-! ### Pairing (R278, R283) -/

/-- The first pairing test that fails (R278); 0 where all pass. -/
def State.pairFails (s : State) (p : Identity) : Nat :=
  let pair := s.get R.TW_PAIR_ID_LO.PAIR_ID_LO + 2 ^ 32 * s.get R.TW_PAIR_ID_HI.PAIR_ID_HI
  if p.variant ≠ s.variant then 1
  else if p.pair ≠ pair then 2
  else if p.unit = s.flag R.TW_STATUS.UNIT then 3
  else if p.family ≠ s.get R.CODE_PLAN.CODE_FAMILY ∨ p.seed ≠ s.get R.VENUE_SEED.value then 4
  else 0

/-- Entry to REFUSED (R278, R282): the cause is shown and counted. A unit that holds OWN goes on holding it. -/
def twinRefuse (cause event : Nat) (s : State) : State :=
  let s := ((s.put R.TW_STATUS.TW_STATE 5).setFlag R.TW_STATUS.REFUSED).put R.TW_STATUS.REFUSE_CAUSE cause
  let s := s.bumpSat R.TW_REFUSALS.REFUSALS
  twinMs event [cause] s

/-- A partner whose beats come on the causeway and whose identity has changed is tested (R278): a unit refused for a failed
test pairs once they pass, as ACTIVE where it holds OWN and else as SEEKING. -/
def pairTest (s : State) : State :=
  match s.twin.partner with
  | none => s
  | some p =>
    if !s.twinEn || !s.partnerValid || !s.flag R.TW_STATUS.PATH_A_OK || decide (s.twin.tested = some p) then s
    else
      let s := s.setTwin { s.twin with tested := some p }
      match s.pairFails p with
      | 0 =>
        let was := s.get R.TW_STATUS.REFUSE_CAUSE
        let s := if s.twState = 5 ∧ was ≤ 4 then
            (s.put R.TW_STATUS.TW_STATE (if s.ownHeld then 4 else 1)).put R.TW_STATUS.REFUSE_CAUSE 0 else s
        twinMs 1 [] s
      | c => twinRefuse c 2 s

/-- The partner's identity arrives: shown, and tested anew where it changes or had lapsed. -/
def identityReceive (p : Identity) (s : State) : State :=
  if !s.twinEn then s
  else
    let s := s.setTwin { s.twin with tested := if s.partnerValid then s.twin.tested else none, partner := some p, identAt := s.now }
    let s := (s.put R.TW_PARTNER.P_VARIANT p.variant).putb R.TW_PARTNER.P_UNIT p.unit
    let s := (s.put R.TW_PARTNER_CFG_LO.P_CFG_LO p.cfg).put R.TW_PARTNER_CFG_HI.P_CFG_HI (p.cfg / 2 ^ 32)
    pairTest ((s.put R.TW_PARTNER_FW_LO.P_FW_LO p.fw).put R.TW_PARTNER_FW_HI.P_FW_HI (p.fw / 2 ^ 32))

/-! ### Beats (R283, R284) -/

/-- The BEAT block of this instant: state, unit, OWN held, path B received, device time in ns at bytes 8 to 15. -/
def State.beatBlock (s : State) : Nat :=
  0x60 + 2 ^ 8 * (s.twState + 2 ^ 3 * s.get R.TW_STATUS.UNIT + 2 ^ 4 * s.get R.TW_STATUS.OWN_HELD
    + 2 ^ 5 * s.get R.TW_STATUS.PATH_B_OK) + 2 ^ 64 * s.ns

/-- A beat falls due 2 µs after the last, and is sent while the health monitor permits: on path B, which feeds the keeper
(R280), and on every causeway lane that is up. -/
def beatSend (s : State) : State :=
  let s := unitItems s
  let x := s.twin
  let due := match x.lastSend with | some l => decide (l + fineUs 2 ≤ s.now) | none => true
  if x.healthy && due then
    s.setTwin { x with keeper := some s.now, lastSend := some s.now, hbSent := (x.hbSent ++ [s.now]).take 1024,
                       ctl := x.ctl.filter (fun p => decide (p.2 % 256 ≠ 0x60)) ++ s.cwyLanes.map (fun l => (l, s.beatBlock)) }
  else s

/-- A causeway that has been without a lane for 8 µs: a standby whose partner has not failed aligns afresh, and the active
copies again once a lane is up (R297). -/
def cwyCheck (s : State) : State :=
  let x := s.twin
  if !s.cwyLanes.isEmpty then s.setTwin { x with cwyDown := none }
  else
    let since := x.cwyDown.getD s.now
    let s := s.setTwin { x with cwyDown := some since }
    if since + fineUs 8 ≤ s.now ∧ s.twState = 4 then s.setTwin { s.twin with copying := false }
    else if s.standby && decide (since + fineUs 8 ≤ s.now) && s.flag R.TW_STATUS.PATH_B_OK then
      let s := s.setTwin { s.twin with complete := false, epoch := 0 }
      (s.put R.TW_STATUS.TW_STATE 2).put R.TW_STATUS.EPOCHS_DONE 0
    else s

/-- The health monitor's finding (R284). -/
def healthCheck (ok : Bool) (s : State) : State := cwyCheck (s.setTwin { s.twin with healthy := ok })

/-- A path is received again: RESTORED where it had been lost. -/
def pathRegained (path : Nat) (f : Field) (before : Bool) (s : State) : State :=
  if s.flag f then s
  else
    let s := s.setFlag f
    if before then twinMs 7 [path] s else s

/-- A beat on path A: the partner's state and unit, whether it holds OWN, and the beats missed since the last. -/
def beatReceive (lane info : Nat) (s : State) : State :=
  if !s.laneUp (12 + lane) then s
  else
    let x := s.twin
    let own := bit info 4
    let missed := s.missedSince x.lastA
    let s := s.setTwin { x with lastA := some s.now, heard := true, partnerOwn := own,
                                released := x.released || (x.ownHigh && !own),
                                copying := x.copying && decide (info % 8 ≠ 3) }
    let s := (s.put R.TW_PARTNER.P_STATE (info % 8)).putb R.TW_PARTNER.P_UNIT (bit info 3)
    pairTest (pathRegained 0 R.TW_STATUS.PATH_A_OK x.lastA.isSome (s.addSat R.TW_MISS_A.MISS_A missed))

/-- A beat on path B, stamped for the offset (R285). -/
def beatPulse (s : State) : State :=
  let x := s.twin
  let missed := s.missedSince x.lastB
  let s := s.setTwin { x with lastB := some s.now, heard := true, hbSeen := (x.hbSeen ++ [s.now]).take 1024 }
  pathRegained 1 R.TW_STATUS.PATH_B_OK x.lastB.isSome (s.addSat R.TW_MISS_B.MISS_B missed)

/-- A path has been without a beat for 8 µs (R284): the loss of one path alone is DEGRADED; both lost, the partner has
failed, which ends a copy (R296) and which an active reports. -/
def pathLost (path : Nat) (s : State) : State :=
  let x := s.twin
  let f := if path = 0 then R.TW_STATUS.PATH_A_OK else R.TW_STATUS.PATH_B_OK
  let other := if path = 0 then R.TW_STATUS.PATH_B_OK else R.TW_STATUS.PATH_A_OK
  match if path = 0 then x.lastA else x.lastB with
  | none => s
  | some l =>
    if !s.flag f || decide (s.now < l + fineUs 8) then s
    else
      let s := s.clrFlag f
      if s.flag other then
        let s := enterErr 9 path f (twinMs (5 + path) [] (s.setFlag R.TW_STATUS.DEGRADED))
        if path = 0 then cwyCheck s else s
      else if s.twState = 4 then twinMs 12 [] (s.setTwin { s.twin with copying := false })
      else if s.twState = 2 ∧ !s.flag R.TW_STATUS.CFG_MATCH then twinRefuse 5 10 s
      else s

/-! ### OWN (R280 to R282, R290) -/

/-- The keeper saw no path B beat for 4 µs: OWN is released (R280). -/
def keeperLapse (s : State) : State :=
  let lapsed := match s.twin.keeper with | some k => decide (k + fineUs 4 ≤ s.now) | none => true
  if s.ownHeld && lapsed then
    let s := dropOwn s
    if s.twState = 4 then s.put R.TW_STATUS.TW_STATE 1 else s
  else s

/-- The OWN line changes while this unit does not drive it: held by the partner, or released. -/
def ownLine (high : Bool) (s : State) : State :=
  if s.ownHeld then s
  else
    let x := s.twin
    if high then
      s.setTwin { x with ownHigh := true, ownSince := s.now, released := false, yielded := false, claimAt := none,
                         bar := if x.bar = 1 then 0 else x.bar }
    else s.setTwin { x with ownHigh := false, released := false, claimAt := none, bar := if x.bar = 2 then 1 else x.bar }

/-- The state's condition for a claim (R282). -/
def State.claimState (s : State) : Bool :=
  match s.twState with
  | 0 => true
  | 1 => true
  | 2 => s.partnerFailed && s.flag R.TW_STATUS.CFG_MATCH
  | 3 => s.partnerFailed || s.twin.released
  | 5 => s.partnerFailed
  | _ => false

/-- Every bank of every head with DRV_EN has CABLE_VALID. -/
def State.cablesValid (s : State) : Bool :=
  [0, 1].all (fun h => !s.drvEn h || (List.range 32).all (fun b => s.flag (R.BANK_CABLE.CABLE_VALID h b)))

/-- The first of the other conditions of R282 that fails, as the cause a standby reports; 0 where all hold. -/
def State.claimFails (s : State) : Nat :=
  if s.flag R.RST_STATUS.NRST_STUCK then 8
  else if s.guardState ≠ 2 then 6
  else if !s.flag R.TB_STATUS.LOCKED || ((s.twState = 2 || s.twState = 3) && !s.cablesValid) then 7
  else 0

/-- OWN has read released for 2 µs, the keeper is alive, and no bar stands (R281, R290). -/
def State.claimDue (s : State) : Bool :=
  let x := s.twin
  !s.ownHeld && x.ownHigh && decide (x.ownSince + fineUs 2 ≤ s.now) && !x.yielded && decide (x.bar = 0)
    && (match x.keeper with | some k => decide (s.now < k + fineUs 4) | none => false)

/-- Heads with DRV_EN begin their bring-up at a claim from OFF, SEEKING or REFUSED (R282); the others' pairs are driven
low (07_emitter_drive.md R186). -/
def claimBringUp (s : State) : State := upTo 2 (fun h s => if s.drvEn h then bringUp h s else pairsAll h .low s) s

/-- The take-over exchange of every head with DRV_EN at φ (R292): the banks' delays are known, so the drive is ready. -/
def takeOverExchange (phi : Nat) (s : State) : State :=
  upTo 2 (fun h s =>
    if s.drvEn h then
      let s := pairsAll h .low (s.setFlag (R.DRV_STATUS.DRV_READY h))
      startExchange h phi .takeOver (s.setDrv h { s.drv h with bringUp := false, up := none, down := none })
    else pairsAll h .low s) s

/-- Records of a held op enter egress (R293). -/
def emitHeld (x : Held) (s : State) : State :=
  forAll x.recs (fun r s => pushPoint x.head x.frame (bits r.2.2.val 99 8) r.2.2 s) s

/-- A frame open at the claim (R294): its records may be lost, and the failed unit's are counted. -/
def takeFrame (key : Nat) (s : State) : State :=
  s.modFrame (key % 2) (key / 2) (fun a => { a with lost := true, records := a.records + s.twin.noticed.get 0 key })

/-- An op passes to the new active (R293): pulses not covered by a notice were not fired. -/
def takeOp (d slot : Nat) (s : State) : State :=
  match s.op d slot with
  | none => s
  | some o =>
    if o.shadow && !o.unsh then
      let keep := fun (l : List (Nat × Nat)) => l.filter (fun p => decide (p.1 < o.covered))
      let gone := (o.fires ++ o.waiting).length - (keep (o.fires ++ o.waiting)).length
      s.setOp d slot (some { o with
        shadow := false, fires := keep o.fires, waiting := keep o.waiting, suppressed := o.suppressed + gone })
    else s

/-- The ops of the failed unit that go on. -/
def State.shadowed (s : State) : List (Nat × Nat) :=
  s.opKeys.filter (fun k => match s.op k.1 k.2 with | some o => o.shadow && !o.unsh | none => false)

/-- The steps of a take-over (R292 to R294, R296); `event` is 8 with P2 given, or 9. -/
def takeOver (event : Nat) (p2 : Nat) (s : State) : State :=
  let x := s.twin
  let phi := s.now + fineNs 500
  let s := s.setTwin { x with fireFrom := (phi + fineNs 7500) / 128, held := [], early := [], complete := false, mirrored := [],
                              gapFrom := some (max (x.lastA.getD 0) (x.lastB.getD 0) / 128),
                              takenFrames := s.frames.keys }
  let s := forAll s.opKeys (fun k s => takeOp k.1 k.2 s) s
  let s := abandonWhere (fun _ o => o.unsh && o.withdrawable) s
  let s := forAll x.missed abandonMissed (s.setTwin { s.twin with missed := [] })
  let s := forAll s.frames.keys takeFrame s
  let s := forAll x.held emitHeld s
  let s := takeOverExchange phi s
  let s := upTo 8 (fun n s => if s.sqState n = 1 then sqStart n s else s) s
  let tofs := s.get R.TW_TOFS_LO.TOFS_LO
  twinMs event [p2, x.lastNotice.1, x.lastNotice.2.1, x.lastNotice.2.2, tofs, s.get R.TW_TOFS_HI.TOFS_HI] s

/-- Lichen entries from `first` on are written with only UNLEARNT set (R296), which is what an entry nothing has written
reads as. -/
def unlearnFrom (first : Nat) (s : State) : State :=
  { s with mem := s.mem.filter (fun c => !(decide (lichenBase + 32 * first ≤ c.1) && decide (c.1 < egressBase))) }

/-- The take-over of a unit in ALIGNING (R296): the entries of lichen epochs not applied are unlearnt, and the ops of the
frames open are abandoned. -/
def takeOverPartial (s : State) : State :=
  let first := min 524288 (32768 * (s.twin.epoch - 13))
  let s := unlearnFrom first s
  let s := forAll s.opKeys (fun k s => match s.op k.1 k.2 with
    | some o => if o.frame.isSome then s.setOp k.1 k.2 (some { o with unsh := true }) else s
    | none => s) s
  takeOver 9 (524288 - first) s

/-- The claim (R281, R282, R293): counted; a unit that then reads OWN held by the other releases at once. -/
def claim (other : Bool) (s : State) : State :=
  let s := s.bumpSat R.TW_TAKEOVERS.TAKEOVERS
  let s := s.setTwin { s.twin with ownHigh := false, released := false }
  if other then s.setTwin { s.twin with yielded := true }
  else
    let st := s.twState
    let s := s.setFlag R.TW_STATUS.OWN_HELD
    let s := if st = 0 then s else s.put R.TW_STATUS.TW_STATE 4
    if st = 3 then takeOver 8 s.shadowed.length s
    else if st = 2 then takeOverPartial s
    else claimBringUp s

/-- An attempt to claim: unit A claims, and unit B once it has found itself eligible for 4 µs more (R281). A unit in STANDBY
or ALIGNING that fails a condition enters REFUSED (R282). -/
def ownClaim (other : Bool) (s : State) : State :=
  let wait := fun (a : Option Nat) (s : State) => s.setTwin { s.twin with claimAt := a }
  if s.claimDue && s.claimState then
    match s.claimFails with
    | 0 =>
      if !s.flag R.TW_STATUS.UNIT then claim other s
      else match s.twin.claimAt with
        | some a => if a + fineUs 4 ≤ s.now then claim other (wait none s) else s
        | none => wait (some s.now) s
    | c => wait none (if s.twState = 2 ∨ s.twState = 3 then twinRefuse c 10 s else s)
  else wait none s

/-- RELEASE written 1 (R290). -/
def ownRelease (s : State) : State := releaseOwn 1 s

/-! ### The offset (R285) -/

/-- A millisecond's offset from stamps in fine LSB: this unit's sends and sights of path B beats, and the partner's. The
one-way intervals pair each sight with the send it came from; half the difference, averaged, is the offset. -/
def tofsOf (mySent mySeen sent seen : List Nat) : Int :=
  let out := ((seen.zip mySent).map (fun p => (p.1 : Int) - p.2)).sum
  let back := ((mySeen.zip sent).map (fun p => (p.1 : Int) - p.2)).sum
  roundDiv (out - back) (2 * mySent.length)

/-- The partner's stamps of a millisecond come with its guard report: the offset is taken where every beat of both units has
been seen (DESIGN CHOICE, log 84: R285 does not say what a lost beat leaves), and the unit's own stamps begin anew. -/
def tofsUpdate (sent seen : List Nat) (s : State) : State :=
  let x := s.twin
  let s := s.setTwin { x with hbSent := [], hbSeen := [] }
  if x.hbSent = [] ∨ x.hbSent.length ≠ seen.length ∨ x.hbSeen.length ≠ sent.length ∨ sent.length ≠ seen.length then s
  else
    let o := tofsOf x.hbSent x.hbSeen sent seen
    let n := ofInt 64 (o / 128)
    ((s.put R.TW_TOFS_LO.TOFS_LO n).put R.TW_TOFS_HI.TOFS_HI (n / 2 ^ 32)).put R.TW_TOFS_FRAC.TOFS_FRAC (o % 128).toNat

/-! ### The shadow schedule (R287, R289) -/

/-- The newest scan op of a cell that is still open. -/
def State.cellOp (s : State) (h cell : Nat) : Option (Nat × Nat × Op) :=
  let l := (s.opKeys.filterMap (fun k => (s.op k.1 k.2).map (fun o => (k.1, k.2, o)))).filter
    (fun x => x.2.2.head = h && x.2.2.cell = cell && x.2.2.probe.isNone && x.2.2.ref.isNone)
  l.foldl (fun m x => match m with | some y => if y.2.2.v0 < x.2.2.v0 then some x else m | none => some x) none

/-- An instant moved by d ns, or by 9 d ninths. -/
def shiftBy (d : Int) (x : Nat) : Nat := ((x : Int) + d).toNat

/-- A standby's scan-out composes its visits at the active's instants (R287): a decision notice whose V0 differs from the
visit composed here moves the head's frame by the difference. -/
def alignHead (h : Nat) (d : Int) (s : State) : State :=
  if d = 0 then s
  else
    let s := s.modHead h (fun x => { x with
      open9 := shiftBy (9 * d) x.open9, next9 := x.next9.map (shiftBy (9 * d)),
      visits := x.visits.map (fun v => { v with v := shiftBy d v.v, base := shiftBy d v.base, endNs := shiftBy d v.endNs }) })
    s.modFrame h (s.frameCount h) (fun a => { a with t0 := shiftBy d a.t0 })

/-- The op of a cell that a decision notice describes. -/
def State.shadowOp (s : State) (h cell ch w1 w2 v0 frond gen phase : Nat) : Op :=
  let f := s.frameCount h
  let o : Op :=
    { w0 := cell + 2 ^ 19 * ch + 2 ^ 30 * h, w1 := w1, w2 := w2, v0 := v0, vs := [v0], ends := [none], frame := some f,
      frameNow := f, frameT0 := (match s.frame h f with | some a => a.t0 | none => 0),
      bank := (s.chanBank h ch).getD 0, frond := frond, frondGen := gen, shadow := true, phase := phase,
      cols := (match s.fmt h with | some x => x.cols | none => 0) }
  { o with code := s.codeOf o }

/-- A group without a slot or pages leaves an issued cell unshadowed: SHADOW_MISS. The op is kept account of, and its pulses
enter the limiter's sums (R287). -/
def shadowMiss (o : Op) (s : State) : State :=
  let s := (s.bumpSat R.TW_SHADOW_MISS.SHADOW_MISS).modHead o.head (fun x => { x with declined := o.cell :: x.declined })
  let s := s.modFrame o.head (s.frameCount o.head) (fun a => { a with issued := a.issued + 1 })
  let o1 : Op := { o with vs := [], ends := [], lfsr := s.seedOf o, ageEnd := s.ageOf o, unsh := true }
  missedPass o1 o.v0 (s.setTwin { s.twin with missed := s.twin.missed ++ [o1] })

/-- The active issued the cell: the standby's own op of the same descriptor stands as its shadow; another is replaced. -/
def shadowIssued (h cell ch w1 w2 : Nat) (lenses : List Nat) (v0 frond gen : Nat) (s : State) : State :=
  let f := s.frameCount h
  let own := (s.cellOp h cell).filter (fun x => decide (x.2.2.frame = some f))
  let visit := (s.head h).visits.find? (fun v => v.shoot && v.cell = cell)
  let phase := match own, visit with | some x, _ => x.2.2.phase | none, some v => v.phase | none, none => 0
  let mine := match own with | some x => some x.2.2.v0 | none => visit.map (·.v)
  let s := match mine with | some m => alignHead h ((v0 : Int) - m) s | none => s
  let same := match own with | some (_, _, o) => o.w1 = w1 && o.w2 = w2 && decide (o.v0 = v0) | none => false
  match own, same with
  | some (d, slot, o), true => s.setOp d slot (some { o with shadow := true, unsh := false, frond := frond, frondGen := gen })
  | _, _ =>
    let s := match own with
      | some (d, slot, _) => (releaseOp d slot s).modFrame h f (fun a => { a with issued := a.issued - 1 })
      | none => s
    let o := s.shadowOp h cell ch w1 w2 v0 frond gen phase
    match s.declineReason o false false with
    | none => issue o lenses s
    | some _ => shadowMiss o s

/-- The active displaces the cells of a group for calibration: the standby takes the same line, and its shadow ops of the
group are unshadowed (15_thermal_calibration.md R361). -/
def standbyTakes (h ch : Nat) (s : State) : State :=
  let g := ch / 12
  let line := (s.head h).lines - 1
  let (gs, n) := match (s.head h).calLine with
    | some (l, gs, n) => if l = line then (if gs.contains g then gs else gs ++ [g], n + 1) else ([g], 1)
    | none => ([g], 1)
  let s := s.modHead h (fun x => { x with calLine := some (line, gs, n) })
  let s := s.modFrame h (s.frameCount h) (fun a => { a with displaced := true })
  forAll s.opKeys (fun k s => match s.op k.1 k.2 with
    | some o => if o.shadow && o.head = h && o.chan / 12 = g then s.setOp k.1 k.2 (some { o with unsh := true }) else s
    | none => s) s

/-- The active declined the cell: an op of the standby's own is withdrawn from its slot and from its frame's account. -/
def shadowDeclined (h cell ch reason : Nat) (s : State) : State :=
  let f := s.frameCount h
  let s := if reason = 2 then standbyTakes h ch s else s
  if (s.head h).declined.contains cell then s
  else
    let s := match s.cellOp h cell with
      | some (d, slot, o) =>
        if o.frame = some f then (releaseOp d slot s).modFrame h f (fun a => { a with issued := a.issued - 1 }) else s
      | none => s
    let s := s.modHead h (fun x => { x with declined := cell :: x.declined })
    s.modFrame h f (fun a => { a with declined := a.declined + 1 })

/-- The cell's op among those that found no slot here. -/
def State.missedOp (s : State) (h cell : Nat) : Option Op :=
  s.twin.missed.find? (fun o => o.head = h && o.cell = cell)

/-- The pulses of an op below `upto` are accounted for: the windows of those not fired go. -/
def Op.account (o : Op) (upto : Nat) (notFired : List Nat) : Op :=
  let keep := fun (l : List (Nat × Nat)) => l.filter (fun p => !notFired.contains p.1)
  let gone := (o.fires ++ o.waiting).length - (keep (o.fires ++ o.waiting)).length
  { o with covered := max o.covered upto, notFired := o.notFired ++ notFired, fires := keep o.fires, waiting := keep o.waiting,
           suppressed := o.suppressed + gone }

/-- Notices of pulses: of the cell's op, or of one that found no slot here; those not fired leave the limiter's sums. -/
def shadowPulses (h cell upto : Nat) (notFired : List Nat) (s : State) : State :=
  let times := fun (o : Op) => ((o.fires ++ o.waiting).filter (fun p => notFired.contains p.1)).map Prod.snd
  match s.missedOp h cell, s.cellOp h cell with
  | some o, _ =>
    let s := s.setTwin { s.twin with missed := s.twin.missed.map (fun m => if m = o then o.account upto notFired else m) }
    limiterUndo o (times o) s
  | none, some (d, slot, o) => limiterUndo o (times o) (s.setOp d slot (some (o.account upto notFired)))
  | none, none => s

/-- An op that found no slot here has been completed by the active: it leaves the account as completed. -/
def missedDone (h cell : Nat) (s : State) : State :=
  match s.missedOp h cell with
  | none => s
  | some o =>
    let s := s.setTwin { s.twin with missed := s.twin.missed.erase o }
    match o.frame with
    | some f => s.modFrame h f (fun a => { a with completed := a.completed + 1 })
    | none => s

/-- The records of the cell's op entered the active's egress: those held are discarded, or will be on completion. -/
def shadowEgress (h cell records pa pb ms : Nat) (s : State) : State :=
  let x := s.twin
  let mine := fun (y : Held) => y.head = h && y.cell = cell
  let frame := match x.held.find? mine with
    | some y => y.frame
    | none => match s.missedOp h cell with | some o => o.frame | none => (s.cellOp h cell).bind (fun o => o.2.2.frame)
  let noticed := match frame with
    | some f => x.noticed.put 0 (frameKey h f) (x.noticed.get 0 (frameKey h f) + records)
    | none => x.noticed
  let had := x.held.any mine
  missedDone h cell (s.setTwin { x with
    lastNotice := (pa, pb, ms), noticed := noticed, held := x.held.eraseP mine,
    early := if had || (s.missedOp h cell).isSome || decide (records = 0) then x.early else x.early ++ [(h, cell)] })

/-- A notice of the shadow schedule, with the active's instants mapped under R285. -/
def shadowNotice (n : ShadowNotice) (s : State) : State :=
  if !s.standby then s
  else match n with
    | .decision head cell ch w1 w2 lenses v0 frond gen outcome =>
      if 2 ≤ head then s
      else if outcome = 0 then shadowIssued head cell ch w1 w2 lenses (s.mapNs v0) frond gen s
      else shadowDeclined head cell ch (outcome - 1) s
    | .pulses head cell upto notFired => shadowPulses head cell upto notFired s
    | .egress head cell records pa pb ms => shadowEgress head cell records pa pb ms s

/-! ### Meanings -/

/-- BEAT_SEND (R280, R283, R284). -/
def execBeatSend (t : Nat) (s : State) : Host.Outcome State Fault Refusal := act t beatSend s

/-- HEALTH_CHECK (R284, R297). -/
def execHealthCheck (t : Nat) (supplies cores firing : Bool) (s : State) : Host.Outcome State Fault Refusal :=
  act t (healthCheck (supplies && cores && firing)) s

/-- BEAT_RECEIVE (R283, R284). -/
def execBeatReceive (t : Nat) (lane : Fin 4) (info : BitVec 8) (_time : Nat) (s : State) : Host.Outcome State Fault Refusal :=
  act t (beatReceive lane info.toNat) s

/-- HB_IN_PULSE (R284, R285). -/
def execHbInPulse (t : Nat) (s : State) : Host.Outcome State Fault Refusal := act t beatPulse s

/-- PATH_LOST (R284, R291, R296, R297, R298). -/
def execPathLost (t : Nat) (path : Fin 2) (s : State) : Host.Outcome State Fault Refusal := act t (pathLost path) s

/-- OWN_KEEPER_LAPSE (R280). -/
def execOwnKeeperLapse (t : Nat) (s : State) : Host.Outcome State Fault Refusal := actAny t keeperLapse s

/-- OWN_CLAIM (R281, R282, R291 to R294, R296). -/
def execOwnClaim (t : Nat) (other : Bool) (s : State) : Host.Outcome State Fault Refusal := act t (ownClaim other) s

/-- OWN_LINE_CHANGE (R281). -/
def execOwnLineChange (t : Nat) (high : Bool) (s : State) : Host.Outcome State Fault Refusal := actAny t (ownLine high) s

/-- IDENTITY_RECEIVE (R278, R283, R298). -/
def execIdentityReceive (t : Nat) (id : Identity) (s : State) : Host.Outcome State Fault Refusal := act t (identityReceive id) s

/-- TOFS_UPDATE (R285). -/
def execTofsUpdate (t : Nat) (stamps : BeatStamps) (s : State) : Host.Outcome State Fault Refusal :=
  act t (tofsUpdate stamps.sent stamps.seen) s

/-- SHADOW_SCHEDULE (R283, R287, R289). -/
def execShadowSchedule (t : Nat) (notice : ShadowNotice) (s : State) : Host.Outcome State Fault Refusal :=
  act t (shadowNotice notice) s

end Sys2Proof.Machine
end

