-- ==== Sys2Proof/Machine/Sec.lean ====
section
/-! DEFINITION. Identity, signed images and the change ledger (16_security_ledger.md), and the loading of Salrad images
(06_salrad.md R175 to R177). -/

namespace Sys2Proof.Machine

def State.setSec (s : State) (x : Sec) : State := { s with sec := x }

/-- Word i of a little-endian number of 32-bit words. -/
def word32 (v i : Nat) : Nat := bits v (32 * i) 32

/-- The n bytes at byte offset `ofs` of a little-endian number. -/
def slice (v ofs n : Nat) : Nat := bits v (8 * ofs) (8 * n)

/-- SHA-512 of the n bytes of a number, as a little-endian number. -/
def hashNat (n v : Nat) : Nat := leNat (sha512 (bytesOf n v))

/-- Register words k = 0 to n - 1 take a little-endian number. -/
def putWords (addr : Nat → Nat) (n v : Nat) (s : State) : State :=
  upTo n (fun k s => s.setReg (addr k) (BitVec.ofNat 32 (word32 v k))) s
def State.getWords (s : State) (addr : Nat → Nat) (n : Nat) : Nat :=
  wordsNat ((List.range n).map (fun k => (s.reg (addr k)).toNat))

/-! ### The part's identity (R371) -/

def devSerial : Nat := Config.devSerial.toNat

/-- The Ed25519 seed: bytes 0 to 31 of SHA-512 of "LNF-ID" and the secret. -/
def devSeed : Nat := leNat ((sha512 ([0x4C, 0x4E, 0x46, 0x2D, 0x49, 0x44] ++ bytesOf 32 Config.dieSecret.toNat)).take 32)

def devPubkey : Nat := edPublic devSeed

/-- The certificate, 160 bytes, as the window of R378 shows it. -/
def State.certificate (s : State) : Nat :=
  0x54524543 + 2 ^ 32 * devSerial + 2 ^ 96 * devPubkey + 2 ^ 352 * s.variant
    + 2 ^ 360 * (Config.siliconRev 0).toNat + 2 ^ 768 * Config.certSign.toNat

/-- DEV_SERIAL, DEV_PUBKEY and the certificate show what is fused. -/
def showIdentity (s : State) : State :=
  let s := (s.put R.DEV_SERIAL_LO.SERIAL_LO (lo32 devSerial)).put R.DEV_SERIAL_HI.SERIAL_HI (hi32 devSerial)
  (putWords R.DEV_PUBKEY.addr 8 devPubkey s).store 0x53200 160 s.certificate

/-! ### Settings (R377) -/

/-- The settings of R377. -/
def settingKnown (k : Nat) : Bool := decide (1 ≤ k ∧ k ≤ 12)

/-- Value bytes of a setting; how the short values are packed is the model's own (log 16). -/
def settingLen (k : Nat) : Nat :=
  if k = 4 ∨ k = 6 then 8 else if 7 ≤ k ∧ k ≤ 10 then 32 else if k = 11 then 12480 else 4

/-- The factory default of a setting but GUARD_TABLE. -/
def settingDefault (k : Nat) : Nat :=
  match k with
  | 1 => 1 + 2 ^ 2 * 16
  | 2 => 2 ^ 2 + 2 ^ 3 + 2 ^ 4 + 2 ^ 8 * 16 + 2 ^ 14 * 4
  | 3 => lo32 devSerial
  | 4 => 2 ^ 64 - 1
  | 7 => Config.fusedKey.toNat
  | _ => 0

/-- Which roles may change a setting: 0 Factory, 1 Integrator, 2 Operator, 3 Service. -/
def settingRole (k role : Nat) : Bool :=
  match k with
  | 1 | 2 | 4 | 6 => role = 1 || role = 3
  | 7 => role = 0
  | 8 | 12 => role = 0 || role = 1
  | _ => role = 1

/-- How often a setting may change over the life of the part; none where that is unlimited. -/
def settingLimit (k : Nat) : Option Nat :=
  if k = 5 then some 32 else if k = 6 ∨ (7 ≤ k ∧ k ≤ 10) then some 8 else if k = 11 then some 16 else none

/-- The stored value of a setting, and its default where neither slot is valid (R363, R377). -/
def State.stored (s : State) (k : Nat) : Option Nat := (s.nvPair (0x100 + k)).load
def State.setting (s : State) (k : Nat) : Nat := (s.stored k).getD (settingDefault k)

/-- The key of a role in force; 0 is unset. -/
def State.roleKey (s : State) (role : Nat) : Nat := s.sec.keys.get 0 (7 + role)

/-- The word MEM_CFG shows of a stored MEM_CFG record: its reserved encodings of ADDR_ORDER and RATE read 0 (00_scope.md
R9, 12_stream_memory.md R316). -/
def memCfgWord (v : Nat) : Nat :=
  (if 2 ≤ v % 4 then 0 else v % 4) + 4 * (v / 4 % 8) + (if 5 ≤ v / 32 % 8 then 0 else 32 * (v / 32 % 8)) + 256 * (v / 256 % 1024)

/-- A setting takes effect (R377, R380). -/
def putSetting (k v : Nat) (s : State) : State :=
  match k with
  | 1 => ((s.put R.POLICY_CTL.POLICY_EN (bits v 0 1)).put R.TW_CTL.TWIN_EN (bits v 1 1)).put R.TW_CTL.ALIGN_GBPS (bits v 2 5)
  | 2 => s.setReg R.MEM_CFG.addr (BitVec.ofNat 32 (memCfgWord v))
  | 3 => s.put R.VENUE_SEED.value v
  | 4 => s.setSec { s.sec with bootMask := v }
  | 5 => s.put R.CODE_PLAN.CODE_FAMILY v
  | 6 => (s.put R.TW_PAIR_ID_LO.PAIR_ID_LO (lo32 v)).put R.TW_PAIR_ID_HI.PAIR_ID_HI (hi32 v)
  | 12 => s.put R.FW_SVN.FLOOR v
  | _ => if 7 ≤ k ∧ k ≤ 10 then s.setSec { s.sec with keys := s.sec.keys.put 0 k v } else s

/-- LIMIT_USED and KEY_USED show the fuses burnt. -/
def showFuses (s : State) : State :=
  let f := s.sec.fuses.get 0
  let s := ((s.put R.LIMIT_USED.GUARD_USED (f 11)).put R.LIMIT_USED.CODE_USED (f 5)).put R.LIMIT_USED.PAIR_USED (f 6)
  s.put R.KEY_USED.USED (f 7 + 2 ^ 4 * f 8 + 2 ^ 8 * f 9 + 2 ^ 12 * f 10)

/-! ### The guard table (08_emission_guard.md R212, R213) -/

/-- The boot ROM's test of a guard table: its header, its body's hash and its signature by the key of its ROLE (R370). -/
def State.tableSigned (s : State) (v : Nat) : Bool :=
  let role := bits (word32 v 1) 16 2
  let key := s.roleKey role
  word32 v 0 = 0x44524147 && bits (word32 v 1) 0 16 = 1 && decide (role ≤ 1)
    && slice v 64 64 = hashNat 12288 (slice v 192 12288) && key ≠ 0 && edVerify key (slice v 128 64) (bytesOf 128 v)

/-- The guard processor's test of a table (R213). -/
def tableFieldsOk (v : Nat) : Bool :=
  let w := word32 v
  let disc := fun x => decide (5 ≤ x ∧ x ≤ 500)
  bits (w 1) 18 14 = 0 && bits (w 3) 8 24 = 0 && bits (w 7) 12 4 = 0 && bits (w 7) 28 4 = 0
    && (List.range 8).all (fun i => w (8 + i) = 0)
    && disc (bits (w 4) 0 16) && disc (bits (w 4) 16 16) && disc (bits (w 5) 0 16) && disc (bits (w 5) 16 16)
    && bits (w 7) 16 12 ≠ 0 && bits (w 3) 0 4 ≠ 0 && bits (w 6) 0 16 ≠ 0 && bits (w 6) 16 16 ≠ 0

/-- The budgets of a table's body. -/
def tableBudgets (v : Nat) : SMap Budget :=
  (List.range 1024).foldl (fun m i =>
    let x := 192 + 12 * i
    m.put {} i ⟨slice v x 4, slice v (x + 4) 4, slice v (x + 8) 4⟩) []

/-- A table comes into force. -/
def tableInstall (v : Nat) (s : State) : State :=
  let w := word32 v
  let t : GuardTable := { polyMin := bits (w 6) 0 16, polyIdxMax := bits (w 6) 16 16, elevSpan := bits (w 7) 0 12,
                          elevWin := bits (w 7) 16 12, budgets := tableBudgets v }
  let s := { s with guard := { s.guard with table := t } }
  let s := (s.put R.GUARD_TABLE_ID.TABLE_VER (w 2)).setReg R.GIN_CFG_NOW.addr (BitVec.ofNat 32 (w 3 % 256))
  let s := (s.setReg R.GIN_DISC01.addr (BitVec.ofNat 32 (w 4))).setReg R.GIN_DISC23.addr (BitVec.ofNat 32 (w 5))
  s.setSec { s.sec with tableMeas := hashNat 192 v }

/-- The Factory table: every budget 0; its other fields are the model's own (log 16). -/
def factoryInstall (s : State) : State :=
  let t : GuardTable := { polyMin := 1, polyIdxMax := 65535, elevSpan := 0, elevWin := 1 }
  let s := { s with guard := { s.guard with table := t, tableBad := false } }
  let s := (s.put R.GUARD_TABLE_ID.TABLE_VER 0).setReg R.GIN_CFG_NOW.addr 1
  let s := (s.setReg R.GIN_DISC01.addr 0x01F401F4).setReg R.GIN_DISC23.addr 0x01F401F4
  s.setSec { s.sec with tableMeas := Config.factoryTable.toNat }

/-! ### Measurements and CFG_ID (R372, R373) -/

/-- IMG_MEAS: SHA-512 of the headers of the images that hold SQ0 to SQ7. -/
def State.imgMeas (s : State) : Nat :=
  leNat (sha512 ((List.range 8).flatMap (fun n =>
    bytesOf 192 (if s.sqState n = 0 then 0 else s.sec.images.get 0 n))))

/-- The value of record 1 in force, packed as it is stored. -/
def State.systemValue (s : State) : Nat :=
  s.get R.POLICY_CTL.POLICY_EN + 2 * s.get R.TW_CTL.TWIN_EN + 4 * s.get R.TW_CTL.ALIGN_GBPS

/-- CFG_ID is computed again (R373). -/
def cfgId (s : State) : State :=
  let pair := s.get R.TW_PAIR_ID_LO.PAIR_ID_LO + 2 ^ 32 * s.get R.TW_PAIR_ID_HI.PAIR_ID_HI
  let l := bytesOf 4 s.systemValue ++ bytesOf 4 (s.reg R.MEM_CFG.addr).toNat ++ bytesOf 4 (s.get R.VENUE_SEED.value)
    ++ bytesOf 4 (s.get R.CODE_PLAN.CODE_FAMILY) ++ bytesOf 8 pair ++ bytesOf 64 s.sec.tableMeas ++ bytesOf 64 s.imgMeas
  let v := leNat ((sha512 l).take 8)
  (s.put R.CFG_ID_LO.value (lo32 v)).put R.CFG_ID_HI.value (hi32 v)

/-! ### The ledger (R381) -/

def ledgerBase : Nat := 0x60000
def State.ledgerCount (s : State) : Nat := s.get R.LEDGER_COUNT.COUNT

/-- SHA-512 of entry n. -/
def State.ledgerHash (s : State) (n : Nat) : Nat := hashNat 256 (s.load (ledgerBase + 256 * n) 256)

/-- LEDGER_HEAD: the hash of the newest entry, 0 where there is none. -/
def State.ledgerHead (s : State) : Nat := if s.ledgerCount = 0 then 0 else s.ledgerHash (s.ledgerCount - 1)

/-- An entry is appended: its setting, signer's role, RECOVERED, the hash of its value and its signer's public key. -/
def ledgerAppend (k role : Nat) (recovered : Bool) (hash signer : Nat) (s : State) : State :=
  let n := s.ledgerCount
  let used := if (settingLimit k).isSome then s.sec.fuses.get 0 k else 0
  let body := wordsNat [n, k + 2 ^ 8 * role + 2 ^ 10 * b2n recovered + 2 ^ 16 * used, lo32 s.ns, hi32 s.ns,
      s.get R.POWER_CYCLES.CYCLES, s.get R.POWERED_HOURS.value, 0, 0]
    + 2 ^ 256 * hash + 2 ^ 768 * s.ledgerHead + 2 ^ 1280 * (hashNat 32 signer % 2 ^ 256)
  let s := s.store (ledgerBase + 256 * n) 256 (body + 2 ^ 1536 * edSign devSeed (bytesOf 192 body))
  let s := s.put R.LEDGER_COUNT.COUNT (n + 1)
  if 8104 ≤ n + 1 then s.setFlag R.SEC_STATUS.LEDGER_FULL else s

/-! ### Change requests (R378 to R380) -/

/-- The staging window. -/
def stagingBase : Nat := 0x54000

/-- A value is one its setting can hold (R379, result 8). -/
def State.valueOk (s : State) (k v : Nat) : Bool :=
  match k with
  | 1 => v < 2 ^ 7
  | 5 => v < 64
  | 11 => s.tableSigned v && tableFieldsOk v
  | 12 => v < 2 ^ 16
  | _ => if 7 ≤ k ∧ k ≤ 10 then v ≠ 0 else true

/-- The first test of R379 that a request fails, its header in `h` and its value in `v`; 0 where it passes all. -/
def State.ledgTest (s : State) (h v : Nat) : Nat :=
  let w := word32 h
  let k := bits (w 1) 0 8
  let role := bits (w 1) 8 2
  let len := w 2
  let key := if k = 8 ∧ role = 1 ∧ s.roleKey 1 = 0 then v else s.roleKey role
  let n := s.ledgerCount
  if w 0 ≠ 0x4748434C ∨ bits (w 1) 10 22 ≠ 0 ∨ w 38 ≠ 0 ∨ w 39 ≠ 0 ∨ !settingKnown k ∨ len ≠ settingLen k
      ∨ slice h 24 64 ≠ hashNat len v then 1
  else if slice h 16 8 ≠ devSerial then 4
  else if key = 0 ∨ !edVerify key (slice h 88 64) (bytesOf 88 h) then 2
  else if !settingRole k role then 3
  else if w 3 ≠ n then 5
  else if (match settingLimit k with | some m => decide (m ≤ s.sec.fuses.get 0 k) | none => false) then 6
  else if 8192 ≤ n ∨ (8104 ≤ n ∧ settingLimit k = none) then 7
  else if !s.valueOk k v then 8
  else if k = 5 ∧ (s.running 0 || s.running 1) then 10
  else 0

/-- LEDG_GO (R379): a request that passes is accepted and its change begins. -/
def ledgGo (s : State) : State :=
  if s.flag R.SEC_STATUS.LEDG_BUSY then s.put R.LEDG_RESULT.RESULT 9
  else
    let h := s.load stagingBase 160
    let v := s.load (stagingBase + 160) (min 16224 (word32 h 2))
    let r := s.ledgTest h v
    let s := s.put R.LEDG_RESULT.RESULT r
    if r ≠ 0 then s
    else
      let k := bits (word32 h 1) 0 8
      let role := bits (word32 h 1) 8 2
      let key := if k = 8 ∧ role = 1 ∧ s.roleKey 1 = 0 then v else s.roleKey role
      let c : Change := { setting := k, role := role, len := settingLen k, val := v, hash := slice h 24 64, signer := key,
                          entry := s.ledgerCount }
      ((s.put R.LEDG_RESULT.ENTRY s.ledgerCount).setFlag R.SEC_STATUS.LEDG_BUSY).setSec { s.sec with change := some c }

/-- The first step of a change: a limited setting's fuse is burnt. -/
def burnFuse (k : Nat) (s : State) : State :=
  if (settingLimit k).isSome then
    showFuses (s.setSec { s.sec with fuses := s.sec.fuses.put 0 k (s.sec.fuses.get 0 k + 1) })
  else s

/-- The second step: the value goes to the slot that does not hold the newer valid copy. -/
def storeSetting (k len v : Nat) (s : State) : State :=
  let p := s.nvPair (0x100 + k)
  let (b, seq) := p.next
  s.setNvPair (0x100 + k) (p.setSlot b (nvSlot (0x100 + k) seq len v))

/-- Sessions whose role's key has changed become Open (R374). -/
def endSessions (role : Nat) (s : State) : State :=
  upTo 3 (fun p s =>
    let x := s.sec.sessions.get {} p
    if x.role = some role then s.setSec { s.sec with sessions := s.sec.sessions.put {} p { x with role := none } } else s) s

/-- An accepted change is made (R380): fuse, value, ledger entry; CODE_FAMILY, TWIN_PAIR_ID, the keys and FW_FLOOR take
effect at once. -/
def ledgerDone (s : State) : State :=
  match s.sec.change with
  | none => s
  | some c =>
    let s := storeSetting c.setting c.len c.val (burnFuse c.setting s)
    let s := ledgerAppend c.setting c.role false c.hash c.signer s
    let k := c.setting
    let s := if k = 5 ∨ k = 6 ∨ k = 12 ∨ (7 ≤ k ∧ k ≤ 10) then putSetting k c.val s else s
    let s := if 7 ≤ k ∧ k ≤ 10 then endSessions (k - 7) s else s
    cfgId ((s.setSec { s.sec with change := none }).clrFlag R.SEC_STATUS.LEDG_BUSY)

/-- A reset cuts a change being made (R380): which of its steps had been made is open. -/
def cutChange (s : State) : State :=
  match s.sec.change with
  | none => s
  | some c =>
    let (w, s) := s.draw
    let s := s.setSec { s.sec with change := none }
    let step := w.toNat % 3
    let limited := (settingLimit c.setting).isSome
    let s := if 1 ≤ step then burnFuse c.setting s else s
    let s := if step = 2 then storeSetting c.setting c.len c.val s else s
    if step = 2 ∨ (step = 1 ∧ limited) then s.setSec { s.sec with owed := s.sec.owed ++ [c.setting] } else s

/-- The hash of a setting's value in force: for GUARD_TABLE the stored table where it verifies, else the Factory table's,
whose contents are not given (log 7). -/
def State.hashInForce (s : State) (k : Nat) : Nat :=
  if k = 11 then
    match s.stored 11 with
    | some v => if s.tableSigned v then hashNat (settingLen 11) v else Config.factoryHash.toNat
    | none => Config.factoryHash.toNat
  else hashNat (settingLen k) (s.setting k)

/-- Start-up appends an entry with RECOVERED for each setting whose fuse count or slot the ledger does not show (R380,
R381). -/
def recoverEntries (s : State) : State :=
  let l := s.sec.owed
  let s := s.setSec { s.sec with owed := [] }
  forAll l (fun k s =>
    let n := s.ledgerCount
    if 8192 ≤ n ∨ (8104 ≤ n ∧ s.sec.recovered ∧ settingLimit k = none) then s
    else
      let s := s.setSec { s.sec with recovered := true }
      ledgerAppend k 0 true (s.hashInForce k) (s.roleKey 0) s) s

/-! ### Sessions (R374) and quotes (R372) -/

/-- The path of a requester that holds a session: 0 MSPI, 1 and 2 the CTRL streams. -/
def sessPath (req : Nat) : Option Nat := if req ≤ 2 then some req else none

def State.sess (s : State) (p : Nat) : Session := s.sec.sessions.get {} p
def State.setSess (s : State) (p : Nat) (x : Session) : State :=
  s.setSec { s.sec with sessions := s.sec.sessions.put {} p x }

/-- Word k of a path's AUTH_CHAL. -/
def State.chalWord (s : State) (p k : Nat) : Nat :=
  match (s.sess p).chal with
  | some n => (Config.freeWord (n + k)).toNat
  | none => (Config.firstChallenge (8 * p + k)).toNat

/-- AUTH_CHAL is drawn afresh. -/
def drawChallenge (p : Nat) (s : State) : State :=
  { s.setSess p { s.sess p with chal := some s.fresh } with fresh := s.fresh + 8 }

/-- AUTH_GO on a path: the session takes the role whose key verifies the signature, or becomes Open. -/
def authGo (p : Nat) (s : State) : State :=
  let x := s.sess p
  let key := s.roleKey x.authRole
  let msg := bytesOf 32 (wordsNat ((List.range 8).map (s.chalWord p))) ++ bytesOf 8 devSerial ++ [p, x.authRole]
  let ok := key ≠ 0 && edVerify key x.sig msg
  drawChallenge p (s.setSess p { x with role := if ok then some x.authRole else none, fail := x.fail || !ok })

/-- SESS_END. -/
def sessEnd (p : Nat) (s : State) : State := s.setSess p { s.sess p with role := none }

/-- The 344 bytes of a quote that are signed (R372). -/
def State.quoteBody (s : State) : Nat :=
  0x544F5551 + 2 ^ 32 + 2 ^ 64 * devSerial + 2 ^ 128 * s.getWords R.ATT_NONCE.addr 8 + 2 ^ 384 * s.ns
    + 2 ^ 448 * s.get R.POWER_CYCLES.CYCLES + 2 ^ 480 * s.get R.POWERED_HOURS.value + 2 ^ 512 * s.sec.fwMeas
    + 2 ^ 1024 * s.sec.tableMeas + 2 ^ 1536 * s.get R.CFG_ID_LO.value + 2 ^ 1568 * s.get R.CFG_ID_HI.value
    + 2 ^ 1600 * s.ledgerCount + 2 ^ 1632 * s.ledgerHead + 2 ^ 2144 * s.imgMeas
    + 2 ^ 2656 * (s.get R.FW_SVN.SVN + 2 ^ 16 * s.get R.SEC_STATUS.CFG_DEFAULTED + 2 ^ 17 * s.get R.SEC_STATUS.BOOT_ALT
      + 2 ^ 18 * s.get R.GUARD_STATUS.TABLE_VALID)

/-- ATT_GO: the quote of this instant is being built and signed. -/
def attGo (s : State) : State :=
  if s.flag R.SEC_STATUS.ATT_BUSY then s.setFlag R.SEC_STATUS.ATT_REJ
  else
    let b := s.quoteBody
    (s.setFlag R.SEC_STATUS.ATT_BUSY).setSec { s.sec with quote := some (b + 2 ^ 2752 * edSign devSeed (bytesOf 344 b)) }

/-- The quote is complete. -/
def attDone (s : State) : State :=
  match s.sec.quote with
  | none => s
  | some v => ((s.store 0x53000 408 v).clrFlag R.SEC_STATUS.ATT_BUSY).setSec { s.sec with quote := none }

/-! ### Salrad images (06_salrad.md R175 to R177) -/

/-- The sequencers an image's header claims. -/
def imageClaims (h : Nat) : List Nat := (List.range 8).filter (fun n => bit (bits (word32 h 1) 16 8) n)

/-- The instruction span of an image, and the span of a loaded sequencer it does not claim, overlap (R176). -/
def State.imageOverlaps (s : State) (h : Nat) : Bool :=
  let lo := bits (word32 h 2) 0 17
  let hi := lo + bits (word32 h 3) 0 18 - 1
  (List.range 8).any (fun n => s.sqState n ≠ 0 && !(imageClaims h).contains n
    && decide (lo ≤ s.get (R.SQ_SPAN_HI.SPAN_HI n)) && decide (s.get (R.SQ_SPAN_LO.SPAN_LO n) ≤ hi))

/-- An image has the shape of the policy (R177): it claims SQ0 and SQ1, and lies in its instructions and data offsets. -/
def policyShape (h : Nat) : Bool :=
  let w := word32 h
  decide (imageClaims h = [0, 1] ∧ 0x1E000 ≤ bits (w 2) 0 17 ∧ bits (w 2) 0 17 + bits (w 3) 0 18 ≤ 0x20000
    ∧ 0x3F0000 ≤ bits (w 4) 0 22 ∧ bits (w 4) 0 22 + bits (w 5) 0 23 ≤ 0x400000)

/-- An image passes the tests of R176; `policy` for the policy image of start-up, which Factory signs and which has its own
place (R177). -/
def State.imageOk (s : State) (policy : Bool) (img : List Nat) : Bool :=
  let h := leNat (img.take 192)
  let w := word32 h
  let plen := bits (w 3) 0 18
  let dlen := bits (w 5) 0 23
  let role := bits (w 15) 0 2
  let key := s.roleKey role
  decide (192 + 8 * plen + dlen ≤ img.length) && w 0 = 0x44524C53 && bits (w 1) 0 16 = 1 && decide (1 ≤ plen)
    && (if policy then role = 0 else role = 1 || role = 2) && (!policy || policyShape h) && key ≠ 0
    && edVerify key (slice h 128 64) (img.take 128)
    && slice h 64 64 = leNat (sha512 ((img.drop 192).take (8 * plen + dlen)))
    && decide (bits (w 15) 4 4 ≤ s.variant)
    && decide (bits (w 2) 0 17 + plen ≤ 131072) && decide (bits (w 4) 0 22 + dlen ≤ 4194304)
    && !s.imageOverlaps h

/-- Store a list of bytes. -/
def State.storeList (s : State) (a : Nat) (l : List Nat) : State :=
  match l with
  | [] => s
  | b :: r => State.storeList (s.setByte a (BitVec.ofNat 8 b)) (a + 1) r

/-- A claimed sequencer takes its span and entry and stands in STOPPED. -/
def claimSeq (policy : Bool) (h n : Nat) (s : State) : State :=
  let lo := bits (word32 h 2) 0 17
  let role := bits (word32 h 15) 0 2
  let s := (s.put (R.SQ_SPAN_LO.SPAN_LO n) lo).put (R.SQ_SPAN_HI.SPAN_HI n) (lo + bits (word32 h 3) 0 18 - 1)
  let s := (s.put (R.SQ_ENTRY.ENTRY n) (bits (word32 h (6 + n)) 0 17)).put (R.SQ_STATUS.STATE n) 1
  let s := s.setSeq n { s.seq n with wait := none, role := if role = 0 then 2 else role, policy := policy }
  s.setSec { s.sec with images := s.sec.images.put 0 n h }

/-- Load an image (R176): whether it was accepted. A refused image changes nothing. -/
def loadImage (policy start : Bool) (img : List Nat) (s : State) : State × Bool :=
  if !s.imageOk policy img then (s, false)
  else
    let h := leNat (img.take 192)
    let l := imageClaims h
    let plen := 8 * bits (word32 h 3) 0 18
    let s := forAll l sqStop s
    let s := s.storeList (progBase + 8 * bits (word32 h 2) 0 17) ((img.drop 192).take plen)
    let data := (img.drop (192 + plen)).take (bits (word32 h 5) 0 23)
    let at_ := dataBase + bits (word32 h 4) 0 22
    let s := forwardBytes (ceilDiv data.length 32) at_ data.length (s.storeList at_ data)
    let s := forAll l (claimSeq policy h) s
    let s := if policy then policyReset s else s
    let two := l.contains 0 || l.contains 1
    let s := if two && !policy && s.flag R.POLICY_CTL.POLICY_EN then s.setFlag R.POLICY_CTL.POLICY_CONFLICT else s
    let s := cfgId s
    (if start then forAll l sqStart s else s, true)

/-! ### Meanings -/

/-- ATT_DONE (R372). -/
def execAttDone (t : Nat) (s : State) : Host.Outcome State Fault Refusal := act t attDone s

/-- LEDGER_CHANGE_DONE (R380). -/
def execLedgerChangeDone (t : Nat) (s : State) : Host.Outcome State Fault Refusal := act t ledgerDone s

end Sys2Proof.Machine
end

