-- ==== Sys2Proof/Machine/Lanes.lean ====
section
/-! DEFINITION. The line of a lane (10_trunk.md R249 to R254, R274, R275): scrambling, stuffing, blocks, block lock, PRBS
and error injection; and the lanes of a port. Lanes 12 to 15 stand for the causeway's, which form port 2. -/

namespace Sys2Proof.Machine

/-! ### Lanes and ports (R247) -/

/-- The port of a lane: its PORT field; 2 for the causeway's link. -/
def State.lanePort (s : State) (l : Nat) : Nat := if l < 12 then s.get (R.LANE_CTL.PORT l) else 2

/-- The lanes of a port that are up. -/
def State.linkLanes (s : State) (p : Nat) : List Nat := if p < 2 then s.portLanes p else s.cwyLanes

/-- A port is up while a lane of it is. -/
def State.linkUp (s : State) (p : Nat) : Bool := !(s.linkLanes p).isEmpty

/-- The index of a lane on its link, as blocks name it. -/
def laneIndex (l : Nat) : Nat := if l < 12 then l else l - 12

def State.modLane (s : State) (l : Nat) (f : Lane → Lane) : State := s.setLane l (f (s.lane l))

/-- The partner's parcel limit on a link, in bytes (R258, 11_twin.md R283). -/
def State.linkMax (s : State) (p : Nat) : Nat :=
  (s.linkLanes p).foldl (fun m l => let b := s.get (R.LANE_PARTNER.P_MAX_BLK l)
                                    min m (32 * (if b = 0 then 256 else b))) 8192

/-! ### Scrambler and stuffing (R250, R251) -/

/-- The low n bits of a number, lowest first. -/
def bitList (n v : Nat) : List Bool :=
  match n with
  | 0 => []
  | n + 1 => decide (v % 2 = 1) :: bitList n (v / 2)

/-- The number of a list of bits, lowest first. -/
def bitsNat : List Bool → Nat
  | [] => 0
  | b :: r => b2n b + 2 * bitsNat r

/-- Scramble payload bits; the state holds the last 58 scrambled bits, the latest lowest. -/
def scramble (st : BitVec 58) : List Bool → List Bool × BitVec 58
  | [] => ([], st)
  | d :: r =>
    let o := (d ^^ st.getLsbD 38) ^^ st.getLsbD 57
    let x := scramble ((st <<< 1) ||| BitVec.ofNat 58 (b2n o)) r
    (o :: x.1, x.2)

/-- Descramble received bits. -/
def descramble (st : BitVec 58) : List Bool → List Bool × BitVec 58
  | [] => ([], st)
  | b :: r =>
    let d := (b ^^ st.getLsbD 38) ^^ st.getLsbD 57
    let x := descramble ((st <<< 1) ||| BitVec.ofNat 58 (b2n b)) r
    (d :: x.1, x.2)

/-- The run after a bit. -/
def Coder.count (c : Coder) (b : Bool) : Coder :=
  if b = c.last then { c with run := c.run + 1 } else { c with last := b, run := 1 }

/-- Stuff the bits leaving the scrambler stage. -/
def stuff (c : Coder) : List Bool → List Bool × Coder
  | [] => ([], c)
  | b :: r =>
    let c := c.count b
    if c.run = 30 then
      let x := stuff { c with last := !b, run := 0 } r
      (b :: (!b) :: x.1, x.2)
    else
      let x := stuff c r
      (b :: x.1, x.2)

/-- Take the stuffed bits out of received line bits; counts those that equal their predecessor. -/
def unstuff (c : Coder) : List Bool → List Bool × Nat × Coder
  | [] => ([], 0, c)
  | b :: r =>
    if c.run = 30 then
      let x := unstuff { c with last := b, run := 0 } r
      (x.1, x.2.1 + b2n (b == c.last), x.2.2)
    else
      let x := unstuff (c.count b) r
      (b :: x.1, x.2.1, x.2.2)

/-- The line bits of a block (R249): header 1, 0 for a control block and 0, 1 for a data block, then the payload. -/
def encodeBlock (c : Coder) (control : Bool) (payload : Nat) : List Bool × Coder :=
  let p := scramble c.scr (bitList 256 payload)
  let x := stuff { c with scr := p.2 } (control :: (!control) :: p.1)
  (x.1, { x.2 with scr := p.2 })

/-- Where the first payload bit of a data block stands on the line: after its header as stuffed. -/
def payloadPlace (c : Coder) : Nat := (stuff c [false, true]).1.length

/-- Line bits with the first n inverted (R275). -/
def invert (n : Nat) : List Bool → List Bool
  | [] => []
  | b :: r => if n = 0 then b :: r else (!b) :: invert (n - 1) r

/-- Line bits with the one at place n inverted (R275). -/
def invertAt (n : Nat) : List Bool → List Bool
  | [] => []
  | b :: r => if n = 0 then (!b) :: r else b :: invertAt (n - 1) r

/-! ### Parcels go back to their streams (R264) -/

/-- A parcel takes its place in a stream's egress queue by SSEQ, to be sent again. -/
def putBack (p : Parcel) : List Parcel → List Parcel
  | [] => [p]
  | x :: r => if before32 p.sseq x.sseq then p :: x :: r else x :: putBack p r

/-- The unacknowledged parcels of a lane return to their streams, and what it was sending ends. -/
def requeue (l : Nat) (s : State) : State :=
  let x := s.lane l
  let s := s.setLane l { x with unacked := [], resend := [], sending := [], replays := 0,
                                injCrc := x.injCrc || x.injNext, injNext := false }
  forAll (x.unacked.map Prod.snd) (fun p s =>
    let st := s.stream p.stream
    s.setStream p.stream { st with egress := putBack { p with retx := true } st.egress }) s

/-- TRK_STATUS shows a port up or down; a port that goes down ends its session (16_security_ledger.md R374). -/
def portFollow (p : Nat) (s : State) : State :=
  if 2 ≤ p then s
  else
    let f := if p = 0 then R.TRK_STATUS.PORT0_UP else R.TRK_STATUS.PORT1_UP
    let was := s.flag f
    let s := s.putb f (s.linkUp p)
    if was && !s.flag f then
      { s with sec := { s.sec with sessions := s.sec.sessions.put {} (p + 1) { s.sec.sessions.get {} (p + 1) with role := none } } }
    else s

/-! ### Bring-up and failure (R257, R264) -/

/-- Training, or PRBS, starts: numbering, coding and lock begin afresh. -/
def laneStart (l : Nat) (s : State) : State :=
  let s := requeue l s
  let x := s.lane l
  let s := s.setLane l { since := s.now, busyAt := s.now, injBits := x.injBits, injCrc := x.injCrc || x.injNext, prbsBits := x.prbsBits }
  let s := ((s.clrFlag (R.LANE_STATUS.BLOCK_LOCK l)).clrFlag (R.LANE_STATUS.PRBS_LOCK l)).put (R.LANE_STATUS.TX_PWR l) 0
  let s := s.put (R.LANE_STATUS.RX_PWR l) 0
  portFollow (s.lanePort l) (s.put (R.LANE_STATUS.LSTATE l) (if s.get (R.LANE_CTL.LANE_MODE l) = 1 then 5 else 1))

/-- LANE_EN written (R247, R257). -/
def laneEnable (l : Nat) (on : Bool) (s : State) : State :=
  let was := s.flag (R.LANE_CTL.LANE_EN l)
  let s := s.putb (R.LANE_CTL.LANE_EN l) on
  if on = was then s
  else if on then laneStart l s
  else
    let s := requeue l s
    let s := (s.put (R.LANE_STATUS.LSTATE l) 0).clrFlag (R.LANE_STATUS.BLOCK_LOCK l)
    let s := (s.clrFlag (R.LANE_STATUS.PRBS_LOCK l)).put (R.LANE_STATUS.TX_PWR l) 0
    portFollow (s.lanePort l) (s.put (R.LANE_STATUS.RX_PWR l) 0)

/-- A lane fails (R264): its parcels go to other lanes, an error is entered, bring-up starts again after 1 ms. -/
def laneFail (l : Nat) (s : State) : State :=
  let s := requeue l (s.setFlag (R.LANE_STATUS.LANE_FAILED l))
  let s := (s.put (R.LANE_STATUS.LSTATE l) 4).clrFlag (R.LANE_STATUS.BLOCK_LOCK l)
  let s := s.modLane l (fun x => { x with failedAt := some s.now })
  enterErr 8 (laneIndex l) (R.LANE_STATUS.LANE_FAILED l) (portFollow (s.lanePort l) s)

/-- 1 ms after its failure a lane starts bring-up again. -/
def laneRestart (l : Nat) (s : State) : State :=
  match (s.lane l).failedAt with
  | some t => if s.get (R.LANE_STATUS.LSTATE l) = 4 ∧ t + fineMs 1 ≤ s.now then laneStart l s else s
  | none => s

/-! ### Block lock (R252) -/

/-- The block lock after a header: gained after 64 valid in a row, lost when 16 of the last 64 were not. A lane that loses
it fails where it is up, and otherwise starts bring-up again. -/
def lockStep (l : Nat) (ok : Bool) (s : State) : State :=
  let h := (ok :: (s.lane l).hdrs).take 64
  let s := s.modLane l (fun x => { x with hdrs := h })
  let st := s.get (R.LANE_STATUS.LSTATE l)
  if s.flag (R.LANE_STATUS.BLOCK_LOCK l) then
    if 16 ≤ (h.filter (fun b => !b)).length then if st = 3 then laneFail l s else laneStart l s
    else s
  else if h.length = 64 && h.all id then
    let s := s.setFlag (R.LANE_STATUS.BLOCK_LOCK l)
    let s := s.modLane l (fun x => { x with signalAt := none })
    if st = 1 then s.put (R.LANE_STATUS.LSTATE l) 2 else s
  else s

/-- A block in order for the parcel that arrives on a lane (R254): a PARCEL block begins one and ends one unfinished, a data
block adds to it, and the last of its ⌈LEN ÷ 32⌉ data blocks ends it. -/
def Lane.assemble (x : Lane) (control : Bool) (payload : Nat) : Lane :=
  let whole := fun (p : Nat × List Nat) => decide (ceilDiv (bits p.1 16 14) 32 ≤ p.2.length)
  let put := fun (x : Lane) (p : Nat × List Nat) =>
    if whole p then { x with asm := none, rxParcels := x.rxParcels ++ [p] } else { x with asm := some p }
  if control then
    if payload % 256 = 0x50 then put { x with rxParcels := x.rxParcels ++ x.asm.toList } (payload, []) else x
  else match x.asm with
    | some p => put x (p.1, p.2 ++ [payload])
    | none => x

/-- A whole block of 258 delivered bits: its header is checked, its payload descrambled; on a lane that is up it may be part
of a parcel. A receiver without lock that meets an invalid header moves on by one bit. -/
def takeBlock (l : Nat) (s : State) : State :=
  let x := s.lane l
  match x.rxBits with
  | a :: b :: r =>
    let ok := a ^^ b
    let d := descramble x.rx.scr (r.take 256)
    let slip := !ok && !s.flag (R.LANE_STATUS.BLOCK_LOCK l)
    let y : Lane := { x with rxBits := r.drop 256, rx := { x.rx with scr := d.2 } }
    let z := fun (v : Nat) => (if s.laneUp l then y.assemble a v else y)
    let s := s.setLane l (if slip then { x with rxBits := b :: r }
      else if ok then { z (bitsNat d.1) with rxBlock := some (a, bitsNat d.1) } else y)
    lockStep l ok (if ok then s else s.bumpSat (R.HDR_ERR_COUNT.HDR_ERRS l))
  | _ => s

/-- Blocks are taken while 258 bits stand. -/
def takeBlocks (fuel l : Nat) (s : State) : State :=
  match fuel with
  | 0 => s
  | n + 1 => if 258 ≤ (s.lane l).rxBits.length then takeBlocks n l (takeBlock l s) else s

/-- The lane's receiver takes blocks: it is in mission or loopback mode, enabled, and its receiver is awake. -/
def State.rxAwake (s : State) (l : Nat) : Bool :=
  let st := s.get (R.LANE_STATUS.LSTATE l)
  decide (1 ≤ st ∧ st ≤ 3) && decide (s.get (R.LANE_STATUS.RX_PWR l) = 0)

/-- Line bits arrive. -/
def lineReceive (l : Nat) (bits : List Bool) (s : State) : State :=
  if !s.rxAwake l then s
  else
    let x := s.lane l
    let u := unstuff x.rx bits
    let s := s.setLane l { x with rx := { u.2.2 with scr := x.rx.scr }, rxBits := x.rxBits ++ u.1 }
    let s := if u.2.1 = 0 then s
      else (s.addSat (R.STUFF_ERR_COUNT.STUFF_ERRS l) u.2.1).setFlag (R.LANE_STATUS.STUFF_ERR l)
    takeBlocks (s.lane l).rxBits.length l s

/-! ### PRBS (R274) -/

/-- Degree and second tap of the sequences. -/
def prbsPoly (sel : Nat) : Nat × Nat := if sel = 0 then (7, 6) else if sel = 1 then (15, 14) else (31, 28)

/-- The next bit of a sequence from its last bits, the latest lowest. -/
def prbsNext (sel : Nat) (r : BitVec 31) : Bool :=
  r.getLsbD ((prbsPoly sel).1 - 1) ^^ r.getLsbD ((prbsPoly sel).2 - 1)
def prbsShift (r : BitVec 31) (b : Bool) : BitVec 31 := (r <<< 1) ||| BitVec.ofNat 31 (b2n b)

/-- n bits of a sequence. -/
def prbsRun (sel n : Nat) (r : BitVec 31) : List Bool × BitVec 31 :=
  match n with
  | 0 => ([], r)
  | n + 1 =>
    let b := prbsNext sel r
    let x := prbsRun sel n (prbsShift r b)
    (b :: x.1, x.2)

/-- A received PRBS bit: it seeds the checker, or is checked against the next bit. -/
def prbsCheck (l : Nat) (b : Bool) (s : State) : State :=
  if s.get (R.LANE_STATUS.LSTATE l) ≠ 5 then s
  else
    let x := s.lane l
    let sel := s.get (R.LANE_CTL.PRBS_SEL l)
    if x.prbsSeed < (prbsPoly sel).1 then s.setLane l { x with prbs := prbsShift x.prbs b, prbsSeed := x.prbsSeed + 1 }
    else
      let want := prbsNext sel x.prbs
      let err := b != want
      let seen := x.prbsSeen + 1
      let x := { x with prbs := prbsShift x.prbs want, prbsSeen := seen, prbsGood := if err then 0 else x.prbsGood + 1 }
      if s.flag (R.LANE_STATUS.PRBS_LOCK l) then
        let errs := ((if err then [seen] else []) ++ x.prbsErrs).filter (fun e => decide (seen < e + 1024))
        let x := { x with prbsErrs := errs, prbsBits := (x.prbsBits + 1) % 2 ^ 64 }
        let s := (s.setLane l x).put (R.PRBS_BITS_LO.BITS_LO l) x.prbsBits
        let s := if err then s.bumpSat (R.PRBS_ERR_COUNT.PRBS_ERRS l) else s
        if 64 ≤ errs.length then
          (s.setLane l { x with prbsSeed := 0, prbsGood := 0, prbsErrs := [], prbsSeen := 0 }).clrFlag (R.LANE_STATUS.PRBS_LOCK l)
        else s
      else if err then s.setLane l { x with prbsSeed := 0, prbsSeen := 0 }
      else
        let s := s.setLane l x
        if 64 ≤ x.prbsGood then s.setFlag (R.LANE_STATUS.PRBS_LOCK l) else s

/-- PRBS_BITS_LO is read: the upper half of the count is captured. -/
def prbsCapture (l : Nat) (s : State) : State := s.put (R.PRBS_BITS_HI.BITS_HI l) ((s.lane l).prbsBits / 2 ^ 32)

/-- CHK_CLEAR: both PRBS counts are zeroed. -/
def chkClear (l : Nat) (s : State) : State :=
  ((s.put (R.PRBS_ERR_COUNT.PRBS_ERRS l) 0).put (R.PRBS_BITS_LO.BITS_LO l) 0).modLane l (fun x => { x with prbsBits := 0 })

/-- INJ_BIT and INJ_BURST: the next n bits of the line are inverted; an injection under way is merged with it. -/
def injectBits (l n : Nat) (s : State) : State := s.modLane l (fun x => { x with injBits := max x.injBits n })
def State.burstLen (s : State) (l : Nat) : Nat := max 1 (s.get (R.LANE_CTL.BURST_LEN l))

/-- INJ_CRC: bit 0 of the next parcel's payload is inverted on the line, in mission mode; merged with one not yet done. -/
def injectCrc (l : Nat) (s : State) : State :=
  if s.get (R.LANE_CTL.LANE_MODE l) = 0 then s.modLane l (fun x => { x with injCrc := x.injCrc || !x.injNext }) else s

/-! ### Meanings -/

/-- BLOCK_RECEIVE (R249 to R252). -/
def execBlockReceive (t : Nat) (lane : Fin 16) (bits : List Bool) (s : State) : Host.Outcome State Fault Refusal :=
  act t (lineReceive lane bits) s

/-- LANE_RESTART (R264). -/
def execLaneRestart (t : Nat) (lane : Fin 16) (s : State) : Host.Outcome State Fault Refusal := act t (laneRestart lane) s

/-- PRBS_BIT_CHECK (R274). -/
def execPrbsBitCheck (t : Nat) (lane : Fin 16) (bit : Bool) (s : State) : Host.Outcome State Fault Refusal :=
  act t (prbsCheck lane bit) s

/-- PRBS_BITS_CAPTURE (R274). -/
def execPrbsBitsCapture (t : Nat) (_req : Nat) (lane : Fin 16) (s : State) : Host.Outcome State Fault Refusal :=
  act t (prbsCapture lane) s

end Sys2Proof.Machine
end

