-- ==== Sys2Proof/Machine/Trunk.lean ====
section
/-! DEFINITION. The trunk (10_trunk.md): the capability exchange, acknowledgement and credit, the transmit slot, parcels
received, the closing, draining and loss of parcels, and sleep. -/

namespace Sys2Proof.Machine

/-! ### Capability exchange (R256 to R258) -/

/-- The CAP block of a lane. -/
def State.capBlock (s : State) (l : Nat) : Nat :=
  let p := s.lanePort l
  let lanes := if l < 12
    then ((List.range 12).filter (fun k => s.flag (R.LANE_CTL.LANE_EN k) && decide (s.lanePort k = p))).length
    else ([12, 13, 14, 15].filter (fun k => s.flag (R.LANE_CTL.LANE_EN k))).length
  0x30 + 2 ^ 8 * 1 + 2 ^ 16 * (2 * b2n (s.lane l).gotCap + 4 + 8) + 2 ^ 24 * (laneIndex l + 2 ^ 4 * (p % 2)) + 2 ^ 32 * lanes
    + 2 ^ 64 * Config.devSerial.toNat + 2 ^ 128 * 16

/-- In capability state a CAP falls due every 1 µs. -/
def capSend (l : Nat) (s : State) : State :=
  if s.get (R.LANE_STATUS.LSTATE l) = 2 then s.modLane l (fun x => { x with capDue := true }) else s

/-- A CAP is valid on this kind of lane (R257). -/
def capValid (l cap : Nat) : Bool :=
  let win := bits cap 48 16
  bits cap 8 8 = 1 &&
    (if l < 12 then bit cap 16 && decide (1 ≤ win ∧ win ≤ 64) else !bit cap 16 && decide (win = 0))

/-- A CREDIT block falls due on a link (R267). -/
def grantDue (p : Nat) (s : State) : State := s.setPort p { s.port p with creditDue := true }

/-- A stream's credit begins when its port comes up (R258). -/
def startCredit (k n : Nat) (s : State) : State :=
  let st := s.stream k
  s.setStream k { st with credit := (st.oldest + n) % 2 ^ 32 }

/-- The streams that go to a port: its CTRL stream and those assigned to it. -/
def State.portStreams (s : State) (p : Nat) : List Nat :=
  if p = 2 then [17, 18, 19, 20, 21] else [0, 7, 1, 2, 3, 4, 5, 6].filter (fun k => s.streamPort k = p)

/-- The first lane of a link comes up: the CAP's figures hold for the link, and credit is granted both ways. -/
def linkStart (p cap : Nat) (s : State) : State :=
  let x : Port := { s.port p with id := bits cap 64 64, win := if p = 2 then 64 else bits cap 48 16, credit := bits cap 128 16 }
  let s := s.setPort p x
  let s := if p = 2 then s
    else
      let s := (s.put (R.PORT_PARTNER_LO.ID_LO p) x.id).put (R.PORT_PARTNER_HI.ID_HI p) (x.id / 2 ^ 32)
      (s.put (R.PORT_REORDER.REORDER_WIN p) x.win).put (R.PORT_REORDER.INIT_CREDIT p) x.credit
  forAll (s.portStreams p) (fun k s => startCredit k (if p = 2 then 64 else x.credit) s) s

/-- A CAP arrives. In capability state it may bring the lane up; one that is not valid sets CAP_MISMATCH in that state and
on a lane that is up (R257). -/
def capReceive (l cap : Nat) (s : State) : State :=
  if s.get (R.LANE_STATUS.LSTATE l) ≠ 2 then (if s.laneUp l && !capValid l cap then s.setFlag R.TRK_STATUS.CAP_MISMATCH else s)
  else
    let p := s.lanePort l
    let x := s.port p
    let other := s.linkUp p && (decide (bits cap 64 64 ≠ x.id)
      || (decide (p < 2) && decide (bits cap 48 16 ≠ x.win ∨ bits cap 128 16 ≠ x.credit)))
    if !capValid l cap || other then s.setFlag R.TRK_STATUS.CAP_MISMATCH
    else
      let s := (s.put (R.LANE_PARTNER.P_LANE l) (bits cap 24 4)).put (R.LANE_PARTNER.P_MAX_BLK l) (bits cap 40 8)
      let s := if l < 12 then s.put (R.LANE_PARTNER.P_PORT l) (bits cap 28 4) else s
      let s := s.modLane l (fun y => { y with gotCap := true, partnerDeep := bit cap 19 })
      if bit cap 17 then
        let first := !s.linkUp p
        let s := s.modLane l (fun y => { y with lseq := 0, rxLseq := 0, gotParcel := false, ackMoved := s.now, busyAt := s.now })
        let s := s.put (R.LANE_STATUS.LSTATE l) 3
        portFollow p (grantDue p (if first then linkStart p cap s else s))
      else s

/-- No block lock within 1 ms, or not up within 10 ms: training starts again. -/
def capTimeout (l : Nat) (s : State) : State :=
  let since := (s.lane l).since
  let st := s.get (R.LANE_STATUS.LSTATE l)
  let late := if st = 1 then decide (since + fineMs 1 ≤ s.now) else if st = 2 then decide (since + fineMs 10 ≤ s.now) else false
  if late then laneStart l (s.bumpSat (R.CAP_TIMEOUT_COUNT.CAP_TIMEOUTS l)) else s

/-! ### Acknowledgement (R262, R263) -/

/-- The stream moves its oldest unacknowledged SSEQ past those acknowledged. -/
def streamAdvance (fuel : Nat) (st : Stream) : Stream :=
  match fuel with
  | 0 => st
  | n + 1 =>
    if st.acked.contains st.oldest then
      streamAdvance n { st with oldest := (st.oldest + 1) % 2 ^ 32, acked := st.acked.filter (· ≠ st.oldest) }
    else st

/-- A parcel has been delivered. -/
def retire (p : Parcel) (s : State) : State :=
  let st := s.stream p.stream
  let st := { st with acked := p.sseq :: st.acked }
  s.setStream p.stream (streamAdvance st.acked.length st)

/-- Send every parcel from LSEQ n onward again. -/
def replayFrom (l n : Nat) (s : State) : State :=
  let x := s.lane l
  let s := s.setLane l { x with resend := x.unacked.dropWhile (fun u => decide (u.1 ≠ n)), replays := x.replays + 1 }
  s.bumpSat (R.LANE_RETRY_COUNT.RETRIES l)

/-- One ACK or NAK entry for a lane; outside the unacknowledged span it is ignored. A replay asked for after RETRY_MAX in a
row without progress fails the lane (R264). -/
def ackEntry (l : Nat) (e : AckEntry) (s : State) : State :=
  let s := s.modLane l (fun y => { y with holdUntil := none })
  let x := s.lane l
  if !(x.unacked.any (fun u => decide (u.1 = e.lseq))) then s
  else if e.nak then
    if max 1 (s.get R.TRK_CFG.RETRY_MAX) ≤ x.replays then laneFail l s else replayFrom l e.lseq s
  else
    let keep := (x.unacked.dropWhile (fun u => decide (u.1 ≠ e.lseq))).drop 1
    let done := x.unacked.take (x.unacked.length - keep.length)
    let s := s.setLane l { x with unacked := keep, ackMoved := s.now, replays := 0,
                                  resend := x.resend.filter (fun u => keep.any (fun k => decide (k.1 = u.1))) }
    forAll done (fun u s => retire u.2 s) s

/-- An ACK block arrives on a lane: its entries name lanes of the same link. -/
def ackReceive (l : Nat) (entries : List AckEntry) (s : State) : State :=
  if !s.laneUp l then s
  else forAll entries (fun e s =>
    let k := if l < 12 then e.lane else 12 + e.lane
    if (if l < 12 then decide (k < 12) else decide (k < 16)) && decide (s.lanePort k = s.lanePort l) then ackEntry k e s else s) s

/-- No ACK has moved for ACK_TIMEOUT (R263, R264). -/
def ackTimeout (l : Nat) (s : State) : State :=
  let x := s.lane l
  match x.unacked with
  | [] => s
  | u :: _ =>
    if !s.laneUp l || decide (s.now < x.ackMoved + fineUs (max 1 (s.get R.TRK_CFG.ACK_TIMEOUT))) then s
    else if max 1 (s.get R.TRK_CFG.RETRY_MAX) ≤ x.replays then laneFail l s
    else replayFrom l u.1 (s.setLane l { x with ackMoved := s.now })

/-- ACK entries fall due at least every 1 µs while a parcel received is unacknowledged. -/
def ackSend (l : Nat) (s : State) : State :=
  if s.laneUp l && (s.lane l).gotParcel then s.modLane l (fun x => { x with ackDue := true }) else s

/-! ### Credit (R267) -/

/-- A CREDIT block arrives: each entry moves its stream's limit, never backwards. -/
def creditReceive (l : Nat) (entries : List (Nat × Nat)) (s : State) : State :=
  if !s.laneUp l then s
  else
    let p := s.lanePort l
    forAll entries (fun e s =>
      let k := if p = 2 then 16 + e.1 else if e.1 = 0 ∧ p = 1 then 7 else e.1
      if (s.portStreams p).contains k && !before32 e.2 (s.stream k).credit then
        s.setStream k { s.stream k with credit := e.2 % 2 ^ 32 }
      else s) s

/-- The head parcel of a stream may go on a link (R267). -/
def State.sendable (s : State) (p k : Nat) : Bool :=
  let st := s.stream k
  match st.egress with
  | [] => false
  | q :: _ => before32 q.sseq st.credit && before32 q.sseq (st.oldest + (s.port p).win)
      && decide (recsLen q.recs ≤ s.linkMax p)

/-! ### The transmit slot (R254, R259, R262, R265) -/

/-- The streams of a link in the order in which a lane looks for its next parcel: by class on a port, POINTS_A and POINTS_B
in turn, and of a standby only CTRL and MILESTONE (11_twin.md R289); by number on the causeway, whose streams have no class
(DESIGN CHOICE, log 115). -/
def State.streamOrder (s : State) (p : Nat) : List Nat :=
  if p = 2 then [17, 18, 19, 20, 21]
  else
    let pts := if (s.port p).lastPoints = 2 then [3, 2] else [2, 3]
    (if p = 0 then [0] else [7]) ++ [1] ++ (if s.standby then [] else pts ++ [4, 5, 6])

/-- The stream a lane takes its next parcel from: the first in that order with one to send. -/
def State.nextStream (s : State) (p : Nat) : Option Nat :=
  (s.streamOrder p).find? (fun k => decide (s.streamPort k = p) && s.sendable p k)

/-- The blocks of a payload. -/
def dataBlocks (n v : Nat) : List Nat :=
  match n with
  | 0 => []
  | n + 1 => v % 2 ^ 256 :: dataBlocks n (v / 2 ^ 256)

/-- A lane starts a parcel: the header block of this slot, and its data blocks to come. An INJ_CRC that waits falls on the
first of them (R275). -/
def sendParcel (l lseq : Nat) (p : Parcel) (retx : Bool) (s : State) : State × Nat :=
  let x := s.lane l
  let v := recsVal p.recs
  let s := s.setLane l { x with sending := dataBlocks (ceilDiv (recsLen p.recs) 32) v, injCrc := false,
                                injNext := x.injNext || x.injCrc }
  (s.bump (R.LANE_TX_PARCELS.TX_PARCELS l), parcelHeader p lseq p.sseq retx)

/-- The next parcel of a lane: one to be replayed, or the next of its link, for which an alignment copy goes on; at most 64
stay unacknowledged. -/
def takeParcel (l : Nat) (s : State) : Option (State × Nat) :=
  let s := if 12 ≤ l then copyNext s else s
  let x := s.lane l
  match x.resend with
  | u :: r => some (sendParcel l u.1 u.2 true (s.setLane l { x with resend := r }))
  | [] =>
    if 64 ≤ x.unacked.length then none
    else match s.nextStream (s.lanePort l) with
      | none => none
      | some k =>
        let st := s.stream k
        match st.egress with
        | [] => none
        | p :: r =>
          let port := s.lanePort l
          let s := s.setStream k { st with egress := r }
          let s := if k = 2 ∨ k = 3 then s.setPort port { s.port port with lastPoints := k } else s
          let moved := if x.unacked.isEmpty then s.now else x.ackMoved
          let s := s.setLane l { x with unacked := x.unacked ++ [(x.lseq, p)], lseq := (x.lseq + 1) % 65536, ackMoved := moved }
          some (sendParcel l x.lseq p p.retx s)

/-- The lanes of the link for which an entry is due. -/
def State.ackLanes (s : State) (p : Nat) : List Nat :=
  (s.linkLanes p).filter (fun k => (s.lane k).ackDue || (s.lane k).nakDue)

/-- An ACK block for the lanes of a link: the highest LSEQ received in order, or the one expected. -/
def ackBlock (p : Nat) (s : State) : State × Nat :=
  let ls := (s.ackLanes p).take 10
  let entry := fun k => let x := s.lane k
    laneIndex k + 2 ^ 7 * b2n x.nakDue + 2 ^ 8 * (if x.nakDue then x.rxLseq else (x.rxLseq + 65535) % 65536)
  let words := ls.map entry ++ List.replicate (10 - ls.length) 0xF
  (forAll ls (fun k s => s.modLane k (fun x => { x with ackDue := false, nakDue := false })) s,
   0x10 + 2 ^ 8 * words.foldr (fun w m => w + 2 ^ 24 * m) 0)

/-- The LIMIT granted on CTRL of a port: 16 parcels from the oldest with a request that has not been executed. -/
def Port.ctrlLimit (x : Port) : Nat :=
  ((match x.reqs with | q :: _ => q.1 | [] => x.rx.get 0 0) + 16) % 2 ^ 32

/-- A CREDIT block of a link: CTRL on a port, with 16 parcels; the causeway's streams with 64 each. -/
def State.creditBlock (s : State) (p : Nat) : Nat :=
  let x := s.port p
  let entries := if p < 2 then [0 + 2 ^ 8 * x.ctrlLimit]
    else [1, 2, 3, 4, 5].map (fun k => k + 2 ^ 8 * ((x.rx.get 0 k + 64) % 2 ^ 32))
  let words := entries ++ List.replicate (6 - entries.length) 0xFF
  0x20 + 2 ^ 8 * words.foldr (fun w m => w + 2 ^ 40 * m) 0

/-- The control block a lane has due, if any: a beat or cross-trigger on the causeway, ACK, CREDIT. -/
def dueBlock (l : Nat) (s : State) : Option (State × Nat) :=
  let p := s.lanePort l
  match s.twin.ctl.find? (fun b => decide (b.1 = l)) with
  | some b => some ({ s with twin := { s.twin with ctl := s.twin.ctl.erase b } }, b.2)
  | none =>
    if !(s.ackLanes p).isEmpty then some (ackBlock p s)
    else if (s.port p).creditDue then some (s.setPort p { s.port p with creditDue := false }, s.creditBlock p)
    else none

/-- What an awake lane that is up sends in this slot: whether control, the block, and whether it is anything but IDLE. -/
def upSlot (l : Nat) (s : State) : State × Bool × Nat × Bool :=
  let x := s.lane l
  let idle := (s.modLane l (fun x => { x with runData := 0 }), true, 0, false)
  let control := match dueBlock l s with
    | some d => (d.1.modLane l (fun x => { x with runData := 0 }), true, d.2, true)
    | none => idle
  match x.sending with
  | b :: r => if x.runData < 31 then (s.setLane l { x with sending := r, runData := x.runData + 1 }, false, b, true) else control
  | [] =>
    if x.holdUntil.isSome then idle
    else match dueBlock l s with
      | some _ => control
      | none => match takeParcel l s with
        | some d => (d.1.modLane l (fun x => { x with runData := 0 }), true, d.2, true)
        | none => idle

/-- The block a lane sends in this slot; none in electrical idle. -/
def slotBlock (l : Nat) (s : State) : Option (State × Bool × Nat × Bool) :=
  let st := s.get (R.LANE_STATUS.LSTATE l)
  if st = 1 then some (s, true, 0, false)
  else if st = 2 then
    if (s.lane l).capDue then some (s.modLane l (fun x => { x with capDue := false }), true, s.capBlock l, true)
    else some (s, true, 0, false)
  else if st = 3 ∧ s.get (R.LANE_STATUS.TX_PWR l) = 0 then some (upSlot l s)
  else none

/-- Bits go out on the line, inverted where an injection is under way; a loopback returns them to the receiver. -/
def putLine (l : Nat) (bits : List Bool) (s : State) : State :=
  let x := s.lane l
  let out := invert x.injBits bits
  let s := s.setLane l { x with line := out, injBits := x.injBits - bits.length }
  if s.get (R.LANE_CTL.LANE_MODE l) = 2 then lineReceive l out s else s

/-- One transmit slot of a lane. -/
def transmitSlot (l : Nat) (s : State) : State :=
  if !s.flag (R.LANE_CTL.LANE_EN l) then s
  else if s.get (R.LANE_STATUS.LSTATE l) = 5 then
    let x := prbsRun (s.get (R.LANE_CTL.PRBS_SEL l)) 258 (s.lane l).prbsTx
    putLine l x.1 (s.modLane l (fun y => { y with prbsTx := x.2 }))
  else match slotBlock l s with
    | none => s.modLane l (fun x => { x with line := [] })
    | some (s, control, payload, busy) =>
      let y := s.lane l
      let c := encodeBlock y.tx control payload
      let flip := y.injNext && !control
      let line := if flip then invertAt (payloadPlace y.tx) c.1 else c.1
      putLine l line (s.setLane l { y with
        tx := c.2, busyAt := if busy then s.now else y.busyAt, injNext := y.injNext && control })

/-! ### Parcels received (R254, R260, R262, R271) -/

/-- The 16-byte entries of a CTRL payload. -/
def ctrlEntries (n v : Nat) : List Nat :=
  match n with
  | 0 => []
  | n + 1 => v % 2 ^ 128 :: ctrlEntries n (v / 2 ^ 128)

/-- A parcel refused: one NAK names the LSEQ expected until it arrives. -/
def refuseParcel (l : Nat) (s : State) : State :=
  s.modLane l (fun x => if x.naked then x else { x with naked := true, nakDue := true })

/-- A parcel whose turn in its stream has come: its requests join the queue. -/
def Port.accept (x : Port) (k sseq : Nat) (reqs : List Nat) : Port :=
  { x with rx := SMap.put x.rx 0 k ((sseq + 1) % 2 ^ 32), reqs := x.reqs ++ reqs.map (fun r => (sseq, r)) }

/-- Parcels that came before their turn are taken as it comes. -/
def Port.drain (fuel : Nat) (x : Port) (k : Nat) : Port :=
  match fuel with
  | 0 => x
  | n + 1 =>
    match x.early.find? (fun e => decide (e.1 = k ∧ e.2.1 = x.rx.get 0 k)) with
    | some e => Port.drain n (({ x with early := x.early.erase e } : Port).accept k e.2.1 e.2.2) k
    | none => x

/-- A parcel accepted on a lane takes its place in its stream (R266, R271): one whose SSEQ has been delivered is discarded,
one that is early waits, and the stream goes on in the order of SSEQ. -/
def Port.order (x : Port) (k sseq : Nat) (reqs : List Nat) : Port :=
  let next := x.rx.get 0 k
  if sseq = next then Port.drain x.early.length (x.accept k sseq reqs) k
  else if before32 sseq next || x.early.any (fun e => decide (e.1 = k ∧ e.2.1 = sseq)) then x
  else { x with early := x.early ++ [(k, sseq, reqs)] }

/-- The bytes of a parcel's data blocks as one number. -/
def blocksVal (bs : List Nat) : Nat := bs.foldr (fun b v => b % 2 ^ 256 + 2 ^ 256 * v) 0

/-- The parcel passes: all its data blocks came, and its CRC is right (R254, R260). -/
def parcelGood (header : Nat) (bs : List Nat) : Bool :=
  let len := bits header 16 14
  decide (bs.length = ceilDiv len 32 ∧ crc32c (bytesOf 28 header ++ bytesOf len (blocksVal bs)) = bits header 224 32)

/-- A parcel that a lane has assembled is judged, and accepted where it passes and is the one expected (R262). -/
def takeParcelIn (l header : Nat) (bs : List Nat) (s : State) : State :=
  if !parcelGood header bs then refuseParcel l (s.bumpSat (R.CRC_ERR_COUNT.CRC_ERRS l))
  else if bits header 32 16 ≠ (s.lane l).rxLseq then refuseParcel l s
  else
    let s := s.modLane l (fun x => { x with rxLseq := (x.rxLseq + 1) % 65536, gotParcel := true, naked := false,
                                            nakDue := false, ackDue := true })
    let s := s.bump (R.LANE_RX_PARCELS.RX_PARCELS l)
    let p := s.lanePort l
    let k := bits header 8 4
    if p < 2 ∧ k ≠ 0 then s
    else
      let reqs := if p < 2 then ctrlEntries (bits header 16 14 / 16) (blocksVal bs) else []
      grantDue p (s.setPort p ((s.port p).order k (bits header 64 32) reqs))

/-- The parcel of this header and these blocks is received, where it is the oldest that has arrived on the lane. -/
def parcelReceive (l header : Nat) (blocks : List Nat) (s : State) : State :=
  if !s.laneUp l then s
  else match (s.lane l).rxParcels with
    | [] => s
    | q :: r => if q = (header, blocks) then takeParcelIn l header blocks (s.modLane l (fun x => { x with rxParcels := r })) else s

/-- A control block of a reserved type is ignored and counted (R253). -/
def unknownBlock (l ctype : Nat) (s : State) : State :=
  let known := [0x00, 0x10, 0x20, 0x30, 0x38, 0x50] ++ (if l < 12 then [] else [0x60, 0x61])
  if known.contains ctype then s else s.bumpSat R.CTYPE_UNKNOWN_COUNT.UNKNOWN

/-! ### Streams (R261, R268, R269) -/

/-- A parcel open for PARCEL_TIMEOUT is closed. -/
def parcelTimeout (k : Nat) (s : State) : State :=
  match (s.stream k).open_ with
  | some o => if o.since + fineUs (max 1 (s.get R.TRK_CFG.PARCEL_TIMEOUT)) ≤ s.now then closeParcel k s else s
  | none => s

/-- The oldest lay-by parcel moves to the egress buffer where its quota has room, and with it one behind it that lies in the
room outside every quota. -/
def laybyDrain (k : Nat) (s : State) : State :=
  let st := s.stream k
  match st.layby with
  | [] => s
  | p :: r =>
    if s.egqBytes k + p.bytes ≤ s.egqQuota k ∨ p.outside then
      let back := ((st.layby.filter (fun q => !q.outside)).map storedLen).sum
      let s := if p.outside then s else
        dramRing 0x19 (s.laybyStart k) (s.laybyQuota k) (st.laybyWr - back) (storedLen p) s
      s.setStream k { st with layby := r.dropWhile (·.outside), egress := st.egress ++ p :: r.takeWhile (·.outside) }
    else s

/-- A loss episode that has lasted GAP_SPLIT ends (R269). The GAP milestone of MILESTONE itself is the first record in the
room outside every quota (R270): the parcel being filled closes before it (log 116). -/
def gapSplit (k : Nat) (s : State) : State :=
  let st := s.stream k
  match st.loss with
  | none => s
  | some e =>
    if !s.lossExpired e then s
    else
      let s := s.setStream k { st with loss := none }
      if k = 1 then openGap e (closeCore 1 s).1 else emitGap k e s

/-! ### Sleep (R272, R273) -/

/-- Bytes ready to send on a link: parcels whose streams have credit for them. -/
def State.readyBytes (s : State) (p : Nat) : Nat :=
  ((s.portStreams p).map (fun k => let st := s.stream k
    parcelsLen (st.egress.filter (fun q => before32 q.sseq st.credit && before32 q.sseq (st.oldest + (s.port p).win))))).sum

/-- A transmitter with nothing to carry enters sleep: one SLEEP block, then electrical idle. -/
def sleepEnter (l : Nat) (s : State) : State :=
  let x := s.lane l
  let p := s.lanePort l
  let others := ((s.linkLanes p).filter (fun k => decide (k ≠ l) && decide (s.get (R.LANE_STATUS.TX_PWR k) = 0))).length
  let idle := decide (x.busyAt + fineUs (s.get R.TRK_SLEEP.TX_SLEEP_IDLE) ≤ s.now) && x.sending.isEmpty
  if s.laneUp l && s.flag (R.LANE_CTL.TX_SLEEP_EN l) && decide (s.get (R.LANE_STATUS.TX_PWR l) = 0) && idle
      && x.unacked.isEmpty && decide (max 1 (s.get R.TRK_SLEEP.AWAKE_MIN) ≤ others) then
    let deep := s.flag (R.LANE_CTL.DEEP_EN l) && x.partnerDeep
    let c := encodeBlock x.tx true (0x38 + 2 ^ 8 * b2n deep)
    (putLine l c.1 (s.modLane l (fun x => { x with tx := c.2 }))).put (R.LANE_STATUS.TX_PWR l) (if deep then 2 else 1)
  else s

/-- A sleeping transmitter wakes when more than WAKE_BYTES are ready, and sends IDLE for up to 100 µs. -/
def txWake (l : Nat) (s : State) : State :=
  if s.laneUp l && decide (s.get (R.LANE_STATUS.TX_PWR l) ≠ 0)
      && decide (s.get R.TRK_WAKE.WAKE_BYTES < s.readyBytes (s.lanePort l)) then
    (s.put (R.LANE_STATUS.TX_PWR l) 0).modLane l (fun x => { x with holdUntil := some (s.now + fineUs 100), busyAt := s.now })
  else s

/-- 100 µs after the wake parcels resume without an ACK entry. -/
def wakeResume (l : Nat) (s : State) : State :=
  match (s.lane l).holdUntil with
  | some u => if u ≤ s.now then s.modLane l (fun x => { x with holdUntil := none }) else s
  | none => s

/-- A SLEEP block: the receiver sleeps as deep as the partner's transmitter, where its own DEEP_EN allows. -/
def sleepReceive (l : Nat) (deep : Bool) (s : State) : State :=
  if s.laneUp l then
    let s := s.put (R.LANE_STATUS.RX_PWR l) (if deep && s.flag (R.LANE_CTL.DEEP_EN l) then 2 else 1)
    (s.clrFlag (R.LANE_STATUS.BLOCK_LOCK l)).modLane l (fun x => { x with hdrs := [], rxBits := [], signalAt := none })
  else s

/-- A sleeping receiver sees signal and seeks block lock. -/
def signalDetect (l : Nat) (s : State) : State :=
  if s.laneUp l && decide (s.get (R.LANE_STATUS.RX_PWR l) ≠ 0) then
    (s.put (R.LANE_STATUS.RX_PWR l) 0).modLane l (fun x => { x with signalAt := some s.now })
  else s

/-- No block lock within 1 ms of signal: bring-up starts again. -/
def wakeLockTimeout (l : Nat) (s : State) : State :=
  match (s.lane l).signalAt with
  | some t => if s.laneUp l && !s.flag (R.LANE_STATUS.BLOCK_LOCK l) && decide (t + fineMs 1 ≤ s.now) then laneStart l s else s
  | none => s

/-! ### Meanings -/

/-- CAP_SEND (R257). -/
def execCapSend (t : Nat) (lane : Fin 16) (s : State) : Host.Outcome State Fault Refusal := act t (capSend lane) s

/-- CAP_RECEIVE (R256 to R258; 11_twin.md R283). -/
def execCapReceive (t : Nat) (lane : Fin 16) (cap : Nat) (s : State) : Host.Outcome State Fault Refusal := act t (capReceive lane cap) s

/-- CAP_TIMEOUT (R257). -/
def execCapTimeout (t : Nat) (lane : Fin 16) (s : State) : Host.Outcome State Fault Refusal := act t (capTimeout lane) s

/-- ACK_RECEIVE (R263). -/
def execAckReceive (t : Nat) (lane : Fin 16) (entries : List AckEntry) (s : State) : Host.Outcome State Fault Refusal :=
  act t (ackReceive lane entries) s

/-- CREDIT_RECEIVE (R267). -/
def execCreditReceive (t : Nat) (lane : Fin 16) (entries : List (Nat × Nat)) (s : State) : Host.Outcome State Fault Refusal :=
  act t (creditReceive lane entries) s

/-- SLEEP_RECEIVE (R272). -/
def execSleepReceive (t : Nat) (lane : Fin 16) (deep : Bool) (s : State) : Host.Outcome State Fault Refusal :=
  act t (sleepReceive lane deep) s

/-- CONTROL_BLOCK_UNKNOWN (R253; 11_twin.md R283). -/
def execControlBlockUnknown (t : Nat) (lane : Fin 16) (ctype : Nat) (s : State) : Host.Outcome State Fault Refusal :=
  act t (unknownBlock lane ctype) s

/-- PARCEL_RECEIVE (R254, R260, R262, R266). -/
def execParcelReceive (t : Nat) (lane : Fin 16) (header : Nat) (blocks : List Nat) (s : State) :
    Host.Outcome State Fault Refusal := act t (parcelReceive lane header blocks) s

/-- ACK_SEND (R262). -/
def execAckSend (t : Nat) (lane : Fin 16) (s : State) : Host.Outcome State Fault Refusal := act t (ackSend lane) s

/-- TRANSMIT_SLOT (R249 to R251, R254, R259, R260, R265, R267; 01_architecture.md R23). -/
def execTransmitSlot (t : Nat) (lane : Fin 16) (s : State) : Host.Outcome State Fault Refusal := act t (transmitSlot lane) s

/-- ACK_TIMEOUT (R263, R264). -/
def execAckTimeout (t : Nat) (lane : Fin 16) (s : State) : Host.Outcome State Fault Refusal := act t (ackTimeout lane) s

/-- PARCEL_TIMEOUT (R261, R268). -/
def execParcelTimeout (t : Nat) (stream : Fin 8) (s : State) : Host.Outcome State Fault Refusal := act t (parcelTimeout stream) s

/-- LAYBY_DRAIN (R268; 12_stream_memory.md R311). -/
def execLaybyDrain (t : Nat) (stream : Fin 8) (s : State) : Host.Outcome State Fault Refusal := act t (laybyDrain stream) s

/-- GAP_SPLIT_EXPIRY (R269). -/
def execGapSplitExpiry (t : Nat) (stream : Fin 8) (s : State) : Host.Outcome State Fault Refusal := act t (gapSplit stream) s

/-- TX_SLEEP_ENTER (R272). -/
def execTxSleepEnter (t : Nat) (lane : Fin 16) (s : State) : Host.Outcome State Fault Refusal := act t (sleepEnter lane) s

/-- TX_WAKE (R272, R273). -/
def execTxWake (t : Nat) (lane : Fin 16) (s : State) : Host.Outcome State Fault Refusal := act t (txWake lane) s

/-- WAKE_RESUME (R273). -/
def execWakeResume (t : Nat) (lane : Fin 16) (s : State) : Host.Outcome State Fault Refusal := act t (wakeResume lane) s

/-- RX_SIGNAL_DETECT (R273). -/
def execRxSignalDetect (t : Nat) (lane : Fin 16) (s : State) : Host.Outcome State Fault Refusal := act t (signalDetect lane) s

/-- RX_WAKE_LOCK_TIMEOUT (R273). -/
def execRxWakeLockTimeout (t : Nat) (lane : Fin 16) (s : State) : Host.Outcome State Fault Refusal :=
  act t (wakeLockTimeout lane) s

end Sys2Proof.Machine
end

