-- ==== Sys2Proof/Machine/Startup.lean ====
section
/-! DEFINITION. Resets, the stages of start-up, and the error queue's clocks (17_startup_faults.md), with the boot chain
(16_security_ledger.md R368 to R370). -/

namespace Sys2Proof.Machine

/-! ### What a reset keeps (R386) -/

/-- RST_CAUSE: 0 power-on, 1 pin, 2 recovery, 3 thermal restart. The bytes of memory that a reset of this cause keeps:
the ledger always, the SRAM of data, fronds, lichen and capture and the bytes of DRAM as the table states. -/
def keepsByte (cause a : Nat) : Bool :=
  let sram := decide ((dataBase ≤ a ∧ a < egressBase) ∨ (captureBase ≤ a ∧ a < sramEnd))
  decide (ledgerBase ≤ a ∧ a < ledgerBase + 0x200000) || ((cause = 1 || cause = 2) && (sram || decide (dramBase ≤ a)))

/-- A register keeps its word through the reset. -/
def keepReg (old : State) (a : Nat) (s : State) : State := s.setReg a (old.reg a)

/-- The registers a reset keeps: stored counts always, the retention registers unless power failed. -/
def keptRegs (cause : Nat) : List Nat :=
  [R.POWER_CYCLES.addr, R.LEDGER_COUNT.addr] ++
    (if cause = 0 then [] else [R.FRAME_COUNT.addr 0, R.FRAME_COUNT.addr 1, R.LAST_SHUT.addr, R.SHUT_COUNT.addr,
      R.NRST_STUCK_COUNT.addr, R.GUARD_TRIP_COUNT.addr])

/-- The levels at the part's inputs, which no reset changes. -/
def Chan.levels (c : Chan) : Chan := { low := c.low, high := c.high, lowSince := c.lowSince }
def Enc.levels (e : Enc) : Enc := { a := e.a, b := e.b }
def Gin.levels (g : Gin) : Gin := { a := g.a, b := g.b }

/-- The same change of every value of a table. -/
def mapValues {α : Type} [DecidableEq α] (d : α) (f : α → α) (m : SMap α) : SMap α :=
  m.foldl (fun r p => SMap.put r d p.1 (f p.2)) []

/-- SSEQ runs on (10_trunk.md R266); everything else of a stream is lost. -/
def Stream.kept (x : Stream) : Stream := { sseq := x.sseq, oldest := x.sseq }

/-- A link's count of its partner's parcels runs on with it (10_trunk.md R266). -/
def Port.kept (x : Port) : Port := { rx := x.rx }

/-- What the security block keeps: what is stored and fused; the programs in progress unless power failed (R385). -/
def Sec.kept (x : Sec) (cause : Nat) : Sec :=
  { records := x.records, fuses := x.fuses, owed := x.owed, flash := x.flash,
    programming := if cause = 0 then none else x.programming, toWrite := if cause = 0 then [] else x.toWrite,
    recovered := cause ≠ 0 && x.recovered, hoursAt := if cause = 0 then 0 else x.hoursAt }

/-- A reset of the given cause is taken: everything returns to its reset value but what R386 keeps; the outputs are as
R387 states. A stuck nRST stays one (R390). The part is left in reset or released by the caller. -/
def takeReset (cause : Nat) (s : State) : State :=
  let s := cutChange s
  let stuck := cause ≠ 0 && cause ≠ 1 && s.flag R.RST_STATUS.NRST_STUCK
  let su : Startup := { power := .inReset, nrst := s.su.nrst, nrstFell := s.su.nrstFell, nrstRose := s.su.nrstRose,
                        porAt := s.su.porAt, resetAt := s.now, limit := s.now, noSupply := s.su.noSupply }
  let r : State :=
    { now := s.now, variant := s.variant, fresh := s.fresh, pending := s.pending,
      mem := s.mem.filter (fun p => keepsByte cause p.1),
      chans := mapValues {} Chan.levels s.chans,
      trk := { streams := if cause = 0 then [] else mapValues {} Stream.kept s.trk.streams,
               ports := if cause = 0 then [] else mapValues {} Port.kept s.trk.ports },
      motion := { encs := mapValues {} Enc.levels s.motion.encs },
      twin := { ownHigh := s.twin.ownHigh || s.ownHeld, ownSince := if s.ownHeld then s.now else s.twin.ownSince },
      guard := { gin := mapValues {} Gin.levels s.guard.gin, holds := if stuck then [(14, 0)] else [], manual := stuck },
      sec := s.sec.kept cause, su := su }
  let r := forAll (keptRegs cause) (keepReg s) r
  let r := r.put R.TW_STATUS.UNIT (s.get R.TW_STATUS.UNIT)
  let r := (r.put R.RST_STATUS.RST_CAUSE cause).putb R.RST_STATUS.NRST_STUCK stuck
  let r := if 8104 ≤ r.ledgerCount then r.setFlag R.SEC_STATUS.LEDGER_FULL else r
  let r := showFuses (r.put R.POWERED_HOURS.value (((r.nvPair 1).load).getD 0))
  upTo 3 drawChallenge r

/-- The part leaves reset: start-up begins. -/
def release (s : State) : State := { s with su := { s.su with power := .running, resetAt := s.now, limit := s.now } }

/-! ### Power-on reset and nRST (R383, R388 to R390) -/

/-- A watched supply has been too low for 5 µs. -/
def undervoltage (s : State) : State :=
  let s := takeReset 0 (nvCut false s)
  { s with su := { s.su with noSupply := true } }

/-- Every watched supply has been high for 2 ms: power-on reset ends, device time restarts at 0, TWINPOS is sampled
(11_twin.md R277); a low nRST keeps the part in reset. -/
def powerOn (twinPos : Bool) (s : State) : State :=
  if !s.su.noSupply then s
  else
    let s := { s with now := 0, su := { s.su with noSupply := false, porAt := 0, nrstFell := 0, nrstRose := 0, resetAt := 0,
                                                  limit := 0 } }
    let s := (s.bump R.POWER_CYCLES.CYCLES).putb R.TW_STATUS.UNIT twinPos
    if s.su.nrst then release s else s

/-- nRST falls: the reset timing starts, or a stuck condition's count starts again. -/
def nrstFall (s : State) : State := { s with su := { s.su with nrst := false, nrstFell := s.now } }

/-- A low on nRST has lasted 0.9 µs (R388; its tolerance is ± 0.09 µs): the part is reset, unless the pin is stuck (R389). -/
def pinReset (s : State) : State :=
  if s.su.nrst || s.flag R.RST_STATUS.NRST_STUCK || s.su.noSupply || s.su.power = .inReset
      || decide (s.now < s.su.nrstFell + 103680) then s
  else takeReset 1 s

/-- nRST rises: the part leaves reset; a stuck condition begins its 100 ms. -/
def nrstRise (s : State) : State :=
  let s := { s with su := { s.su with nrst := true, nrstRose := s.now } }
  if s.su.power = .inReset && !s.su.noSupply then release s else s

/-- nRST has been low for 10 s from its fall and from power-on: the part leaves reset all the same (R389). -/
def nrstStuck (s : State) : State :=
  if s.su.nrst || s.su.noSupply || s.su.power ≠ .inReset || decide (s.now < max s.su.nrstFell s.su.porAt + fineMs 10000) then s
  else
    let s := (release s).setFlag R.RST_STATUS.NRST_STUCK
    let s := (s.put R.RST_STATUS.RST_CAUSE 1).bumpSat R.NRST_STUCK_COUNT.STUCKS
    releaseOwn 6 (guardHold 14 0 (enterErr 16 0 R.RST_STATUS.NRST_STUCK s))

/-- nRST has been high for 100 ms: the stuck condition ends (R390). -/
def nrstStuckEnd (s : State) : State :=
  if s.flag R.RST_STATUS.NRST_STUCK && s.su.nrst && decide (s.su.nrstRose + fineMs 100 ≤ s.now) then
    guardUnhold 14 0 (s.clrFlag R.RST_STATUS.NRST_STUCK)
  else s

/-! ### Boot flash (16_security_ledger.md R368 to R370) -/

/-- n bytes of the boot flash as it was read at start-up; a byte in no piece reads as erased. -/
def flashByte (l : List (Nat × List Byte)) (a : Nat) : Nat :=
  match l with
  | [] => 0xFF
  | (o, b) :: r => if o ≤ a ∧ a < o + b.length then (b.getD (a - o) 0).toNat else flashByte r a
def flashBytes (l : List (Nat × List Byte)) (a n : Nat) : List Nat :=
  match l.find? (fun p => decide (p.1 ≤ a ∧ a + n ≤ p.1 + p.2.length)) with
  | some p => ((p.2.drop (a - p.1)).take n).map BitVec.toNat
  | none => (List.range n).map (fun i => flashByte l (a + i))

/-- A directory copy whose MAGIC, COUNT and CRC are good: its entries, TYPE, START, OFFSET, LENGTH. -/
def flashDir (l : List (Nat × List Byte)) (a : Nat) : Option (List (Nat × Bool × Nat × Nat)) :=
  let head := flashBytes l a 16
  let count := leNat ((head.drop 4).take 2)
  let body := flashBytes l (a + 16) (16 * min count 64)
  if leNat (head.take 4) = 0x52494446 ∧ 1 ≤ count ∧ count ≤ 64
      ∧ leNat (head.drop 12) = crc32c (head.take 12 ++ body) then
    some ((List.range count).map (fun i =>
      let e := leNat ((body.drop (16 * i)).take 16)
      (bits e 0 8, bits e 8 8 = 1, word32 e 1, word32 e 2)))
  else none

/-- The directory in use: copy 0, else copy 1 (R370). -/
def bootDir (l : List (Nat × List Byte)) : List (Nat × Bool × Nat × Nat) :=
  match flashDir l 0 with
  | some d => d
  | none => (flashDir l 0x10000).getD []

/-- A firmware image that verifies under the Factory key and the floor (R369, R370): its header and body length. -/
def State.firmware (s : State) (l : List (Nat × List Byte)) (e : Nat × Bool × Nat × Nat) : Option (Nat × Nat) :=
  let h := leNat (flashBytes l e.2.2.1 192)
  let w := word32 h
  let key := s.roleKey 0
  if 192 + w 3 ≤ e.2.2.2 ∧ w 0 = 0x4D524946 ∧ bits (w 1) 16 2 = 0 ∧ s.setting 12 ≤ bits (w 2) 0 16 ∧ key ≠ 0
      ∧ edVerify key (slice h 128 64) (bytesOf 128 h) = true
      ∧ slice h 64 64 = leNat (sha512 (flashBytes l (e.2.2.1 + 192) (w 3))) then some (h, w 3)
  else none

/-- The firmware that runs: the type 1 image, else the type 2 image; whether it is the alternate. -/
def State.bootFirmware (s : State) (l : List (Nat × List Byte)) : Option (Nat × Nat × Bool) :=
  let dir := bootDir l
  let try_ := fun (k : Nat) => match dir.find? (fun e => e.1 = k) with | some e => s.firmware l e | none => none
  match try_ 1 with
  | some x => some (x.1, x.2, false)
  | none => (try_ 2).map (fun x => (x.1, x.2, true))

/-! ### The stages of start-up (R391 to R393) -/

/-- BOOT_STAGE. -/
def State.stage (s : State) : Nat := s.get R.RST_STATUS.BOOT_STAGE

/-- A failure at a stage, or its overrun, enters an error of class BOOT (R392). -/
def bootError (s : State) : State := enterErr 14 0 R.RST_STATUS.BOOT_STAGE s

/-- A stage ends, `len` fine LSB after the latest end of the stage before it at the latest, and the next begins. -/
def stageEnd (len : Nat) (s : State) : State :=
  let limit := s.su.limit + len
  let s := if limit < s.now then bootError s else s
  { s with su := { s.su with limit := limit } }.put R.RST_STATUS.BOOT_STAGE (s.stage + 1)

/-- Milliseconds per MiB for a number of bytes (R391). -/
def perMib (n : Nat) : Nat := fineMs (8 * n) / 1048576

/-- Stage 1: directory, firmware, guard table (R370). -/
def stageRom (flash : List (Nat × List Byte)) (s : State) : State :=
  let s := showIdentity (s.setSec { s.sec with flash := flash })
  let s := upTo 4 (fun r s => putSetting (7 + r) (s.setting (7 + r)) s) s
  match s.bootFirmware flash with
  | none => enterErr 14 0 R.RST_STATUS.BOOT_RECOVERY (s.setFlag R.RST_STATUS.BOOT_RECOVERY)
  | some (h, len, alt) =>
    let m := hashNat 192 h
    let s := s.setSec { s.sec with fwMeas := m }
    let s := ((s.put R.FW_ID_LO.value (lo32 m)).put R.FW_ID_HI.value (hi32 m)).put R.FW_SVN.SVN (bits (word32 h 2) 0 16)
    let s := s.putb R.SEC_STATUS.BOOT_ALT alt
    let s := match s.stored 11 with
      | some v =>
        if s.tableSigned v then
          let s := tableInstall v s
          { s with guard := { s.guard with tableBad := !tableFieldsOk v } }
        else factoryInstall (s.put R.CFG_FAIL.DEFAULTED (2 ^ 10))
      | none => factoryInstall (s.put R.CFG_FAIL.DEFAULTED (2 ^ 10))
    stageEnd (fineMs 20 + perMib len) s

/-- Stage 2: the guard's self-tests and its check of the table; it leaves START (08_emission_guard.md R205, R213). A hold
cause that stands refuses a restart (R208). -/
def stageGuard (ok : Bool) (s : State) : State :=
  let s := { s with guard := { s.guard with selfTest := ok } }
  let s := s.putb R.GUARD_STATUS.TABLE_VALID (!s.guard.tableBad)
  let s := if ok then s else bootError (releaseOwn 5 (guardLatch 12 1 s))
  let s := if s.guard.tableBad then guardLatch 11 0 s else s
  let s := if s.guardState = 0 then guardTo 3 0 0 s else s
  stageEnd (fineMs 5) (ginBegin s)

/-- Setting k is loaded: from its record, or its default, which CFG_FAIL shows (R377). -/
def loadSetting (k : Nat) (s : State) : State :=
  if k = 0 ∨ k = 11 then s
  else
    let s := if (s.stored k).isSome then s else s.put R.CFG_FAIL.DEFAULTED (s.get R.CFG_FAIL.DEFAULTED ||| 2 ^ (k - 1))
    putSetting k (s.setting k) s

/-- A calibration record is loaded and applied at once; one with no valid slot starts from 0 and sets CAL_NV_EMPTY (R363). -/
def loadRecord (r : NvRecord) (s : State) : State :=
  match (s.nvPair (recId r)).load with
  | none => s.setFlag R.THERM_STATUS.CAL_NV_EMPTY
  | some v =>
    match r with
    | .poweredHours => s.put R.POWERED_HOURS.value v
    | .comparator d =>
      upTo 768 (fun i s => setTrim (192 * (d - 1) + i / 4) (i % 4) ((unpack16 768 v).getD i 0) s) s
    | .interpolator d =>
      let l := unpack16 4096 v
      { s with therm := { s.therm with interp := (List.range 4096).foldl (fun m i => m.put 0 (4096 * d + i) (l.getD i 0)) s.therm.interp } }
    | .reference =>
      (s.puti (R.REF_STATUS.REF_OFS 0) ((unpack16 2 v).getD 0 0)).puti (R.REF_STATUS.REF_OFS 1) ((unpack16 2 v).getD 1 0)

/-- The error of class CONFIG of setting k + 1, which took its default. -/
def configErr (k : Nat) (s : State) : State :=
  if bit (s.get R.CFG_FAIL.DEFAULTED) k then enterErr 15 0 R.CFG_FAIL.DEFAULTED s else s

/-- Stage 3: setting records, calibration records, POWERED_HOURS; ledger entries owed (R380). The errors of class CONFIG
come after the one of an overrun (R397). -/
def stageConfig (s : State) : State :=
  let s := upTo 13 loadSetting s
  let bad := s.get R.CFG_FAIL.DEFAULTED ≠ 0
  let s := if bad then s.setFlag R.SEC_STATUS.CFG_DEFAULTED else s
  let s := { s with trk := { s.trk with cfgDefaulted := bad } }
  let s := upTo 8 (fun d s => if s.dieFitted d then loadRecord (.interpolator d) (loadRecord (.comparator d) s) else s) s
  let s := loadRecord .reference (loadRecord (.interpolator 0) s)
  let s := if s.twinEn then s.put R.TW_STATUS.TW_STATE 1 else s
  upTo 12 configErr (stageEnd (fineMs 5) (cfgId (recoverEntries s)))

/-- The record of a die site is as R393 asks. -/
def State.dieRecordOk (s : State) (x : DieRecord) : Bool := x.link && x.groups = 16 && x.corr = 16 && s.dieFitted x.die

/-- A die site's capability record (R393): DIE_CAP shows it; a bad one makes the die dark. -/
def takeDieRecord (x : DieRecord) (s : State) : State :=
  let d := x.die
  if d = 0 ∨ 8 ≤ d then s
  else
    let ok := s.dieRecordOk x
    let s := ((s.put (R.DIE_CAP.GROUPS d) x.groups).put (R.DIE_CAP.CORR d) x.corr).put (R.DIE_CAP.CAP_REV d) x.rev
    let s := (s.putb (R.DIE_CAP.LINK_UP d) x.link).putb (R.DIE_CAP.CAP_VALID d) ok
    let s := if x.link then s else { s with pts := { s.pts with linkDown := s.pts.linkDown ||| 2 ^ d } }
    if ok then s
    else if s.dieFitted d then dieDark d s
    else
      let s := s.put R.FAB_STATUS.DIES_DARK (s.get R.FAB_STATUS.DIES_DARK ||| 2 ^ d)
      enterErr 2 d R.FAB_STATUS.DIES_DARK s

/-- Stage 4: the die links; a fitted die of which no record came has no link. The errors of one ns go in ascending CLASS
(R397): those of class DIE before those of class BOOT. -/
def stageDies (l : List DieRecord) (s : State) : State :=
  let missing := ((List.range 8).filter (fun d => s.dieFitted d && !l.any (fun x => x.die = d))).map
    (fun d => (⟨d, false, 0, 0, 0⟩ : DieRecord))
  let bad := (l ++ missing).filter (fun x => decide (1 ≤ x.die ∧ x.die ≤ 7) && !s.dieRecordOk x)
  stageEnd (fineMs 1) (forAll bad (fun _ => bootError) (forAll (l ++ missing) takeDieRecord s))

/-- The port's devices are among those supported (12_stream_memory.md R300). -/
def portSupported (x : PortRecord) : Bool := [8, 12, 16, 24, 32].contains x.density && decide (x.ranks = 1 ∨ x.ranks = 2)

/-- Capacity of a port in GB: two channels of its ranks, each of one x16 die or two byte-mode dies (R300). -/
def portGb (x : PortRecord) : Nat := 2 * x.density * x.ranks * (if x.byteMode then 2 else 1) / 8

/-- Two ports carry identical devices in identical arrangement (R301). -/
def portSame (x y : PortRecord) : Bool := decide (x.density = y.density ∧ x.ranks = y.ranks) && x.byteMode == y.byteMode

/-- A port's training (12_stream_memory.md R301 to R303): it fails below TRAIN_MIN_EYE, where a step fails, or where its
arrangement differs from DMP0's. Devices outside R300 complete no training (DEDUCED, log 91). -/
def State.portGood (s : State) (first : Option PortRecord) (x : PortRecord) : Bool :=
  let eye := s.get R.MEM_CFG.TRAIN_MIN_EYE
  let same := match first with | some y => portSame x y | none => false
  portSupported x && same && decide (eye ≤ x.eyeRd ∧ eye ≤ x.eyeWr) && !x.fail

/-- A zone that reaches beyond the DRAM that training put into service is rejected now: its size becomes 0, and with the
lay-by's its quotas (12_stream_memory.md R303, R311, R313, log 17). -/
def zoneJudge (k : Nat) (s : State) : State :=
  if !s.zoneBeyond k then s
  else match k with
    | 0 => (upTo 7 (fun j => (·.put (R.LAYBY_QUOTA.value j) 0)) (s.put R.LAYBY_SIZE.value 0)).setFlag R.MEM_STATUS.WRITE_REJECTED
    | 1 => (s.put R.REPLAY_SIZE.value 0).setFlag R.MEM_STATUS.WRITE_REJECTED
    | 2 => (s.put R.REPLAY_IDX.REPLAY_IDX_SIZE 0).setFlag R.MEM_STATUS.WRITE_REJECTED
    | _ => (s.put R.CAP_DRAM_SIZE.value 0).setFlag R.CAP_STATUS.WRITE_REJECTED

/-- The end of training judges what was written before there was DRAM to compare with: the zones, the masks of the segments
that hold them (R310), and the replay store, which has no DRAM to run in where none is in service (R303). -/
def memoryJudge (s : State) : State :=
  let s := upTo 4 zoneJudge s
  let s := upTo 4 (fun p s =>
    if s.maskBad p then (s.put (R.PASR_MASK.value p) 0).setFlag R.MEM_STATUS.WRITE_REJECTED else s) s
  if s.flag R.REPLAY_CFG.REPLAY_EN && !s.flag R.MEM_STATUS.MEM_READY then
    (s.clrFlag R.REPLAY_CFG.REPLAY_EN).setFlag R.MEM_STATUS.WRITE_REJECTED
  else s

/-- Stage 5: DRAM training; the largest permitted set of good ports goes into service. -/
def stageMemory (l : List PortRecord) (s : State) : State :=
  let fitted := fun (p : Nat) => l.find? (fun x => x.port = p)
  let first := fitted 0
  let good := fun p => match fitted p with | some x => s.portGood first x | none => false
  let s := upTo 4 (fun p s => match fitted p with
    | none => s
    | some x =>
      let s := (s.put (R.PORT_TRAIN.EYE_RD p) x.eyeRd).put (R.PORT_TRAIN.EYE_WR p) x.eyeWr
      let s := (s.putb (R.PORT_TRAIN.TRAIN_FAIL p) (!good p)).put R.MEM_STATUS.PORTS_FITTED
        (s.get R.MEM_STATUS.PORTS_FITTED ||| 2 ^ p)
      if good p then s
      else enterErr 10 p R.MEM_STATUS.DRAM_DEGRADED (s.setFlag R.MEM_STATUS.DRAM_DEGRADED)) s
  let s := upTo 4 (fun p s => if (fitted p).isSome && !good p then bootError s else s) s
  let n := if good 0 && good 1 && good 2 && good 3 then 4 else if good 0 && good 1 then 2 else if good 0 then 1 else 0
  let s := match first with
    | some x => if n = 0 then s else
        (s.put R.MEM_STATUS.CAP_GB (n * portGb x)).setDram { s.dram with density := x.density, ranks := x.ranks, byteMode := x.byteMode }
    | none => s
  let s := (s.put R.MEM_STATUS.PORTS_USED (2 ^ n - 1)).putb R.MEM_STATUS.MEM_READY (decide (0 < n))
  stageEnd (fineMs 40) (memoryJudge s)

/-- An image of the directory is loaded, stopped (R176, R370): a refused one is skipped and enters an error. The
sequencers it claims start at READY where `start` says so. -/
def loadBootImage (policy start : Bool) (e : Nat × Bool × Nat × Nat) (s : State) : State :=
  let img := flashBytes s.sec.flash e.2.2.1 e.2.2.2
  let (s, ok) := loadImage policy false img s
  if !ok then bootError s
  else
    let l := imageClaims (leNat (img.take 192))
    let keep := s.su.toStart.filter (fun n => !l.contains n)
    { s with su := { s.su with toStart := keep ++ (if start then l else []) } }

/-- Stage 6: the policy (R177) and the boot images that BOOT's mask selects. -/
def stageImages (s : State) : State :=
  let dir := bootDir s.sec.flash
  let s := if s.flag R.POLICY_CTL.POLICY_EN then
      match dir.find? (fun e => e.1 = 3) with
      | some e => loadBootImage true true e s
      | none => bootError s
    else s
  let boot := ((List.range dir.length).zip dir).filter (fun p => p.2.1 = 4 && bit s.sec.bootMask p.1)
  let s := forAll boot (fun p => loadBootImage false p.2.2.1 p.2) s
  let policy := if s.flag R.POLICY_CTL.POLICY_EN then (dir.filter (fun e => e.1 = 3)).take 1 else []
  let len := ((policy ++ boot.map Prod.snd).map (fun e => e.2.2.2)).sum
  stageEnd (fineMs 2 + perMib len) s

/-- Stage 7: interpolator calibration, where the time base has locked; comparator runs due at boot (15_thermal_calibration.md
R355, R359). It has 10 ms from the end of stage 6 and from lock, or 100 ms without lock. -/
def stageCalibration (targets : List (Nat × Int)) (s : State) : State :=
  let s := if s.flag R.TB_STATUS.LOCKED then
      let m := targets.foldl (fun m p => SMap.put m 0 p.1 p.2) ([] : SMap Int)
      { s with therm := { s.therm with interp := m, interpTo := m } }
    else s
  let s := if s.flag R.THERM_CTL.CAL_ON_BOOT then calNow s else s
  stageEnd (if s.flag R.TB_STATUS.LOCKED then s.tb.lockedAt - s.su.limit + fineMs 10 else fineMs 100) s

/-- Stage 8, READY (R393): lanes enabled, sequencers started. -/
def stageReady (s : State) : State :=
  let s := upTo 12 (fun l => laneEnable l true) s
  let s := if s.twinEn then upTo 4 (fun l => laneEnable (12 + l) true) s else s
  let s := forAll s.su.toStart sqStart s
  let s := { s with su := { s.su with toStart := [] } }
  let s := (s.put R.STARTUP_TIME_LO.READY_LO (lo32 s.ns)).put R.STARTUP_TIME_HI.READY_HI (hi32 s.ns)
  s.setFlag R.RST_STATUS.STARTUP_DONE

/-- The end of the stage in progress; a command for another stage changes nothing, and boot recovery stays (R370). -/
def startupStage (work : StageWork) (s : State) : State :=
  if s.flag R.RST_STATUS.BOOT_RECOVERY || s.flag R.RST_STATUS.STARTUP_DONE then s
  else
    match work, s.stage with
    | .rom flash, 1 => stageRom flash s
    | .guard ok, 2 => stageGuard ok s
    | .config, 3 => stageConfig s
    | .dies l, 4 => stageDies l s
    | .memory l, 5 => stageMemory l s
    | .images, 6 => stageImages s
    | .calibration l, 7 => stageCalibration l s
    | .ready, 8 => stageReady s
    | _, _ => s

/-! ### The error queue (R396, R397) and recovery (R400) -/

/-- A time in ms of ERR_CFG: 0 acts as 1. -/
def errMs (n : Nat) : Nat := 1000000 * max 1 n

/-- Entries of AUTO classes are acknowledged AUTO_ACK_MS after they entered. -/
def autoAck (s : State) : State :=
  let due := errMs (s.get R.ERR_CFG.AUTO_ACK_MS)
  { s with su := { s.su with errs := s.su.errs.map (fun e =>
      if s.flag (R.ERR_CLASS_CFG.AUTO e.cls) && decide (e.time + due ≤ s.ns) then { e with acked := true } else e) } }

/-- A fatal entry has been open for FATAL_MS: the part goes to its safe state. -/
def fatalTimeout (s : State) : State :=
  let due := errMs (s.get R.ERR_CFG.FATAL_MS)
  if s.su.openErrs.any (fun e => decide (e.sev = 2 ∧ e.time + due ≤ s.ns)) then { s with su := { s.su with wantSafe := true } } else s

/-- ERR_POP: the head entry is acknowledged and removed. -/
def errPop (s : State) : State := { s with su := { s.su with errs := s.su.errs.tail } }

/-- RECOVER: a recovery reset. -/
def recover (s : State) : State := release (takeReset 2 s)

/-- The automatic restart of an LNF2-E or LNF4-E (15_thermal_calibration.md R351, R352). -/
def thermalRestart (s : State) : State :=
  if s.su.power = .shutdown && s.therm.mayRestart then
    match s.therm.coolSince with
    | some c => if c + 2000000000 ≤ s.ns then
        let s := takeReset 3 s
        if s.su.nrst then release s else s
      else s
    | none => s
  else s

/-! ### Meanings -/

/-- POWER_ON_RESET (R383, R386; 11_twin.md R277): TWINPOS stands at the level given. -/
def execPowerOnReset (release : PorRelease) (s : State) : Host.Outcome State Fault Refusal :=
  actAny release.t (powerOn release.twinPos) s

/-- UNDERVOLTAGE_TRIP (R383, R385). -/
def execUndervoltageTrip (t : Nat) (_supply : Fin 4) (s : State) : Host.Outcome State Fault Refusal := actAny t undervoltage s

/-- NRST_FALL (R388, R390). -/
def execNrstFall (t : Nat) (s : State) : Host.Outcome State Fault Refusal := actAny t nrstFall s

/-- PIN_RESET (R388). -/
def execPinReset (t : Nat) (s : State) : Host.Outcome State Fault Refusal := actAny t pinReset s

/-- NRST_RELEASE (R388, R390). -/
def execNrstRelease (t : Nat) (s : State) : Host.Outcome State Fault Refusal := actAny t nrstRise s

/-- NRST_STUCK (R389). -/
def execNrstStuck (t : Nat) (s : State) : Host.Outcome State Fault Refusal := actAny t nrstStuck s

/-- NRST_STUCK_END (R390). -/
def execNrstStuckEnd (t : Nat) (s : State) : Host.Outcome State Fault Refusal := actAny t nrstStuckEnd s

/-- STARTUP_STAGE (R391 to R393). -/
def execStartupStage (t : Nat) (work : StageWork) (s : State) : Host.Outcome State Fault Refusal := act t (startupStage work) s

/-- ERROR_AUTO_ACK (R396). -/
def execErrorAutoAck (t : Nat) (s : State) : Host.Outcome State Fault Refusal := act t autoAck s

/-- FATAL_TIMEOUT (R397). -/
def execFatalTimeout (t : Nat) (s : State) : Host.Outcome State Fault Refusal := act t fatalTimeout s

/-- THERMAL_RESTART (R351, R352). -/
def execThermalRestart (t : Nat) (s : State) : Host.Outcome State Fault Refusal := actAny t thermalRestart s

end Sys2Proof.Machine
end

