-- ==== Sys2Proof/Machine/View.lean ====
section
/-! DEFINITION. What a read of a register returns: the stored word, or the figures that other state holds and the
register shows. -/

namespace Sys2Proof.Machine

/-! ### Requesters and roles (12_stream_memory.md R306, 16_security_ledger.md R374, R375) -/

/-- The role a requester acts with: 0 Factory, 1 Integrator, 2 Operator, 3 Service; none is Open. The management core and
the hub's own requesters act without a role test and are not asked. -/
def State.roleOf (s : State) (req : Nat) : Option Nat :=
  match sessPath req with
  | some p => (s.sess p).role
  | none => if 8 ≤ req ∧ req ≤ 15 then some (s.seq (req - 8)).role else none

/-- Requesters whose writes are subject to the role test: MSPI, the CTRL streams and the sequencers. -/
def roleTested (req : Nat) : Bool := decide (req ≤ 2 ∨ 8 ≤ req ∧ req ≤ 15)

/-! ### Words that show other state -/

/-- Put the values of fields into a word: (lowest bit, width, value). -/
def withFields (w : Nat) : List (Nat × Nat × Nat) → Nat
  | [] => w
  | (lo, n, v) :: r => withFields (w - bits w lo n * 2 ^ lo + v % 2 ^ n * 2 ^ lo) r

/-- Number of an op's state (03_ranging_operations.md R66). -/
def OpState.code : OpState → Nat
  | .issued => 1
  | .accumulating => 2
  | .settling => 3
  | .reducing => 4

/-- The fields of a slot's view, word w (R85), slot number `slot` being 128 × local group + slot of the group, the order of
the die's 2,048 slots that R85's index s leaves open (DESIGN CHOICE, log 110). PASSES_DONE counts the passes gone through,
those whose pulses were suppressed with them, where R85 speaks of passes fired (DESIGN CHOICE, log 110). -/
def slotView (o : Op) (slot w : Nat) : Nat :=
  if w = 0 then o.st.code + 2 ^ 8 * min 32 (o.pulses / o.k) + 2 ^ 16 * (slot % 128)
  else if w = 1 then lo32 o.w0
  else if w = 2 then o.fires.length + 2 ^ 16 * min 0xFFFF o.drops
  else lo32 o.v0

def State.slotWord (s : State) (d slot w : Nat) : Nat :=
  match s.op d slot with
  | some o => slotView o slot w
  | none => 0

/-- Ops on a die. -/
def State.slotsBusy (s : State) (d : Nat) : Nat := (s.opKeys.filter (fun k => k.1 = d)).length

/-- A word of the error queue's head entry (17_startup_faults.md R394). -/
def ErrEntry.word (e : ErrEntry) (w : Nat) : Nat :=
  match w with
  | 0 => e.cls + 2 ^ 5 * e.sev + 2 ^ 7 * b2n e.escalated + 2 ^ 8 * e.depth + 2 ^ 16 * e.detail + 2 ^ 24 * e.bit
  | 1 => lo32 e.src
  | 2 => e.eseq
  | 4 => lo32 e.time
  | 5 => hi32 e.time
  | _ => 0

/-- The three energy sums of a bank's limiter at this instant, in EU (08_emission_guard.md R214). -/
def State.limSums (s : State) (h b : Nat) : Nat × Nat × Nat :=
  sums (s.guard.limShots.get [] (32 * h + b)) (s.lineNs h) s.ns

/-- PORT_INTACT: ports that run, have been excited, and showed no wire break (14_housekeeping.md R344). -/
def State.portsIntact (s : State) : Nat :=
  ((List.range 8).map (fun n => if s.flag (R.SP_CFG.PORT_EN n) && (s.sport n).pulsed && !(s.sport n).broken then 2 ^ n else 0)).sum

/-- Milliseconds since a die's comparator run fell due (15_thermal_calibration.md R361). -/
def State.lateMs (s : State) (d : Nat) : Nat :=
  match (s.calDie d).due with
  | some t => min 0xFFFFFFFF ((s.ns - t) / 1000000)
  | none => 0

/-- The levels at the GIN pins (08_emission_guard.md R223). -/
def State.ginLevels (s : State) : Nat :=
  ((List.range 4).map (fun n => 4 ^ n * (b2n (s.ginp n).a + 2 * b2n (s.ginp n).b))).sum

/-- Edges on FREF_EXT in the last 10 µs (02_channels_and_time.md R58). -/
def State.frefPresent (s : State) : Bool :=
  match s.tb.frefSeen with
  | some t => decide (s.now ≤ t + fineUs 10)
  | none => false

/-- The register at a part address below 0x0800_0000, with causeway lanes numbered 12 to 15 as everywhere in the state. -/
def regHit (a : Nat) : Option RegHit :=
  (RegMap.find a).map fun h => if 0x28000 ≤ a ∧ a < 0x28800 then { h with ix := h.ix.map (· + 12) } else h

/-- The word of a register as requester `req` reads it, where `w` is the stored word. -/
def State.view (s : State) (req : Nat) (id : RegId) (ix : List Nat) (w : Nat) : Nat :=
  match id, ix with
  | .DIE_ID, [d] => withFields w [(0, 4, d), (4, 4, s.variant), (8, 8, 2 ^ (s.variant + 1) - 1),
      (16, 8, (Config.siliconRev d).toNat)]
  | .PACE_CFG, [d] => if d = 0 then w else 0x900
  | .PART_PACE, _ => s.partPace
  | .TB_STATUS, _ => withFields w [(3, 1, b2n s.frefPresent)]
  | .DEVTIME_LO, _ => lo32 s.ns
  | .DEVTIME_HI, _ => s.tb.snap.get 0 req
  | .ANCHOR_CTL, _ => withFields w [(1, 4, s.tb.anchors.length)]
  | .SYNC_STATUS, _ => withFields w [(8, 5, s.tb.syncFifo.length)]
  | .SYNC_FIFO_LO, _ => (syncPop s).1
  | .OPS_STATUS, [d] => withFields w [(16, 12, s.slotsBusy d)]
  | .GRP_STATUS, [d, g] => withFields w [(0, 8, (s.groupOps d g).length), (16, 9, (s.group d g).free)]
  | .SLOT_VIEW_W0, [d, k] => s.slotWord d k 0
  | .SLOT_VIEW_W1, [d, k] => s.slotWord d k 1
  | .SLOT_VIEW_W2, [d, k] => s.slotWord d k 2
  | .SLOT_VIEW_W3, [d, k] => s.slotWord d k 3
  | .PP_HEAD_CFG, _ => withFields w [(14, 1, 0)]
  | .PP_STATUS, _ => withFields w [(16, 13, s.pts.obs.length)]
  | .LTR_NOW, [h] => s.ltr h
  | .DEAD_EST, [d, c] => (s.chan (192 * (d - 1) + c)).est / 256
  | .POLICY_CTL, _ => withFields w [(1, 1, b2n s.policyActive)]
  | .SQ_CTL, [n] => withFields w [(0, 1, b2n (s.sqLive n))]
  | .SQ_CQ, [n] => withFields w [(0, 9, (s.seq n).cq.length), (16, 9, (s.seq n).outstanding.length)]
  | .SQ_PRED, _ => withFields w [(0, 1, 1)]
  | .BANK_GUARD_W1, [h, b] => (s.limSums h b).1
  | .BANK_GUARD_W2, [h, b] => ceilDiv (s.limSums h b).2.1 64
  | .BANK_GUARD_W3, [h, b] => ceilDiv (s.limSums h b).2.2 4096
  | .GIN_LEVELS, _ => s.ginLevels
  | .TW_STATUS, _ => withFields w [(5, 1, b2n s.twin.ownHigh)]
  | .TW_MISS_A, _ => min 0xFFFFFFFF (w + s.missedSince s.twin.lastA)
  | .TW_MISS_B, _ => min 0xFFFFFFFF (w + s.missedSince s.twin.lastB)
  | .LOOP_CTL, [n] => withFields w [(5, 1, b2n (s.rcOn n).isSome)]
  | .LOOP_STATUS, [n] => withFields w [(15, 1, b2n (s.rcValid n))]
  | .RC_STATUS, [n] => s.rcBin n
  | .ENC_STATUS, [m] => withFields w [(0, 1, b2n (s.encPresent m))]
  | .PRBS_BITS_LO, [l] => lo32 (s.lane l).prbsBits
  | .CREDIT_LIMIT, [k] => (s.stream k).credit
  | .SSEQ_NEXT, [k] => (s.stream k).sseq
  | .EGQ_BYTES, [k] => s.egqBytes k
  | .LAYBY_BYTES, [k] => ceilDiv (s.laybyBytes k) 1024
  | .TW_PARTNER, _ => withFields w [(8, 1, b2n s.partnerValid)]
  | .HK_STATUS, _ => withFields w [(16, 9, s.hk.rq.length)]
  | .LOAD_STATUS, _ =>
    b2n (s.drvReady 0) + 2 * b2n (s.drvReady 1) + 4 * s.get R.DRV_FAIL.FAILED
      + 8 * ((List.range 4).map (fun m => if s.encPresent m then 2 ^ m else 0)).sum + 128 * s.portsIntact
  | .DIE_CAL_LATE, [d] => s.lateMs d
  | .SEC_STATUS, _ =>
    withFields w [(7, 1, match sessPath req with | some p => b2n (s.sess p).fail | none => 0), (8, 3, (s.roleOf req).getD 7)]
  | .AUTH_CTL, _ => match sessPath req with | some p => (s.sess p).authRole | none => 0
  | .AUTH_CHAL, [k] => match sessPath req with | some p => s.chalWord p k | none => 0
  | .AUTH_SIG, [k] => match sessPath req with | some p => word32 (s.sess p).sig k | none => 0
  | .RST_STATUS, _ => withFields w [(4, 1, b2n s.su.nrst)]
  | .ERR_STATUS, _ =>
    withFields w [(0, 7, s.su.errs.length), (8, 7, s.su.openErrs.length), (17, 1, b2n (s.su.openErrs.any (fun e => e.sev = 2)))]
  | .ERR_HEAD, [k] => match s.su.errs with | e :: _ => e.word k | [] => 0
  | .ERR_CLASS_CFG, [k] => if k = 17 then 2 else w
  | _, _ => w

end Sys2Proof.Machine
end

