-- ==== Sys2Proof/Machine/Write.lean ====
section
/-! DEFINITION. A write to a register: reserved encodings (R9), the classes (R10 to R13), when each block runs and where a
rejected write shows, and the tests the chapters add. -/

namespace Sys2Proof.Machine

/-! ### Field by field (00_scope.md R9 to R13) -/

/-- A field of a written value. -/
def FieldDef.of (f : FieldDef) (v : Nat) : Nat := bits v f.lo f.w

/-- The value is a reserved encoding of the field. -/
def FieldDef.reserved (f : FieldDef) (x : Nat) : Bool := f.resv.any (fun r => decide (r.1 ≤ x ∧ x ≤ r.2))

/-- What a field holds after a write that is not rejected: `old` the stored field, `x` the value written to it. A
write-one-to-clear field clears bit by bit (R13); a count of 32 bits is cleared whole by any written 1
(CH_DROP_COUNT of 02_channels_and_time.md). -/
def FieldDef.next (f : FieldDef) (old x : Nat) : Nat :=
  match f.cls with
  | .static | .live | .latched => if f.reserved x then old else x
  | .readOnly => old
  | .w1c => if f.w = 32 then (if x = 0 then old else 0) else old - (old &&& x)
  | .action => 0

/-- The word a register holds after a write that is not rejected. -/
def FieldDef.word (old v : Nat) : List FieldDef → Nat
  | [] => old
  | f :: r => withFields (FieldDef.word old v r) [(f.lo, f.w, f.next (f.of old) (f.of v))]

/-- The write would change a static field. -/
def FieldDef.staticChange (old new : Nat) (l : List FieldDef) : Bool :=
  l.any (fun f => f.cls = .static && f.of old ≠ f.of new)

/-! ### When a block runs (R10) -/

/-- An open op of die d names tap set n. -/
def State.tapsetUsed (s : State) (d n : Nat) : Bool :=
  s.opKeys.any (fun k => k.1 = d && match s.op k.1 k.2 with
    | some o => o.firCustom && o.tapset = n
    | none => false)

def State.anyHead (s : State) : Bool := s.running 0 || s.running 1

/-- The stream's port is up. -/
def State.streamUp (s : State) (k : Nat) : Bool := !(s.portLanes (s.streamPort k)).isEmpty

/-- A running loop uses the encoder. -/
def State.encUsed (s : State) (m : Nat) : Bool := (List.range 8).any (fun n => s.loopRuns n && s.loopEnc n = some m)

/-- The capture is armed or triggered under setup n. -/
def State.setupArmed (s : State) (n : Nat) : Bool :=
  decide (s.capState = 1 ∨ s.capState = 2) && decide (s.capSetup = n)

/-- The block to which a register's S fields belong is running. -/
def State.blockRuns (s : State) (id : RegId) (ix : List Nat) : Bool :=
  match id, ix with
  | .CH_CFG, [d, c] => s.flag (R.CH_CFG.CH_EN d c)
  | .SYNC_CFG, _ | .SYNC_NOM, _ | .SYNC_TOL, _ => s.flag R.SYNC_CFG.SYNC_EN
  | .IU_CTL, _ | .IU_TIMEOUT, _ => decide (s.get R.IU_STATUS.IU_STATE ≠ 0)
  | .FU_CTL, _ | .FU_GATE_LEN, _ => s.flag R.FU_STATUS.FU_BUSY
  | .OPS_CFG, [d] => decide (s.slotsBusy d ≠ 0)
  | .TAP_W, [d, n, _] | .TAP_CTL, [d, n] => s.tapsetUsed d n
  | .SO_CFG, _ | .LINE_OFS, _ | .HEAD_GROUPS_A, _ | .HEAD_GROUPS_B, _ => s.anyHead
  | .SQ_CTL, [n] | .SQ_ENTRY, [n] | .SQ_SPAN_LO, [n] | .SQ_SPAN_HI, [n] | .SQ_PRED, [n] | .SQ_GREG, [n, _] => s.sqLive n
  | .DRV_CTL, [h] => s.running h
  | .BANK_CAL, [h, _] | .BANK_MON, [h, _] => s.drvEn h
  | .LOOP_CTL, [n] | .FACET_CFG, [n] | .PWM_CFG, [n] => s.loopRuns n
  | .KP, [n, k] | .KI, [n, k] | .KD, [n, k] | .KF, [n, k] | .U_LIM, [n, k] | .I_LIM, [n, k] =>
    s.loopRuns n && s.get (R.LOOP_STATUS.COEF_NOW n) = k
  | .TARGET, [n, p] | .VMAX, [n, p] | .AMAX, [n, p] | .JMAX, [n, p] =>
    s.flag (R.LOOP_STATUS.PROF_RUN n) && (match (s.loop n).move with | some m => m.profile = p | none => false)
  | .ENC_CFG, [m] => s.encUsed m
  | .TR_CTL, _ | .TR_POST, _ | .TR_NODE, _ => s.flag R.TR_STATUS.TR_RUN
  | .LANE_CTL, [l] => s.flag (R.LANE_CTL.LANE_EN l)
  | .STREAM_CFG, [k] | .EGQ_QUOTA, [k] | .LAYBY_QUOTA, [k] => s.streamUp k
  | .LAYBY_BASE, _ | .LAYBY_SIZE, _ | .PASR_MASK, _ => s.flag R.MEM_STATUS.MEM_READY
  | .REPLAY_CFG, _ | .REPLAY_BASE, _ | .REPLAY_SIZE, _ | .REPLAY_IDX, _ => s.flag R.REPLAY_CFG.REPLAY_EN
  | .CAP_DRAM_BASE, _ | .CAP_DRAM_SIZE, _ => decide (s.capState = 1 ∨ s.capState = 2 ∨ s.capState = 4)
  | .CS_CTL, [n] | .CS_PRE, [n] | .CS_POST, [n] | .CS_SLOT, [n, _] | .TC_CTL, [n, _] | .TC_A, [n, _] | .TC_B, [n, _]
  | .TC_C, [n, _] | .TC_D, [n, _] => s.setupArmed n
  | .HK_CTL, _ => s.flag R.HK_CTL.SEQ_EN
  | .SP_CFG, [n] | .SP_TIMING, [n] | .SP_REF, [n] | .SP_SPAN, [n] | .SP_COEF, [n, _, _] | .SP_NTC, [n, _] =>
    s.flag (R.SP_CFG.PORT_EN n)
  | .REF_CFG, [h] | .REF_LEN, [h] => s.running h
  | _, _ => false

/-- The field that shows a rejected write to a register: its block's WRITE_REJECTED; none where the block has none, and
none for the trunk's streams, whose block has one in each of twelve lane statuses (`rejected`). -/
def rejectField (id : RegId) (ix : List Nat) : Option Field :=
  match id, ix with
  | .CH_CFG, [d, c] => some (R.CH_STATUS.WRITE_REJECTED d c)
  | .ANCHOR_LABEL_LO, _ | .ANCHOR_LABEL_HI, _ | .ANCHOR_AT_LO, _ | .ANCHOR_AT_HI, _ | .ANCHOR_CTL, _ | .SYNC_CFG, _ | .SYNC_NOM, _ | .SYNC_TOL, _ | .IU_CTL, _ | .IU_TIMEOUT, _ | .FU_CTL, _ | .FU_GATE_LEN, _ =>
    some R.TB_STATUS.WRITE_REJECTED
  | .OPS_CFG, [d] | .TAP_W, [d, _, _] | .TAP_CTL, [d, _] => some (R.OPS_STATUS.WRITE_REJECTED d)
  | .SO_CFG, _ | .LINE_OFS, _ | .SO_STATUS, _ | .HEAD_GROUPS_A, _ | .HEAD_GROUPS_B, _ | .HEAD_CTL, _ | .HEAD_STATUS, _
  | .SYNC_OFS, _ | .FB_SLEW, _ | .FROND_ADDR_LO, _ | .FROND_ADDR_HI, _ | .FROND_GEN_EXP, _ | .FROND_COMMIT, _ | .P_W1, _
  | .P_W2, _ | .P_X, _ | .P_RESERVED, _ => some R.SO_STATUS.WRITE_REJECTED
  | .SQ_CTL, [n] | .SQ_ENTRY, [n] | .SQ_SPAN_LO, [n] | .SQ_SPAN_HI, [n] | .SQ_PRED, [n] | .SQ_GREG, [n, _] =>
    some (R.SQ_STATUS.WRITE_REJECTED n)
  | .DRV_CTL, h :: _ | .DRV_SOFT, h :: _ | .DRV_IDLE, h :: _ | .DRV_STATUS, h :: _ | .DRV_CABLE_CFG, h :: _
  | .BANK_AMP, h :: _ | .BANK_CAL, h :: _ | .BANK_MON, h :: _ | .BANK_LAT, h :: _ => some (R.DRV_STATUS.WRITE_REJECTED h)
  | .LOOP_CTL, n :: _ | .LOOP_STATUS, n :: _ | .SETPOINT, n :: _ | .FACET_CFG, n :: _ | .PH_GAIN, n :: _ | .PH_TOL, n :: _
  | .STEP_POS01, n :: _ | .STEP_POS23, n :: _ | .STEP_TOL, n :: _ | .SWEEP_LO, n :: _ | .SWEEP_HI, n :: _ | .HO_CFG, n :: _
  | .FOLLOW_MAX, n :: _ | .FAULT_CFG, n :: _ | .RC_CFG, n :: _ | .RC_LIM, n :: _ | .PWM_CFG, n :: _ | .KP, n :: _
  | .KI, n :: _ | .KD, n :: _ | .KF, n :: _ | .U_LIM, n :: _ | .I_LIM, n :: _ | .TARGET, n :: _ | .VMAX, n :: _
  | .AMAX, n :: _ | .JMAX, n :: _ => some (R.LOOP_STATUS.WRITE_REJECTED n)
  | .ENC_CFG, _ | .ENC_STATUS, _ | .TR_CTL, _ | .TR_POST, _ | .TR_NODE, _ | .MC_STATUS, _ => some R.MC_STATUS.WRITE_REJECTED
  | .LANE_CTL, [l] => some (R.LANE_STATUS.WRITE_REJECTED l)
  | .LAYBY_BASE, _ | .LAYBY_SIZE, _ | .PASR_MASK, _ | .REPLAY_CFG, _ | .REPLAY_BASE, _ | .REPLAY_SIZE, _ | .REPLAY_IDX, _ =>
    some R.MEM_STATUS.WRITE_REJECTED
  | .CAP_DRAM_BASE, _ | .CAP_DRAM_SIZE, _ | .CS_CTL, _ | .CS_PRE, _ | .CS_POST, _ | .CS_SLOT, _ | .TC_CTL, _ | .TC_A, _
  | .TC_B, _ | .TC_C, _ | .TC_D, _ => some R.CAP_STATUS.WRITE_REJECTED
  | .HK_CTL, _ => some R.HK_STATUS.WRITE_REJECTED
  | .SP_CFG, [n] | .SP_TIMING, [n] | .SP_REF, [n] | .SP_SPAN, [n] | .SP_COEF, [n, _, _] | .SP_NTC, [n, _] =>
    some (R.SP_STATUS.WRITE_REJECTED n)
  | .REF_CFG, _ | .REF_LEN, _ => some R.THERM_STATUS.WRITE_REJECTED
  | _, _ => none

/-- A register of a trunk stream whose S field a write may change. -/
def trunkStreamReg : RegId → Bool
  | .STREAM_CFG | .EGQ_QUOTA | .LAYBY_QUOTA => true
  | _ => false

/-- A write is rejected where the block shows it. R10 sets the WRITE_REJECTED of the block's status, and the trunk block
has one in the status of each of its twelve lanes and none for a stream: which of the twelve shows a refused write of a
stream is open, a free value (DESIGN CHOICE, log 32). -/
def rejected (id : RegId) (ix : List Nat) (s : State) : State :=
  match rejectField id ix with
  | some f => s.setFlag f
  | none =>
    if trunkStreamReg id then
      let (v, s) := s.draw
      s.setFlag (R.LANE_STATUS.WRITE_REJECTED (v.toNat % 12))
    else s

/-! ### Tests of the chapters -/

/-- Groups of head h named by its assignment words, part-wide. -/
def State.groupsNamed (s : State) (h : Nat) : List Nat :=
  (List.range 128).filter (fun g =>
    bit (s.reg ((if h = 0 then R.HEAD_GROUPS_A.addr else R.HEAD_GROUPS_B.addr) (g / 32))).toNat (g % 32))

/-- The assignment of groups breaks R135: a group in both heads, more than 56 in one, or one that is not fitted. -/
def State.groupsBad (s : State) : Bool :=
  let a := s.groupsNamed 0
  let b := s.groupsNamed 1
  a.any (fun g => b.contains g) || decide (56 < a.length) || decide (56 < b.length) || (a ++ b).any (fun g => decide (16 * s.variant ≤ g))

/-- The AUX-fed loops together take more than 400,000 conversions a second (09_scanner_control.md R229): a loop converts at
100,000 ÷ (SAMPLE_DIV + 1). -/
def State.tooManyConversions (s : State) : Bool :=
  let l := [1, 3, 4, 5, 6, 7].filter (fun n => decide (n < 4) || decide (s.get (R.LOOP_CTL.FB_SRC n) = 4))
  let f := l.foldl (fun (x : Nat × Nat) n => let k := s.get (R.LOOP_CTL.SAMPLE_DIV n) + 1; (x.1 * k + x.2, x.2 * k)) (0, 1)
  decide (4 * f.2 < f.1)

/-- A write that would leave the registers as they stand in `s` is rejected by its chapter. -/
def State.configBad (s : State) (id : RegId) (ix : List Nat) : Bool :=
  match id, ix with
  | .HEAD_GROUPS_A, _ | .HEAD_GROUPS_B, _ => s.groupsBad
  | .LOOP_CTL, _ => s.tooManyConversions
  | .EGQ_QUOTA, _ => decide (33554432 < ((List.range 7).map s.egqQuota).sum)
  | .LAYBY_QUOTA, _ => decide (s.get R.LAYBY_SIZE.value < ((List.range 7).map (fun k => s.get (R.LAYBY_QUOTA.value k))).sum)
  | .LAYBY_BASE, _ | .LAYBY_SIZE, _ => s.zoneBad 0
  | .REPLAY_BASE, _ | .REPLAY_SIZE, _ => s.zoneBad 1
  | .REPLAY_IDX, _ => s.zoneBad 2
  | .REPLAY_CFG, _ => s.flag R.REPLAY_CFG.REPLAY_EN && s.trained && !s.flag R.MEM_STATUS.MEM_READY
  | .CAP_DRAM_BASE, _ | .CAP_DRAM_SIZE, _ => s.zoneBad 3
  | .PASR_MASK, [p] => s.maskBad p
  | _, _ => false

/-! ### Values a register keeps -/

/-- A two-bit field of which 3 is reserved, after a write (R9). -/
def kept3 (old x : Nat) : Nat := if x = 3 then old else x

/-- A write of SP_CFG would select M = 192 with Q = 3 (14_housekeeping.md R339): MLEN as written, with Q_M1 as it would
stand, a reserved Q_M1 standing as before. -/
def firRefused (old v : Nat) : Bool := decide (bits v 11 2 = 3 ∧ kept3 (bits old 13 2) (bits v 13 2) = 2)

/-- EXC_LEVEL of a write of SP_CFG is a reserved level of the KIND that the write leaves (14_housekeeping.md R338). -/
def levelReserved (old v : Nat) : Bool :=
  let k := kept3 (bits old 1 2) (bits v 1 2)
  decide ((k = 0 ∧ 6 ≤ bits v 3 3) ∨ (k = 1 ∧ 4 ≤ bits v 3 3))

/-- Fields whose write the register alone decides: read-only copies, reserved bits and levels that a table gives to one
index or to one kind (R9, 05_scan_out.md R139, 14_housekeeping.md R338), and pairs of values that are refused together
(R339). -/
def State.adjust (s : State) (id : RegId) (ix : List Nat) (old v : Nat) : Nat :=
  let keep := fun (lo w : Nat) (v : Nat) => withFields v [(lo, w, bits old lo w)]
  match id, ix with
  | .PACE_CFG, [d] => if d = 0 then v else old
  | .AUTH_CTL, _ | .AUTH_SIG, _ => old
  | .LOOP_CTL, [n] => if n < 4 then keep 16 4 v else v
  | .ERR_CLASS_CFG, [k] => if k = 17 then old else v
  | .REQ_HINT, [r] =>
    if r ≤ 2 ∨ r = 4 ∨ (8 ≤ r ∧ r ≤ 17) ∨ (24 ≤ r ∧ r ≤ 27) ∨ r = 32 ∨ r = 40 then v else keep 0 1 v
  | .SP_CFG, _ =>
    let v' := if firRefused old v then keep 11 4 v else v
    if levelReserved old v then keep 3 3 v' else v'
  | .HEAD_GROUPS_A, [3] | .HEAD_GROUPS_B, [3] => v % 2 ^ 16
  | .CH_STATUS, [d, c] => if (s.chan (192 * (d - 1) + c)).low then withFields v [(2, 1, 0)] else v
  | .LOOP_STATUS, _ => withFields v [(16, 4, if bits v 16 4 = 0 then bits old 16 4 else 0)]
  | _, _ => v

end Sys2Proof.Machine
end

