-- ==== Sys2Proof/Machine/Hooks.lean ====
section
/-! DEFINITION. What a register write does beyond the register's fields: the actions a written 1 requests (R12) and the
changes a block makes when a field of it takes a new value. -/

namespace Sys2Proof.Machine

/-- Run a state change where a condition holds. -/
def when_ (b : Bool) (f : State → State) (s : State) : State := if b then f s else s

/-- A field of a register changes between two words. -/
def changes (old new lo w : Nat) : Bool := decide (bits old lo w ≠ bits new lo w)

/-- CH_OFS written (R40): a new offset marks open ops TORN; while CMP_CAL_EN is clear the host's values stand
(15_thermal_calibration.md R359), so a target that was being approached is dropped. -/
def ofsHook (ch old new : Nat) (s : State) : State :=
  let s := when_ (changes old new 0 10 || changes old new 16 10) (tornChan ch) s
  when_ (!s.flag R.THERM_CTL.CMP_CAL_EN) (fun s =>
    let t := (s.therm.targets.put none (4 * ch) none).put none (4 * ch + 1) none
    { s with therm := { s.therm with targets := t } }) s

/-- The fields of HEAD_CTL beside SCAN_EN take new values (R130, R138). -/
def headFields (h old new : Nat) (s : State) : State :=
  let cleared := bits old 12 3 - (bits old 12 3 &&& bits new 12 3)
  let s := when_ (decide (cleared ≠ 0)) (fun s => s.modHead h (fun x =>
    { x with dirty := true, reads := x.reads.map (fun p => { p with mask := p.mask - (p.mask &&& 2 * cleared) }) })) s
  when_ (s.running h && decide (bits new 4 5 ≠ s.get (R.HEAD_STATUS.FORMAT_NOW h)))
    (fun s => s.modHead h (fun x => { x with fmtWritten := true })) s

/-- HEAD_CTL written (R130, R137, R138). -/
def headHook (h old new : Nat) (s : State) : State :=
  let s := headFields h old new s
  if bit new 0 then scanStart h s else stopHead h s

/-- SQ_CTL written (06_salrad.md R142, R176). -/
def sqHook (n v : Nat) (s : State) : State :=
  let s := when_ (bit v 2) (sqUnload n) s
  if bit v 0 then sqStart n s else sqStop n s

/-- DRV_CTL written (07_emitter_drive.md R186, R196). -/
def drvHook (h old new v : Nat) (s : State) : State :=
  let s := when_ (!bit old 0 && bit new 0) (driveOn h) s
  let s := when_ (bit old 0 && !bit new 0) (driveOff h) s
  when_ (bit v 1) (softStop h) s

/-- LOOP_CTL written (09_scanner_control.md R231, R236, R237). -/
def loopHook (n old new v : Nat) (s : State) : State :=
  let s := s.modLoop n (fun x => { x with modeReq := true })
  let s := when_ (decide (n = 0 ∨ n = 2) && !bit old 4 && bit new 4) (facetZero (n / 2)) s
  when_ (bit v 7) (rcClear n) s

/-- LOOP_STATUS written (R242): a fault cause that is cleared leaves MC_STATUS. -/
def faultHook (n old new : Nat) (s : State) : State :=
  when_ (decide (bits old 16 4 ≠ 0 ∧ bits new 16 4 = 0))
    (fun s => s.put R.MC_STATUS.FAULTED (s.get R.MC_STATUS.FAULTED &&& (255 - 2 ^ n))) s

/-- LANE_CTL written (10_trunk.md R257, R274, R275). -/
def laneHook (l old new v : Nat) (s : State) : State :=
  let s := laneEnable l (bit new 0) (s.putb (R.LANE_CTL.LANE_EN l) (bit old 0))
  let s := when_ (bit v 8) (injectBits l 1) s
  let s := when_ (bit v 9) (fun s => injectBits l (s.burstLen l) s) s
  let s := when_ (bit v 10) (injectCrc l) s
  when_ (bit v 11) (chkClear l) s

/-- REPLAY_EN written (12_stream_memory.md R312): the store starts empty; what is staged at the end is stored. -/
def replayHook (old new : Nat) (s : State) : State :=
  if !bit old 0 && bit new 0 then
    replayOldest (s.setDram { s.dram with ring := [], ringWr := 0, index := [], indexWr := 0, staged := [], skipped := false,
                                          wrapped := false })
  else when_ (bit old 0 && !bit new 0) replayStore s

/-- SP_CFG written (14_housekeeping.md R339 to R341): a pair of M and Q that is refused, a port that starts, an excitation
or gain that changes, a curve to expand. -/
def portHook (n old new v : Nat) (s : State) : State :=
  let s := when_ (firRefused old v) (fun s => s.setFlag (R.SP_STATUS.CFG_REJ n)) s
  let s := if !bit old 0 && bit new 0 then portEnable n s
    else when_ (changes old new 3 6) (portChange n) s
  when_ (changes old new 21 3 || decide (bits new 21 3 ≠ 0)) (curveExpand n) s

/-- AUTH_CTL written by a path (16_security_ledger.md R374). -/
def authHook (req v : Nat) (s : State) : State :=
  match sessPath req with
  | none => s
  | some p =>
    let s := s.setSess p { s.sess p with authRole := bits v 0 2 }
    let s := when_ (bit v 2) (authGo p) s
    when_ (bit v 3) (sessEnd p) s

/-- What a write that was not rejected does beyond the fields: `old` and `new` are the register's words before and after,
`v` the value written. Where one write requests several actions they take place in one order: IU_ARM, IU_ABORT, IU_SWSTOP
(02_channels_and_time.md R55 gives none: DESIGN CHOICE, log 109). -/
def writeHook (req : Nat) (id : RegId) (ix : List Nat) (old new v : Nat) (s : State) : State :=
  match id, ix with
  | .FAB_STATUS, _ => when_ (bit old 16 && !bit new 16) (fun s => s.put R.FAB_UNMAPPED_COUNT.UNMAPPED_COUNT 0) s
  | .PACE_CFG, [d] => when_ (decide (d = 0) && bit v 12) paceMinRestart s
  | .CH_CFG, [d, c] => when_ (changes old new 4 1) (tornChan (192 * (d - 1) + c)) s
  | .CH_OFS, [d, c] => ofsHook (192 * (d - 1) + c) old new s
  | .CH_WALK, [d, c, _] => when_ (decide (old ≠ new)) (tornChan (192 * (d - 1) + c)) s
  | .ANCHOR_CTL, _ => when_ (bit v 0) anchorGo s
  | .SYNC_CFG, _ => when_ (bit old 0 && !bit new 0) syncOff s
  | .IU_CTL, _ => when_ (bit v 14) iuSwstop (when_ (bit v 13) iuIdle (when_ (bit v 12) iuArm s))
  | .FU_CTL, _ => when_ (bit v 7) fuStart s
  | .REGION_CODE, [i] =>
    { s with pts := { s.pts with written := s.pts.written ++ ((List.range 8).map (8 * i + ·)).filter (fun k => !s.pts.written.contains k) } }
  | .HEAD_CTL, [h] => headHook h old new s
  | .P_W1, [h, _] | .P_W2, [h, _] | .P_X, [h, _] =>
    when_ (decide (old ≠ new)) (fun s => s.modHead h (fun x => { x with dirty := true })) s
  | .FROND_COMMIT, [h, f] => when_ (bit v 0) (commitFrond h f) s
  | .SQ_CTL, [n] => sqHook n v s
  | .EV_SOFT, _ => evSoft v s
  | .DRV_CTL, [h] => drvHook h old new v s
  | .BANK_CAL, [h, b] => s.modBank h b (fun x => { x with hostSlope := bits new 16 16, slopes := [], slopeStop := false })
  | .GUARD_CTL, _ => when_ (bit v 1) guardRestart (when_ (bit v 0) guardReset s)
  | .LOOP_CTL, [n] => loopHook n old new v s
  | .LOOP_STATUS, [n] => faultHook n old new s
  | .TR_CTL, _ => when_ (bit v 1) traceStop (when_ (bit v 0) traceStart s)
  | .LANE_CTL, [l] => laneHook l old new v s
  | .TW_CTL, _ => when_ (bit v 1) ownRelease s
  | .REPLAY_CFG, _ => replayHook old new s
  | .REQ_CTL, _ => when_ (bit v 1) replayAbort (when_ (bit v 0) replayStart s)
  | .CAP_CTL, _ => when_ (bit v 3) capForce (when_ (bit v 1) capReadout (when_ (bit v 0) capStop s))
  | .CAP_ARM, _ => when_ (bit v 4) (fun s => (capArm (bits v 0 4) s).1) s
  | .HK_CTL, _ => when_ (bit old 0 && !bit new 0) seqStop (when_ (!bit old 0 && bit new 0) seqStart s)
  | .SP_CFG, [n] => portHook n old new v s
  | .THERM_CTL, _ => when_ (bit v 6) calNow s
  | .SEC_STATUS, _ =>
    match sessPath req with
    | some p => when_ (bit v 7) (fun s => s.setSess p { s.sess p with fail := false }) s
    | none => s
  | .LEDG_CTL, _ => when_ (bit v 0) ledgGo s
  | .AUTH_CTL, _ => authHook req v s
  | .AUTH_SIG, [k] =>
    match sessPath req with
    | some p => s.setSess p { s.sess p with sig := withFields (s.sess p).sig [(32 * k, 32, v)] }
    | none => s
  | .ATT_CTL, _ => when_ (bit v 0) attGo s
  | .RST_CTL, _ => when_ (bit v 0 && decide (req ≤ 2)) recover s
  | .ERR_CTL, _ => when_ (bit v 0) errPop s
  | _, _ => s

end Sys2Proof.Machine
end

