-- ==== Sys2Proof/Machine/Bus.lean ====
section
/-! DEFINITION. An access to the part address space by a requester (01_architecture.md R26, R27): registers, SRAM windows
and DRAM, unmapped accesses, dark dies, roles (16_security_ledger.md R374 to R376) and a standby's blocks (11_twin.md R286). -/

namespace Sys2Proof.Machine

/-! ### Where an address lands -/

/-- What an address names: a register, a window of 32-bit words held as bytes, an SRAM window, DRAM, a reserved offset of
a register window, a dark die's window, or nothing. -/
inductive Target where
  | register (h : RegHit)
  | words (ro : Bool)
  | sram
  | egress
  | dram
  | reserved
  | dark
  | unmapped
  deriving DecidableEq, Repr

/-- Windows of words in the hub's register space: trace memory and repetitive tables (09_scanner_control.md R244, R246), and
the windows of the security block (16_security_ledger.md R382): whether they are read-only. -/
def wordWindow (a : Nat) : Option Bool :=
  if within a traceBase 0x400000 || within a rcBase 0x20000 || within a stagingBase 0x4000 then some false
  else if within a 0x53000 0x400 || within a ledgerBase 0x200000 then some true
  else none

/-- An offset of a ranging-die window that belongs to no channel: unmapped, as 00_scope.md R6 says of a write that names a
local channel above 191. R27 does not name a read of these offsets: it is taken as unmapped too (DESIGN CHOICE, log 108). -/
def channelGap (off : Nat) : Bool := within off 0x13000 0x1000 || within off 0x17000 0x1000

/-- The target of a register access, a multiple of 4 below 0x0800_0000. -/
def State.regTarget (s : State) (a : Nat) : Target :=
  let d := a / 0x1000000
  let off := a % 0x1000000
  if d = 0 then
    match wordWindow a with
    | some ro => .words ro
    | none =>
      match regHit a with
      | some h =>
        match h.def_.id, h.ix with
        | .CH_RANGE_W0, [n] | .CH_RANGE_W1, [n] => if s.chFitted n then .register h else .unmapped
        | _, _ => .register h
      | none => .reserved
  else if !s.dieFitted d || channelGap off then .unmapped
  else if s.dieDark d && (decide (off ≠ 0) || bit s.pts.linkDown d) then .dark
  else
    match regHit a with
    | some h => .register h
    | none => .reserved

/-- The target of an access of `size` bytes at a part address (R26, R27). -/
def State.target (s : State) (a size : Nat) : Target :=
  if a < 0x8000000 then (if size = 4 ∧ a % 4 = 0 then s.regTarget a else .unmapped)
  else if !(size == 1 || size == 2 || size == 4 || size == 8) || decide (a % size ≠ 0) then .unmapped
  else if egressBase ≤ a ∧ a < captureBase then .egress
  else if progBase ≤ a ∧ a < sramEnd then .sram
  else if dramBase ≤ a ∧ a < dramEnd then (if s.dramMapped (a - dramBase) then .dram else .unmapped)
  else .unmapped

/-! ### Reads -/

/-- What a read does to the state. -/
def readHook (req : Nat) (id : RegId) (ix : List Nat) (s : State) : State :=
  match id, ix with
  | .DEVTIME_LO, _ => { s with tb := { s.tb with snap := s.tb.snap.put 0 req (hi32 s.ns) } }
  | .SYNC_FIFO_LO, _ => (syncPop s).2
  | .IU_RESULT_HI, _ => iuIdle s
  | .RQ_POP_LO, _ => (rqPop s).2
  | .PRBS_BITS_LO, [l] => prbsCapture l s
  | _, _ => s

/-- The value a register read returns. -/
def State.regValue (s : State) (req a : Nat) (h : RegHit) : Nat :=
  match h.def_.id with
  | .RQ_POP_LO => (rqPop s).1
  | id => s.view req id h.ix (s.reg a).toNat

/-- A read of DRAM that the toll holds (12_stream_memory.md R308): what needs its value waits. -/
def State.readHeld (s : State) (req a size : Nat) : Bool :=
  decide (s.target a size = .dram) && s.dramHeld req (a - dramBase)

/-- A read by a requester: the value, and the state after it. An egress-buffer byte is a free value: the spec gives the
buffer's window and not how it is laid out (log 7). -/
def busRead (req a size : Nat) (s : State) : Nat × State :=
  match s.target a size with
  | .register h => (s.regValue req a h, readHook req h.def_.id h.ix s)
  | .words _ | .sram => (s.load a size, s)
  | .dram => (s.load a size, dramTouch req (a - dramBase) s)
  | .egress =>
    let (x, s) := s.draw
    let (y, s) := s.draw
    ((x.toNat + 2 ^ 32 * y.toNat) % 2 ^ (8 * size), s)
  | .reserved | .dark => (0, s)
  | .unmapped => (0, unmapped req a s)

/-! ### Writes -/

/-- The word a register would hold after a write that is not rejected. -/
def State.regNew (s : State) (a : Nat) (h : RegHit) (v : Nat) : Nat :=
  let old := (s.reg a).toNat
  FieldDef.word old (s.adjust h.def_.id h.ix old v) h.def_.fields

/-- A write of a register is rejected (R10): it would change an S field while its block runs, or leave registers that its
chapter refuses. -/
def State.regRefused (s : State) (a : Nat) (h : RegHit) (v : Nat) : Bool :=
  let old := (s.reg a).toNat
  let new := s.regNew a h v
  (FieldDef.staticChange old new h.def_.fields && s.blockRuns h.def_.id h.ix) ||
    (decide (old ≠ new) && (s.setReg a (BitVec.ofNat 32 new)).configBad h.def_.id h.ix)

/-- Write a register (R9 to R13). A threshold pair and a set-point are judged whole (02_channels_and_time.md R33,
09_scanner_control.md R234). -/
def regWrite (req a : Nat) (h : RegHit) (v : Nat) (s : State) : State :=
  match h.def_.id, h.ix with
  | .CH_THR, [d, c] => writeThr (192 * (d - 1) + c) v s
  | .SETPOINT, [n] => setpointWrite n v s
  | id, ix =>
    if s.regRefused a h v then rejected id ix s
    else
      let new := s.regNew a h v
      writeHook req id ix (s.reg a).toNat new v (s.setReg a (BitVec.ofNat 32 new))

/-- A word of a repetitive table is static while a running loop learns (09_scanner_control.md R241, R246). -/
def State.rcRefused (s : State) (a v : Nat) : Bool :=
  let n := (a - rcBase) / 0x4000
  s.loopRuns n && s.flag (R.LOOP_CTL.RC_LEARN n) && decide (s.load a 2 ≠ v % 65536)

/-- A word of a repetitive table is written: 16 bits. -/
def rcWrite (a v : Nat) (s : State) : State :=
  if s.rcRefused a v then s.setFlag (R.LOOP_STATUS.WRITE_REJECTED ((a - rcBase) / 0x4000)) else s.store a 2 v

/-- A write whose requester may make it. -/
def writeTarget (req a size v : Nat) (s : State) : State :=
  match s.target a size with
  | .register h => regWrite req a h (v % 2 ^ 32) s
  | .words ro => if ro then s else if within a rcBase 0x20000 then rcWrite a v s else s.store a 4 v
  | .sram => s.store a size v
  | .dram => dramAsk ⟨req, a - dramBase, size, true, v, 0⟩ s
  | .egress => s
  | .reserved | .dark => s
  | .unmapped => unmapped req a s

/-- The unit accepts a write to a block that it shares with its partner (11_twin.md R286). -/
def State.accepts (s : State) (a size v : Nat) : Bool :=
  shared a && match s.target a size with
    | .register h =>
      (match h.def_.id, h.ix with
       | .SETPOINT, [n] => s.setpointOk n
       | _, _ => !s.regRefused a h (v % 2 ^ 32))
    | .words _ => !s.rcRefused a v
    | .sram => true
    | _ => false

/-- A write to such a block by the standby's own host or program is rejected. -/
def standbyReject (a : Nat) (s : State) : State :=
  if within a rcBase 0x20000 then s.setFlag (R.LOOP_STATUS.WRITE_REJECTED ((a - rcBase) / 0x4000))
  else match regHit a with
    | some h => rejected h.def_.id h.ix s
    | none => s

/-! ### Roles (R374 to R376, R378) -/

/-- Writes that need no role: the session's and the quote's registers, a change request and its staging window. -/
def openWrite (a : Nat) : Bool :=
  a == R.AUTH_CTL.addr || within a (R.AUTH_SIG.addr 0) 64 || within a (R.ATT_NONCE.addr 0) 32 || a == R.ATT_CTL.addr
    || a == R.LEDG_CTL.addr || within a stagingBase 0x4000

/-- A role may request what a write to GUARD_CTL asks for: a guard reset is Integrator's or Service's, a restart
Operator's or Service's. -/
def guardRole (role v : Nat) : Bool :=
  (!bit v 0 || role == 1 || role == 3) && (!bit v 1 || role == 2 || role == 3)

/-- The requester may make the write. -/
def State.mayWrite (s : State) (req a v : Nat) : Bool :=
  !roleTested req || openWrite a ||
    match s.roleOf req with
    | none => false
    | some r => if a = R.GUARD_CTL.addr then guardRole r v else true

/-- A write refused for its role: ignored, and ROLE_REJ set for MSPI and the sequencers. -/
def roleReject (req : Nat) (s : State) : State := if req = 0 ∨ 8 ≤ req then s.setFlag R.SEC_STATUS.ROLE_REJ else s

/-- A write by a requester. An unmapped one is reported whoever makes it (R27): no region is there whose writers the roles
or a standby could limit. A unit that is aligned or stands by takes the shared blocks from its active alone; an active
forwards what it accepts (11_twin.md R286). -/
def busWrite (req a size v : Nat) (s : State) : State :=
  if s.target a size = .unmapped then unmapped req a s
  else if !s.mayWrite req a v then roleReject req s
  else if s.follower && roleTested req && shared a then standbyReject a s
  else if s.forwards a && s.accepts a size v then forward a size v (writeTarget req a size v s)
  else writeTarget req a size v s

/-- The word that writes one field: the register's other fields as the requester reads them, the value in the field, and 0
in the fields that only request an action or are cleared by a 1. -/
def State.fieldWord (s : State) (req : Nat) (f : Field) (h : RegHit) (v : Nat) : Nat :=
  let keep := h.def_.fields.filter (fun g => g.cls = .static || g.cls = .live || g.cls = .latched)
  let now := s.regValue req f.addr h
  withFields (withFields 0 (keep.map (fun g => (g.lo, g.w, bits now g.lo g.w)))) [(f.lo, f.w, v)]

/-- A write of one field by a requester. -/
def busField (req : Nat) (f : Field) (v : Nat) (s : State) : State :=
  match regHit f.addr with
  | some h => busWrite req f.addr 4 (s.fieldWord req f h v) s
  | none => s

end Sys2Proof.Machine
end

