-- ==== Sys2Proof/Machine/Actions.lean ====
section
/-! DEFINITION. The meanings of the commands that a requester gives by a register access, and of a DRAM access and an
image load. `req` is the requester (12_stream_memory.md R306). -/

namespace Sys2Proof.Machine

/-- A request to load an image (06_salrad.md R176), from a requester whose role may make it (16_security_ledger.md R376). -/
def imageRequest (req : Nat) (image : List Byte) (start : Bool) (s : State) : State :=
  let ok := !roleTested req || (match s.roleOf req with | some r => r == 1 || r == 2 || r == 3 | none => false)
  if ok then (loadImage false start (image.map BitVec.toNat) s).1 else roleReject req s

/-- A DRAM access (12_stream_memory.md R306 to R309): one held by the toll waits; a write of the replay writer moves its
staged copies; link errors count where the access takes place (R301). -/
def dramAccess (req addr size : Nat) (write : Bool) (val err : Nat) (s : State) : State :=
  if addr < dramBase ∨ dramEnd ≤ addr then s
  else
    match s.target addr size with
    | .dram =>
      if req = 0x1A ∧ write then
        (if s.dram.staged.isEmpty then s else linkError (addr - dramBase) err (replayStore s))
      else if write && !s.mayWrite req addr val then roleReject req s
      else dramAsk ⟨req, addr - dramBase, size, write, val, err⟩ s
    | _ => if write then busWrite req addr size val s else (busRead req addr size s).2

/-! ### Meanings -/

/-- REGISTER_WRITE (R9 to R13, R26, R27). -/
def execRegisterWrite (t req addr size val : Nat) (s : State) : Host.Outcome State Fault Refusal :=
  act t (busWrite req addr size val) s

/-- UNMAPPED_CLEAR (R27). -/
def execUnmappedClear (t req : Nat) (s : State) : Host.Outcome State Fault Refusal :=
  act t (busField req R.FAB_STATUS.UNMAPPED 1) s

/-- PACE_MIN_RESTART (R16). -/
def execPaceMinRestart (t req : Nat) (s : State) : Host.Outcome State Fault Refusal :=
  act t (busField req (R.PACE_CFG.PACE_MIN_RESTART 0) 1) s

/-- STUCK_HIGH_CLEAR (R37). -/
def execStuckHighClear (t req ch : Nat) (s : State) : Host.Outcome State Fault Refusal :=
  act t (busField req (R.CH_STATUS.STUCK_HIGH (chDie ch) (chLocal ch)) 1) s

/-- DROP_COUNT_CLEAR (R42). -/
def execDropCountClear (t req ch : Nat) (s : State) : Host.Outcome State Fault Refusal :=
  act t (busField req (R.CH_DROP_COUNT.DROP_COUNT (chDie ch) (chLocal ch)) 1) s

/-- CH_THR_WRITE (R33, R40). -/
def execChThrWrite (t req ch val : Nat) (s : State) : Host.Outcome State Fault Refusal :=
  act t (busWrite req (R.CH_THR.addr (chDie ch) (chLocal ch)) 4 val) s

/-- CHANNEL_DISABLE (R41). -/
def execChannelDisable (t req ch : Nat) (s : State) : Host.Outcome State Fault Refusal :=
  act t (busField req (R.CH_CFG.CH_EN (chDie ch) (chLocal ch)) 0) s

/-- DEVTIME_SNAPSHOT (R47). -/
def execDevtimeSnapshot (t req : Nat) (s : State) : Host.Outcome State Fault Refusal :=
  act t (fun s => (busRead req R.DEVTIME_LO.addr 4 s).2) s

/-- ANCHOR_GO (R49, R50). -/
def execAnchorGo (t req : Nat) (s : State) : Host.Outcome State Fault Refusal :=
  act t (busField req R.ANCHOR_CTL.ANCHOR_GO 1) s

/-- SYNC_FIFO_POP (R52). -/
def execSyncFifoPop (t req : Nat) (s : State) : Host.Outcome State Fault Refusal :=
  act t (fun s => (busRead req R.SYNC_FIFO_LO.addr 4 s).2) s

/-- IU_ARM (R54, R55). -/
def execIuArm (t req : Nat) (s : State) : Host.Outcome State Fault Refusal := act t (busField req R.IU_CTL.IU_ARM 1) s

/-- IU_SWSTOP (R54). -/
def execIuSwstop (t req : Nat) (s : State) : Host.Outcome State Fault Refusal := act t (busField req R.IU_CTL.IU_SWSTOP 1) s

/-- IU_ABORT (R55). -/
def execIuAbort (t req : Nat) (s : State) : Host.Outcome State Fault Refusal := act t (busField req R.IU_CTL.IU_ABORT 1) s

/-- IU_RESULT_READ (R55). -/
def execIuResultRead (t req : Nat) (s : State) : Host.Outcome State Fault Refusal :=
  act t (fun s => (busRead req R.IU_RESULT_HI.addr 4 s).2) s

/-- FU_START (R57). -/
def execFuStart (t req : Nat) (s : State) : Host.Outcome State Fault Refusal := act t (busField req R.FU_CTL.FU_START 1) s

/-- FROND_COMMIT (R131). -/
def execFrondCommit (t req : Nat) (head : Fin 2) (frond : Fin 4) (s : State) : Host.Outcome State Fault Refusal :=
  act t (busField req (R.FROND_COMMIT.COMMIT head frond) 1) s

/-- SCAN_START (R137). -/
def execScanStart (t req : Nat) (head : Fin 2) (s : State) : Host.Outcome State Fault Refusal :=
  act t (busField req (R.HEAD_CTL.SCAN_EN head) 1) s

/-- SCAN_STOP (R137). -/
def execScanStop (t req : Nat) (head : Fin 2) (s : State) : Host.Outcome State Fault Refusal :=
  act t (busField req (R.HEAD_CTL.SCAN_EN head) 0) s

/-- SQ_RUN (R142). -/
def execSqRun (t req : Nat) (n : Fin 8) (s : State) : Host.Outcome State Fault Refusal :=
  act t (busField req (R.SQ_CTL.RUN n) 1) s

/-- SQ_STOP (R142). -/
def execSqStop (t req : Nat) (n : Fin 8) (s : State) : Host.Outcome State Fault Refusal :=
  act t (busField req (R.SQ_CTL.RUN n) 0) s

/-- SQ_UNLOAD (R176). -/
def execSqUnload (t req : Nat) (n : Fin 8) (s : State) : Host.Outcome State Fault Refusal :=
  act t (busField req (R.SQ_CTL.UNLOAD n) 1) s

/-- EV_SOFT (R151). -/
def execEvSoft (t req mask : Nat) (s : State) : Host.Outcome State Fault Refusal :=
  act t (busWrite req R.EV_SOFT.addr 4 mask) s

/-- IMAGE_LOAD (R175, R176; 16_security_ledger.md R376). -/
def execImageLoad (t req : Nat) (image : List Byte) (start : Bool) (s : State) : Host.Outcome State Fault Refusal :=
  act t (imageRequest req image start) s

/-- DRIVE_ENABLE (R186). -/
def execDriveEnable (t req : Nat) (head : Fin 2) (s : State) : Host.Outcome State Fault Refusal :=
  act t (busField req (R.DRV_CTL.DRV_EN head) 1) s

/-- SOFT_STOP (R196). -/
def execSoftStop (t req : Nat) (head : Fin 2) (s : State) : Host.Outcome State Fault Refusal :=
  act t (busField req (R.DRV_CTL.SOFT_STOP head) 1) s

/-- GUARD_RESTART (R208). -/
def execGuardRestart (t req : Nat) (s : State) : Host.Outcome State Fault Refusal :=
  act t (busField req R.GUARD_CTL.GUARD_RESTART 1) s

/-- GUARD_RESET (R219, R220). -/
def execGuardReset (t req : Nat) (s : State) : Host.Outcome State Fault Refusal :=
  act t (busField req R.GUARD_CTL.GUARD_RESET 1) s

/-- SETPOINT_WRITE (R234). -/
def execSetpointWrite (t req : Nat) (n : Fin 8) (val : BitVec 32) (s : State) : Host.Outcome State Fault Refusal :=
  act t (busWrite req (R.SETPOINT.addr n) 4 val.toNat) s

/-- RC_CLEAR (R237). -/
def execRcClear (t req : Nat) (n : Fin 8) (s : State) : Host.Outcome State Fault Refusal :=
  act t (busField req (R.LOOP_CTL.RC_CLEAR n) 1) s

/-- TR_START (R245). -/
def execTrStart (t req : Nat) (s : State) : Host.Outcome State Fault Refusal := act t (busField req R.TR_CTL.TR_START 1) s

/-- TR_STOP (R245). -/
def execTrStop (t req : Nat) (s : State) : Host.Outcome State Fault Refusal := act t (busField req R.TR_CTL.TR_STOP 1) s

/-- LANE_ENABLE (R257). -/
def execLaneEnable (t req : Nat) (lane : Fin 16) (on : Bool) (s : State) : Host.Outcome State Fault Refusal :=
  act t (busField req (R.LANE_CTL.LANE_EN lane) (b2n on)) s

/-- CHK_CLEAR (R274). -/
def execChkClear (t req : Nat) (lane : Fin 16) (s : State) : Host.Outcome State Fault Refusal :=
  act t (busField req (R.LANE_CTL.CHK_CLEAR lane) 1) s

/-- INJ_BIT (R275). -/
def execInjBit (t req : Nat) (lane : Fin 16) (s : State) : Host.Outcome State Fault Refusal :=
  act t (busField req (R.LANE_CTL.INJ_BIT lane) 1) s

/-- INJ_BURST (R275). -/
def execInjBurst (t req : Nat) (lane : Fin 16) (s : State) : Host.Outcome State Fault Refusal :=
  act t (busField req (R.LANE_CTL.INJ_BURST lane) 1) s

/-- INJ_CRC (R275). -/
def execInjCrc (t req : Nat) (lane : Fin 16) (s : State) : Host.Outcome State Fault Refusal :=
  act t (busField req (R.LANE_CTL.INJ_CRC lane) 1) s

/-- OWN_RELEASE (R290). -/
def execOwnRelease (t req : Nat) (s : State) : Host.Outcome State Fault Refusal := act t (busField req R.TW_CTL.RELEASE 1) s

/-- DRAM_ACCESS (R305 to R310, R301). -/
def execDramAccess (t req addr size : Nat) (write : Bool) (val : Nat) (linkErr : Fin 3) (s : State) : Host.Outcome State Fault Refusal :=
  act t (dramAccess req addr size write val linkErr) s

/-- REPLAY_START (R314). -/
def execReplayStart (t req : Nat) (s : State) : Host.Outcome State Fault Refusal := act t (busField req R.REQ_CTL.REQ_GO 1) s

/-- REPLAY_ABORT (R314). -/
def execReplayAbort (t req : Nat) (s : State) : Host.Outcome State Fault Refusal :=
  act t (busField req R.REQ_CTL.REQ_ABORT 1) s

/-- CAPTURE_ARM (R321). -/
def execCaptureArm (t req : Nat) (setup : Fin 16) (s : State) : Host.Outcome State Fault Refusal :=
  act t (busWrite req R.CAP_ARM.addr 4 (setup + 16)) s

/-- CAP_FORCE (R324). -/
def execCapForce (t req : Nat) (s : State) : Host.Outcome State Fault Refusal := act t (busField req R.CAP_CTL.CAP_FORCE 1) s

/-- CAP_STOP (R327). -/
def execCapStop (t req : Nat) (s : State) : Host.Outcome State Fault Refusal := act t (busField req R.CAP_CTL.CAP_STOP 1) s

/-- READOUT (R329). -/
def execReadout (t req : Nat) (s : State) : Host.Outcome State Fault Refusal := act t (busField req R.CAP_CTL.READOUT 1) s

/-- SEQ_START (R333). -/
def execSeqStart (t req : Nat) (s : State) : Host.Outcome State Fault Refusal := act t (busField req R.HK_CTL.SEQ_EN 1) s

/-- RQ_POP (R334). -/
def execRqPop (t req : Nat) (s : State) : Host.Outcome State Fault Refusal :=
  act t (fun s => (busRead req R.RQ_POP_LO.addr 4 s).2) s

/-- PORT_ENABLE (R340). -/
def execPortEnable (t req : Nat) (n : Fin 8) (s : State) : Host.Outcome State Fault Refusal :=
  act t (busField req (R.SP_CFG.PORT_EN n) 1) s

/-- CURVE_EXPAND (R341). -/
def execCurveExpand (t req : Nat) (n curve : Fin 8) (s : State) : Host.Outcome State Fault Refusal :=
  act t (busField req (R.SP_CFG.CURVE n) curve) s

/-- CAL_NOW (R359). -/
def execCalNow (t req : Nat) (s : State) : Host.Outcome State Fault Refusal := act t (busField req R.THERM_CTL.CAL_NOW 1) s

/-- ATT_GO (R372). -/
def execAttGo (t req : Nat) (s : State) : Host.Outcome State Fault Refusal := act t (busField req R.ATT_CTL.ATT_GO 1) s

/-- AUTH_GO (R374). -/
def execAuthGo (t req : Nat) (s : State) : Host.Outcome State Fault Refusal := act t (busField req R.AUTH_CTL.AUTH_GO 1) s

/-- SESS_END (R374). -/
def execSessEnd (t req : Nat) (s : State) : Host.Outcome State Fault Refusal := act t (busField req R.AUTH_CTL.SESS_END 1) s

/-- LEDG_GO (R378, R379). -/
def execLedgGo (t req : Nat) (s : State) : Host.Outcome State Fault Refusal := act t (busField req R.LEDG_CTL.LEDG_GO 1) s

/-- ERR_POP (R396). -/
def execErrPop (t req : Nat) (s : State) : Host.Outcome State Fault Refusal := act t (busField req R.ERR_CTL.ERR_POP 1) s

/-- RECOVER (R400). -/
def execRecover (t req : Nat) (s : State) : Host.Outcome State Fault Refusal := act t (busField req R.RST_CTL.RECOVER 1) s

end Sys2Proof.Machine
end

