-- ==== Sys2Proof/Machine/Ctrl.lean ====
section
/-! DEFINITION. The CTRL stream (10_trunk.md R271): requests of a port are executed in order under the port's role and
answered in the same order, port 0 on stream 0 and port 1 on its own CTRL stream. -/

namespace Sys2Proof.Machine

/-- The fields of a request of 16 bytes: its OP, its TAG, its address and its data. -/
def ctrlOp (r : Nat) : Nat := bits r 0 8
def ctrlTag (r : Nat) : Nat := bits r 16 16
def ctrlAddr (r : Nat) : Nat := bits r 32 40
def ctrlData (r : Nat) : Nat := bits r 96 32

/-- A response entry: its OP is the request's with bit 7 set (DEDUCED, log 18). -/
def ctrlAnswer (r status data : Nat) : Rec :=
  ⟨16, wordsNat [(ctrlOp r ||| 0x80) + 2 ^ 8 * status + 2 ^ 16 * ctrlTag r, lo32 (ctrlAddr r), bits (ctrlAddr r) 32 8, data]⟩

/-- The port's CTRL stream. -/
def ctrlStream (p : Nat) : Nat := if p = 0 then 0 else 7

/-- The request is a read or a write of DRAM that the toll holds (12_stream_memory.md R308): it waits, and so do those behind
it (R307). -/
def State.ctrlHeld (s : State) (p r : Nat) : Bool :=
  decide (ctrlOp r = 1 ∨ ctrlOp r = 2) && s.readHeld (1 + p) (ctrlAddr r) 4

/-- The oldest request of a port leaves its queue and is answered; `f` executes it and gives STATUS and data. -/
def ctrlServe (p : Nat) (may : Nat → Bool) (f : Nat → State → Nat × Nat × State) (s : State) : State :=
  let x := s.port p
  match x.reqs with
  | (_, r) :: rest =>
    if may (ctrlOp r) && !s.ctrlHeld p r then
      let (status, data, s) := f r (s.setPort p { x with reqs := rest, creditDue := true })
      pushStream (ctrlStream p) {} (ctrlAnswer r status data) s
    else s
  | [] => s

/-- A read request: open to every role. -/
def ctrlReadReq (p r : Nat) (s : State) : Nat × Nat × State :=
  let x := busRead (1 + p) (ctrlAddr r) 4 s
  (0, x.1, x.2)

/-- A write request: STATUS 1 where the session's role may not make it; an unmapped one is ignored and reported as any
(01_architecture.md R27). -/
def ctrlWriteReq (p r : Nat) (s : State) : Nat × Nat × State :=
  if s.target (ctrlAddr r) 4 = .unmapped || s.mayWrite (1 + p) (ctrlAddr r) (ctrlData r) then (0, 0, busWrite (1 + p) (ctrlAddr r) 4 (ctrlData r) s) else (1, 0, s)

/-! ### Meanings -/

/-- CTRL_READ (R271). -/
def execCtrlRead (t : Nat) (port : Fin 2) (s : State) : Host.Outcome State Fault Refusal :=
  act t (ctrlServe port (fun op => op = 1) (ctrlReadReq port)) s

/-- CTRL_WRITE (R271; 16_security_ledger.md R376). -/
def execCtrlWrite (t : Nat) (port : Fin 2) (s : State) : Host.Outcome State Fault Refusal :=
  act t (ctrlServe port (fun op => op = 2) (ctrlWriteReq port)) s

/-- CTRL_UNKNOWN_OP (16_security_ledger.md R376): STATUS 2. -/
def execCtrlUnknownOp (t : Nat) (port : Fin 2) (s : State) : Host.Outcome State Fault Refusal :=
  act t (ctrlServe port (fun op => op ≠ 1 && op ≠ 2) (fun _ s => (2, 0, s))) s

end Sys2Proof.Machine
end

