-- ==== Sys2Proof/Machine/Salrad.lean ====
section
/-! DEFINITION. The frame of a Salrad instruction (06_salrad.md R140, R146 to R149, R172): its fields, what makes it legal,
the guarding predicate, the program counter, faults and waiting; and the plain instructions: arithmetic, compares,
predicates, branches. -/

namespace Sys2Proof.Machine

/-! ### Encoding (R146, R148, R149) -/

/-- The fields of an instruction word. -/
structure Ins where
  opc : Nat
  dst : Nat
  a : Nat
  b : Nat
  pred : Nat
  psense : Bool
  imm : Nat
  deriving DecidableEq, Repr

/-- The fields of a 64-bit word. -/
def insOf (w : Nat) : Ins :=
  { opc := bits w 56 8, dst := bits w 51 5, a := bits w 46 5, b := bits w 41 5, pred := bits w 38 3, psense := bit w 37,
    imm := bits w 0 37 }

/-- What a register field of an instruction names: nothing, a group of that many general registers, or a predicate. -/
inductive Use where
  | none
  | greg (n : Nat)
  | pred
  deriving DecidableEq, Repr

/-- How an opcode uses its fields: DST, SRCA, SRCB, and the bits of IMM that its layout does not reserve. -/
structure Layout where
  dst : Use := .none
  a : Use := .none
  b : Use := .none
  imm : Nat := 0
  deriving DecidableEq, Repr

/-- One register of a field. -/
def Use.one : Use := .greg 1

/-- The layouts of the operand shapes: d a b; d a I; d I; p a b; p a I. -/
def Layout.dab : Layout := { dst := .one, a := .one, b := .one }
def Layout.dai : Layout := { dst := .one, a := .one, imm := 0xFFFFFFFF }
def Layout.di : Layout := { dst := .one, imm := 0xFFFFFFFF }
def Layout.pab : Layout := { dst := .pred, a := .one, b := .one }
def Layout.pai : Layout := { dst := .pred, a := .one, imm := 0xFFFFFFFF }

/-- The opcodes of R149 that compute on general registers. -/
def opcodesArith : List (Nat × Layout) :=
  [(0x00, {}), (0x01, .dab), (0x02, .dai), (0x03, .dab), (0x04, .dab), (0x05, .dai), (0x06, .dab), (0x07, .dai),
   (0x08, .dab), (0x09, .dai), (0x0A, .dab), (0x0B, .dai), (0x0C, .dab), (0x0D, .dai), (0x0E, .dab), (0x0F, .dai),
   (0x10, .dab), (0x11, .dab), (0x12, .dab), (0x13, .dab), (0x14, .dab), (0x15, .dab), (0x16, .dab), (0x17, .di), (0x18, .dai)]

/-- The opcodes of R149 that write a predicate. -/
def opcodesPred : List (Nat × Layout) :=
  [(0x20, .pab), (0x21, .pab), (0x22, .pab), (0x23, .pab), (0x24, .pab), (0x25, .pab), (0x26, .pai),
   (0x27, .pai), (0x28, .pai), (0x29, .pai), (0x2A, .pai), (0x2C, { dst := .pred, a := .pred, b := .pred }),
   (0x2D, { dst := .pred, a := .pred, b := .pred }), (0x2E, { dst := .pred, a := .pred }), (0x2F, .pai)]

/-- The opcodes of R149 that steer the flow, wait or read time and events. -/
def opcodesFlow : List (Nat × Layout) :=
  [(0x30, { imm := 0x1FFFF }), (0x31, { a := .one }), (0x32, { imm := 0x1FFFF }), (0x33, {}),
   (0x34, { a := .one, imm := 0x1FFFF }), (0x35, {}), (0x36, {}), (0x37, { imm := 0xFFFFFF }), (0x38, { dst := .greg 2 }),
   (0x39, { dst := .one, imm := 0x1F }), (0x40, { dst := .one, a := .one, b := .one, imm := 0xFFFFFF }),
   (0x41, { dst := .one, imm := 0x3FFFFFFF }), (0x42, { imm := 0xF }), (0x43, { a := .one, b := .one })]

/-- The opcodes of R149 that reach memory and the other blocks. An opcode of none of the four tables is reserved. -/
def opcodesSteer : List (Nat × Layout) :=
  [(0x50, { dst := .one, a := .one, imm := 0x3FFFFFFF }), (0x51, { a := .one, b := .one, imm := 0x3FFFFFFF }), (0x52, {}),
   (0x53, { a := .one }), (0x54, { dst := .one, a := .one, b := .one, imm := 0x3FFFFFFF }),
   (0x60, { a := .one, b := .greg 2, imm := 0x1FF }), (0x61, { dst := .one, a := .one, b := .one, imm := 0xF }),
   (0x62, { imm := 0x1FF }), (0x63, { dst := .one, a := .one, imm := 1 }), (0x64, { a := .one, b := .one, imm := 0x1FFF }),
   (0x70, { dst := .one, a := .greg 4, b := .greg 4, imm := 0xFF }), (0x71, { dst := .greg 4 }), (0x72, { imm := 0x1FF }),
   (0x80, { a := .one, imm := 0x7F }), (0x81, { a := .one, imm := 0xFF }), (0x90, { dst := .greg 8, a := .one }),
   (0x91, { a := .greg 8, b := .one, imm := 1 }), (0x92, { dst := .one, a := .one, imm := 0xFF }),
   (0xA0, { dst := .one, a := .greg 2, b := .greg 2 }), (0xA1, { a := .greg 2, imm := 1 }),
   (0xB0, { dst := .one, imm := 0xF }), (0xC0, { a := .one, imm := 7 }), (0xC1, { dst := .one, imm := 0x7F })]

/-- The layout of an opcode; none for a reserved opcode. -/
def layoutOf (opc : Nat) : Option Layout := (opcodesArith ++ opcodesPred ++ opcodesFlow ++ opcodesSteer).lookup opc

/-- A register field is used as its layout allows: an unused field is 0, a group ends by g31, a predicate has [4:3] = 0. -/
def Use.allows (u : Use) (x : Nat) : Bool :=
  match u with
  | .none => decide (x = 0)
  | .greg n => decide (x + n ≤ 32)
  | .pred => decide (x < 8)

/-- Size field of LD, ST and AMOADD, and their space (R150). -/
def Ins.size (i : Ins) : Nat := 2 ^ bits i.imm 27 2
def Ins.space (i : Ins) : Nat := bits i.imm 24 3

/-- What single opcodes add: an 8-byte LD or ST needs a pair of registers, AMOADD has space 0 and size 4 (R150), HOP to the
next code has SRCA 0 (R165). -/
def Ins.special (i : Ins) : Bool :=
  match i.opc with
  | 0x50 => decide (i.size < 8 ∨ i.dst < 31)
  | 0x51 => decide (i.size < 8 ∨ i.b < 31)
  | 0x54 => decide (i.space = 0 ∧ i.size = 4)
  | 0x81 => !bit i.imm 7 || decide (i.a = 0)
  | _ => true

/-- The instruction is legal (R148). -/
def Ins.legal (i : Ins) (l : Layout) : Bool :=
  l.dst.allows i.dst && l.a.allows i.a && l.b.allows i.b && decide (i.imm &&& l.imm = i.imm) && i.special

/-! ### Registers and predicates (R140, R147) -/

/-- General register k of sequencer n, and a write of it. -/
def State.greg (s : State) (n k : Nat) : Nat := s.get (R.SQ_GREG.GREG n k)
def State.setGreg (s : State) (n k v : Nat) : State := s.put (R.SQ_GREG.GREG n k) v

/-- Predicate k: p0 is always 1. -/
def State.predicate (s : State) (n k : Nat) : Bool := if k = 0 then true else bit (s.get (R.SQ_PRED.PRED n)) (k - 1)

/-- Write predicate k: a write of p0 is ignored. -/
def State.setPredicate (s : State) (n k : Nat) (v : Bool) : State :=
  if k = 0 then s else s.put ⟨R.SQ_PRED.addr n, k, 1⟩ (b2n v)

/-- Write consecutive general registers, the first word to register k. -/
def State.setGregs (s : State) (n k : Nat) : List Nat → State
  | [] => s
  | v :: r => State.setGregs (s.setGreg n k v) n (k + 1) r

/-- The instruction executes (R147). -/
def State.executes (s : State) (n : Nat) (i : Ins) : Bool := s.predicate n i.pred != i.psense

/-- An instruction index lies in the sequencer's span. -/
def State.inSpan (s : State) (n pc : Nat) : Bool :=
  decide (s.get (R.SQ_SPAN_LO.SPAN_LO n) ≤ pc ∧ pc ≤ s.get (R.SQ_SPAN_HI.SPAN_HI n))

/-- The requester identity of a sequencer (12_stream_memory.md R306). -/
def seqReq (n : Nat) : Nat := 8 + n

/-! ### The frame of an instruction -/

/-- How an instruction ends: at the next instruction, at another, in HALTED, in WAITING, or in a fault; or it has not begun,
because the toll holds the access to DRAM that it needs (12_stream_memory.md R308). -/
inductive Flow where
  | next
  | jump (target : Nat)
  | halt
  | wait (w : Wait)
  | fault (cause : Nat)
  | stall
  deriving DecidableEq, Repr

/-- An instruction's effect: sequencer, fields and state before; state after and how it ends. -/
abbrev Body : Type := Nat → Ins → State → State × Flow

/-- The instruction in front of sequencer n. -/
def State.insAt (s : State) (n : Nat) : Ins := insOf (s.load (progBase + 8 * s.get (R.SQ_PC.PC n)) 8)

/-- The program counter moves and the instruction is counted. -/
def seqAdvance (n pc : Nat) (s : State) : State := (s.put (R.SQ_PC.PC n) pc).bump (R.SQ_INSTR.INSTR n)

/-- The end of an instruction that was in front of `s` and made `s'`. A target or a fall-through outside the span is a
PC_RANGE fault; a fault leaves the state before the instruction (R149, R172). A sequencer that waits keeps its SQ_PC until
the wait ends. -/
def seqEnd (n : Nat) (s s' : State) (f : Flow) : State :=
  let pc := s.get (R.SQ_PC.PC n)
  match f with
  | .next => if s.inSpan n (pc + 1) then seqAdvance n (pc + 1) s' else seqFault n 4 s
  | .jump t => if s.inSpan n t then seqAdvance n t s' else seqFault n 4 s
  | .halt => (seqAdvance n (pc + 1) s').put (R.SQ_STATUS.STATE n) 4
  | .wait w =>
    if s.inSpan n (pc + 1) then
      (seqAdvance n pc (s'.setSeq n { s'.seq n with wait := some w })).put (R.SQ_STATUS.STATE n) 3
    else seqFault n 4 s
  | .fault c => seqFault n c s
  | .stall => s

/-- An instruction that does not execute (R147): SQ_PC alone moves on, and SQ_INSTR, which counts instructions executed,
stays. -/
def seqSkip (n : Nat) (s : State) : State :=
  let pc := s.get (R.SQ_PC.PC n)
  if s.inSpan n (pc + 1) then s.put (R.SQ_PC.PC n) (pc + 1) else seqFault n 4 s

/-- Sequencer n executes the instruction in front of it, where that is the row's (R147 to R149): nothing happens where the
sequencer is not RUNNING, where the policy holds it (log 97), or where another instruction is in front; a word that is illegal or lies outside the span faults. -/
def seqInstr (n opc : Nat) (body : Body) (s : State) : State :=
  if s.sqState n ≠ 2 ∨ s.policyHolds n then s
  else if !s.inSpan n (s.get (R.SQ_PC.PC n)) then seqFault n 4 s
  else
    let i := s.insAt n
    match layoutOf i.opc with
    | none => seqFault n 1 s
    | some l =>
      if i.opc ≠ opc then s
      else if !i.legal l then seqFault n 1 s
      else if s.executes n i then seqEnd n s (body n i s).1 (body n i s).2
      else seqSkip n s

/-- The meaning of an instruction. -/
def seqAct (t : Nat) (n : Fin 8) (opc : Nat) (body : Body) (s : State) : Host.Outcome State Fault Refusal :=
  act t (seqInstr n opc body) s

/-! ### Shapes of plain instructions -/

/-- d ← f a b. -/
def bodyDab (f : Nat → Nat → Nat) : Body := fun n i s => (s.setGreg n i.dst (f (s.greg n i.a) (s.greg n i.b)), .next)

/-- d ← f a I, where I is IMM[31:0]. -/
def bodyDai (f : Nat → Nat → Nat) : Body := fun n i s => (s.setGreg n i.dst (f (s.greg n i.a) (bits i.imm 0 32)), .next)

/-- p ← f a b. -/
def bodyPab (f : Nat → Nat → Bool) : Body :=
  fun n i s => (s.setPredicate n i.dst (f (s.greg n i.a) (s.greg n i.b)), .next)

/-- p ← f a I. -/
def bodyPai (f : Nat → Nat → Bool) : Body :=
  fun n i s => (s.setPredicate n i.dst (f (s.greg n i.a) (bits i.imm 0 32)), .next)

/-- p ← f p q. -/
def bodyPqr (f : Bool → Bool → Bool) : Body :=
  fun n i s => (s.setPredicate n i.dst (f (s.predicate n (i.a % 8)) (s.predicate n (i.b % 8))), .next)

/-! ### 32-bit arithmetic (R149) -/

def sub32 (a b : Nat) : Nat := a + 2 ^ 32 - b % 2 ^ 32
def shl32 (a b : Nat) : Nat := a * 2 ^ (b % 32) % 2 ^ 32
def shr32 (a b : Nat) : Nat := a / 2 ^ (b % 32)
def sar32 (a b : Nat) : Nat := ofInt 32 (sgn 32 a / (2 ^ (b % 32) : Nat))
def mulhs32 (a b : Nat) : Nat := ofInt 32 (sgn 32 a * sgn 32 b / (2 ^ 32 : Nat))
def divu32 (a b : Nat) : Nat := if b = 0 then 0xFFFFFFFF else a / b
def slt32 (a b : Nat) : Bool := decide (sgn 32 a < sgn 32 b)
def min32 (a b : Nat) : Nat := if slt32 b a then b else a
def max32 (a b : Nat) : Nat := if slt32 a b then b else a

/-! ### Branches, HALT, KICK, TIME, FSTAT, SIG, EVCLR -/

/-- LOOP: a ← a - 1; a branch while the result is not 0. -/
def bodyLoop : Body := fun n i s =>
  let r := sub32 (s.greg n i.a) 1 % 2 ^ 32
  (s.setGreg n i.a r, if r = 0 then .next else .jump (bits i.imm 0 17))

/-- CALL: g31 ← PC + 1. -/
def bodyCall : Body := fun n i s => (s.setGreg n 31 (s.get (R.SQ_PC.PC n) + 1), .jump (bits i.imm 0 17))

/-- KICK restarts the watchdog interval (R173). -/
def bodyKick : Body := fun n _ s => (s.setSeq n { s.seq n with kick := s.now }, .next)

/-- TIME: both words from one instant. -/
def bodyTime : Body := fun n i s => (s.setGregs n i.dst [lo32 s.ns, hi32 s.ns], .next)

/-- FSTAT (R169): item IMM[4:1] of head IMM[0]. -/
def bodyFstat : Body := fun n i s =>
  (s.setGreg n i.dst (s.pts.fstat.get 0 (16 * bits i.imm 0 1 + bits i.imm 1 4)), .next)

/-- The mask {b, a} of WAIT and EVCLR. -/
def Ins.mask (s : State) (n : Nat) (i : Ins) : Nat := s.greg n i.a + 2 ^ 32 * s.greg n i.b

/-- Clear the pending bits of a mask; level lines pend again where their condition holds (R151). -/
def clearPending (n mask : Nat) (s : State) : State := levels (s.setPend n (s.pend n - (s.pend n &&& mask)))

/-- EVCLR. -/
def bodyEvclr : Body := fun n i s => (clearPending n (Ins.mask s n i) s, .next)

/-! ### Meanings -/

/-- NOP (R149). -/
def execNop (t : Nat) (n : Fin 8) (s : State) : Host.Outcome State Fault Refusal :=
  seqAct t n 0x00 (fun _ _ s => (s, .next)) s

/-- ADD (R149). -/
def execAdd (t : Nat) (n : Fin 8) (s : State) : Host.Outcome State Fault Refusal := seqAct t n 0x01 (bodyDab (· + ·)) s

/-- ADDI (R149). -/
def execAddi (t : Nat) (n : Fin 8) (s : State) : Host.Outcome State Fault Refusal := seqAct t n 0x02 (bodyDai (· + ·)) s

/-- SUB (R149). -/
def execSub (t : Nat) (n : Fin 8) (s : State) : Host.Outcome State Fault Refusal := seqAct t n 0x03 (bodyDab sub32) s

/-- AND (R149). -/
def execAnd (t : Nat) (n : Fin 8) (s : State) : Host.Outcome State Fault Refusal := seqAct t n 0x04 (bodyDab (· &&& ·)) s

/-- ANDI (R149). -/
def execAndi (t : Nat) (n : Fin 8) (s : State) : Host.Outcome State Fault Refusal := seqAct t n 0x05 (bodyDai (· &&& ·)) s

/-- OR (R149). -/
def execOr (t : Nat) (n : Fin 8) (s : State) : Host.Outcome State Fault Refusal := seqAct t n 0x06 (bodyDab (· ||| ·)) s

/-- ORI (R149). -/
def execOri (t : Nat) (n : Fin 8) (s : State) : Host.Outcome State Fault Refusal := seqAct t n 0x07 (bodyDai (· ||| ·)) s

/-- XOR (R149). -/
def execXor (t : Nat) (n : Fin 8) (s : State) : Host.Outcome State Fault Refusal := seqAct t n 0x08 (bodyDab (· ^^^ ·)) s

/-- XORI (R149). -/
def execXori (t : Nat) (n : Fin 8) (s : State) : Host.Outcome State Fault Refusal := seqAct t n 0x09 (bodyDai (· ^^^ ·)) s

/-- SHL (R148, R149). -/
def execShl (t : Nat) (n : Fin 8) (s : State) : Host.Outcome State Fault Refusal := seqAct t n 0x0A (bodyDab shl32) s

/-- SHLI (R148, R149). -/
def execShli (t : Nat) (n : Fin 8) (s : State) : Host.Outcome State Fault Refusal := seqAct t n 0x0B (bodyDai shl32) s

/-- SHR (R148, R149). -/
def execShr (t : Nat) (n : Fin 8) (s : State) : Host.Outcome State Fault Refusal := seqAct t n 0x0C (bodyDab shr32) s

/-- SHRI (R148, R149). -/
def execShri (t : Nat) (n : Fin 8) (s : State) : Host.Outcome State Fault Refusal := seqAct t n 0x0D (bodyDai shr32) s

/-- SAR (R148, R149). -/
def execSar (t : Nat) (n : Fin 8) (s : State) : Host.Outcome State Fault Refusal := seqAct t n 0x0E (bodyDab sar32) s

/-- SARI (R148, R149). -/
def execSari (t : Nat) (n : Fin 8) (s : State) : Host.Outcome State Fault Refusal := seqAct t n 0x0F (bodyDai sar32) s

/-- MUL (R149). -/
def execMul (t : Nat) (n : Fin 8) (s : State) : Host.Outcome State Fault Refusal := seqAct t n 0x10 (bodyDab (· * ·)) s

/-- MULHU (R149). -/
def execMulhu (t : Nat) (n : Fin 8) (s : State) : Host.Outcome State Fault Refusal :=
  seqAct t n 0x11 (bodyDab (fun a b => a * b / 2 ^ 32)) s

/-- MULHS (R149). -/
def execMulhs (t : Nat) (n : Fin 8) (s : State) : Host.Outcome State Fault Refusal := seqAct t n 0x12 (bodyDab mulhs32) s

/-- DIVU (R149). -/
def execDivu (t : Nat) (n : Fin 8) (s : State) : Host.Outcome State Fault Refusal := seqAct t n 0x13 (bodyDab divu32) s

/-- REMU (R149): a where b is 0. -/
def execRemu (t : Nat) (n : Fin 8) (s : State) : Host.Outcome State Fault Refusal := seqAct t n 0x14 (bodyDab (· % ·)) s

/-- MIN (R149). -/
def execMin (t : Nat) (n : Fin 8) (s : State) : Host.Outcome State Fault Refusal := seqAct t n 0x15 (bodyDab min32) s

/-- MAX (R149). -/
def execMax (t : Nat) (n : Fin 8) (s : State) : Host.Outcome State Fault Refusal := seqAct t n 0x16 (bodyDab max32) s

/-- MOVI (R149). -/
def execMovi (t : Nat) (n : Fin 8) (s : State) : Host.Outcome State Fault Refusal :=
  seqAct t n 0x17 (bodyDai (fun _ i => i)) s

/-- MULI (R149). -/
def execMuli (t : Nat) (n : Fin 8) (s : State) : Host.Outcome State Fault Refusal := seqAct t n 0x18 (bodyDai (· * ·)) s

/-- CMPEQ (R149). -/
def execCmpeq (t : Nat) (n : Fin 8) (s : State) : Host.Outcome State Fault Refusal :=
  seqAct t n 0x20 (bodyPab (fun a b => decide (a = b))) s

/-- CMPNE (R149). -/
def execCmpne (t : Nat) (n : Fin 8) (s : State) : Host.Outcome State Fault Refusal :=
  seqAct t n 0x21 (bodyPab (fun a b => decide (a ≠ b))) s

/-- CMPLT (R149). -/
def execCmplt (t : Nat) (n : Fin 8) (s : State) : Host.Outcome State Fault Refusal := seqAct t n 0x22 (bodyPab slt32) s

/-- CMPLTU (R149). -/
def execCmpltu (t : Nat) (n : Fin 8) (s : State) : Host.Outcome State Fault Refusal :=
  seqAct t n 0x23 (bodyPab (fun a b => decide (a < b))) s

/-- CMPGE (R149). -/
def execCmpge (t : Nat) (n : Fin 8) (s : State) : Host.Outcome State Fault Refusal :=
  seqAct t n 0x24 (bodyPab (fun a b => !slt32 a b)) s

/-- CMPGEU (R149). -/
def execCmpgeu (t : Nat) (n : Fin 8) (s : State) : Host.Outcome State Fault Refusal :=
  seqAct t n 0x25 (bodyPab (fun a b => decide (b ≤ a))) s

/-- CMPEQI (R149). -/
def execCmpeqi (t : Nat) (n : Fin 8) (s : State) : Host.Outcome State Fault Refusal :=
  seqAct t n 0x26 (bodyPai (fun a b => decide (a = b))) s

/-- CMPLTI (R149). -/
def execCmplti (t : Nat) (n : Fin 8) (s : State) : Host.Outcome State Fault Refusal := seqAct t n 0x27 (bodyPai slt32) s

/-- CMPLTUI (R149). -/
def execCmpltui (t : Nat) (n : Fin 8) (s : State) : Host.Outcome State Fault Refusal :=
  seqAct t n 0x28 (bodyPai (fun a b => decide (a < b))) s

/-- CMPGEI (R149). -/
def execCmpgei (t : Nat) (n : Fin 8) (s : State) : Host.Outcome State Fault Refusal :=
  seqAct t n 0x29 (bodyPai (fun a b => !slt32 a b)) s

/-- CMPGEUI (R149). -/
def execCmpgeui (t : Nat) (n : Fin 8) (s : State) : Host.Outcome State Fault Refusal :=
  seqAct t n 0x2A (bodyPai (fun a b => decide (b ≤ a))) s

/-- PAND (R149). -/
def execPand (t : Nat) (n : Fin 8) (s : State) : Host.Outcome State Fault Refusal := seqAct t n 0x2C (bodyPqr (· && ·)) s

/-- POR (R149). -/
def execPor (t : Nat) (n : Fin 8) (s : State) : Host.Outcome State Fault Refusal := seqAct t n 0x2D (bodyPqr (· || ·)) s

/-- PNOT (R149). -/
def execPnot (t : Nat) (n : Fin 8) (s : State) : Host.Outcome State Fault Refusal :=
  seqAct t n 0x2E (bodyPqr (fun p _ => !p)) s

/-- TSTBIT (R148, R149). -/
def execTstbit (t : Nat) (n : Fin 8) (s : State) : Host.Outcome State Fault Refusal :=
  seqAct t n 0x2F (bodyPai (fun a i => bit a (i % 32))) s

/-- BR (R149). -/
def execBr (t : Nat) (n : Fin 8) (s : State) : Host.Outcome State Fault Refusal :=
  seqAct t n 0x30 (fun _ i s => (s, .jump (bits i.imm 0 17))) s

/-- BRR (R149). -/
def execBrr (t : Nat) (n : Fin 8) (s : State) : Host.Outcome State Fault Refusal :=
  seqAct t n 0x31 (fun n i s => (s, .jump (bits (s.greg n i.a) 0 17))) s

/-- CALL (R149). -/
def execCall (t : Nat) (n : Fin 8) (s : State) : Host.Outcome State Fault Refusal := seqAct t n 0x32 bodyCall s

/-- RET (R149). -/
def execRet (t : Nat) (n : Fin 8) (s : State) : Host.Outcome State Fault Refusal :=
  seqAct t n 0x33 (fun n _ s => (s, .jump (bits (s.greg n 31) 0 17))) s

/-- LOOP (R149). -/
def execLoop (t : Nat) (n : Fin 8) (s : State) : Host.Outcome State Fault Refusal := seqAct t n 0x34 bodyLoop s

/-- HALT (R149). -/
def execHalt (t : Nat) (n : Fin 8) (s : State) : Host.Outcome State Fault Refusal :=
  seqAct t n 0x35 (fun _ _ s => (s, .halt)) s

/-- KICK (R173). -/
def execKick (t : Nat) (n : Fin 8) (s : State) : Host.Outcome State Fault Refusal := seqAct t n 0x36 bodyKick s

/-- TIME (R149). -/
def execTime (t : Nat) (n : Fin 8) (s : State) : Host.Outcome State Fault Refusal := seqAct t n 0x38 bodyTime s

/-- FSTAT (R169). -/
def execFstat (t : Nat) (n : Fin 8) (s : State) : Host.Outcome State Fault Refusal := seqAct t n 0x39 bodyFstat s

/-- SIG (R149, R151). -/
def execSig (t : Nat) (n : Fin 8) (s : State) : Host.Outcome State Fault Refusal :=
  seqAct t n 0x42 (fun _ i s => (raiseEv (32 + bits i.imm 0 4) s, .next)) s

/-- EVCLR (R149). -/
def execEvclr (t : Nat) (n : Fin 8) (s : State) : Host.Outcome State Fault Refusal := seqAct t n 0x43 bodyEvclr s

end Sys2Proof.Machine
end

