-- ==== Sys2Proof/Machine/SalradMem.lean ====
section
/-! DEFINITION. Instructions that reach memory (06_salrad.md R143 to R145, R150, R161, R166): LD, ST, AMOADD, DBASE, FFILL,
and the lichen map's LREAD, LWRITE and LFLAG. -/

namespace Sys2Proof.Machine

/-! ### The spaces of R143 -/

/-- DBASE holds a valid value. -/
def State.dbaseOk (s : State) (n : Nat) : Bool :=
  decide (0x20 ≤ s.get (R.SQ_DBASE.DBASE n) ∧ s.get (R.SQ_DBASE.DBASE n) ≤ 0x3F)

/-- Part address of an offset in the DRAM window of sequencer n. -/
def State.dbaseAddr (s : State) (n ofs : Nat) : Nat := 2 ^ 32 * s.get (R.SQ_DBASE.DBASE n) + ofs

/-- Base and size of a space: none for a reserved space, and for DRAM while DBASE is not valid. -/
def State.spaceOf (s : State) (n k : Nat) : Option (Nat × Nat) :=
  match k with
  | 0 => some (dataBase, 0x400000)
  | 1 => some (frondBase, 0x800000)
  | 2 => some (lichenBase, 0x1000000)
  | 3 => some (0, 0x8000000)
  | 4 => if s.dbaseOk n then some (s.dbaseAddr n 0, 2 ^ 32) else none
  | 5 => some (captureBase, 0x1000000)
  | _ => none

/-- The effective offset: g[a] and the signed offset IMM[23:0], modulo 2^32. -/
def State.effOffset (s : State) (n : Nat) (i : Ins) : Nat := (s.greg n i.a + ofInt 32 (sgn 24 (bits i.imm 0 24))) % 2 ^ 32

/-- The part address of LD, ST and AMOADD; none for an access fault. -/
def State.effAddr (s : State) (n : Nat) (i : Ins) : Option Nat :=
  match s.spaceOf n i.space with
  | none => none
  | some (base, size) =>
    let ea := s.effOffset n i
    if ea < size ∧ ea % i.size = 0 ∧ (i.space = 3 → i.size = 4) then some (base + ea) else none

/-- A loaded value: bytes and half-words sign-extended where IMM[29] is set. -/
def Ins.extend (i : Ins) (v : Nat) : Nat :=
  if bit i.imm 29 && decide (i.size < 4) then ofInt 32 (sgn (8 * i.size) v) else v

/-- LD: 8 bytes go to two registers, the lower address first. -/
def bodyLd : Body := fun n i s =>
  match s.effAddr n i with
  | none => (s, .fault 2)
  | some a =>
    if s.readHeld (seqReq n) a i.size then (s, .stall)
    else
    let (v, s) := busRead (seqReq n) a i.size s
    (if i.size = 8 then s.setGregs n i.dst [lo32 v, hi32 v] else s.setGreg n i.dst (i.extend v), .next)

/-- ST: a store to a read-only space faults READ_ONLY, misaligned or beyond it or not. -/
def bodySt : Body := fun n i s =>
  if i.space = 2 ∨ i.space = 5 then (s, .fault 3)
  else match s.effAddr n i with
    | none => (s, .fault 2)
    | some a =>
      let v := s.greg n i.b + (if i.size = 8 then 2 ^ 32 * s.greg n (i.b + 1) else 0)
      (busWrite (seqReq n) a i.size (v % 2 ^ (8 * i.size)) s, .next)

/-- AMOADD: one indivisible access to a word of data memory. -/
def bodyAmoadd : Body := fun n i s =>
  match s.effAddr n i with
  | none => (s, .fault 2)
  | some a =>
    let old := s.load a 4
    ((busWrite (seqReq n) a 4 ((old + s.greg n i.b) % 2 ^ 32) s).setGreg n i.dst old, .next)

/-- DBASE: a value outside 0x20 to 0x3F is illegal at execution (R149). -/
def bodyDbase : Body := fun n i s =>
  let v := s.greg n i.a % 256
  if 0x20 ≤ v ∧ v ≤ 0x3F then (s.put (R.SQ_DBASE.DBASE n) v, .next) else (s, .fault 1)

/-! ### FFILL (R161) -/

/-- Write one profile into n consecutive bytes. -/
def fillBytes (a n v : Nat) (s : State) : State :=
  match n with
  | 0 => s
  | n + 1 => fillBytes (a + 1) n v (s.setByte a (BitVec.ofNat 8 v))

/-- n bytes of one value, as one number. -/
def bytesOfOne (n v : Nat) : Nat := v * ((256 ^ n - 1) / 255)

/-- Fill a row; a row in DRAM is an access of the sequencer's, one in frond memory goes to a standby (11_twin.md R286). -/
def fillRow (req : Nat) (dram : Bool) (a n v : Nat) (s : State) : State :=
  if dram then dramWrite (n / 256 + 2) req (a - dramBase) n (bytesOfOne n v) s else forwardBytes (ceilDiv n 32) a n (fillBytes a n v s)

/-- The rows and columns common to the rectangle and the buffer's window, and the window's first row, first column and
stride. -/
structure FillArea where
  row0 : Nat
  row1 : Nat
  col0 : Nat
  col1 : Nat
  wrow : Nat
  wcol : Nat
  stride : Nat
  deriving DecidableEq, Repr

/-- Intersect the rectangle (rows, columns) with the window of a header at `a`. -/
def State.fillArea (s : State) (a rows cols : Nat) : FillArea :=
  let wr := s.load (a + 4) 4
  let wc := s.load (a + 8) 4
  { row0 := max (bits rows 0 16) (bits wr 0 16), row1 := min (bits rows 16 16) (bits wr 16 16),
    col0 := max (bits cols 0 16) (bits wc 0 16), col1 := min (bits cols 16 16) (bits wc 16 16),
    wrow := bits wr 0 16, wcol := bits wc 0 16, stride := bits wc 16 16 - bits wc 0 16 + 1 }

/-- Rows and columns to fill: none where an end lies before its start. -/
def FillArea.rows (f : FillArea) : Nat := f.row1 + 1 - f.row0
def FillArea.cols (f : FillArea) : Nat := f.col1 + 1 - f.col0

/-- Address of the area's k-th row. -/
def FillArea.at_ (f : FillArea) (a k : Nat) : Nat := a + 64 + (f.row0 + k - f.wrow) * f.stride + (f.col0 - f.wcol)

/-- Fill the area of a buffer with a profile. -/
def fillBuffer (req : Nat) (dram : Bool) (a v : Nat) (f : FillArea) (s : State) : State :=
  if f.cols = 0 then s else upTo f.rows (fun k s => fillRow req dram (f.at_ a k) f.cols v s) s

/-- The toll holds the sequencer from an access that FFILL makes to a buffer in DRAM (12_stream_memory.md R308). -/
def State.fillHeld (s : State) (req a : Nat) (f : FillArea) : Bool :=
  s.dramWaits req || (granules 0 (2 ^ 40) (a - dramBase) 64 ++ (if f.cols = 0 then [] else (List.range f.rows).flatMap (fun k =>
    granules 0 (2 ^ 40) (f.at_ a k - dramBase) f.cols))).any (s.dramHeld req)

/-- The last byte the fill reaches lies below a bound. -/
def FillArea.fits (f : FillArea) (a bound : Nat) : Bool :=
  decide (f.rows = 0 ∨ f.cols = 0 ∨ f.at_ a (f.rows - 1) + f.cols ≤ bound)

/-- FFILL ends with every byte visible: where the toll holds one of its accesses it waits. A header of another mode, one beyond frond memory, and DRAM while DBASE is not valid are access faults; DRAM that
is not mapped is an unmapped access (01_architecture.md R27). -/
def bodyFfill : Body := fun n i s =>
  let dram := bit i.imm 8
  let req := seqReq n
  if dram && !s.dbaseOk n then (s, .fault 2)
  else
    let a := if dram then s.dbaseAddr n (s.greg n i.a) else frondBase + s.greg n i.a
    let bound := if dram then dramEnd else lichenBase
    if bound < a + 64 then (s, .fault 2)
    else if dram && !s.dramMapped (a - dramBase) then (unmapped req a s, .next)
    else if bits (s.load a 4) 16 2 ≠ 0 then (s, .fault 2)
    else
      let f := s.fillArea a (s.greg n i.b) (s.greg n (i.b + 1))
      if !f.fits a bound then (s, .fault 2)
      else if dram && s.fillHeld req a f then (s, .stall)
      else (fillBuffer req dram a (bits i.imm 0 8) f (if dram then dramSpan req (a - dramBase) 64 s else s), .next)

/-! ### The lichen map (R166; 04_echoes_and_points.md R103, R106) -/

/-- The cell of a register. -/
def lichenCell (v : Nat) : Nat := bits v 0 19

/-- The eight words of an entry. -/
def entryWords (e : Nat) : List Nat := (List.range 8).map (fun k => bits e (32 * k) 32)

/-- LREAD. -/
def bodyLread : Body := fun n i s => (s.setGregs n i.dst (entryWords (s.lichen (lichenCell (s.greg n i.a)))), .next)

/-- LWRITE: with IMM[0] = 0, T_CHANGE is the instant of the write. -/
def bodyLwrite : Body := fun n i s =>
  let e := wordsNat ((List.range 8).map (fun k => s.greg n (i.a + k)))
  let e := if bit i.imm 0 then e else lset e L.tChange s.ns
  (s.setLichen (lichenCell (s.greg n i.b)) e, .next)

/-- LFLAG: the flags of IMM[3:0] are set, then those of IMM[7:4] cleared; a change sets T_CHANGE. -/
def bodyLflag : Body := fun n i s =>
  let cell := lichenCell (s.greg n i.a)
  let e := s.lichen cell
  let old := bits e 88 4
  let set := old ||| bits i.imm 0 4
  let new := set - (set &&& bits i.imm 4 4)
  let e' := setBits e 88 4 new
  let e' := if new = old then e' else lset e' L.tChange s.ns
  ((s.setLichen cell e').setGreg n i.dst (bits e' 64 32), .next)

/-! ### Meanings -/

/-- LD (R143, R150). -/
def execLd (t : Nat) (n : Fin 8) (s : State) : Host.Outcome State Fault Refusal := seqAct t n 0x50 bodyLd s

/-- ST (R143, R150). -/
def execSt (t : Nat) (n : Fin 8) (s : State) : Host.Outcome State Fault Refusal := seqAct t n 0x51 bodySt s

/-- DBASE (R143, R149). -/
def execDbase (t : Nat) (n : Fin 8) (s : State) : Host.Outcome State Fault Refusal := seqAct t n 0x53 bodyDbase s

/-- AMOADD (R145). -/
def execAmoadd (t : Nat) (n : Fin 8) (s : State) : Host.Outcome State Fault Refusal := seqAct t n 0x54 bodyAmoadd s

/-- FFILL (R161). -/
def execFfill (t : Nat) (n : Fin 8) (s : State) : Host.Outcome State Fault Refusal := seqAct t n 0x60 bodyFfill s

/-- LREAD (R166). -/
def execLread (t : Nat) (n : Fin 8) (s : State) : Host.Outcome State Fault Refusal := seqAct t n 0x90 bodyLread s

/-- LWRITE (R166). -/
def execLwrite (t : Nat) (n : Fin 8) (s : State) : Host.Outcome State Fault Refusal := seqAct t n 0x91 bodyLwrite s

/-- LFLAG (R166). -/
def execLflag (t : Nat) (n : Fin 8) (s : State) : Host.Outcome State Fault Refusal := seqAct t n 0x92 bodyLflag s

end Sys2Proof.Machine
end

