-- ==== Sys2Proof/Machine/SalradSteer.lean ====
section
/-! DEFINITION. Instructions that steer other blocks (06_salrad.md R153 to R159, R162 to R168): probes and the completion
queue, watch windows, fronds, formats, energy, hops, anchors, captures and motion. -/

namespace Sys2Proof.Machine

/-! ### Probes and the completion queue -/

/-- The lowest tag not in use. -/
def Seq.freeTag (q : Seq) : Nat := ((List.range 256).find? (fun k => !q.tags.contains k)).getD 0

/-- The CQ has no room for another probe (R156). -/
def Seq.full (q : Seq) : Bool := decide (256 ≤ q.cq.length + q.outstanding.length)

/-- The lens positions of a PROBE (R153): two registers, or the lichen entry of its cell. -/
def State.probeLenses (s : State) (n : Nat) (i : Ins) (w0 : Nat) : List Nat :=
  let h := bits w0 30 1
  let ch := bits w0 19 11
  if bit i.imm 6 then
    let bank := if bits i.imm 0 6 = 63 then (s.chanBank h ch).getD 0 else bits i.imm 0 5
    lensesFor h (bits w0 0 19) ch bank s
  else [s.greg n i.b, s.greg n (i.b + 1)]

/-- The order in which probes are decided: by V0, then by channel, then by cell (03_ranging_operations.md R61, R62). -/
def ProbeReq.key (r : ProbeReq) : Nat := 2 ^ 30 * r.v0 + 2 ^ 19 * bits r.w0 19 11 + bits r.w0 0 19

/-- Enter a probe among those that wait for their V0. -/
def probeInsert (x : ProbeReq) : List ProbeReq → List ProbeReq
  | [] => [x]
  | y :: r => if x.key < y.key then x :: y :: r else y :: probeInsert x r

/-- PROBE: V0 is the grant plus the delay, rounded down to a whole ns. -/
def bodyProbe : Body := fun n i s =>
  let q := s.seq n
  if q.full then (s.setGreg n i.dst 0xFFFFFFFF, .next)
  else
    let g := fun k => s.greg n (i.a + k)
    let tag := q.freeTag
    let w0 := g 0 % 2 ^ 31 + 2 ^ 31
    let r : ProbeReq :=
      { w0 := w0, w1 := g 1, w2 := g 2, w3 := g 3, v0 := (s.now + fineNs (max 2000 (s.greg n (i.b + 2)))) / 128,
        bank := bits i.imm 0 6, lenses := s.probeLenses n i w0,
        info := { sq := n, tag := some tag, interval := s.greg n (i.b + 3), exc := bit i.imm 7 } }
    let q := { q with tags := q.tags ++ [tag], outstanding := q.outstanding ++ [tag], probes := probeInsert r q.probes }
    ((s.setSeq n q).setGreg n i.dst tag, .next)

/-- CQPOP (R156, R157): the tag of a probe's entry is free again. -/
def bodyCqpop : Body := fun n i s =>
  let q := s.seq n
  match q.cq with
  | [] => (s.setGregs n i.dst [0xFFFFFFFF, 0, 0, 0], .next)
  | (w0, w1, w2, w3) :: r =>
    let tags := if bits w0 8 3 = 3 then q.tags else q.tags.filter (· ≠ bits w0 0 8)
    ((s.setSeq n { q with cq := r, tags := tags }).setGregs n i.dst [w0, w1, w2, w3], .next)

/-- WATCH (R159). -/
def bodyWatch : Body := fun n i s =>
  let rows := s.greg n i.a
  let cols := s.greg n i.b
  let w : Watch :=
    { on := bit i.imm 12, head := bits i.imm 2 1, row0 := bits rows 0 16, row1 := bits rows 16 16, col0 := bits cols 0 16,
      col1 := bits cols 16 16, classes := bits i.imm 3 8, changed := bit i.imm 11 }
  let q := s.seq n
  (s.setSeq n { q with watch := q.watch.put {} (bits i.imm 0 2) w }, .next)

/-! ### Scan-out and fronds -/

/-- FCOMMIT (R162): address, generation and COMMIT of a frond in one access; an address not aligned to 64 bytes is refused
as R131 says. -/
def bodyFcommit : Body := fun n i s =>
  let h := bits i.imm 0 1
  let f := bits i.imm 1 2
  if bit i.imm 3 && !s.dbaseOk n then (s, .fault 2)
  else if s.dramWaits (seqReq n) then (s, .stall)
  else
    let a := if bit i.imm 3 then s.dbaseAddr n (s.greg n i.a) else frondBase + s.greg n i.a
    let s := (s.put (R.FROND_ADDR_LO.ADDR_LO h f) (bits a 6 26)).put (R.FROND_ADDR_HI.ADDR_HI h f) (a / 2 ^ 32)
    let s := s.put (R.FROND_GEN_EXP.GEN_EXP h f) (s.greg n i.b)
    let ok := s.frondAddrOk a
    let s := forAll [R.FROND_ADDR_LO.addr h f, R.FROND_ADDR_HI.addr h f, R.FROND_GEN_EXP.addr h f] forwardReg s
    let s := if ok then forward (R.FROND_COMMIT.addr h f) 4 1 (commitFrond h f s) else s.setFlag R.SO_STATUS.COMMIT_REJ
    (s.setGreg n i.dst (b2n !ok), .next)

/-- FMT (R163): FORMAT and SYNC_LOCK, with SCAN_EN where IMM[8] is set; otherwise SCAN_EN is not written. -/
def bodyFmt : Body := fun n i s =>
  let h := bits i.imm 0 1
  let a := R.HEAD_CTL.addr h
  match regHit a with
  | none => (s, .next)
  | some hit =>
    let old := (s.reg a).toNat
    let v := withFields old [(4, 5, bits i.imm 1 5), (9, 1, bits i.imm 6 1)]
    if bit i.imm 8 then (busWrite (seqReq n) a 4 (withFields v [(0, 1, bits i.imm 7 1)]) s, .next)
    else
      let new := FieldDef.word old v hit.def_.fields
      (forwardReg a (headFields h old new (s.setReg a (BitVec.ofNat 32 new))), .next)

/-- HLOCK (R163): HEAD_LOCK and LINE_OFS, rejected whole while either head runs and one of them would change. -/
def bodyHlock : Body := fun n i s =>
  let lock := bits i.imm 0 1
  let ofs := bits (s.greg n i.a) 0 R.LINE_OFS.value.w
  let change := decide (s.get R.SO_CFG.HEAD_LOCK ≠ lock ∨ s.get R.LINE_OFS.value ≠ ofs)
  if s.anyHead && change then ((s.setFlag R.SO_STATUS.WRITE_REJECTED).setGreg n i.dst 1, .next)
  else
    let s := (s.put R.SO_CFG.HEAD_LOCK lock).put R.LINE_OFS.value ofs
    ((forwardReg R.LINE_OFS.addr (forwardReg R.SO_CFG.addr s)).setGreg n i.dst 0, .next)

/-! ### Energy and hops -/

/-- ENERGY (R164): the write of BANK_AMP.REQ that a host makes. -/
def bodyEnergy : Body := fun n i s =>
  let h := bits i.imm 0 1
  let b := bits i.imm 1 6
  let v := bits (s.greg n i.a) 0 12
  let one := fun b s => busField (seqReq n) (R.BANK_AMP.REQ h b) v s
  (if b = 63 then upTo 32 one s else if b < 32 then one b s else s, .next)

/-- A region's code is written (03_ranging_operations.md R83). -/
def writeRegion (h r code : Nat) (s : State) : State :=
  let s := forwardReg (regionField false h r).addr (s.put (regionField false h r) code)
  let key := 64 * h + r
  if s.pts.written.contains key then s else { s with pts := { s.pts with written := s.pts.written ++ [key] } }

/-- HOP (R165): a given code, or the next one HOP_MASK allows. -/
def bodyHop : Body := fun n i s =>
  let r := bits i.imm 0 6
  let h := bits i.imm 6 1
  if bit i.imm 7 then
    match nextCode (s.get R.HOP_CFG.HOP_MASK) (s.get (regionField true h r)) with
    | some c => (writeRegion h r c s, .next)
    | none => (s.bumpSat R.HOP_STATUS.HOP_BLOCKED, .next)
  else (writeRegion h r (bits (s.greg n i.a) 0 3) s, .next)

/-! ### Anchors, captures, motion -/

/-- Two registers as a 64-bit number, the low word first. -/
def State.gregPair (s : State) (n k : Nat) : Nat := s.greg n k + 2 ^ 32 * s.greg n (k + 1)

/-- An anchor entered by an instruction goes to the standby as the writes that a host would make (11_twin.md R286). -/
def forwardAnchor (label at_ : Nat) (s : State) : State :=
  forAll [(R.ANCHOR_LABEL_LO.addr, lo32 label), (R.ANCHOR_LABEL_HI.addr, hi32 label), (R.ANCHOR_AT_LO.addr, lo32 at_),
    (R.ANCHOR_AT_HI.addr, hi32 at_), (R.ANCHOR_CTL.addr, withFields (s.reg R.ANCHOR_CTL.addr).toNat [(0, 1, 1)])]
    (fun w s => forward w.1 4 w.2 s) s

/-- ANCHOR (R167). -/
def bodyAnchor : Body := fun n i s =>
  let (s', discarded) := anchorEnter (s.gregPair n i.a) (s.gregPair n i.b) s
  ((if discarded then s' else forwardAnchor (s.gregPair n i.a) (s.gregPair n i.b) s').setGreg n i.dst (b2n discarded), .next)

/-- EMIT (R167): an ANCHOR milestone of this instant, which is no anchor taking effect. -/
def bodyEmit : Body := fun n i s =>
  let h := bits i.imm 0 1
  let a : Anchor := ⟨s.gregPair n i.a, s.ns⟩
  (milestoneAt 0x04 h (s.frameCount h) s.ns a.words s, .next)

/-- CARM (R168). -/
def bodyCarm : Body := fun n i s =>
  let (s', status) := capArm (bits i.imm 0 4) s
  (s'.setGreg n i.dst status, .next)

/-- MSET (R168). -/
def bodyMset : Body := fun n i s => (busWrite (seqReq n) (R.SETPOINT.addr (bits i.imm 0 3)) 4 (s.greg n i.a) s, .next)

/-- MPROF (R168; 09_scanner_control.md R234). -/
def bodyMprof : Body := fun n i s =>
  let (s', refused) := profileMove (bits i.imm 0 3) (bits i.imm 3 4) s
  let a := R.TARGET.addr (bits i.imm 0 3) (bits i.imm 3 4)
  ((if refused then s' else forward a 0 0 s').setGreg n i.dst (b2n refused), .next)

/-! ### Meanings -/

/-- FCOMMIT (R162). -/
def execFcommit (t : Nat) (n : Fin 8) (s : State) : Host.Outcome State Fault Refusal := seqAct t n 0x61 bodyFcommit s

/-- FMT (R163). -/
def execFmt (t : Nat) (n : Fin 8) (s : State) : Host.Outcome State Fault Refusal := seqAct t n 0x62 bodyFmt s

/-- HLOCK (R163). -/
def execHlock (t : Nat) (n : Fin 8) (s : State) : Host.Outcome State Fault Refusal := seqAct t n 0x63 bodyHlock s

/-- WATCH (R159). -/
def execWatch (t : Nat) (n : Fin 8) (s : State) : Host.Outcome State Fault Refusal := seqAct t n 0x64 bodyWatch s

/-- PROBE (R153, R156). -/
def execProbe (t : Nat) (n : Fin 8) (s : State) : Host.Outcome State Fault Refusal := seqAct t n 0x70 bodyProbe s

/-- CQPOP (R157). -/
def execCqpop (t : Nat) (n : Fin 8) (s : State) : Host.Outcome State Fault Refusal := seqAct t n 0x71 bodyCqpop s

/-- ENERGY (R164). -/
def execEnergy (t : Nat) (n : Fin 8) (s : State) : Host.Outcome State Fault Refusal := seqAct t n 0x80 bodyEnergy s

/-- HOP (R165). -/
def execHop (t : Nat) (n : Fin 8) (s : State) : Host.Outcome State Fault Refusal := seqAct t n 0x81 bodyHop s

/-- ANCHOR (R167). -/
def execAnchor (t : Nat) (n : Fin 8) (s : State) : Host.Outcome State Fault Refusal := seqAct t n 0xA0 bodyAnchor s

/-- EMIT (R167). -/
def execEmit (t : Nat) (n : Fin 8) (s : State) : Host.Outcome State Fault Refusal := seqAct t n 0xA1 bodyEmit s

/-- CARM (R168). -/
def execCarm (t : Nat) (n : Fin 8) (s : State) : Host.Outcome State Fault Refusal := seqAct t n 0xB0 bodyCarm s

/-- MSET (R168). -/
def execMset (t : Nat) (n : Fin 8) (s : State) : Host.Outcome State Fault Refusal := seqAct t n 0xC0 bodyMset s

/-- MPROF (R168). -/
def execMprof (t : Nat) (n : Fin 8) (s : State) : Host.Outcome State Fault Refusal := seqAct t n 0xC1 bodyMprof s

end Sys2Proof.Machine
end

