-- ==== Sys2Proof/Machine/SalradWait.lean ====
section
/-! DEFINITION. Waiting and the watchdog (06_salrad.md R144, R152, R158, R171, R173): WAIT, WAIT1, SLEEP, FENCE and MFENCE,
what ends them, and the watchdog's expiry. -/

namespace Sys2Proof.Machine

/-- A deadline IMM µs of device time ahead; a time of 0 means none (R152, R171). -/
def State.deadline (s : State) (us : Nat) : Option Nat := if us = 0 then none else some (s.now + fineUs us)

/-- A WAIT on a mask finishes (R152): the low word of pending and mask, or the high word where the mask's low word is 0, is
written and its bits are cleared. -/
def takeMask (n mask dst : Nat) (s : State) : State :=
  let p := s.pend n &&& mask
  if lo32 mask ≠ 0 then clearPending n (lo32 p) (s.setGreg n dst (lo32 p))
  else clearPending n p (s.setGreg n dst (hi32 p))

/-- A WAIT1 finishes: 1 is written and the line's bit cleared. -/
def takeLine (n k dst : Nat) (s : State) : State := clearPending n (2 ^ k) (s.setGreg n dst 1)

/-- WAIT: at once where an event of the mask is pending. -/
def bodyWait : Body := fun n i s =>
  let m := Ins.mask s n i
  if s.pend n &&& m ≠ 0 then (takeMask n m i.dst s, .next) else (s, .wait (.mask m i.dst (s.deadline (bits i.imm 0 24))))

/-- WAIT1 on line IMM[5:0], for at most IMM[29:6] µs. -/
def bodyWait1 : Body := fun n i s =>
  let k := bits i.imm 0 6
  if bit (s.pend n) k then (takeLine n k i.dst s, .next) else (s, .wait (.line k i.dst (s.deadline (bits i.imm 6 24))))

/-- SLEEP for IMM[23:0] µs of device time. -/
def bodySleep : Body := fun _ i s =>
  match s.deadline (bits i.imm 0 24) with
  | none => (s, .next)
  | some d => (s, .wait (.sleep d))

/-- What a wait needs to finish, other than an event or a time. -/
def State.fenceMet (s : State) (n : Nat) : Wait → Bool
  | .outstanding k => decide ((s.seq n).outstanding.length ≤ k)
  | .tag k => !(s.seq n).outstanding.contains k
  | _ => false

/-- FENCE (R158). -/
def bodyFence : Body := fun n i s =>
  let w : Wait := if bit i.imm 8 then .tag (bits i.imm 0 8) else .outstanding (bits i.imm 0 8)
  if s.fenceMet n w then (s, .next) else (s, .wait w)

/-- A wait has finished: the sequencer runs on from the instruction after it. -/
def seqResume (n : Nat) (s : State) : State :=
  let s := (s.setSeq n { s.seq n with wait := none }).put (R.SQ_STATUS.STATE n) 2
  s.put (R.SQ_PC.PC n) (s.get (R.SQ_PC.PC n) + 1)

/-- What sequencer n waits for, where it is WAITING. -/
def State.waiting (s : State) (n : Nat) : Option Wait := if s.sqState n = 3 then (s.seq n).wait else none

/-- A pending event ends a WAIT or WAIT1 (R152). -/
def waitWake (n : Nat) (s : State) : State :=
  match s.waiting n with
  | some (.mask m dst _) => if s.pend n &&& m ≠ 0 then seqResume n (takeMask n m dst s) else s
  | some (.line k dst _) => if bit (s.pend n) k then seqResume n (takeLine n k dst s) else s
  | _ => s

/-- The timeout of a WAIT or WAIT1 that no event has ended (R152). -/
def waitTimeout (n : Nat) (s : State) : State :=
  match s.waiting n with
  | some (.mask m dst (some d)) =>
    if d ≤ s.now ∧ s.pend n &&& m = 0 then seqResume n (s.setGreg n dst 0) else s
  | some (.line k dst (some d)) =>
    if d ≤ s.now ∧ !bit (s.pend n) k then seqResume n (s.setGreg n dst 0) else s
  | _ => s

/-- The interval of a SLEEP has passed (R171). -/
def sleepEnd (n : Nat) (s : State) : State :=
  match s.waiting n with
  | some (.sleep d) => if d ≤ s.now then seqResume n s else s
  | _ => s

/-- The condition of a FENCE is met (R158). -/
def fenceDone (n : Nat) (s : State) : State :=
  match s.waiting n with
  | some w => if s.fenceMet n w then seqResume n s else s
  | none => s

/-- Every earlier store of the sequencer is visible (R144): none waits behind the toll. -/
def mfenceDone (n : Nat) (s : State) : State :=
  match s.waiting n with
  | some .stores => if s.dramWaits (seqReq n) then s else seqResume n s
  | _ => s

/-- No KICK for WD_US µs of RUNNING or WAITING (R173); an interval of 0 acts as 1. -/
def watchdogExpiry (n : Nat) (s : State) : State :=
  if s.sqLive n && s.flag (R.SQ_CTL.WD_EN n) &&
      decide ((s.seq n).kick + fineUs (max 1 (s.get (R.SQ_CTL.WD_US n))) ≤ s.now) then seqFault n 5 s
  else s

/-! ### Meanings -/

/-- SLEEP (R149, R171). -/
def execSleep (t : Nat) (n : Fin 8) (s : State) : Host.Outcome State Fault Refusal := seqAct t n 0x37 bodySleep s

/-- WAIT (R152). -/
def execWait (t : Nat) (n : Fin 8) (s : State) : Host.Outcome State Fault Refusal := seqAct t n 0x40 bodyWait s

/-- WAIT1 (R152). -/
def execWait1 (t : Nat) (n : Fin 8) (s : State) : Host.Outcome State Fault Refusal := seqAct t n 0x41 bodyWait1 s

/-- MFENCE (R144). -/
def execMfence (t : Nat) (n : Fin 8) (s : State) : Host.Outcome State Fault Refusal :=
  seqAct t n 0x52 (fun _ _ s => (s, .wait .stores)) s

/-- FENCE (R158). -/
def execFence (t : Nat) (n : Fin 8) (s : State) : Host.Outcome State Fault Refusal := seqAct t n 0x72 bodyFence s

/-- WAIT_WAKE (R152). -/
def execWaitWake (t : Nat) (n : Fin 8) (s : State) : Host.Outcome State Fault Refusal := act t (waitWake n) s

/-- WAIT_TIMEOUT (R152). -/
def execWaitTimeout (t : Nat) (n : Fin 8) (s : State) : Host.Outcome State Fault Refusal := act t (waitTimeout n) s

/-- SLEEP_END (R171). -/
def execSleepEnd (t : Nat) (n : Fin 8) (s : State) : Host.Outcome State Fault Refusal := act t (sleepEnd n) s

/-- FENCE_DONE (R158). -/
def execFenceDone (t : Nat) (n : Fin 8) (s : State) : Host.Outcome State Fault Refusal := act t (fenceDone n) s

/-- MFENCE_DONE (R144). -/
def execMfenceDone (t : Nat) (n : Fin 8) (s : State) : Host.Outcome State Fault Refusal := act t (mfenceDone n) s

/-- WATCHDOG_EXPIRY (R173). -/
def execWatchdogExpiry (t : Nat) (n : Fin 8) (s : State) : Host.Outcome State Fault Refusal := act t (watchdogExpiry n) s

end Sys2Proof.Machine
end

