-- ==== Sys2Proof/Machine/TwinCopy.lean ====
section
/-! DEFINITION. Mirrored writes and alignment copies (11_twin.md R286, R295 to R297): what a standby applies, the epochs it
takes, and the start of a copy by the active. -/

namespace Sys2Proof.Machine

/-! ### Mirrored writes (R286) -/

/-- The requester number of the causeway's writes: it stands outside the roles and outside a standby's own requesters. -/
def mirrorReq : Nat := 0x28

/-- ANCHOR_GO of the active: its AT, an instant of the active's, is mapped (R285, R286). -/
def mirrorAnchor (s : State) : State :=
  let at_ := s.get R.ANCHOR_AT_LO.AT_LO + 2 ^ 32 * s.get R.ANCHOR_AT_HI.AT_HI
  (anchorEnter (s.get R.ANCHOR_LABEL_LO.LABEL_LO + 2 ^ 32 * s.get R.ANCHOR_LABEL_HI.LABEL_HI) (s.mapNs at_) s).1

/-- FRAME_COUNT of the active: the frame open here takes the count, with its ops (R293, log 84). -/
def countTo (h n : Nat) (s : State) : State :=
  let f := s.frameCount h
  let s := s.put (R.FRAME_COUNT.value h) n
  if f = n then s
  else match s.frame h f with
    | none => s
    | some a =>
      let s := (s.setFrame h f none).setFrame h n (some a)
      forAll s.opKeys (fun k s => match s.op k.1 k.2 with
        | some o => if o.head = h ∧ o.frame = some f then s.setOp k.1 k.2 (some { o with frame := some n, frameNow := n }) else s
        | none => s) s

/-- A register takes the value that the active accepted: no test of this unit stands against it. FRAME_COUNT and the region
codes in force come with epoch 0 as they are. -/
def mirrorReg (a v : Nat) (h : RegHit) (s : State) : State :=
  let new := s.regNew a h v
  match h.def_.id, h.ix with
  | .SETPOINT, [n] => setpointWrite n v s
  | .FRAME_COUNT, [k] => countTo k v s
  | .REGION_CODE_NOW, _ => s.setReg a (BitVec.ofNat 32 v)
  | .ANCHOR_CTL, _ => when_ (bit v 0) mirrorAnchor (s.setReg a (BitVec.ofNat 32 new))
  | id, ix => writeHook mirrorReq id ix (s.reg a).toNat new v (s.setReg a (BitVec.ofNat 32 new))

/-- Apply a write of the active's: a register of the mirrored blocks, bytes of a mirrored memory, or DRAM; of size 0, the
start of the move of a loop's profile whose TARGET is named (06_salrad.md R168). -/
def mirrorApply (a size v : Nat) (s : State) : State :=
  if 32 < size then s
  else if a < progBase then
    if !shared a then s
    else if within a rcBase 0x20000 then s.store a 2 v
    else match regHit a with
      | some h => (match size, h.def_.id, h.ix with
          | 0, .TARGET, [n, p] => (profileMove n p s).1
          | _, _, _ => mirrorReg a (v % 2 ^ 32) h s)
      | none => s
  else if within a dataBase (0x400001 - size) || within a frondBase (0x800001 - size) || within a lichenBase (0x1000001 - size) then
    s.store a size v
  else if dramBase ≤ a ∧ a < dramEnd then dramWrite (size + 1) mirrorReq (a - dramBase) size v s
  else s

/-- A forwarded write: a standby applies it; during a copy it waits where its epoch has not been applied (R295). -/
def mirroredWrite (a size v : Nat) (s : State) : State :=
  let x := s.twin
  if s.standby then mirrorApply a size v s
  else if s.twState = 2 then
    if x.complete || decide (mirrorEpoch a < x.epoch ∧ mirrorEpoch a < 29) then mirrorApply a size v s
    else s.setTwin { x with mirrored := x.mirrored ++ [(a, size, v)] }
  else s

/-! ### Epochs (R295) -/

/-- Apply the writes that waited for epochs below n, in order. -/
def applyWaiting (n : Nat) (s : State) : State :=
  let due := s.twin.mirrored.filter (fun w => decide (mirrorEpoch w.1 < n))
  let s := s.setTwin { s.twin with mirrored := s.twin.mirrored.filter (fun w => !decide (mirrorEpoch w.1 < n)) }
  forAll due (fun w s => mirrorApply w.1 w.2.1 w.2.2 s) s

/-- Epoch 0: register values as pairs of address and value, four bytes each. -/
def applyRegs : List Nat → State → State
  | a0 :: a1 :: a2 :: a3 :: v0 :: v1 :: v2 :: v3 :: r, s =>
    applyRegs r (let a := leNat [a0, a1, a2, a3]
                 if a < progBase then mirrorApply a 4 (leNat [v0, v1, v2, v3]) s else s)
  | _, s => s

/-- Apply an epoch's content. Epoch 0 begins with the active's identity, whose CFG_ID is compared with this unit's. From
epoch 29 on the content begins with the part address of what follows. -/
def applyEpoch (n : Nat) (content : List Nat) (s : State) : State :=
  if n = 0 then
    let p := identityOf (fun i => leNat ((content.drop (4 * i)).take 4))
    applyRegs (content.drop 32) (s.putb R.TW_STATUS.CFG_MATCH (p.cfg = s.identity.cfg))
  else if n < 29 then s.storeList (epochBase n) (content.take (2 ^ 20))
  else
    let a := leNat (content.take 8)
    let n := content.length - 8
    if dramBase ≤ a ∧ a + n ≤ dramEnd then dramWrite (n / 256 + 2) mirrorReq (a - dramBase) n (leNat (content.drop 8)) s else s

/-- A copy begins anew: nothing is applied yet; the sequencers of the unit stop (R286). -/
def epochStart (s : State) : State :=
  let s := if s.twState = 1 then sqStopAll s else s
  let s := s.setTwin { s.twin with epoch := 0, complete := false, mirrored := [] }
  (s.put R.TW_STATUS.TW_STATE 2).put R.TW_STATUS.EPOCHS_DONE 0

/-- A whole epoch arrives with its trailer. A unit in SEEKING begins its alignment with epoch 0, as does one whose copy
begins again; one in ALIGNING takes the epoch that follows. An epoch 29 or later without content ends the copy. -/
def epochReceive (n len crc : Nat) (content : List Nat) (s : State) : State :=
  let st := s.twState
  if !s.partnerValid || !(decide (st = 1 ∧ n = 0) || decide (st = 2 ∧ (n = 0 ∨ n = s.twin.epoch)))
      || decide (content.length ≠ len ∨ crc32c content ≠ crc) then s
  else
    let s := if n = 0 then epochStart s else s
    if 29 ≤ n ∧ len = 0 then applyWaiting 30 (s.setTwin { s.twin with complete := true })
    else
      let s := (applyEpoch n content s).bumpSat R.TW_STATUS.EPOCHS_DONE
      let s := s.setTwin { s.twin with epoch := n + 1 }
      applyWaiting (min 29 (n + 1)) s

/-- The active starts a copy for a paired partner in SEEKING or ALIGNING: epoch 0 begins. -/
def alignStart (s : State) : State :=
  let p := s.get R.TW_PARTNER.P_STATE
  if s.twState = 4 && s.partnerValid && decide (p = 1 ∨ p = 2) && !s.twin.copying && !s.cwyLanes.isEmpty then
    twinMs 3 [] (copyOpen 0 (s.setTwin { s.twin with copying := true, copyDone := false, copyFrom := s.now, copyRest := [] }))
  else s

/-! ### Meanings -/

/-- MIRRORED_WRITE (R286, R295). -/
def execMirroredWrite (t addr size val : Nat) (s : State) : Host.Outcome State Fault Refusal :=
  act t (mirroredWrite addr size val) s

/-- ALIGN_START (R295, R298). -/
def execAlignStart (t : Nat) (s : State) : Host.Outcome State Fault Refusal := act t alignStart s

/-- EPOCH_RECEIVE (R295). -/
def execEpochReceive (t epoch len crc : Nat) (content : List Byte) (s : State) : Host.Outcome State Fault Refusal :=
  act t (epochReceive epoch len crc (content.map BitVec.toNat)) s

end Sys2Proof.Machine
end

