-- ==== Sys2Proof/Machine/Dispatch.lean ====
section
/-! DEFINITION. One arm per command: exec calls the command's meaning. -/

namespace Sys2Proof.Machine

def exec (i : Instr) (s : State) : Host.Outcome State Fault Refusal :=
  match i with
  | .registerWrite t req addr size val => Sys2Proof.Machine.execRegisterWrite t req addr size val s
  | .unmappedClear t req => Sys2Proof.Machine.execUnmappedClear t req s
  | .paceMinRestart t req => Sys2Proof.Machine.execPaceMinRestart t req s
  | .paceWindowEnd t counts => Sys2Proof.Machine.execPaceWindowEnd t counts s
  | .dieLinkStall t die => Sys2Proof.Machine.execDieLinkStall t die s
  | .lateResultDiscard t island unit => Sys2Proof.Machine.execLateResultDiscard t island unit s
  | .dramRefreshDue t bank => Sys2Proof.Machine.execDramRefreshDue t bank s
  | .eventStart t ch => Sys2Proof.Machine.execEventStart t ch s
  | .highComparatorEdge t ch rise => Sys2Proof.Machine.execHighComparatorEdge t ch rise s
  | .eventEnd t ch => Sys2Proof.Machine.execEventEnd t ch s
  | .eventTimeoutClose t ch => Sys2Proof.Machine.execEventTimeoutClose t ch s
  | .rearmEnd t ch => Sys2Proof.Machine.execRearmEnd t ch s
  | .stuckHighTimeout t ch => Sys2Proof.Machine.execStuckHighTimeout t ch s
  | .stuckHighClear t req ch => Sys2Proof.Machine.execStuckHighClear t req ch s
  | .dropCountClear t req ch => Sys2Proof.Machine.execDropCountClear t req ch s
  | .chThrWrite t req ch val => Sys2Proof.Machine.execChThrWrite t req ch val s
  | .channelDisable t req ch => Sys2Proof.Machine.execChannelDisable t req ch s
  | .eventBin t ch => Sys2Proof.Machine.execEventBin t ch s
  | .timebaseLock t => Sys2Proof.Machine.execTimebaseLock t s
  | .timebaseLockLoss t => Sys2Proof.Machine.execTimebaseLockLoss t s
  | .devtimeSnapshot t req => Sys2Proof.Machine.execDevtimeSnapshot t req s
  | .poweredHoursWrite t => Sys2Proof.Machine.execPoweredHoursWrite t s
  | .anchorGo t req => Sys2Proof.Machine.execAnchorGo t req s
  | .anchorTakeEffect t => Sys2Proof.Machine.execAnchorTakeEffect t s
  | .syncEdge t rising width => Sys2Proof.Machine.execSyncEdge t rising width s
  | .syncMiss t => Sys2Proof.Machine.execSyncMiss t s
  | .syncFifoPop t req => Sys2Proof.Machine.execSyncFifoPop t req s
  | .iuArm t req => Sys2Proof.Machine.execIuArm t req s
  | .iuStartEdge t src rising bank => Sys2Proof.Machine.execIuStartEdge t src rising bank s
  | .iuStopEdge t src rising bank => Sys2Proof.Machine.execIuStopEdge t src rising bank s
  | .iuSwstop t req => Sys2Proof.Machine.execIuSwstop t req s
  | .iuTimeout t => Sys2Proof.Machine.execIuTimeout t s
  | .iuAbort t req => Sys2Proof.Machine.execIuAbort t req s
  | .iuResultRead t req => Sys2Proof.Machine.execIuResultRead t req s
  | .fuStart t req => Sys2Proof.Machine.execFuStart t req s
  | .fuGateOpen t level => Sys2Proof.Machine.execFuGateOpen t level s
  | .fuGateEnd t level => Sys2Proof.Machine.execFuGateEnd t level s
  | .fuResult t => Sys2Proof.Machine.execFuResult t s
  | .cellDecision t src late => Sys2Proof.Machine.execCellDecision t src late s
  | .pulseFire t die slot => Sys2Proof.Machine.execPulseFire t die slot s
  | .accumulationEnd t die slot => Sys2Proof.Machine.execAccumulationEnd t die slot s
  | .correlatorTake t die => Sys2Proof.Machine.execCorrelatorTake t die s
  | .reductionEnd t die slot => Sys2Proof.Machine.execReductionEnd t die slot s
  | .handoff t die => Sys2Proof.Machine.execHandoff t die s
  | .lichenObservation t => Sys2Proof.Machine.execLichenObservation t s
  | .opAbandon t die slot => Sys2Proof.Machine.execOpAbandon t die slot s
  | .pageClearDone t die group => Sys2Proof.Machine.execPageClearDone t die group s
  | .frameClosed t head frame => Sys2Proof.Machine.execFrameClosed t head frame s
  | .lineStart t at_ => Sys2Proof.Machine.execLineStart t at_ s
  | .latchPoint t head => Sys2Proof.Machine.execLatchPoint t head s
  | .frameOpen t head => Sys2Proof.Machine.execFrameOpen t head s
  | .linePrefetch t head line got => Sys2Proof.Machine.execLinePrefetch t head line got s
  | .visitCompose t head => Sys2Proof.Machine.execVisitCompose t head s
  | .frondCommit t req head frond => Sys2Proof.Machine.execFrondCommit t req head frond s
  | .scanStart t req head => Sys2Proof.Machine.execScanStart t req head s
  | .scanStop t req head => Sys2Proof.Machine.execScanStop t req head s
  | .sqRun t req n => Sys2Proof.Machine.execSqRun t req n s
  | .sqStop t req n => Sys2Proof.Machine.execSqStop t req n s
  | .sqUnload t req n => Sys2Proof.Machine.execSqUnload t req n s
  | .evSoft t req mask => Sys2Proof.Machine.execEvSoft t req mask s
  | .imageLoad t req image start => Sys2Proof.Machine.execImageLoad t req image start s
  | .watchdogExpiry t n => Sys2Proof.Machine.execWatchdogExpiry t n s
  | .waitWake t n => Sys2Proof.Machine.execWaitWake t n s
  | .waitTimeout t n => Sys2Proof.Machine.execWaitTimeout t n s
  | .sleepEnd t n => Sys2Proof.Machine.execSleepEnd t n s
  | .fenceDone t n => Sys2Proof.Machine.execFenceDone t n s
  | .mfenceDone t n => Sys2Proof.Machine.execMfenceDone t n s
  | .nop t n => Sys2Proof.Machine.execNop t n s
  | .add t n => Sys2Proof.Machine.execAdd t n s
  | .addi t n => Sys2Proof.Machine.execAddi t n s
  | .sub t n => Sys2Proof.Machine.execSub t n s
  | .and t n => Sys2Proof.Machine.execAnd t n s
  | .andi t n => Sys2Proof.Machine.execAndi t n s
  | .or t n => Sys2Proof.Machine.execOr t n s
  | .ori t n => Sys2Proof.Machine.execOri t n s
  | .xor t n => Sys2Proof.Machine.execXor t n s
  | .xori t n => Sys2Proof.Machine.execXori t n s
  | .shl t n => Sys2Proof.Machine.execShl t n s
  | .shli t n => Sys2Proof.Machine.execShli t n s
  | .shr t n => Sys2Proof.Machine.execShr t n s
  | .shri t n => Sys2Proof.Machine.execShri t n s
  | .sar t n => Sys2Proof.Machine.execSar t n s
  | .sari t n => Sys2Proof.Machine.execSari t n s
  | .mul t n => Sys2Proof.Machine.execMul t n s
  | .mulhu t n => Sys2Proof.Machine.execMulhu t n s
  | .mulhs t n => Sys2Proof.Machine.execMulhs t n s
  | .divu t n => Sys2Proof.Machine.execDivu t n s
  | .remu t n => Sys2Proof.Machine.execRemu t n s
  | .min t n => Sys2Proof.Machine.execMin t n s
  | .max t n => Sys2Proof.Machine.execMax t n s
  | .movi t n => Sys2Proof.Machine.execMovi t n s
  | .muli t n => Sys2Proof.Machine.execMuli t n s
  | .cmpeq t n => Sys2Proof.Machine.execCmpeq t n s
  | .cmpne t n => Sys2Proof.Machine.execCmpne t n s
  | .cmplt t n => Sys2Proof.Machine.execCmplt t n s
  | .cmpltu t n => Sys2Proof.Machine.execCmpltu t n s
  | .cmpge t n => Sys2Proof.Machine.execCmpge t n s
  | .cmpgeu t n => Sys2Proof.Machine.execCmpgeu t n s
  | .cmpeqi t n => Sys2Proof.Machine.execCmpeqi t n s
  | .cmplti t n => Sys2Proof.Machine.execCmplti t n s
  | .cmpltui t n => Sys2Proof.Machine.execCmpltui t n s
  | .cmpgei t n => Sys2Proof.Machine.execCmpgei t n s
  | .cmpgeui t n => Sys2Proof.Machine.execCmpgeui t n s
  | .pand t n => Sys2Proof.Machine.execPand t n s
  | .por t n => Sys2Proof.Machine.execPor t n s
  | .pnot t n => Sys2Proof.Machine.execPnot t n s
  | .tstbit t n => Sys2Proof.Machine.execTstbit t n s
  | .br t n => Sys2Proof.Machine.execBr t n s
  | .brr t n => Sys2Proof.Machine.execBrr t n s
  | .call t n => Sys2Proof.Machine.execCall t n s
  | .ret t n => Sys2Proof.Machine.execRet t n s
  | .loop t n => Sys2Proof.Machine.execLoop t n s
  | .halt t n => Sys2Proof.Machine.execHalt t n s
  | .kick t n => Sys2Proof.Machine.execKick t n s
  | .sleep t n => Sys2Proof.Machine.execSleep t n s
  | .time t n => Sys2Proof.Machine.execTime t n s
  | .fstat t n => Sys2Proof.Machine.execFstat t n s
  | .wait t n => Sys2Proof.Machine.execWait t n s
  | .wait1 t n => Sys2Proof.Machine.execWait1 t n s
  | .sig t n => Sys2Proof.Machine.execSig t n s
  | .evclr t n => Sys2Proof.Machine.execEvclr t n s
  | .ld t n => Sys2Proof.Machine.execLd t n s
  | .st t n => Sys2Proof.Machine.execSt t n s
  | .mfence t n => Sys2Proof.Machine.execMfence t n s
  | .dbase t n => Sys2Proof.Machine.execDbase t n s
  | .amoadd t n => Sys2Proof.Machine.execAmoadd t n s
  | .ffill t n => Sys2Proof.Machine.execFfill t n s
  | .fcommit t n => Sys2Proof.Machine.execFcommit t n s
  | .fmt t n => Sys2Proof.Machine.execFmt t n s
  | .hlock t n => Sys2Proof.Machine.execHlock t n s
  | .watch t n => Sys2Proof.Machine.execWatch t n s
  | .probe t n => Sys2Proof.Machine.execProbe t n s
  | .cqpop t n => Sys2Proof.Machine.execCqpop t n s
  | .fence t n => Sys2Proof.Machine.execFence t n s
  | .energy t n => Sys2Proof.Machine.execEnergy t n s
  | .hop t n => Sys2Proof.Machine.execHop t n s
  | .lread t n => Sys2Proof.Machine.execLread t n s
  | .lwrite t n => Sys2Proof.Machine.execLwrite t n s
  | .lflag t n => Sys2Proof.Machine.execLflag t n s
  | .anchor t n => Sys2Proof.Machine.execAnchor t n s
  | .emit t n => Sys2Proof.Machine.execEmit t n s
  | .carm t n => Sys2Proof.Machine.execCarm t n s
  | .mset t n => Sys2Proof.Machine.execMset t n s
  | .mprof t n => Sys2Proof.Machine.execMprof t n s
  | .driveEnable t req head => Sys2Proof.Machine.execDriveEnable t req head s
  | .exchangeStart t head => Sys2Proof.Machine.execExchangeStart t head s
  | .exchangeCommand t head => Sys2Proof.Machine.execExchangeCommand t head s
  | .exchangeMark t head => Sys2Proof.Machine.execExchangeMark t head s
  | .echoEdge t head bank => Sys2Proof.Machine.execEchoEdge t head bank s
  | .replyFrame t head bank frame => Sys2Proof.Machine.execReplyFrame t head bank frame s
  | .replyDeadline t head => Sys2Proof.Machine.execReplyDeadline t head s
  | .exchangeWindowEnd t head => Sys2Proof.Machine.execExchangeWindowEnd t head s
  | .softStop t req head => Sys2Proof.Machine.execSoftStop t req head s
  | .standbyCableListen t head bank mark ca cap => Sys2Proof.Machine.execStandbyCableListen t head bank mark ca cap s
  | .ginChange t n a b => Sys2Proof.Machine.execGinChange t n a b s
  | .ginDiscrepancyTimeout t n => Sys2Proof.Machine.execGinDiscrepancyTimeout t n s
  | .ginAgreementEnd t n => Sys2Proof.Machine.execGinAgreementEnd t n s
  | .guardRestart t req => Sys2Proof.Machine.execGuardRestart t req s
  | .guardReset t req => Sys2Proof.Machine.execGuardReset t req s
  | .motionWindowEnd t head lim proc => Sys2Proof.Machine.execMotionWindowEnd t head lim proc s
  | .guardHeartbeat t limBeat procAnswer => Sys2Proof.Machine.execGuardHeartbeat t limBeat procAnswer s
  | .firedPulseReport t head bank fired => Sys2Proof.Machine.execFiredPulseReport t head bank fired s
  | .channelDisagreeTimeout t => Sys2Proof.Machine.execChannelDisagreeTimeout t s
  | .emenReadbackFault t isH => Sys2Proof.Machine.execEmenReadbackFault t isH s
  | .twinGuardState t fault nrstStuck levels => Sys2Proof.Machine.execTwinGuardState t fault nrstStuck levels s
  | .loopSample t n => Sys2Proof.Machine.execLoopSample t n s
  | .commandApply t n late => Sys2Proof.Machine.execCommandApply t n late s
  | .encEdge t m a b => Sys2Proof.Machine.execEncEdge t m a b s
  | .encIndex t m rise => Sys2Proof.Machine.execEncIndex t m rise s
  | .setpointWrite t req n val => Sys2Proof.Machine.execSetpointWrite t req n val s
  | .rcClear t req n => Sys2Proof.Machine.execRcClear t req n s
  | .parkRequest t => Sys2Proof.Machine.execParkRequest t s
  | .parkEnd t => Sys2Proof.Machine.execParkEnd t s
  | .trStart t req => Sys2Proof.Machine.execTrStart t req s
  | .trStop t req => Sys2Proof.Machine.execTrStop t req s
  | .laneEnable t req lane on => Sys2Proof.Machine.execLaneEnable t req lane on s
  | .blockReceive t lane bits => Sys2Proof.Machine.execBlockReceive t lane bits s
  | .capSend t lane => Sys2Proof.Machine.execCapSend t lane s
  | .capReceive t lane cap => Sys2Proof.Machine.execCapReceive t lane cap s
  | .capTimeout t lane => Sys2Proof.Machine.execCapTimeout t lane s
  | .ackReceive t lane entries => Sys2Proof.Machine.execAckReceive t lane entries s
  | .creditReceive t lane entries => Sys2Proof.Machine.execCreditReceive t lane entries s
  | .sleepReceive t lane deep => Sys2Proof.Machine.execSleepReceive t lane deep s
  | .controlBlockUnknown t lane ctype => Sys2Proof.Machine.execControlBlockUnknown t lane ctype s
  | .parcelReceive t lane header blocks => Sys2Proof.Machine.execParcelReceive t lane header blocks s
  | .ackSend t lane => Sys2Proof.Machine.execAckSend t lane s
  | .transmitSlot t lane => Sys2Proof.Machine.execTransmitSlot t lane s
  | .ackTimeout t lane => Sys2Proof.Machine.execAckTimeout t lane s
  | .laneRestart t lane => Sys2Proof.Machine.execLaneRestart t lane s
  | .parcelTimeout t stream => Sys2Proof.Machine.execParcelTimeout t stream s
  | .laybyDrain t stream => Sys2Proof.Machine.execLaybyDrain t stream s
  | .gapSplitExpiry t stream => Sys2Proof.Machine.execGapSplitExpiry t stream s
  | .ctrlRead t port => Sys2Proof.Machine.execCtrlRead t port s
  | .ctrlWrite t port => Sys2Proof.Machine.execCtrlWrite t port s
  | .ctrlUnknownOp t port => Sys2Proof.Machine.execCtrlUnknownOp t port s
  | .txSleepEnter t lane => Sys2Proof.Machine.execTxSleepEnter t lane s
  | .txWake t lane => Sys2Proof.Machine.execTxWake t lane s
  | .wakeResume t lane => Sys2Proof.Machine.execWakeResume t lane s
  | .prbsBitsCapture t req lane => Sys2Proof.Machine.execPrbsBitsCapture t req lane s
  | .chkClear t req lane => Sys2Proof.Machine.execChkClear t req lane s
  | .injBit t req lane => Sys2Proof.Machine.execInjBit t req lane s
  | .injBurst t req lane => Sys2Proof.Machine.execInjBurst t req lane s
  | .injCrc t req lane => Sys2Proof.Machine.execInjCrc t req lane s
  | .beatSend t => Sys2Proof.Machine.execBeatSend t s
  | .healthCheck t supplies cores firing => Sys2Proof.Machine.execHealthCheck t supplies cores firing s
  | .beatReceive t lane info time => Sys2Proof.Machine.execBeatReceive t lane info time s
  | .hbInPulse t => Sys2Proof.Machine.execHbInPulse t s
  | .pathLost t path => Sys2Proof.Machine.execPathLost t path s
  | .ownKeeperLapse t => Sys2Proof.Machine.execOwnKeeperLapse t s
  | .ownClaim t other => Sys2Proof.Machine.execOwnClaim t other s
  | .ownRelease t req => Sys2Proof.Machine.execOwnRelease t req s
  | .identityReceive t id => Sys2Proof.Machine.execIdentityReceive t id s
  | .tofsUpdate t stamps => Sys2Proof.Machine.execTofsUpdate t stamps s
  | .shadowSchedule t notice => Sys2Proof.Machine.execShadowSchedule t notice s
  | .mirroredWrite t addr size val => Sys2Proof.Machine.execMirroredWrite t addr size val s
  | .alignStart t => Sys2Proof.Machine.execAlignStart t s
  | .epochReceive t epoch len crc content => Sys2Proof.Machine.execEpochReceive t epoch len crc content s
  | .dqsTrack t byteLane drift => Sys2Proof.Machine.execDqsTrack t byteLane drift s
  | .dramAccess t req addr size write val linkErr => Sys2Proof.Machine.execDramAccess t req addr size write val linkErr s
  | .tollHoldEnd t req bank => Sys2Proof.Machine.execTollHoldEnd t req bank s
  | .selfRefreshEnter t port => Sys2Proof.Machine.execSelfRefreshEnter t port s
  | .selfRefreshExit t port => Sys2Proof.Machine.execSelfRefreshExit t port s
  | .replayIndexWrite t => Sys2Proof.Machine.execReplayIndexWrite t s
  | .replayStart t req => Sys2Proof.Machine.execReplayStart t req s
  | .replayAbort t req => Sys2Proof.Machine.execReplayAbort t req s
  | .replaySend t => Sys2Proof.Machine.execReplaySend t s
  | .captureArm t req setup => Sys2Proof.Machine.execCaptureArm t req setup s
  | .captureStore t slot => Sys2Proof.Machine.execCaptureStore t slot s
  | .captureTimeoutExpiry t cond => Sys2Proof.Machine.execCaptureTimeoutExpiry t cond s
  | .captureAvgIntervalEnd t slot => Sys2Proof.Machine.execCaptureAvgIntervalEnd t slot s
  | .captureTriggerReport t => Sys2Proof.Machine.execCaptureTriggerReport t s
  | .capForce t req => Sys2Proof.Machine.execCapForce t req s
  | .xtrigReceive t setup mask cause time => Sys2Proof.Machine.execXtrigReceive t setup mask cause time s
  | .capStop t req => Sys2Proof.Machine.execCapStop t req s
  | .readout t req => Sys2Proof.Machine.execReadout t req s
  | .loopConversion t n code => Sys2Proof.Machine.execLoopConversion t n code s
  | .supplyConversion t k code => Sys2Proof.Machine.execSupplyConversion t k code s
  | .seqEntryRun t codes => Sys2Proof.Machine.execSeqEntryRun t codes s
  | .seqStart t req => Sys2Proof.Machine.execSeqStart t req s
  | .rqPop t req => Sys2Proof.Machine.execRqPop t req s
  | .spSample t n vs vf comply => Sys2Proof.Machine.execSpSample t n vs vf comply s
  | .portEnable t req n => Sys2Proof.Machine.execPortEnable t req n s
  | .curveExpand t req n curve => Sys2Proof.Machine.execCurveExpand t req n curve s
  | .curveExpandDone t n => Sys2Proof.Machine.execCurveExpandDone t n s
  | .sensorConversion t readings => Sys2Proof.Machine.execSensorConversion t readings s
  | .thermalLevelChange t => Sys2Proof.Machine.execThermalLevelChange t s
  | .orderlyStopRecords t => Sys2Proof.Machine.execOrderlyStopRecords t s
  | .thermalRestart t => Sys2Proof.Machine.execThermalRestart t s
  | .refOpIssue t head => Sys2Proof.Machine.execRefOpIssue t head s
  | .calGroup t die group results => Sys2Proof.Machine.execCalGroup t die group results s
  | .calNow t req => Sys2Proof.Machine.execCalNow t req s
  | .calUrgent t die => Sys2Proof.Machine.execCalUrgent t die s
  | .nvRecordWrite t rec => Sys2Proof.Machine.execNvRecordWrite t rec s
  | .attGo t req => Sys2Proof.Machine.execAttGo t req s
  | .attDone t => Sys2Proof.Machine.execAttDone t s
  | .authGo t req => Sys2Proof.Machine.execAuthGo t req s
  | .sessEnd t req => Sys2Proof.Machine.execSessEnd t req s
  | .ledgGo t req => Sys2Proof.Machine.execLedgGo t req s
  | .ledgerChangeDone t => Sys2Proof.Machine.execLedgerChangeDone t s
  | .powerOnReset release => Sys2Proof.Machine.execPowerOnReset release s
  | .undervoltageTrip t supply => Sys2Proof.Machine.execUndervoltageTrip t supply s
  | .pinReset t => Sys2Proof.Machine.execPinReset t s
  | .nrstRelease t => Sys2Proof.Machine.execNrstRelease t s
  | .nrstStuck t => Sys2Proof.Machine.execNrstStuck t s
  | .nrstStuckEnd t => Sys2Proof.Machine.execNrstStuckEnd t s
  | .startupStage t work => Sys2Proof.Machine.execStartupStage t work s
  | .errorAutoAck t => Sys2Proof.Machine.execErrorAutoAck t s
  | .fatalTimeout t => Sys2Proof.Machine.execFatalTimeout t s
  | .errPop t req => Sys2Proof.Machine.execErrPop t req s
  | .recover t req => Sys2Proof.Machine.execRecover t req s
  | .trimStepNoFormat t at_ => Sys2Proof.Machine.execTrimStepNoFormat t at_ s
  | .fuInputEdge t src aux => Sys2Proof.Machine.execFuInputEdge t src aux s
  | .rxSignalDetect t lane => Sys2Proof.Machine.execRxSignalDetect t lane s
  | .rxWakeLockTimeout t lane => Sys2Proof.Machine.execRxWakeLockTimeout t lane s
  | .prbsBitCheck t lane bit => Sys2Proof.Machine.execPrbsBitCheck t lane bit s
  | .ownLineChange t high => Sys2Proof.Machine.execOwnLineChange t high s
  | .nvProgramDone t => Sys2Proof.Machine.execNvProgramDone t s
  | .calGroupStart t die => Sys2Proof.Machine.execCalGroupStart t die s
  | .nrstFall t => Sys2Proof.Machine.execNrstFall t s

end Sys2Proof.Machine
end

