-- ==== Sys2Proof/Safety.lean ====
section
/-! DEFINITION. What counts as a safe run, and the words in which statements are made. -/

namespace Sys2Proof.Machine

/-- The machine goes on: its step answers a next state. -/
def Proceeds (s : State) : Prop := ∃ s', step s = .next s'

/-- The command completes with a next state of which `P` holds. -/
def Completes (c : Instr) (s : State) (P : State → Prop) : Prop := ∃ u, exec c s = .next u ∧ P u

/-- The command completes with the next state `v`, in which the part enters the safe state where the effect calls for it
(17_startup_faults.md R399). -/
def Acts (c : Instr) (s v : State) : Prop := exec c s = .next (settle v)

/-- The part is out of reset and powered, and owes no entry to the safe state. -/
def Ready (s : State) : Prop := s.su.power = .running ∧ s.su.wantSafe = false

/-- A requester may write at a part address, whatever the value: its role allows it, and the part neither follows another
unit, which alone writes there, nor forwards the write to one (11_twin.md R286, R295). -/
def Admits (s : State) (req a : Nat) : Prop :=
  (∀ v, s.mayWrite req a v = true) ∧ (s.follower && roleTested req && shared a) = false ∧ s.forwards a = false

/-- The state in which the register of a field has taken the word that writes the field: what a requested action finds. -/
def State.asked (s : State) (req : Nat) (f : Field) (v : Nat) : State :=
  match regHit f.addr with
  | some h => s.setReg f.addr (BitVec.ofNat 32 (s.regNew f.addr h (s.fieldWord req f h v % 2 ^ 32)))
  | none => s

/-- Every register outside a list holds the word it held. -/
def RegsBut (l : List Nat) (s u : State) : Prop := ∀ a, a ∉ l → u.reg a = s.reg a

/-- The instruction index in front of sequencer n. -/
def State.sqPc (s : State) (n : Nat) : Nat := s.get (R.SQ_PC.PC n)

/-- Sequencer n is RUNNING a program of instructions, not the built-in policy (06_salrad.md R177), with a legal instruction
of an opcode in front of it, inside its span (R147 to R149). -/
def AtInstr (s : State) (n opc : Nat) (i : Ins) : Prop :=
  s.policyHolds n = false ∧ s.sqState n = 2 ∧ s.inSpan n (s.sqPc n) = true ∧ s.insAt n = i ∧ i.opc = opc ∧ ∃ l, layoutOf opc = some l ∧ i.legal l = true

/-- The same, and the instruction executes; the next one lies inside the span too. -/
def Executes (s : State) (n opc : Nat) (i : Ins) : Prop :=
  AtInstr s n opc i ∧ s.executes n i = true ∧ s.inSpan n (s.sqPc n + 1) = true

end Sys2Proof.Machine

namespace Sys2Proof

/-- Commands that make a register write, so that any part may change. -/
def Instr.writesRegisters (c : Instr) : Bool :=
  match c with
  | .registerWrite .. | .unmappedClear .. | .paceMinRestart .. | .stuckHighClear .. | .dropCountClear ..
  | .chThrWrite .. | .channelDisable .. | .anchorGo .. | .iuArm .. | .iuSwstop .. | .iuAbort .. | .fuStart ..
  | .frondCommit .. | .scanStart .. | .scanStop .. | .sqRun .. | .sqStop .. | .sqUnload .. | .evSoft .. | .st ..
  | .amoadd .. | .fmt .. | .energy .. | .mset .. | .driveEnable .. | .softStop .. | .guardRestart ..
  | .guardReset .. | .setpointWrite .. | .rcClear .. | .trStart .. | .trStop .. | .laneEnable .. | .ctrlWrite ..
  | .chkClear .. | .injBit .. | .injBurst .. | .injCrc .. | .ownRelease .. | .mirroredWrite .. | .epochReceive ..
  | .dramAccess .. | .replayStart .. | .replayAbort .. | .captureArm .. | .capForce .. | .capStop .. | .readout ..
  | .seqStart .. | .portEnable .. | .curveExpand .. | .calNow .. | .attGo .. | .authGo .. | .sessEnd ..
  | .ledgGo .. | .errPop .. | .recover .. => true
  | _ => false

/-- Commands that reset the part. -/
def Instr.resets (c : Instr) : Bool :=
  match c with
  | .undervoltageTrip .. | .pinReset .. | .thermalRestart .. => true
  | _ => false

/-- Commands of the return channels: edges, the end of an event, binning, the loss of lock (02_channels_and_time.md). -/
def Instr.movesChannels (c : Instr) : Bool :=
  match c with
  | .eventStart .. | .highComparatorEdge .. | .eventEnd .. | .eventTimeoutClose .. | .rearmEnd ..
  | .stuckHighTimeout .. | .eventBin .. | .timebaseLockLoss .. => true
  | _ => false

/-- Commands of the time base, of frames, and reads that a requester makes (02_channels_and_time.md). -/
def Instr.movesTimeBase (c : Instr) : Bool :=
  match c with
  | .timebaseLock .. | .devtimeSnapshot .. | .anchorTakeEffect .. | .syncEdge .. | .syncMiss .. | .syncFifoPop ..
  | .iuStartEdge .. | .iuResultRead .. | .fuGateOpen .. | .fuGateEnd .. | .fuResult .. | .frameOpen .. | .ld ..
  | .anchor .. | .exchangeMark .. | .ctrlRead .. | .rqPop .. | .fuInputEdge .. => true
  | _ => false

/-- Commands of points, pace and latch points, and the park request (04_echoes_and_points.md, 01_architecture.md). -/
def Instr.movesPoints (c : Instr) : Bool :=
  match c with
  | .paceWindowEnd .. | .dieLinkStall .. | .lateResultDiscard .. | .cellDecision .. | .handoff ..
  | .lichenObservation .. | .frameClosed .. | .latchPoint .. | .frameOpen .. | .imageLoad .. | .hop ..
  | .parkRequest .. | .ownClaim .. | .startupStage .. => true
  | _ => false

/-- Commands of the scanner control block and of capture, whose twin trigger the trace takes (09_scanner_control.md). -/
def Instr.movesMotion (c : Instr) : Bool :=
  match c with
  | .lineStart .. | .frameOpen .. | .mprof .. | .exchangeStart .. | .loopSample .. | .commandApply .. | .encEdge ..
  | .encIndex .. | .parkRequest .. | .captureStore .. | .captureTimeoutExpiry .. | .captureAvgIntervalEnd ..
  | .captureTriggerReport .. | .loopConversion .. => true
  | _ => false

/-- Commands of capture and of what it samples (13_capture.md). -/
def Instr.movesCapture (c : Instr) : Bool :=
  match c with
  | .eventEnd .. | .eventTimeoutClose .. | .stuckHighTimeout .. | .carm .. | .loopSample .. | .captureStore ..
  | .captureTimeoutExpiry .. | .captureAvgIntervalEnd .. | .captureTriggerReport .. | .xtrigReceive ..
  | .loopConversion .. | .supplyConversion .. | .seqEntryRun .. | .spSample .. => true
  | _ => false

/-- Commands of housekeeping, and reads that a requester makes (14_housekeeping.md). -/
def Instr.movesHousekeeping (c : Instr) : Bool :=
  match c with
  | .devtimeSnapshot .. | .syncFifoPop .. | .iuResultRead .. | .ld .. | .ctrlRead .. | .supplyConversion ..
  | .seqEntryRun .. | .rqPop .. | .spSample .. | .curveExpandDone .. | .sensorConversion .. => true
  | _ => false

/-- Commands of temperature and calibration, and of the start-up (15_thermal_calibration.md). -/
def Instr.movesThermal (c : Instr) : Bool :=
  match c with
  | .handoff .. | .lineStart .. | .parkRequest .. | .parkEnd .. | .sensorConversion .. | .thermalLevelChange ..
  | .orderlyStopRecords .. | .refOpIssue .. | .calGroup .. | .startupStage .. | .trimStepNoFormat ..
  | .calGroupStart .. => true
  | _ => false

/-- Commands of non-volatile memory, identity, images, keys and a stopped lane (16_security_ledger.md). -/
def Instr.movesSecurity (c : Instr) : Bool :=
  match c with
  | .poweredHoursWrite .. | .cellDecision .. | .handoff .. | .lichenObservation .. | .imageLoad ..
  | .blockReceive .. | .capReceive .. | .capTimeout .. | .ackReceive .. | .transmitSlot .. | .ackTimeout ..
  | .laneRestart .. | .txSleepEnter .. | .sensorConversion .. | .thermalLevelChange .. | .orderlyStopRecords ..
  | .nvRecordWrite .. | .attDone .. | .ledgerChangeDone .. | .startupStage .. | .rxWakeLockTimeout ..
  | .nvProgramDone .. => true
  | _ => false

/-- Commands whose effect the spec leaves open in some value: they draw free values. -/
def Instr.drawsFree (c : Instr) : Bool :=
  match c with
  | .devtimeSnapshot .. | .syncFifoPop .. | .iuResultRead .. | .fuResult .. | .correlatorTake .. | .handoff ..
  | .visitCompose .. | .ld .. | .ctrlRead .. | .rqPop .. | .spSample .. | .sensorConversion ..
  | .thermalLevelChange .. | .orderlyStopRecords .. => true
  | _ => false

/-- Commands that may store a byte below the DRAM: register writes of a requester among them, since an address decides what
they reach. -/
def Instr.storesBytes (c : Instr) : Bool :=
  match c with
  | .registerWrite .. | .unmappedClear .. | .paceMinRestart .. | .stuckHighClear .. | .dropCountClear ..
  | .chThrWrite .. | .channelDisable .. | .anchorGo .. | .iuArm .. | .iuSwstop .. | .iuAbort .. | .fuStart ..
  | .cellDecision .. | .handoff .. | .lichenObservation .. | .frameClosed .. | .frameOpen .. | .frondCommit ..
  | .scanStart .. | .scanStop .. | .sqRun .. | .sqStop .. | .sqUnload .. | .evSoft .. | .imageLoad .. | .st ..
  | .amoadd .. | .ffill .. | .fmt .. | .energy .. | .lwrite .. | .lflag .. | .mset .. | .driveEnable ..
  | .softStop .. | .guardRestart .. | .guardReset .. | .loopSample .. | .setpointWrite .. | .rcClear ..
  | .parkRequest .. | .trStart .. | .trStop .. | .laneEnable .. | .ctrlWrite .. | .chkClear .. | .injBit ..
  | .injBurst .. | .injCrc .. | .ownClaim .. | .ownRelease .. | .mirroredWrite .. | .epochReceive ..
  | .dramAccess .. | .tollHoldEnd .. | .replayIndexWrite .. | .replayStart .. | .replayAbort .. | .captureArm ..
  | .captureStore .. | .captureTimeoutExpiry .. | .captureAvgIntervalEnd .. | .captureTriggerReport ..
  | .capForce .. | .capStop .. | .readout .. | .seqStart .. | .portEnable .. | .curveExpand .. | .thermalRestart ..
  | .calNow .. | .attGo .. | .attDone .. | .authGo .. | .sessEnd .. | .ledgGo .. | .ledgerChangeDone ..
  | .undervoltageTrip .. | .pinReset .. | .startupStage .. | .errPop .. | .recover .. => true
  | _ => false

/-- Commands of the parts that have power whatever the state of the reset: OWN, the temperature sensors, the time base, the
supplies and nRST. -/
def Instr.alwaysPowered (c : Instr) : Bool :=
  match c with
  | .ownKeeperLapse .. | .ownLineChange .. | .sensorConversion .. | .timebaseLock .. | .timebaseLockLoss ..
  | .powerOnReset .. | .undervoltageTrip .. | .nrstFall .. | .pinReset .. | .nrstRelease .. | .nrstStuck ..
  | .nrstStuckEnd .. | .thermalRestart .. => true
  | _ => false

/-- The instant, the sequencer and the opcode of an instruction's row (06_salrad.md R149); none for the other commands. -/
def Instr.seqOp (c : Instr) : Option (Nat × Fin 8 × Nat) :=
  match c with
  | .nop t n => some (t, n, 0x00)
  | .add t n => some (t, n, 0x01)
  | .addi t n => some (t, n, 0x02)
  | .sub t n => some (t, n, 0x03)
  | .and t n => some (t, n, 0x04)
  | .andi t n => some (t, n, 0x05)
  | .or t n => some (t, n, 0x06)
  | .ori t n => some (t, n, 0x07)
  | .xor t n => some (t, n, 0x08)
  | .xori t n => some (t, n, 0x09)
  | .shl t n => some (t, n, 0x0A)
  | .shli t n => some (t, n, 0x0B)
  | .shr t n => some (t, n, 0x0C)
  | .shri t n => some (t, n, 0x0D)
  | .sar t n => some (t, n, 0x0E)
  | .sari t n => some (t, n, 0x0F)
  | .mul t n => some (t, n, 0x10)
  | .mulhu t n => some (t, n, 0x11)
  | .mulhs t n => some (t, n, 0x12)
  | .divu t n => some (t, n, 0x13)
  | .remu t n => some (t, n, 0x14)
  | .min t n => some (t, n, 0x15)
  | .max t n => some (t, n, 0x16)
  | .movi t n => some (t, n, 0x17)
  | .muli t n => some (t, n, 0x18)
  | .cmpeq t n => some (t, n, 0x20)
  | .cmpne t n => some (t, n, 0x21)
  | .cmplt t n => some (t, n, 0x22)
  | .cmpltu t n => some (t, n, 0x23)
  | .cmpge t n => some (t, n, 0x24)
  | .cmpgeu t n => some (t, n, 0x25)
  | .cmpeqi t n => some (t, n, 0x26)
  | .cmplti t n => some (t, n, 0x27)
  | .cmpltui t n => some (t, n, 0x28)
  | .cmpgei t n => some (t, n, 0x29)
  | .cmpgeui t n => some (t, n, 0x2A)
  | .pand t n => some (t, n, 0x2C)
  | .por t n => some (t, n, 0x2D)
  | .pnot t n => some (t, n, 0x2E)
  | .tstbit t n => some (t, n, 0x2F)
  | .br t n => some (t, n, 0x30)
  | .brr t n => some (t, n, 0x31)
  | .call t n => some (t, n, 0x32)
  | .ret t n => some (t, n, 0x33)
  | .loop t n => some (t, n, 0x34)
  | .halt t n => some (t, n, 0x35)
  | .kick t n => some (t, n, 0x36)
  | .sleep t n => some (t, n, 0x37)
  | .time t n => some (t, n, 0x38)
  | .fstat t n => some (t, n, 0x39)
  | .wait t n => some (t, n, 0x40)
  | .wait1 t n => some (t, n, 0x41)
  | .sig t n => some (t, n, 0x42)
  | .evclr t n => some (t, n, 0x43)
  | .ld t n => some (t, n, 0x50)
  | .st t n => some (t, n, 0x51)
  | .mfence t n => some (t, n, 0x52)
  | .dbase t n => some (t, n, 0x53)
  | .amoadd t n => some (t, n, 0x54)
  | .ffill t n => some (t, n, 0x60)
  | .fcommit t n => some (t, n, 0x61)
  | .fmt t n => some (t, n, 0x62)
  | .hlock t n => some (t, n, 0x63)
  | .watch t n => some (t, n, 0x64)
  | .probe t n => some (t, n, 0x70)
  | .cqpop t n => some (t, n, 0x71)
  | .fence t n => some (t, n, 0x72)
  | .energy t n => some (t, n, 0x80)
  | .hop t n => some (t, n, 0x81)
  | .lread t n => some (t, n, 0x90)
  | .lwrite t n => some (t, n, 0x91)
  | .lflag t n => some (t, n, 0x92)
  | .anchor t n => some (t, n, 0xA0)
  | .emit t n => some (t, n, 0xA1)
  | .carm t n => some (t, n, 0xB0)
  | .mset t n => some (t, n, 0xC0)
  | .mprof t n => some (t, n, 0xC1)
  | _ => none

end Sys2Proof
end

