-- ==== Sys2Proof/Certificates/Slice0/Obligations.lean ====
section
/-! DEFINITION. Statements for the provers. Each says what the spec's rules say a command, or the machine, does; where it
rests on a choice of the model, its docstring names the log entry. -/

open Sys2Proof Sys2Proof.Machine

/-- The queue and the idling on an empty one are the model's own (log 1): the spec names no queue of commands. -/
def Obligations.StepRunsFront : Prop :=
  (∀ (c : Instr) (q : List Instr) (s : State), step { s with pending := c :: q } = exec c { s with pending := q }) ∧
  (∀ s : State, s.pending = [] → step s = .next s)

/-- The spec records what goes wrong in registers and in the error queue, and the part goes on: no command faults or is
refused, in any state, and no command puts another into the queue or takes one out. -/
def Obligations.EveryCommandAnswers : Prop :=
  ∀ (c : Instr) (s : State), ∃ u, exec c s = .next u ∧ u.pending = s.pending ∧ u.variant = s.variant

/-- The invariant of CanonicalKept holds at reset. -/
def Obligations.ResetCanonical : Prop :=
  State.reset.Canon ∧ State.reset.mem = [] ∧ State.reset.regs = [] ∧ State.reset.pending = []

/-- The memory and the register file stay in canonical form through every step, whatever the command, from every state in
which they are, reached or not. -/
def Obligations.CanonicalKept : Prop := ∀ s u : State, s.Canon → step s = .next u → u.Canon

/-- R46: device time counts on through every command, and only power-on reset returns it to 0. -/
def Obligations.ClockNeverRunsBack : Prop :=
  (∀ (c : Instr) (s u : State), (∀ t p, c ≠ .powerOnReset ⟨t, p⟩) → exec c s = .next u → s.now ≤ u.now) ∧
  (∀ (t : Nat) (p : Bool) (s u : State), s.su.noSupply = true → exec (.powerOnReset ⟨t, p⟩) s = .next u → u.now = 0)

/-- The frames of the blocks, for every command and every state, reached or not. -/
def Obligations.BlocksIsolated : Prop :=
  ∀ (c : Instr) (s u : State), c.writesRegisters = false → c.resets = false → exec c s = .next u →
    (c.movesChannels = false → u.chans = s.chans) ∧ (c.movesTimeBase = false → u.tb = s.tb) ∧
    (c.movesPoints = false → u.pts = s.pts) ∧ (c.movesMotion = false → u.motion = s.motion) ∧
    (c.movesCapture = false → u.cap = s.cap) ∧ (c.movesHousekeeping = false → u.hk = s.hk) ∧
    (c.movesThermal = false → u.therm = s.therm) ∧ (c.movesSecurity = false → u.sec = s.sec)

/-- The frame of memory: every byte below the DRAM, for every command that stores none there. -/
def Obligations.BytesKept : Prop :=
  ∀ (c : Instr) (s u : State) (a : Nat), c.storesBytes = false → exec c s = .next u → a < dramBase → u.byte a = s.byte a

/-- R44, R45. Events under way when lock is lost are dropped: the model's reading of 'no channel takes stamps' (log 44). -/
def Obligations.LockFollowed : Prop :=
  (∀ (t : Nat) (s : State), s.su.wantSafe = false → let w := s.tick t
    w.flag R.TB_STATUS.LOCKED = false → w.get R.TB_STATUS.LOCK_LOSS_COUNT = 0 →
    exec (.timebaseLock t) s = .next
      { (w.setFlag R.TB_STATUS.LOCKED).clrFlag R.TB_STATUS.HOLDOVER with tb := { w.tb with lockedAt := w.now } }) ∧
  (∀ (t : Nat) (s : State), Ready s → let w := s.tick t
    w.flag R.TB_STATUS.LOCKED = false → 0 < w.get R.TB_STATUS.LOCK_LOSS_COUNT →
    exec (.timebaseLock t) s = .next
      { (w.setFlag R.TB_STATUS.LOCKED).clrFlag R.TB_STATUS.HOLDOVER with
        tb := { w.tb with lockedAt := w.now, resumeA := w.running 0, resumeB := w.running 1 } }) ∧
  (∀ (t : Nat) (s : State), s.su.power = .running → let w := s.tick t
    w.flag R.TB_STATUS.LOCKED = true →
    let lost := (((w.clrFlag R.TB_STATUS.LOCKED).setFlag R.TB_STATUS.HOLDOVER).setFlag R.TB_STATUS.LOCK_LOST).bumpSat
      R.TB_STATUS.LOCK_LOSS_COUNT
    exec (.timebaseLockLoss t) s =
      .next (settle (releaseOwn 2 (dropOpenEvents (fun _ => true) (enterErr 4 0 R.TB_STATUS.LOCK_LOST lost)))))

/-- R47, R52 (its last paragraph), R55 and R334. -/
def Obligations.ReadsThatAct : Prop :=
  ∀ (t req : Nat) (s : State), Ready s → let w := s.tick t
    exec (.devtimeSnapshot t req) s = .next { w with tb := { w.tb with snap := w.tb.snap.put 0 req (hi32 w.ns) } } ∧
    Completes (.syncFifoPop t req) s (fun u => let e := w.tb.syncFifo.headD (0, false)
      u = { w with regs := u.regs, tb := { w.tb with syncFifo := w.tb.syncFifo.tail } } ∧
      u.get R.SYNC_FIFO_HI.STAMP_HI = e.1 / 2 ^ 32 % 2 ^ 32 ∧ u.get R.SYNC_FIFO_X.STAMP_TOP = e.1 / 2 ^ 64 % 2 ^ 7 ∧
      u.flag R.SYNC_FIFO_X.EARLY = e.2 ∧ RegsBut [R.SYNC_FIFO_HI.addr, R.SYNC_FIFO_X.addr] w u) ∧
    exec (.iuResultRead t req) s = .next ((w.put R.IU_STATUS.IU_STATE 0).clrFlag R.IU_STATUS.IU_OWNER) ∧
    exec (.rqPop t req) s = .next (rqPop w).2

/-- R49 and R50; the anchor that took effect is the one R51 repeats, and the frame counts of both heads start anew. -/
def Obligations.AnchorsQueued : Prop :=
  (∀ (t req : Nat) (s : State), Ready s → let w := s.tick t
    Admits w req R.ANCHOR_CTL.addr → w.tb.anchors.length < 8 →
    Completes (.anchorGo t req) s (fun u => ∃ l r : List Anchor,
      let label := w.get R.ANCHOR_LABEL_LO.LABEL_LO + 2 ^ 32 * w.get R.ANCHOR_LABEL_HI.LABEL_HI
      let at_ := max (w.get R.ANCHOR_AT_LO.AT_LO + 2 ^ 32 * w.get R.ANCHOR_AT_HI.AT_HI) w.ns
      w.tb.anchors = l ++ r ∧ (r = [] ∨ ∃ y q, r = y :: q ∧ at_ < y.at_) ∧ (∀ x ∈ l, x.at_ ≤ at_) ∧
      u = { w with regs := u.regs, tb := { w.tb with anchors := l ++ ⟨label, at_⟩ :: r } } ∧
      RegsBut [R.ANCHOR_CTL.addr] w u)) ∧
  (∀ (t req : Nat) (s : State), Ready s → let w := s.tick t
    Admits w req R.ANCHOR_CTL.addr → 8 ≤ w.tb.anchors.length →
    Completes (.anchorGo t req) s (fun u => u = { w with regs := u.regs } ∧ RegsBut [R.ANCHOR_CTL.addr] w u ∧
      u.flag R.ANCHOR_CTL.ANCHOR_FULL = true ∧
      u.get R.ANCHOR_CTL.ANCHOR_REJ_COUNT = min 65535 (w.get R.ANCHOR_CTL.ANCHOR_REJ_COUNT + 1))) ∧
  (∀ (t : Nat) (s : State) (a : Anchor) (r : List Anchor), Ready s → let w := s.tick t
    w.tb.anchors = a :: r → a.at_ ≤ w.ns →
    exec (.anchorTakeEffect t) s = .next (raiseEv 11 (milestoneAt 0x04 0 (w.frameCount 0) a.at_ a.words
      { w with tb := { w.tb with anchors := r, last := some a, framesA := 0, framesB := 0 } })))

/-- R52 and R53. `at_` is the instant the level began, in fine LSB; the edge is accepted 20 ns later. -/
def Obligations.SyncGraded : Prop :=
  (∀ (at_ width : Nat) (rising : Bool) (s : State), Ready s → let w := s.tick (at_ + fineNs 20)
    fineNs 20 ≤ width → w.flag R.SYNC_CFG.SYNC_EN = true → rising ≠ w.flag R.SYNC_CFG.SYNC_EDGE →
    w.get R.SYNC_CFG.SYNC_DIV ≤ w.tb.syncDiv → w.tb.syncFifo.length < 16 →
    (w.tb.syncRef = none →
      exec (.syncEdge at_ rising width) s = .next (raiseEv 8 (
        let v := setQual 1 { w with tb := { w.tb with syncDiv := 0, syncRef := some at_, syncGood := 0, syncMissed := 0 } }
        { v with tb := { v.tb with syncFifo := v.tb.syncFifo ++ [(at_, false)] } }))) ∧
    (∀ r, w.tb.syncRef = some r → at_ - r + fineNs (w.get R.SYNC_TOL.value) < fineNs (w.get R.SYNC_NOM.value) →
      exec (.syncEdge at_ rising width) s = .next (raiseEv 8 (
        let v := { w.setFlag R.SYNC_STATUS.SYNC_EARLY with tb := { w.tb with syncDiv := 0, syncGood := 0 } }
        let v := if w.get R.SYNC_STATUS.SYNC_QUAL = 2 then setQual 1 v else v
        { v with tb := { v.tb with syncFifo := v.tb.syncFifo ++ [(at_, true)] } }))) ∧
    (∀ r, w.tb.syncRef = some r → fineNs (w.get R.SYNC_NOM.value) ≤ at_ - r + fineNs (w.get R.SYNC_TOL.value) →
      at_ ≤ r + fineNs (w.get R.SYNC_NOM.value + w.get R.SYNC_TOL.value) → 0 < at_ →
      exec (.syncEdge at_ rising width) s = .next (raiseEv 8 (
        let n := min 4 (w.tb.syncGood + 1)
        let v := { w.put R.SYNC_PERIOD.value ((at_ - r) / 128) with
          tb := { w.tb with syncDiv := 0, syncRef := some at_, syncGood := n, syncMissed := 0, syncGoodAt := some at_ } }
        let v := if n = 4 then setQual 2 v else v
        { v with tb := { v.tb with syncFifo := v.tb.syncFifo ++ [(at_, false)] } })))) ∧
  (∀ (at_ width : Nat) (rising : Bool) (s : State), Ready s →
    (width < fineNs 20 → exec (.syncEdge at_ rising width) s = .next (s.tick at_)) ∧
    (fineNs 20 ≤ width → rising = s.flag R.SYNC_CFG.SYNC_EDGE →
      exec (.syncEdge at_ rising width) s = .next (s.tick (at_ + fineNs 20))) ∧
    (fineNs 20 ≤ width → rising ≠ s.flag R.SYNC_CFG.SYNC_EDGE → s.flag R.SYNC_CFG.SYNC_EN = true →
      s.tb.syncDiv < s.get R.SYNC_CFG.SYNC_DIV →
      exec (.syncEdge at_ rising width) s = .next { s.tick (at_ + fineNs 20) with tb := { s.tb with syncDiv := s.tb.syncDiv + 1 } })) ∧
  (∀ (t r : Nat) (s : State), Ready s → let w := s.tick t
    w.tb.syncRef = some r → r + fineNs (w.get R.SYNC_NOM.value + w.get R.SYNC_TOL.value) ≤ w.now →
    let v := (w.setFlag R.SYNC_STATUS.SYNC_MISS).bumpSat R.SYNC_STATUS.SYNC_MISS_COUNT
    exec (.syncMiss t) s = .next (if w.tb.syncMissed + 1 = 2 then
      setQual 3 { v with tb := { w.tb with syncRef := none, syncGood := 0, syncMissed := 0 } }
      else { v with tb := { w.tb with syncRef := some (r + fineNs (w.get R.SYNC_NOM.value)), syncGood := 0,
                                      syncMissed := w.tb.syncMissed + 1 } }))

/-- R54 to R57. That a timeout raises ev19 is the model's reading (DEDUCED, log 26); a period or residual beyond its field
is a free value (log 7). -/
def Obligations.IntervalsAndFrequencyMeasured : Prop :=
  (∀ (t req : Nat) (s : State), Ready s → let w := s.tick t
    Admits w req R.IU_CTL.addr →
    (w.get R.IU_STATUS.IU_STATE = 0 ∨ w.get R.IU_STATUS.IU_STATE = 3 →
      Completes (.iuArm t req) s (fun u =>
        u = { w with regs := u.regs, tb := { w.tb with iuArmed := w.now, iuStart := w.now } } ∧
        RegsBut [R.IU_CTL.addr, R.IU_STATUS.addr] w u ∧
        u.get R.IU_STATUS.IU_STATE = (if w.get R.IU_CTL.IU_START_SRC = 9 then 2 else 1) ∧
        u.flag R.IU_STATUS.IU_VALID = false ∧ u.flag R.IU_STATUS.IU_OWNER = false)) ∧
    (w.get R.IU_STATUS.IU_STATE = 1 ∨ w.get R.IU_STATUS.IU_STATE = 2 →
      w.now ≤ w.tb.iuArmed + fineNs (w.get R.IU_TIMEOUT.value) →
      Completes (.iuArm t req) s (fun u => u = { w with regs := u.regs } ∧
        RegsBut [R.IU_CTL.addr, R.IU_STATUS.addr] w u ∧ u.flag R.IU_STATUS.IU_BUSY_REJ = true ∧
        u.get R.IU_STATUS.IU_STATE = w.get R.IU_STATUS.IU_STATE)) ∧
    (w.iuHost 2 = true → w.get R.IU_CTL.IU_STOP_SRC = 9 →
      w.now ≤ w.tb.iuArmed + fineNs (w.get R.IU_TIMEOUT.value) →
      exec (.iuSwstop t req) s = .next (raiseEv 19 (((((w.asked req R.IU_CTL.IU_SWSTOP 1).put R.IU_RESULT_LO.RESULT_LO
        (w.now - w.tb.iuStart)).put R.IU_RESULT_HI.RESULT_HI ((w.now - w.tb.iuStart) / 2 ^ 32)).setFlag
        R.IU_STATUS.IU_VALID).put R.IU_STATUS.IU_STATE 3))) ∧
    exec (.iuAbort t req) s = .next (((w.asked req R.IU_CTL.IU_ABORT 1).put R.IU_STATUS.IU_STATE 0).clrFlag R.IU_STATUS.IU_OWNER)) ∧
  (∀ (t src : Nat) (rising : Bool) (bank : Fin 64) (s : State), Ready s → let w := s.tick t
    w.iuHost 1 = true → w.now ≤ w.tb.iuArmed + fineNs (w.get R.IU_TIMEOUT.value) →
    w.iuMatch (w.get R.IU_CTL.IU_START_SRC) (w.flag R.IU_CTL.START_EDGE) src rising bank = true →
    exec (.iuStartEdge t src rising bank) s = .next { w.put R.IU_STATUS.IU_STATE 2 with tb := { w.tb with iuStart := w.now } }) ∧
  (∀ (t src : Nat) (rising : Bool) (bank : Fin 64) (s : State), Ready s → let w := s.tick t
    w.iuHost 2 = true → w.now ≤ w.tb.iuArmed + fineNs (w.get R.IU_TIMEOUT.value) →
    w.iuMatch (w.get R.IU_CTL.IU_STOP_SRC) (w.flag R.IU_CTL.STOP_EDGE) src rising bank = true →
    (src = w.get R.IU_CTL.IU_START_SRC → w.now ≠ w.tb.iuStart) →
    exec (.iuStopEdge t src rising bank) s = .next (raiseEv 19 ((((w.put R.IU_RESULT_LO.RESULT_LO
      (w.now - w.tb.iuStart)).put R.IU_RESULT_HI.RESULT_HI ((w.now - w.tb.iuStart) / 2 ^ 32)).setFlag
      R.IU_STATUS.IU_VALID).put R.IU_STATUS.IU_STATE 3))) ∧
  (∀ (t : Nat) (s : State), Ready s → let w := s.tick t
    (w.get R.IU_STATUS.IU_STATE = 1 ∨ w.get R.IU_STATUS.IU_STATE = 2) → w.flag R.IU_STATUS.IU_OWNER = false →
    let ended := raiseEv 19 (((w.clrFlag R.IU_STATUS.IU_VALID).setFlag R.IU_STATUS.IU_TIMEOUT_FLAG).put
      R.IU_STATUS.IU_STATE 3)
    (w.tb.iuArmed + fineNs (w.get R.IU_TIMEOUT.value) ≤ w.now → exec (.iuTimeout t) s = .next ended) ∧
    (w.tb.iuArmed + fineNs (w.get R.IU_TIMEOUT.value) < w.now → ∀ (src : Nat) (rising : Bool) (bank : Fin 64),
      exec (.iuStartEdge t src rising bank) s = .next ended ∧ exec (.iuStopEdge t src rising bank) s = .next ended)) ∧
  (∀ (t req : Nat) (s : State), Ready s → let w := s.tick t
    Admits w req R.FU_CTL.addr → w.flag R.FU_CTL.FU_GATE_SEL = true → w.flag R.FU_STATUS.FU_BUSY = false →
    Completes (.fuStart t req) s (fun u => u.flag R.FU_STATUS.FU_BUSY = true ∧ RegsBut [R.FU_CTL.addr, R.FU_STATUS.addr] w u ∧
      let g : Gate := { ends := some (w.now + fineUs (max 1 (w.get R.FU_GATE_LEN.value))) }
      u = { w with regs := u.regs, tb := { w.tb with gate := some g } })) ∧
  (∀ (t : Nat) (level : Bool) (s : State), Ready s → let w := s.tick t
    w.flag R.FU_CTL.FU_GATE_SEL = false → level ≠ w.flag R.FU_CTL.FU_GATE_POL → w.flag R.FU_STATUS.FU_BUSY = false →
    exec (.fuGateOpen t level) s =
      .next { w.setFlag R.FU_STATUS.FU_BUSY with tb := { w.tb with gate := some { ends := none } } }) ∧
  (∀ (t src aux : Nat) (g : Gate) (s : State), Ready s → let w := s.tick t
    w.tb.gate = some g → src = w.get R.FU_CTL.FU_SRC → (src ≠ 3 ∨ aux = w.get R.FU_CTL.MAINS_AUX) →
    g.open_ = true → (∀ e, g.ends = some e → w.now < e) → g.n < 2 ^ 32 - 1 →
    let first := if g.n = 0 then w.now else g.first
    let x := w.now - first
    exec (.fuInputEdge t src aux) s = .next { w with tb := { w.tb with
      frefSeen := if src = 0 then some w.now else w.tb.frefSeen, gate := some {
      g with n := g.n + 1, first := first, sumT := g.sumT + x, sumIT := g.sumIT + g.n * x, sumTT := g.sumTT + x * x } } }) ∧
  (∀ (t src aux : Nat) (s : State), Ready s → let w := s.tick t
    (w.tb.gate = none ∨ src ≠ w.get R.FU_CTL.FU_SRC ∨ src = 3 ∧ aux ≠ w.get R.FU_CTL.MAINS_AUX) →
    exec (.fuInputEdge t src aux) s =
      .next { w with tb := { w.tb with frefSeen := if src = 0 then some w.now else w.tb.frefSeen } }) ∧
  (∀ (t : Nat) (level : Bool) (g : Gate) (s : State), Ready s → let w := s.tick t
    w.tb.gate = some g → (g.ends = none ∧ level = w.flag R.FU_CTL.FU_GATE_POL ∨ ∃ e, g.ends = some e ∧ e ≤ w.now) →
    exec (.fuGateEnd t level) s = .next { w with tb := { w.tb with gate := some { g with open_ := false } } }) ∧
  (∀ (t : Nat) (g : Gate) (s : State), Ready s → let w := s.tick t
    w.tb.gate = some g → g.open_ = false →
    let v := ({ w with tb := { w.tb with gate := none } }).clrFlag R.FU_STATUS.FU_BUSY
    exec (.fuResult t) s = .next (if g.n < 3 then raiseEv 20 (v.setFlag R.FU_STATUS.FU_FEW) else
      raiseEv 20 (mainsResult g.sums.1 g.sums.2.1 ((fuStore g g.sums.1 g.sums.2.1 g.sums.2.2 v).setFlag R.FU_STATUS.FU_DONE))))


/-- R18. Die 0 is the hub, always fitted and never dark. -/
def Obligations.PartPaceIsLowest : Prop :=
  ∀ (s : State) (req : Nat),
    let counts := fun d => d < 8 ∧ (d = 0 ∨ s.dieFitted d = true ∧ s.dieDark d = false) ∧ s.flag (R.PACE_STATUS.PACE_VALID d) = true
    let p := (busRead req R.PART_PACE.value.addr 4 s).1
    (busRead req R.PART_PACE.value.addr 4 s).2 = s ∧
    (∀ d, counts d → p ≤ s.get (R.PACE_STATUS.PACE_NOW d)) ∧
    ((∃ d, counts d) → ∃ d, counts d ∧ p = s.get (R.PACE_STATUS.PACE_NOW d)) ∧
    ((∀ d, ¬ counts d) → p = 0)

/-- R9 to R13 for every field of every register: no field's write reaches another field. -/
def Obligations.RegisterClasses : Prop :=
  ∀ (a : Nat) (h : RegHit) (old v : Nat) (g : FieldDef), regHit a = some h → g ∈ h.def_.fields →
    g.of (FieldDef.word old v h.def_.fields) =
      match g.cls with
      | .static | .live | .latched => if g.reserved (g.of v) then g.of old else g.of v
      | .readOnly => g.of old
      | .action => 0
      | .w1c => if g.w = 32 then (if g.of v = 0 then g.of old else 0) else g.of old - (g.of old &&& g.of v)

/-- REGISTER_WRITE, UNMAPPED_CLEAR and PACE_MIN_RESTART. The thresholds and the set-points have rules of their own
(ChannelRegisters, LoopCommands). -/
def Obligations.WritesReachTheirTarget : Prop :=
  (∀ (t req a v : Nat) (h : RegHit) (s : State), Ready s → let w := s.tick t
    Admits w req a → w.target a 4 = .register h → h.def_.id ≠ .CH_THR → h.def_.id ≠ .SETPOINT →
    let new := w.regNew a h (v % 2 ^ 32)
    (w.regRefused a h (v % 2 ^ 32) = false → exec (.registerWrite t req a 4 v) s =
      .next (settle (writeHook req h.def_.id h.ix (w.reg a).toNat new (v % 2 ^ 32) (w.setReg a (BitVec.ofNat 32 new))))) ∧
    (w.regRefused a h (v % 2 ^ 32) = true → Completes (.registerWrite t req a 4 v) s (fun u =>
      u = { w with regs := u.regs, fresh := u.fresh } ∧
      (∀ f, rejectField h.def_.id h.ix = some f → u = w.setFlag f)))) ∧
  (∀ (t req a n v : Nat) (s : State), Ready s → let w := s.tick t
    Admits w req a → (w.target a n = .sram → exec (.registerWrite t req a n v) s = .next (w.store a n v)) ∧
    (w.target a n ∈ [.words true, .reserved, .dark, .egress] → exec (.registerWrite t req a n v) s = .next w)) ∧
  (∀ (t req a n v : Nat) (s : State), Ready s → let w := s.tick t
    w.target a n = .unmapped →
    Completes (.registerWrite t req a n v) s (fun u => u = { w with regs := u.regs } ∧
      u.flag R.FAB_STATUS.UNMAPPED = true ∧
      u.get R.FAB_UNMAPPED_COUNT.UNMAPPED_COUNT = min (2 ^ 32 - 1) (w.get R.FAB_UNMAPPED_COUNT.UNMAPPED_COUNT + 1) ∧
      (w.flag R.FAB_STATUS.UNMAPPED = false → u.get R.FAB_UNMAPPED_ADDR_LO.UNMAPPED_ADDR_LO = a % 2 ^ 32 ∧
        u.get R.FAB_UNMAPPED_ADDR_HI.UNMAPPED_ADDR_HI = a / 2 ^ 32 % 256 ∧
        u.get R.FAB_UNMAPPED_ADDR_HI.UNMAPPED_REQ = req % 256) ∧
      (w.flag R.FAB_STATUS.UNMAPPED = true → RegsBut [R.FAB_STATUS.addr, R.FAB_UNMAPPED_COUNT.addr] w u))) ∧
  (∀ (t req a n v : Nat) (s : State), Ready s → let w := s.tick t
    w.target a n ≠ .unmapped →
    (w.mayWrite req a v = false → exec (.registerWrite t req a n v) s =
      .next (if req = 0 ∨ 8 ≤ req then w.setFlag R.SEC_STATUS.ROLE_REJ else w)) ∧
    (w.mayWrite req a v = true → w.follower = true → roleTested req = true → shared a = true →
      Completes (.registerWrite t req a n v) s (fun u => u = { w with regs := u.regs, fresh := u.fresh })) ∧
    (w.mayWrite req a v = true → w.follower = false → w.forwards a = true → w.accepts a n v = true →
      exec (.registerWrite t req a n v) s = .next (settle (forward a n v (writeTarget req a n v w))))) ∧
  (∀ (t req : Nat) (s : State), Ready s → let w := s.tick t
    Admits w req R.FAB_STATUS.addr → w.flag R.FAB_STATUS.UNMAPPED = true →
    Completes (.unmappedClear t req) s (fun u => u = { w with regs := u.regs } ∧ u.flag R.FAB_STATUS.UNMAPPED = false ∧
      u.get R.FAB_UNMAPPED_COUNT.UNMAPPED_COUNT = 0 ∧ u.get R.FAB_STATUS.DIES_DARK = w.get R.FAB_STATUS.DIES_DARK ∧
      RegsBut [R.FAB_STATUS.addr, R.FAB_UNMAPPED_COUNT.addr] w u)) ∧
  (∀ (t req : Nat) (s : State), Ready s → let w := s.tick t
    Admits w req (R.PACE_CFG.addr 0) →
    Completes (.paceMinRestart t req) s (fun u => u = { w with regs := u.regs } ∧
      RegsBut (R.PACE_CFG.addr 0 :: (List.range 8).map R.PACE_STATUS.addr) w u ∧
      (∀ d, d < 8 → u.get (R.PACE_STATUS.PACE_MIN d) = 1023 ∧
        u.get (R.PACE_STATUS.PACE_NOW d) = w.get (R.PACE_STATUS.PACE_NOW d) ∧
        u.get (R.PACE_STATUS.RING_FAULT d) = w.get (R.PACE_STATUS.RING_FAULT d) ∧
        u.flag (R.PACE_STATUS.PACE_VALID d) = w.flag (R.PACE_STATUS.PACE_VALID d) ∧
        u.flag (R.PACE_STATUS.PACE_LOW d) = w.flag (R.PACE_STATUS.PACE_LOW d)) ∧
      u.get (R.PACE_CFG.PACE_LOW_THR 0) = w.get (R.PACE_CFG.PACE_LOW_THR 0) ∧
      u.get (R.PACE_CFG.PACE_DWELL 0) = w.get (R.PACE_CFG.PACE_DWELL 0)))

/-- R16, R17, R19, R23 to R25. A late result is counted in a counter of the model's own (log 46). -/
def Obligations.PaceAndDarkDies : Prop :=
  (∀ (t : Nat) (counts : List (List Nat)) (s : State), Ready s → let w := s.tick t
    w.flag R.TB_STATUS.LOCKED = true ∨ w.get R.TB_STATUS.LOCK_LOSS_COUNT ≠ 0 →
    let v := upTo 8 (fun d v => if d = 0 || v.dieUp d then paceDie d (counts.getD d []) v else v) w
    let n := if v.partPace < v.get (R.PACE_CFG.PACE_LOW_THR 0) then min 9 (v.pts.paceBelow + 1) else 0
    let seen := n < 9 ∧ 2 ^ v.get (R.PACE_CFG.PACE_DWELL 0) ≤ n
    let x := { v with pts := { v.pts with paceBelow := if seen then 9 else n } }
    exec (.paceWindowEnd t counts) s = .next (settle (
      if seen then policyPace 1 (policyPace 0 (raiseEv 9 (x.setFlag (R.PACE_STATUS.PACE_LOW 0)))) else x))) ∧
  (∀ (d r : Nat) (counts : List Nat) (s : State), d < 8 → r < 4 → ringFault d r (counts.getD r 0) = false →
    let p := fun r => min 1023 (256 * counts.getD r 0 / Config.ringRef (4 * d + r))
    (∀ k, k < 4 → ringFault d k (counts.getD k 0) = false → p r ≤ p k) →
    let u := paceDie d counts s
    u = { s with regs := u.regs } ∧ RegsBut [R.PACE_STATUS.addr d] s u ∧ u.get (R.PACE_STATUS.PACE_NOW d) = p r ∧
    u.flag (R.PACE_STATUS.PACE_VALID d) = true ∧
    u.get (R.PACE_STATUS.PACE_MIN d) = min (s.get (R.PACE_STATUS.PACE_MIN d)) (p r)) ∧
  (∀ (t d : Nat) (s : State), Ready s → let w := s.tick t
    w.dieUp d = true →
    let x := { w with pts := { w.pts with linkDown := w.pts.linkDown ||| 2 ^ d } }
    exec (.dieLinkStall t d) s = .next (settle (enterErr 2 d R.FAB_STATUS.DIES_DARK
      (abandonWhere (fun e o => decide (e = d) && o.withdrawable) (x.put R.FAB_STATUS.DIES_DARK (x.get R.FAB_STATUS.DIES_DARK ||| 2 ^ d))))) ∧
    (d < 8 → ∀ req, (busRead req (0x1000000 * d) 4 (dieDark d x)).1 = 0)) ∧
  (∀ (t unit : Nat) (island : Fin 4) (s : State), Ready s → let w := s.tick t
    exec (.lateResultDiscard t island unit) s =
      .next { w with pts := { w.pts with late := w.pts.late.put 0 island (w.pts.late.get 0 island + 1) } })

/-- R34 and R35: the channel's record after each edge, and nothing else of the state but what delivering an event does. -/
def Obligations.EventsComposed : Prop :=
  (∀ (t ch : Nat) (s : State), Ready s → let w := s.tick t; let c := w.chan ch
    w.chFitted ch = true → c.low = false →
    exec (.eventStart t ch) s = .next (w.setChan ch
      (if w.chTakes ch = true ∧ c.ev = none ∧ c.blocked = false ∧ c.blind ≤ w.now then
        { c with low := true, lowSince := w.now,
                 ev := some { lr := w.now, hr := if c.high then some w.now else none, late := false,
                              walk := w.walkTable ch } }
      else { c with low := true, lowSince := w.now }))) ∧
  (∀ (t ch : Nat) (rise : Bool) (e : OpenEvent) (s : State), Ready s → let w := s.tick t; let c := w.chan ch
    w.chFitted ch = true → c.high ≠ rise →
    (c.ev = some e → exec (.highComparatorEdge t ch rise) s = .next (w.setChan ch { c with high := rise, ev := some (
      if rise then (if e.hr = none then { e with hr := some w.now } else { e with multi := true })
      else { e with hf := some w.now }) })) ∧
    (c.ev = none → exec (.highComparatorEdge t ch rise) s = .next (w.setChan ch { c with high := rise }))) ∧
  (∀ (t ch : Nat) (e : OpenEvent) (s : State), Ready s → let w := s.tick t; let c := w.chan ch
    c.low = true → c.ev = some e → w.now < e.lr + fineNs 128 →
    exec (.eventEnd t ch) s = .next (queueChan ch (deliver ch e w.now false (w.setChan ch
      { c with low := false, ev := none, blocked := false, stuck := false, blind := w.now + w.rearmLen ch,
               rearming := true })))) ∧
  (∀ (t ch : Nat) (s : State), Ready s → let w := s.tick t; let c := w.chan ch
    c.low = true → c.ev = none →
    exec (.eventEnd t ch) s = .next (w.setChan ch
      { c with low := false, blocked := false, stuck := false, blind := if c.blocked then w.now + w.rearmLen ch else c.blind,
               rearming := c.rearming || c.blocked })) ∧
  (∀ (t ch : Nat) (e : OpenEvent) (s : State), Ready s → let w := s.tick t; let c := w.chan ch
    c.ev = some e → e.lr + fineNs 128 ≤ w.now →
    exec (.eventTimeoutClose t ch) s = .next (queueChan ch (deliver ch
      (if c.high then { e with hf := some (e.lr + fineNs 128) } else e) (e.lr + fineNs 128) true
      (w.setChan ch { c with ev := none, blocked := true })))) ∧
  (∀ (t ch : Nat) (s : State), Ready s → let w := s.tick t; let c := w.chan ch
    c.rearming = true → c.blind ≤ w.now →
    exec (.rearmEnd t ch) s = .next (w.setChan ch
      (if c.low = true ∧ w.chTakes ch = true ∧ c.ev = none ∧ c.blocked = false then
        { c with rearming := false, ev := some { lr := c.blind, hr := if c.high then some c.blind else none, late := true,
                                                 walk := w.walkTable ch } }
      else { c with rearming := false })))

/-- R42 and R73. -/
def Obligations.EventsKeptAndBinned : Prop :=
  (∀ (ch lf : Nat) (e : OpenEvent) (sat : Bool) (s : State), ch < 1344 → s.capState = 0 →
    ((s.chan ch).fifo.length < 16 →
      ((deliver ch e lf sat s).chan ch).fifo = (s.chan ch).fifo ++ [⟨e.lr, eventWord e lf sat, walkOf e.walk (bits (eventWord e lf sat).toNat 30 14)⟩]) ∧
    (16 ≤ (s.chan ch).fifo.length →
      ((deliver ch e lf sat s).chan ch).fifo = (s.chan ch).fifo ∧
      (deliver ch e lf sat s).flag (R.CH_STATUS.FIFO_OVF (chDie ch) (chLocal ch)) = true ∧
      (deliver ch e lf sat s).get (R.CH_DROP_COUNT.DROP_COUNT (chDie ch) (chLocal ch)) =
        min (2 ^ 32 - 1) (s.get (R.CH_DROP_COUNT.DROP_COUNT (chDie ch) (chLocal ch)) + 1)) ∧
    (deliver ch e lf sat s).get (R.CH_EVT_COUNT.EVT_COUNT (chDie ch) (chLocal ch)) =
      (s.get (R.CH_EVT_COUNT.EVT_COUNT (chDie ch) (chLocal ch)) + 1) % 2 ^ 32) ∧
  (∀ (t ch : Nat) (e : Event) (r : List Event) (s : State), Ready s → let w := s.tick t
    (w.chan ch).fifo = e :: r →
    Completes (.eventBin t ch) s (fun u =>
      u = { w with regs := u.regs, chans := u.chans, ops := u.ops, dies := u.dies } ∧
      u.chans = (w.setChan ch { w.chan ch with fifo := r }).chans ∧
      (∀ a, (∀ d, a ≠ R.OPS_STATUS.addr d ∧ a ≠ R.OPS_UNBINNED.addr d) → u.reg a = w.reg a) ∧
      (∀ (d slot : Nat) (o : Op), w.opKeys = [(d, slot)] → slot < 2048 → (takeWaiting ch w).op d slot = some o → o.chan = ch →
        o.open_ = true → o.st ≠ .settling →
        let x : Int := (e.lr : Int) - e.w
        let y := o.fires.foldl (fun o f => o.addEvent (w.offsets o) f.2 x (bit e.word.toNat 60)) { o with histSat := false }
        u.op d slot = some { y with histSat := o.histSat || y.histSat })))

/-- R33, and of R37, R40 to R42 what these commands do, for every channel. -/
def Obligations.ChannelRegisters : Prop :=
  (∀ (t ch : Nat) (s : State), Ready s → let x := timeoutClose ch (s.tick t); let c := x.chan ch
    let f := R.CH_STATUS.STUCK_HIGH (chDie ch) (chLocal ch)
    c.low = true → c.lowSince + fineUs 10 < x.now → x.dieUp (chDie ch) = true → c.stuck = false →
    exec (.stuckHighTimeout t ch) s =
      .next (settle (enterErr 3 (chDie ch) f ((x.setChan ch { c with stuck := true, blocked := true }).setFlag f)))) ∧
  (∀ (t req ch : Nat) (s : State), Ready s → let w := s.tick t; let d := chDie ch; let l := chLocal ch
    w.dieUp d = true → s.variant ≤ 7 →
    (Admits w req (R.CH_STATUS.addr d l) →
      Completes (.stuckHighClear t req ch) s (fun u => u = { w with regs := u.regs } ∧ RegsBut [R.CH_STATUS.addr d l] w u ∧
        u.flag (R.CH_STATUS.STUCK_HIGH d l) = ((w.chan ch).low && w.flag (R.CH_STATUS.STUCK_HIGH d l)) ∧
        u.get (R.CH_STATUS.THR_REJ d l) = w.get (R.CH_STATUS.THR_REJ d l) ∧
        u.get (R.CH_STATUS.FIFO_OVF d l) = w.get (R.CH_STATUS.FIFO_OVF d l))) ∧
    (Admits w req (R.CH_DROP_COUNT.addr d l) →
      Completes (.dropCountClear t req ch) s (fun u => u = { w with regs := u.regs } ∧
        RegsBut [R.CH_DROP_COUNT.addr d l] w u ∧ u.get (R.CH_DROP_COUNT.DROP_COUNT d l) = 0)) ∧
    (∀ v, Admits w req (R.CH_THR.addr d l) → bits v 0 10 < bits v 16 10 →
      let x := (w.put (R.CH_THR.THR_LO d l) (bits v 0 10)).put (R.CH_THR.THR_HI d l) (bits v 16 10)
      exec (.chThrWrite t req ch v) s = .next (
        if w.get (R.CH_THR.THR_LO d l) = bits v 0 10 ∧ w.get (R.CH_THR.THR_HI d l) = bits v 16 10 then x else tornChan ch x)) ∧
    (∀ v, Admits w req (R.CH_THR.addr d l) → bits v 16 10 ≤ bits v 0 10 →
      exec (.chThrWrite t req ch v) s = .next (w.setFlag (R.CH_STATUS.THR_REJ d l))) ∧
    (Admits w req (R.CH_CFG.addr d l) →
      Completes (.channelDisable t req ch) s (fun u => u = { w with regs := u.regs } ∧ RegsBut [R.CH_CFG.addr d l] w u ∧
        u.flag (R.CH_CFG.CH_EN d l) = false ∧ u.get (R.CH_CFG.TERM d l) = w.get (R.CH_CFG.TERM d l) ∧
        u.get (R.CH_CFG.INV d l) = w.get (R.CH_CFG.INV d l) ∧ u.get (R.CH_CFG.WALK_EN d l) = w.get (R.CH_CFG.WALK_EN d l))))

/-- R60, R61, R62, R64, R66, R67, R127, R128, R153. Which free slot is taken is the model's own choice (log 14): any free one
satisfies this. -/
def Obligations.CellsDecided : Prop :=
  (∀ (t : Nat) (h : Fin 2) (late : Bool) (v : Visit) (s : State), Ready s → let w := s.tick t
    w.nextVisit h = some v → 128 * w.visitAt h v ≤ w.now → (w.head h).opened = true →
    let x := w.modHead h (fun x => { x with visits := x.visits.filter (fun y => decide (y ≠ v)) })
    (∀ d slot o, w.scanOp h v.cell = some (d, slot, o) → x.scanOp h v.cell = some (d, slot, o) →
      exec (.cellDecision t (.scan h) late) s = .next (serveVisit h v (w.visitAt h v) d slot o x)) ∧
    (w.scanOp h v.cell = none → w.decisionBefore (w.visitAt h v) v.ch v.cell = true →
      exec (.cellDecision t (.scan h) late) s = .next w) ∧
    (w.scanOp h v.cell = none → w.decisionBefore (w.visitAt h v) v.ch v.cell = false → x.scanOp h v.cell = none →
      x.twin.missed = [] →
      (v.shoot = false ∨ (x.head h).declined.contains v.cell = true →
        exec (.cellDecision t (.scan h) late) s = .next x) ∧
      (v.shoot = true → (x.head h).declined.contains v.cell = false →
        ∃ o : Op, o.cell % 2 ^ 19 = v.cell % 2 ^ 19 ∧ o.w1 = v.w1 ∧ o.w2 = v.w2 ∧ o.v0 = v.v ∧ o.vs = [v.v] ∧
          o.ends = [some v.endNs] ∧ o.frame = some (x.frameCount h) ∧ o.torn = v.torn ∧ o.frondTorn = v.frondTorn ∧
          o.frond = v.frond ∧ o.frondGen = v.gen ∧ o.phase = v.phase ∧ o.probe = none ∧ o.ref = none ∧
          exec (.cellDecision t (.scan h) late) s = .next (decideOp o v.lenses false late x)))) ∧
  (∀ (t : Nat) (n : Fin 8) (late : Bool) (r : ProbeReq) (rest : List ProbeReq) (s : State), Ready s → let w := s.tick t
    (w.seq n).probes = r :: rest → 128 * r.v0 ≤ w.now →
    let before := w.decisionBefore r.v0 (bits r.w0 19 11) (bits r.w0 0 19)
    let x := w.setSeq n { w.seq n with probes := rest }
    (before = true → exec (.cellDecision t (.probe n) late) s = .next w) ∧
    (before = false → ∃ o : Op, o.w0 = r.w0 ∧ o.w1 = r.w1 ∧ o.w2 = r.w2 ∧ o.w3 = r.w3 ∧ o.v0 = r.v0 ∧ o.probe = some r.info ∧
      o.vs = (List.range o.passes).map (fun q => r.v0 + q * r.info.interval) ∧ o.frame = x.frameNowOf o.head ∧
      ∃ bank, exec (.cellDecision t (.probe n) late) s =
        .next (decideOp o (r.lenses.filter (fun p => decide (p ≠ 0))) (x.badProbe o r.info bank) late x))) ∧
  (∀ (o : Op) (lenses : List Nat) (bad late : Bool) (s : State), s.chFitted o.chan = true → s.variant ≤ 7 →
    let o' := { o with code := s.codeOf o }
    let d := chDie o.chan
    let g := chGroup o.chan
    let u := decideOp o lenses bad late s
    (s.declineReason o' (bad || s.badDesc o') late = none →
      ∃ k p, k < 128 ∧ s.op d (128 * g + k) = none ∧
        u.op d (128 * g + k) = some p ∧ p.st = .issued ∧ p.w0 = o.w0 ∧ p.w1 = o.w1 ∧ p.w2 = o.w2 ∧ p.vs = o.vs ∧
        (u.group d g).free = (s.group d g).free - o.pages ∧
        u.get (R.OPS_ISSUED.ISSUED d) = (s.get (R.OPS_ISSUED.ISSUED d) + 1) % 2 ^ 32 ∧ u.mem = s.mem ∧
        (∀ f a, o.frame = some f → s.frame o.head f = some a →
          u.frame o.head f = some { a with issued := a.issued + 1 })) ∧
    (∀ r, s.declineReason o' (bad || s.badDesc o') late = some r → r < 8 ∧ u.ops = s.ops ∧ u.groups = s.groups ∧
      ∃ v : State, v.get (R.DECL_COUNT.DECL d r) = (s.get (R.DECL_COUNT.DECL d r) + 1) % 2 ^ 32 ∧
        (∀ f a, o.frame = some f → s.frame o.head f = some a →
          v.frame o.head f = some { a with declined := a.declined + 1, displaced := a.displaced || decide (r = 2) }) ∧
        u = (if v.flag (R.OPS_CFG.DECL_REPORT d) = true ∧ v.standby = false then
          let flags := 2 ^ 7 + 2 ^ 5 * b2n o.frondTorn
          pushPoint o.head o.frame flags (pointRec o.cell 0 r 0 7 o.chan (recTime o.frame o.frameT0 o.v0) 0 flags o.head o.frond
            o.frondGen) (serveUrgent v)
          else v))) ∧
  (∀ (o : Op) (bad late : Bool) (s : State), let d := chDie o.chan
    (s.dieDark d = true → s.declineReason o bad late = some 0) ∧
    (s.dieDark d = false → s.flag R.TB_STATUS.LOCKED = false → s.declineReason o bad late = some 1) ∧
    (s.dieDark d = false → s.flag R.TB_STATUS.LOCKED = true → s.calHolds o.head (o.chan / 12) = true →
      s.declineReason o bad late = some 2) ∧
    (s.dieDark d = false → s.flag R.TB_STATUS.LOCKED = true → s.calHolds o.head (o.chan / 12) = false →
      (s.chEn o.chan = false → s.declineReason o bad late = some 3) ∧
      (s.chEn o.chan = true → bad = true → s.declineReason o bad late = some 4) ∧
      (s.chEn o.chan = true → bad = false → late = true → s.declineReason o bad late = some 5) ∧
      (s.chEn o.chan = true → bad = false → late = false →
        (s.freeSlot d (chGroup o.chan) = none → s.declineReason o bad late = some 6) ∧
        (s.freeSlot d (chGroup o.chan) ≠ none → s.declineReason o bad late =
          if (s.group d (chGroup o.chan)).free < o.pages then some 7 else none))))

/-- R69, R72, R73, R121. -/
def Obligations.PulsesFired : Prop :=
  (∀ (t d slot : Nat) (o : Op) (s : State), Ready s → let w := s.tick t
    w.op d slot = some o → (o.st = .issued ∨ o.st = .accumulating) → o.pulses < o.pulsesVisited →
    128 * o.nextFire.1 ≤ w.now →
    (∀ e, o.ends.getD o.nextFire.2 none = some e → e < o.nextFire.1 →
      exec (.pulseFire t d slot) s = .next (suppress d slot (o.k - o.pulses % o.k) w)) ∧
    ((∀ e, o.ends.getD o.nextFire.2 none = some e → o.nextFire.1 ≤ e) → o.shadow = true → w.standby = true →
      exec (.pulseFire t d slot) s = .next (if o.notFired.contains o.pulses then suppress d slot 1 w
        else openWindow d slot o o.nextFire.1 (limiterShadow o o.nextFire.1 w))) ∧
    ((∀ e, o.ends.getD o.nextFire.2 none = some e → o.nextFire.1 ≤ e) → (o.shadow = false ∨ w.standby = false) →
      exec (.pulseFire t d slot) s = (if w.mayNotFire o (w.offsets o) o.nextFire.1 then .next (suppress d slot 1 w)
        else .next (settle (fireBank d slot o o.nextFire.1 w))))) ∧
  (∀ (d slot n : Nat) (o : Op) (s : State), s.op d slot = some o →
    (suppress d slot n s).op d slot =
      some { o with suppressed := o.suppressed + n, pulses := o.pulses + n, lfsr := lfsrAfter n o.lfsr } ∧
    (suppress d slot n s).get (R.OPS_SUPPRESSED.SUPPRESSED d) = (s.get (R.OPS_SUPPRESSED.SUPPRESSED d) + n) % 2 ^ 32 ∧
    (∀ d' slot', slot < 2048 → slot' < 2048 → (d', slot') ≠ (d, slot) → (suppress d slot n s).op d' slot' = s.op d' slot')) ∧
  (∀ (d slot f : Nat) (o : Op) (s : State), (∀ x ∈ s.chanOps o.chan, x.2.2.waiting = []) → o.waiting = [] →
    s.now < o.opens f →
    (openWindow d slot o f s).op d slot = some { o with
      st := .accumulating, waiting := [(o.pulses, f)], fired := o.fired + 1,
      lastClose := max o.lastClose (o.closes f), pulses := o.pulses + 1, lfsr := lfsr8 o.lfsr }) ∧
  (∀ (ch d slot : Nat) (p : Nat × Nat) (r : List (Nat × Nat)) (o : Op) (s : State), o.waiting = p :: r →
    let u := openFirst ch d slot o s
    (s.windowsOpen ch (o.opens p.2) < 64 → u.op d slot = some { o with waiting := r, fires := o.fires ++ [p] } ∧ u.regs = s.regs) ∧
    (64 ≤ s.windowsOpen ch (o.opens p.2) → u.op d slot = some { o with waiting := r, unbinned := o.unbinned + 1 } ∧
      u.get (R.OPS_UNBINNED.UNBINNED d) = (s.get (R.OPS_UNBINNED.UNBINNED d) + 1) % 2 ^ 32))

/-- R63, R66 to R68, R75, R86. The echoes are those reduceOp finds; where the spec states no value in them it is free (log 7). -/
def Obligations.OpsReducedAndReleased : Prop :=
  (∀ (t d slot : Nat) (o : Op) (s : State), Ready s → let w := s.tick t
    let v := takeWaiting o.chan w
    w.op d slot = some o → ∀ p, v.op d slot = some p → v.accumulated p = true →
    exec (.accumulationEnd t d slot) s =
      .next (noticePulses p p.pulses [] (queueSettled d slot (v.setOp d slot (some { p with st := .settling }))))) ∧
  (∀ (t d slot : Nat) (r : List Nat) (o : Op) (s : State), Ready s → let w := s.tick t; let x := w.die d
    x.corrQueue = slot :: r → x.engines.length < 16 → w.op d slot = some o →
    let p := reduceOp w o (fun i => (Config.freeWord (w.fresh + i)).toNat)
    let q := { p with st := .reducing, excCfg := (w.reg R.EXCERPT_CFG.addr).toNat, excHit := w.excerptHit p }
    exec (.correlatorTake t d) s = .next
      ((({ w with fresh := w.fresh + 6 }).setOp d slot (some q)).setDie d
        { x with corrQueue := r, engines := x.engines ++ [slot] })) ∧
  (∀ (t d slot : Nat) (o : Op) (s : State), Ready s → let w := s.tick t; let x := w.die d
    w.op d slot = some o → x.engines.contains slot = true →
    let recs := if o.excerptDue (x.excCount + 1) then w.excerpts o else []
    ∃ v : State, v = { w with regs := v.regs, ops := v.ops, dies := v.dies } ∧
      v.op d slot = some { o with reduced := true, excRecs := if w.standby then recs else [] } ∧
      (v.die d).engines = x.engines.filter (· ≠ slot) ∧ (v.die d).handoff = x.handoff ++ [slot] ∧
      (v.die d).corrQueue = x.corrQueue ∧
      v.get (R.EXTRA_ECHO_COUNT.EXTRA d) = (w.get (R.EXTRA_ECHO_COUNT.EXTRA d) + o.extra) % 2 ^ 32 ∧
      v.get (R.LENS_HIT_COUNT.HITS d) =
        (w.get (R.LENS_HIT_COUNT.HITS d) + (o.echoes.filter (fun e => e.lens.isSome)).length) % 2 ^ 32 ∧
      exec (.reductionEnd t d slot) s =
        .next (if w.standby then v else forAll recs (fun r s => pushStream r.1 r.2.1 r.2.2 s) v)) ∧
  (∀ (t d slot : Nat) (o : Op) (s : State), Ready s → let w := s.tick t
    w.op d slot = some o → o.st ≠ .reducing → o.ageEnd < w.now →
    Completes (.opAbandon t d slot) s (fun u => u.op d slot = none ∧ u.mem = w.mem ∧
      u.group d (chGroup o.chan) =
        { w.group d (chGroup o.chan) with clearing := (w.group d (chGroup o.chan)).clearing + o.pages } ∧
      slot ∉ (u.die d).corrQueue ∧ slot ∉ (u.die d).engines ∧ slot ∉ (u.die d).handoff ∧
      u.get (R.OPS_ABANDONED.ABANDONED d) = (w.get (R.OPS_ABANDONED.ABANDONED d) + 1) % 2 ^ 32 ∧
      (∀ p tag, o.probe = some p → p.tag = some tag → (u.seq p.sq).cq =
        (w.seq p.sq).cq ++ [(cqWord0 tag 1 0 0 o.head false, cqWord1 o.cell o.chan, 0, 0)]))) ∧
  (∀ (t d g : Nat) (s : State), Ready s → let w := s.tick t; let x := w.group d g
    0 < x.clearing →
    exec (.pageClearDone t d g) s = .next (w.setGroup d g { x with clearing := x.clearing - 1, free := x.free + 1 }))

/-- R38 and R107: every field, with no carry of one into the next; R146 on the example of R148, (p2) addi g5, g7, 100. -/
def Obligations.LayoutsHold : Prop :=
  (∀ (e : OpenEvent) (lf : Nat) (sat : Bool), e.lr ≤ lf → lf - e.lr < 2 ^ 14 →
    let n := (eventWord e lf sat).toNat
    bits n 0 30 = e.lr % 2 ^ 30 ∧ bits n 30 14 = (if sat then 16383 else lf - e.lr) ∧
    (∀ h, e.hr = some h → bits n 44 10 = min 1023 (h - e.lr) ∧
      (∀ f, e.hf = some f → bits n 54 6 = min 63 ((f - h) / 32)) ∧ bit n 60 = false) ∧
    (e.hr = none → bits n 44 10 = 0 ∧ bits n 54 6 = 0 ∧ bit n 60 = true) ∧
    bit n 61 = sat ∧ bit n 62 = e.multi ∧ bit n 63 = e.late) ∧
  (∀ cell range inten echo cls ch time conf flags h frond gen : Nat,
    cell < 2 ^ 19 → range < 2 ^ 20 → inten < 2 ^ 12 → echo < 4 → cls < 8 → ch < 2 ^ 11 → time < 2 ^ 24 → conf < 256 →
    flags < 256 → h < 2 → frond < 4 →
    let r := pointRec cell range inten echo cls ch time conf flags h frond gen
    r.len = 16 ∧ r.val < 2 ^ 128 ∧ bits r.val 0 19 = cell ∧ bits r.val 19 20 = range ∧ bits r.val 39 12 = inten ∧
    bits r.val 51 2 = echo ∧ bits r.val 53 3 = cls ∧ bits r.val 56 11 = ch ∧ bits r.val 67 24 = time ∧
    bits r.val 91 8 = conf ∧ bits r.val 99 8 = flags ∧ bits r.val 107 1 = h ∧ bits r.val 108 2 = frond ∧
    bits r.val 110 2 = gen % 4) ∧
  insOf 0x0229C08000000064 = { opc := 2, dst := 5, a := 7, b := 0, pred := 2, psense := false, imm := 100 } ∧
  insOf 0x01FFFFFFFFFFFFFF = { opc := 1, dst := 31, a := 31, b := 31, pred := 7, psense := true, imm := 2 ^ 37 - 1 } ∧
  insOf 0 = { opc := 0, dst := 0, a := 0, b := 0, pred := 0, psense := false, imm := 0 }

/-- R103 for what the Nafel itself does to an entry's flags. -/
def Obligations.LearningKeepsFlags : Prop :=
  ∀ (now cfg e : Nat) (l : List (Nat × Nat × Nat)), e < 2 ^ 256 → now < 2 ^ 64 →
    let u := observed now cfg l e
    lget u L.screen = lget e L.screen ∧ lget u L.pin = lget e L.pin ∧
    (lget e L.retro = 1 → lget u L.retro = 1) ∧
    (lget e L.retro = 0 → lget u L.retro = 1 →
      lget u L.tChange = now ∧ ∃ i x, matchCfg cfg l e = some i ∧ l[i]? = some x ∧ x.1 = 3) ∧
    lget u L.moss = lget e L.moss ∧ lget u L.sun = lget e L.sun ∧ lget u L.prior0 = lget e L.prior0 ∧
    lget u L.prior1 = lget e L.prior1

/-- R63, R86, R102, R105, R114. An entry pinned since the observation was queued changes nothing: the model's reading (log 53). -/
def Obligations.PointsHandedOff : Prop :=
  (∀ (t d slot : Nat) (r : List Nat) (o : Op) (s : State), Ready s → let w := s.tick t
    (w.die d).handoff = slot :: r → w.op d slot = some o →
    let x := (w.setDie d { w.die d with handoff := r }).bump (R.OPS_COMPLETED.COMPLETED d)
    let y := match o.ref with | some h => refHandoff h o x | none => pointHandoff d o (serveUrgent x)
    exec (.handoff t d) s = .next (noticeEgress o ((y.get R.PP_RECORDS.RECORDS + 2 ^ 32 - w.get R.PP_RECORDS.RECORDS) % 2 ^ 32)
      (releaseOp d slot y))) ∧
  (∀ (d slot : Nat) (o : Op) (s : State), s.op d slot = some o →
    (releaseOp d slot s).op d slot = none ∧ (releaseOp d slot s).group d (chGroup o.chan) =
      { s.group d (chGroup o.chan) with clearing := (s.group d (chGroup o.chan)).clearing + o.pages }) ∧
  (∀ (t : Nat) (x : Obs) (r : List Obs) (s : State), Ready s → let w := s.tick t
    w.pts.obs = x :: r →
    let v := { w with pts := { w.pts with obs := r } }
    (lget (w.lichen x.cell) L.pin = 0 → exec (.lichenObservation t) s =
      .next (nvBegin (v.setLichen x.cell (observed w.ns x.cfg x.echoes (w.lichen x.cell))))) ∧
    (lget (w.lichen x.cell) L.pin ≠ 0 → exec (.lichenObservation t) s = .next (nvBegin v))) ∧
  (∀ s : State, nvBegin s = { s with sec := (nvBegin s).sec }) ∧
  (∀ (s : State) (cell e a : Nat), a < lichenBase + 32 * cell ∨ lichenBase + 32 * cell + 32 ≤ a →
    (s.setLichen cell e).byte a = s.byte a) ∧
  (∀ (t frame : Nat) (h : Fin 2) (a : FrameAcc) (s : State), Ready s → let w := s.tick t
    w.frame h frame = some a → a.ended = true → a.issued = a.completed + a.abandoned → w.frameHeld h frame = false →
    let p7 := b2n a.torn + 2 * b2n a.frondTorn + 4 * b2n a.displaced + 8 * b2n a.lost
    let x := milestone 0x02 h frame [a.issued, a.completed, a.declined, a.abandoned, w.extinct a, a.records, a.suppressed, p7] w
    exec (.frameClosed t h frame) s = .next (stopDone h frame (policyFrame h (a.classes.get 0 0) (a.classes.get 0 1)
      (a.classes.get 0 2) (hopRegions h a (raiseEv (4 + h) (setFstat h frame a (w.extinct a) (x.setFrame h frame none)))))))

/-- R131, R135, R137. `asked` is the state in which HEAD_CTL or FROND_COMMIT has taken the written field. -/
def Obligations.ScanStartsAndStops : Prop :=
  (∀ (t req : Nat) (h : Fin 2) (f : ScanFormat) (s : State), Ready s → let w := s.tick t
    Admits w req (R.HEAD_CTL.addr h) → w.running h = false → w.safe = false → w.flag R.THERM_STATUS.ORDERLY_STOP = false →
    w.headLock = false ∨ h = 0 →
    let a := w.asked req (R.HEAD_CTL.SCAN_EN h) 1
    let x := latchPoint h (a.modHead h (fun x => { x with fmtWritten := false }))
    let n := w.get (R.HEAD_CTL.FORMAT h)
    let o := x.now9 + f.b9 + f.tl9
    let y := startOne h n o x
    (scanFormat n = some f → exec (.scanStart t req h) s = .next (
      if x.fmtFits h f = true ∧ (x.headLock = false ∨ x.fmtFits 1 f = true) then
        latchSync h (if y.headLock then startOne 1 n (o + 9 * y.get R.LINE_OFS.value) y else y)
      else x.setFlag R.SO_STATUS.FMT_REJ)) ∧
    (scanFormat n = none → exec (.scanStart t req h) s = .next (x.setFlag R.SO_STATUS.FMT_REJ))) ∧
  (∀ (t req : Nat) (s : State), Ready s → let w := s.tick t
    Admits w req (R.HEAD_CTL.addr 1) → w.running 1 = false → w.headLock = true →
    exec (.scanStart t req 1) s = .next (w.asked req (R.HEAD_CTL.SCAN_EN 1) 1)) ∧
  (∀ (h : Fin 2) (n next9 : Nat) (s : State), n < 32 → (startOne h n next9 s).running h = true ∧
    ((startOne h n next9 s).head h).next9 = some next9 ∧ ((startOne h n next9 s).head h).opened = false ∧
    (startOne h n next9 s).flag (R.HEAD_STATUS.IN_FLYBACK h) = true ∧ (startOne h n next9 s).get (R.HEAD_STATUS.FORMAT_NOW h) = n) ∧
  (∀ (t req : Nat) (h : Fin 2) (s : State), Ready s → let w := s.tick t
    Admits w req (R.HEAD_CTL.addr h) → w.running h = true → (w.head h).stopping = false →
    w.headLock = false ∨ h = 0 ∧ w.running 1 = false →
    let a := w.asked req (R.HEAD_CTL.SCAN_EN h) 0
    let x := stopVisits h (if w.get (R.HEAD_CTL.FORMAT h) = w.get (R.HEAD_STATUS.FORMAT_NOW h) then a
      else a.modHead h (fun x => { x with fmtWritten := true }))
    exec (.scanStop t req h) s = .next (if (x.head h).opened then x else headStopped h x)) ∧
  (∀ (h : Fin 2) (s : State), ((stopVisits h s).head h).visits = [] ∧ ((stopVisits h s).head h).stopping = true) ∧
  (∀ (t req : Nat) (h : Fin 2) (f : Fin 4) (s : State), Ready s → let w := s.tick t
    Admits w req (R.FROND_COMMIT.addr h f) →
    let a := 64 * w.get (R.FROND_ADDR_LO.ADDR_LO h f) + 2 ^ 32 * w.get (R.FROND_ADDR_HI.ADDR_HI h f)
    (w.frondAddrOk a = true → ∃ v : State, v = { w with regs := v.regs, heads := v.heads } ∧
      ((v.head h).fronds.get {} f).pending = some { addr := a, gen := w.get (R.FROND_GEN_EXP.GEN_EXP h f) } ∧
      v.flag (R.FROND_COMMIT.PENDING h f) = true ∧ RegsBut [R.FROND_COMMIT.addr h f] w v ∧
      exec (.frondCommit t req h f) s = .next (forwardFrond h f a v) ∧
      ((a < dramBase ∨ w.forwards a = false) → exec (.frondCommit t req h f) s = .next v)) ∧
    (w.frondAddrOk a = false → Completes (.frondCommit t req h f) s (fun u =>
      u = { w with regs := u.regs } ∧ u.flag R.SO_STATUS.COMMIT_REJ = true ∧
      RegsBut [R.FROND_COMMIT.addr h f, R.SO_STATUS.addr] w u)))

/-- R116, R122, R123, R131. -/
def Obligations.FramesRun : Prop :=
  (∀ (t n : Nat) (h : Fin 2) (f : ScanFormat) (s : State), Ready s → let w := s.tick t
    w.fmt h = some f → (w.head h).next9 = some n → w.running h = true → (w.head h).stopping = false → w.due9 n = true →
    ((w.head h).opened = true → (w.head h).latched = true) →
    (w.headLock = false ∨ h = 0 ∨
      (w.head 0).opened = true ∧ n ≤ (w.head 0).open9 + 9 * w.get R.LINE_OFS.value) →
    exec (.frameOpen t h) s =
      .next (forwardReg (R.FRAME_COUNT.addr h) (standbyEnter h (missedAge (frameOpenAt h n f w))))) ∧
  (∀ (h : Fin 2) (o9 : Nat) (f : ScanFormat) (s : State), s.headLock = false → s.standby = false → s.tb.last = none →
    let u := frameOpenAt h o9 f s
    u.frameCount h = (s.frameCount h + 1) % 2 ^ 32 ∧ (u.head h).opened = true ∧ (u.head h).lines = 0 ∧
    (u.head h).len = f.lines ∧ (u.head h).open9 = o9 ∧ (u.head h).declined = [] ∧
    (s.get (R.HEAD_STATUS.LOCK_STATE h) = 0 ∨ s.get (R.HEAD_STATUS.LOCK_STATE h) = 3 →
      (u.head h).next9 = some (o9 + f.tf9))) ∧
  (∀ (t : Nat) (h : Fin 2) (found : List (Nat × Int)) (f : ScanFormat) (s : State), Ready s →
    let w := s.tick t; let x := w.head h
    w.fmt h = some f → w.running h = true → x.opened = true → x.lines < x.len → w.due9 (x.open9 + x.lines * f.tl9) = true →
    let y := raiseEv (6 + h) (((w.setHead h { x with lines := x.lines + 1 }).put (R.HEAD_STATUS.LINE_NOW h) x.lines).clrFlag
      (R.HEAD_STATUS.IN_FLYBACK h))
    let z := if y.flag (R.HEAD_CTL.LINE_MS h) then
      milestoneAt 0x03 h (y.frameCount h) (ns9 (x.open9 + x.lines * f.tl9)) [x.lines, y.facetNo h x.lines] y else y
    exec (.lineStart t ⟨h, found⟩) s =
      .next (settle (stepLate h (facetPhase h (lineTrims h (takeBounds found (calLineStart h x.lines z))))))) ∧
  (∀ (t : Nat) (h : Fin 2) (f : ScanFormat) (s : State), Ready s → let w := s.tick t; let x := w.head h
    w.fmt h = some f → w.running h = true → x.opened = true → x.len ≤ x.lines → w.due9 (w.latch9 h f) = true →
    w.flag (R.HEAD_STATUS.IN_FLYBACK h) = false →
    let v := (w.setFlag (R.HEAD_STATUS.IN_FLYBACK h)).modHead h (fun x => { x with latched := true })
    (w.headLock = false ∨ h = 0 → exec (.latchPoint t h) s = .next (latchPoint h (latchFormat h
      (if v.headLock then v.modHead 1 (fun x => { x with latched := true }) else v)))) ∧
    (w.headLock = true → h = 1 → exec (.latchPoint t h) s = .next (w.setFlag (R.HEAD_STATUS.IN_FLYBACK h))))

/-- R119 to R121, R126, R127, R132. -/
def Obligations.LinesPrefetchedAndComposed : Prop :=
  (∀ (t line o9 l : Nat) (h : Fin 2) (got : Fin 16) (next : Bool) (f : ScanFormat) (s : State), Ready s →
    let w := s.tick t; let x := w.head h
    w.fmt h = some f → w.lineOf h line = some (o9, l, next) → w.running h = true → x.stopping = false →
    x.lines ≤ line + 1 → line < x.lines + (w.get (R.HEAD_CTL.PF_LINES h) + 1) →
    (line < x.len ∨ x.opened = false ∨ x.latched = true) → x.begun line = false →
    let old := (x.reads.filter (fun p => p.line = line)).head?
    Completes (.linePrefetch t h line got) s (fun u => ∃ p : PfLine,
      (u.head h).reads = x.reads.filter (fun q => q.line ≠ line) ++ [p] ∧ p.line = line ∧
      p.mask = (match old with | some q => q.mask | none => w.frondsPart h next) ∧
      p.got = (match old with | some q => q.got | none => 0) ||| (got.val &&& p.mask) ∧
      u = { w with regs := u.regs, frames := u.frames, heads := u.heads, dram := u.dram })) ∧
  (∀ (t o9 l : Nat) (h : Fin 2) (next : Bool) (f : ScanFormat) (s : State), Ready s → let w := s.tick t; let x := w.head h
    w.fmt h = some f → w.lineOf h x.cLine = some (o9, l, next) → w.running h = true → x.stopping = false →
    x.cLine ≤ x.lines → (x.opened = false ∨ x.cLine < x.len ∨ x.latched = true) →
    let y := if x.cCol = 0 ∧ x.cHc = 0 then beginLine h next w
      else if x.dirty then tearLine h next (w.setHead h { x with dirty := false, tornLine := true }) else w
    let row := x.cHc * f.inter + l % f.inter
    let c := y.composite h row x.cCol next
    let g := (y.headGroups h).getD (x.cHc / 12) 0
    let bank := x.cHc * 32 / f.chans
    let chase := chasePos (y.get (R.DRV_STATUS.CHASE_ORDER_NOW h)) bank * y.get (R.DRV_STATUS.CHASE_STEP_NOW h)
    Completes (.visitCompose t h) s (fun u => u = { y with heads := u.heads } ∧ ∃ v : Visit,
      (u.head h).visits = (y.head h).visits ++ [v] ∧ v.ch = 192 * (g / 16) + 12 * (g % 16) + x.cHc % 12 ∧
      v.phase = (if c.2.2.1 = 255 then 0 else y.get (R.P_X.PHASE h c.2.2.1)) ∧ v.cell = 262144 * h.val + row * f.cols + x.cCol ∧ v.line = l ∧
      v.shoot = decide (c.2.2.1 ≠ 255) ∧ v.frond = c.1 ∧ v.gen = c.2.1 ∧ v.frondTorn = c.2.2.2 ∧
      v.base = ns9 (o9 + l * f.tl9) + x.cCol * f.pcol ∧ v.chase = chase ∧ v.v = v.base + 16 * v.phase + chase ∧
      v.torn = (y.head h).tornLine ∧
      ((u.head h).cLine, (u.head h).cCol, (u.head h).cHc) = ((x.advance f).cLine, (x.advance f).cCol, (x.advance f).cHc)))

/-- R142, R151, R160, R173, R175, R176, R376. A WD_US of 0 acts as 1: the model's choice (log 25). The image clauses
are about requester 0 (MSPI) with its session's role. -/
def Obligations.SequencersControlled : Prop :=
  (∀ (t req : Nat) (n : Fin 8) (s : State), Ready s → let w := s.tick t
    Admits w req (R.SQ_CTL.addr n) →
    (w.sqStopped n = true → w.safe = false → w.follower = false → ∃ u : State,
      exec (.sqRun t req n) s = .next (policyStart n u) ∧ (w.policyHolds n = false → policyStart n u = u) ∧
      u.sqState n = 2 ∧ u.sqPc n = w.get (R.SQ_ENTRY.ENTRY n) ∧ u.get (R.SQ_STATUS.FAULT_CAUSE n) = 0 ∧
      (u.seq n).cq = [] ∧ (u.seq n).watch = [] ∧ (u.seq n).tags = [] ∧ (u.seq n).outstanding = [] ∧
      (u.seq n).wait = none ∧ (u.seq n).kick = w.now ∧ (∀ m : Fin 8, m ≠ n → u.seq m = w.seq m ∧ u.sqState m = w.sqState m) ∧
      u = { w with regs := u.regs, ops := u.ops, seqs := u.seqs }) ∧
    (w.sqLive n = true → exec (.sqStop t req n) s =
      .next (((w.asked req (R.SQ_CTL.RUN n) 0).setSeq n { w.seq n with wait := none }).put (R.SQ_STATUS.STATE n) 1)) ∧
    (w.sqStopped n = true → Completes (.sqUnload t req n) s (fun u =>
      u.sqState n = 0 ∧ u.get (R.SQ_ENTRY.ENTRY n) = 0 ∧ u.get (R.SQ_SPAN_LO.SPAN_LO n) = 0 ∧
      u.get (R.SQ_SPAN_HI.SPAN_HI n) = 0 ∧ u = { w with regs := u.regs, seqs := u.seqs }))) ∧
  (∀ (t req mask : Nat) (s : State), Ready s → let w := s.tick t
    Admits w req R.EV_SOFT.addr →
    Completes (.evSoft t req mask) s (fun u => u = { w with regs := u.regs } ∧
      (∀ (m : Fin 8) (i : Fin 16), w.sqLive m = true → mask.testBit i = true → (u.pend m).testBit (32 + i) = true) ∧
      (∀ m : Fin 8, w.sqLive m = false → u.pend m = w.pend m))) ∧
  (∀ (t : Nat) (n : Fin 8) (s : State), Ready s → let w := s.tick t
    w.sqLive n = true → w.flag (R.SQ_CTL.WD_EN n) = true →
    (w.seq n).kick + fineUs (max 1 (w.get (R.SQ_CTL.WD_US n))) ≤ w.now →
    exec (.watchdogExpiry t n) s = .next (settle (seqFault n 5 w))) ∧
  (∀ (t : Nat) (image : List Byte) (start : Bool) (r : Nat) (s : State), Ready s → let w := s.tick t
    w.roleOf 0 = some r → 1 ≤ r → r ≤ 3 →
    let img := image.map BitVec.toNat
    (w.imageOk false img = false → exec (.imageLoad t 0 image start) s = .next w) ∧
    (w.imageOk false img = true → let u := (loadImage false start img w).1
      let word := word32 (leNat (img.take 192))
      let plen := 8 * bits (word 3) 0 18
      exec (.imageLoad t 0 image start) s = .next (settle u) ∧
      (∀ k, k < plen → (u.byte (progBase + 8 * bits (word 2) 0 17 + k)).toNat = img.getD (192 + k) 0 % 256) ∧
      (∀ k, k < bits (word 5) 0 23 → (u.byte (dataBase + bits (word 4) 0 22 + k)).toNat = img.getD (192 + plen + k) 0 % 256) ∧
      (∀ n : Fin 8, n.val ∈ imageClaims (leNat (img.take 192)) →
        u.get (R.SQ_SPAN_LO.SPAN_LO n) = bits (word 2) 0 17 ∧ u.get (R.SQ_ENTRY.ENTRY n) = bits (word (6 + n)) 0 17 ∧
        u.sqState n = if start = true ∧ w.safe = false ∧ w.follower = false then 2 else 1))) ∧
  (∀ (t : Nat) (image : List Byte) (start : Bool) (s : State), Ready s → let w := s.tick t
    w.roleOf 0 = none → exec (.imageLoad t 0 image start) s = .next (w.setFlag R.SEC_STATUS.ROLE_REJ))

/-- R147 (its slot is time, which the model leaves out). -/
def Obligations.PredicatesDecide : Prop :=
  (∀ (s : State) (n : Nat) (i : Ins), i.pred < 8 →
    (s.executes n i = true ↔ (if i.pred = 0 then true else (s.reg (R.SQ_PRED.addr n)).getLsbD i.pred) ≠ i.psense)) ∧
  (∀ (c : Instr) (t opc : Nat) (n : Fin 8) (i : Ins) (s : State), c.seqOp = some (t, n, opc) → Ready s → let w := s.tick t
    AtInstr w n opc i → w.executes n i = false → w.inSpan n (w.sqPc n + 1) = true →
    exec c s = .next (w.put (R.SQ_PC.PC n) (w.sqPc n + 1)))

/-- R148, R149, R172. That a row's command does nothing where another instruction is in front is the model's own reading
(log 21). -/
def Obligations.SequencerFaults : Prop :=
  (∀ (c : Instr) (t opc : Nat) (n : Fin 8) (s : State), c.seqOp = some (t, n, opc) → Ready s → let w := s.tick t
    (w.policyHolds n = false → w.sqState n = 2 → w.inSpan n (w.sqPc n) = false → exec c s = .next (settle (seqFault n 4 w))) ∧
    (w.policyHolds n = false → w.sqState n = 2 → w.inSpan n (w.sqPc n) = true → layoutOf (w.insAt n).opc = none →
      exec c s = .next (settle (seqFault n 1 w))) ∧
    (∀ l, w.policyHolds n = false → w.sqState n = 2 → w.inSpan n (w.sqPc n) = true → (w.insAt n).opc = opc → layoutOf opc = some l →
      (w.insAt n).legal l = false → exec c s = .next (settle (seqFault n 1 w))) ∧
    (w.sqState n ≠ 2 ∨ w.policyHolds n = true → exec c s = .next w) ∧
    (∀ l, w.inSpan n (w.sqPc n) = true → layoutOf (w.insAt n).opc = some l → (w.insAt n).opc ≠ opc → exec c s = .next w)) ∧
  (∀ (n : Fin 8) (cause : Nat) (s : State), cause < 256 → s.su.errs.length < 64 → let u := seqFault n cause s
    u.sqState n = 5 ∧ u.get (R.SQ_STATUS.FAULT_CAUSE n) = cause ∧ u.sqPc n = s.sqPc n ∧
    (∀ k : Fin 32, u.greg n k = s.greg n k) ∧ u = { s with regs := u.regs, seqs := u.seqs, su := u.su } ∧
    (∃ e, u.su.errs = s.su.errs ++ [e] ∧ e.cls = 0 ∧ e.detail = n.val))

/-- R148, R149, said with Lean's own 32-bit and 64-bit words, not with the model's arithmetic. -/
def Obligations.ArithmeticInstructions : Prop :=
  ∀ (t : Nat) (n : Fin 8) (i : Ins) (s : State), Ready s → let w := s.tick t
    let a := BitVec.ofNat 32 (w.greg n i.a)
    let b := BitVec.ofNat 32 (w.greg n i.b)
    let k := BitVec.ofNat 32 i.imm
    let gives := fun (c : Instr) (opc : Nat) (r : BitVec 32) => Executes w n opc i →
      exec c s = .next (seqAdvance n (w.sqPc n + 1) (w.setGreg n i.dst r.toNat))
    gives (.add t n) 0x01 (a + b) ∧ gives (.sub t n) 0x03 (a - b) ∧ gives (.and t n) 0x04 (a &&& b) ∧
    gives (.or t n) 0x06 (a ||| b) ∧ gives (.xor t n) 0x08 (a ^^^ b) ∧ gives (.shl t n) 0x0A (a <<< (b.toNat % 32)) ∧
    gives (.shr t n) 0x0C (a >>> (b.toNat % 32)) ∧ gives (.sar t n) 0x0E (a.sshiftRight (b.toNat % 32)) ∧
    gives (.mul t n) 0x10 (a * b) ∧ gives (.mulhu t n) 0x11 (BitVec.extractLsb' 32 32 (a.zeroExtend 64 * b.zeroExtend 64)) ∧
    gives (.mulhs t n) 0x12 (BitVec.extractLsb' 32 32 (a.signExtend 64 * b.signExtend 64)) ∧
    gives (.divu t n) 0x13 (if b = 0 then 0xFFFFFFFF else a / b) ∧ gives (.remu t n) 0x14 (if b = 0 then a else a % b) ∧
    gives (.min t n) 0x15 (if b.slt a then b else a) ∧ gives (.max t n) 0x16 (if b.slt a then a else b) ∧
    gives (.addi t n) 0x02 (a + k) ∧ gives (.andi t n) 0x05 (a &&& k) ∧ gives (.ori t n) 0x07 (a ||| k) ∧
    gives (.xori t n) 0x09 (a ^^^ k) ∧ gives (.shli t n) 0x0B (a <<< (k.toNat % 32)) ∧
    gives (.shri t n) 0x0D (a >>> (k.toNat % 32)) ∧ gives (.sari t n) 0x0F (a.sshiftRight (k.toNat % 32)) ∧
    gives (.movi t n) 0x17 k ∧ gives (.muli t n) 0x18 (a * k) ∧
    (Executes w n 0x00 i → exec (.nop t n) s = .next (seqAdvance n (w.sqPc n + 1) w))

/-- R140, R148, R149; signed and unsigned compares said with Lean's own 32-bit words. -/
def Obligations.PredicatesWritten : Prop :=
  (∀ (t : Nat) (n : Fin 8) (i : Ins) (s : State), Ready s → let w := s.tick t
    let a := BitVec.ofNat 32 (w.greg n i.a)
    let b := BitVec.ofNat 32 (w.greg n i.b)
    let k := BitVec.ofNat 32 i.imm
    let gives := fun (c : Instr) (opc : Nat) (r : Bool) => Executes w n opc i →
      exec c s = .next (seqAdvance n (w.sqPc n + 1) (w.setPredicate n i.dst r))
    gives (.cmpeq t n) 0x20 (a == b) ∧ gives (.cmpne t n) 0x21 (a != b) ∧ gives (.cmplt t n) 0x22 (a.slt b) ∧
    gives (.cmpltu t n) 0x23 (a.ult b) ∧ gives (.cmpge t n) 0x24 (b.sle a) ∧ gives (.cmpgeu t n) 0x25 (b.ule a) ∧
    gives (.cmpeqi t n) 0x26 (a == k) ∧ gives (.cmplti t n) 0x27 (a.slt k) ∧ gives (.cmpltui t n) 0x28 (a.ult k) ∧
    gives (.cmpgei t n) 0x29 (k.sle a) ∧ gives (.cmpgeui t n) 0x2A (k.ule a) ∧
    gives (.tstbit t n) 0x2F (a.getLsbD (i.imm % 32)) ∧
    gives (.pand t n) 0x2C (w.predicate n i.a && w.predicate n i.b) ∧
    gives (.por t n) 0x2D (w.predicate n i.a || w.predicate n i.b) ∧ gives (.pnot t n) 0x2E (!w.predicate n i.a)) ∧
  (∀ (s : State) (n j k : Nat) (v : Bool), j < 8 → k < 8 →
    (s.setPredicate n k v).predicate n j = (if j = k ∧ k ≠ 0 then v else s.predicate n j))

/-- R149, R169, R173. -/
def Obligations.FlowOfControl : Prop :=
  ∀ (t : Nat) (n : Fin 8) (i : Ins) (s : State), Ready s → let w := s.tick t
    let goes := fun (c : Instr) (opc target : Nat) (v : State) => AtInstr w n opc i → w.executes n i = true →
      (w.inSpan n target = true → exec c s = .next (seqAdvance n target v)) ∧
      (w.inSpan n target = false → exec c s = .next (settle (seqFault n 4 w)))
    let ends := fun (c : Instr) (opc : Nat) (v : State) => Executes w n opc i →
      exec c s = .next (seqAdvance n (w.sqPc n + 1) v)
    let count := (w.greg n i.a + (2 ^ 32 - 1)) % 2 ^ 32
    goes (.br t n) 0x30 (i.imm % 2 ^ 17) w ∧ goes (.brr t n) 0x31 (w.greg n i.a % 2 ^ 17) w ∧
    goes (.call t n) 0x32 (i.imm % 2 ^ 17) (w.setGreg n 31 (w.sqPc n + 1)) ∧ goes (.ret t n) 0x33 (w.greg n 31 % 2 ^ 17) w ∧
    (count ≠ 0 → goes (.loop t n) 0x34 (i.imm % 2 ^ 17) (w.setGreg n i.a count)) ∧
    (count = 0 → ends (.loop t n) 0x34 (w.setGreg n i.a 0)) ∧
    (AtInstr w n 0x35 i → w.executes n i = true →
      exec (.halt t n) s = .next ((seqAdvance n (w.sqPc n + 1) w).put (R.SQ_STATUS.STATE n) 4)) ∧
    ends (.kick t n) 0x36 (w.setSeq n { w.seq n with kick := w.now }) ∧
    ends (.time t n) 0x38 ((w.setGreg n i.dst (w.ns % 2 ^ 32)).setGreg n (i.dst + 1) (w.ns / 2 ^ 32 % 2 ^ 32)) ∧
    ends (.fstat t n) 0x39 (w.setGreg n i.dst (w.pts.fstat.get 0 (16 * (i.imm % 2) + i.imm / 2 % 16)))

/-- R144, R151, R152, R158, R171. -/
def Obligations.WaitsAndEvents : Prop :=
  (∀ (t : Nat) (n : Fin 8) (i : Ins) (s : State), Ready s → let w := s.tick t
    let ends := fun (c : Instr) (opc : Nat) (v : State) => Executes w n opc i →
      exec c s = .next (seqAdvance n (w.sqPc n + 1) v)
    let waits := fun (c : Instr) (opc : Nat) (x : Wait) => Executes w n opc i →
      exec c s = .next ((seqAdvance n (w.sqPc n) (w.setSeq n { w.seq n with wait := some x })).put (R.SQ_STATUS.STATE n) 3)
    let mask := w.greg n i.a + 2 ^ 32 * w.greg n i.b
    let by_ := fun us => if us = 0 then none else some (w.now + fineUs us)
    (w.pend n &&& mask ≠ 0 → ends (.wait t n) 0x40 (takeMask n mask i.dst w)) ∧
    (w.pend n &&& mask = 0 → waits (.wait t n) 0x40 (.mask mask i.dst (by_ (i.imm % 2 ^ 24)))) ∧
    ((w.pend n).testBit (i.imm % 64) = true → ends (.wait1 t n) 0x41 (takeLine n (i.imm % 64) i.dst w)) ∧
    ((w.pend n).testBit (i.imm % 64) = false →
      waits (.wait1 t n) 0x41 (.line (i.imm % 64) i.dst (by_ (i.imm / 64 % 2 ^ 24)))) ∧
    (i.imm % 2 ^ 24 = 0 → ends (.sleep t n) 0x37 w) ∧
    (i.imm % 2 ^ 24 ≠ 0 → waits (.sleep t n) 0x37 (.sleep (w.now + fineUs (i.imm % 2 ^ 24)))) ∧
    (i.imm.testBit 8 = false → (w.seq n).outstanding.length ≤ i.imm % 256 → ends (.fence t n) 0x72 w) ∧
    (i.imm.testBit 8 = false → i.imm % 256 < (w.seq n).outstanding.length →
      waits (.fence t n) 0x72 (.outstanding (i.imm % 256))) ∧
    (i.imm.testBit 8 = true → i.imm % 256 ∉ (w.seq n).outstanding → ends (.fence t n) 0x72 w) ∧
    (i.imm.testBit 8 = true → i.imm % 256 ∈ (w.seq n).outstanding → waits (.fence t n) 0x72 (.tag (i.imm % 256))) ∧
    waits (.mfence t n) 0x52 .stores ∧ ends (.sig t n) 0x42 (raiseEv (32 + i.imm % 16) w) ∧
    ends (.evclr t n) 0x43 (clearPending n mask w)) ∧
  (∀ (t : Nat) (n : Fin 8) (x : Wait) (s : State), Ready s → let w := s.tick t
    w.sqState n = 3 → (w.seq n).wait = some x →
    (∀ m dst d, x = .mask m dst d → w.pend n &&& m ≠ 0 → exec (.waitWake t n) s = .next (seqResume n (takeMask n m dst w))) ∧
    (∀ k dst d, x = .line k dst d → (w.pend n).testBit k = true →
      exec (.waitWake t n) s = .next (seqResume n (takeLine n k dst w))) ∧
    (∀ m dst d, x = .mask m dst (some d) → d ≤ w.now → w.pend n &&& m = 0 →
      exec (.waitTimeout t n) s = .next (seqResume n (w.setGreg n dst 0))) ∧
    (∀ k dst d, x = .line k dst (some d) → d ≤ w.now → (w.pend n).testBit k = false →
      exec (.waitTimeout t n) s = .next (seqResume n (w.setGreg n dst 0))) ∧
    (∀ d, x = .sleep d → d ≤ w.now → exec (.sleepEnd t n) s = .next (seqResume n w)) ∧
    (w.fenceMet n x = true → exec (.fenceDone t n) s = .next (seqResume n w)) ∧
    (x = .stores → exec (.mfenceDone t n) s = .next (if w.dramWaits (8 + n) then w else seqResume n w))) ∧
  (∀ (n : Fin 8) (s : State), s.sqPc n < 2 ^ 17 - 1 → (seqResume n s).sqState n = 2 ∧ (seqResume n s).sqPc n = s.sqPc n + 1 ∧
    ((seqResume n s).seq n).wait = none)

/-- R143, R145, R150, R161, R166. A store is visible at once: the model's choice (log 23). -/
def Obligations.LoadsAndStores : Prop :=
  ∀ (t : Nat) (n : Fin 8) (i : Ins) (s : State), Ready s → let w := s.tick t
    let ends := fun (c : Instr) (opc : Nat) (v : State) => Executes w n opc i →
      exec c s = .next (settle (seqAdvance n (w.sqPc n + 1) v))
    let faults := fun (c : Instr) (opc cause : Nat) => Executes w n opc i → exec c s = .next (settle (seqFault n cause w))
    (∀ a, w.effAddr n i = some a → w.readHeld (8 + n) a i.size = true → Executes w n 0x50 i → exec (.ld t n) s = .next w) ∧
    (∀ a, w.effAddr n i = some a → w.readHeld (8 + n) a i.size = false → let r := busRead (8 + n) a i.size w
      (i.size < 8 → ends (.ld t n) 0x50 (r.2.setGreg n i.dst (i.extend r.1))) ∧
      (i.size = 8 → ends (.ld t n) 0x50 ((r.2.setGreg n i.dst (r.1 % 2 ^ 32)).setGreg n (i.dst + 1) (r.1 / 2 ^ 32 % 2 ^ 32))) ∧
      (w.target a i.size = .sram → r = (w.load a i.size, w))) ∧
    (w.effAddr n i = none → faults (.ld t n) 0x50 2 ∧ (i.space ≠ 2 → i.space ≠ 5 → faults (.st t n) 0x51 2) ∧
      faults (.amoadd t n) 0x54 2) ∧
    (i.space = 2 ∨ i.space = 5 → faults (.st t n) 0x51 3) ∧
    (∀ a, w.effAddr n i = some a → i.space ≠ 2 → i.space ≠ 5 →
      let v := w.greg n i.b + (if i.size = 8 then 2 ^ 32 * w.greg n (i.b + 1) else 0)
      ends (.st t n) 0x51 (busWrite (8 + n) a i.size (v % 2 ^ (8 * i.size)) w)) ∧
    (∀ a, w.effAddr n i = some a →
      ends (.amoadd t n) 0x54 ((busWrite (8 + n) a 4 ((w.load a 4 + w.greg n i.b) % 2 ^ 32) w).setGreg n i.dst (w.load a 4))) ∧
    (∀ a, w.effAddr n i = some a → w.target a 4 = .sram → Admits w (8 + n) a →
      ends (.amoadd t n) 0x54 ((w.store a 4 ((w.load a 4 + w.greg n i.b) % 2 ^ 32)).setGreg n i.dst (w.load a 4))) ∧
    (0x20 ≤ w.greg n i.a % 256 → w.greg n i.a % 256 ≤ 0x3F →
      ends (.dbase t n) 0x53 (w.put (R.SQ_DBASE.DBASE n) (w.greg n i.a % 256))) ∧
    (w.greg n i.a % 256 < 0x20 ∨ 0x3F < w.greg n i.a % 256 → faults (.dbase t n) 0x53 1) ∧
    ends (.lread t n) 0x90 (w.setGregs n i.dst (entryWords (w.lichen (w.greg n i.a % 2 ^ 19)))) ∧
    (let e := wordsNat ((List.range 8).map (fun k => w.greg n (i.a + k)))
     ends (.lwrite t n) 0x91 (w.setLichen (w.greg n i.b % 2 ^ 19) (if i.imm.testBit 0 then e else lset e L.tChange w.ns))) ∧
    (let cell := w.greg n i.a % 2 ^ 19
     let e := w.lichen cell
     let old := bits e 88 4
     let new := (old ||| i.imm % 16) &&& (15 - i.imm / 16 % 16)
     let e' := if new = old then e else lset (setBits e 88 4 new) L.tChange w.ns
     ends (.lflag t n) 0x92 ((w.setLichen cell e').setGreg n i.dst (bits e' 64 32))) ∧
    (let a := frondBase + w.greg n i.a
     let f := w.fillArea a (w.greg n i.b) (w.greg n (i.b + 1))
     i.imm.testBit 8 = false → a + 64 ≤ lichenBase → bits (w.load a 4) 16 2 = 0 → f.fits a lichenBase = true →
     ends (.ffill t n) 0x60 (fillBuffer (8 + n) false a (i.imm % 256) f w) ∧
     (∀ x, (∀ k, k < f.rows → ¬ (f.at_ a k ≤ x ∧ x < f.at_ a k + f.cols)) →
       (fillBuffer (8 + n) false a (i.imm % 256) f w).byte x = w.byte x)) ∧
    (i.imm.testBit 8 = true → w.dbaseOk n = false → faults (.ffill t n) 0x60 2) ∧
    (let a := w.dbaseAddr n (w.greg n i.a)
     let f := w.fillArea a (w.greg n i.b) (w.greg n (i.b + 1))
     i.imm.testBit 8 = true → w.dbaseOk n = true → a + 64 ≤ dramEnd →
     (w.dramMapped (a - dramBase) = false → ends (.ffill t n) 0x60 (unmapped (8 + n) a w)) ∧
     (w.dramMapped (a - dramBase) = true →
       (bits (w.load a 4) 16 2 ≠ 0 → faults (.ffill t n) 0x60 2) ∧
       (bits (w.load a 4) 16 2 = 0 → f.fits a dramEnd = true →
         (w.fillHeld (8 + n) a f = true → Executes w n 0x60 i → exec (.ffill t n) s = .next w) ∧
         (w.fillHeld (8 + n) a f = false →
           ends (.ffill t n) 0x60 (fillBuffer (8 + n) true a (i.imm % 256) f (dramSpan (8 + n) (a - dramBase) 64 w))))))

/-- R153, R156, R157, R159, R162 to R165, R167, R168. -/
def Obligations.SteeringInstructions : Prop :=
  ∀ (t : Nat) (n : Fin 8) (i : Ins) (s : State), Ready s → let w := s.tick t
    let ends := fun (c : Instr) (opc : Nat) (v : State) => Executes w n opc i →
      exec c s = .next (settle (seqAdvance n (w.sqPc n + 1) v))
    let q := w.seq n
    let h := i.imm % 2
    let tag := q.freeTag
    let asks := fun (r : ProbeReq) =>
      { q with tags := q.tags ++ [tag], outstanding := q.outstanding ++ [tag], probes := probeInsert r q.probes }
    (256 ≤ q.cq.length + q.outstanding.length → ends (.probe t n) 0x70 (w.setGreg n i.dst 0xFFFFFFFF)) ∧
    (q.cq.length + q.outstanding.length < 256 → Executes w n 0x70 i → Completes (.probe t n) s (fun u => ∃ r : ProbeReq,
      u = settle (seqAdvance n (w.sqPc n + 1) ((w.setSeq n (asks r)).setGreg n i.dst q.freeTag)) ∧
      r.v0 = (w.now + 128 * max 2000 (w.greg n (i.b + 2))) / 128 ∧ r.w0 % 2 ^ 31 = w.greg n i.a % 2 ^ 31 ∧
      r.w1 = w.greg n (i.a + 1) ∧ r.w2 = w.greg n (i.a + 2) ∧ r.w3 = w.greg n (i.a + 3) ∧ r.bank = i.imm % 64 ∧
      r.info.interval = w.greg n (i.b + 3) ∧ r.info.tag = some q.freeTag)) ∧
    (q.cq = [] → ends (.cqpop t n) 0x71 (w.setGregs n i.dst [0xFFFFFFFF, 0, 0, 0])) ∧
    (∀ w0 w1 w2 w3 r, q.cq = (w0, w1, w2, w3) :: r → 
      let tags := if bits w0 8 3 = 3 then q.tags else q.tags.filter (· ≠ w0 % 256)
      ends (.cqpop t n) 0x71 ((w.setSeq n { q with cq := r, tags := tags }).setGregs n i.dst [w0, w1, w2, w3])) ∧
    (Executes w n 0x64 i → Completes (.watch t n) s (fun u => ∃ x : Watch,
      u = seqAdvance n (w.sqPc n + 1) (w.setSeq n { q with watch := q.watch.put {} (i.imm % 4) x }) ∧
      x.on = i.imm.testBit 12 ∧ x.head = i.imm / 4 % 2 ∧ x.row0 = w.greg n i.a % 2 ^ 16 ∧ x.row1 = w.greg n i.a / 2 ^ 16 ∧
      x.col0 = w.greg n i.b % 2 ^ 16 ∧ x.col1 = w.greg n i.b / 2 ^ 16 ∧ x.classes = i.imm / 8 % 256 ∧
      x.changed = i.imm.testBit 11)) ∧
    (i.imm.testBit 3 = true → w.dbaseOk n = false → Executes w n 0x61 i → exec (.fcommit t n) s = .next (settle (seqFault n 2 w))) ∧
    (i.imm.testBit 3 = false ∨ w.dbaseOk n = true →
      let f := i.imm / 2 % 4
      let a := if i.imm.testBit 3 then w.dbaseAddr n (w.greg n i.a) else frondBase + w.greg n i.a
      let v := ((w.put (R.FROND_ADDR_LO.ADDR_LO h f) (a / 64)).put (R.FROND_ADDR_HI.ADDR_HI h f) (a / 2 ^ 32)).put
        (R.FROND_GEN_EXP.GEN_EXP h f) (w.greg n i.b)
      let v' := forAll [R.FROND_ADDR_LO.addr h f, R.FROND_ADDR_HI.addr h f, R.FROND_GEN_EXP.addr h f] forwardReg v
      (w.dramWaits (8 + n) = true → Executes w n 0x61 i → exec (.fcommit t n) s = .next w) ∧
      (w.dramWaits (8 + n) = false →
        (v.frondAddrOk a = true →
          ends (.fcommit t n) 0x61 ((forward (R.FROND_COMMIT.addr h f) 4 1 (commitFrond h f v')).setGreg n i.dst 0)) ∧
        (v.frondAddrOk a = false → ends (.fcommit t n) 0x61 ((v'.setFlag R.SO_STATUS.COMMIT_REJ).setGreg n i.dst 1)))) ∧
    (i.imm.testBit 8 = false → Executes w n 0x62 i → i.imm / 2 % 32 ≤ 16 → Completes (.fmt t n) s (fun u =>
      u.get (R.HEAD_CTL.FORMAT h) = i.imm / 2 % 32 ∧ u.get (R.HEAD_CTL.SYNC_LOCK h) = i.imm / 64 % 2 ∧
      u.get (R.HEAD_CTL.SCAN_EN h) = w.get (R.HEAD_CTL.SCAN_EN h) ∧
      u = { w with regs := u.regs, heads := u.heads, trk := u.trk } ∧
      RegsBut [R.HEAD_CTL.addr h, R.SQ_PC.addr n, R.SQ_INSTR.addr n] w u)) ∧
    (i.imm.testBit 8 = true → ends (.fmt t n) 0x62 (busWrite (8 + n) (R.HEAD_CTL.addr h) 4
      (withFields (w.reg (R.HEAD_CTL.addr h)).toNat [(4, 5, i.imm / 2 % 32), (9, 1, i.imm / 64 % 2), (0, 1, i.imm / 128 % 2)]) w)) ∧
    (w.anyHead = false → ends (.hlock t n) 0x63
      ((forwardReg R.LINE_OFS.addr (forwardReg R.SO_CFG.addr ((w.put R.SO_CFG.HEAD_LOCK h).put R.LINE_OFS.value
        (w.greg n i.a % 2 ^ R.LINE_OFS.value.w)))).setGreg n i.dst 0)) ∧
    (w.anyHead = true → w.get R.SO_CFG.HEAD_LOCK ≠ h →
      ends (.hlock t n) 0x63 ((w.setFlag R.SO_STATUS.WRITE_REJECTED).setGreg n i.dst 1)) ∧
    (let one := fun b v => busField (8 + n) (R.BANK_AMP.REQ h b) (w.greg n i.a % 4096) v
     (i.imm / 2 % 64 < 32 → ends (.energy t n) 0x80 (one (i.imm / 2 % 64) w)) ∧
     (i.imm / 2 % 64 = 63 → ends (.energy t n) 0x80 (upTo 32 one w)) ∧
     (32 ≤ i.imm / 2 % 64 → i.imm / 2 % 64 < 63 → ends (.energy t n) 0x80 w)) ∧
    (i.imm.testBit 7 = false →
      ends (.hop t n) 0x81 (writeRegion (i.imm / 64 % 2) (i.imm % 64) (w.greg n i.a % 8) w)) ∧
    (i.imm.testBit 7 = true → ∀ c, nextCode (w.get R.HOP_CFG.HOP_MASK)
        (w.get (regionField true (i.imm / 64 % 2) (i.imm % 64))) = some c →
      ends (.hop t n) 0x81 (writeRegion (i.imm / 64 % 2) (i.imm % 64) c w)) ∧
    (i.imm.testBit 7 = true → nextCode (w.get R.HOP_CFG.HOP_MASK)
        (w.get (regionField true (i.imm / 64 % 2) (i.imm % 64))) = none →
      ends (.hop t n) 0x81 (w.bumpSat R.HOP_STATUS.HOP_BLOCKED)) ∧
    (let e := (anchorEnter (w.gregPair n i.a) (w.gregPair n i.b) w).1
     (w.tb.anchors.length < 8 →
       ends (.anchor t n) 0xA0 ((forwardAnchor (w.gregPair n i.a) (w.gregPair n i.b) e).setGreg n i.dst 0)) ∧
     (8 ≤ w.tb.anchors.length → ends (.anchor t n) 0xA0 (e.setGreg n i.dst 1))) ∧
    ends (.emit t n) 0xA1 (milestoneAt 0x04 h (w.frameCount h) w.ns
      [w.greg n i.a, w.greg n (i.a + 1), lo32 w.ns, hi32 w.ns] w) ∧
    ends (.carm t n) 0xB0 ((capArm (i.imm % 16) w).1.setGreg n i.dst (capArm (i.imm % 16) w).2) ∧
    ends (.mset t n) 0xC0 (busWrite (8 + n) (R.SETPOINT.addr (i.imm % 8)) 4 (w.greg n i.a) w) ∧
    (let p := profileMove (i.imm % 8) (i.imm / 8 % 16) w
     ends (.mprof t n) 0xC1 ((if p.2 then p.1 else forward (R.TARGET.addr (i.imm % 8) (i.imm / 8 % 16)) 0 0 p.1).setGreg n i.dst
       (b2n p.2)))

/-- R186, R187, R190, R192, R194 to R196, R199. -/
def Obligations.DriveExchanges : Prop :=
  (∀ (t req : Nat) (h : Fin 2) (s : State), Ready s → let w := s.tick t
    Admits w req (R.DRV_CTL.addr h) → w.running h = false → w.drvEn h = false →
    let a := w.asked req (R.DRV_CTL.DRV_EN h) 1
    a.drvEn h = true ∧ Acts (.driveEnable t req h) s (driveOn h a)) ∧
  (∀ (h : Fin 2) (s : State), s.drvEn h = true → (driveOn h s).drvReady h = false ∧
    (s.ownHeld = true → ((driveOn h s).drv h).bringUp = true ∧
      ((driveOn h s).drv h).x = some { phi := s.now, kind := .bringUp }) ∧
    (s.ownHeld = false → ((driveOn h s).drv h).x = (s.drv h).x)) ∧
  (∀ (t req : Nat) (h : Fin 2) (s : State), Ready s → let w := s.tick t
    Admits w req (R.DRV_CTL.addr h) → w.drvEn h = true → (w.drv h).down = none →
    let a := w.asked req (R.DRV_CTL.SOFT_STOP h) 1
    Acts (.softStop t req h) s (a.setDrv h { a.drv h with down := some 0 })) ∧
  (∀ (t phi : Nat) (h : Fin 2) (s : State), Ready s → let w := s.tick t
    w.phiDue h = some phi → let y := w.head h
    (w.running h = true → y.opened = true → y.startPhi = false →
      Acts (.exchangeStart t h) s (exchangeAt h phi ((stepMove h y.ends (calLineEnd h w)).modHead h
        (fun x => if x.startPhi then { x with startPhi := false } else { x with ends := x.ends + 1 })))) ∧
    (w.running h = true → y.startPhi = true →
      Acts (.exchangeStart t h) s (exchangeAt h phi (w.setHead h { y with startPhi := false }))) ∧
    (w.running h = false → Acts (.exchangeStart t h) s (exchangeAt h phi w))) ∧
  (∀ (phi : Nat) (h : Fin 2) (s : State),
    (s.drvEn h = true → s.drvReady h = true → s.ownHeld = true → (s.drv h).x = none →
      exchangeAt h phi s = startExchange h phi .regular s) ∧
    (((s.drv h).x ≠ none ∨ s.ownHeld = false ∨ s.drvEn h = false ∨ s.drvReady h = false) →
      exchangeAt h phi s = s.setDrv h { s.drv h with phi := phi })) ∧
  (∀ (h : Fin 2) (b : Fin 32) (phi : Nat) (k : XKind) (s : State), let u := startExchange h phi k s
    (u.drv h).x = some { phi := phi, kind := k } ∧ (u.bank h b).seq = ((s.bank h b).seq + 1) % 16 ∧
    (u.bank h b).echo = false ∧ (u.bank h b).replied = false ∧ (u.bank h b).inRetry = false ∧
    u = { s with regs := u.regs, drive := u.drive } ∧ RegsBut [(R.DRV_XCHG_COUNT.XCHG h).addr] s u) ∧
  (∀ (t : Nat) (h : Fin 2) (x : Exchange) (s : State), Ready s → let w := s.tick t
    (w.drv h).x = some x → x.sent = false → x.phi + 128000 * (if x.retry then 11 else 1) ≤ w.now →
    let v := w.setDrv h { w.drv h with x := some { x with sent := true } }
    (x.retry = false → w.softEnds h = false → Acts (.exchangeCommand t h) s (stepRamps h (upTo 32 (sendCommand h) v))) ∧
    (x.retry = false → w.softEnds h = true → Acts (.exchangeCommand t h) s (softStopEnd h w)) ∧
    (x.retry = true → Acts (.exchangeCommand t h) s
      (modBanks h (fun _ b => if b.inRetry then { b with line := .idle } else b) v))) ∧
  (∀ (h : Fin 2) (s : State), let u := softStopEnd h s
    u.drvEn h = false ∧ u.flag (R.DRV_STATUS.SOFT_STOP_DONE h) = true ∧ u.drvReady h = false ∧ (u.drv h).x = none) ∧
  (∀ (h : Fin 2) (b : Fin 32) (s : State), let u := sendCommand h b s
    let e := s.envelope h (s.softStep h b)
    let r := min (s.get (R.BANK_AMP.REQ h b) * e / 256) (s.guardCap h b s.ns)
    u.get (R.BANK_DRIVE.DRIVE_NOW h b) = (if r = 0 then 0
      else min 4095 (s.get (R.BANK_CAL.THRESH h b) + r * s.get (R.BANK_CAL.SLOPE h b) / 65536)) ∧
    u.get (R.BANK_DRIVE.ENV_NOW h b) = e ∧ (u.bank h b).reqEff = r ∧ (u.bank h b).reqPrev = (s.bank h b).reqEff ∧
    (u.bank h b).fired = false ∧ (u.bank h b).cmd =
      cmdFrame (if s.permitted && s.drvEn h then 0 else 2) (u.get (R.BANK_DRIVE.DRIVE_NOW h b)) (s.bank h b).seq ∧
    u.get (R.BANK_GUARD_W0.GUARD_CAP h b) = s.guardCap h b s.ns) ∧
  (∀ (t : Nat) (h : Fin 2) (x : Exchange) (s : State), Ready s → let w := s.tick t
    (w.drv h).x = some x → x.sent = true → x.mark = none →
    let at_ := x.phi + 128 * (if x.retry then 12900 else 2900)
    at_ ≤ w.now →
    let next := w.rotFrom (w.get R.DRV_CABLE_NEXT.NEXT)
    let free := w.get R.IU_STATUS.IU_STATE = 0 ∨ w.get R.IU_STATUS.IU_STATE = 3
    let m := { x with mark := some at_, timed := some (next % 32), result := none, timedRetry := x.retry }
    let mine := next / 32 = h ∧ w.inAttempt h (next % 32) x = true ∧ w.drvEn h = true ∧ x.kind ≠ .takeOver ∧
      (x.retry = true → x.timed = some (next % 32))
    Completes (.exchangeMark t h) s (fun u => u = { w with regs := u.regs, tb := u.tb, drive := u.drive } ∧
      (mine → free → (u.drv h).x = some m ∧ u.get R.IU_STATUS.IU_STATE = 2 ∧ u.flag R.IU_STATUS.IU_OWNER = true ∧
        u.flag R.IU_STATUS.IU_VALID = false ∧ u.tb.iuStart = at_) ∧
      (¬ (mine ∧ free) → (u.drv h).x = some { x with mark := some at_ } ∧ u.tb = w.tb ∧
        (mine → u.flag R.IU_STATUS.IU_BUSY_REJ = true) ∧ (¬ mine → u.regs = w.regs)))) ∧
  (∀ (t : Nat) (h : Fin 2) (x : Exchange) (s : State), Ready s → let w := s.tick t
    (w.drv h).x = some x → x.judged = true → x.phi + 128000 * (if x.retry then 20 else 10) ≤ w.now →
    let again := w.ownHeld && (List.range 32).any (fun b => (w.bank h b).inRetry)
    let v := linesLow h (w.setDrv h { w.drv h with x := none })
    let second := { x with retry := true, sent := false, mark := none, judged := false, result := none }
    (x.retry = false → again = true →
      Acts (.exchangeWindowEnd t h) s ((linesLow h w).setDrv h { (linesLow h w).drv h with x := some second })) ∧
    ((x.retry = true ∨ again = false) → Acts (.exchangeWindowEnd t h) s (
      if (v.drv h).bringUp = false ∨ w.ownHeld = false then v
      else if v.broughtUp h then
        (v.setDrv h { v.drv h with bringUp := false, up := some 0 }).setFlag (R.DRV_STATUS.DRV_READY h)
      else startExchange h w.now .bringUp v)))

/-- R193, R194, R199 to R201; 11_twin.md R288. -/
def Obligations.RepliesJudged : Prop :=
  (∀ (t m : Nat) (h : Fin 2) (b : Fin 32) (x : Exchange) (s : State), Ready s → let w := s.tick t
    (w.drv h).x = some x → x.mark = some m →
    (w.inAttempt h b x = true → (w.bank h b).echo = false → (w.bank h b).replied = false →
      m + 25600 ≤ w.now → w.now ≤ m + 166400 →
      let v := w.modBank h b (fun k => { k with echo := true })
      let timed := x.timed = some b.val ∧ x.timedRetry = x.retry ∧ w.flag R.IU_STATUS.IU_OWNER = true ∧
        w.get R.IU_STATUS.IU_STATE = 2
      (timed → Acts (.echoEdge t h b) s (iuDriveDone (v.setDrv h { w.drv h with x := some { x with result := some (w.now - m) } }))) ∧
      (¬ timed → Acts (.echoEdge t h b) s v)) ∧
    ((w.now < m + 25600 ∨ m + 166400 < w.now ∨ w.inAttempt h b x = false ∨ (w.bank h b).echo = true ∨
      (w.bank h b).replied = true) → Acts (.echoEdge t h b) s w)) ∧
  (∀ (t m : Nat) (h : Fin 2) (b : Fin 32) (f : BitVec 80) (x : Exchange) (s : State), Ready s → let w := s.tick t
    let v := f.toNat
    (w.drv h).x = some x → x.mark = some m → x.judged = false → w.inAttempt h b x = true → (w.bank h b).echo = true →
    (w.bank h b).replied = false → w.now ≤ m + 448000 →
    (v % 256 = 0x5B → v / 2 ^ 8 % 16 = (w.bank h b).seq → v / 2 ^ 72 = crc8 (bytesOf 9 v) → v.testBit 28 = false →
      Acts (.replyFrame t h b f) s (replyGood h b (v / 2 ^ 12 % 4096) (v / 2 ^ 24 % 256) (v / 2 ^ 32 % 2 ^ 32) x w)) ∧
    ((v % 256 ≠ 0x5B ∨ v / 2 ^ 8 % 16 ≠ (w.bank h b).seq ∨ v / 2 ^ 72 ≠ crc8 (bytesOf 9 v) ∨ v.testBit 28 = true) →
      Acts (.replyFrame t h b f) s w)) ∧
  (∀ (t m : Nat) (h : Fin 2) (x : Exchange) (s : State), Ready s → let w := s.tick t
    (w.drv h).x = some x → x.mark = some m → x.judged = false → m + 448000 ≤ w.now →
    Acts (.replyDeadline t h) s (replyDeadline h w) ∧
    ((∀ b < 32, w.inAttempt h b x = true → (w.bank h b).replied = true) → Acts (.replyDeadline t h) s
      ((iuFree h w).setDrv h { w.drv h with x := some { x with judged := true } })) ∧
    (∀ b < 32, x.kind = .takeOver → w.inAttempt h b x = true → (w.bank h b).replied = false →
      Completes (.replyDeadline t h) s (fun u => (u.drv h).x = some { x with judged := true } ∧ (u.bank h b).mute = true)) ∧
    (∀ b < 32, x.retry = true → x.kind ≠ .takeOver → (w.bank h b).inRetry = true → (w.bank h b).replied = false →
      let u := replyDeadline h w
      u.guardState = 4 ∧ u.flag R.DRV_FAIL.FAILED = true ∧
      (if h.val = 0 then u.get R.FAIL_MAP_A.MAP_A else u.get R.FAIL_MAP_B.MAP_B).testBit b) ∧
    (∀ b < 32, x.retry = false → x.kind ≠ .takeOver → (w.bank h b).replied = false →
      (∀ k < 32, (w.bank h k).mute = false) → Completes (.replyDeadline t h) s (fun u =>
        (u.drv h).x = some { x with judged := true } ∧ (u.bank h b).inRetry = true ∧
        u.flag (R.DRV_STATUS.RETRY_SEEN h) = true))) ∧
  (∀ (h : Fin 2) (b : Fin 32) (cause mon want : Nat) (s : State), s.flag R.DRV_FAIL.FAILED = false → 0 < cause → cause < 8 →
    let u := bankFail h b cause mon want s
    u.flag R.DRV_FAIL.FAILED = true ∧ u.get R.DRV_FAIL.FAIL_HEAD = h ∧ u.get R.DRV_FAIL.FAIL_BANK = b ∧
    u.get R.DRV_FAIL.FAIL_CAUSE = cause ∧ (if h.val = 0 then u.get R.FAIL_MAP_A.MAP_A else u.get R.FAIL_MAP_B.MAP_B).testBit b ∧
    u.guardState = 4 ∧ (s.guardState ≠ 4 → u.permitted = false) ∧ (6, 32 * h.val + b.val) ∈ u.guard.latched) ∧
  (∀ (h : Fin 2) (b : Fin 32) (mon stat cap : Nat) (s : State),
    let r := s.replyCause h b mon stat cap
    ((s.bank h b).firedPrev = true → s.monOk h b mon = false → r = 2) ∧
    (((s.bank h b).firedPrev = false ∨ s.monOk h b mon = true) →
      (stat.testBit 0 = true → r = 3) ∧
      (stat.testBit 0 = false → stat.testBit 1 = true → r = 4) ∧
      (stat % 4 = 0 → cap ≠ s.get (R.BANK_CAP.CAP h b) → r = 5))) ∧
  (∀ (t mark ca : Nat) (h : Fin 2) (b : Fin 32) (cap : BitVec 32) (s : State), Ready s → let w := s.tick t
    let listens := (w.standby = true ∨ w.twState = 2) ∧ w.ownHeld = false ∧ w.drvEn h = true
    let word := if (w.bank h b).capSet then w.get (R.BANK_CAP.CAP h b) else cap.toNat
    let v := if (w.bank h b).capSet then w
      else (w.put (R.BANK_CAP.CAP h b) cap.toNat).modBank h b (fun k => { k with capSet := true })
    let sent := min (w.get (R.BANK_AMP.REQ h b)) (v.guardCap h b w.ns)
    (listens → Acts (.standbyCableListen t h b mark ca cap) s (cableUpdate h b
      ((w.now : Int) - ((mark : Int) - w.tofsFine) - ca - (512 * (word / 16 % 256) : Nat)
        - ((Config.frPath (32 * h + b) / 2 : Nat) : Int))
      (v.modBank h b (fun k => { k with heard := some ca, reqEff := sent })))) ∧
    (¬ listens → Acts (.standbyCableListen t h b mark ca cap) s w)) ∧
  (∀ (h : Fin 2) (b : Fin 32) (c : Int) (s : State), c < 0 ∨ 65535 < c → let u := cableUpdate h b c s
    u.get (R.BANK_CABLE.CABLE_DLY h b) = s.get (R.BANK_CABLE.CABLE_DLY h b) ∧ (u.bank h b).jumps = (s.bank h b).jumps ∧
    u.flag (R.DRV_STATUS.CABLE_JUMP h) = true) ∧
  (∀ (h : Fin 2) (b : Fin 32) (c : Nat) (s : State), c < 65536 → let u := cableUpdate h b c s
    let old := s.get (R.BANK_CABLE.CABLE_DLY h b)
    let thr := s.get (R.DRV_CABLE_CFG.CABLE_JUMP_THR h)
    (s.flag (R.BANK_CABLE.CABLE_VALID h b) = false →
      u.get (R.BANK_CABLE.CABLE_DLY h b) = c ∧ u.flag (R.BANK_CABLE.CABLE_VALID h b) = true) ∧
    (s.flag (R.BANK_CABLE.CABLE_VALID h b) = true →
      (old ≤ c → c - old ≤ thr → u.get (R.BANK_CABLE.CABLE_DLY h b) = old + (c - old) / 2 ^ s.get (R.DRV_CABLE_CFG.CABLE_SHIFT h)) ∧
      (c ≤ old → old - c ≤ thr → u.get (R.BANK_CABLE.CABLE_DLY h b) = old - (old - c) / 2 ^ s.get (R.DRV_CABLE_CFG.CABLE_SHIFT h)) ∧
      ((thr < c - old ∨ thr < old - c) → u.flag (R.DRV_STATUS.CABLE_JUMP h) = true ∧
        u.get (R.BANK_CABLE.CABLE_DLY h b) = if (s.bank h b).jumps = 2 then c else old)))


/-- R205 to R208; 11_twin.md R290. -/
def Obligations.GuardInputsAndStates : Prop :=
  (∀ (t : Nat) (n : Fin 4) (a b : Bool) (s : State), Ready s → let w := s.tick (t + 25600)
    Acts (.ginChange t n a b) s (ginChange n t a b w) ∧
    (w.ginUsed n = false → Acts (.ginChange t n a b) s (w.setGin n { w.ginp n with a := a, b := b })) ∧
    (w.ginUsed n = true → w.guardState = 2 → w.safe = false →
      (a = true → b = false → (w.ginp n).disFrom = none →
        (w.partnerValid = false ∨ w.guard.twinGin = none ∨
          ∀ l, w.guard.twinGin = some l → ∀ k < 4, w.ginUsed k = true →
            l.getD k (false, false) = if k = n.val then (a, b) else ((w.ginp k).a, (w.ginp k).b)) → Completes (.ginChange t n a b) s (fun u =>
        u.guardState = 2 ∧ u.permitted = w.permitted ∧ (u.get R.GUARD_STATUS.GIN_RUN).testBit n = true)) ∧
      ((a = false ∨ b = true) → Completes (.ginChange t n a b) s (fun u =>
        (u.guardState = 1 ∨ u.guardState = 4) ∧ u.permitted = false ∧
        (u.get R.GUARD_STATUS.GIN_RUN).testBit n = false ∧ (u.get R.GUARD_STATUS.GIN_DISAGREE).testBit n = (a == b))) ∧
      (a = b → ∀ d, (w.ginp n).disFrom = some d → d + 128000000 * w.ginDisc n + 128000 ≤ w.now →
        Completes (.ginChange t n a b) s (fun u => u.guardState = 4 ∧ (3, n.val) ∈ u.guard.latched)))) ∧
  (∀ (t : Nat) (n : Fin 4) (a b : Bool) (s : State), let w := s.tick (t + 25600)
    s.su.power ≠ .running → Acts (.ginChange t n a b) s (w.setGin n { w.ginp n with a := a, b := b })) ∧
  (∀ (t d : Nat) (n : Fin 4) (s : State), Ready s → let w := s.tick t
    w.ginUsed n = true → (w.ginp n).disFrom = some d → (w.ginp n).a = (w.ginp n).b →
    (d + 128000000 * w.ginDisc n + 128000 ≤ w.now → Acts (.ginDiscrepancyTimeout t n) s (guardLatch 3 n w)) ∧
    (w.now < d + 128000000 * w.ginDisc n + 128000 → Acts (.ginDiscrepancyTimeout t n) s w)) ∧
  (∀ (t : Nat) (n : Fin 4) (s : State), Ready s → let w := s.tick t
    (w.ginUsed n = false ∨ (w.ginp n).disFrom = none ∨ (w.ginp n).a ≠ (w.ginp n).b →
      Acts (.ginDiscrepancyTimeout t n) s w) ∧
    (w.ginUsed n = false ∨ (w.ginp n).disFrom = none ∨ (w.ginp n).agreeFrom = none → Acts (.ginAgreementEnd t n) s w)) ∧
  (∀ (t d g : Nat) (n : Fin 4) (s : State), Ready s → let w := s.tick t
    w.ginUsed n = true → (w.ginp n).disFrom = some d → (w.ginp n).agreeFrom = some g → g + 128000000 ≤ w.now →
    let v := w.setGin n { w.ginp n with disFrom := none, agreeFrom := none }
    Acts (.ginAgreementEnd t n) s
      (guardUnhold 2 n (v.put (R.GIN_DISC_LAST.LAST_US n) (min 16777215 ((g - d) / 128000))))) ∧
  (∀ (c d : Nat) (s : State), c < 16 → 0 < c → d < 256 → let u := guardLatch c d s
    (c, d) ∈ u.guard.latched ∧ (s.get R.GUARD_CAUSE.CAUSE = 0 → u.get R.GUARD_CAUSE.CAUSE = c ∧ u.get R.GUARD_CAUSE.DETAIL = d) ∧
    (s.get R.GUARD_CAUSE.CAUSE ≠ 0 → u.get R.GUARD_CAUSE.CAUSE = s.get R.GUARD_CAUSE.CAUSE) ∧
    u.guardState = 4 ∧ (s.guardState ≠ 4 → u.permitted = false ∧ u.ownHeld = false ∧
      u.get R.GUARD_TRIP_COUNT.TRIPS = min (2 ^ 32 - 1) (s.get R.GUARD_TRIP_COUNT.TRIPS + 1))) ∧
  (∀ (c d : Nat) (s : State), let u := guardHold c d s
    (c, d) ∈ u.guard.holds ∧ (s.guardState = 2 → u.guardState = 1 ∧ u.permitted = false) ∧
    (s.guardState ≠ 2 → u.guardState = s.guardState ∧ u.permitted = s.permitted)) ∧
  (∀ (c d : Nat) (s : State), let u := guardUnhold c d s
    (s.guardState = 1 → (∀ k ∈ s.guard.holds, k = (c, d)) →
      u.guardState = if s.guard.manual = false ∧ ∀ n ∈ s.guard.demanded, bit (s.get R.GIN_CFG_NOW.AUTO) n = true then 2 else 3) ∧
    (s.guardState = 1 → (∃ k ∈ s.guard.holds, k ≠ (c, d)) → u.guardState = 1) ∧
    (s.guardState ≠ 1 → u.guardState = s.guardState))

/-- R204, R208, R210, R211, R217, R219 to R221; 09_scanner_control.md R224. What a re-test finds is a free value (log 70). -/
def Obligations.GuardChannels : Prop :=
  (∀ (t : Nat) (h : Fin 2) (lim proc : Bool) (s : State), Ready s → let w := s.tick t; let x := w.proof h
    let pos := w.geti (R.ENC_POS.value h)
    let a := lim && decide (x.winEnd + 12800000 ≤ w.now); let b := proc && decide (x.procEnd + 12800000 ≤ w.now)
    let v := w.setProof h { x with
      edges := if a then 0 else x.edges, windows := if a then (x.edges :: x.windows).take 4 else x.windows,
      winEnd := if a then w.now else x.winEnd, pos := if b then pos else x.pos,
      procWindows := if b then ((sgn 32 (ofInt 32 (pos - x.pos))).natAbs :: x.procWindows).take 4 else x.procWindows,
      procEnd := if b then w.now else x.procEnd }
    let was := bit (w.get R.GUARD_STATUS.MOTION_OK) h
    (a = false → b = false → Acts (.motionWindowEnd t h lim proc) s w) ∧
    ((a || b) = true → v.proofOk h = was → Acts (.motionWindowEnd t h lim proc) s v) ∧
    ((a || b) = true → v.proofOk h ≠ was →
      let m := guardMs 4 h v.guardState (putBit R.GUARD_STATUS.MOTION_OK h (v.proofOk h) v)
      Acts (.motionWindowEnd t h lim proc) s
        (if v.proofOk h = false ∧ w.running h = true ∧ w.drvReady h = true then guardLatch 5 h m else m))) ∧
  (∀ (h : Fin 2) (s : State), let x := s.proof h; let g := s.guard.table
    s.proofOk h = true ↔ x.windows.length = 4 ∧ x.procWindows.length = 4 ∧
      (∀ c ∈ x.windows ++ x.procWindows, g.polyMin ≤ c) ∧
      (∃ i, x.lastIdx = some i ∧ s.now ≤ i + 128000 * (10 * g.polyIdxMax)) ∧
      g.elevSpan ≤ spanOf ((x.elev.filter (fun p => decide (s.ns ≤ p.1 + 1000000 * g.elevWin))).map Prod.snd)) ∧
  (∀ (s : State), let long := ∃ n < 4, ∃ d, s.guard.twinDiffer.get none n = some d ∧ d + 128000000 * s.ginDisc n < s.now
    (long → twinCheck s = guardLatch 9 1 s) ∧ (¬ long → twinCheck s = s)) ∧
  (∀ (t : Nat) (beat answer : Bool) (s : State), Ready s → let w := s.tick t; let g := w.guard
    let ml := if beat then 0 else min 4 (g.missLim + 1)
    let mp := if beat then (if answer then 0 else min 4 (g.missProc + 1)) else g.missProc
    let v := { w with guard := { g with missLim := ml, missProc := mp } }
    Acts (.guardHeartbeat t beat answer) s (twinCheck (if ml = 4 ∨ mp = 4 then guardLatch 12 0 v else v))) ∧
  (∀ (t fired : Nat) (h : Fin 2) (b : Fin 32) (s : State), Ready s → let w := s.tick t
    (∀ p ∈ w.guard.reports.get [] (32 * h + b), p.at_ ≠ fired) → Acts (.firedPulseReport t h b fired) s w) ∧
  (∀ (t : Nat) (h : Fin 2) (b : Fin 32) (p : Shot) (before rest : List Shot) (s : State), Ready s → let w := s.tick t
    w.guard.reports.get [] (32 * h + b) = before ++ p :: rest → (∀ q ∈ before, q.at_ ≠ p.at_) →
    let l := recent (w.guard.procShots.get [] (32 * h + b)) w.ns ++ [p]
    let v := { w with guard := { w.guard with procShots := w.guard.procShots.put [] (32 * h + b) l, reports := w.guard.reports.put [] (32 * h + b) (before ++ rest) } }
    let x := sums l (w.lineNs h) w.ns
    let m := w.budgets h b
    let over_ := 102 * m.1 < 100 * x.1 ∨ 102 * m.2.1 < 100 * x.2.1 ∨ 102 * m.2.2 < 100 * x.2.2
    (over_ → Acts (.firedPulseReport t h b p.at_) s (guardLatch 8 (32 * h + b) v)) ∧
    (¬ over_ → Acts (.firedPulseReport t h b p.at_) s v)) ∧
  (∀ (t : Nat) (s : State), Ready s → let w := s.tick t
    let long := ∃ d, w.guard.differFrom = some d ∧ d + 128000000 < w.now ∧
      w.flag R.GUARD_STATUS.LIM_PERMIT ≠ w.flag R.GUARD_STATUS.PROC_PERMIT
    (long → Acts (.channelDisagreeTimeout t) s (guardLatch 9 0 w)) ∧ (¬ long → Acts (.channelDisagreeTimeout t) s w)) ∧
  (∀ (t : Nat) (s : State), Ready s → let w := s.tick t
    (∀ v, v = w.putb R.GUARD_STATUS.EMEN_H_OUT (!w.flag R.GUARD_STATUS.LIM_PERMIT) →
      Acts (.emenReadbackFault t true) s (guardLatch 10 1 { v with guard := { v.guard with readH := false } })) ∧
    (∀ v, v = w.putb R.GUARD_STATUS.EMEN_P_OUT (!w.flag R.GUARD_STATUS.PROC_PERMIT) →
      Acts (.emenReadbackFault t false) s (guardLatch 10 0 { v with guard := { v.guard with readP := false } }))) ∧
  (∀ (t : Nat) (fault stuck : Bool) (runs : List (Bool × Bool)) (s : State), Ready s → let w := s.tick t
    (w.partnerValid = false → Acts (.twinGuardState t fault stuck runs) s w) ∧
    (w.partnerValid = true → w.safe = false →
      (fault = true → Completes (.twinGuardState t fault stuck runs) s (fun u => u.guardState = 4 ∧
        (9, 1) ∈ u.guard.latched ∧ u.flag R.TW_STATUS.PARTNER_NRST_STUCK = stuck)) ∧
      (fault = false → (∀ n < 4, w.guard.twinDiffer.get none n = none) →
        Completes (.twinGuardState t fault stuck runs) s (fun u => u.guardState = w.guardState ∧
          u.flag R.TW_STATUS.PARTNER_NRST_STUCK = stuck ∧
          ∀ n < 4, u.guard.twinDiffer.get none n =
            if w.ginUsed n = true ∧ runs.getD n (false, false) ≠ ((w.ginp n).a, (w.ginp n).b) then some w.now else none)))) ∧
  (∀ (t req : Nat) (s : State), Ready s → let w := s.tick t
    (∀ v, v.testBit 0 = false → w.mayWrite req R.GUARD_CTL.addr v = true) →
    let v := w.asked req R.GUARD_CTL.GUARD_RESTART 1
    let ok := w.guard.holds = [] ∧ ∀ n < 4, w.ginUsed n = true → (w.ginp n).run = true
    (w.guardState = 2 → Acts (.guardRestart t req) s v) ∧
    (w.guardState = 3 → ok → ∃ u, Acts (.guardRestart t req) s u ∧ u.guardState = 2 ∧ u.permitted = true ∧
      (w.guard.rampDue = true → ∀ h < 2, (u.drv h).up = some 0)) ∧
    (w.guardState ≠ 2 → ¬ (w.guardState = 3 ∧ ok) →
      Acts (.guardRestart t req) s (v.setFlag R.GUARD_STATUS.RESTART_REJ))) ∧
  (∀ (t req : Nat) (s : State), Ready s → let w := s.tick t
    (∀ v, v.testBit 1 = false → w.mayWrite req R.GUARD_CTL.addr v = true) →
    let r := guardRetest (w.asked req R.GUARD_CTL.GUARD_RESET 1)
    let gone := ∀ c ∈ w.guard.latched, r.causeGone c = true
    (w.guardState = 4 → gone → ∃ u, Acts (.guardReset t req) s u ∧ u.guardState = 3 ∧ u.permitted = false ∧
      u.guard.latched = [] ∧ u.guard.limShots = [] ∧ u.guard.procShots = [] ∧ u.guard.reports = [] ∧ u.guard.rampDue = true ∧
      u.get R.GUARD_CAUSE.CAUSE = 0 ∧ u.reg R.DRV_FAIL.addr = 0 ∧ u.get R.FAIL_MAP_A.MAP_A = 0 ∧ u.get R.FAIL_MAP_B.MAP_B = 0) ∧
    (¬ (w.guardState = 4 ∧ gone) → Acts (.guardReset t req) s (r.setFlag R.GUARD_STATUS.GRST_REJ))) ∧
  (∀ (s : State), let u := guardRetest s
    (s.guardState ≠ 4 → u = s) ∧ u = { s with regs := u.regs, guard := u.guard, fresh := u.fresh } ∧
    RegsBut [R.GUARD_STATUS.EMEN_P_OUT.addr] s u ∧ u.guardState = s.guardState ∧ u.guard.latched = s.guard.latched ∧
    (s.guard.readP = true → u.guard.readP = true) ∧ (s.guard.readH = true → u.guard.readH = true) ∧
    ((∀ c ∈ s.guard.latched, c.1 ≠ 8 ∧ c.1 ≠ 9 ∧ c.1 ≠ 12) → u.guard.selfTest = s.guard.selfTest)) ∧
  (∀ (d : Nat) (s : State),
    (s.causeGone (3, d) = true ↔ ∀ n < 4, s.ginUsed n = true → (s.ginp n).a ≠ (s.ginp n).b) ∧
    (s.causeGone (5, d) = true ↔ bit (s.get R.GUARD_STATUS.MOTION_OK) d = true ∨ s.running d = false) ∧
    s.causeGone (6, d) = true ∧ s.causeGone (10, d) = (if d = 1 then s.guard.readH else s.guard.readP) ∧
    s.causeGone (8, d) = s.guard.selfTest ∧ s.causeGone (9, d) = s.guard.selfTest ∧ s.causeGone (12, d) = s.guard.selfTest)


/-- R225, R227, R229, R232, R238. The sign of a step for A leading B is the model's own choice (log 55); this states
only that it is one step, turned by DIR. -/
def Obligations.LoopsSampled : Prop :=
  (∀ (t inst : Nat) (n : Fin 8) (s : State), Ready s → let w := s.tick t
    w.sampleInst n = some inst →
    (∃ k, inst = 128 * (k * 10000 * (w.get (R.LOOP_CTL.SAMPLE_DIV n) + 1) + 1000 * n)) ∧ inst ≤ w.now ∧
    w.now < inst + 1280000 * (w.get (R.LOOP_CTL.SAMPLE_DIV n) + 1) ∧
    ((w.loop n).sampled ≤ inst →
      Acts (.loopSample t n) s (capMotion n (inst / 128) (traceSample n (loopSampleAt n inst w)))) ∧
    (inst < (w.loop n).sampled → Acts (.loopSample t n) s w)) ∧
  (∀ (t : Nat) (n : Fin 8) (s : State), Ready s → let w := s.tick t
    (w.sampleInst n = none ↔ w.ns < 1000 * n) ∧ (w.sampleInst n = none → Acts (.loopSample t n) s w)) ∧
  (∀ x : Int, -(2 ^ 63) ≤ x → x < 2 ^ 63 → wrap64 x = x ∧ sra16 x = x / 65536) ∧
  (∀ (n m : Fin 8) (inst : Nat) (y : Int) (s : State), s.loopMode n = 3 → s.loopEnc n = some m.val → (s.loop n).blend = none →
    s.get (R.FOLLOW_MAX.value n) = 0 → let x := s.loop n
    let c := s.get (R.LOOP_STATUS.COEF_NOW n)
    let r := sra16 x.gen.v
    let lim : Int := (s.get (R.I_LIM.value n c) : Int) * 65536
    let cut := fun v => clampInt (-lim) lim v
    let p := wrap64 (s.geti (R.KP.value n c) * (r - y))
    let d := wrap64 (s.geti (R.KD.value n c) * (x.yPrev - y))
    let f := wrap64 (s.geti (R.KF.value n c) * sra16 x.gen.r)
    let i := cut (wrap64 (x.i + s.geti (R.KI.value n c) * (r - y)))
    let raw := sra16 (p + i + d + f) + s.rcTerm n
    let u := clampInt (s.geti (R.U_LIM.U_MIN n c)) (s.geti (R.U_LIM.U_MAX n c)) raw
    let v := loopLaw n inst y false false s
    v.geti (R.OUTPUT.U n) = u ∧ v.flag (R.LOOP_STATUS.SAT n) = decide (u ≠ raw) ∧
    (v.loop n).i = (if u = raw then i else cut (wrap64 (i - (raw - u) * 65536))) ∧ (v.loop n).yPrev = y ∧ (v.loop n).uLast = u ∧
    (v.loop n).e = r - y ∧ (v.loop n).cmds = x.cmds ++ [(some u, inst + 1280000)]) ∧
  (∀ (t at_ : Nat) (n : Fin 8) (late : Bool) (u : Option Int) (rest : List (Option Int × Nat)) (s : State), Ready s →
    let w := s.tick t
    (w.loop n).cmds = (u, at_) :: rest → let x := w.loop n
    (w.now < at_ → Acts (.commandApply t n late) s w) ∧
    (at_ ≤ w.now → late = true ∨ u = none →
      Acts (.commandApply t n late) s ((w.setLoop n { x with cmds := rest }).bumpSat (R.LATE_COUNT.LATE n))) ∧
    (∀ v, u = some v → at_ ≤ w.now → late = false →
      Acts (.commandApply t n late) s (w.setLoop n { x with cmds := rest, out := v, outAt := at_, outs := ((x.out, x.outAt) :: x.outs).take 8 }))) ∧
  (∀ (t : Nat) (n : Fin 8) (late : Bool) (s : State), Ready s → let w := s.tick t
    (w.loop n).cmds = [] → Acts (.commandApply t n late) s w) ∧
  (∀ (t : Nat) (m : Fin 4) (a b : Bool) (s : State), Ready s → let w := s.tick t
    ((w.enc m).a ≠ a → (w.enc m).b ≠ b → Completes (.encEdge t m a b) s (fun u =>
      u = { w with regs := u.regs, motion := u.motion } ∧ u.flag (R.ENC_STATUS.QUAD_ERR m) = true ∧
      u.get (R.ENC_STATUS.QUAD_ERR_COUNT m) = min 65535 (w.get (R.ENC_STATUS.QUAD_ERR_COUNT m) + 1) ∧
      RegsBut [(R.ENC_STATUS.QUAD_ERR m).addr] w u)) ∧
    (((w.enc m).a ≠ a ∧ (w.enc m).b = b ∨ (w.enc m).a = a ∧ (w.enc m).b ≠ b) → ∃ d, quadStep (w.enc m).a (w.enc m).b a b = some d ∧
      (d = 1 ∨ d = -1) ∧ Completes (.encEdge t m a b) s (fun u =>
        u = { w with regs := u.regs, motion := u.motion, guard := u.guard } ∧ RegsBut [(R.ENC_POS.value m).addr] w u ∧
        (m < 2 → (u.proof m).edges = (w.proof m).edges + 1) ∧ (2 ≤ m → u.guard = w.guard) ∧
        u.get (R.ENC_POS.value m) = ofInt 32 (w.geti (R.ENC_POS.value m) + (if w.flag (R.ENC_CFG.DIR m) then -d else d)) ∧
        (u.enc m).last = some w.now)) ∧
    ((w.enc m).a = a → (w.enc m).b = b → Acts (.encEdge t m a b) s w)) ∧
  (∀ (t : Nat) (m : Fin 4) (rise : Bool) (s : State), Ready s → let w := s.tick t
    (w.flag (R.ENC_CFG.IDX_POL m) = rise → Acts (.encIndex t m rise) s w) ∧
    (w.flag (R.ENC_CFG.IDX_POL m) = !rise → w.flag (R.ENC_STATUS.IDX_ERR m) = false →
      let cpr := w.get (R.ENC_CFG.CPR m)
      let d := (sgn 32 (ofInt 32 (w.geti (R.ENC_POS.value m) - w.geti (R.ENC_IDX_POS.IDX_POS m)))).natAbs
      Completes (.encIndex t m rise) s (fun u => u = { w with regs := u.regs, motion := u.motion, guard := u.guard } ∧
        u.get (R.ENC_IDX_POS.IDX_POS m) = w.get (R.ENC_POS.value m) ∧
        u.flag (R.ENC_STATUS.IDX_ERR m) =
          ((w.enc m).idxSeen && decide (cpr ≠ 0) && decide (cpr + 4 < d ∨ d + 4 < cpr)) ∧
        (m < 2 → (u.proof m).lastIdx = some w.now)))) ∧
  (∀ (t : Nat) (n : Fin 8) (code : Fin 4096) (s : State), Ready s → let w := s.tick t
    let i := w.get (R.LOOP_CTL.FB_AUX n)
    (w.loopConverts n = true → let v := w.modLoop n (fun x => { x with conv := code, convNew := true })
      let x := if n = 1 then elevRead 0 code v else if n = 3 then elevRead 1 code v else v
      Acts (.loopConversion t n code) s (capValue 2 i x.ns (x.adcCode i code) x)) ∧
    (w.loopConverts n = false → Acts (.loopConversion t n code) s w))

/-- R234, R237, R243, R245; 15_thermal_calibration.md R353; 17_startup_faults.md R399. -/
def Obligations.MovesTracesAndParks : Prop :=
  (∀ (t req : Nat) (n : Fin 8) (val : BitVec 32) (s : State), Ready s → let w := s.tick t
    Admits w req (R.SETPOINT.addr n) →
    let ok := (w.loopMode n = 1 ∨ w.loopMode n = 2 ∨ w.loopMode n = 3) ∧ w.flag R.MC_STATUS.PARK_REQ = false
    (ok → Acts (.setpointWrite t req n val) s ((w.put (R.SETPOINT.value n) val.toNat).modLoop n
      (fun x => { x with req := some { target := val.toInt, profile := 0, direct := true } }))) ∧
    (¬ ok → Acts (.setpointWrite t req n val) s (w.setFlag (R.LOOP_STATUS.SP_REJ n)))) ∧
  (∀ (t req : Nat) (n : Fin 8) (s : State), Ready s → let w := s.tick t
    let a := w.asked req (R.LOOP_CTL.RC_CLEAR n) 1
    Admits w req (R.LOOP_CTL.addr n) →
    a.reg (R.LOOP_CTL.addr n) = w.reg (R.LOOP_CTL.addr n) ∨ a.tooManyConversions = false →
    Acts (.rcClear t req n) s (rcClear n (a.modLoop n (fun x => { x with modeReq := true })))) ∧
  (∀ (n : Fin 8) (s : State), let u := rcClear n s
    (∀ b, u.rcEntry n b = 0) ∧ u = { s with mem := u.mem } ∧
    ∀ a, ¬ (rcBase + 0x4000 * n ≤ a ∧ a < rcBase + 0x4000 * n + 0x4000) → u.byte a = s.byte a) ∧
  (∀ (t req : Nat) (s : State), Ready s → let w := s.tick t; Admits w req R.TR_CTL.addr →
    Acts (.trStart t req) s (traceStart (w.asked req R.TR_CTL.TR_START 1)) ∧
    Acts (.trStop t req) s (traceStop (w.asked req R.TR_CTL.TR_STOP 1))) ∧
  (∀ s : State, let u := traceStart s; let v := traceStop s
    u.flag R.TR_STATUS.TR_RUN = true ∧ u.flag R.TR_STATUS.TR_DONE = false ∧ u.flag R.TR_STATUS.TR_TRIGGERED = false ∧
    u.get R.TR_WPTR.value = 0 ∧ u.motion.trace = {} ∧ v.flag R.TR_STATUS.TR_RUN = false ∧
    (s.flag R.TR_STATUS.TR_RUN = true → s.flag R.TR_STATUS.TR_TRIGGERED = false → s.get R.TR_CTL.TR_TRIG = 0 →
      v.flag R.TR_STATUS.TR_TRIGGERED = true ∧ v.get R.TR_STATUS.TR_TRIG_IDX = s.get R.TR_WPTR.value)) ∧
  (∀ (t at_ : Nat) (x : OrderlyStop) (s : State), Ready s → let w := s.tick t
    (w.therm.stop = some x → x.parkAt = none → x.at_ + 200000 ≤ w.ns →
      let v := if x.twin then endOps w else parkAll (endOps w)
      Acts (.parkRequest t) s
        { v with therm := { v.therm with stop := some { x with parkAt := some v.ns, parked := x.twin } } }) ∧
    (w.therm.stop = some x → x.parkAt ≠ none ∨ w.ns < x.at_ + 200000 → Acts (.parkRequest t) s w) ∧
    (w.therm.stop = none → w.su.safeAt = some at_ → w.flag R.MC_STATUS.PARK_REQ = false → at_ + 25600000 ≤ w.now →
      Acts (.parkRequest t) s (parkAll (endOps w))) ∧
    (w.therm.stop = none → w.su.safeAt = none ∨ w.flag R.MC_STATUS.PARK_REQ = true → Acts (.parkRequest t) s w)) ∧
  (∀ (n : Fin 8) (s : State), let u := parkLoop n s
    (s.loopRuns n = false ∨ s.get (R.LOOP_STATUS.FAULT_CAUSE n) ≠ 0 → u.flag (R.LOOP_STATUS.PARKED n) = true) ∧
    (s.loopRuns n = true → s.get (R.LOOP_STATUS.FAULT_CAUSE n) = 0 →
      (s.get (R.AMAX.value n 15) = 0 ∨ s.get (R.JMAX.value n 15) = 0 → u.loopRuns n = false ∧
        u.flag (R.LOOP_STATUS.PARKED n) = true) ∧
      (s.get (R.AMAX.value n 15) ≠ 0 → s.get (R.JMAX.value n 15) ≠ 0 →
        (u.loop n).req = some { target := s.geti (R.TARGET.value n 15), profile := 15 } ∧
        u.flag (R.LOOP_STATUS.PARKED n) = s.flag (R.LOOP_STATUS.PARKED n)))) ∧
  (∀ (t p : Nat) (x : OrderlyStop) (s : State), Ready s → let w := s.tick t
    let over_ := fun (b : Nat) => b + 1000000 * w.get R.THERM_CFG.PARK_MAX ≤ w.ns
    (w.therm.stop = some x → x.parkAt = some p →
      (w.allParked = true ∨ over_ p → Acts (.parkEnd t) s { w with therm := { w.therm with stop := some { x with parked := true } } }) ∧
      (¬ (w.allParked = true ∨ over_ p) → Acts (.parkEnd t) s w)) ∧
    (w.therm.stop = none → w.su.safeAt = some p → w.flag R.MC_STATUS.PARK_REQ = true → (w.stream 1).closed = false →
      (w.allParked = true ∨ over_ (p / 128 + 200000)) →
      Acts (.parkEnd t) s (closeStream 1 (forAll [2, 3, 4, 5, 6] closeStream w)))) ∧
  (∀ (k : Fin 8) (s : State), ((closeStream k s).stream k).closed = true)


/-- R250, R251. -/
def Obligations.LineCodingAgrees : Prop :=
  (∀ (c : Coder) (l : List Bool), c.run < 30 → unstuff c (stuff c l).1 = (l, 0, (stuff c l).2)) ∧
  (∀ (c : Coder) (l a z : List Bool) (b : Bool), c.run < 30 → (stuff c l).1 ≠ a ++ List.replicate 32 b ++ z) ∧
  (∀ (st : BitVec 58) (l : List Bool), descramble st (scramble st l).1 = (l, (scramble st l).2)) ∧
  (∀ (st other : BitVec 58) (l : List Bool), (descramble other (scramble st l).1).1.drop 58 = l.drop 58)

/-- R252, R257, R258, R264, R273. -/
def Obligations.LanesBroughtUp : Prop :=
  (∀ (t req : Nat) (l : Fin 16) (s : State), Ready s → let w := s.tick t
    Admits w req (R.LANE_CTL.addr l) →
    (w.flag (R.LANE_CTL.LANE_EN l) = false → Completes (.laneEnable t req l true) s (fun u =>
      u.flag (R.LANE_CTL.LANE_EN l) = true ∧
      u.get (R.LANE_STATUS.LSTATE l) = (if w.get (R.LANE_CTL.LANE_MODE l) = 1 then 5 else 1) ∧
      (u.lane l).lseq = 0 ∧ (u.lane l).rxLseq = 0 ∧ (u.lane l).unacked = [] ∧ (u.lane l).since = w.now ∧
      ∀ q ∈ (w.lane l).unacked, { q.2 with retx := true } ∈ (u.stream q.2.stream).egress)) ∧
    (w.flag (R.LANE_CTL.LANE_EN l) = true → Completes (.laneEnable t req l false) s (fun u =>
      u.flag (R.LANE_CTL.LANE_EN l) = false ∧ u.get (R.LANE_STATUS.LSTATE l) = 0 ∧ (u.lane l).unacked = [] ∧
      ∀ q ∈ (w.lane l).unacked, { q.2 with retx := true } ∈ (u.stream q.2.stream).egress))) ∧
  (∀ (t : Nat) (l : Fin 16) (bits : List Bool) (s : State), Ready s → let w := s.tick t
    (w.rxAwake l = false → Acts (.blockReceive t l bits) s w) ∧
    (w.rxAwake l = true → let x := w.lane l
      let z := unstuff x.rx bits
      let v := w.setLane l { x with rx := { z.2.2 with scr := x.rx.scr }, rxBits := x.rxBits ++ z.1 }
      Acts (.blockReceive t l bits) s (takeBlocks (x.rxBits ++ z.1).length l (if z.2.1 = 0 then v
        else (v.addSat (R.STUFF_ERR_COUNT.STUFF_ERRS l) z.2.1).setFlag (R.LANE_STATUS.STUFF_ERR l)))) ∧
    (w.rxAwake l = true → ((w.lane l).rxBits ++ (unstuff (w.lane l).rx bits).1).length < 258 →
      Completes (.blockReceive t l bits) s (fun u =>
        (u.lane l).rxBits = (w.lane l).rxBits ++ (unstuff (w.lane l).rx bits).1 ∧ u = { w with regs := u.regs, trk := u.trk } ∧
        RegsBut [(R.STUFF_ERR_COUNT.STUFF_ERRS l).addr, (R.LANE_STATUS.STUFF_ERR l).addr] w u))) ∧
  (∀ (l : Fin 16) (a b : Bool) (p rest : List Bool) (s : State), (s.lane l).rxBits = a :: b :: (p ++ rest) → p.length = 256 →
    a ≠ b → s.flag (R.LANE_STATUS.BLOCK_LOCK l) = false → s.get (R.LANE_STATUS.LSTATE l) = 1 →
    ((s.lane l).hdrs.length = 63 → (∀ h ∈ (s.lane l).hdrs, h = true) → let u := takeBlock l s
      u.flag (R.LANE_STATUS.BLOCK_LOCK l) = true ∧ u.get (R.LANE_STATUS.LSTATE l) = 2 ∧
      (u.lane l).rxBlock = some (a, bitsNat (descramble (s.lane l).rx.scr p).1) ∧ (u.lane l).rxBits = rest) ∧
    ((s.lane l).hdrs.length < 63 → (takeBlock l s).flag (R.LANE_STATUS.BLOCK_LOCK l) = false)) ∧
  (∀ (l : Fin 16) (a : Bool) (p : List Bool) (s : State), (s.lane l).rxBits = a :: a :: p →
    s.flag (R.LANE_STATUS.BLOCK_LOCK l) = false → let u := takeBlock l s
    (u.lane l).rxBits = a :: p ∧ (u.lane l).hdrs = (false :: (s.lane l).hdrs).take 64 ∧
    u.get (R.HDR_ERR_COUNT.HDR_ERRS l) = min (2 ^ 32 - 1) (s.get (R.HDR_ERR_COUNT.HDR_ERRS l) + 1)) ∧
  (∀ (n : Nat) (l : Fin 16) (s : State),
    takeBlocks (n + 1) l s = if 258 ≤ (s.lane l).rxBits.length then takeBlocks n l (takeBlock l s) else s) ∧
  (∀ (t : Nat) (l : Fin 16) (s : State), Ready s → let w := s.tick t
    (w.get (R.LANE_STATUS.LSTATE l) = 2 → Acts (.capSend t l) s (w.modLane l (fun x => { x with capDue := true }))) ∧
    (w.get (R.LANE_STATUS.LSTATE l) ≠ 2 → Acts (.capSend t l) s w)) ∧
  (∀ (t cap : Nat) (l : Fin 16) (s : State), Ready s → let w := s.tick t
    let y := w.port (w.lanePort l)
    let other := w.linkUp (w.lanePort l) = true ∧ (cap / 2 ^ 64 % 2 ^ 64 ≠ y.id ∨
      w.lanePort l < 2 ∧ (cap / 2 ^ 48 % 2 ^ 16 ≠ y.win ∨ cap / 2 ^ 128 % 2 ^ 16 ≠ y.credit))
    (w.get (R.LANE_STATUS.LSTATE l) ≠ 2 → Acts (.capReceive t l cap) s
      (if w.laneUp l = true ∧ capValid l cap = false then w.setFlag R.TRK_STATUS.CAP_MISMATCH else w)) ∧
    (w.get (R.LANE_STATUS.LSTATE l) = 2 →
      (capValid l cap = false ∨ other → Acts (.capReceive t l cap) s (w.setFlag R.TRK_STATUS.CAP_MISMATCH)) ∧
      (capValid l cap = true → ¬ other →
        (cap.testBit 17 = true → Completes (.capReceive t l cap) s (fun u => u.laneUp l = true ∧
          (u.lane l).lseq = 0 ∧ (u.lane l).rxLseq = 0 ∧ (u.lane l).gotCap = true ∧
          (u.port (w.lanePort l)).id = cap / 2 ^ 64 % 2 ^ 64 ∧ (w.linkUp (w.lanePort l) = false →
            (u.port (w.lanePort l)).win = if l.val < 12 then cap / 2 ^ 48 % 2 ^ 16 else 64))) ∧
        (cap.testBit 17 = false → Completes (.capReceive t l cap) s (fun u =>
          u.get (R.LANE_STATUS.LSTATE l) = 2 ∧ (u.lane l).gotCap = true ∧ u = { w with regs := u.regs, trk := u.trk }))))) ∧
  (∀ (l : Fin 16) (cap : Nat), capValid l cap = (decide (cap / 2 ^ 8 % 256 = 1) &&
    (if l.val < 12 then cap.testBit 16 && decide (1 ≤ cap / 2 ^ 48 % 2 ^ 16 ∧ cap / 2 ^ 48 % 2 ^ 16 ≤ 64)
      else !cap.testBit 16 && decide (cap / 2 ^ 48 % 2 ^ 16 = 0)))) ∧
  (∀ (t : Nat) (l : Fin 16) (s : State), Ready s → let w := s.tick t; let b := (w.lane l).since
    let late := w.get (R.LANE_STATUS.LSTATE l) = 1 ∧ b + 128000000 ≤ w.now ∨
      w.get (R.LANE_STATUS.LSTATE l) = 2 ∧ b + 1280000000 ≤ w.now
    (late → Acts (.capTimeout t l) s (laneStart l (w.bumpSat (R.CAP_TIMEOUT_COUNT.CAP_TIMEOUTS l)))) ∧
    (¬ late → Acts (.capTimeout t l) s w)) ∧
  (∀ (l : Fin 16) (s : State), let u := laneFail l s
    u.flag (R.LANE_STATUS.LANE_FAILED l) = true ∧ u.get (R.LANE_STATUS.LSTATE l) = 4 ∧ (u.lane l).unacked = [] ∧
    (u.lane l).failedAt = some s.now ∧ ∀ q ∈ (s.lane l).unacked, { q.2 with retx := true } ∈ (u.stream q.2.stream).egress) ∧
  (∀ (t f : Nat) (l : Fin 16) (s : State), Ready s → let w := s.tick t
    (w.lane l).failedAt = some f → w.get (R.LANE_STATUS.LSTATE l) = 4 →
    (f + 128000000 ≤ w.now → Acts (.laneRestart t l) s (laneStart l w)) ∧
    (w.now < f + 128000000 → Acts (.laneRestart t l) s w)) ∧
  (∀ (t : Nat) (l : Fin 16) (s : State), Ready s → let w := s.tick t
    ((w.lane l).failedAt = none ∨ w.get (R.LANE_STATUS.LSTATE l) ≠ 4 → Acts (.laneRestart t l) s w) ∧
    ((w.lane l).signalAt = none ∨ w.laneUp l = false ∨ w.flag (R.LANE_STATUS.BLOCK_LOCK l) = true →
      Acts (.rxWakeLockTimeout t l) s w)) ∧
  (∀ (t f : Nat) (l : Fin 16) (s : State), Ready s → let w := s.tick t
    (w.lane l).signalAt = some f → w.laneUp l = true → w.flag (R.LANE_STATUS.BLOCK_LOCK l) = false →
    (f + 128000000 ≤ w.now → Acts (.rxWakeLockTimeout t l) s (laneStart l w)) ∧
    (w.now < f + 128000000 → Acts (.rxWakeLockTimeout t l) s w))

/-- R253, R272 to R275. -/
def Obligations.LanesSleepAndAreTested : Prop :=
  (∀ (t : Nat) (l : Fin 16) (deep : Bool) (s : State), Ready s → let w := s.tick t
    (w.laneUp l = true → Completes (.sleepReceive t l deep) s (fun u => u = { w with regs := u.regs, trk := u.trk } ∧
      u.get (R.LANE_STATUS.RX_PWR l) = (if deep = true ∧ w.flag (R.LANE_CTL.DEEP_EN l) = true then 2 else 1) ∧
      u.flag (R.LANE_STATUS.BLOCK_LOCK l) = false ∧ RegsBut [(R.LANE_STATUS.RX_PWR l).addr] w u)) ∧
    (w.laneUp l = false → Acts (.sleepReceive t l deep) s w)) ∧
  (∀ (t : Nat) (l : Fin 16) (s : State), Ready s → let w := s.tick t; w.laneUp l = true →
    (w.get (R.LANE_STATUS.RX_PWR l) ≠ 0 → Completes (.rxSignalDetect t l) s (fun u =>
      u = { w with regs := u.regs, trk := u.trk } ∧ u.get (R.LANE_STATUS.RX_PWR l) = 0 ∧ (u.lane l).signalAt = some w.now)) ∧
    (w.get (R.LANE_STATUS.RX_PWR l) = 0 → Acts (.rxSignalDetect t l) s w)) ∧
  (∀ (t : Nat) (l : Fin 16) (s : State), Ready s → let w := s.tick t; let x := w.lane l
    let others := (w.linkLanes (w.lanePort l)).filter (fun k => decide (k ≠ l.val) && decide (w.get (R.LANE_STATUS.TX_PWR k) = 0))
    let may := w.laneUp l = true ∧ w.flag (R.LANE_CTL.TX_SLEEP_EN l) = true ∧ w.get (R.LANE_STATUS.TX_PWR l) = 0 ∧
      x.busyAt + 128000 * w.get (R.TRK_SLEEP.TX_SLEEP_IDLE) ≤ w.now ∧ x.sending = [] ∧ x.unacked = [] ∧
      max 1 (w.get R.TRK_SLEEP.AWAKE_MIN) ≤ others.length
    let deep := w.flag (R.LANE_CTL.DEEP_EN l) && x.partnerDeep
    let c := encodeBlock x.tx true (0x38 + 2 ^ 8 * b2n deep)
    (may → Acts (.txSleepEnter t l) s ((putLine l c.1 (w.modLane l (fun x => { x with tx := c.2 }))).put (R.LANE_STATUS.TX_PWR l)
      (if deep then 2 else 1))) ∧
    (¬ may → Acts (.txSleepEnter t l) s w)) ∧
  (∀ (t : Nat) (l : Fin 16) (s : State), Ready s → let w := s.tick t
    let wake := w.laneUp l = true ∧ w.get (R.LANE_STATUS.TX_PWR l) ≠ 0 ∧ w.get R.TRK_WAKE.WAKE_BYTES < w.readyBytes (w.lanePort l)
    (wake → Acts (.txWake t l) s ((w.put (R.LANE_STATUS.TX_PWR l) 0).modLane l
      (fun x => { x with holdUntil := some (w.now + 12800000), busyAt := w.now }))) ∧
    (¬ wake → Acts (.txWake t l) s w)) ∧
  (∀ (t u : Nat) (l : Fin 16) (s : State), Ready s → let w := s.tick t; (w.lane l).holdUntil = some u →
    (u ≤ w.now → Acts (.wakeResume t l) s (w.modLane l (fun x => { x with holdUntil := none }))) ∧
    (w.now < u → Acts (.wakeResume t l) s w)) ∧
  (∀ (t ctype : Nat) (l : Fin 16) (s : State), Ready s → let w := s.tick t
    let known := ctype = 0 ∨ ctype = 0x10 ∨ ctype = 0x20 ∨ ctype = 0x30 ∨ ctype = 0x38 ∨ ctype = 0x50 ∨
      12 ≤ l.val ∧ (ctype = 0x60 ∨ ctype = 0x61)
    (known → Acts (.controlBlockUnknown t l ctype) s w) ∧
    (¬ known → Acts (.controlBlockUnknown t l ctype) s (w.bumpSat R.CTYPE_UNKNOWN_COUNT.UNKNOWN))) ∧
  (∀ (t : Nat) (l : Fin 16) (b : Bool) (s : State), Ready s → let w := s.tick t; let x := w.lane l
    let sel := w.get (R.LANE_CTL.PRBS_SEL l)
    w.get (R.LANE_STATUS.LSTATE l) = 5 → w.flag (R.LANE_STATUS.PRBS_LOCK l) = true → (prbsPoly sel).1 ≤ x.prbsSeed →
    Completes (.prbsBitCheck t l b) s (fun u => u = { w with regs := u.regs, trk := u.trk } ∧
      (u.lane l).prbsBits = (x.prbsBits + 1) % 2 ^ 64 ∧
      u.get (R.PRBS_ERR_COUNT.PRBS_ERRS l) = (if b = prbsNext sel x.prbs then w.get (R.PRBS_ERR_COUNT.PRBS_ERRS l)
        else min (2 ^ 32 - 1) (w.get (R.PRBS_ERR_COUNT.PRBS_ERRS l) + 1)) ∧
      u.flag (R.LANE_STATUS.PRBS_LOCK l) = decide ((((if b = prbsNext sel x.prbs then [] else [x.prbsSeen + 1]) ++
        x.prbsErrs).filter (fun e => decide (x.prbsSeen + 1 < e + 1024))).length < 64))) ∧
  (∀ (t : Nat) (l : Fin 16) (b : Bool) (s : State), Ready s → let w := s.tick t; let x := w.lane l
    let sel := w.get (R.LANE_CTL.PRBS_SEL l)
    (w.get (R.LANE_STATUS.LSTATE l) ≠ 5 → Acts (.prbsBitCheck t l b) s w) ∧
    (w.get (R.LANE_STATUS.LSTATE l) = 5 → x.prbsSeed < (prbsPoly sel).1 →
      Acts (.prbsBitCheck t l b) s (w.setLane l { x with prbs := prbsShift x.prbs b, prbsSeed := x.prbsSeed + 1 })) ∧
    (w.get (R.LANE_STATUS.LSTATE l) = 5 → (prbsPoly sel).1 ≤ x.prbsSeed → w.flag (R.LANE_STATUS.PRBS_LOCK l) = false →
      Completes (.prbsBitCheck t l b) s (fun u =>
        u.flag (R.LANE_STATUS.PRBS_LOCK l) = decide (b = prbsNext sel x.prbs ∧ 63 ≤ x.prbsGood) ∧
        (b ≠ prbsNext sel x.prbs → (u.lane l).prbsSeed = 0)))) ∧
  (∀ (t req : Nat) (l : Fin 16) (s : State), Ready s → let w := s.tick t
    Acts (.prbsBitsCapture t req l) s (w.put (R.PRBS_BITS_HI.BITS_HI l) ((w.lane l).prbsBits / 2 ^ 32))) ∧
  (∀ (t req : Nat) (l : Fin 16) (s : State), Ready s → let w := s.tick t; let x := w.lane l
    Admits w req (R.LANE_CTL.addr l) → let only := fun (u : State) => u = { w with regs := u.regs, trk := u.trk }
    Completes (.chkClear t req l) s (fun u => only u ∧ u.get (R.PRBS_ERR_COUNT.PRBS_ERRS l) = 0 ∧
      u.get (R.PRBS_BITS_LO.BITS_LO l) = 0 ∧ (u.lane l).prbsBits = 0 ∧
      RegsBut [R.LANE_CTL.addr l, (R.PRBS_ERR_COUNT.PRBS_ERRS l).addr, (R.PRBS_BITS_LO.BITS_LO l).addr] w u) ∧
    Completes (.injBit t req l) s (fun u => only u ∧ (u.lane l).injBits = max x.injBits 1 ∧ RegsBut [R.LANE_CTL.addr l] w u) ∧
    Completes (.injBurst t req l) s (fun u => only u ∧ RegsBut [R.LANE_CTL.addr l] w u ∧
      (u.lane l).injBits = max x.injBits (max 1 (w.get (R.LANE_CTL.BURST_LEN l)))) ∧
    Completes (.injCrc t req l) s (fun u => only u ∧ RegsBut [R.LANE_CTL.addr l] w u ∧
      (u.lane l).injCrc = (x.injCrc || (!x.injNext && decide (w.get (R.LANE_CTL.LANE_MODE l) = 0)))))


/-- R254, R261 to R264, R267 to R271, R274, R275. -/
def Obligations.ParcelsCarried : Prop :=
  (∀ (x : Lane) (v : Nat),
    (v % 256 = 0x50 → x.asm = none → 0 < v / 2 ^ 16 % 2 ^ 14 → x.assemble true v = { x with asm := some (v, []) }) ∧
    (∀ hd bs, x.asm = some (hd, bs) → let need := (hd / 2 ^ 16 % 2 ^ 14 + 31) / 32
      (bs.length + 1 < need → x.assemble false v = { x with asm := some (hd, bs ++ [v]) }) ∧
      (need ≤ bs.length + 1 → x.assemble false v = { x with asm := none, rxParcels := x.rxParcels ++ [(hd, bs ++ [v])] }) ∧
      (v % 256 = 0x50 → 0 < v / 2 ^ 16 % 2 ^ 14 →
        x.assemble true v = { x with asm := some (v, []), rxParcels := x.rxParcels ++ [(hd, bs)] }))) ∧
  (∀ (t hd : Nat) (bs : List Nat) (l : Fin 16) (s : State), Ready s → let w := s.tick t
    w.laneUp l = false ∨ (w.lane l).rxParcels.head? ≠ some (hd, bs) → Acts (.parcelReceive t l hd bs) s w) ∧
  (∀ (t hd : Nat) (bs : List Nat) (rest : List (Nat × List Nat)) (l : Fin 16) (s : State), Ready s →
    let w := s.tick t; let x := w.lane l
    w.laneUp l = true → x.rxParcels = (hd, bs) :: rest →
    let v := w.setLane l { x with rxParcels := rest }
    let len := hd / 2 ^ 16 % 2 ^ 14
    let k := hd / 2 ^ 8 % 16
    let good := bs.length = (len + 31) / 32 ∧
      crc32c (bytesOf 28 hd ++ bytesOf len (blocksVal bs)) = hd / 2 ^ 224 % 2 ^ 32
    let p := w.lanePort l
    (¬ good → Acts (.parcelReceive t l hd bs) s (refuseParcel l (v.bumpSat (R.CRC_ERR_COUNT.CRC_ERRS l)))) ∧
    (good → hd / 2 ^ 32 % 2 ^ 16 ≠ x.rxLseq → Acts (.parcelReceive t l hd bs) s (refuseParcel l v)) ∧
    (good → hd / 2 ^ 32 % 2 ^ 16 = x.rxLseq → Completes (.parcelReceive t l hd bs) s (fun u =>
      u = { w with regs := u.regs, trk := u.trk } ∧ (u.lane l).rxLseq = (x.rxLseq + 1) % 65536 ∧ (u.lane l).ackDue = true ∧
      (u.lane l).nakDue = false ∧ (u.lane l).gotParcel = true ∧ RegsBut [(R.LANE_RX_PARCELS.RX_PARCELS l).addr] w u ∧
      u.get (R.LANE_RX_PARCELS.RX_PARCELS l) = (w.get (R.LANE_RX_PARCELS.RX_PARCELS l) + 1) % 2 ^ 32 ∧
      (p < 2 → k ≠ 0 → u.port p = w.port p) ∧
      (p < 2 → k = 0 → u.port p = { (w.port p).order 0 (hd / 2 ^ 64 % 2 ^ 32) (ctrlEntries (len / 16) (blocksVal bs)) with creditDue := true }) ∧
      (2 ≤ p → u.port p = { (w.port p).order k (hd / 2 ^ 64 % 2 ^ 32) [] with creditDue := true })))) ∧
  (∀ (x : Port) (k sseq : Nat) (reqs : List Nat), let next := x.rx.get 0 k; let y := x.order k sseq reqs
    (sseq = next → ∃ more, y.reqs = x.reqs ++ reqs.map (fun r => (sseq, r)) ++ more) ∧
    (sseq = next → x.early = [] → y = { x with rx := SMap.put x.rx 0 k ((sseq + 1) % 2 ^ 32), reqs := x.reqs ++ reqs.map (fun r => (sseq, r)) }) ∧
    (sseq ≠ next → before32 sseq next = true → y = x) ∧
    (sseq ≠ next → before32 sseq next = false → (∀ e ∈ x.early, e.1 = k → e.2.1 ≠ sseq) →
      y = { x with early := x.early ++ [(k, sseq, reqs)] })) ∧
  (∀ (t : Nat) (l : Fin 16) (s : State), Ready s → let w := s.tick t
    (w.laneUp l = true → (w.lane l).gotParcel = true →
      Acts (.ackSend t l) s (w.modLane l (fun x => { x with ackDue := true }))) ∧
    (w.laneUp l = false ∨ (w.lane l).gotParcel = false → Acts (.ackSend t l) s w)) ∧
  (∀ (t : Nat) (l : Fin 16) (es : List AckEntry) (s : State), Ready s → let w := s.tick t
    (w.laneUp l = true → Acts (.ackReceive t l es) s (forAll es (fun e u =>
      let k := if l.val < 12 then e.lane else 12 + e.lane
      if (if l.val < 12 then k < 12 else k < 16) ∧ u.lanePort k = u.lanePort l then ackEntry k e u else u) w)) ∧
    (w.laneUp l = false → Acts (.ackReceive t l es) s w)) ∧
  (∀ (l : Fin 16) (e : AckEntry) (a z : List (Nat × Parcel)) (p : Parcel) (s : State), (s.lane l).unacked = a ++ (e.lseq, p) :: z →
    (∀ y ∈ a, y.1 ≠ e.lseq) → let u := ackEntry l e s
    (e.nak = false → (u.lane l).unacked = z ∧ (u.lane l).ackMoved = s.now ∧ (u.lane l).replays = 0) ∧
    (e.nak = true → max 1 (s.get R.TRK_CFG.RETRY_MAX) ≤ (s.lane l).replays →
      u = laneFail l (s.modLane l (fun x => { x with holdUntil := none }))) ∧
    (e.nak = true → (s.lane l).replays < max 1 (s.get R.TRK_CFG.RETRY_MAX) → (u.lane l).unacked = (s.lane l).unacked ∧ (u.lane l).resend = (e.lseq, p) :: z ∧
      (u.lane l).replays = (s.lane l).replays + 1)) ∧
  (∀ (l : Fin 16) (e : AckEntry) (s : State), (∀ y ∈ (s.lane l).unacked, y.1 ≠ e.lseq) →
    ackEntry l e s = s.modLane l (fun x => { x with holdUntil := none })) ∧
  (∀ (t : Nat) (l : Fin 16) (es : List (Nat × Nat)) (s : State), Ready s → let w := s.tick t; let p := w.lanePort l
    (w.laneUp l = true → Acts (.creditReceive t l es) s (forAll es (fun e u =>
      let k := if p = 2 then 16 + e.1 else if e.1 = 0 ∧ p = 1 then 7 else e.1
      if k ∈ u.portStreams p ∧ before32 e.2 (u.stream k).credit = false then
        u.setStream k { u.stream k with credit := e.2 % 2 ^ 32 } else u) w)) ∧
    (w.laneUp l = false → Acts (.creditReceive t l es) s w)) ∧
  (∀ (t n : Nat) (l : Fin 16) (p : Parcel) (z : List (Nat × Parcel)) (s : State), Ready s → let w := s.tick t; let x := w.lane l
    x.unacked = (n, p) :: z → w.laneUp l = true → x.ackMoved + 128000 * max 1 (w.get R.TRK_CFG.ACK_TIMEOUT) ≤ w.now →
    (max 1 (w.get R.TRK_CFG.RETRY_MAX) ≤ x.replays → Acts (.ackTimeout t l) s (laneFail l w)) ∧
    (x.replays < max 1 (w.get R.TRK_CFG.RETRY_MAX) →
      Acts (.ackTimeout t l) s (replayFrom l n (w.setLane l { x with ackMoved := w.now })))) ∧
  (∀ (t : Nat) (l : Fin 16) (s : State), Ready s → let w := s.tick t; let x := w.lane l
    x.unacked = [] ∨ w.laneUp l = false ∨ w.now < x.ackMoved + 128000 * max 1 (w.get R.TRK_CFG.ACK_TIMEOUT) →
    Acts (.ackTimeout t l) s w) ∧
  (∀ (t : Nat) (l : Fin 16) (s : State), Ready s → let w := s.tick t
    (w.flag (R.LANE_CTL.LANE_EN l) = false → Acts (.transmitSlot t l) s w) ∧
    (w.flag (R.LANE_CTL.LANE_EN l) = true → w.get (R.LANE_STATUS.LSTATE l) = 5 →
      let x := prbsRun (w.get (R.LANE_CTL.PRBS_SEL l)) 258 (w.lane l).prbsTx
      Acts (.transmitSlot t l) s (putLine l x.1 (w.modLane l (fun y => { y with prbsTx := x.2 })))) ∧
    (w.flag (R.LANE_CTL.LANE_EN l) = true → w.get (R.LANE_STATUS.LSTATE l) ≠ 5 →
      (slotBlock l w = none → Acts (.transmitSlot t l) s (w.modLane l (fun x => { x with line := [] }))) ∧
      (∀ v control payload busy, slotBlock l w = some (v, control, payload, busy) →
        let y := v.lane l
        let c := encodeBlock y.tx control payload
        let out := if y.injNext = true ∧ control = false then invertAt (payloadPlace y.tx) c.1 else c.1
        Acts (.transmitSlot t l) s (putLine l out
          (v.setLane l { y with tx := c.2, busyAt := if busy then v.now else y.busyAt, injNext := y.injNext && control }))))) ∧
  (∀ (l : Fin 16) (s : State), let st := s.get (R.LANE_STATUS.LSTATE l)
    (st = 1 → slotBlock l s = some (s, true, 0, false)) ∧
    (st = 2 → slotBlock l s = if (s.lane l).capDue then
      some (s.modLane l (fun x => { x with capDue := false }), true, s.capBlock l, true) else some (s, true, 0, false)) ∧
    (st = 3 → slotBlock l s = if s.get (R.LANE_STATUS.TX_PWR l) = 0 then some (upSlot l s) else none) ∧
    (st ≠ 1 → st ≠ 2 → st ≠ 3 → slotBlock l s = none)) ∧
  (∀ (l : Fin 16) (s : State), let x := s.lane l
    (∀ b rest, x.sending = b :: rest → x.runData < 31 →
      upSlot l s = (s.setLane l { x with sending := rest, runData := x.runData + 1 }, false, b, true)) ∧
    (x.sending = [] → x.holdUntil = none → (∀ v b, dueBlock l s = some (v, b) →
      upSlot l s = (v.modLane l (fun x => { x with runData := 0 }), true, b, true)) ∧
      (dueBlock l s = none → (∀ v b, takeParcel l s = some (v, b) →
        upSlot l s = (v.modLane l (fun x => { x with runData := 0 }), true, b, true)) ∧
        (takeParcel l s = none → upSlot l s = (s.modLane l (fun x => { x with runData := 0 }), true, 0, false))))) ∧
  (∀ (t : Nat) (k : Fin 8) (o : OpenParcel) (s : State), Ready s → let w := s.tick t; (w.stream k).open_ = some o →
    let due := o.since + 128000 * max 1 (w.get R.TRK_CFG.PARCEL_TIMEOUT) ≤ w.now
    (due → Acts (.parcelTimeout t k) s (closeParcel k w)) ∧ (¬ due → Acts (.parcelTimeout t k) s w)) ∧
  (∀ (t : Nat) (k : Fin 8) (s : State), Ready s → let w := s.tick t; let st := w.stream k
    (st.open_ = none → Acts (.parcelTimeout t k) s w) ∧ (st.layby = [] → Acts (.laybyDrain t k) s w) ∧
    (st.loss = none → Acts (.gapSplitExpiry t k) s w)) ∧
  (∀ (t : Nat) (k : Fin 8) (p : Parcel) (z : List Parcel) (s : State), Ready s → let w := s.tick t; let st := w.stream k
    st.layby = p :: z →
    let room := p.outside = true ∨ w.egqBytes k + recsLen p.recs ≤ w.egqQuota k
    let back := ((st.layby.filter (fun q => !q.outside)).map storedLen).sum
    (room → Acts (.laybyDrain t k) s (State.setStream (if p.outside then w else
      dramRing 0x19 (w.laybyStart k) (w.laybyQuota k) (st.laybyWr - back) (storedLen p) w) k { st with layby := z.dropWhile (·.outside), egress := st.egress ++ p :: z.takeWhile (·.outside) })) ∧
    (¬ room → Acts (.laybyDrain t k) s w)) ∧
  (∀ (t : Nat) (k : Fin 8) (e : Loss) (s : State), Ready s → let w := s.tick t; let st := w.stream k
    st.loss = some e →
    (w.lossExpired e = true → k.val ≠ 1 → Acts (.gapSplitExpiry t k) s (emitGap k e (w.setStream k { st with loss := none }))) ∧
    (w.lossExpired e = true → k.val = 1 → Acts (.gapSplitExpiry t k) s
      (openGap e (closeCore 1 (w.setStream 1 { st with loss := none })).1)) ∧
    (w.lossExpired e = false → Acts (.gapSplitExpiry t k) s w)) ∧
  (∀ (e : Loss) (s : State), let u := openGap e s
    u.flag R.TRK_STATUS.GAP_SEEN = true ∧ (s.msMuted 5 = false → (u.stream 1).open_ =
      some { key := {}, since := s.now, recs := [gapRec 1 e s], room := s.roomFree }))

/-- R266, R268 to R270. -/
def Obligations.ParcelsPlaced : Prop :=
  ∀ (k : Fin 8) (o : OpenParcel) (s : State), (s.stream k).open_ = some o →
    let st := s.stream k
    let len := recsLen o.recs
    let u := (closeCore k s).1
    let p : Parcel := { stream := k, sseq := st.sseq, key := o.key, time := s.ns, recs := o.recs, outside := o.room }
    let egress := st.layby = [] ∧ (o.room = true ∨ s.egqBytes k + len ≤ s.egqQuota k)
    let layby := s.flag (R.STREAM_CFG.SPILL_EN (streamReg k)) = true ∧ s.laybyBytes k + len ≤ s.laybyQuota k
    (u.stream k).open_ = none ∧
    (egress → (u.stream k).egress = st.egress ++ [p] ∧ (u.stream k).layby = st.layby ∧
      (u.stream k).sseq = (st.sseq + 1) % 2 ^ 32 ∧ (u.stream k).loss = none ∧ (closeCore k s).2 = st.loss) ∧
    (¬ egress → layby → (u.stream k).layby = st.layby ++ [p] ∧ (u.stream k).egress = st.egress ∧
      (u.stream k).sseq = (st.sseq + 1) % 2 ^ 32 ∧ (u.stream k).loss = none) ∧
    (¬ egress → ¬ layby → k.val = 6 ∨ o.room = true → (u.stream k).sseq = (st.sseq + 1) % 2 ^ 32 ∧ (u.stream k).loss = none ∧
      (st.layby = [] → (u.stream k).egress = st.egress ++ [p] ∧ (u.stream k).layby = []) ∧
      (st.layby ≠ [] → (u.stream k).egress = st.egress ∧ (u.stream k).layby = st.layby ++ [p])) ∧
    (¬ egress → ¬ layby → k.val ≠ 6 → o.room = false → (u.stream k).egress = st.egress ∧ (u.stream k).layby = st.layby ∧
      (u.stream k).sseq = st.sseq ∧ ∃ x, (u.stream k).loss = some x ∧
        (st.loss = none → x.parcels = 1 ∧ x.bytes = len ∧ x.records = o.recs.length ∧ x.first = s.ns ∧ x.last = s.ns) ∧
        (∀ l, st.loss = some l → (s.lossExpired l = true → x.parcels = 1 ∧ (closeCore k s).2 = some l) ∧
          (s.lossExpired l = false → x = { l with last := s.ns, parcels := l.parcels + 1, records := l.records + o.recs.length, bytes := l.bytes + len } ∧
            (closeCore k s).2 = none)))

/-- R271; 12_stream_memory.md R307, R308; 16_security_ledger.md R376. -/
def Obligations.ControlRequestsServed : Prop :=
  (∀ (t r sq : Nat) (p : Fin 2) (rest : List (Nat × Nat)) (s : State), Ready s → let w := s.tick t
    (w.port p).reqs = (sq, r) :: rest →
    (w.ctrlHeld p r = true → Acts (.ctrlRead t p) s w ∧ Acts (.ctrlWrite t p) s w ∧ Acts (.ctrlUnknownOp t p) s w)) ∧
  (∀ (t r sq : Nat) (p : Fin 2) (rest : List (Nat × Nat)) (s : State), Ready s → let w := s.tick t
    (w.port p).reqs = (sq, r) :: rest → w.ctrlHeld p r = false →
    let v := w.setPort p { w.port p with reqs := rest, creditDue := true }
    let k := if p.val = 0 then 0 else 7
    let a := r / 2 ^ 32 % 2 ^ 40
    let d := r / 2 ^ 96 % 2 ^ 32
    (r % 256 = 1 → Acts (.ctrlRead t p) s
      (pushStream k {} (ctrlAnswer r 0 (busRead (1 + p) a 4 v).1) (busRead (1 + p) a 4 v).2)) ∧
    (r % 256 = 2 → v.target a 4 = .unmapped ∨ v.mayWrite (1 + p) a d = true →
      Acts (.ctrlWrite t p) s (pushStream k {} (ctrlAnswer r 0 0) (busWrite (1 + p) a 4 d v))) ∧
    (r % 256 = 2 → v.target a 4 ≠ .unmapped → v.mayWrite (1 + p) a d = false → Acts (.ctrlWrite t p) s (pushStream k {} (ctrlAnswer r 1 0) v)) ∧
    (r % 256 ≠ 1 → r % 256 ≠ 2 → Acts (.ctrlUnknownOp t p) s (pushStream k {} (ctrlAnswer r 2 0) v)) ∧
    (r % 256 ≠ 1 → Acts (.ctrlRead t p) s w) ∧ (r % 256 ≠ 2 → Acts (.ctrlWrite t p) s w) ∧
    (r % 256 = 1 ∨ r % 256 = 2 → Acts (.ctrlUnknownOp t p) s w)) ∧
  (∀ (t : Nat) (p : Fin 2) (s : State), Ready s → let w := s.tick t; (w.port p).reqs = [] →
    Acts (.ctrlRead t p) s w ∧ Acts (.ctrlWrite t p) s w ∧ Acts (.ctrlUnknownOp t p) s w) ∧
  (∀ (r st d : Nat), st < 256 → let x := ctrlAnswer r st d
    x.len = 16 ∧ x.val % 256 = (r % 256) ||| 0x80 ∧ x.val / 2 ^ 8 % 256 = st ∧ x.val / 2 ^ 16 % 2 ^ 16 = r / 2 ^ 16 % 2 ^ 16 ∧
    x.val / 2 ^ 32 % 2 ^ 40 = r / 2 ^ 32 % 2 ^ 40 ∧ x.val / 2 ^ 96 = d % 2 ^ 32)


/-- R278, R280, R283 to R285, R296 to R298. That a lost stamp leaves the offset is the model's own choice (log 84). -/
def Obligations.TwinHeard : Prop :=
  (∀ (t : Nat) (s : State), Ready s → let w := s.tick t; let v := unitItems w; let x := v.twin
    let due := x.healthy = true ∧ ∀ l, x.lastSend = some l → l + 256000 ≤ w.now
    (due → Acts (.beatSend t) s (v.setTwin { x with keeper := some w.now, lastSend := some w.now, hbSent := (x.hbSent ++ [w.now]).take 1024, ctl := x.ctl.filter (fun p => decide (p.2 % 256 ≠ 0x60)) ++ v.cwyLanes.map (fun l => (l, v.beatBlock)) })) ∧
    (¬ due → Acts (.beatSend t) s v)) ∧
  (∀ s : State, let u := unitItems s
    (s.twinEn = false → u = s) ∧ u = { s with trk := u.trk, twin := u.twin } ∧
    (s.twinEn = true → s.cwyLanes ≠ [] → (∀ l, s.twin.identSent = some l → l + 128000000 ≤ s.now) →
      u.twin.identSent = some s.now ∧ ∃ p : Parcel, (u.stream 17).egress = (s.stream 17).egress ++ [p] ∧
        p.recs = [wordsRec (identityWords s.identity)])) ∧
  (∀ (t : Nat) (a b c : Bool) (s : State), Ready s → let w := s.tick t
    let since := w.twin.cwyDown.getD w.now
    let v := w.setTwin { w.twin with healthy := a && b && c, cwyDown := some since }
    (w.cwyLanes ≠ [] →
      Acts (.healthCheck t a b c) s (w.setTwin { w.twin with healthy := a && b && c, cwyDown := none })) ∧
    (w.cwyLanes = [] → w.now < since + 1024000 → Acts (.healthCheck t a b c) s v) ∧
    (w.cwyLanes = [] → since + 1024000 ≤ w.now →
      (w.twState = 4 → Acts (.healthCheck t a b c) s (v.setTwin { v.twin with copying := false })) ∧
      (w.twState = 3 → w.flag R.TW_STATUS.PATH_B_OK = true → Acts (.healthCheck t a b c) s
        (((v.setTwin { v.twin with complete := false, epoch := 0 }).put R.TW_STATUS.TW_STATE 2).put
          R.TW_STATUS.EPOCHS_DONE 0)) ∧
      (w.twState ≠ 4 → w.twState ≠ 3 ∨ w.flag R.TW_STATUS.PATH_B_OK = false → Acts (.healthCheck t a b c) s v))) ∧
  (∀ (t time : Nat) (l : Fin 4) (info : BitVec 8) (s : State), Ready s → let w := s.tick t; let x := w.twin
    (w.laneUp (12 + l) = false → Acts (.beatReceive t l info time) s w) ∧
    (w.laneUp (12 + l) = true → Completes (.beatReceive t l info time) s (fun u =>
      u.twin.lastA = some w.now ∧ u.twin.heard = true ∧ u.twin.partnerOwn = info.getLsbD 4 ∧
      u.get R.TW_PARTNER.P_STATE = info.toNat % 8 ∧ u.flag R.TW_PARTNER.P_UNIT = info.getLsbD 3 ∧
      u.flag R.TW_STATUS.PATH_A_OK = true ∧
      u.get R.TW_MISS_A.MISS_A = min (2 ^ 32 - 1) (w.get R.TW_MISS_A.MISS_A + w.missedSince x.lastA)))) ∧
  (∀ (t : Nat) (s : State), Ready s → let w := s.tick t
    Completes (.hbInPulse t) s (fun u => u.twin.lastB = some w.now ∧ u.twin.heard = true ∧
      u.twin.hbSeen = (w.twin.hbSeen ++ [w.now]).take 1024 ∧ u.flag R.TW_STATUS.PATH_B_OK = true ∧
      u.get R.TW_MISS_B.MISS_B = min (2 ^ 32 - 1) (w.get R.TW_MISS_B.MISS_B + w.missedSince w.twin.lastB))) ∧
  (∀ (l : Nat) (s : State), s.missedSince none = 0 ∧ s.missedSince (some l) = (s.now - l - 128000) / 256000) ∧
  (∀ (t b : Nat) (p : Fin 2) (s : State), Ready s → let w := s.tick t
    let f := if p.val = 0 then R.TW_STATUS.PATH_A_OK else R.TW_STATUS.PATH_B_OK
    let other := if p.val = 0 then R.TW_STATUS.PATH_B_OK else R.TW_STATUS.PATH_A_OK
    let last := if p.val = 0 then w.twin.lastA else w.twin.lastB
    let v := w.clrFlag f
    (last = none ∨ w.flag f = false → Acts (.pathLost t p) s w) ∧
    (last = some b → w.flag f = true → w.now < b + 1024000 → Acts (.pathLost t p) s w) ∧
    (last = some b → w.flag f = true → b + 1024000 ≤ w.now →
      (w.flag other = true → ∃ u, Acts (.pathLost t p) s u ∧ u.flag f = false ∧ u.flag R.TW_STATUS.DEGRADED = true ∧
        u.flag other = true) ∧
      (w.flag other = false →
        (w.twState = 4 → Acts (.pathLost t p) s (twinMs 12 [] (v.setTwin { v.twin with copying := false }))) ∧
        (w.twState = 2 → w.flag R.TW_STATUS.CFG_MATCH = false → Acts (.pathLost t p) s (twinRefuse 5 10 v)) ∧
        (w.twState ≠ 4 → w.twState ≠ 2 ∨ w.flag R.TW_STATUS.CFG_MATCH = true → Acts (.pathLost t p) s v)))) ∧
  (∀ (t : Nat) (p : Identity) (s : State), Ready s → let w := s.tick t
    let tested := w.flag R.TW_STATUS.PATH_A_OK = true ∧ (w.partnerValid = false ∨ w.twin.tested ≠ some p)
    (w.twinEn = false → Acts (.identityReceive t p) s w) ∧
    (w.twinEn = true → p.variant < 16 → Completes (.identityReceive t p) s (fun u =>
      u.twin.partner = some p ∧ u.twin.identAt = w.now ∧ u.get R.TW_PARTNER.P_VARIANT = p.variant ∧
      u.flag R.TW_PARTNER.P_UNIT = p.unit ∧ u.get R.TW_PARTNER_CFG_LO.P_CFG_LO = p.cfg % 2 ^ 32 ∧
      (¬ tested → u.twState = w.twState) ∧
      (tested → w.pairFails p = 0 → u.twState = (if w.twState = 5 ∧ w.get R.TW_STATUS.REFUSE_CAUSE ≤ 4 then
        (if w.ownHeld then 4 else 1) else w.twState)) ∧
      (tested → w.pairFails p ≠ 0 → u.get R.TW_STATUS.REFUSE_CAUSE = w.pairFails p ∧
        u.flag R.TW_STATUS.REFUSED = true ∧ u.twState = 5)))) ∧
  (∀ (p : Identity) (s : State), let pair := s.get R.TW_PAIR_ID_LO.PAIR_ID_LO + 2 ^ 32 * s.get R.TW_PAIR_ID_HI.PAIR_ID_HI
    (p.variant ≠ s.variant → s.pairFails p = 1) ∧ (p.variant = s.variant → p.pair ≠ pair → s.pairFails p = 2) ∧
    (p.variant = s.variant → p.pair = pair → p.unit = s.flag R.TW_STATUS.UNIT → s.pairFails p = 3) ∧
    (p.variant = s.variant → p.pair = pair → p.unit = !s.flag R.TW_STATUS.UNIT →
      (s.pairFails p = 0 ↔ p.family = s.get R.CODE_PLAN.CODE_FAMILY ∧ p.seed = s.get R.VENUE_SEED.value) ∧
      (s.pairFails p = 0 ∨ s.pairFails p = 4))) ∧
  (∀ (t : Nat) (sent seen : List Nat) (s : State), Ready s → let w := s.tick t; let x := w.twin
    let v := w.setTwin { x with hbSent := [], hbSeen := [] }
    let whole := x.hbSent ≠ [] ∧ seen.length = x.hbSent.length ∧ x.hbSeen.length = sent.length ∧ sent.length = seen.length
    (¬ whole → Acts (.tofsUpdate t ⟨sent, seen⟩) s v) ∧
    (whole → Completes (.tofsUpdate t ⟨sent, seen⟩) s (fun u => u = { v with regs := u.regs } ∧
      RegsBut [R.TW_TOFS_LO.addr, R.TW_TOFS_HI.addr, R.TW_TOFS_FRAC.addr] w u ∧
      let out := ((seen.zip x.hbSent).map (fun p => (p.1 : Int) - p.2)).sum
      let back := ((x.hbSeen.zip sent).map (fun p => (p.1 : Int) - p.2)).sum
      let o := roundDiv (out - back) (2 * x.hbSent.length)
      (-2 ^ 70 < o → o < 2 ^ 70 → u.tofsFine = o))))

/-- R280 to R282, R286, R287, R289, R290, R293, R295. That a copy needs a lane up, and that an empty epoch ends it, are the
model's own choices (log 19, log 115). -/
def Obligations.TwinOwnsAndShadows : Prop :=
  (∀ (t : Nat) (s : State), s.su.wantSafe = false → let w := s.tick t
    let lapsed := ∀ k, w.twin.keeper = some k → k + 512000 ≤ w.now
    (w.ownHeld = true → lapsed → Completes (.ownKeeperLapse t) s (fun u => u.ownHeld = false ∧
      u.twin.ownHigh = true ∧ u.twin.ownSince = w.now ∧ u.twState = (if w.twState = 4 then 1 else w.twState) ∧
      (∀ h < 2, ∀ b < 32, (u.bank h b).line = .off) ∧ (∀ h < 2, (u.drv h).x = none) ∧
      u = { w with regs := u.regs, drive := u.drive, twin := u.twin })) ∧
    (w.ownHeld = false ∨ ¬ lapsed → Acts (.ownKeeperLapse t) s w)) ∧
  (∀ (t : Nat) (high : Bool) (s : State), s.su.wantSafe = false → let w := s.tick t
    (w.ownHeld = true → Acts (.ownLineChange t high) s w) ∧
    (w.ownHeld = false → Completes (.ownLineChange t high) s (fun u => u = { w with twin := u.twin } ∧
      u.twin.ownHigh = high ∧ u.twin.released = false ∧ u.twin.claimAt = none ∧
      (high = true → u.twin.ownSince = w.now ∧ (w.twin.bar = 1 → u.twin.bar = 0)) ∧
      (high = false → w.twin.bar = 2 → u.twin.bar = 1)))) ∧
  (∀ (t : Nat) (other : Bool) (s : State), Ready s → let w := s.tick t
    let wait := fun (a : Option Nat) (u : State) => u.setTwin { u.twin with claimAt := a }
    (w.claimDue = true → w.claimState = true → w.claimFails = 0 →
      (w.flag R.TW_STATUS.UNIT = false → Acts (.ownClaim t other) s (claim other w)) ∧
      (w.flag R.TW_STATUS.UNIT = true → w.twin.claimAt = none → Acts (.ownClaim t other) s (wait (some w.now) w)) ∧
      (w.flag R.TW_STATUS.UNIT = true → ∀ a, w.twin.claimAt = some a →
        (a + 512000 ≤ w.now → Acts (.ownClaim t other) s (claim other (wait none w))) ∧
        (w.now < a + 512000 → Acts (.ownClaim t other) s w))) ∧
    (w.claimDue = true → w.claimState = true → w.claimFails ≠ 0 →
      (w.twState = 2 ∨ w.twState = 3 → Acts (.ownClaim t other) s (wait none (twinRefuse w.claimFails 10 w))) ∧
      (w.twState ≠ 2 → w.twState ≠ 3 → Acts (.ownClaim t other) s (wait none w))) ∧
    (w.claimDue = false ∨ w.claimState = false → Acts (.ownClaim t other) s (wait none w))) ∧
  (∀ s : State, let u := claim false s; let v := claim true s
    u.ownHeld = true ∧ u.twState = (if s.twState = 0 then 0 else 4) ∧
    u.get R.TW_TAKEOVERS.TAKEOVERS = min (2 ^ (R.TW_TAKEOVERS.TAKEOVERS).w - 1) (s.get R.TW_TAKEOVERS.TAKEOVERS + 1) ∧
    (s.ownHeld = false → v.ownHeld = false) ∧ v.twState = s.twState ∧ v.twin.yielded = true) ∧
  (∀ s : State, (s.claimDue = true → s.ownHeld = false ∧ s.twin.ownHigh = true ∧ s.twin.yielded = false ∧ s.twin.bar = 0 ∧
      s.twin.ownSince + 256000 ≤ s.now ∧ ∃ k, s.twin.keeper = some k ∧ s.now < k + 512000) ∧
    (s.claimFails = 0 → (s.twState = 2 ∨ s.twState = 3 → s.cablesValid = true) ∧ s.flag R.TB_STATUS.LOCKED = true ∧ s.guardState = 2 ∧ s.flag R.RST_STATUS.NRST_STUCK = false) ∧
    (s.twState = 4 → s.claimState = false) ∧ (s.twState = 3 → s.claimState = (s.partnerFailed || s.twin.released)) ∧
    (s.twState = 5 → s.claimState = s.partnerFailed) ∧ (s.twState = 0 ∨ s.twState = 1 → s.claimState = true) ∧
    (s.twState = 2 → s.claimState = (s.partnerFailed && s.flag R.TW_STATUS.CFG_MATCH))) ∧
  (∀ (t req : Nat) (s : State), Ready s → let w := s.tick t; Admits w req R.TW_CTL.addr →
    Acts (.ownRelease t req) s (releaseOwn 1 (w.asked req R.TW_CTL.RELEASE 1))) ∧
  (∀ (c : Nat) (s : State), s.ownHeld = true → let u := releaseOwn c s
    u.ownHeld = false ∧ u.twState = (if s.twState = 4 then 1 else s.twState) ∧ (c = 1 → u.twin.bar = 2) ∧
    ∀ h < 2, ∀ b < 32, (u.bank h b).line = .off) ∧
  (∀ (t : Nat) (n : ShadowNotice) (s : State), Ready s → let w := s.tick t
    (w.standby = false → Acts (.shadowSchedule t n) s w) ∧
    (w.standby = true →
      (∀ h cell ch w1 w2 lenses v0 f g out, n = .decision h cell ch w1 w2 lenses v0 f g out → h < 2 →
        Acts (.shadowSchedule t n) s (if out = 0 then shadowIssued h cell ch w1 w2 lenses (w.mapNs v0) f g w
          else shadowDeclined h cell ch (out - 1) w)) ∧
      (∀ h cell upto l, n = .pulses h cell upto l → Acts (.shadowSchedule t n) s (shadowPulses h cell upto l w)) ∧
      (∀ h cell r pa pb ms, n = .egress h cell r pa pb ms →
        Acts (.shadowSchedule t n) s (shadowEgress h cell r pa pb ms w)))) ∧
  (∀ (t a size v : Nat) (s : State), Ready s → let w := s.tick t
    let q := { w.twin with mirrored := w.twin.mirrored ++ [(a, size, v)] }
    let taken := w.twin.complete = true ∨ mirrorEpoch a < w.twin.epoch ∧ mirrorEpoch a < 29
    (w.standby = true → Acts (.mirroredWrite t a size v) s (mirrorApply a size v w)) ∧
    (w.twState = 2 → taken → Acts (.mirroredWrite t a size v) s (mirrorApply a size v w)) ∧
    (w.twState = 2 → ¬ taken → Acts (.mirroredWrite t a size v) s (w.setTwin q)) ∧
    (w.twState ≠ 2 → w.twState ≠ 3 → Acts (.mirroredWrite t a size v) s w)) ∧
  (∀ (t : Nat) (s : State), Ready s → let w := s.tick t; let p := w.get R.TW_PARTNER.P_STATE
    let may := w.twState = 4 ∧ w.partnerValid = true ∧ (p = 1 ∨ p = 2) ∧ w.twin.copying = false ∧ w.cwyLanes ≠ []
    (may → Acts (.alignStart t) s (twinMs 3 [] (copyOpen 0
      (w.setTwin { w.twin with copying := true, copyDone := false, copyFrom := w.now, copyRest := [] })))) ∧
    (¬ may → Acts (.alignStart t) s w)) ∧
  (∀ (n : Nat) (s : State), let x := (copyOpen n s).twin
    x.copyEpoch = n ∧ x.copyOfs = 0 ∧ (n = 0 → x.copyLen = 4 * s.epochZero.length ∧ x.copyBuf = wordsNat s.epochZero) ∧
    (0 < n → n < 29 → x.copyLen = 2 ^ 20 ∧ x.copyBuf = s.load (epochBase n) (2 ^ 20))) ∧
  (∀ (t n len crc : Nat) (l : List Byte) (s : State), Ready s → let w := s.tick t; let c := l.map BitVec.toNat
    let fits := w.partnerValid = true ∧ (w.twState = 1 ∧ n = 0 ∨ w.twState = 2 ∧ (n = 0 ∨ n = w.twin.epoch)) ∧
      l.length = len ∧ crc32c c = crc
    (¬ fits → Acts (.epochReceive t n len crc l) s w) ∧
    (fits → n ≠ 0 → n < 29 → let x := (applyEpoch n c w).bumpSat R.TW_STATUS.EPOCHS_DONE
      Acts (.epochReceive t n len crc l) s (applyWaiting (n + 1) (x.setTwin { x.twin with epoch := n + 1 }))) ∧
    (fits → 29 ≤ n → len ≠ 0 → let x := (applyEpoch n c w).bumpSat R.TW_STATUS.EPOCHS_DONE
      Acts (.epochReceive t n len crc l) s (applyWaiting 29 (x.setTwin { x.twin with epoch := n + 1 }))) ∧
    (fits → 29 ≤ n → len = 0 →
      Acts (.epochReceive t n len crc l) s (applyWaiting 30 (w.setTwin { w.twin with complete := true }))) ∧
    (fits → n = 0 → let x := (applyEpoch 0 c (epochStart w)).bumpSat R.TW_STATUS.EPOCHS_DONE
      Acts (.epochReceive t n len crc l) s (applyWaiting 1 (x.setTwin { x.twin with epoch := 1 })))) ∧
  (∀ (n a : Nat) (l : List Nat) (s : State), 0 < n → n < 29 → l.length ≤ 2 ^ 20 → (∀ b ∈ l, b < 256) → let u := applyEpoch n l s
    (∀ k, k < l.length → (u.byte (epochBase n + k)).toNat = l.getD k 0) ∧
    (¬ (epochBase n ≤ a ∧ a < epochBase n + l.length) → u.byte a = s.byte a) ∧ u = { s with mem := u.mem })


/-- R301, R304, R306 to R309, R313 to R315. -/
def Obligations.DramServedAndReplayed : Prop :=
  (∀ (t req a size v : Nat) (e : Fin 3) (s : State), Ready s → let w := s.tick t; let o := a - dramBase
    dramBase ≤ a → a < dramEnd → w.target a size = .dram →
    let waits := fun (write : Bool) => w.setDram { w.dram with waiting := w.dram.waiting ++ [⟨req, o, size, write, v, e⟩] }
    (w.dramHeld req o = true → Acts (.dramAccess t req a size false v e) s (waits false)) ∧
    (w.dramHeld req o = false → Acts (.dramAccess t req a size false v e) s (linkError o e (dramTouch req o w))) ∧
    (req ≠ 0x1A → w.mayWrite req a v = false → Acts (.dramAccess t req a size true v e) s (roleReject req w)) ∧
    (req ≠ 0x1A → w.mayWrite req a v = true → w.dramHeld req o = true →
      Acts (.dramAccess t req a size true v e) s (waits true)) ∧
    (req ≠ 0x1A → w.mayWrite req a v = true → w.dramHeld req o = false →
      Acts (.dramAccess t req a size true v e) s (linkError o e (dramTouch req o (w.store (dramBase + o) size v)))) ∧
    (w.dram.staged = [] → Acts (.dramAccess t 0x1A a size true v e) s w) ∧
    (w.dram.staged ≠ [] → Acts (.dramAccess t 0x1A a size true v e) s (linkError o e (replayStore w)))) ∧
  (∀ (t req a size v : Nat) (e : Fin 3) (wr : Bool) (s : State), Ready s → let w := s.tick t
    (a < dramBase ∨ dramEnd ≤ a → Acts (.dramAccess t req a size wr v e) s w) ∧
    (dramBase ≤ a → a < dramEnd → w.target a size ≠ .dram → Acts (.dramAccess t req a size wr v e) s (unmapped req a w))) ∧
  (∀ (r a : Nat) (s : State), s.dramHeld r a = true ↔ s.tollHeld r a = true ∨
    ∃ x ∈ s.dram.waiting, x.req = r ∧ s.bankKey x.ofs = s.bankKey a) ∧
  (∀ (r a : Nat) (s : State), r < 64 → s.dramPort a < 4 → let u := dramTouch r a s; let key := s.bankKey a
    u.mem = s.mem ∧ u.flag (R.PORT_TRAIN.SR_NOW (s.dramPort a)) = false ∧
    (s.dram.rows.get 0 key = s.dramRow a + 1 → u.dram.acts = s.dram.acts) ∧
    (s.dram.rows.get 0 key ≠ s.dramRow a + 1 →
      (s.dram.acts.get 0 key + 1 < s.get R.TOLL_CFG.TOLL_ACT → u.dram.acts.get 0 key = s.dram.acts.get 0 key + 1 ∧
        u.dram.holds = s.dram.holds) ∧
      (s.get R.TOLL_CFG.TOLL_ACT ≤ s.dram.acts.get 0 key + 1 → u.dram.acts.get 0 key = 0 ∧
        (s.flag R.TOLL_CFG.TOLL_EN = true → tollExempt r = false →
          u.dram.holds.get 0 (65536 * r + key) = s.now + 128 * s.get R.TOLL_CFG.TOLL_NS) ∧
        (s.flag R.TOLL_CFG.TOLL_EN = false ∨ tollExempt r = true → u.dram.holds = s.dram.holds)))) ∧
  (∀ (a e : Nat) (s : State), s.dramPort a < 4 → let u := linkError a e s; let p := s.dramPort a
    (s.flag R.MEM_CFG.LINK_ECC = false → u = s) ∧
    (s.flag R.MEM_CFG.LINK_ECC = true → u.get (R.LECC_CORR.CORR p) = (if e = 1 then
        min (2 ^ (R.LECC_CORR.CORR p).w - 1) (s.get (R.LECC_CORR.CORR p) + 1) else s.get (R.LECC_CORR.CORR p)) ∧
      u.get (R.LECC_UNCORR.UNCORR p) = (if e = 2 then
        min (2 ^ (R.LECC_UNCORR.UNCORR p).w - 1) (s.get (R.LECC_UNCORR.UNCORR p) + 1) else s.get (R.LECC_UNCORR.UNCORR p)))) ∧
  (∀ (t key : Nat) (s : State), Ready s → let w := s.tick t
    Completes (.dramRefreshDue t key) s (fun u => u = { w with dram := u.dram } ∧ u.dram.acts.get 0 key = 0 ∧
      ∀ k, k ≠ key → u.dram.acts.get 0 k = w.dram.acts.get 0 k)) ∧
  (∀ (t r key : Nat) (s : State), Ready s → let w := s.tick t; let k := 65536 * r + key
    (w.dram.holds.get 0 k ≤ w.now → Acts (.tollHoldEnd t r key) s
      (dramResume r key (w.setDram { w.dram with holds := w.dram.holds.erase k }))) ∧
    (w.now < w.dram.holds.get 0 k → Acts (.tollHoldEnd t r key) s w)) ∧
  (∀ (r key : Nat) (s : State), let due := fun (x : HeldAccess) => x.req == r && s.bankKey x.ofs == key
    dramResume r key s = forAll (s.dram.waiting.filter due) (fun x u =>
        if u.dramHeld x.req x.ofs then u.setDram { u.dram with waiting := u.dram.waiting ++ [x] }
        else linkError x.ofs x.err (dramTouch x.req x.ofs (if x.write then u.store (dramBase + x.ofs) x.size x.val else u)))
      (s.setDram { s.dram with waiting := s.dram.waiting.filter (fun x => !due x) })) ∧
  (∀ (t : Nat) (p : Fin 4) (s : State), Ready s → let w := s.tick t
    let may := w.flag R.SR_CFG.SR_EN = true ∧ w.flag R.MEM_STATUS.MEM_READY = true ∧
      (w.get R.MEM_STATUS.PORTS_USED).testBit p = true ∧ w.flag (R.PORT_TRAIN.SR_NOW p) = false ∧
      w.dram.lastAccess.get 0 p + 128000 * w.get R.SR_CFG.SR_IDLE ≤ w.now ∧ w.srTolerance = true
    (may → Completes (.selfRefreshEnter t p) s (fun u => u = { w with regs := u.regs } ∧
      u.flag (R.PORT_TRAIN.SR_NOW p) = true ∧ u.get (R.SR_ENTRIES.value p) = (w.get (R.SR_ENTRIES.value p) + 1) % 2 ^ 32 ∧
      RegsBut [(R.PORT_TRAIN.SR_NOW p).addr, (R.SR_ENTRIES.value p).addr] w u)) ∧
    (¬ may → Acts (.selfRefreshEnter t p) s w) ∧
    Completes (.selfRefreshExit t p) s (fun u => u = { w with regs := u.regs } ∧ u.flag (R.PORT_TRAIN.SR_NOW p) = false ∧
      RegsBut [(R.PORT_TRAIN.SR_NOW p).addr] w u)) ∧
  (∀ s : State, s.srTolerance = true → 0 < s.get R.SR_CFG.SR_MIN →
    (∀ h < 2, s.running h = true → s.get R.SR_CFG.SR_MIN ≤ s.ltr h) ∧ s.dram.waiting = [] ∧
    (∀ x, s.stagingTolerance (1048576 - s.stagedBytes) = some x → 1000 * s.get R.SR_CFG.SR_MIN ≤ x) ∧
    ∀ k < 8, (s.stream k).layby = []) ∧
  (∀ (t l : Nat) (d : Int) (s : State), Ready s → let w := s.tick t
    let far := w.flag R.MEM_STATUS.MEM_READY = true ∧ w.get R.MEM_CFG.TRACK_THR < d.natAbs
    (far → Completes (.dqsTrack t l d) s (fun u => u = { w with dram := u.dram } ∧
      u.dram.dqsMoved.get 0 l = w.dram.dqsMoved.get 0 l + (if d < 0 then -1 else 1))) ∧
    (¬ far → Acts (.dqsTrack t l d) s w)) ∧
  (∀ (t : Nat) (s : State), Ready s → let w := s.tick t
    let runs := w.flag R.REPLAY_CFG.REPLAY_EN = true ∧ w.flag R.MEM_STATUS.MEM_READY = true ∧ 0 < w.replayIdxRoom
    (¬ runs → Acts (.replayIndexWrite t) s w) ∧
    (runs → let v := replayFlush w
      let at_ := dramBase + 2 ^ 20 * v.get R.REPLAY_IDX.REPLAY_IDX_BASE + 16 * (v.dram.indexWr % v.replayIdxRoom)
      Completes (.replayIndexWrite t) s (fun u => u.load at_ 8 = w.ns % 2 ^ 64 ∧ u.dram.indexWr = v.dram.indexWr + 1 ∧
        u.dram.index.length ≤ v.replayIdxRoom ∧ u.dram.skipped = false ∧
        ∀ a, ¬ (at_ ≤ a ∧ a < at_ + 16) → u.byte a = v.byte a))) ∧
  (∀ (t req : Nat) (s : State), Ready s → let w := s.tick t; Admits w req R.REQ_CTL.addr →
    Acts (.replayStart t req) s (replayStart (w.asked req R.REQ_CTL.REQ_GO 1)) ∧
    Acts (.replayAbort t req) s (replayAbort (w.asked req R.REQ_CTL.REQ_ABORT 1))) ∧
  (∀ s : State, let u := replayStart s; let v := replayAbort s
    (s.flag R.REQ_STATUS.REQ_BUSY = true → u = s.setFlag R.REQ_STATUS.REQ_BUSY_REJ) ∧
    (s.flag R.REQ_STATUS.REQ_BUSY = false → u.flag R.REQ_STATUS.REQ_BUSY = true ∧ ∃ r, u.dram.reader = some r ∧
      r.tag = s.get R.REQ_CTL.REQ_TAG ∧ r.streams = s.get R.REQ_CTL.REQ_STREAMS ∧ r.aborted = false ∧ r.end_ ≤ s.ns ∧
      r.end_ ≤ s.get R.REQ_END_LO.END_LO + 2 ^ 32 * s.get R.REQ_END_HI.END_HI ∧
      s.get R.REQ_START_LO.START_LO + 2 ^ 32 * s.get R.REQ_START_HI.START_HI ≤ r.start) ∧
    (∀ r, s.dram.reader = some r → v = s.setDram { s.dram with reader := some { r with aborted := true } }) ∧
    (s.dram.reader = none → v = s)) ∧
  (∀ (t : Nat) (r : Reader) (s : State), Ready s → let w := s.tick t; w.dram.reader = some r →
    (w.replayCredit = false → Acts (.replaySend t) s w) ∧
    (w.replayCredit = true → let v := replayStore w
      let lost := v.replayFirst - r.next
      let x := if lost = 0 then v else v.setFlag R.REQ_STATUS.OVERRUN
      let r' := { r with next := max r.next v.replayFirst, skipped := r.skipped + lost }
      let c? := x.dram.ring.find? (fun c => decide (r'.next ≤ c.ofs ∧ c.time ≤ r'.end_ ∧ r'.start ≤ c.time) &&
        bit r'.streams (c.stream - 1))
      (r.aborted = true ∨ c? = none → Acts (.replaySend t) s (replayEnd r' x)) ∧
      (∀ c, c? = some c → r.aborted = false →
        let held := x.ringHeld 0x1B (2 ^ 20 * x.get R.REPLAY_BASE.value) (2 ^ 20 * x.get R.REPLAY_SIZE.value) c.ofs c.len
        (held = true → Acts (.replaySend t) s x) ∧ (held = false → Acts (.replaySend t) s (replayOne r' c x))))) ∧
  (∀ (r : Reader) (c : ReplayCopy) (s : State), let u := replayEnd r s
    u.dram.reader = none ∧ u.flag R.REQ_STATUS.REQ_BUSY = false ∧
    (replayOne r c s).dram.reader = some { r with next := c.ofs + c.len, sent := r.sent + 1 }) ∧
  (∀ (t : Nat) (s : State), Ready s → (s.tick t).dram.reader = none → Acts (.replaySend t) s (s.tick t))


/-- R318 to R322, R324 to R327, R329. -/
def Obligations.CaptureArmedTriggeredRead : Prop :=
  (∀ (t req : Nat) (n : Fin 16) (s : State), Ready s → let w := s.tick t; Admits w req R.CAP_ARM.addr →
    ∃ a, a = { w with regs := a.regs } ∧ RegsBut [R.CAP_ARM.addr] w a ∧ a.get R.CAP_ARM.SETUP = n ∧
      Acts (.captureArm t req n) s (capArm n a).1) ∧
  (∀ (n : Nat) (s : State), n < 16 → let u := (capArm n s).1; let busy := s.capState = 1 ∨ s.capState = 2 ∨ s.capState = 4
    (s.capLoaded n = false → capArm n s = (s.setFlag R.CAP_STATUS.ARM_REJ, 2)) ∧
    (s.capLoaded n = true → busy → capArm n s = (s.setFlag R.CAP_STATUS.ARM_REJ, 1)) ∧
    (s.capLoaded n = true → ¬ busy → (capArm n s).2 = 0 ∧ u = { s with regs := u.regs, cap := u.cap } ∧
      u.capState = 1 ∧ u.capSetup = n ∧ u.get R.CAP_NUM.value = (s.get R.CAP_NUM.value + 1) % 2 ^ 32 ∧
      u.get R.CAP_LOST.LOST = 0 ∧ u.cap.stored = 0 ∧ u.cap.samples = 0 ∧ u.cap.trig = none ∧ u.cap.report = none ∧
      u.cap.next = none ∧ u.cap.armTime = s.ns ∧ (∀ k < 16, (u.cslot k).fifo = [] ∧ (u.cslot k).lost = 0) ∧
      RegsBut [R.CAP_STATUS.addr, R.CAP_NUM.addr, R.CAP_LOST.addr] s u)) ∧
  (∀ (t : Nat) (k : Fin 16) (s : State), Ready s → let w := s.tick t; let x := w.cslot k
    (x.fifo = [] → Acts (.captureStore t k) s w) ∧
    (w.capState ≠ 1 → w.capState ≠ 2 → Acts (.captureStore t k) s w) ∧
    (∀ m r, x.fifo = m :: r → w.capState = 1 ∨ w.capState = 2 → let v := w.setCslot k { x with fifo := r }
      let event := w.get (R.CS_SLOT.SRC_KIND w.capSetup k) = 1
      let avg := w.get (R.CS_CTL.AVG_US w.capSetup) ≠ 0
      (event → Acts (.captureStore t k) s (capRecord 1 k false 0 m.at_ m.at_ m.data m.met v)) ∧
      (¬ event → avg → Acts (.captureStore t k) s (capAvgAdd k m v)) ∧
      (¬ event → ¬ avg → Acts (.captureStore t k) s (capRecord 2 k false 1 m.at_ m.at_ m.data m.met v))) ∧
    (∀ m r, x.fifo = m :: r → w.capState = 1 → w.cap.trig = none → w.cap.report = none → w.cap.next = none →
      m.met = 0 → x.lost = 0 →
      let event := w.get (R.CS_SLOT.SRC_KIND w.capSetup k) = 1
      (event ∨ w.get (R.CS_CTL.AVG_US w.capSetup) = 0) →
      let word := capWords (if event then 1 else 2) k false false (if event then 0 else 1) m.at_ m.data
      let at_ := fun (i : Nat) => w.capAddr (w.cap.stored + i)
      let there := fun (i : Nat) => at_ i < dramBase ∨ w.dramMapped (at_ i - dramBase) = true
      ((w.cap.his = [] ∨ ∃ i l, w.cap.his = (i, m.at_ / 2 ^ 32) :: l) → ∃ u, Acts (.captureStore t k) s u ∧
        u = { w with regs := u.regs, mem := u.mem, cap := u.cap, dram := u.dram } ∧ u.cap.stored = w.cap.stored + 1 ∧
        (there 0 → u.load (at_ 0) 16 = word) ∧ (¬ there 0 → u.mem = w.mem) ∧
        (at_ 0 < dramBase → u.regs = w.regs ∧ u.dram = w.dram) ∧
        u.cap.samples = w.cap.samples + 1 ∧ (u.cslot k).fifo = r ∧
        ∀ a, ¬ (at_ 0 ≤ a ∧ a < at_ 0 + 16) → u.byte a = w.byte a) ∧
      (∀ i h l, w.cap.his = (i, h) :: l → h ≠ m.at_ / 2 ^ 32 → ∃ u, Acts (.captureStore t k) s u ∧
        u = { w with regs := u.regs, mem := u.mem, cap := u.cap, dram := u.dram } ∧ u.cap.stored = w.cap.stored + 2 ∧
        (there 1 → u.load (at_ 1) 16 = word) ∧ (there 0 → u.load (at_ 0) 16 = capWords 5 0 false false 0 0 m.at_) ∧
        (at_ 0 < dramBase → at_ 1 < dramBase → u.regs = w.regs ∧ u.dram = w.dram) ∧ u.cap.samples = w.cap.samples + 1 ∧
        (u.cslot k).fifo = r ∧
        ∀ a, ¬ (at_ 0 ≤ a ∧ a < at_ 0 + 16) → ¬ (at_ 1 ≤ a ∧ a < at_ 1 + 16) → u.byte a = w.byte a))) ∧
  (∀ (t : Nat) (k : Fin 16) (s : State), Ready s → let w := s.tick t; let x := w.cslot k
    (w.get (R.CS_CTL.AVG_US w.capSetup) = 0 ∨ w.ns < x.avgEnd → Acts (.captureAvgIntervalEnd t k) s w) ∧
    (w.capState ≠ 1 → w.capState ≠ 2 → Acts (.captureAvgIntervalEnd t k) s w) ∧
    (∀ m r, x.fifo = m :: r → m.at_ < x.avgEnd → Acts (.captureAvgIntervalEnd t k) s w) ∧
    (∀ at_ n sum, x.avg = some (at_, n, sum) → (∀ m r, x.fifo = m :: r → x.avgEnd ≤ m.at_) → w.capState = 1 → w.cap.trig = none → w.cap.report = none →
      w.cap.next = none → x.lost = 0 → 0 < w.get (R.CS_CTL.AVG_US w.capSetup) → x.avgEnd ≤ w.ns →
      let upto := match x.fifo with | m :: _ => min m.at_ w.ns | [] => w.ns
      ∃ u, Acts (.captureAvgIntervalEnd t k) s u ∧
        u = { w with regs := u.regs, mem := u.mem, cap := u.cap, dram := u.dram } ∧ w.cap.stored < u.cap.stored ∧
        (let a := w.capAddr (u.cap.stored - 1)
         a < dramBase ∨ w.dramMapped (a - dramBase) = true → u.load a 16 = capWords 2 k false true n at_ (ofInt 64 sum)) ∧
        u.cap.samples = w.cap.samples + 1 ∧ (u.cslot k).avg = none ∧ upto < (u.cslot k).avgEnd)) ∧
  (∀ (t : Nat) (c : Fin 4) (s : State), Ready s → let w := s.tick t; let n := w.capSetup; let x := w.cap.conds.get {} c
    let a := w.get (R.TC_A.A n c)
    let due := match x.run with | some r => min (x.timer + a) (r + a) | none => x.timer + a
    (w.ns < due ∨ w.get (R.TC_CTL.KIND n c) ≠ 3 → Acts (.captureTimeoutExpiry t c) s w) ∧
    (w.capState ≠ 1 → w.capState ≠ 2 → Acts (.captureTimeoutExpiry t c) s w) ∧
    (due ≤ w.ns → w.get (R.TC_CTL.KIND n c) = 3 → w.capState = 1 ∨ w.capState = 2 →
      let k := w.get (R.TC_CTL.TC_SLOT n c)
      let y := { x with timer := if x.timer + a = due then due else x.timer, run := x.run.map (fun r => if r + a = due then due else r) }
      Acts (.captureTimeoutExpiry t c) s (capRecord 4 k false 0 due due 0 (2 ^ c.val)
        (w.setCap { w.cap with conds := w.cap.conds.put {} c y })) ∧
      (w.capState = 1 → w.cap.trig = none → w.cap.report = none → w.cap.next = none →
        ∃ u g, Acts (.captureTimeoutExpiry t c) s u ∧ g.time = due ∧ bit g.mask c = true ∧
          if w.get (R.CS_SLOT.SRC_KIND n k) = 1 then u.cap.report = some g ∧ u.capState = 1
          else u.cap.trig = some g ∧ 2 ≤ u.capState))) ∧
  (∀ (t : Nat) (s : State), Ready s → let w := s.tick t
    (w.cap.report = none ∨ w.capState ≠ 1 → Acts (.captureTriggerReport t) s w) ∧
    (∀ g, w.cap.report = some g → w.capState = 1 → ∃ u, Acts (.captureTriggerReport t) s u ∧ u.cap.trig = some g ∧
      2 ≤ u.capState ∧ let pre := w.get (R.CS_PRE.PRE w.capSetup)
      u.cap.keptPre ≤ min pre (min g.before (w.capSize - 2 - w.get (R.CS_POST.POST w.capSetup))) ∧
      u.cap.preCut = decide (u.cap.keptPre < min pre g.before))) ∧
  (∀ (t req : Nat) (s : State), Ready s → let w := s.tick t; Admits w req R.CAP_CTL.addr →
    Acts (.capForce t req) s (capForce (w.asked req R.CAP_CTL.CAP_FORCE 1)) ∧
    Acts (.capStop t req) s (capStop (w.asked req R.CAP_CTL.CAP_STOP 1)) ∧
    Acts (.readout t req) s (capReadout (w.asked req R.CAP_CTL.READOUT 1))) ∧
  (∀ s : State, let u := capForce s
    let may := s.capState = 1 ∧ s.flag (R.CS_CTL.FORCE_EN s.capSetup) = true ∧ s.cap.next = none
    (may → u = s.setCap { s.cap with next := some (32, 6, none) }) ∧ (¬ may → u = s)) ∧
  (∀ s : State, let u := capStop s
    (s.capState ≠ 1 → s.capState ≠ 2 → u = s) ∧
    (s.capState = 1 ∨ s.capState = 2 → s.flag R.CAP_CTL.AUTO_READ = false →
      u = { s with regs := u.regs, mem := u.mem, cap := u.cap, dram := u.dram } ∧ u.capState = 3 ∧ u.load captureBase 4 = 0x50414343 ∧ bit (u.load captureBase 8) 39 = true ∧
      (s.cap.isClipped = false → u.dram = s.dram ∧ RegsBut [R.CAP_STATUS.addr] s u))) ∧
  (∀ s : State, let u := capReadout s
    (s.capState ≠ 3 → u = s.setFlag R.CAP_STATUS.ARM_REJ) ∧
    (s.capState = 3 → (u.capState = 3 ∨ u.capState = 4) ∧ u.cap = s.cap ∧ ∀ a < dramBase, u.byte a = s.byte a)) ∧
  (∀ (t setup mask cause time : Nat) (s : State), Ready s → let w := s.tick t
    let may := w.capState = 1 ∧ w.flag (R.CS_CTL.XTRIG_IN w.capSetup) = true ∧ w.cap.next = none
    (may → Acts (.xtrigReceive t setup mask cause time) s (w.setCap { w.cap with next := some (16, 5, some (w.mapNs time)) })) ∧
    (¬ may → Acts (.xtrigReceive t setup mask cause time) s w))


/-- R335. -/
def Obligations.ResultQueueNeverOverwrites : Prop :=
  (∀ (w0 w1 : Nat) (s : State), let u := rqPlace w0 w1 s
    (256 ≤ s.hk.rq.length → u.hk.rq = s.hk.rq ∧ u.hk.gap = true ∧ u.flag R.HK_STATUS.RQ_OVF = true ∧
      u.get R.RQ_DROP_COUNT.DROPS = min (2 ^ 32 - 1) (s.get R.RQ_DROP_COUNT.DROPS + 1) ∧
      u = { s with regs := u.regs, hk := u.hk } ∧ RegsBut [R.HK_STATUS.addr, R.RQ_DROP_COUNT.addr] s u) ∧
    (s.hk.rq.length < 256 → u = { s with hk := u.hk } ∧ u.hk.gap = false ∧
      u.hk.rq = s.hk.rq ++ [(w0 + (if s.hk.gap then 2048 else 0), w1)])) ∧
  (∀ w0 w1 : Nat, w0 + 2048 < 2 ^ 32 → bit w0 11 = false → bit (w0 + 2048) 11 = true)

/-- R333, R338 to R343. -/
def Obligations.HousekeepingMeasures : Prop :=
  (∀ (t : Nat) (k : Fin 8) (code : Fin 4096) (s : State), Ready s → (s.tick t).capState ≠ 1 → (s.tick t).capState ≠ 2 →
    let w := s.tick t; let n := w.hk.outside.get 0 k
    let low := (code : Nat) < w.get (R.SUP_WIN.SUP_LO k)
    let inside := ¬ low ∧ (code : Nat) ≤ w.get (R.SUP_WIN.SUP_HI k)
    let now := w.get R.SUP_STATUS.SUP_NOW
    let dwell := max 1 (w.get R.SUP_DWELL.value)
    (w.flag R.HK_CTL.SUP_EN = false → Acts (.supplyConversion t k code) s w) ∧
    (w.flag R.HK_CTL.SUP_EN = true →
      (inside → ∃ u, Acts (.supplyConversion t k code) s u ∧ u = { w with regs := u.regs, hk := u.hk } ∧
        bit (u.get R.SUP_STATUS.SUP_NOW) k = false ∧ (∀ j < 8, j ≠ k → bit (u.get R.SUP_STATUS.SUP_NOW) j = bit now j) ∧
        u.hk.outside.get 0 k = 0 ∧ RegsBut [R.SUP_STATUS.addr] w u) ∧
      (¬ inside → n + 1 < dwell → ∃ u, Acts (.supplyConversion t k code) s u ∧ u = { w with hk := u.hk } ∧
        u.hk.outside.get 0 k = n + 1) ∧
      (¬ inside → dwell ≤ n + 1 → bit now k = true → ∃ u, Acts (.supplyConversion t k code) s u ∧ u = { w with hk := u.hk }) ∧
      (¬ inside → dwell ≤ n + 1 → bit now k = false → ∃ u, Acts (.supplyConversion t k code) s u ∧
        bit (u.get R.SUP_STATUS.SUP_NOW) k = true ∧ (low → bit (u.get R.SUP_STATUS.SUP_LOW) k = true) ∧
        (¬ low → bit (u.get R.SUP_STATUS.SUP_HIGH) k = true) ∧ u = { w with regs := u.regs, hk := u.hk, su := u.su }))) ∧
  (∀ (t req : Nat) (s : State), Ready s → let w := s.tick t; Admits w req R.HK_CTL.addr → w.flag R.HK_CTL.SEQ_EN = false →
    ∃ u, Acts (.seqStart t req) s u ∧ u = { w with regs := u.regs, hk := u.hk } ∧ u.flag R.HK_CTL.SEQ_EN = true ∧
      u.get R.HK_STATUS.SEQ_POS = 0 ∧ u.hk.seqWord = (w.reg (R.SEQ_ENTRY.addr 0)).toNat ∧
      u.hk.seqLeft = w.get (R.SEQ_ENTRY.REPEAT_M1 0) + 1 ∧
      (w.hk.seqTail = [] → u.hk.seqAt = w.ns + 1000 * w.get (R.SEQ_ENTRY.DELAY 0)) ∧
      RegsBut [R.HK_CTL.addr, R.HK_STATUS.addr] w u) ∧
  (∀ (t code : Nat) (codes : List Nat) (s : State), Ready s → let w := s.tick t; let word := w.hk.seqWord
    let input := word % 64
    let start := w.seqStartAt 128 w.hk.seqAt
    let placed := fun (word start : Nat) (u : State) => w.hk.rq.length < 256 → ∃ w0,
      u.hk.rq = w.hk.rq ++ [(w0, ofInt 32 ((if bit word 6 then 16 else 1) * w.adcCode (word % 64) code))] ∧
      (w.hk.gap = false → w0 = word % 128 + 128 * b2n (w.adcDiff (word % 64)) + 2 ^ 16 * (start / 1000 % 65536))
    let next := fun (from_ : Nat) (u : State) =>
      let e := if w.get R.HK_CTL.SEQ_LAST ≤ w.get R.HK_STATUS.SEQ_POS then 0 else w.get R.HK_STATUS.SEQ_POS + 1
      u.get R.HK_STATUS.SEQ_POS = e ∧ u.hk.seqWord = (w.reg (R.SEQ_ENTRY.addr e)).toNat ∧
        u.hk.seqLeft = w.get (R.SEQ_ENTRY.REPEAT_M1 e) + 1 ∧ u.hk.seqAt = from_ + 1000 * w.get (R.SEQ_ENTRY.DELAY e)
    (∀ v at_ l, w.hk.seqTail = (v, at_) :: l → (w.ns < at_ + 1000 → Acts (.seqEntryRun t codes) s w) ∧
      (at_ + 1000 ≤ w.ns → ∃ u, Acts (.seqEntryRun t [code]) s u ∧ placed v at_ u ∧ u.hk.seqTail = l)) ∧
    (w.hk.seqTail = [] → w.flag R.HK_CTL.SEQ_EN = false → Acts (.seqEntryRun t codes) s w) ∧
    (w.hk.seqTail = [] → w.flag R.HK_CTL.SEQ_EN = true → input < 32 →
      (w.ns < start + 1000 → Acts (.seqEntryRun t codes) s w) ∧
      (start + 1000 ≤ w.ns → ∃ u, Acts (.seqEntryRun t [code]) s u ∧ placed word start u ∧
        (w.hk.seqLeft ≤ 1 → next (start + 1000) u) ∧
        (1 < w.hk.seqLeft → u.hk.seqLeft = w.hk.seqLeft - 1 ∧ u.hk.seqAt = start + 1000 ∧
          u.get R.HK_STATUS.SEQ_POS = w.get R.HK_STATUS.SEQ_POS))) ∧
    (w.hk.seqTail = [] → w.flag R.HK_CTL.SEQ_EN = true → 32 ≤ input → w.ns < w.hk.seqAt → Acts (.seqEntryRun t codes) s w) ∧
    (w.hk.seqTail = [] → w.flag R.HK_CTL.SEQ_EN = true → 40 ≤ input → w.hk.seqAt ≤ w.ns →
      ∃ u, Acts (.seqEntryRun t codes) s u ∧ next w.hk.seqAt u ∧ u = { w with regs := u.regs, hk := u.hk } ∧ u.hk.rq = w.hk.rq) ∧
    (∀ n < 8, w.hk.seqTail = [] → w.flag R.HK_CTL.SEQ_EN = true → input = 32 + n → w.hk.seqAt ≤ w.ns → let x := w.sport n
      let gives := x.made = true ∧ (bit word 7 = false ∨ bit x.tags 8 = false)
      ∃ u, Acts (.seqEntryRun t codes) s u ∧ next w.hk.seqAt u ∧
        (gives → w.hk.rq.length < 256 → ∃ w0, u.hk.rq = w.hk.rq ++ [(w0, w.get (R.SP_OUT.OUT n))] ∧
          (w.hk.gap = false → w0 = input + 128 + x.tags + 2 ^ 16 * (x.at_ / 1000 % 65536))) ∧
        (¬ gives → u.hk.rq = w.hk.rq))) ∧
  (∀ (t req : Nat) (n : Fin 8) (s : State), Ready s → let w := s.tick t; Admits w req (R.SP_CFG.addr n) →
    ¬ (w.get (R.SP_CFG.MLEN n) = 3 ∧ w.get (R.SP_CFG.Q_M1 n) = 2) →
    let expand := fun (u : State) => if w.get (R.SP_CFG.CURVE n) = 0 then u else curveExpand n u
    (w.flag (R.SP_CFG.PORT_EN n) = true → Acts (.portEnable t req n) s (expand (w.asked req (R.SP_CFG.PORT_EN n) 1))) ∧
    (w.flag (R.SP_CFG.PORT_EN n) = false →
      ∃ u, Acts (.portEnable t req n) s (expand u) ∧ u = { w with regs := u.regs, hk := u.hk } ∧
        u.flag (R.SP_CFG.PORT_EN n) = true ∧ (u.sport n).hist = [] ∧ (u.sport n).count = 0 ∧ (u.sport n).made = false ∧
        u.flag (R.SP_STATUS.WIREBREAK n) = false ∧ RegsBut [R.SP_CFG.addr n, R.SP_STATUS.addr n] w u)) ∧
  (∀ (t : Nat) (n : Fin 8) (vs vf : List Int) (comply : Bool) (s : State), Ready s → let w := s.tick t; let x := w.sport n
    let p : Pulse := ⟨vs.zip vf, comply⟩; let sums := w.spSums n p
    let mid := ∃ c, x.change = some c ∧ w.ns < c + w.spPulse n
    let breaks := fun (level : Nat) => (w.setSport n { x with level := level }).spBroken n p = true
    let reported := fun (u : State) => if w.flag (R.SP_CFG.THERMAL n) then portsHold u else u
    (w.flag (R.SP_CFG.PORT_EN n) = false → Acts (.spSample t n vs vf comply) s w) ∧
    (w.flag (R.SP_CFG.PORT_EN n) = true → (mid → breaks x.level) → (¬ mid → breaks (w.get (R.SP_CFG.EXC_LEVEL n))) →
      ∃ u, Acts (.spSample t n vs vf comply) s (reported u) ∧ u.flag (R.SP_STATUS.WIREBREAK n) = true ∧
        u.flag (R.SP_STATUS.WB_SEEN n) = true ∧
        u.geti (R.SP_OUT.OUT n) = sgn 32 (ofInt 32 x.good) ∧ (u.sport n).hist = x.hist ∧ bit (u.sport n).tags 9 = true ∧
        u.get (R.SP_OUT_COUNT.OUTPUTS n) = (w.get (R.SP_OUT_COUNT.OUTPUTS n) + 1) % 2 ^ 32 ∧
        u = { w with regs := u.regs, hk := u.hk, su := u.su }) ∧
    (w.flag (R.SP_CFG.PORT_EN n) = true → mid → ¬ breaks x.level → ∃ u, Acts (.spSample t n vs vf comply) s (reported u) ∧
      u = { w with regs := u.regs, hk := u.hk } ∧ u.flag (R.SP_STATUS.WIREBREAK n) = false ∧ (u.sport n).broken = false ∧
      (u.sport n).hist = x.hist ∧ (u.sport n).change = x.change ∧ RegsBut [R.SP_STATUS.addr n] w u) ∧
    (w.flag (R.SP_CFG.PORT_EN n) = true → ¬ mid → ¬ breaks (w.get (R.SP_CFG.EXC_LEVEL n)) →
      let again := x.broken || x.change.isSome
      let count := if again then 0 else x.count
      ∃ u, Acts (.spSample t n vs vf comply) s (reported u) ∧ u.flag (R.SP_STATUS.WIREBREAK n) = false ∧
        (u.sport n).broken = false ∧ (u.sport n).change = none ∧ (u.sport n).count = count + 1 ∧
        (sums.2.1 ≠ 0 → (u.sport n).hist =
          (spRaw (w.get (R.SP_CFG.GAIN n)) sums.1 sums.2.1 0 :: (if again then [] else x.hist)).take (w.spTaps n)) ∧
        u.get (R.SP_OUT_COUNT.OUTPUTS n) = (if (count + 1) % w.spEvery n = 0 then (w.get (R.SP_OUT_COUNT.OUTPUTS n) + 1) % 2 ^ 32
          else w.get (R.SP_OUT_COUNT.OUTPUTS n)))) ∧
  (∀ (g : Nat) (vs vf f : Int), vf ≠ 0 → let r := spRaw g vs vf f; let x := roundDiv ((2 ^ (22 + g) : Nat) * (vs * vf.sign)) vf.natAbs
    (-8388607 ≤ r.1 ∧ r.1 ≤ 8388607) ∧ (r.2 = false → r.1 = x) ∧
    (r.2 = true → r.1 = 8388607 ∧ 8388607 < x ∨ r.1 = -8388607 ∧ x < -8388607)) ∧
  (∀ (t req : Nat) (n curve : Fin 8) (s : State), Ready s → let w := s.tick t; Admits w req (R.SP_CFG.addr n) →
    ¬ (w.get (R.SP_CFG.MLEN n) = 3 ∧ w.get (R.SP_CFG.Q_M1 n) = 2) → let a := w.asked req (R.SP_CFG.CURVE n) curve
    Acts (.curveExpand t req n curve) s (if (curve : Nat) = 0 ∧ w.get (R.SP_CFG.CURVE n) = 0 then a else curveExpand n a)) ∧
  (∀ (n : Nat) (s : State), n < 8 → let c := s.get (R.SP_CFG.CURVE n); let kind := s.get (R.SP_CFG.KIND n)
    let refuse := (c = 1 ∨ c = 2 ∨ c = 7) ∧ (kind ≠ 0 ∨ s.get (R.SP_REF.REF_CENTI n) = 0) ∨ (3 ≤ c ∧ c ≤ 6) ∧ kind ≠ 2
    let v := (s.setSport n { s.sport n with curveOf := s.curveArgs n, curveSet := none }).clrFlag (R.SP_STATUS.CURVE_BUSY n)
    (c = 0 → curveExpand n s = v) ∧ (c ≠ 0 → refuse → curveExpand n s = v.setFlag (R.SP_STATUS.CFG_REJ n)) ∧
    (c ≠ 0 → ¬ refuse → curveExpand n s = v.setFlag (R.SP_STATUS.CURVE_BUSY n))) ∧
  (∀ (t : Nat) (n : Fin 8) (s : State), Ready s → let w := s.tick t
    (w.flag (R.SP_STATUS.CURVE_BUSY n) = false → Acts (.curveExpandDone t n) s w) ∧
    (w.flag (R.SP_STATUS.CURVE_BUSY n) = true → ∃ u, Acts (.curveExpandDone t n) s u ∧
      u = { w with regs := u.regs, hk := u.hk } ∧ u.flag (R.SP_STATUS.CURVE_BUSY n) = false ∧
      (u.sport n).curveSet = some ((List.range 18).map (Config.curveFit (w.sport n).curveOf)) ∧
      u.flag (R.SP_STATUS.CURVE_DONE n) = true ∧ (50 < u.get (R.SP_FIT.FIT_ERR n) → u.flag (R.SP_STATUS.FIT_WARN n) = true) ∧
      RegsBut [R.SP_STATUS.addr n, R.SP_FIT.addr n] w u))


/-- R346, R348 to R353, R386. -/
def Obligations.TemperaturesSupervised : Prop :=
  (∀ (t : Nat) (l : List (Nat × Nat × Int)) (s : State), let w := s.tick t
    (w.su.power = .inReset → Acts (.sensorConversion t l) s w) ∧ Acts (.sensorConversion t l) s (sensorConversion l w)) ∧
  (∀ (d k : Nat) (v : Int) (s : State), d ∈ s.sensorDies → k < sensorCount d → -32768 ≤ v → v ≤ 32767 →
    let u := takeReading (d, k, v) s
    u.geti (if d = 0 then R.HUB_TEMP.READING k else R.DIE_TEMP.READING d k) = v ∧ u.reading d k = v) ∧
  (∀ s : State, let u := temperatures s; let l := s.validReadings s.sensorDies
    (∀ x ∈ l, -32768 ≤ x.2.2 ∧ x.2.2 ≤ 32767) → l ≠ [] →
    (∀ x ∈ l, x.2.2 ≤ u.tPart) ∧ ∃ x ∈ l, u.tPart = x.2.2) ∧
  (∀ (n : Nat) (v : Int), (n < 2 → thermalCap n v = 4095) ∧
    (2 ≤ n → (v ≤ 1920 → thermalCap n v = 4095) ∧ (2032 ≤ v → thermalCap n v = 0) ∧
      (1920 ≤ v → v ≤ 2032 → (112 * thermalCap n v : Nat) ≤ 4095 * (2032 - v) ∧ 4095 * (2032 - v) < 112 * (thermalCap n v + 1 : Nat)))) ∧
  (∀ (t : Nat) (s : State), Ready s → let w := s.tick t; let old := w.get R.THERM_STATUS.LEVEL; let new := w.levelNext old
    (new = old → Acts (.thermalLevelChange t) s w) ∧
    (new ≠ old → new < 4 → ¬ (new = 3 ∧ old < 3) → ∃ u, Acts (.thermalLevelChange t) s u ∧
      u.get R.THERM_STATUS.LEVEL = new ∧ u.flag R.THERM_STATUS.WARN = decide (1 ≤ new) ∧
      u.get R.THERMAL_CAP.CAP = thermalCap new w.tPart ∧ u = { w with regs := u.regs, su := u.su, seqs := u.seqs }) ∧
    (new = 3 → old < 3 → w.therm.stop = none → ∃ u, Acts (.thermalLevelChange t) s u ∧
      u.flag R.THERM_STATUS.ORDERLY_STOP = true ∧ ∃ x, u.therm.stop = some x ∧ x.at_ = w.ns) ∧
    (new = 3 → old < 3 → w.therm.stop.isSome = true → ∃ u, Acts (.thermalLevelChange t) s u ∧
      u.get R.THERM_STATUS.LEVEL = 3 ∧ u.therm.stop = w.therm.stop) ∧
    (new = 4 → old ≠ 4 → ∃ u, Acts (.thermalLevelChange t) s u ∧ u.su.power = .shutdown ∧
      u.get R.LAST_SHUT.SHUT_CAUSE = (if w.therm.stop.isSome then 5 else if 2032 ≤ w.tPart then 1 else 2) ∧
      u.flag R.GUARD_STATUS.EMEN_P_OUT = false ∧ u.flag R.GUARD_STATUS.EMEN_H_OUT = false ∧ u.sec.programming = none)) ∧
  (∀ (t : Nat) (s : State), Ready s → let w := s.tick t
    (∀ x, w.therm.stop = some x → x.parked = true → ∃ u, Acts (.orderlyStopRecords t) s u ∧ u.su.power = .shutdown ∧
      u.get R.LAST_SHUT.SHUT_CAUSE = 4 ∧ u.get R.SHUT_COUNT.SHUTS = min (2 ^ 32 - 1) (w.get R.SHUT_COUNT.SHUTS + 1) ∧
      u.flag R.GUARD_STATUS.EMEN_P_OUT = false ∧ u.flag R.GUARD_STATUS.EMEN_H_OUT = false) ∧
    ((w.therm.stop = none ∨ ∃ x, w.therm.stop = some x ∧ x.parked = false) → Acts (.orderlyStopRecords t) s w)) ∧
  (∀ (t : Nat) (s : State), let w := s.tick t
    let may := w.su.power = .shutdown ∧ w.therm.mayRestart = true ∧ ∃ c, w.therm.coolSince = some c ∧ c + 2000000000 ≤ w.ns
    (¬ may → Acts (.thermalRestart t) s w) ∧
    (may → ∃ u, Acts (.thermalRestart t) s u ∧ u.now = w.now ∧ u.get R.RST_STATUS.RST_CAUSE = 3 ∧
      u.su.power = (if w.su.nrst then .running else .inReset) ∧ u.su.errs = [] ∧
      u.reg R.LAST_SHUT.addr = w.reg R.LAST_SHUT.addr ∧ u.reg R.SHUT_COUNT.addr = w.reg R.SHUT_COUNT.addr ∧
      u.reg (R.FRAME_COUNT.addr 0) = w.reg (R.FRAME_COUNT.addr 0)))

/-- R355, R356, R358 to R361. -/
def Obligations.CalibrationRuns : Prop :=
  (∀ (t req : Nat) (s : State), Ready s → let w := s.tick t; Admits w req R.THERM_CTL.addr →
    Acts (.calNow t req) s (calNow (w.asked req R.THERM_CTL.CAL_NOW 1))) ∧
  (∀ (d : Nat) (s : State), 1 ≤ d → d < 8 → let u := calNow s
    (s.dieUp d = true → (s.calDie d).due = none → (u.calDie d).due = some s.ns ∧ u.flag (R.DIE_CAL.CAL_DUE d) = true) ∧
    ((s.dieUp d = false ∨ (s.calDie d).due.isSome = true) → u.calDie d = s.calDie d)) ∧
  (∀ (t d : Nat) (s : State), Ready s → let w := s.tick t
    (w.calRuns d = false → Acts (.calGroupStart t d) s w) ∧
    Acts (.calGroupStart t d) s (calStart d w) ∧
    (w.calRuns d = true → w.running 0 = false → w.running 1 = false → (w.calDie d).active = [] →
      (w.head 0).calLine = none → (w.head 1).calLine = none → ∃ u, Acts (.calGroupStart t d) s u ∧
      u = { w with therm := u.therm } ∧
      (u.calDie d).active = ((w.calLeft d).take 1).map (fun g => (g, w.ns, w.ns + 20000)))) ∧
  (∀ (d h : Nat) (s : State), let u := calFlyback d h s; let phi := (s.drv h).phi
    (s.running h = false ∨ s.now < phi + fineUs 20 ∨ phi + fineUs 40 < s.now ∨ (s.calDie d).used.get none h = some phi → u = s) ∧
    ∃ l, (u.calDie d).active = (s.calDie d).active ++ l ∧ l.length ≤ 2 ∧
      ∀ x ∈ l, s.groupRuns d x.1 = some h ∧ s.groupOpen d x.1 (phi + fineUs 20) = false ∧ x.2.2 = x.2.1 + 20000) ∧
  (∀ (t d g c q : Nat) (v : Int) (s : State), Ready s → 1 ≤ d → d < 8 → g < 16 → chDie c = d → chGroup c = g → q < 4 →
    let w := s.tick t; let x := w.calDie d; let done := w.get (R.DIE_CAL.GROUPS_DONE d) ||| 2 ^ g
    (x.active.find? (fun a => a.1 = g) = none → Acts (.calGroup t d g [(c, q, v)]) s w) ∧
    (∀ a, x.active.find? (fun a => a.1 = g) = some a →
      (w.ns < a.2.2 → Acts (.calGroup t d g [(c, q, v)]) s w) ∧
      (a.2.2 ≤ w.ns → ∃ u, Acts (.calGroup t d g [(c, q, v)]) s u ∧
        u.therm.targets.get none (4 * c + q) = some v ∧ (∀ b ∈ (u.calDie d).active, b.1 ≠ g) ∧
        (done ≠ 0xFFFF → u.get (R.DIE_CAL.GROUPS_DONE d) = done ∧ (u.calDie d).due = x.due) ∧
        (done = 0xFFFF → u.get (R.DIE_CAL.GROUPS_DONE d) = 0 ∧ (u.calDie d).due = none ∧
          u.flag (R.DIE_CAL.CAL_DUE d) = false ∧ u.get R.CAL_COUNT.value = (w.get R.CAL_COUNT.value + 1) % 2 ^ 32 ∧
          u.get (R.DIE_CAL_COUNT.RUNS d) = (w.get (R.DIE_CAL_COUNT.RUNS d) + 1) % 2 ^ 32 ∧
          u.get R.CAL_LAST_LO.LAST_LO + 2 ^ 32 * u.get R.CAL_LAST_HI.LAST_HI = w.ns % 2 ^ 64)))) ∧
  (∀ (t d : Nat) (s : State), Ready s → let w := s.tick t
    ((w.calDie d).due = none → Acts (.calUrgent t d) s w) ∧
    (∀ a, (w.calDie d).due = some a → let gs := fun (h : Nat) => (w.calLeft d).filter (fun g => w.groupRuns d g = some h)
      (w.calRuns d = false ∨ w.ns < a + 1000000 * w.get R.THERM_CTL.CAL_URGENT → Acts (.calUrgent t d) s w) ∧
      (w.calRuns d = true → a + 1000000 * w.get R.THERM_CTL.CAL_URGENT ≤ w.ns → ∃ u, Acts (.calUrgent t d) s u ∧
        u = { w with heads := u.heads } ∧ ∀ h < 2, (gs h = [] → u.head h = w.head h) ∧
          (gs h ≠ [] → ∃ l, (u.head h).calNext = some l ∧ ∀ g ∈ gs h, partGroup d g ∈ l)))) ∧
  (∀ (t : Nat) (h : Fin 2) (found : List (Nat × Int)) (s : State), Ready s → let w := s.tick t; let b := takeBounds found w
    (w.running h = true → Acts (.trimStepNoFormat t ⟨h, found⟩) s b) ∧
    (w.running h = false → Acts (.trimStepNoFormat t ⟨h, found⟩) s (stepTrims h b)) ∧
    (w.flag R.THERM_CTL.INTERP_CAL_EN = false → b = w) ∧
    (w.flag R.THERM_CTL.INTERP_CAL_EN = true → b = { w with therm := b.therm } ∧
      ∀ k aim, found = [(k, aim)] → b.therm.interpTo = w.therm.interpTo.put 0 k aim)) ∧
  (∀ (h k : Nat) (aim : Int) (s : State), k < 5376 → s.therm.targets = [(k, some aim)] →
    s.flag R.THERM_CTL.INTERP_CAL_EN = false →
    stepTrims h s = if s.trimHeadOf (k / 4) = h ∧ (s.flag R.THERM_CTL.CMP_CAL_EN = true ∨ 2 ≤ k % 4) then stepTrim k s else s) ∧
  (∀ (h k : Nat) (aim : Int) (s : State), s.therm.targets = [] → s.therm.interpTo = [(k, aim)] →
    s.flag R.THERM_CTL.INTERP_CAL_EN = true → (stepTrims h s).therm.interp.get 0 k =
      if s.interpHead (k / 4096) = h then stepTo (s.therm.interp.get 0 k) aim else s.therm.interp.get 0 k) ∧
  (∀ (h : Nat) (s : State), h < 2 → let l := s.therm.residuals.get [] h; let u := refStep h s
    (s.flag R.THERM_CTL.REF_CAL_EN = false ∨ l = [] → u = s) ∧
    (s.flag R.THERM_CTL.REF_CAL_EN = true → l ≠ [] → ∀ m : Int, m = roundDiv l.sum l.length → -32768 ≤ m → m ≤ 32767 →
      u.geti (R.REF_STATUS.REF_OFS h) = stepTo (s.geti (R.REF_STATUS.REF_OFS h)) m ∧ RegsBut [R.REF_STATUS.addr h] s u)) ∧
  (∀ (k : Nat) (aim : Int) (s : State), let u := stepTrim k s
    (s.therm.targets.get none k = none → u = s) ∧
    (s.therm.targets.get none k = some aim → k % 4 < 2 → u.trim (k / 4) (k % 4) = stepTo (s.trim (k / 4) (k % 4)) (clampInt (-512) 511 aim)) ∧
    (s.therm.targets.get none k = some aim → 2 ≤ k % 4 → u.trim (k / 4) (k % 4) = stepTo (s.trim (k / 4) (k % 4)) aim)) ∧
  (∀ v aim : Int, (v = aim → stepTo v aim = v) ∧
    (v ≠ aim → (stepTo v aim - aim).natAbs + 1 = (v - aim).natAbs ∧ (stepTo v aim - v).natAbs = 1)) ∧
  (∀ (t : Nat) (h : Fin 2) (s : State), Ready s → let w := s.tick t; let phi := (w.drv h).phi
    let on := w.flag R.THERM_CTL.REF_CAL_EN = true ∧ w.running h = true ∧ phi + fineUs 60 ≤ w.now ∧ w.therm.refPhi.get none h ≠ some phi
    let o := refOp w h
    (¬ on → Acts (.refOpIssue t h) s w) ∧
    (on → ∃ u, Acts (.refOpIssue t h) s u ∧ u.therm.refPhi.get none h = some phi ∧
      (w.chFitted o.chan = true → w.declineReason o false false = none →
        ∃ k p, u.op (chDie o.chan) k = some p ∧ p.ref = some (h : Nat) ∧ p.v0 = phi / 128 + 60000 ∧ p.st = .issued) ∧
      (w.chFitted o.chan = false → u.get (R.REF_STATUS.REF_SKIP h) = min (2 ^ 16 - 1) (w.get (R.REF_STATUS.REF_SKIP h) + 1)) ∧
      (∀ r, w.chFitted o.chan = true → w.declineReason o false false = some r →
        u.get (R.REF_STATUS.REF_SKIP h) = min (2 ^ 16 - 1) (w.get (R.REF_STATUS.REF_SKIP h) + 1))))


/-- R48, R364, R372, R374, R379 to R381. -/
def Obligations.RecordsQuotesAndChanges : Prop :=
  (∀ (t : Nat) (s : State), Ready s → let w := s.tick t; let due := w.sec.hoursAt + 360 * 128000000000
    (w.now < due → Acts (.poweredHoursWrite t) s w) ∧
    (due ≤ w.now → ∃ u, Acts (.poweredHoursWrite t) s u ∧ u = { w with regs := u.regs, sec := u.sec } ∧
      u.get R.POWERED_HOURS.value = (w.get R.POWERED_HOURS.value + 1) % 2 ^ 32 ∧ u.sec.hoursAt = due ∧
      RegsBut [R.POWERED_HOURS.addr] w u)) ∧
  (∀ (t : Nat) (r : NvRecord) (s : State), Ready s → let w := s.tick t
    let known := match r with | .comparator d => w.dieFitted d = true | .interpolator d => d = 0 ∨ w.dieFitted d = true | _ => True
    (¬ known → Acts (.nvRecordWrite t r) s w) ∧ (known → Acts (.nvRecordWrite t r) s (nvWrite r w))) ∧
  (∀ (r : NvRecord) (s : State), let u := nvWrite r s; let p := s.nvPair (recId r)
    let waits := ∃ a, (r, a) ∈ s.sec.toWrite
    let older := ∃ x l, s.pts.obs = x :: l ∧ x.at_ < s.ns
    (waits → u = s) ∧
    (¬ waits → s.sec.programming.isSome = true ∨ (s.sec.toWrite = [] ∧ older) → u.sec.toWrite = s.sec.toWrite ++ [(r, s.ns)] ∧
      u = { s with sec := { s.sec with toWrite := u.sec.toWrite } }) ∧
    (s.sec.toWrite = [] → s.sec.programming = none → ¬ older → ∃ b x, u.sec.programming = some (recId r, b, x) ∧
      u.sec.toWrite = [] ∧ x.valid = true ∧ x.id = recId r ∧ x.len = (s.nvPayload r).1 ∧ x.val = (s.nvPayload r).2 ∧ (u.nvPair (recId r)).slot (!b) = p.slot (!b) ∧
      ((u.nvPair (recId r)).slot b).valid = false ∧
      ∀ c, p.newer = some c → b = !c ∧ x.seq = ((p.slot c).seq + 1) % 2 ^ 32)) ∧
  (∀ (t : Nat) (s : State), Ready s → let w := s.tick t
    (w.sec.programming = none → Acts (.nvProgramDone t) s w) ∧
    (∀ id b x, w.sec.programming = some (id, b, x) → ∃ u, Acts (.nvProgramDone t) s (nvBegin u) ∧
      u = { w with sec := u.sec } ∧ u.sec.programming = none ∧ u.sec.toWrite = w.sec.toWrite ∧
      (w.sec.toWrite = [] → nvBegin u = u) ∧ (u.nvPair id).slot b = x ∧
      (u.nvPair id).slot (!b) = (w.nvPair id).slot (!b) ∧ ∀ k, k ≠ id → u.nvPair k = w.nvPair k)) ∧
  (∀ (t req : Nat) (s : State), Ready s → let w := s.tick t
    Acts (.attGo t req) s (attGo (w.asked req R.ATT_CTL.ATT_GO 1)) ∧
    Acts (.ledgGo t req) s (ledgGo (w.asked req R.LEDG_CTL.LEDG_GO 1))) ∧
  (∀ s : State, let u := attGo s
    (s.flag R.SEC_STATUS.ATT_BUSY = true → u = s.setFlag R.SEC_STATUS.ATT_REJ) ∧
    (s.flag R.SEC_STATUS.ATT_BUSY = false → u.flag R.SEC_STATUS.ATT_BUSY = true ∧ ∃ q, u.sec.quote = some q ∧
      q % 2 ^ 64 = 0x1544F5551 ∧ slice q 16 32 = s.getWords R.ATT_NONCE.addr 8)) ∧
  (∀ (t : Nat) (s : State), Ready s → let w := s.tick t
    (w.sec.quote = none → Acts (.attDone t) s w) ∧
    (∀ v, w.sec.quote = some v → ∃ u, Acts (.attDone t) s u ∧ u.load 0x53000 408 = v % 2 ^ 3264 ∧
      u.flag R.SEC_STATUS.ATT_BUSY = false ∧ u.sec.quote = none ∧
      ∀ a, ¬ (0x53000 ≤ a ∧ a < 0x53000 + 408) → u.byte a = w.byte a)) ∧
  (∀ (t req : Nat) (s : State), Ready s → req ≤ 2 → let w := s.tick t; let x := w.sess req; let r := x.authRole
    let msg := bytesOf 32 (wordsNat ((List.range 8).map (w.chalWord req))) ++ bytesOf 8 devSerial ++ [req, r]
    let ok := w.roleKey r ≠ 0 ∧ edVerify (w.roleKey r) x.sig msg = true
    (r < 4 → ∃ u, Acts (.authGo t req) s u ∧ (ok → (u.sess req).role = some r ∧ (u.sess req).fail = x.fail) ∧
      (¬ ok → (u.sess req).role = none ∧ (u.sess req).fail = true) ∧ (u.sess req).chal = some w.fresh ∧
      u.fresh = w.fresh + 8 ∧ ∀ q, q ≠ req → u.sess q = w.sess q) ∧
    (∃ u, Acts (.sessEnd t req) s u ∧ (u.sess req).role = none ∧ u.fresh = w.fresh ∧ ∀ q, q ≠ req → u.sess q = w.sess q)) ∧
  (∀ (t req : Nat) (s : State), Ready s → 2 < req → let w := s.tick t
    Acts (.authGo t req) s (w.asked req R.AUTH_CTL.AUTH_GO 1) ∧ Acts (.sessEnd t req) s (w.asked req R.AUTH_CTL.SESS_END 1)) ∧
  (∀ s : State, let u := ledgGo s; let h := s.load stagingBase 160
    let v := s.load (stagingBase + 160) (min 16224 (word32 h 2))
    let r := s.ledgTest h v
    (s.flag R.SEC_STATUS.LEDG_BUSY = true → u = s.put R.LEDG_RESULT.RESULT 9) ∧
    (s.flag R.SEC_STATUS.LEDG_BUSY = false → r ≠ 0 → u = s.put R.LEDG_RESULT.RESULT r) ∧
    (s.flag R.SEC_STATUS.LEDG_BUSY = false → r = 0 → u.get R.LEDG_RESULT.RESULT = 0 ∧
      u.get R.LEDG_RESULT.ENTRY = s.ledgerCount ∧ u.flag R.SEC_STATUS.LEDG_BUSY = true ∧ ∃ c, u.sec.change = some c ∧
      c.setting = bits (word32 h 1) 0 8 ∧ settingRole c.setting c.role = true ∧ c.val = v ∧ c.entry = s.ledgerCount ∧
      ∀ m, settingLimit c.setting = some m → s.sec.fuses.get 0 c.setting < m)) ∧
  (∀ (t : Nat) (s : State), Ready s → let w := s.tick t; let n := w.ledgerCount; let at_ := ledgerBase + 256 * n
    (w.sec.change = none → Acts (.ledgerChangeDone t) s w) ∧
    (∀ c, w.sec.change = some c → c.hash < 2 ^ 512 → ∃ u, Acts (.ledgerChangeDone t) s u ∧ u.sec.change = none ∧
      u.flag R.SEC_STATUS.LEDG_BUSY = false ∧ u.ledgerCount = (n + 1) % 2 ^ 14 ∧ u.stored c.setting = some c.val ∧
      u.sec.fuses.get 0 c.setting = w.sec.fuses.get 0 c.setting + (if (settingLimit c.setting).isSome then 1 else 0) ∧
      u.load at_ 4 = n ∧ slice (u.load at_ 256) 32 64 = c.hash ∧ slice (u.load at_ 256) 96 64 = w.ledgerHead % 2 ^ 512 ∧
      ∀ a, ¬ (at_ ≤ a ∧ a < at_ + 256) → u.byte a = w.byte a))


/-- R394, R396 to R399. -/
def Obligations.ErrorsEscalate : Prop :=
  (∀ (cls detail : Nat) (f : Field) (s : State), cls < 18 → let u := enterErr cls detail f s
    let opened := s.su.openErrs
    let esc := opened.any (fun e => e.cls = cls)
    let sev := if esc then min 2 (s.get (R.ERR_CLASS_CFG.SEV cls) + 1) else s.get (R.ERR_CLASS_CFG.SEV cls)
    u = { s with regs := u.regs, su := u.su } ∧ u.su.eseq = (s.su.eseq + 1) % 2 ^ 32 ∧
    (s.su.wantSafe = false → (u.su.wantSafe = true ↔ sev = 2 ∧ (64 ≤ s.su.errs.length ∨ opened ≠ []))) ∧
    u.get (R.ERR_COUNT.COUNT cls) = min (2 ^ 16 - 1) (s.get (R.ERR_COUNT.COUNT cls) + 1) ∧
    (s.su.errs.length < 64 → ∃ e, u.su.errs = s.su.errs ++ [e] ∧ e.cls = cls ∧ e.sev = sev ∧ e.escalated = esc ∧
      e.depth = opened.length ∧ e.detail = detail ∧ e.src = f.addr ∧ e.bit = f.lo ∧ e.eseq = s.su.eseq % 2 ^ 32 ∧
      e.time = s.ns ∧ e.acked = false) ∧
    (64 ≤ s.su.errs.length → u.su.errs = s.su.errs ∧ u.flag R.ERR_STATUS.ERR_FULL = true ∧
      u.get (R.ERR_COUNT.LOST cls) = min (2 ^ 16 - 1) (s.get (R.ERR_COUNT.LOST cls) + 1))) ∧
  (∀ (t : Nat) (s : State), Ready s → let w := s.tick t; let due := 1000000 * max 1 (w.get R.ERR_CFG.AUTO_ACK_MS)
    ∃ u, Acts (.errorAutoAck t) s u ∧ u = { w with su := { w.su with errs := u.su.errs } } ∧
      u.su.errs.length = w.su.errs.length ∧ ∀ (i : Nat) (e : ErrEntry), w.su.errs[i]? = some e →
        u.su.errs[i]? = some { e with acked := e.acked || (w.flag (R.ERR_CLASS_CFG.AUTO e.cls) && decide (e.time + due ≤ w.ns)) }) ∧
  (∀ (t : Nat) (s : State), Ready s → let w := s.tick t; let due := 1000000 * max 1 (w.get R.ERR_CFG.FATAL_MS)
    let over_ := ∃ e ∈ w.su.openErrs, e.sev = 2 ∧ e.time + due ≤ w.ns
    (over_ → Completes (.fatalTimeout t) s (fun u => u.safe = true ∧ u.su.wantSafe = false)) ∧
    (¬ over_ → exec (.fatalTimeout t) s = .next w)) ∧
  (∀ (t req : Nat) (s : State), Ready s → let w := s.tick t; Admits w req R.ERR_CTL.addr →
    let a := w.asked req R.ERR_CTL.ERR_POP 1
    Acts (.errPop t req) s { a with su := { a.su with errs := a.su.errs.tail } }) ∧
  (∀ s : State, s.su.wantSafe = true → let u := settle s
    u.safe = true ∧ u.su.wantSafe = false ∧ (s.safe = false → u.su.safeAt = some s.now ∧ ∀ n < 8, u.sqLive n = false) ∧
    (s.safe = true → u = { s with su := { s.su with wantSafe := false } }))

/-- R277, R370, R383, R386, R388 to R393, R400. -/
def Obligations.ResetsAndStartup : Prop :=
  (∀ (c : Nat) (s : State), let u := takeReset c s
    u.su.power = .inReset ∧ u.now = s.now ∧ u.pending = s.pending ∧ u.variant = s.variant ∧ u.su.errs = [] ∧ u.safe = false ∧
    (c < 4 → u.get R.RST_STATUS.RST_CAUSE = c) ∧ u.get R.RST_STATUS.BOOT_STAGE = 1 ∧ u.permitted = false ∧
    u.flag R.GUARD_STATUS.EMEN_P_OUT = false ∧ u.flag R.GUARD_STATUS.EMEN_H_OUT = false ∧ u.guardState = 0 ∧
    (∀ a, ledgerBase ≤ a → a < ledgerBase + 0x200000 → u.byte a = s.byte a) ∧
    (∀ a, dataBase ≤ a ∧ a < egressBase ∨ captureBase ≤ a ∧ a < sramEnd →
      (c = 1 ∨ c = 2 → u.byte a = s.byte a) ∧ (c = 0 ∨ c = 3 → u.byte a = memDefault a)) ∧
    (c ≠ 0 → ∀ r ∈ [R.LAST_SHUT.addr, R.SHUT_COUNT.addr, R.FRAME_COUNT.addr 0, R.FRAME_COUNT.addr 1, R.POWER_CYCLES.addr,
        R.GUARD_TRIP_COUNT.addr, R.NRST_STUCK_COUNT.addr], u.reg r = s.reg r) ∧ u.flag R.TW_STATUS.UNIT = s.flag R.TW_STATUS.UNIT) ∧
  (∀ (t : Nat) (k : Fin 4) (s : State), ∃ u, Acts (.undervoltageTrip t k) s { u with su := { u.su with noSupply := true } } ∧
    u = takeReset 0 (nvCut false (s.tick t)) ∧ u.sec.programming = none) ∧
  (∀ (t : Nat) (p : Bool) (s : State), let w := s.tick t
    (w.su.noSupply = false → Acts (.powerOnReset ⟨t, p⟩) s w) ∧
    (w.su.noSupply = true → ∃ u, Acts (.powerOnReset ⟨t, p⟩) s u ∧ u.flag R.TW_STATUS.UNIT = p ∧ u.now = 0 ∧ u.su.noSupply = false ∧
      u.get R.POWER_CYCLES.CYCLES = (w.get R.POWER_CYCLES.CYCLES + 1) % 2 ^ 32 ∧
      (w.su.nrst = true → u.su.power = .running) ∧ (w.su.nrst = false → u.su.power = w.su.power) ∧
      RegsBut [R.POWER_CYCLES.addr, R.TW_STATUS.addr] w u ∧ u.mem = w.mem)) ∧
  (∀ (t : Nat) (s : State), let w := s.tick t
    Acts (.nrstFall t) s { w with su := { w.su with nrst := false, nrstFell := w.now } } ∧
    let takes := w.su.nrst = false ∧ w.flag R.RST_STATUS.NRST_STUCK = false ∧ w.su.noSupply = false ∧ w.su.power ≠ .inReset ∧
      w.su.nrstFell + 103680 ≤ w.now
    (takes → Acts (.pinReset t) s (takeReset 1 w)) ∧ (¬ takes → Acts (.pinReset t) s w) ∧
    ∃ u, Acts (.nrstRelease t) s u ∧ u = { w with su := u.su } ∧ u.su.nrst = true ∧ u.su.nrstRose = w.now ∧
      u.su.power = (if w.su.power = .inReset ∧ w.su.noSupply = false then .running else w.su.power)) ∧
  (∀ (t : Nat) (s : State), let w := s.tick t
    let long := w.su.nrst = false ∧ w.su.noSupply = false ∧ w.su.power = .inReset ∧ max w.su.nrstFell w.su.porAt + fineMs 10000 ≤ w.now
    (¬ long → Acts (.nrstStuck t) s w) ∧
    (long → ∃ u, Acts (.nrstStuck t) s u ∧ u.su.power = .running ∧ u.flag R.RST_STATUS.NRST_STUCK = true ∧
      u.get R.RST_STATUS.RST_CAUSE = 1 ∧ (14, 0) ∈ u.guard.holds ∧
      u.get R.NRST_STUCK_COUNT.STUCKS = min (2 ^ 32 - 1) (w.get R.NRST_STUCK_COUNT.STUCKS + 1))) ∧
  (∀ (t : Nat) (s : State), let w := s.tick t
    let over_ := w.flag R.RST_STATUS.NRST_STUCK = true ∧ w.su.nrst = true ∧ w.su.nrstRose + fineMs 100 ≤ w.now
    (¬ over_ → Acts (.nrstStuckEnd t) s w) ∧
    (over_ → ∃ u, Acts (.nrstStuckEnd t) s u ∧ u.flag R.RST_STATUS.NRST_STUCK = false ∧ (14, 0) ∉ u.guard.holds)) ∧
  (∀ (t req : Nat) (s : State), Ready s → let w := s.tick t; Admits w req R.RST_CTL.addr → let a := w.asked req R.RST_CTL.RECOVER 1
    (req ≤ 2 → Acts (.recover t req) s (release (takeReset 2 a))) ∧ (2 < req → Acts (.recover t req) s a)) ∧
  (∀ s : State, (release s).su.power = .running ∧ release s = { s with su := (release s).su }) ∧
  (∀ (t : Nat) (x : StageWork) (s : State), Ready s → let w := s.tick t
    let n := match x with | .rom _ => 1 | .guard _ => 2 | .config => 3 | .dies _ => 4 | .memory _ => 5 | .images => 6 | .calibration _ => 7 | .ready => 8
    let takes := w.stage = n ∧ w.flag R.RST_STATUS.BOOT_RECOVERY = false ∧ w.flag R.RST_STATUS.STARTUP_DONE = false
    (¬ takes → Acts (.startupStage t x) s w) ∧
    (takes → 2 ≤ n → n < 8 → ∃ u, Acts (.startupStage t x) s u ∧ u.stage = n + 1) ∧
    (takes → n = 8 → ∃ u, Acts (.startupStage t x) s u ∧ u.flag R.RST_STATUS.STARTUP_DONE = true ∧
      u.get R.STARTUP_TIME_LO.READY_LO + 2 ^ 32 * u.get R.STARTUP_TIME_HI.READY_HI = w.ns % 2 ^ 64) ∧
    (∀ f, x = .rom f → takes → ∃ u, Acts (.startupStage t x) s u ∧
      (u.stage = 2 ∨ u.stage = 1 ∧ u.flag R.RST_STATUS.BOOT_RECOVERY = true)))
end

