-- ==== Sys2Proof/Laws/Store.lean ====
section
/-! SUPPORT. Laws of the sparse table: a read after a write, and the canonical form that every operation keeps. -/

namespace Sys2Proof

variable {α : Type}

theorem SMap.get_erase (m : SMap α) (d : α) (k j : Nat) :
    SMap.get (SMap.erase m k) d j = if j = k then d else SMap.get m d j := by
  induction m with
  | nil => simp [SMap.erase, SMap.get]
  | cons p r ih =>
    obtain ⟨i, v⟩ := p
    simp only [SMap.erase]
    by_cases hi : i = k
    · rw [if_pos hi, ih]
      by_cases hj : j = k
      · rw [if_pos hj, if_pos hj]
      · rw [if_neg hj, if_neg hj, SMap.get, if_neg (by omega)]
    · rw [if_neg hi, SMap.get, SMap.get, ih]
      by_cases hj : i = j
      · rw [if_pos hj, if_pos hj, if_neg (by omega)]
      · rw [if_neg hj, if_neg hj]

theorem SMap.get_erase_other (m : SMap α) (d : α) (k j : Nat) (h : j ≠ k) :
    SMap.get (SMap.erase m k) d j = SMap.get m d j := by
  rw [SMap.get_erase, if_neg h]

theorem SMap.get_insert (m : SMap α) (d : α) (k j : Nat) (v : α) :
    SMap.get (SMap.insert m k v) d j = if j = k then v else SMap.get m d j := by
  induction m with
  | nil =>
    simp only [SMap.insert, SMap.get]
    by_cases h : j = k
    · rw [if_pos h.symm, if_pos h]
    · rw [if_neg (Ne.symm h), if_neg h]
  | cons p r ih =>
    obtain ⟨i, w⟩ := p
    simp only [SMap.insert]
    by_cases hl : k < i
    · rw [if_pos hl, SMap.get]
      by_cases h : j = k
      · rw [if_pos h.symm, if_pos h]
      · rw [if_neg (Ne.symm h), if_neg h]
    · rw [if_neg hl]
      by_cases he : k = i
      · rw [if_pos he, SMap.get, SMap.get]
        by_cases h : j = k
        · rw [if_pos h.symm, if_pos h]
        · rw [if_neg (Ne.symm h), if_neg h, if_neg (by omega)]
      · rw [if_neg he, SMap.get, SMap.get, ih]
        by_cases h : j = k
        · rw [if_pos h, if_pos h, if_neg (by omega)]
        · rw [if_neg h, if_neg h]

/-- A read after a write: the key written holds the value, every other key what it held. -/
theorem SMap.get_put [DecidableEq α] (m : SMap α) (d : α) (k j : Nat) (v : α) :
    SMap.get (SMap.put m d k v) d j = if j = k then v else SMap.get m d j := by
  unfold SMap.put
  split
  · next h => rw [h]; exact SMap.get_erase m d k j
  · exact SMap.get_insert m d k j v

theorem SMap.get_put_self [DecidableEq α] (m : SMap α) (d : α) (k : Nat) (v : α) :
    SMap.get (SMap.put m d k v) d k = v := by
  rw [SMap.get_put, if_pos rfl]

/-- A write at another key is not seen, whatever the unlisted keys read as. -/
theorem SMap.get_put_other [DecidableEq α] (m : SMap α) (d e : α) (k j : Nat) (v : α) (h : j ≠ k) :
    SMap.get (SMap.put m d k v) e j = SMap.get m e j := by
  unfold SMap.put
  split
  · exact SMap.get_erase_other m e k j h
  · rw [SMap.get_insert, if_neg h]

/-! ### The canonical form -/

theorem SMap.above_erase (m : SMap α) (i k : Nat) (h : SMap.above i m = true) : SMap.above i (SMap.erase m k) = true := by
  induction m with
  | nil => rfl
  | cons p r ih =>
    obtain ⟨j, v⟩ := p
    simp only [SMap.above, Bool.and_eq_true, decide_eq_true_eq] at h
    simp only [SMap.erase]
    split
    · exact ih h.2
    · simp only [SMap.above, Bool.and_eq_true, decide_eq_true_eq]
      exact ⟨h.1, ih h.2⟩

theorem SMap.above_insert (m : SMap α) (i k : Nat) (v : α) (hk : i < k) (h : SMap.above i m = true) :
    SMap.above i (SMap.insert m k v) = true := by
  induction m with
  | nil => simp [SMap.insert, SMap.above, hk]
  | cons p r ih =>
    obtain ⟨j, w⟩ := p
    simp only [SMap.above, Bool.and_eq_true, decide_eq_true_eq] at h
    simp only [SMap.insert]
    split
    · simp only [SMap.above, Bool.and_eq_true, decide_eq_true_eq]; exact ⟨hk, h.1, h.2⟩
    · split
      · simp only [SMap.above, Bool.and_eq_true, decide_eq_true_eq]; exact ⟨hk, h.2⟩
      · simp only [SMap.above, Bool.and_eq_true, decide_eq_true_eq]; exact ⟨h.1, ih h.2⟩

theorem SMap.above_trans (m : SMap α) (i j : Nat) (hij : i < j) (h : SMap.above j m = true) : SMap.above i m = true := by
  induction m with
  | nil => rfl
  | cons p r ih =>
    obtain ⟨k, v⟩ := p
    simp only [SMap.above, Bool.and_eq_true, decide_eq_true_eq] at h ⊢
    exact ⟨by omega, ih h.2⟩

theorem SMap.wf_erase [DecidableEq α] (d : Nat → α) (m : SMap α) (k : Nat) (h : SMap.wf d m = true) : SMap.wf d (SMap.erase m k) = true := by
  induction m with
  | nil => rfl
  | cons p r ih =>
    obtain ⟨j, v⟩ := p
    simp only [SMap.wf, Bool.and_eq_true, decide_eq_true_eq] at h
    simp only [SMap.erase]
    split
    · exact ih h.2
    · simp only [SMap.wf, Bool.and_eq_true, decide_eq_true_eq]
      exact ⟨⟨SMap.above_erase r j k h.1.1, h.1.2⟩, ih h.2⟩

theorem SMap.wf_insert [DecidableEq α] (d : Nat → α) (m : SMap α) (k : Nat) (v : α) (hv : v ≠ d k) (h : SMap.wf d m = true) :
    SMap.wf d (SMap.insert m k v) = true := by
  induction m with
  | nil => simp [SMap.insert, SMap.wf, SMap.above, hv]
  | cons p r ih =>
    obtain ⟨j, w⟩ := p
    have h' := h
    simp only [SMap.wf, Bool.and_eq_true, decide_eq_true_eq] at h
    simp only [SMap.insert]
    split
    · next hkj =>
      simp only [SMap.wf, SMap.above, Bool.and_eq_true, decide_eq_true_eq]
      exact ⟨⟨⟨hkj, SMap.above_trans r k j hkj h.1.1⟩, hv⟩, h⟩
    · split
      · next hkj =>
        subst hkj
        simp only [SMap.wf, Bool.and_eq_true, decide_eq_true_eq]
        exact ⟨⟨h.1.1, hv⟩, h.2⟩
      · simp only [SMap.wf, Bool.and_eq_true, decide_eq_true_eq]
        exact ⟨⟨SMap.above_insert r j k v (by omega) h.1.1, h.1.2⟩, ih h.2⟩

/-- A write keeps the canonical form. -/
theorem SMap.wf_put [DecidableEq α] (d : Nat → α) (m : SMap α) (k : Nat) (v : α) (h : SMap.wf d m = true) :
    SMap.wf d (SMap.put m (d k) k v) = true := by
  unfold SMap.put
  split
  · exact SMap.wf_erase d m k h
  · next hv => exact SMap.wf_insert d m k v hv h

theorem SMap.above_filter (m : SMap α) (i : Nat) (p : Nat × α → Bool) (h : SMap.above i m = true) :
    SMap.above i (m.filter p) = true := by
  induction m with
  | nil => rfl
  | cons q r ih =>
    obtain ⟨j, v⟩ := q
    simp only [SMap.above, Bool.and_eq_true, decide_eq_true_eq] at h
    simp only [List.filter]
    split
    · simp only [SMap.above, Bool.and_eq_true, decide_eq_true_eq]; exact ⟨h.1, ih h.2⟩
    · exact ih h.2

/-- Removing entries keeps the canonical form. -/
theorem SMap.wf_filter [DecidableEq α] (d : Nat → α) (m : SMap α) (p : Nat × α → Bool) (h : SMap.wf d m = true) :
    SMap.wf d (m.filter p) = true := by
  induction m with
  | nil => rfl
  | cons q r ih =>
    obtain ⟨j, v⟩ := q
    simp only [SMap.wf, Bool.and_eq_true, decide_eq_true_eq] at h
    simp only [List.filter]
    split
    · simp only [SMap.wf, Bool.and_eq_true, decide_eq_true_eq]
      exact ⟨⟨SMap.above_filter r j p h.1.1, h.1.2⟩, ih h.2⟩
    · exact ih h.2

end Sys2Proof
end

