-- ==== Sys2Proof/Laws/State.lean ====
section
/-! SUPPORT. What a read answers after each update of the state: fields of register words, registers, bytes of memory, and
one lemma per field of State for each update. -/

namespace Sys2Proof.Machine

/-! ### Fields of a register word -/

/-- Bit i of w ones. -/
theorem ones_getLsbD (w i : Nat) : (BitVec.ofNat 32 (2 ^ w - 1)).getLsbD i = (decide (i < 32) && decide (i < w)) := by
  rw [BitVec.getLsbD_ofNat, Nat.testBit_two_pow_sub_one]

theorem low_getLsbD (w v i : Nat) :
    (BitVec.ofNat 32 (v % 2 ^ w)).getLsbD i = (decide (i < 32) && (decide (i < w) && v.testBit i)) := by
  rw [BitVec.getLsbD_ofNat, Nat.testBit_mod_two_pow]

/-- Bit i of a field read from a word. -/
theorem Field.read_testBit (f : Field) (x : BitVec 32) (i : Nat) :
    (f.read x).testBit i = (decide (i < f.w) && x.getLsbD (f.lo + i)) := by
  unfold Field.read
  rw [BitVec.testBit_toNat, BitVec.getLsbD_and, ones_getLsbD, BitVec.getLsbD_ushiftRight]
  by_cases h : i < 32
  · simp [h, Bool.and_comm]
  · simp [h, BitVec.getLsbD_of_ge x (f.lo + i) (by omega)]

/-- Bit i of a word with a field written. -/
theorem Field.write_getLsbD (f : Field) (x : BitVec 32) (v i : Nat) (hi : i < 32) :
    (f.write x v).getLsbD i =
      if f.lo ≤ i ∧ i < f.lo + f.w then v.testBit (i - f.lo) else x.getLsbD i := by
  unfold Field.write Field.mask
  rw [BitVec.getLsbD_or, BitVec.getLsbD_and, BitVec.getLsbD_not, BitVec.getLsbD_shiftLeft, BitVec.getLsbD_shiftLeft,
    ones_getLsbD, low_getLsbD]
  by_cases h1 : i < f.lo
  · have : ¬ (f.lo ≤ i ∧ i < f.lo + f.w) := by omega
    simp [h1, hi, this]
  · by_cases h2 : i < f.lo + f.w
    · have a : f.lo ≤ i ∧ i < f.lo + f.w := by omega
      have b : i - f.lo < 32 := by omega
      have c : i - f.lo < f.w := by omega
      simp [h1, hi, a, b, c]
    · have a : ¬ (f.lo ≤ i ∧ i < f.lo + f.w) := by omega
      have c : ¬ i - f.lo < f.w := by omega
      simp [h1, hi, a, c]

/-- A field reads what was written to it, cut to its width. -/
theorem Field.read_write (f : Field) (x : BitVec 32) (v : Nat) (h : f.lo + f.w ≤ 32) : f.read (f.write x v) = v % 2 ^ f.w := by
  apply Nat.eq_of_testBit_eq
  intro i
  rw [Field.read_testBit, Nat.testBit_mod_two_pow]
  by_cases hi : i < f.w
  · rw [Field.write_getLsbD f x v _ (by omega), if_pos (by omega)]
    simp [hi]
  · simp [hi]

/-- A write of one field is not seen in a field beside it. -/
theorem Field.read_write_beside (f g : Field) (x : BitVec 32) (v : Nat) (h : f.lo + f.w ≤ g.lo ∨ g.lo + g.w ≤ f.lo) :
    g.read (f.write x v) = g.read x := by
  apply Nat.eq_of_testBit_eq
  intro i
  rw [Field.read_testBit, Field.read_testBit]
  by_cases hi : i < g.w
  · by_cases h3 : g.lo + i < 32
    · rw [Field.write_getLsbD f x v _ h3, if_neg (by omega)]
    · rw [BitVec.getLsbD_of_ge _ _ (by omega), BitVec.getLsbD_of_ge _ _ (by omega)]
  · simp [hi]

theorem Field.read_lt (f : Field) (x : BitVec 32) : f.read x < 2 ^ f.w := by
  apply Nat.lt_pow_two_of_testBit
  intro i hi
  rw [Field.read_testBit]
  simp; omega

/-! ### Registers -/

theorem State.reg_setReg (s : State) (k : Nat) (v : BitVec 32) (b : Nat) :
    (s.setReg k v).reg b = if b = k then v else s.reg b := by
  unfold State.reg State.setReg
  by_cases h : b = k
  · subst h; rw [if_pos rfl]; exact SMap.get_put_self _ _ _ _
  · rw [if_neg h]; exact SMap.get_put_other _ _ _ _ _ _ h

@[simp] theorem State.reg_setReg_self (s : State) (k : Nat) (v : BitVec 32) : (s.setReg k v).reg k = v := by
  rw [State.reg_setReg, if_pos rfl]
theorem State.reg_setReg_other (s : State) (k : Nat) (v : BitVec 32) (b : Nat) (h : b ≠ k) : (s.setReg k v).reg b = s.reg b := by
  rw [State.reg_setReg, if_neg h]

/-- A field given a value holds it, cut to its width. -/
theorem State.get_put (s : State) (f : Field) (v : Nat) (h : f.lo + f.w ≤ 32) : (s.put f v).get f = v % 2 ^ f.w := by
  unfold State.get State.put; rw [State.reg_setReg_self, Field.read_write f _ v h]
/-- The fields of other registers do not change. -/
theorem State.get_put_addr (s : State) (f g : Field) (v : Nat) (h : g.addr ≠ f.addr) : (s.put f v).get g = s.get g := by
  unfold State.get State.put; rw [State.reg_setReg_other _ _ _ _ h]
/-- The other fields of the register do not change. -/
theorem State.get_put_beside (s : State) (f g : Field) (v : Nat) (h : f.lo + f.w ≤ g.lo ∨ g.lo + g.w ≤ f.lo) :
    (s.put f v).get g = s.get g := by
  unfold State.get State.put
  by_cases e : g.addr = f.addr
  · rw [e, State.reg_setReg_self, Field.read_write_beside f g _ v h]
  · rw [State.reg_setReg_other _ _ _ _ e]
theorem State.reg_put_other (s : State) (f : Field) (v b : Nat) (h : b ≠ f.addr) : (s.put f v).reg b = s.reg b := by
  unfold State.put; exact State.reg_setReg_other _ _ _ _ h
theorem State.get_lt (s : State) (f : Field) : s.get f < 2 ^ f.w := Field.read_lt f _
theorem State.get_setReg (s : State) (k : Nat) (v : BitVec 32) (f : Field) (h : f.addr ≠ k) : (s.setReg k v).get f = s.get f := by
  unfold State.get; rw [State.reg_setReg_other _ _ _ _ h]

/-! ### Memory -/

theorem State.byte_setByte (s : State) (k : Nat) (b : Byte) (j : Nat) :
    (s.setByte k b).byte j = if j = k then b else s.byte j := by
  unfold State.byte State.setByte
  by_cases h : j = k
  · subst h; rw [if_pos rfl]; exact SMap.get_put_self _ _ _ _
  · rw [if_neg h]; exact SMap.get_put_other _ _ _ _ _ _ h

/-- A store is seen at no byte outside it. -/
theorem State.byte_store (s : State) (k n v j : Nat) (h : j < k ∨ k + n ≤ j) : (s.store k n v).byte j = s.byte j := by
  induction n generalizing s k v with
  | zero => rfl
  | succ n ih => rw [State.store, ih _ _ _ (by omega), State.byte_setByte, if_neg (by omega)]

/-- What a store wrote is what a load of the same bytes reads. -/
theorem State.load_store (s : State) (k n v : Nat) : (s.store k n v).load k n = v % 256 ^ n := by
  induction n generalizing s k v with
  | zero => simp [State.load, Nat.mod_one]
  | succ n ih =>
    rw [State.store, State.load, ih, State.byte_store _ _ _ _ _ (by omega), State.byte_setByte, if_pos rfl]
    rw [BitVec.toNat_ofNat, Nat.pow_succ 256 n, Nat.mul_comm (256 ^ n) 256, Nat.mod_mul]

/-! ### One field of State, one update -/

variable {s : State}

@[simp] theorem State.tick_variant {t : Nat} : (s.tick t).variant = s.variant := rfl
@[simp] theorem State.tick_regs {t : Nat} : (s.tick t).regs = s.regs := rfl
@[simp] theorem State.tick_mem {t : Nat} : (s.tick t).mem = s.mem := rfl
@[simp] theorem State.tick_fresh {t : Nat} : (s.tick t).fresh = s.fresh := rfl
@[simp] theorem State.tick_pending {t : Nat} : (s.tick t).pending = s.pending := rfl
@[simp] theorem State.tick_chans {t : Nat} : (s.tick t).chans = s.chans := rfl
@[simp] theorem State.tick_tb {t : Nat} : (s.tick t).tb = s.tb := rfl
@[simp] theorem State.tick_ops {t : Nat} : (s.tick t).ops = s.ops := rfl
@[simp] theorem State.tick_groups {t : Nat} : (s.tick t).groups = s.groups := rfl
@[simp] theorem State.tick_dies {t : Nat} : (s.tick t).dies = s.dies := rfl
@[simp] theorem State.tick_frames {t : Nat} : (s.tick t).frames = s.frames := rfl
@[simp] theorem State.tick_pts {t : Nat} : (s.tick t).pts = s.pts := rfl
@[simp] theorem State.tick_seqs {t : Nat} : (s.tick t).seqs = s.seqs := rfl
@[simp] theorem State.tick_trk {t : Nat} : (s.tick t).trk = s.trk := rfl
@[simp] theorem State.tick_dram {t : Nat} : (s.tick t).dram = s.dram := rfl
@[simp] theorem State.tick_heads {t : Nat} : (s.tick t).heads = s.heads := rfl
@[simp] theorem State.tick_drive {t : Nat} : (s.tick t).drive = s.drive := rfl
@[simp] theorem State.tick_motion {t : Nat} : (s.tick t).motion = s.motion := rfl
@[simp] theorem State.tick_twin {t : Nat} : (s.tick t).twin = s.twin := rfl
@[simp] theorem State.tick_cap {t : Nat} : (s.tick t).cap = s.cap := rfl
@[simp] theorem State.tick_hk {t : Nat} : (s.tick t).hk = s.hk := rfl
@[simp] theorem State.tick_therm {t : Nat} : (s.tick t).therm = s.therm := rfl
@[simp] theorem State.tick_sec {t : Nat} : (s.tick t).sec = s.sec := rfl
@[simp] theorem State.tick_guard {t : Nat} : (s.tick t).guard = s.guard := rfl
@[simp] theorem State.tick_su {t : Nat} : (s.tick t).su = s.su := rfl
@[simp] theorem State.tick_reg {t : Nat} {k0 : Nat} : (s.tick t).reg k0 = s.reg k0 := rfl
@[simp] theorem State.tick_get {t : Nat} {f0 : Field} : (s.tick t).get f0 = s.get f0 := rfl
@[simp] theorem State.tick_flag {t : Nat} {f0 : Field} : (s.tick t).flag f0 = s.flag f0 := rfl
@[simp] theorem State.tick_byte {t : Nat} {k0 : Nat} : (s.tick t).byte k0 = s.byte k0 := rfl

@[simp] theorem State.setReg_now {k : Nat} {v : BitVec 32} : (s.setReg k v).now = s.now := rfl
@[simp] theorem State.setReg_variant {k : Nat} {v : BitVec 32} : (s.setReg k v).variant = s.variant := rfl
@[simp] theorem State.setReg_mem {k : Nat} {v : BitVec 32} : (s.setReg k v).mem = s.mem := rfl
@[simp] theorem State.setReg_fresh {k : Nat} {v : BitVec 32} : (s.setReg k v).fresh = s.fresh := rfl
@[simp] theorem State.setReg_pending {k : Nat} {v : BitVec 32} : (s.setReg k v).pending = s.pending := rfl
@[simp] theorem State.setReg_chans {k : Nat} {v : BitVec 32} : (s.setReg k v).chans = s.chans := rfl
@[simp] theorem State.setReg_tb {k : Nat} {v : BitVec 32} : (s.setReg k v).tb = s.tb := rfl
@[simp] theorem State.setReg_ops {k : Nat} {v : BitVec 32} : (s.setReg k v).ops = s.ops := rfl
@[simp] theorem State.setReg_groups {k : Nat} {v : BitVec 32} : (s.setReg k v).groups = s.groups := rfl
@[simp] theorem State.setReg_dies {k : Nat} {v : BitVec 32} : (s.setReg k v).dies = s.dies := rfl
@[simp] theorem State.setReg_frames {k : Nat} {v : BitVec 32} : (s.setReg k v).frames = s.frames := rfl
@[simp] theorem State.setReg_pts {k : Nat} {v : BitVec 32} : (s.setReg k v).pts = s.pts := rfl
@[simp] theorem State.setReg_seqs {k : Nat} {v : BitVec 32} : (s.setReg k v).seqs = s.seqs := rfl
@[simp] theorem State.setReg_trk {k : Nat} {v : BitVec 32} : (s.setReg k v).trk = s.trk := rfl
@[simp] theorem State.setReg_dram {k : Nat} {v : BitVec 32} : (s.setReg k v).dram = s.dram := rfl
@[simp] theorem State.setReg_heads {k : Nat} {v : BitVec 32} : (s.setReg k v).heads = s.heads := rfl
@[simp] theorem State.setReg_drive {k : Nat} {v : BitVec 32} : (s.setReg k v).drive = s.drive := rfl
@[simp] theorem State.setReg_motion {k : Nat} {v : BitVec 32} : (s.setReg k v).motion = s.motion := rfl
@[simp] theorem State.setReg_twin {k : Nat} {v : BitVec 32} : (s.setReg k v).twin = s.twin := rfl
@[simp] theorem State.setReg_cap {k : Nat} {v : BitVec 32} : (s.setReg k v).cap = s.cap := rfl
@[simp] theorem State.setReg_hk {k : Nat} {v : BitVec 32} : (s.setReg k v).hk = s.hk := rfl
@[simp] theorem State.setReg_therm {k : Nat} {v : BitVec 32} : (s.setReg k v).therm = s.therm := rfl
@[simp] theorem State.setReg_sec {k : Nat} {v : BitVec 32} : (s.setReg k v).sec = s.sec := rfl
@[simp] theorem State.setReg_guard {k : Nat} {v : BitVec 32} : (s.setReg k v).guard = s.guard := rfl
@[simp] theorem State.setReg_su {k : Nat} {v : BitVec 32} : (s.setReg k v).su = s.su := rfl
@[simp] theorem State.setReg_byte {k : Nat} {v : BitVec 32} {k0 : Nat} : (s.setReg k v).byte k0 = s.byte k0 := rfl

@[simp] theorem State.put_now {f : Field} {v : Nat} : (s.put f v).now = s.now := rfl
@[simp] theorem State.put_variant {f : Field} {v : Nat} : (s.put f v).variant = s.variant := rfl
@[simp] theorem State.put_mem {f : Field} {v : Nat} : (s.put f v).mem = s.mem := rfl
@[simp] theorem State.put_fresh {f : Field} {v : Nat} : (s.put f v).fresh = s.fresh := rfl
@[simp] theorem State.put_pending {f : Field} {v : Nat} : (s.put f v).pending = s.pending := rfl
@[simp] theorem State.put_chans {f : Field} {v : Nat} : (s.put f v).chans = s.chans := rfl
@[simp] theorem State.put_tb {f : Field} {v : Nat} : (s.put f v).tb = s.tb := rfl
@[simp] theorem State.put_ops {f : Field} {v : Nat} : (s.put f v).ops = s.ops := rfl
@[simp] theorem State.put_groups {f : Field} {v : Nat} : (s.put f v).groups = s.groups := rfl
@[simp] theorem State.put_dies {f : Field} {v : Nat} : (s.put f v).dies = s.dies := rfl
@[simp] theorem State.put_frames {f : Field} {v : Nat} : (s.put f v).frames = s.frames := rfl
@[simp] theorem State.put_pts {f : Field} {v : Nat} : (s.put f v).pts = s.pts := rfl
@[simp] theorem State.put_seqs {f : Field} {v : Nat} : (s.put f v).seqs = s.seqs := rfl
@[simp] theorem State.put_trk {f : Field} {v : Nat} : (s.put f v).trk = s.trk := rfl
@[simp] theorem State.put_dram {f : Field} {v : Nat} : (s.put f v).dram = s.dram := rfl
@[simp] theorem State.put_heads {f : Field} {v : Nat} : (s.put f v).heads = s.heads := rfl
@[simp] theorem State.put_drive {f : Field} {v : Nat} : (s.put f v).drive = s.drive := rfl
@[simp] theorem State.put_motion {f : Field} {v : Nat} : (s.put f v).motion = s.motion := rfl
@[simp] theorem State.put_twin {f : Field} {v : Nat} : (s.put f v).twin = s.twin := rfl
@[simp] theorem State.put_cap {f : Field} {v : Nat} : (s.put f v).cap = s.cap := rfl
@[simp] theorem State.put_hk {f : Field} {v : Nat} : (s.put f v).hk = s.hk := rfl
@[simp] theorem State.put_therm {f : Field} {v : Nat} : (s.put f v).therm = s.therm := rfl
@[simp] theorem State.put_sec {f : Field} {v : Nat} : (s.put f v).sec = s.sec := rfl
@[simp] theorem State.put_guard {f : Field} {v : Nat} : (s.put f v).guard = s.guard := rfl
@[simp] theorem State.put_su {f : Field} {v : Nat} : (s.put f v).su = s.su := rfl
@[simp] theorem State.put_byte {f : Field} {v : Nat} {k0 : Nat} : (s.put f v).byte k0 = s.byte k0 := rfl

@[simp] theorem State.puti_now {f : Field} {v : Int} : (s.puti f v).now = s.now := rfl
@[simp] theorem State.puti_variant {f : Field} {v : Int} : (s.puti f v).variant = s.variant := rfl
@[simp] theorem State.puti_mem {f : Field} {v : Int} : (s.puti f v).mem = s.mem := rfl
@[simp] theorem State.puti_fresh {f : Field} {v : Int} : (s.puti f v).fresh = s.fresh := rfl
@[simp] theorem State.puti_pending {f : Field} {v : Int} : (s.puti f v).pending = s.pending := rfl
@[simp] theorem State.puti_chans {f : Field} {v : Int} : (s.puti f v).chans = s.chans := rfl
@[simp] theorem State.puti_tb {f : Field} {v : Int} : (s.puti f v).tb = s.tb := rfl
@[simp] theorem State.puti_ops {f : Field} {v : Int} : (s.puti f v).ops = s.ops := rfl
@[simp] theorem State.puti_groups {f : Field} {v : Int} : (s.puti f v).groups = s.groups := rfl
@[simp] theorem State.puti_dies {f : Field} {v : Int} : (s.puti f v).dies = s.dies := rfl
@[simp] theorem State.puti_frames {f : Field} {v : Int} : (s.puti f v).frames = s.frames := rfl
@[simp] theorem State.puti_pts {f : Field} {v : Int} : (s.puti f v).pts = s.pts := rfl
@[simp] theorem State.puti_seqs {f : Field} {v : Int} : (s.puti f v).seqs = s.seqs := rfl
@[simp] theorem State.puti_trk {f : Field} {v : Int} : (s.puti f v).trk = s.trk := rfl
@[simp] theorem State.puti_dram {f : Field} {v : Int} : (s.puti f v).dram = s.dram := rfl
@[simp] theorem State.puti_heads {f : Field} {v : Int} : (s.puti f v).heads = s.heads := rfl
@[simp] theorem State.puti_drive {f : Field} {v : Int} : (s.puti f v).drive = s.drive := rfl
@[simp] theorem State.puti_motion {f : Field} {v : Int} : (s.puti f v).motion = s.motion := rfl
@[simp] theorem State.puti_twin {f : Field} {v : Int} : (s.puti f v).twin = s.twin := rfl
@[simp] theorem State.puti_cap {f : Field} {v : Int} : (s.puti f v).cap = s.cap := rfl
@[simp] theorem State.puti_hk {f : Field} {v : Int} : (s.puti f v).hk = s.hk := rfl
@[simp] theorem State.puti_therm {f : Field} {v : Int} : (s.puti f v).therm = s.therm := rfl
@[simp] theorem State.puti_sec {f : Field} {v : Int} : (s.puti f v).sec = s.sec := rfl
@[simp] theorem State.puti_guard {f : Field} {v : Int} : (s.puti f v).guard = s.guard := rfl
@[simp] theorem State.puti_su {f : Field} {v : Int} : (s.puti f v).su = s.su := rfl
@[simp] theorem State.puti_byte {f : Field} {v : Int} {k0 : Nat} : (s.puti f v).byte k0 = s.byte k0 := rfl

@[simp] theorem State.putb_now {f : Field} {v : Bool} : (s.putb f v).now = s.now := rfl
@[simp] theorem State.putb_variant {f : Field} {v : Bool} : (s.putb f v).variant = s.variant := rfl
@[simp] theorem State.putb_mem {f : Field} {v : Bool} : (s.putb f v).mem = s.mem := rfl
@[simp] theorem State.putb_fresh {f : Field} {v : Bool} : (s.putb f v).fresh = s.fresh := rfl
@[simp] theorem State.putb_pending {f : Field} {v : Bool} : (s.putb f v).pending = s.pending := rfl
@[simp] theorem State.putb_chans {f : Field} {v : Bool} : (s.putb f v).chans = s.chans := rfl
@[simp] theorem State.putb_tb {f : Field} {v : Bool} : (s.putb f v).tb = s.tb := rfl
@[simp] theorem State.putb_ops {f : Field} {v : Bool} : (s.putb f v).ops = s.ops := rfl
@[simp] theorem State.putb_groups {f : Field} {v : Bool} : (s.putb f v).groups = s.groups := rfl
@[simp] theorem State.putb_dies {f : Field} {v : Bool} : (s.putb f v).dies = s.dies := rfl
@[simp] theorem State.putb_frames {f : Field} {v : Bool} : (s.putb f v).frames = s.frames := rfl
@[simp] theorem State.putb_pts {f : Field} {v : Bool} : (s.putb f v).pts = s.pts := rfl
@[simp] theorem State.putb_seqs {f : Field} {v : Bool} : (s.putb f v).seqs = s.seqs := rfl
@[simp] theorem State.putb_trk {f : Field} {v : Bool} : (s.putb f v).trk = s.trk := rfl
@[simp] theorem State.putb_dram {f : Field} {v : Bool} : (s.putb f v).dram = s.dram := rfl
@[simp] theorem State.putb_heads {f : Field} {v : Bool} : (s.putb f v).heads = s.heads := rfl
@[simp] theorem State.putb_drive {f : Field} {v : Bool} : (s.putb f v).drive = s.drive := rfl
@[simp] theorem State.putb_motion {f : Field} {v : Bool} : (s.putb f v).motion = s.motion := rfl
@[simp] theorem State.putb_twin {f : Field} {v : Bool} : (s.putb f v).twin = s.twin := rfl
@[simp] theorem State.putb_cap {f : Field} {v : Bool} : (s.putb f v).cap = s.cap := rfl
@[simp] theorem State.putb_hk {f : Field} {v : Bool} : (s.putb f v).hk = s.hk := rfl
@[simp] theorem State.putb_therm {f : Field} {v : Bool} : (s.putb f v).therm = s.therm := rfl
@[simp] theorem State.putb_sec {f : Field} {v : Bool} : (s.putb f v).sec = s.sec := rfl
@[simp] theorem State.putb_guard {f : Field} {v : Bool} : (s.putb f v).guard = s.guard := rfl
@[simp] theorem State.putb_su {f : Field} {v : Bool} : (s.putb f v).su = s.su := rfl
@[simp] theorem State.putb_byte {f : Field} {v : Bool} {k0 : Nat} : (s.putb f v).byte k0 = s.byte k0 := rfl

@[simp] theorem State.setFlag_now {f : Field} : (s.setFlag f).now = s.now := rfl
@[simp] theorem State.setFlag_variant {f : Field} : (s.setFlag f).variant = s.variant := rfl
@[simp] theorem State.setFlag_mem {f : Field} : (s.setFlag f).mem = s.mem := rfl
@[simp] theorem State.setFlag_fresh {f : Field} : (s.setFlag f).fresh = s.fresh := rfl
@[simp] theorem State.setFlag_pending {f : Field} : (s.setFlag f).pending = s.pending := rfl
@[simp] theorem State.setFlag_chans {f : Field} : (s.setFlag f).chans = s.chans := rfl
@[simp] theorem State.setFlag_tb {f : Field} : (s.setFlag f).tb = s.tb := rfl
@[simp] theorem State.setFlag_ops {f : Field} : (s.setFlag f).ops = s.ops := rfl
@[simp] theorem State.setFlag_groups {f : Field} : (s.setFlag f).groups = s.groups := rfl
@[simp] theorem State.setFlag_dies {f : Field} : (s.setFlag f).dies = s.dies := rfl
@[simp] theorem State.setFlag_frames {f : Field} : (s.setFlag f).frames = s.frames := rfl
@[simp] theorem State.setFlag_pts {f : Field} : (s.setFlag f).pts = s.pts := rfl
@[simp] theorem State.setFlag_seqs {f : Field} : (s.setFlag f).seqs = s.seqs := rfl
@[simp] theorem State.setFlag_trk {f : Field} : (s.setFlag f).trk = s.trk := rfl
@[simp] theorem State.setFlag_dram {f : Field} : (s.setFlag f).dram = s.dram := rfl
@[simp] theorem State.setFlag_heads {f : Field} : (s.setFlag f).heads = s.heads := rfl
@[simp] theorem State.setFlag_drive {f : Field} : (s.setFlag f).drive = s.drive := rfl
@[simp] theorem State.setFlag_motion {f : Field} : (s.setFlag f).motion = s.motion := rfl
@[simp] theorem State.setFlag_twin {f : Field} : (s.setFlag f).twin = s.twin := rfl
@[simp] theorem State.setFlag_cap {f : Field} : (s.setFlag f).cap = s.cap := rfl
@[simp] theorem State.setFlag_hk {f : Field} : (s.setFlag f).hk = s.hk := rfl
@[simp] theorem State.setFlag_therm {f : Field} : (s.setFlag f).therm = s.therm := rfl
@[simp] theorem State.setFlag_sec {f : Field} : (s.setFlag f).sec = s.sec := rfl
@[simp] theorem State.setFlag_guard {f : Field} : (s.setFlag f).guard = s.guard := rfl
@[simp] theorem State.setFlag_su {f : Field} : (s.setFlag f).su = s.su := rfl
@[simp] theorem State.setFlag_byte {f : Field} {k0 : Nat} : (s.setFlag f).byte k0 = s.byte k0 := rfl

@[simp] theorem State.clrFlag_now {f : Field} : (s.clrFlag f).now = s.now := rfl
@[simp] theorem State.clrFlag_variant {f : Field} : (s.clrFlag f).variant = s.variant := rfl
@[simp] theorem State.clrFlag_mem {f : Field} : (s.clrFlag f).mem = s.mem := rfl
@[simp] theorem State.clrFlag_fresh {f : Field} : (s.clrFlag f).fresh = s.fresh := rfl
@[simp] theorem State.clrFlag_pending {f : Field} : (s.clrFlag f).pending = s.pending := rfl
@[simp] theorem State.clrFlag_chans {f : Field} : (s.clrFlag f).chans = s.chans := rfl
@[simp] theorem State.clrFlag_tb {f : Field} : (s.clrFlag f).tb = s.tb := rfl
@[simp] theorem State.clrFlag_ops {f : Field} : (s.clrFlag f).ops = s.ops := rfl
@[simp] theorem State.clrFlag_groups {f : Field} : (s.clrFlag f).groups = s.groups := rfl
@[simp] theorem State.clrFlag_dies {f : Field} : (s.clrFlag f).dies = s.dies := rfl
@[simp] theorem State.clrFlag_frames {f : Field} : (s.clrFlag f).frames = s.frames := rfl
@[simp] theorem State.clrFlag_pts {f : Field} : (s.clrFlag f).pts = s.pts := rfl
@[simp] theorem State.clrFlag_seqs {f : Field} : (s.clrFlag f).seqs = s.seqs := rfl
@[simp] theorem State.clrFlag_trk {f : Field} : (s.clrFlag f).trk = s.trk := rfl
@[simp] theorem State.clrFlag_dram {f : Field} : (s.clrFlag f).dram = s.dram := rfl
@[simp] theorem State.clrFlag_heads {f : Field} : (s.clrFlag f).heads = s.heads := rfl
@[simp] theorem State.clrFlag_drive {f : Field} : (s.clrFlag f).drive = s.drive := rfl
@[simp] theorem State.clrFlag_motion {f : Field} : (s.clrFlag f).motion = s.motion := rfl
@[simp] theorem State.clrFlag_twin {f : Field} : (s.clrFlag f).twin = s.twin := rfl
@[simp] theorem State.clrFlag_cap {f : Field} : (s.clrFlag f).cap = s.cap := rfl
@[simp] theorem State.clrFlag_hk {f : Field} : (s.clrFlag f).hk = s.hk := rfl
@[simp] theorem State.clrFlag_therm {f : Field} : (s.clrFlag f).therm = s.therm := rfl
@[simp] theorem State.clrFlag_sec {f : Field} : (s.clrFlag f).sec = s.sec := rfl
@[simp] theorem State.clrFlag_guard {f : Field} : (s.clrFlag f).guard = s.guard := rfl
@[simp] theorem State.clrFlag_su {f : Field} : (s.clrFlag f).su = s.su := rfl
@[simp] theorem State.clrFlag_byte {f : Field} {k0 : Nat} : (s.clrFlag f).byte k0 = s.byte k0 := rfl

@[simp] theorem State.add_now {f : Field} {v : Nat} : (s.add f v).now = s.now := rfl
@[simp] theorem State.add_variant {f : Field} {v : Nat} : (s.add f v).variant = s.variant := rfl
@[simp] theorem State.add_mem {f : Field} {v : Nat} : (s.add f v).mem = s.mem := rfl
@[simp] theorem State.add_fresh {f : Field} {v : Nat} : (s.add f v).fresh = s.fresh := rfl
@[simp] theorem State.add_pending {f : Field} {v : Nat} : (s.add f v).pending = s.pending := rfl
@[simp] theorem State.add_chans {f : Field} {v : Nat} : (s.add f v).chans = s.chans := rfl
@[simp] theorem State.add_tb {f : Field} {v : Nat} : (s.add f v).tb = s.tb := rfl
@[simp] theorem State.add_ops {f : Field} {v : Nat} : (s.add f v).ops = s.ops := rfl
@[simp] theorem State.add_groups {f : Field} {v : Nat} : (s.add f v).groups = s.groups := rfl
@[simp] theorem State.add_dies {f : Field} {v : Nat} : (s.add f v).dies = s.dies := rfl
@[simp] theorem State.add_frames {f : Field} {v : Nat} : (s.add f v).frames = s.frames := rfl
@[simp] theorem State.add_pts {f : Field} {v : Nat} : (s.add f v).pts = s.pts := rfl
@[simp] theorem State.add_seqs {f : Field} {v : Nat} : (s.add f v).seqs = s.seqs := rfl
@[simp] theorem State.add_trk {f : Field} {v : Nat} : (s.add f v).trk = s.trk := rfl
@[simp] theorem State.add_dram {f : Field} {v : Nat} : (s.add f v).dram = s.dram := rfl
@[simp] theorem State.add_heads {f : Field} {v : Nat} : (s.add f v).heads = s.heads := rfl
@[simp] theorem State.add_drive {f : Field} {v : Nat} : (s.add f v).drive = s.drive := rfl
@[simp] theorem State.add_motion {f : Field} {v : Nat} : (s.add f v).motion = s.motion := rfl
@[simp] theorem State.add_twin {f : Field} {v : Nat} : (s.add f v).twin = s.twin := rfl
@[simp] theorem State.add_cap {f : Field} {v : Nat} : (s.add f v).cap = s.cap := rfl
@[simp] theorem State.add_hk {f : Field} {v : Nat} : (s.add f v).hk = s.hk := rfl
@[simp] theorem State.add_therm {f : Field} {v : Nat} : (s.add f v).therm = s.therm := rfl
@[simp] theorem State.add_sec {f : Field} {v : Nat} : (s.add f v).sec = s.sec := rfl
@[simp] theorem State.add_guard {f : Field} {v : Nat} : (s.add f v).guard = s.guard := rfl
@[simp] theorem State.add_su {f : Field} {v : Nat} : (s.add f v).su = s.su := rfl
@[simp] theorem State.add_byte {f : Field} {v : Nat} {k0 : Nat} : (s.add f v).byte k0 = s.byte k0 := rfl

@[simp] theorem State.addSat_now {f : Field} {v : Nat} : (s.addSat f v).now = s.now := rfl
@[simp] theorem State.addSat_variant {f : Field} {v : Nat} : (s.addSat f v).variant = s.variant := rfl
@[simp] theorem State.addSat_mem {f : Field} {v : Nat} : (s.addSat f v).mem = s.mem := rfl
@[simp] theorem State.addSat_fresh {f : Field} {v : Nat} : (s.addSat f v).fresh = s.fresh := rfl
@[simp] theorem State.addSat_pending {f : Field} {v : Nat} : (s.addSat f v).pending = s.pending := rfl
@[simp] theorem State.addSat_chans {f : Field} {v : Nat} : (s.addSat f v).chans = s.chans := rfl
@[simp] theorem State.addSat_tb {f : Field} {v : Nat} : (s.addSat f v).tb = s.tb := rfl
@[simp] theorem State.addSat_ops {f : Field} {v : Nat} : (s.addSat f v).ops = s.ops := rfl
@[simp] theorem State.addSat_groups {f : Field} {v : Nat} : (s.addSat f v).groups = s.groups := rfl
@[simp] theorem State.addSat_dies {f : Field} {v : Nat} : (s.addSat f v).dies = s.dies := rfl
@[simp] theorem State.addSat_frames {f : Field} {v : Nat} : (s.addSat f v).frames = s.frames := rfl
@[simp] theorem State.addSat_pts {f : Field} {v : Nat} : (s.addSat f v).pts = s.pts := rfl
@[simp] theorem State.addSat_seqs {f : Field} {v : Nat} : (s.addSat f v).seqs = s.seqs := rfl
@[simp] theorem State.addSat_trk {f : Field} {v : Nat} : (s.addSat f v).trk = s.trk := rfl
@[simp] theorem State.addSat_dram {f : Field} {v : Nat} : (s.addSat f v).dram = s.dram := rfl
@[simp] theorem State.addSat_heads {f : Field} {v : Nat} : (s.addSat f v).heads = s.heads := rfl
@[simp] theorem State.addSat_drive {f : Field} {v : Nat} : (s.addSat f v).drive = s.drive := rfl
@[simp] theorem State.addSat_motion {f : Field} {v : Nat} : (s.addSat f v).motion = s.motion := rfl
@[simp] theorem State.addSat_twin {f : Field} {v : Nat} : (s.addSat f v).twin = s.twin := rfl
@[simp] theorem State.addSat_cap {f : Field} {v : Nat} : (s.addSat f v).cap = s.cap := rfl
@[simp] theorem State.addSat_hk {f : Field} {v : Nat} : (s.addSat f v).hk = s.hk := rfl
@[simp] theorem State.addSat_therm {f : Field} {v : Nat} : (s.addSat f v).therm = s.therm := rfl
@[simp] theorem State.addSat_sec {f : Field} {v : Nat} : (s.addSat f v).sec = s.sec := rfl
@[simp] theorem State.addSat_guard {f : Field} {v : Nat} : (s.addSat f v).guard = s.guard := rfl
@[simp] theorem State.addSat_su {f : Field} {v : Nat} : (s.addSat f v).su = s.su := rfl
@[simp] theorem State.addSat_byte {f : Field} {v : Nat} {k0 : Nat} : (s.addSat f v).byte k0 = s.byte k0 := rfl

@[simp] theorem State.bump_now {f : Field} : (s.bump f).now = s.now := rfl
@[simp] theorem State.bump_variant {f : Field} : (s.bump f).variant = s.variant := rfl
@[simp] theorem State.bump_mem {f : Field} : (s.bump f).mem = s.mem := rfl
@[simp] theorem State.bump_fresh {f : Field} : (s.bump f).fresh = s.fresh := rfl
@[simp] theorem State.bump_pending {f : Field} : (s.bump f).pending = s.pending := rfl
@[simp] theorem State.bump_chans {f : Field} : (s.bump f).chans = s.chans := rfl
@[simp] theorem State.bump_tb {f : Field} : (s.bump f).tb = s.tb := rfl
@[simp] theorem State.bump_ops {f : Field} : (s.bump f).ops = s.ops := rfl
@[simp] theorem State.bump_groups {f : Field} : (s.bump f).groups = s.groups := rfl
@[simp] theorem State.bump_dies {f : Field} : (s.bump f).dies = s.dies := rfl
@[simp] theorem State.bump_frames {f : Field} : (s.bump f).frames = s.frames := rfl
@[simp] theorem State.bump_pts {f : Field} : (s.bump f).pts = s.pts := rfl
@[simp] theorem State.bump_seqs {f : Field} : (s.bump f).seqs = s.seqs := rfl
@[simp] theorem State.bump_trk {f : Field} : (s.bump f).trk = s.trk := rfl
@[simp] theorem State.bump_dram {f : Field} : (s.bump f).dram = s.dram := rfl
@[simp] theorem State.bump_heads {f : Field} : (s.bump f).heads = s.heads := rfl
@[simp] theorem State.bump_drive {f : Field} : (s.bump f).drive = s.drive := rfl
@[simp] theorem State.bump_motion {f : Field} : (s.bump f).motion = s.motion := rfl
@[simp] theorem State.bump_twin {f : Field} : (s.bump f).twin = s.twin := rfl
@[simp] theorem State.bump_cap {f : Field} : (s.bump f).cap = s.cap := rfl
@[simp] theorem State.bump_hk {f : Field} : (s.bump f).hk = s.hk := rfl
@[simp] theorem State.bump_therm {f : Field} : (s.bump f).therm = s.therm := rfl
@[simp] theorem State.bump_sec {f : Field} : (s.bump f).sec = s.sec := rfl
@[simp] theorem State.bump_guard {f : Field} : (s.bump f).guard = s.guard := rfl
@[simp] theorem State.bump_su {f : Field} : (s.bump f).su = s.su := rfl
@[simp] theorem State.bump_byte {f : Field} {k0 : Nat} : (s.bump f).byte k0 = s.byte k0 := rfl

@[simp] theorem State.bumpSat_now {f : Field} : (s.bumpSat f).now = s.now := rfl
@[simp] theorem State.bumpSat_variant {f : Field} : (s.bumpSat f).variant = s.variant := rfl
@[simp] theorem State.bumpSat_mem {f : Field} : (s.bumpSat f).mem = s.mem := rfl
@[simp] theorem State.bumpSat_fresh {f : Field} : (s.bumpSat f).fresh = s.fresh := rfl
@[simp] theorem State.bumpSat_pending {f : Field} : (s.bumpSat f).pending = s.pending := rfl
@[simp] theorem State.bumpSat_chans {f : Field} : (s.bumpSat f).chans = s.chans := rfl
@[simp] theorem State.bumpSat_tb {f : Field} : (s.bumpSat f).tb = s.tb := rfl
@[simp] theorem State.bumpSat_ops {f : Field} : (s.bumpSat f).ops = s.ops := rfl
@[simp] theorem State.bumpSat_groups {f : Field} : (s.bumpSat f).groups = s.groups := rfl
@[simp] theorem State.bumpSat_dies {f : Field} : (s.bumpSat f).dies = s.dies := rfl
@[simp] theorem State.bumpSat_frames {f : Field} : (s.bumpSat f).frames = s.frames := rfl
@[simp] theorem State.bumpSat_pts {f : Field} : (s.bumpSat f).pts = s.pts := rfl
@[simp] theorem State.bumpSat_seqs {f : Field} : (s.bumpSat f).seqs = s.seqs := rfl
@[simp] theorem State.bumpSat_trk {f : Field} : (s.bumpSat f).trk = s.trk := rfl
@[simp] theorem State.bumpSat_dram {f : Field} : (s.bumpSat f).dram = s.dram := rfl
@[simp] theorem State.bumpSat_heads {f : Field} : (s.bumpSat f).heads = s.heads := rfl
@[simp] theorem State.bumpSat_drive {f : Field} : (s.bumpSat f).drive = s.drive := rfl
@[simp] theorem State.bumpSat_motion {f : Field} : (s.bumpSat f).motion = s.motion := rfl
@[simp] theorem State.bumpSat_twin {f : Field} : (s.bumpSat f).twin = s.twin := rfl
@[simp] theorem State.bumpSat_cap {f : Field} : (s.bumpSat f).cap = s.cap := rfl
@[simp] theorem State.bumpSat_hk {f : Field} : (s.bumpSat f).hk = s.hk := rfl
@[simp] theorem State.bumpSat_therm {f : Field} : (s.bumpSat f).therm = s.therm := rfl
@[simp] theorem State.bumpSat_sec {f : Field} : (s.bumpSat f).sec = s.sec := rfl
@[simp] theorem State.bumpSat_guard {f : Field} : (s.bumpSat f).guard = s.guard := rfl
@[simp] theorem State.bumpSat_su {f : Field} : (s.bumpSat f).su = s.su := rfl
@[simp] theorem State.bumpSat_byte {f : Field} {k0 : Nat} : (s.bumpSat f).byte k0 = s.byte k0 := rfl

@[simp] theorem State.setByte_now {k : Nat} {v : Byte} : (s.setByte k v).now = s.now := rfl
@[simp] theorem State.setByte_variant {k : Nat} {v : Byte} : (s.setByte k v).variant = s.variant := rfl
@[simp] theorem State.setByte_regs {k : Nat} {v : Byte} : (s.setByte k v).regs = s.regs := rfl
@[simp] theorem State.setByte_fresh {k : Nat} {v : Byte} : (s.setByte k v).fresh = s.fresh := rfl
@[simp] theorem State.setByte_pending {k : Nat} {v : Byte} : (s.setByte k v).pending = s.pending := rfl
@[simp] theorem State.setByte_chans {k : Nat} {v : Byte} : (s.setByte k v).chans = s.chans := rfl
@[simp] theorem State.setByte_tb {k : Nat} {v : Byte} : (s.setByte k v).tb = s.tb := rfl
@[simp] theorem State.setByte_ops {k : Nat} {v : Byte} : (s.setByte k v).ops = s.ops := rfl
@[simp] theorem State.setByte_groups {k : Nat} {v : Byte} : (s.setByte k v).groups = s.groups := rfl
@[simp] theorem State.setByte_dies {k : Nat} {v : Byte} : (s.setByte k v).dies = s.dies := rfl
@[simp] theorem State.setByte_frames {k : Nat} {v : Byte} : (s.setByte k v).frames = s.frames := rfl
@[simp] theorem State.setByte_pts {k : Nat} {v : Byte} : (s.setByte k v).pts = s.pts := rfl
@[simp] theorem State.setByte_seqs {k : Nat} {v : Byte} : (s.setByte k v).seqs = s.seqs := rfl
@[simp] theorem State.setByte_trk {k : Nat} {v : Byte} : (s.setByte k v).trk = s.trk := rfl
@[simp] theorem State.setByte_dram {k : Nat} {v : Byte} : (s.setByte k v).dram = s.dram := rfl
@[simp] theorem State.setByte_heads {k : Nat} {v : Byte} : (s.setByte k v).heads = s.heads := rfl
@[simp] theorem State.setByte_drive {k : Nat} {v : Byte} : (s.setByte k v).drive = s.drive := rfl
@[simp] theorem State.setByte_motion {k : Nat} {v : Byte} : (s.setByte k v).motion = s.motion := rfl
@[simp] theorem State.setByte_twin {k : Nat} {v : Byte} : (s.setByte k v).twin = s.twin := rfl
@[simp] theorem State.setByte_cap {k : Nat} {v : Byte} : (s.setByte k v).cap = s.cap := rfl
@[simp] theorem State.setByte_hk {k : Nat} {v : Byte} : (s.setByte k v).hk = s.hk := rfl
@[simp] theorem State.setByte_therm {k : Nat} {v : Byte} : (s.setByte k v).therm = s.therm := rfl
@[simp] theorem State.setByte_sec {k : Nat} {v : Byte} : (s.setByte k v).sec = s.sec := rfl
@[simp] theorem State.setByte_guard {k : Nat} {v : Byte} : (s.setByte k v).guard = s.guard := rfl
@[simp] theorem State.setByte_su {k : Nat} {v : Byte} : (s.setByte k v).su = s.su := rfl
@[simp] theorem State.setByte_reg {k : Nat} {v : Byte} {k0 : Nat} : (s.setByte k v).reg k0 = s.reg k0 := rfl
@[simp] theorem State.setByte_get {k : Nat} {v : Byte} {f0 : Field} : (s.setByte k v).get f0 = s.get f0 := rfl
@[simp] theorem State.setByte_flag {k : Nat} {v : Byte} {f0 : Field} : (s.setByte k v).flag f0 = s.flag f0 := rfl

@[simp] theorem State.setChan_now {k : Nat} {v : Chan} : (s.setChan k v).now = s.now := rfl
@[simp] theorem State.setChan_variant {k : Nat} {v : Chan} : (s.setChan k v).variant = s.variant := rfl
@[simp] theorem State.setChan_regs {k : Nat} {v : Chan} : (s.setChan k v).regs = s.regs := rfl
@[simp] theorem State.setChan_mem {k : Nat} {v : Chan} : (s.setChan k v).mem = s.mem := rfl
@[simp] theorem State.setChan_fresh {k : Nat} {v : Chan} : (s.setChan k v).fresh = s.fresh := rfl
@[simp] theorem State.setChan_pending {k : Nat} {v : Chan} : (s.setChan k v).pending = s.pending := rfl
@[simp] theorem State.setChan_tb {k : Nat} {v : Chan} : (s.setChan k v).tb = s.tb := rfl
@[simp] theorem State.setChan_ops {k : Nat} {v : Chan} : (s.setChan k v).ops = s.ops := rfl
@[simp] theorem State.setChan_groups {k : Nat} {v : Chan} : (s.setChan k v).groups = s.groups := rfl
@[simp] theorem State.setChan_dies {k : Nat} {v : Chan} : (s.setChan k v).dies = s.dies := rfl
@[simp] theorem State.setChan_frames {k : Nat} {v : Chan} : (s.setChan k v).frames = s.frames := rfl
@[simp] theorem State.setChan_pts {k : Nat} {v : Chan} : (s.setChan k v).pts = s.pts := rfl
@[simp] theorem State.setChan_seqs {k : Nat} {v : Chan} : (s.setChan k v).seqs = s.seqs := rfl
@[simp] theorem State.setChan_trk {k : Nat} {v : Chan} : (s.setChan k v).trk = s.trk := rfl
@[simp] theorem State.setChan_dram {k : Nat} {v : Chan} : (s.setChan k v).dram = s.dram := rfl
@[simp] theorem State.setChan_heads {k : Nat} {v : Chan} : (s.setChan k v).heads = s.heads := rfl
@[simp] theorem State.setChan_drive {k : Nat} {v : Chan} : (s.setChan k v).drive = s.drive := rfl
@[simp] theorem State.setChan_motion {k : Nat} {v : Chan} : (s.setChan k v).motion = s.motion := rfl
@[simp] theorem State.setChan_twin {k : Nat} {v : Chan} : (s.setChan k v).twin = s.twin := rfl
@[simp] theorem State.setChan_cap {k : Nat} {v : Chan} : (s.setChan k v).cap = s.cap := rfl
@[simp] theorem State.setChan_hk {k : Nat} {v : Chan} : (s.setChan k v).hk = s.hk := rfl
@[simp] theorem State.setChan_therm {k : Nat} {v : Chan} : (s.setChan k v).therm = s.therm := rfl
@[simp] theorem State.setChan_sec {k : Nat} {v : Chan} : (s.setChan k v).sec = s.sec := rfl
@[simp] theorem State.setChan_guard {k : Nat} {v : Chan} : (s.setChan k v).guard = s.guard := rfl
@[simp] theorem State.setChan_su {k : Nat} {v : Chan} : (s.setChan k v).su = s.su := rfl
@[simp] theorem State.setChan_reg {k : Nat} {v : Chan} {k0 : Nat} : (s.setChan k v).reg k0 = s.reg k0 := rfl
@[simp] theorem State.setChan_get {k : Nat} {v : Chan} {f0 : Field} : (s.setChan k v).get f0 = s.get f0 := rfl
@[simp] theorem State.setChan_flag {k : Nat} {v : Chan} {f0 : Field} : (s.setChan k v).flag f0 = s.flag f0 := rfl
@[simp] theorem State.setChan_byte {k : Nat} {v : Chan} {k0 : Nat} : (s.setChan k v).byte k0 = s.byte k0 := rfl

@[simp] theorem State.setOp_now {d k : Nat} {v : Option Op} : (s.setOp d k v).now = s.now := rfl
@[simp] theorem State.setOp_variant {d k : Nat} {v : Option Op} : (s.setOp d k v).variant = s.variant := rfl
@[simp] theorem State.setOp_regs {d k : Nat} {v : Option Op} : (s.setOp d k v).regs = s.regs := rfl
@[simp] theorem State.setOp_mem {d k : Nat} {v : Option Op} : (s.setOp d k v).mem = s.mem := rfl
@[simp] theorem State.setOp_fresh {d k : Nat} {v : Option Op} : (s.setOp d k v).fresh = s.fresh := rfl
@[simp] theorem State.setOp_pending {d k : Nat} {v : Option Op} : (s.setOp d k v).pending = s.pending := rfl
@[simp] theorem State.setOp_chans {d k : Nat} {v : Option Op} : (s.setOp d k v).chans = s.chans := rfl
@[simp] theorem State.setOp_tb {d k : Nat} {v : Option Op} : (s.setOp d k v).tb = s.tb := rfl
@[simp] theorem State.setOp_groups {d k : Nat} {v : Option Op} : (s.setOp d k v).groups = s.groups := rfl
@[simp] theorem State.setOp_dies {d k : Nat} {v : Option Op} : (s.setOp d k v).dies = s.dies := rfl
@[simp] theorem State.setOp_frames {d k : Nat} {v : Option Op} : (s.setOp d k v).frames = s.frames := rfl
@[simp] theorem State.setOp_pts {d k : Nat} {v : Option Op} : (s.setOp d k v).pts = s.pts := rfl
@[simp] theorem State.setOp_seqs {d k : Nat} {v : Option Op} : (s.setOp d k v).seqs = s.seqs := rfl
@[simp] theorem State.setOp_trk {d k : Nat} {v : Option Op} : (s.setOp d k v).trk = s.trk := rfl
@[simp] theorem State.setOp_dram {d k : Nat} {v : Option Op} : (s.setOp d k v).dram = s.dram := rfl
@[simp] theorem State.setOp_heads {d k : Nat} {v : Option Op} : (s.setOp d k v).heads = s.heads := rfl
@[simp] theorem State.setOp_drive {d k : Nat} {v : Option Op} : (s.setOp d k v).drive = s.drive := rfl
@[simp] theorem State.setOp_motion {d k : Nat} {v : Option Op} : (s.setOp d k v).motion = s.motion := rfl
@[simp] theorem State.setOp_twin {d k : Nat} {v : Option Op} : (s.setOp d k v).twin = s.twin := rfl
@[simp] theorem State.setOp_cap {d k : Nat} {v : Option Op} : (s.setOp d k v).cap = s.cap := rfl
@[simp] theorem State.setOp_hk {d k : Nat} {v : Option Op} : (s.setOp d k v).hk = s.hk := rfl
@[simp] theorem State.setOp_therm {d k : Nat} {v : Option Op} : (s.setOp d k v).therm = s.therm := rfl
@[simp] theorem State.setOp_sec {d k : Nat} {v : Option Op} : (s.setOp d k v).sec = s.sec := rfl
@[simp] theorem State.setOp_guard {d k : Nat} {v : Option Op} : (s.setOp d k v).guard = s.guard := rfl
@[simp] theorem State.setOp_su {d k : Nat} {v : Option Op} : (s.setOp d k v).su = s.su := rfl
@[simp] theorem State.setOp_reg {d k : Nat} {v : Option Op} {k0 : Nat} : (s.setOp d k v).reg k0 = s.reg k0 := rfl
@[simp] theorem State.setOp_get {d k : Nat} {v : Option Op} {f0 : Field} : (s.setOp d k v).get f0 = s.get f0 := rfl
@[simp] theorem State.setOp_flag {d k : Nat} {v : Option Op} {f0 : Field} : (s.setOp d k v).flag f0 = s.flag f0 := rfl
@[simp] theorem State.setOp_byte {d k : Nat} {v : Option Op} {k0 : Nat} : (s.setOp d k v).byte k0 = s.byte k0 := rfl

@[simp] theorem State.setGroup_now {d k : Nat} {v : Group} : (s.setGroup d k v).now = s.now := rfl
@[simp] theorem State.setGroup_variant {d k : Nat} {v : Group} : (s.setGroup d k v).variant = s.variant := rfl
@[simp] theorem State.setGroup_regs {d k : Nat} {v : Group} : (s.setGroup d k v).regs = s.regs := rfl
@[simp] theorem State.setGroup_mem {d k : Nat} {v : Group} : (s.setGroup d k v).mem = s.mem := rfl
@[simp] theorem State.setGroup_fresh {d k : Nat} {v : Group} : (s.setGroup d k v).fresh = s.fresh := rfl
@[simp] theorem State.setGroup_pending {d k : Nat} {v : Group} : (s.setGroup d k v).pending = s.pending := rfl
@[simp] theorem State.setGroup_chans {d k : Nat} {v : Group} : (s.setGroup d k v).chans = s.chans := rfl
@[simp] theorem State.setGroup_tb {d k : Nat} {v : Group} : (s.setGroup d k v).tb = s.tb := rfl
@[simp] theorem State.setGroup_ops {d k : Nat} {v : Group} : (s.setGroup d k v).ops = s.ops := rfl
@[simp] theorem State.setGroup_dies {d k : Nat} {v : Group} : (s.setGroup d k v).dies = s.dies := rfl
@[simp] theorem State.setGroup_frames {d k : Nat} {v : Group} : (s.setGroup d k v).frames = s.frames := rfl
@[simp] theorem State.setGroup_pts {d k : Nat} {v : Group} : (s.setGroup d k v).pts = s.pts := rfl
@[simp] theorem State.setGroup_seqs {d k : Nat} {v : Group} : (s.setGroup d k v).seqs = s.seqs := rfl
@[simp] theorem State.setGroup_trk {d k : Nat} {v : Group} : (s.setGroup d k v).trk = s.trk := rfl
@[simp] theorem State.setGroup_dram {d k : Nat} {v : Group} : (s.setGroup d k v).dram = s.dram := rfl
@[simp] theorem State.setGroup_heads {d k : Nat} {v : Group} : (s.setGroup d k v).heads = s.heads := rfl
@[simp] theorem State.setGroup_drive {d k : Nat} {v : Group} : (s.setGroup d k v).drive = s.drive := rfl
@[simp] theorem State.setGroup_motion {d k : Nat} {v : Group} : (s.setGroup d k v).motion = s.motion := rfl
@[simp] theorem State.setGroup_twin {d k : Nat} {v : Group} : (s.setGroup d k v).twin = s.twin := rfl
@[simp] theorem State.setGroup_cap {d k : Nat} {v : Group} : (s.setGroup d k v).cap = s.cap := rfl
@[simp] theorem State.setGroup_hk {d k : Nat} {v : Group} : (s.setGroup d k v).hk = s.hk := rfl
@[simp] theorem State.setGroup_therm {d k : Nat} {v : Group} : (s.setGroup d k v).therm = s.therm := rfl
@[simp] theorem State.setGroup_sec {d k : Nat} {v : Group} : (s.setGroup d k v).sec = s.sec := rfl
@[simp] theorem State.setGroup_guard {d k : Nat} {v : Group} : (s.setGroup d k v).guard = s.guard := rfl
@[simp] theorem State.setGroup_su {d k : Nat} {v : Group} : (s.setGroup d k v).su = s.su := rfl
@[simp] theorem State.setGroup_reg {d k : Nat} {v : Group} {k0 : Nat} : (s.setGroup d k v).reg k0 = s.reg k0 := rfl
@[simp] theorem State.setGroup_get {d k : Nat} {v : Group} {f0 : Field} : (s.setGroup d k v).get f0 = s.get f0 := rfl
@[simp] theorem State.setGroup_flag {d k : Nat} {v : Group} {f0 : Field} : (s.setGroup d k v).flag f0 = s.flag f0 := rfl
@[simp] theorem State.setGroup_byte {d k : Nat} {v : Group} {k0 : Nat} : (s.setGroup d k v).byte k0 = s.byte k0 := rfl

@[simp] theorem State.setDie_now {k : Nat} {v : Die} : (s.setDie k v).now = s.now := rfl
@[simp] theorem State.setDie_variant {k : Nat} {v : Die} : (s.setDie k v).variant = s.variant := rfl
@[simp] theorem State.setDie_regs {k : Nat} {v : Die} : (s.setDie k v).regs = s.regs := rfl
@[simp] theorem State.setDie_mem {k : Nat} {v : Die} : (s.setDie k v).mem = s.mem := rfl
@[simp] theorem State.setDie_fresh {k : Nat} {v : Die} : (s.setDie k v).fresh = s.fresh := rfl
@[simp] theorem State.setDie_pending {k : Nat} {v : Die} : (s.setDie k v).pending = s.pending := rfl
@[simp] theorem State.setDie_chans {k : Nat} {v : Die} : (s.setDie k v).chans = s.chans := rfl
@[simp] theorem State.setDie_tb {k : Nat} {v : Die} : (s.setDie k v).tb = s.tb := rfl
@[simp] theorem State.setDie_ops {k : Nat} {v : Die} : (s.setDie k v).ops = s.ops := rfl
@[simp] theorem State.setDie_groups {k : Nat} {v : Die} : (s.setDie k v).groups = s.groups := rfl
@[simp] theorem State.setDie_frames {k : Nat} {v : Die} : (s.setDie k v).frames = s.frames := rfl
@[simp] theorem State.setDie_pts {k : Nat} {v : Die} : (s.setDie k v).pts = s.pts := rfl
@[simp] theorem State.setDie_seqs {k : Nat} {v : Die} : (s.setDie k v).seqs = s.seqs := rfl
@[simp] theorem State.setDie_trk {k : Nat} {v : Die} : (s.setDie k v).trk = s.trk := rfl
@[simp] theorem State.setDie_dram {k : Nat} {v : Die} : (s.setDie k v).dram = s.dram := rfl
@[simp] theorem State.setDie_heads {k : Nat} {v : Die} : (s.setDie k v).heads = s.heads := rfl
@[simp] theorem State.setDie_drive {k : Nat} {v : Die} : (s.setDie k v).drive = s.drive := rfl
@[simp] theorem State.setDie_motion {k : Nat} {v : Die} : (s.setDie k v).motion = s.motion := rfl
@[simp] theorem State.setDie_twin {k : Nat} {v : Die} : (s.setDie k v).twin = s.twin := rfl
@[simp] theorem State.setDie_cap {k : Nat} {v : Die} : (s.setDie k v).cap = s.cap := rfl
@[simp] theorem State.setDie_hk {k : Nat} {v : Die} : (s.setDie k v).hk = s.hk := rfl
@[simp] theorem State.setDie_therm {k : Nat} {v : Die} : (s.setDie k v).therm = s.therm := rfl
@[simp] theorem State.setDie_sec {k : Nat} {v : Die} : (s.setDie k v).sec = s.sec := rfl
@[simp] theorem State.setDie_guard {k : Nat} {v : Die} : (s.setDie k v).guard = s.guard := rfl
@[simp] theorem State.setDie_su {k : Nat} {v : Die} : (s.setDie k v).su = s.su := rfl
@[simp] theorem State.setDie_reg {k : Nat} {v : Die} {k0 : Nat} : (s.setDie k v).reg k0 = s.reg k0 := rfl
@[simp] theorem State.setDie_get {k : Nat} {v : Die} {f0 : Field} : (s.setDie k v).get f0 = s.get f0 := rfl
@[simp] theorem State.setDie_flag {k : Nat} {v : Die} {f0 : Field} : (s.setDie k v).flag f0 = s.flag f0 := rfl
@[simp] theorem State.setDie_byte {k : Nat} {v : Die} {k0 : Nat} : (s.setDie k v).byte k0 = s.byte k0 := rfl

@[simp] theorem State.setFrame_now {d k : Nat} {v : Option FrameAcc} : (s.setFrame d k v).now = s.now := rfl
@[simp] theorem State.setFrame_variant {d k : Nat} {v : Option FrameAcc} : (s.setFrame d k v).variant = s.variant := rfl
@[simp] theorem State.setFrame_regs {d k : Nat} {v : Option FrameAcc} : (s.setFrame d k v).regs = s.regs := rfl
@[simp] theorem State.setFrame_mem {d k : Nat} {v : Option FrameAcc} : (s.setFrame d k v).mem = s.mem := rfl
@[simp] theorem State.setFrame_fresh {d k : Nat} {v : Option FrameAcc} : (s.setFrame d k v).fresh = s.fresh := rfl
@[simp] theorem State.setFrame_pending {d k : Nat} {v : Option FrameAcc} : (s.setFrame d k v).pending = s.pending := rfl
@[simp] theorem State.setFrame_chans {d k : Nat} {v : Option FrameAcc} : (s.setFrame d k v).chans = s.chans := rfl
@[simp] theorem State.setFrame_tb {d k : Nat} {v : Option FrameAcc} : (s.setFrame d k v).tb = s.tb := rfl
@[simp] theorem State.setFrame_ops {d k : Nat} {v : Option FrameAcc} : (s.setFrame d k v).ops = s.ops := rfl
@[simp] theorem State.setFrame_groups {d k : Nat} {v : Option FrameAcc} : (s.setFrame d k v).groups = s.groups := rfl
@[simp] theorem State.setFrame_dies {d k : Nat} {v : Option FrameAcc} : (s.setFrame d k v).dies = s.dies := rfl
@[simp] theorem State.setFrame_pts {d k : Nat} {v : Option FrameAcc} : (s.setFrame d k v).pts = s.pts := rfl
@[simp] theorem State.setFrame_seqs {d k : Nat} {v : Option FrameAcc} : (s.setFrame d k v).seqs = s.seqs := rfl
@[simp] theorem State.setFrame_trk {d k : Nat} {v : Option FrameAcc} : (s.setFrame d k v).trk = s.trk := rfl
@[simp] theorem State.setFrame_dram {d k : Nat} {v : Option FrameAcc} : (s.setFrame d k v).dram = s.dram := rfl
@[simp] theorem State.setFrame_heads {d k : Nat} {v : Option FrameAcc} : (s.setFrame d k v).heads = s.heads := rfl
@[simp] theorem State.setFrame_drive {d k : Nat} {v : Option FrameAcc} : (s.setFrame d k v).drive = s.drive := rfl
@[simp] theorem State.setFrame_motion {d k : Nat} {v : Option FrameAcc} : (s.setFrame d k v).motion = s.motion := rfl
@[simp] theorem State.setFrame_twin {d k : Nat} {v : Option FrameAcc} : (s.setFrame d k v).twin = s.twin := rfl
@[simp] theorem State.setFrame_cap {d k : Nat} {v : Option FrameAcc} : (s.setFrame d k v).cap = s.cap := rfl
@[simp] theorem State.setFrame_hk {d k : Nat} {v : Option FrameAcc} : (s.setFrame d k v).hk = s.hk := rfl
@[simp] theorem State.setFrame_therm {d k : Nat} {v : Option FrameAcc} : (s.setFrame d k v).therm = s.therm := rfl
@[simp] theorem State.setFrame_sec {d k : Nat} {v : Option FrameAcc} : (s.setFrame d k v).sec = s.sec := rfl
@[simp] theorem State.setFrame_guard {d k : Nat} {v : Option FrameAcc} : (s.setFrame d k v).guard = s.guard := rfl
@[simp] theorem State.setFrame_su {d k : Nat} {v : Option FrameAcc} : (s.setFrame d k v).su = s.su := rfl
@[simp] theorem State.setFrame_reg {d k : Nat} {v : Option FrameAcc} {k0 : Nat} : (s.setFrame d k v).reg k0 = s.reg k0 := rfl
@[simp] theorem State.setFrame_get {d k : Nat} {v : Option FrameAcc} {f0 : Field} : (s.setFrame d k v).get f0 = s.get f0 := rfl
@[simp] theorem State.setFrame_flag {d k : Nat} {v : Option FrameAcc} {f0 : Field} : (s.setFrame d k v).flag f0 = s.flag f0 := rfl
@[simp] theorem State.setFrame_byte {d k : Nat} {v : Option FrameAcc} {k0 : Nat} : (s.setFrame d k v).byte k0 = s.byte k0 := rfl

@[simp] theorem State.setSeq_now {k : Nat} {v : Seq} : (s.setSeq k v).now = s.now := rfl
@[simp] theorem State.setSeq_variant {k : Nat} {v : Seq} : (s.setSeq k v).variant = s.variant := rfl
@[simp] theorem State.setSeq_regs {k : Nat} {v : Seq} : (s.setSeq k v).regs = s.regs := rfl
@[simp] theorem State.setSeq_mem {k : Nat} {v : Seq} : (s.setSeq k v).mem = s.mem := rfl
@[simp] theorem State.setSeq_fresh {k : Nat} {v : Seq} : (s.setSeq k v).fresh = s.fresh := rfl
@[simp] theorem State.setSeq_pending {k : Nat} {v : Seq} : (s.setSeq k v).pending = s.pending := rfl
@[simp] theorem State.setSeq_chans {k : Nat} {v : Seq} : (s.setSeq k v).chans = s.chans := rfl
@[simp] theorem State.setSeq_tb {k : Nat} {v : Seq} : (s.setSeq k v).tb = s.tb := rfl
@[simp] theorem State.setSeq_ops {k : Nat} {v : Seq} : (s.setSeq k v).ops = s.ops := rfl
@[simp] theorem State.setSeq_groups {k : Nat} {v : Seq} : (s.setSeq k v).groups = s.groups := rfl
@[simp] theorem State.setSeq_dies {k : Nat} {v : Seq} : (s.setSeq k v).dies = s.dies := rfl
@[simp] theorem State.setSeq_frames {k : Nat} {v : Seq} : (s.setSeq k v).frames = s.frames := rfl
@[simp] theorem State.setSeq_pts {k : Nat} {v : Seq} : (s.setSeq k v).pts = s.pts := rfl
@[simp] theorem State.setSeq_trk {k : Nat} {v : Seq} : (s.setSeq k v).trk = s.trk := rfl
@[simp] theorem State.setSeq_dram {k : Nat} {v : Seq} : (s.setSeq k v).dram = s.dram := rfl
@[simp] theorem State.setSeq_heads {k : Nat} {v : Seq} : (s.setSeq k v).heads = s.heads := rfl
@[simp] theorem State.setSeq_drive {k : Nat} {v : Seq} : (s.setSeq k v).drive = s.drive := rfl
@[simp] theorem State.setSeq_motion {k : Nat} {v : Seq} : (s.setSeq k v).motion = s.motion := rfl
@[simp] theorem State.setSeq_twin {k : Nat} {v : Seq} : (s.setSeq k v).twin = s.twin := rfl
@[simp] theorem State.setSeq_cap {k : Nat} {v : Seq} : (s.setSeq k v).cap = s.cap := rfl
@[simp] theorem State.setSeq_hk {k : Nat} {v : Seq} : (s.setSeq k v).hk = s.hk := rfl
@[simp] theorem State.setSeq_therm {k : Nat} {v : Seq} : (s.setSeq k v).therm = s.therm := rfl
@[simp] theorem State.setSeq_sec {k : Nat} {v : Seq} : (s.setSeq k v).sec = s.sec := rfl
@[simp] theorem State.setSeq_guard {k : Nat} {v : Seq} : (s.setSeq k v).guard = s.guard := rfl
@[simp] theorem State.setSeq_su {k : Nat} {v : Seq} : (s.setSeq k v).su = s.su := rfl
@[simp] theorem State.setSeq_reg {k : Nat} {v : Seq} {k0 : Nat} : (s.setSeq k v).reg k0 = s.reg k0 := rfl
@[simp] theorem State.setSeq_get {k : Nat} {v : Seq} {f0 : Field} : (s.setSeq k v).get f0 = s.get f0 := rfl
@[simp] theorem State.setSeq_flag {k : Nat} {v : Seq} {f0 : Field} : (s.setSeq k v).flag f0 = s.flag f0 := rfl
@[simp] theorem State.setSeq_byte {k : Nat} {v : Seq} {k0 : Nat} : (s.setSeq k v).byte k0 = s.byte k0 := rfl

@[simp] theorem State.setLane_now {k : Nat} {v : Lane} : (s.setLane k v).now = s.now := rfl
@[simp] theorem State.setLane_variant {k : Nat} {v : Lane} : (s.setLane k v).variant = s.variant := rfl
@[simp] theorem State.setLane_regs {k : Nat} {v : Lane} : (s.setLane k v).regs = s.regs := rfl
@[simp] theorem State.setLane_mem {k : Nat} {v : Lane} : (s.setLane k v).mem = s.mem := rfl
@[simp] theorem State.setLane_fresh {k : Nat} {v : Lane} : (s.setLane k v).fresh = s.fresh := rfl
@[simp] theorem State.setLane_pending {k : Nat} {v : Lane} : (s.setLane k v).pending = s.pending := rfl
@[simp] theorem State.setLane_chans {k : Nat} {v : Lane} : (s.setLane k v).chans = s.chans := rfl
@[simp] theorem State.setLane_tb {k : Nat} {v : Lane} : (s.setLane k v).tb = s.tb := rfl
@[simp] theorem State.setLane_ops {k : Nat} {v : Lane} : (s.setLane k v).ops = s.ops := rfl
@[simp] theorem State.setLane_groups {k : Nat} {v : Lane} : (s.setLane k v).groups = s.groups := rfl
@[simp] theorem State.setLane_dies {k : Nat} {v : Lane} : (s.setLane k v).dies = s.dies := rfl
@[simp] theorem State.setLane_frames {k : Nat} {v : Lane} : (s.setLane k v).frames = s.frames := rfl
@[simp] theorem State.setLane_pts {k : Nat} {v : Lane} : (s.setLane k v).pts = s.pts := rfl
@[simp] theorem State.setLane_seqs {k : Nat} {v : Lane} : (s.setLane k v).seqs = s.seqs := rfl
@[simp] theorem State.setLane_dram {k : Nat} {v : Lane} : (s.setLane k v).dram = s.dram := rfl
@[simp] theorem State.setLane_heads {k : Nat} {v : Lane} : (s.setLane k v).heads = s.heads := rfl
@[simp] theorem State.setLane_drive {k : Nat} {v : Lane} : (s.setLane k v).drive = s.drive := rfl
@[simp] theorem State.setLane_motion {k : Nat} {v : Lane} : (s.setLane k v).motion = s.motion := rfl
@[simp] theorem State.setLane_twin {k : Nat} {v : Lane} : (s.setLane k v).twin = s.twin := rfl
@[simp] theorem State.setLane_cap {k : Nat} {v : Lane} : (s.setLane k v).cap = s.cap := rfl
@[simp] theorem State.setLane_hk {k : Nat} {v : Lane} : (s.setLane k v).hk = s.hk := rfl
@[simp] theorem State.setLane_therm {k : Nat} {v : Lane} : (s.setLane k v).therm = s.therm := rfl
@[simp] theorem State.setLane_sec {k : Nat} {v : Lane} : (s.setLane k v).sec = s.sec := rfl
@[simp] theorem State.setLane_guard {k : Nat} {v : Lane} : (s.setLane k v).guard = s.guard := rfl
@[simp] theorem State.setLane_su {k : Nat} {v : Lane} : (s.setLane k v).su = s.su := rfl
@[simp] theorem State.setLane_reg {k : Nat} {v : Lane} {k0 : Nat} : (s.setLane k v).reg k0 = s.reg k0 := rfl
@[simp] theorem State.setLane_get {k : Nat} {v : Lane} {f0 : Field} : (s.setLane k v).get f0 = s.get f0 := rfl
@[simp] theorem State.setLane_flag {k : Nat} {v : Lane} {f0 : Field} : (s.setLane k v).flag f0 = s.flag f0 := rfl
@[simp] theorem State.setLane_byte {k : Nat} {v : Lane} {k0 : Nat} : (s.setLane k v).byte k0 = s.byte k0 := rfl

@[simp] theorem State.setStream_now {k : Nat} {v : Stream} : (s.setStream k v).now = s.now := rfl
@[simp] theorem State.setStream_variant {k : Nat} {v : Stream} : (s.setStream k v).variant = s.variant := rfl
@[simp] theorem State.setStream_regs {k : Nat} {v : Stream} : (s.setStream k v).regs = s.regs := rfl
@[simp] theorem State.setStream_mem {k : Nat} {v : Stream} : (s.setStream k v).mem = s.mem := rfl
@[simp] theorem State.setStream_fresh {k : Nat} {v : Stream} : (s.setStream k v).fresh = s.fresh := rfl
@[simp] theorem State.setStream_pending {k : Nat} {v : Stream} : (s.setStream k v).pending = s.pending := rfl
@[simp] theorem State.setStream_chans {k : Nat} {v : Stream} : (s.setStream k v).chans = s.chans := rfl
@[simp] theorem State.setStream_tb {k : Nat} {v : Stream} : (s.setStream k v).tb = s.tb := rfl
@[simp] theorem State.setStream_ops {k : Nat} {v : Stream} : (s.setStream k v).ops = s.ops := rfl
@[simp] theorem State.setStream_groups {k : Nat} {v : Stream} : (s.setStream k v).groups = s.groups := rfl
@[simp] theorem State.setStream_dies {k : Nat} {v : Stream} : (s.setStream k v).dies = s.dies := rfl
@[simp] theorem State.setStream_frames {k : Nat} {v : Stream} : (s.setStream k v).frames = s.frames := rfl
@[simp] theorem State.setStream_pts {k : Nat} {v : Stream} : (s.setStream k v).pts = s.pts := rfl
@[simp] theorem State.setStream_seqs {k : Nat} {v : Stream} : (s.setStream k v).seqs = s.seqs := rfl
@[simp] theorem State.setStream_dram {k : Nat} {v : Stream} : (s.setStream k v).dram = s.dram := rfl
@[simp] theorem State.setStream_heads {k : Nat} {v : Stream} : (s.setStream k v).heads = s.heads := rfl
@[simp] theorem State.setStream_drive {k : Nat} {v : Stream} : (s.setStream k v).drive = s.drive := rfl
@[simp] theorem State.setStream_motion {k : Nat} {v : Stream} : (s.setStream k v).motion = s.motion := rfl
@[simp] theorem State.setStream_twin {k : Nat} {v : Stream} : (s.setStream k v).twin = s.twin := rfl
@[simp] theorem State.setStream_cap {k : Nat} {v : Stream} : (s.setStream k v).cap = s.cap := rfl
@[simp] theorem State.setStream_hk {k : Nat} {v : Stream} : (s.setStream k v).hk = s.hk := rfl
@[simp] theorem State.setStream_therm {k : Nat} {v : Stream} : (s.setStream k v).therm = s.therm := rfl
@[simp] theorem State.setStream_sec {k : Nat} {v : Stream} : (s.setStream k v).sec = s.sec := rfl
@[simp] theorem State.setStream_guard {k : Nat} {v : Stream} : (s.setStream k v).guard = s.guard := rfl
@[simp] theorem State.setStream_su {k : Nat} {v : Stream} : (s.setStream k v).su = s.su := rfl
@[simp] theorem State.setStream_reg {k : Nat} {v : Stream} {k0 : Nat} : (s.setStream k v).reg k0 = s.reg k0 := rfl
@[simp] theorem State.setStream_get {k : Nat} {v : Stream} {f0 : Field} : (s.setStream k v).get f0 = s.get f0 := rfl
@[simp] theorem State.setStream_flag {k : Nat} {v : Stream} {f0 : Field} : (s.setStream k v).flag f0 = s.flag f0 := rfl
@[simp] theorem State.setStream_byte {k : Nat} {v : Stream} {k0 : Nat} : (s.setStream k v).byte k0 = s.byte k0 := rfl

@[simp] theorem State.setPort_now {k : Nat} {v : Port} : (s.setPort k v).now = s.now := rfl
@[simp] theorem State.setPort_variant {k : Nat} {v : Port} : (s.setPort k v).variant = s.variant := rfl
@[simp] theorem State.setPort_regs {k : Nat} {v : Port} : (s.setPort k v).regs = s.regs := rfl
@[simp] theorem State.setPort_mem {k : Nat} {v : Port} : (s.setPort k v).mem = s.mem := rfl
@[simp] theorem State.setPort_fresh {k : Nat} {v : Port} : (s.setPort k v).fresh = s.fresh := rfl
@[simp] theorem State.setPort_pending {k : Nat} {v : Port} : (s.setPort k v).pending = s.pending := rfl
@[simp] theorem State.setPort_chans {k : Nat} {v : Port} : (s.setPort k v).chans = s.chans := rfl
@[simp] theorem State.setPort_tb {k : Nat} {v : Port} : (s.setPort k v).tb = s.tb := rfl
@[simp] theorem State.setPort_ops {k : Nat} {v : Port} : (s.setPort k v).ops = s.ops := rfl
@[simp] theorem State.setPort_groups {k : Nat} {v : Port} : (s.setPort k v).groups = s.groups := rfl
@[simp] theorem State.setPort_dies {k : Nat} {v : Port} : (s.setPort k v).dies = s.dies := rfl
@[simp] theorem State.setPort_frames {k : Nat} {v : Port} : (s.setPort k v).frames = s.frames := rfl
@[simp] theorem State.setPort_pts {k : Nat} {v : Port} : (s.setPort k v).pts = s.pts := rfl
@[simp] theorem State.setPort_seqs {k : Nat} {v : Port} : (s.setPort k v).seqs = s.seqs := rfl
@[simp] theorem State.setPort_dram {k : Nat} {v : Port} : (s.setPort k v).dram = s.dram := rfl
@[simp] theorem State.setPort_heads {k : Nat} {v : Port} : (s.setPort k v).heads = s.heads := rfl
@[simp] theorem State.setPort_drive {k : Nat} {v : Port} : (s.setPort k v).drive = s.drive := rfl
@[simp] theorem State.setPort_motion {k : Nat} {v : Port} : (s.setPort k v).motion = s.motion := rfl
@[simp] theorem State.setPort_twin {k : Nat} {v : Port} : (s.setPort k v).twin = s.twin := rfl
@[simp] theorem State.setPort_cap {k : Nat} {v : Port} : (s.setPort k v).cap = s.cap := rfl
@[simp] theorem State.setPort_hk {k : Nat} {v : Port} : (s.setPort k v).hk = s.hk := rfl
@[simp] theorem State.setPort_therm {k : Nat} {v : Port} : (s.setPort k v).therm = s.therm := rfl
@[simp] theorem State.setPort_sec {k : Nat} {v : Port} : (s.setPort k v).sec = s.sec := rfl
@[simp] theorem State.setPort_guard {k : Nat} {v : Port} : (s.setPort k v).guard = s.guard := rfl
@[simp] theorem State.setPort_su {k : Nat} {v : Port} : (s.setPort k v).su = s.su := rfl
@[simp] theorem State.setPort_reg {k : Nat} {v : Port} {k0 : Nat} : (s.setPort k v).reg k0 = s.reg k0 := rfl
@[simp] theorem State.setPort_get {k : Nat} {v : Port} {f0 : Field} : (s.setPort k v).get f0 = s.get f0 := rfl
@[simp] theorem State.setPort_flag {k : Nat} {v : Port} {f0 : Field} : (s.setPort k v).flag f0 = s.flag f0 := rfl
@[simp] theorem State.setPort_byte {k : Nat} {v : Port} {k0 : Nat} : (s.setPort k v).byte k0 = s.byte k0 := rfl

@[simp] theorem State.setDram_now {v : Mem} : (s.setDram v).now = s.now := rfl
@[simp] theorem State.setDram_variant {v : Mem} : (s.setDram v).variant = s.variant := rfl
@[simp] theorem State.setDram_regs {v : Mem} : (s.setDram v).regs = s.regs := rfl
@[simp] theorem State.setDram_mem {v : Mem} : (s.setDram v).mem = s.mem := rfl
@[simp] theorem State.setDram_fresh {v : Mem} : (s.setDram v).fresh = s.fresh := rfl
@[simp] theorem State.setDram_pending {v : Mem} : (s.setDram v).pending = s.pending := rfl
@[simp] theorem State.setDram_chans {v : Mem} : (s.setDram v).chans = s.chans := rfl
@[simp] theorem State.setDram_tb {v : Mem} : (s.setDram v).tb = s.tb := rfl
@[simp] theorem State.setDram_ops {v : Mem} : (s.setDram v).ops = s.ops := rfl
@[simp] theorem State.setDram_groups {v : Mem} : (s.setDram v).groups = s.groups := rfl
@[simp] theorem State.setDram_dies {v : Mem} : (s.setDram v).dies = s.dies := rfl
@[simp] theorem State.setDram_frames {v : Mem} : (s.setDram v).frames = s.frames := rfl
@[simp] theorem State.setDram_pts {v : Mem} : (s.setDram v).pts = s.pts := rfl
@[simp] theorem State.setDram_seqs {v : Mem} : (s.setDram v).seqs = s.seqs := rfl
@[simp] theorem State.setDram_trk {v : Mem} : (s.setDram v).trk = s.trk := rfl
@[simp] theorem State.setDram_heads {v : Mem} : (s.setDram v).heads = s.heads := rfl
@[simp] theorem State.setDram_drive {v : Mem} : (s.setDram v).drive = s.drive := rfl
@[simp] theorem State.setDram_motion {v : Mem} : (s.setDram v).motion = s.motion := rfl
@[simp] theorem State.setDram_twin {v : Mem} : (s.setDram v).twin = s.twin := rfl
@[simp] theorem State.setDram_cap {v : Mem} : (s.setDram v).cap = s.cap := rfl
@[simp] theorem State.setDram_hk {v : Mem} : (s.setDram v).hk = s.hk := rfl
@[simp] theorem State.setDram_therm {v : Mem} : (s.setDram v).therm = s.therm := rfl
@[simp] theorem State.setDram_sec {v : Mem} : (s.setDram v).sec = s.sec := rfl
@[simp] theorem State.setDram_guard {v : Mem} : (s.setDram v).guard = s.guard := rfl
@[simp] theorem State.setDram_su {v : Mem} : (s.setDram v).su = s.su := rfl
@[simp] theorem State.setDram_reg {v : Mem} {k0 : Nat} : (s.setDram v).reg k0 = s.reg k0 := rfl
@[simp] theorem State.setDram_get {v : Mem} {f0 : Field} : (s.setDram v).get f0 = s.get f0 := rfl
@[simp] theorem State.setDram_flag {v : Mem} {f0 : Field} : (s.setDram v).flag f0 = s.flag f0 := rfl
@[simp] theorem State.setDram_byte {v : Mem} {k0 : Nat} : (s.setDram v).byte k0 = s.byte k0 := rfl

@[simp] theorem State.setHead_now {k : Nat} {v : Head} : (s.setHead k v).now = s.now := rfl
@[simp] theorem State.setHead_variant {k : Nat} {v : Head} : (s.setHead k v).variant = s.variant := rfl
@[simp] theorem State.setHead_regs {k : Nat} {v : Head} : (s.setHead k v).regs = s.regs := rfl
@[simp] theorem State.setHead_mem {k : Nat} {v : Head} : (s.setHead k v).mem = s.mem := rfl
@[simp] theorem State.setHead_fresh {k : Nat} {v : Head} : (s.setHead k v).fresh = s.fresh := rfl
@[simp] theorem State.setHead_pending {k : Nat} {v : Head} : (s.setHead k v).pending = s.pending := rfl
@[simp] theorem State.setHead_chans {k : Nat} {v : Head} : (s.setHead k v).chans = s.chans := rfl
@[simp] theorem State.setHead_tb {k : Nat} {v : Head} : (s.setHead k v).tb = s.tb := rfl
@[simp] theorem State.setHead_ops {k : Nat} {v : Head} : (s.setHead k v).ops = s.ops := rfl
@[simp] theorem State.setHead_groups {k : Nat} {v : Head} : (s.setHead k v).groups = s.groups := rfl
@[simp] theorem State.setHead_dies {k : Nat} {v : Head} : (s.setHead k v).dies = s.dies := rfl
@[simp] theorem State.setHead_frames {k : Nat} {v : Head} : (s.setHead k v).frames = s.frames := rfl
@[simp] theorem State.setHead_pts {k : Nat} {v : Head} : (s.setHead k v).pts = s.pts := rfl
@[simp] theorem State.setHead_seqs {k : Nat} {v : Head} : (s.setHead k v).seqs = s.seqs := rfl
@[simp] theorem State.setHead_trk {k : Nat} {v : Head} : (s.setHead k v).trk = s.trk := rfl
@[simp] theorem State.setHead_dram {k : Nat} {v : Head} : (s.setHead k v).dram = s.dram := rfl
@[simp] theorem State.setHead_drive {k : Nat} {v : Head} : (s.setHead k v).drive = s.drive := rfl
@[simp] theorem State.setHead_motion {k : Nat} {v : Head} : (s.setHead k v).motion = s.motion := rfl
@[simp] theorem State.setHead_twin {k : Nat} {v : Head} : (s.setHead k v).twin = s.twin := rfl
@[simp] theorem State.setHead_cap {k : Nat} {v : Head} : (s.setHead k v).cap = s.cap := rfl
@[simp] theorem State.setHead_hk {k : Nat} {v : Head} : (s.setHead k v).hk = s.hk := rfl
@[simp] theorem State.setHead_therm {k : Nat} {v : Head} : (s.setHead k v).therm = s.therm := rfl
@[simp] theorem State.setHead_sec {k : Nat} {v : Head} : (s.setHead k v).sec = s.sec := rfl
@[simp] theorem State.setHead_guard {k : Nat} {v : Head} : (s.setHead k v).guard = s.guard := rfl
@[simp] theorem State.setHead_su {k : Nat} {v : Head} : (s.setHead k v).su = s.su := rfl
@[simp] theorem State.setHead_reg {k : Nat} {v : Head} {k0 : Nat} : (s.setHead k v).reg k0 = s.reg k0 := rfl
@[simp] theorem State.setHead_get {k : Nat} {v : Head} {f0 : Field} : (s.setHead k v).get f0 = s.get f0 := rfl
@[simp] theorem State.setHead_flag {k : Nat} {v : Head} {f0 : Field} : (s.setHead k v).flag f0 = s.flag f0 := rfl
@[simp] theorem State.setHead_byte {k : Nat} {v : Head} {k0 : Nat} : (s.setHead k v).byte k0 = s.byte k0 := rfl

@[simp] theorem State.setDrv_now {k : Nat} {v : DriveHead} : (s.setDrv k v).now = s.now := rfl
@[simp] theorem State.setDrv_variant {k : Nat} {v : DriveHead} : (s.setDrv k v).variant = s.variant := rfl
@[simp] theorem State.setDrv_regs {k : Nat} {v : DriveHead} : (s.setDrv k v).regs = s.regs := rfl
@[simp] theorem State.setDrv_mem {k : Nat} {v : DriveHead} : (s.setDrv k v).mem = s.mem := rfl
@[simp] theorem State.setDrv_fresh {k : Nat} {v : DriveHead} : (s.setDrv k v).fresh = s.fresh := rfl
@[simp] theorem State.setDrv_pending {k : Nat} {v : DriveHead} : (s.setDrv k v).pending = s.pending := rfl
@[simp] theorem State.setDrv_chans {k : Nat} {v : DriveHead} : (s.setDrv k v).chans = s.chans := rfl
@[simp] theorem State.setDrv_tb {k : Nat} {v : DriveHead} : (s.setDrv k v).tb = s.tb := rfl
@[simp] theorem State.setDrv_ops {k : Nat} {v : DriveHead} : (s.setDrv k v).ops = s.ops := rfl
@[simp] theorem State.setDrv_groups {k : Nat} {v : DriveHead} : (s.setDrv k v).groups = s.groups := rfl
@[simp] theorem State.setDrv_dies {k : Nat} {v : DriveHead} : (s.setDrv k v).dies = s.dies := rfl
@[simp] theorem State.setDrv_frames {k : Nat} {v : DriveHead} : (s.setDrv k v).frames = s.frames := rfl
@[simp] theorem State.setDrv_pts {k : Nat} {v : DriveHead} : (s.setDrv k v).pts = s.pts := rfl
@[simp] theorem State.setDrv_seqs {k : Nat} {v : DriveHead} : (s.setDrv k v).seqs = s.seqs := rfl
@[simp] theorem State.setDrv_trk {k : Nat} {v : DriveHead} : (s.setDrv k v).trk = s.trk := rfl
@[simp] theorem State.setDrv_dram {k : Nat} {v : DriveHead} : (s.setDrv k v).dram = s.dram := rfl
@[simp] theorem State.setDrv_heads {k : Nat} {v : DriveHead} : (s.setDrv k v).heads = s.heads := rfl
@[simp] theorem State.setDrv_motion {k : Nat} {v : DriveHead} : (s.setDrv k v).motion = s.motion := rfl
@[simp] theorem State.setDrv_twin {k : Nat} {v : DriveHead} : (s.setDrv k v).twin = s.twin := rfl
@[simp] theorem State.setDrv_cap {k : Nat} {v : DriveHead} : (s.setDrv k v).cap = s.cap := rfl
@[simp] theorem State.setDrv_hk {k : Nat} {v : DriveHead} : (s.setDrv k v).hk = s.hk := rfl
@[simp] theorem State.setDrv_therm {k : Nat} {v : DriveHead} : (s.setDrv k v).therm = s.therm := rfl
@[simp] theorem State.setDrv_sec {k : Nat} {v : DriveHead} : (s.setDrv k v).sec = s.sec := rfl
@[simp] theorem State.setDrv_guard {k : Nat} {v : DriveHead} : (s.setDrv k v).guard = s.guard := rfl
@[simp] theorem State.setDrv_su {k : Nat} {v : DriveHead} : (s.setDrv k v).su = s.su := rfl
@[simp] theorem State.setDrv_reg {k : Nat} {v : DriveHead} {k0 : Nat} : (s.setDrv k v).reg k0 = s.reg k0 := rfl
@[simp] theorem State.setDrv_get {k : Nat} {v : DriveHead} {f0 : Field} : (s.setDrv k v).get f0 = s.get f0 := rfl
@[simp] theorem State.setDrv_flag {k : Nat} {v : DriveHead} {f0 : Field} : (s.setDrv k v).flag f0 = s.flag f0 := rfl
@[simp] theorem State.setDrv_byte {k : Nat} {v : DriveHead} {k0 : Nat} : (s.setDrv k v).byte k0 = s.byte k0 := rfl

@[simp] theorem State.setBank_now {d k : Nat} {v : Bank} : (s.setBank d k v).now = s.now := rfl
@[simp] theorem State.setBank_variant {d k : Nat} {v : Bank} : (s.setBank d k v).variant = s.variant := rfl
@[simp] theorem State.setBank_regs {d k : Nat} {v : Bank} : (s.setBank d k v).regs = s.regs := rfl
@[simp] theorem State.setBank_mem {d k : Nat} {v : Bank} : (s.setBank d k v).mem = s.mem := rfl
@[simp] theorem State.setBank_fresh {d k : Nat} {v : Bank} : (s.setBank d k v).fresh = s.fresh := rfl
@[simp] theorem State.setBank_pending {d k : Nat} {v : Bank} : (s.setBank d k v).pending = s.pending := rfl
@[simp] theorem State.setBank_chans {d k : Nat} {v : Bank} : (s.setBank d k v).chans = s.chans := rfl
@[simp] theorem State.setBank_tb {d k : Nat} {v : Bank} : (s.setBank d k v).tb = s.tb := rfl
@[simp] theorem State.setBank_ops {d k : Nat} {v : Bank} : (s.setBank d k v).ops = s.ops := rfl
@[simp] theorem State.setBank_groups {d k : Nat} {v : Bank} : (s.setBank d k v).groups = s.groups := rfl
@[simp] theorem State.setBank_dies {d k : Nat} {v : Bank} : (s.setBank d k v).dies = s.dies := rfl
@[simp] theorem State.setBank_frames {d k : Nat} {v : Bank} : (s.setBank d k v).frames = s.frames := rfl
@[simp] theorem State.setBank_pts {d k : Nat} {v : Bank} : (s.setBank d k v).pts = s.pts := rfl
@[simp] theorem State.setBank_seqs {d k : Nat} {v : Bank} : (s.setBank d k v).seqs = s.seqs := rfl
@[simp] theorem State.setBank_trk {d k : Nat} {v : Bank} : (s.setBank d k v).trk = s.trk := rfl
@[simp] theorem State.setBank_dram {d k : Nat} {v : Bank} : (s.setBank d k v).dram = s.dram := rfl
@[simp] theorem State.setBank_heads {d k : Nat} {v : Bank} : (s.setBank d k v).heads = s.heads := rfl
@[simp] theorem State.setBank_motion {d k : Nat} {v : Bank} : (s.setBank d k v).motion = s.motion := rfl
@[simp] theorem State.setBank_twin {d k : Nat} {v : Bank} : (s.setBank d k v).twin = s.twin := rfl
@[simp] theorem State.setBank_cap {d k : Nat} {v : Bank} : (s.setBank d k v).cap = s.cap := rfl
@[simp] theorem State.setBank_hk {d k : Nat} {v : Bank} : (s.setBank d k v).hk = s.hk := rfl
@[simp] theorem State.setBank_therm {d k : Nat} {v : Bank} : (s.setBank d k v).therm = s.therm := rfl
@[simp] theorem State.setBank_sec {d k : Nat} {v : Bank} : (s.setBank d k v).sec = s.sec := rfl
@[simp] theorem State.setBank_guard {d k : Nat} {v : Bank} : (s.setBank d k v).guard = s.guard := rfl
@[simp] theorem State.setBank_su {d k : Nat} {v : Bank} : (s.setBank d k v).su = s.su := rfl
@[simp] theorem State.setBank_reg {d k : Nat} {v : Bank} {k0 : Nat} : (s.setBank d k v).reg k0 = s.reg k0 := rfl
@[simp] theorem State.setBank_get {d k : Nat} {v : Bank} {f0 : Field} : (s.setBank d k v).get f0 = s.get f0 := rfl
@[simp] theorem State.setBank_flag {d k : Nat} {v : Bank} {f0 : Field} : (s.setBank d k v).flag f0 = s.flag f0 := rfl
@[simp] theorem State.setBank_byte {d k : Nat} {v : Bank} {k0 : Nat} : (s.setBank d k v).byte k0 = s.byte k0 := rfl

@[simp] theorem State.setLoop_now {k : Nat} {v : Loop} : (s.setLoop k v).now = s.now := rfl
@[simp] theorem State.setLoop_variant {k : Nat} {v : Loop} : (s.setLoop k v).variant = s.variant := rfl
@[simp] theorem State.setLoop_regs {k : Nat} {v : Loop} : (s.setLoop k v).regs = s.regs := rfl
@[simp] theorem State.setLoop_mem {k : Nat} {v : Loop} : (s.setLoop k v).mem = s.mem := rfl
@[simp] theorem State.setLoop_fresh {k : Nat} {v : Loop} : (s.setLoop k v).fresh = s.fresh := rfl
@[simp] theorem State.setLoop_pending {k : Nat} {v : Loop} : (s.setLoop k v).pending = s.pending := rfl
@[simp] theorem State.setLoop_chans {k : Nat} {v : Loop} : (s.setLoop k v).chans = s.chans := rfl
@[simp] theorem State.setLoop_tb {k : Nat} {v : Loop} : (s.setLoop k v).tb = s.tb := rfl
@[simp] theorem State.setLoop_ops {k : Nat} {v : Loop} : (s.setLoop k v).ops = s.ops := rfl
@[simp] theorem State.setLoop_groups {k : Nat} {v : Loop} : (s.setLoop k v).groups = s.groups := rfl
@[simp] theorem State.setLoop_dies {k : Nat} {v : Loop} : (s.setLoop k v).dies = s.dies := rfl
@[simp] theorem State.setLoop_frames {k : Nat} {v : Loop} : (s.setLoop k v).frames = s.frames := rfl
@[simp] theorem State.setLoop_pts {k : Nat} {v : Loop} : (s.setLoop k v).pts = s.pts := rfl
@[simp] theorem State.setLoop_seqs {k : Nat} {v : Loop} : (s.setLoop k v).seqs = s.seqs := rfl
@[simp] theorem State.setLoop_trk {k : Nat} {v : Loop} : (s.setLoop k v).trk = s.trk := rfl
@[simp] theorem State.setLoop_dram {k : Nat} {v : Loop} : (s.setLoop k v).dram = s.dram := rfl
@[simp] theorem State.setLoop_heads {k : Nat} {v : Loop} : (s.setLoop k v).heads = s.heads := rfl
@[simp] theorem State.setLoop_drive {k : Nat} {v : Loop} : (s.setLoop k v).drive = s.drive := rfl
@[simp] theorem State.setLoop_twin {k : Nat} {v : Loop} : (s.setLoop k v).twin = s.twin := rfl
@[simp] theorem State.setLoop_cap {k : Nat} {v : Loop} : (s.setLoop k v).cap = s.cap := rfl
@[simp] theorem State.setLoop_hk {k : Nat} {v : Loop} : (s.setLoop k v).hk = s.hk := rfl
@[simp] theorem State.setLoop_therm {k : Nat} {v : Loop} : (s.setLoop k v).therm = s.therm := rfl
@[simp] theorem State.setLoop_sec {k : Nat} {v : Loop} : (s.setLoop k v).sec = s.sec := rfl
@[simp] theorem State.setLoop_guard {k : Nat} {v : Loop} : (s.setLoop k v).guard = s.guard := rfl
@[simp] theorem State.setLoop_su {k : Nat} {v : Loop} : (s.setLoop k v).su = s.su := rfl
@[simp] theorem State.setLoop_reg {k : Nat} {v : Loop} {k0 : Nat} : (s.setLoop k v).reg k0 = s.reg k0 := rfl
@[simp] theorem State.setLoop_get {k : Nat} {v : Loop} {f0 : Field} : (s.setLoop k v).get f0 = s.get f0 := rfl
@[simp] theorem State.setLoop_flag {k : Nat} {v : Loop} {f0 : Field} : (s.setLoop k v).flag f0 = s.flag f0 := rfl
@[simp] theorem State.setLoop_byte {k : Nat} {v : Loop} {k0 : Nat} : (s.setLoop k v).byte k0 = s.byte k0 := rfl

@[simp] theorem State.setEnc_now {k : Nat} {v : Enc} : (s.setEnc k v).now = s.now := rfl
@[simp] theorem State.setEnc_variant {k : Nat} {v : Enc} : (s.setEnc k v).variant = s.variant := rfl
@[simp] theorem State.setEnc_regs {k : Nat} {v : Enc} : (s.setEnc k v).regs = s.regs := rfl
@[simp] theorem State.setEnc_mem {k : Nat} {v : Enc} : (s.setEnc k v).mem = s.mem := rfl
@[simp] theorem State.setEnc_fresh {k : Nat} {v : Enc} : (s.setEnc k v).fresh = s.fresh := rfl
@[simp] theorem State.setEnc_pending {k : Nat} {v : Enc} : (s.setEnc k v).pending = s.pending := rfl
@[simp] theorem State.setEnc_chans {k : Nat} {v : Enc} : (s.setEnc k v).chans = s.chans := rfl
@[simp] theorem State.setEnc_tb {k : Nat} {v : Enc} : (s.setEnc k v).tb = s.tb := rfl
@[simp] theorem State.setEnc_ops {k : Nat} {v : Enc} : (s.setEnc k v).ops = s.ops := rfl
@[simp] theorem State.setEnc_groups {k : Nat} {v : Enc} : (s.setEnc k v).groups = s.groups := rfl
@[simp] theorem State.setEnc_dies {k : Nat} {v : Enc} : (s.setEnc k v).dies = s.dies := rfl
@[simp] theorem State.setEnc_frames {k : Nat} {v : Enc} : (s.setEnc k v).frames = s.frames := rfl
@[simp] theorem State.setEnc_pts {k : Nat} {v : Enc} : (s.setEnc k v).pts = s.pts := rfl
@[simp] theorem State.setEnc_seqs {k : Nat} {v : Enc} : (s.setEnc k v).seqs = s.seqs := rfl
@[simp] theorem State.setEnc_trk {k : Nat} {v : Enc} : (s.setEnc k v).trk = s.trk := rfl
@[simp] theorem State.setEnc_dram {k : Nat} {v : Enc} : (s.setEnc k v).dram = s.dram := rfl
@[simp] theorem State.setEnc_heads {k : Nat} {v : Enc} : (s.setEnc k v).heads = s.heads := rfl
@[simp] theorem State.setEnc_drive {k : Nat} {v : Enc} : (s.setEnc k v).drive = s.drive := rfl
@[simp] theorem State.setEnc_twin {k : Nat} {v : Enc} : (s.setEnc k v).twin = s.twin := rfl
@[simp] theorem State.setEnc_cap {k : Nat} {v : Enc} : (s.setEnc k v).cap = s.cap := rfl
@[simp] theorem State.setEnc_hk {k : Nat} {v : Enc} : (s.setEnc k v).hk = s.hk := rfl
@[simp] theorem State.setEnc_therm {k : Nat} {v : Enc} : (s.setEnc k v).therm = s.therm := rfl
@[simp] theorem State.setEnc_sec {k : Nat} {v : Enc} : (s.setEnc k v).sec = s.sec := rfl
@[simp] theorem State.setEnc_guard {k : Nat} {v : Enc} : (s.setEnc k v).guard = s.guard := rfl
@[simp] theorem State.setEnc_su {k : Nat} {v : Enc} : (s.setEnc k v).su = s.su := rfl
@[simp] theorem State.setEnc_reg {k : Nat} {v : Enc} {k0 : Nat} : (s.setEnc k v).reg k0 = s.reg k0 := rfl
@[simp] theorem State.setEnc_get {k : Nat} {v : Enc} {f0 : Field} : (s.setEnc k v).get f0 = s.get f0 := rfl
@[simp] theorem State.setEnc_flag {k : Nat} {v : Enc} {f0 : Field} : (s.setEnc k v).flag f0 = s.flag f0 := rfl
@[simp] theorem State.setEnc_byte {k : Nat} {v : Enc} {k0 : Nat} : (s.setEnc k v).byte k0 = s.byte k0 := rfl

@[simp] theorem State.setTwin_now {v : Twin} : (s.setTwin v).now = s.now := rfl
@[simp] theorem State.setTwin_variant {v : Twin} : (s.setTwin v).variant = s.variant := rfl
@[simp] theorem State.setTwin_regs {v : Twin} : (s.setTwin v).regs = s.regs := rfl
@[simp] theorem State.setTwin_mem {v : Twin} : (s.setTwin v).mem = s.mem := rfl
@[simp] theorem State.setTwin_fresh {v : Twin} : (s.setTwin v).fresh = s.fresh := rfl
@[simp] theorem State.setTwin_pending {v : Twin} : (s.setTwin v).pending = s.pending := rfl
@[simp] theorem State.setTwin_chans {v : Twin} : (s.setTwin v).chans = s.chans := rfl
@[simp] theorem State.setTwin_tb {v : Twin} : (s.setTwin v).tb = s.tb := rfl
@[simp] theorem State.setTwin_ops {v : Twin} : (s.setTwin v).ops = s.ops := rfl
@[simp] theorem State.setTwin_groups {v : Twin} : (s.setTwin v).groups = s.groups := rfl
@[simp] theorem State.setTwin_dies {v : Twin} : (s.setTwin v).dies = s.dies := rfl
@[simp] theorem State.setTwin_frames {v : Twin} : (s.setTwin v).frames = s.frames := rfl
@[simp] theorem State.setTwin_pts {v : Twin} : (s.setTwin v).pts = s.pts := rfl
@[simp] theorem State.setTwin_seqs {v : Twin} : (s.setTwin v).seqs = s.seqs := rfl
@[simp] theorem State.setTwin_trk {v : Twin} : (s.setTwin v).trk = s.trk := rfl
@[simp] theorem State.setTwin_dram {v : Twin} : (s.setTwin v).dram = s.dram := rfl
@[simp] theorem State.setTwin_heads {v : Twin} : (s.setTwin v).heads = s.heads := rfl
@[simp] theorem State.setTwin_drive {v : Twin} : (s.setTwin v).drive = s.drive := rfl
@[simp] theorem State.setTwin_motion {v : Twin} : (s.setTwin v).motion = s.motion := rfl
@[simp] theorem State.setTwin_cap {v : Twin} : (s.setTwin v).cap = s.cap := rfl
@[simp] theorem State.setTwin_hk {v : Twin} : (s.setTwin v).hk = s.hk := rfl
@[simp] theorem State.setTwin_therm {v : Twin} : (s.setTwin v).therm = s.therm := rfl
@[simp] theorem State.setTwin_sec {v : Twin} : (s.setTwin v).sec = s.sec := rfl
@[simp] theorem State.setTwin_guard {v : Twin} : (s.setTwin v).guard = s.guard := rfl
@[simp] theorem State.setTwin_su {v : Twin} : (s.setTwin v).su = s.su := rfl
@[simp] theorem State.setTwin_reg {v : Twin} {k0 : Nat} : (s.setTwin v).reg k0 = s.reg k0 := rfl
@[simp] theorem State.setTwin_get {v : Twin} {f0 : Field} : (s.setTwin v).get f0 = s.get f0 := rfl
@[simp] theorem State.setTwin_flag {v : Twin} {f0 : Field} : (s.setTwin v).flag f0 = s.flag f0 := rfl
@[simp] theorem State.setTwin_byte {v : Twin} {k0 : Nat} : (s.setTwin v).byte k0 = s.byte k0 := rfl

@[simp] theorem State.setCap_now {v : Capture} : (s.setCap v).now = s.now := rfl
@[simp] theorem State.setCap_variant {v : Capture} : (s.setCap v).variant = s.variant := rfl
@[simp] theorem State.setCap_regs {v : Capture} : (s.setCap v).regs = s.regs := rfl
@[simp] theorem State.setCap_mem {v : Capture} : (s.setCap v).mem = s.mem := rfl
@[simp] theorem State.setCap_fresh {v : Capture} : (s.setCap v).fresh = s.fresh := rfl
@[simp] theorem State.setCap_pending {v : Capture} : (s.setCap v).pending = s.pending := rfl
@[simp] theorem State.setCap_chans {v : Capture} : (s.setCap v).chans = s.chans := rfl
@[simp] theorem State.setCap_tb {v : Capture} : (s.setCap v).tb = s.tb := rfl
@[simp] theorem State.setCap_ops {v : Capture} : (s.setCap v).ops = s.ops := rfl
@[simp] theorem State.setCap_groups {v : Capture} : (s.setCap v).groups = s.groups := rfl
@[simp] theorem State.setCap_dies {v : Capture} : (s.setCap v).dies = s.dies := rfl
@[simp] theorem State.setCap_frames {v : Capture} : (s.setCap v).frames = s.frames := rfl
@[simp] theorem State.setCap_pts {v : Capture} : (s.setCap v).pts = s.pts := rfl
@[simp] theorem State.setCap_seqs {v : Capture} : (s.setCap v).seqs = s.seqs := rfl
@[simp] theorem State.setCap_trk {v : Capture} : (s.setCap v).trk = s.trk := rfl
@[simp] theorem State.setCap_dram {v : Capture} : (s.setCap v).dram = s.dram := rfl
@[simp] theorem State.setCap_heads {v : Capture} : (s.setCap v).heads = s.heads := rfl
@[simp] theorem State.setCap_drive {v : Capture} : (s.setCap v).drive = s.drive := rfl
@[simp] theorem State.setCap_motion {v : Capture} : (s.setCap v).motion = s.motion := rfl
@[simp] theorem State.setCap_twin {v : Capture} : (s.setCap v).twin = s.twin := rfl
@[simp] theorem State.setCap_hk {v : Capture} : (s.setCap v).hk = s.hk := rfl
@[simp] theorem State.setCap_therm {v : Capture} : (s.setCap v).therm = s.therm := rfl
@[simp] theorem State.setCap_sec {v : Capture} : (s.setCap v).sec = s.sec := rfl
@[simp] theorem State.setCap_guard {v : Capture} : (s.setCap v).guard = s.guard := rfl
@[simp] theorem State.setCap_su {v : Capture} : (s.setCap v).su = s.su := rfl
@[simp] theorem State.setCap_reg {v : Capture} {k0 : Nat} : (s.setCap v).reg k0 = s.reg k0 := rfl
@[simp] theorem State.setCap_get {v : Capture} {f0 : Field} : (s.setCap v).get f0 = s.get f0 := rfl
@[simp] theorem State.setCap_flag {v : Capture} {f0 : Field} : (s.setCap v).flag f0 = s.flag f0 := rfl
@[simp] theorem State.setCap_byte {v : Capture} {k0 : Nat} : (s.setCap v).byte k0 = s.byte k0 := rfl

@[simp] theorem State.setSport_now {k : Nat} {v : SensorPort} : (s.setSport k v).now = s.now := rfl
@[simp] theorem State.setSport_variant {k : Nat} {v : SensorPort} : (s.setSport k v).variant = s.variant := rfl
@[simp] theorem State.setSport_regs {k : Nat} {v : SensorPort} : (s.setSport k v).regs = s.regs := rfl
@[simp] theorem State.setSport_mem {k : Nat} {v : SensorPort} : (s.setSport k v).mem = s.mem := rfl
@[simp] theorem State.setSport_fresh {k : Nat} {v : SensorPort} : (s.setSport k v).fresh = s.fresh := rfl
@[simp] theorem State.setSport_pending {k : Nat} {v : SensorPort} : (s.setSport k v).pending = s.pending := rfl
@[simp] theorem State.setSport_chans {k : Nat} {v : SensorPort} : (s.setSport k v).chans = s.chans := rfl
@[simp] theorem State.setSport_tb {k : Nat} {v : SensorPort} : (s.setSport k v).tb = s.tb := rfl
@[simp] theorem State.setSport_ops {k : Nat} {v : SensorPort} : (s.setSport k v).ops = s.ops := rfl
@[simp] theorem State.setSport_groups {k : Nat} {v : SensorPort} : (s.setSport k v).groups = s.groups := rfl
@[simp] theorem State.setSport_dies {k : Nat} {v : SensorPort} : (s.setSport k v).dies = s.dies := rfl
@[simp] theorem State.setSport_frames {k : Nat} {v : SensorPort} : (s.setSport k v).frames = s.frames := rfl
@[simp] theorem State.setSport_pts {k : Nat} {v : SensorPort} : (s.setSport k v).pts = s.pts := rfl
@[simp] theorem State.setSport_seqs {k : Nat} {v : SensorPort} : (s.setSport k v).seqs = s.seqs := rfl
@[simp] theorem State.setSport_trk {k : Nat} {v : SensorPort} : (s.setSport k v).trk = s.trk := rfl
@[simp] theorem State.setSport_dram {k : Nat} {v : SensorPort} : (s.setSport k v).dram = s.dram := rfl
@[simp] theorem State.setSport_heads {k : Nat} {v : SensorPort} : (s.setSport k v).heads = s.heads := rfl
@[simp] theorem State.setSport_drive {k : Nat} {v : SensorPort} : (s.setSport k v).drive = s.drive := rfl
@[simp] theorem State.setSport_motion {k : Nat} {v : SensorPort} : (s.setSport k v).motion = s.motion := rfl
@[simp] theorem State.setSport_twin {k : Nat} {v : SensorPort} : (s.setSport k v).twin = s.twin := rfl
@[simp] theorem State.setSport_cap {k : Nat} {v : SensorPort} : (s.setSport k v).cap = s.cap := rfl
@[simp] theorem State.setSport_therm {k : Nat} {v : SensorPort} : (s.setSport k v).therm = s.therm := rfl
@[simp] theorem State.setSport_sec {k : Nat} {v : SensorPort} : (s.setSport k v).sec = s.sec := rfl
@[simp] theorem State.setSport_guard {k : Nat} {v : SensorPort} : (s.setSport k v).guard = s.guard := rfl
@[simp] theorem State.setSport_su {k : Nat} {v : SensorPort} : (s.setSport k v).su = s.su := rfl
@[simp] theorem State.setSport_reg {k : Nat} {v : SensorPort} {k0 : Nat} : (s.setSport k v).reg k0 = s.reg k0 := rfl
@[simp] theorem State.setSport_get {k : Nat} {v : SensorPort} {f0 : Field} : (s.setSport k v).get f0 = s.get f0 := rfl
@[simp] theorem State.setSport_flag {k : Nat} {v : SensorPort} {f0 : Field} : (s.setSport k v).flag f0 = s.flag f0 := rfl
@[simp] theorem State.setSport_byte {k : Nat} {v : SensorPort} {k0 : Nat} : (s.setSport k v).byte k0 = s.byte k0 := rfl

@[simp] theorem State.setGin_now {k : Nat} {v : Gin} : (s.setGin k v).now = s.now := rfl
@[simp] theorem State.setGin_variant {k : Nat} {v : Gin} : (s.setGin k v).variant = s.variant := rfl
@[simp] theorem State.setGin_regs {k : Nat} {v : Gin} : (s.setGin k v).regs = s.regs := rfl
@[simp] theorem State.setGin_mem {k : Nat} {v : Gin} : (s.setGin k v).mem = s.mem := rfl
@[simp] theorem State.setGin_fresh {k : Nat} {v : Gin} : (s.setGin k v).fresh = s.fresh := rfl
@[simp] theorem State.setGin_pending {k : Nat} {v : Gin} : (s.setGin k v).pending = s.pending := rfl
@[simp] theorem State.setGin_chans {k : Nat} {v : Gin} : (s.setGin k v).chans = s.chans := rfl
@[simp] theorem State.setGin_tb {k : Nat} {v : Gin} : (s.setGin k v).tb = s.tb := rfl
@[simp] theorem State.setGin_ops {k : Nat} {v : Gin} : (s.setGin k v).ops = s.ops := rfl
@[simp] theorem State.setGin_groups {k : Nat} {v : Gin} : (s.setGin k v).groups = s.groups := rfl
@[simp] theorem State.setGin_dies {k : Nat} {v : Gin} : (s.setGin k v).dies = s.dies := rfl
@[simp] theorem State.setGin_frames {k : Nat} {v : Gin} : (s.setGin k v).frames = s.frames := rfl
@[simp] theorem State.setGin_pts {k : Nat} {v : Gin} : (s.setGin k v).pts = s.pts := rfl
@[simp] theorem State.setGin_seqs {k : Nat} {v : Gin} : (s.setGin k v).seqs = s.seqs := rfl
@[simp] theorem State.setGin_trk {k : Nat} {v : Gin} : (s.setGin k v).trk = s.trk := rfl
@[simp] theorem State.setGin_dram {k : Nat} {v : Gin} : (s.setGin k v).dram = s.dram := rfl
@[simp] theorem State.setGin_heads {k : Nat} {v : Gin} : (s.setGin k v).heads = s.heads := rfl
@[simp] theorem State.setGin_drive {k : Nat} {v : Gin} : (s.setGin k v).drive = s.drive := rfl
@[simp] theorem State.setGin_motion {k : Nat} {v : Gin} : (s.setGin k v).motion = s.motion := rfl
@[simp] theorem State.setGin_twin {k : Nat} {v : Gin} : (s.setGin k v).twin = s.twin := rfl
@[simp] theorem State.setGin_cap {k : Nat} {v : Gin} : (s.setGin k v).cap = s.cap := rfl
@[simp] theorem State.setGin_hk {k : Nat} {v : Gin} : (s.setGin k v).hk = s.hk := rfl
@[simp] theorem State.setGin_therm {k : Nat} {v : Gin} : (s.setGin k v).therm = s.therm := rfl
@[simp] theorem State.setGin_sec {k : Nat} {v : Gin} : (s.setGin k v).sec = s.sec := rfl
@[simp] theorem State.setGin_su {k : Nat} {v : Gin} : (s.setGin k v).su = s.su := rfl
@[simp] theorem State.setGin_reg {k : Nat} {v : Gin} {k0 : Nat} : (s.setGin k v).reg k0 = s.reg k0 := rfl
@[simp] theorem State.setGin_get {k : Nat} {v : Gin} {f0 : Field} : (s.setGin k v).get f0 = s.get f0 := rfl
@[simp] theorem State.setGin_flag {k : Nat} {v : Gin} {f0 : Field} : (s.setGin k v).flag f0 = s.flag f0 := rfl
@[simp] theorem State.setGin_byte {k : Nat} {v : Gin} {k0 : Nat} : (s.setGin k v).byte k0 = s.byte k0 := rfl

@[simp] theorem State.setSec_now {v : Sec} : (s.setSec v).now = s.now := rfl
@[simp] theorem State.setSec_variant {v : Sec} : (s.setSec v).variant = s.variant := rfl
@[simp] theorem State.setSec_regs {v : Sec} : (s.setSec v).regs = s.regs := rfl
@[simp] theorem State.setSec_mem {v : Sec} : (s.setSec v).mem = s.mem := rfl
@[simp] theorem State.setSec_fresh {v : Sec} : (s.setSec v).fresh = s.fresh := rfl
@[simp] theorem State.setSec_pending {v : Sec} : (s.setSec v).pending = s.pending := rfl
@[simp] theorem State.setSec_chans {v : Sec} : (s.setSec v).chans = s.chans := rfl
@[simp] theorem State.setSec_tb {v : Sec} : (s.setSec v).tb = s.tb := rfl
@[simp] theorem State.setSec_ops {v : Sec} : (s.setSec v).ops = s.ops := rfl
@[simp] theorem State.setSec_groups {v : Sec} : (s.setSec v).groups = s.groups := rfl
@[simp] theorem State.setSec_dies {v : Sec} : (s.setSec v).dies = s.dies := rfl
@[simp] theorem State.setSec_frames {v : Sec} : (s.setSec v).frames = s.frames := rfl
@[simp] theorem State.setSec_pts {v : Sec} : (s.setSec v).pts = s.pts := rfl
@[simp] theorem State.setSec_seqs {v : Sec} : (s.setSec v).seqs = s.seqs := rfl
@[simp] theorem State.setSec_trk {v : Sec} : (s.setSec v).trk = s.trk := rfl
@[simp] theorem State.setSec_dram {v : Sec} : (s.setSec v).dram = s.dram := rfl
@[simp] theorem State.setSec_heads {v : Sec} : (s.setSec v).heads = s.heads := rfl
@[simp] theorem State.setSec_drive {v : Sec} : (s.setSec v).drive = s.drive := rfl
@[simp] theorem State.setSec_motion {v : Sec} : (s.setSec v).motion = s.motion := rfl
@[simp] theorem State.setSec_twin {v : Sec} : (s.setSec v).twin = s.twin := rfl
@[simp] theorem State.setSec_cap {v : Sec} : (s.setSec v).cap = s.cap := rfl
@[simp] theorem State.setSec_hk {v : Sec} : (s.setSec v).hk = s.hk := rfl
@[simp] theorem State.setSec_therm {v : Sec} : (s.setSec v).therm = s.therm := rfl
@[simp] theorem State.setSec_guard {v : Sec} : (s.setSec v).guard = s.guard := rfl
@[simp] theorem State.setSec_su {v : Sec} : (s.setSec v).su = s.su := rfl
@[simp] theorem State.setSec_reg {v : Sec} {k0 : Nat} : (s.setSec v).reg k0 = s.reg k0 := rfl
@[simp] theorem State.setSec_get {v : Sec} {f0 : Field} : (s.setSec v).get f0 = s.get f0 := rfl
@[simp] theorem State.setSec_flag {v : Sec} {f0 : Field} : (s.setSec v).flag f0 = s.flag f0 := rfl
@[simp] theorem State.setSec_byte {v : Sec} {k0 : Nat} : (s.setSec v).byte k0 = s.byte k0 := rfl

@[simp] theorem State.setCslot_now {k : Nat} {v : CapSlot} : (s.setCslot k v).now = s.now := rfl
@[simp] theorem State.setCslot_variant {k : Nat} {v : CapSlot} : (s.setCslot k v).variant = s.variant := rfl
@[simp] theorem State.setCslot_regs {k : Nat} {v : CapSlot} : (s.setCslot k v).regs = s.regs := rfl
@[simp] theorem State.setCslot_mem {k : Nat} {v : CapSlot} : (s.setCslot k v).mem = s.mem := rfl
@[simp] theorem State.setCslot_fresh {k : Nat} {v : CapSlot} : (s.setCslot k v).fresh = s.fresh := rfl
@[simp] theorem State.setCslot_pending {k : Nat} {v : CapSlot} : (s.setCslot k v).pending = s.pending := rfl
@[simp] theorem State.setCslot_chans {k : Nat} {v : CapSlot} : (s.setCslot k v).chans = s.chans := rfl
@[simp] theorem State.setCslot_tb {k : Nat} {v : CapSlot} : (s.setCslot k v).tb = s.tb := rfl
@[simp] theorem State.setCslot_ops {k : Nat} {v : CapSlot} : (s.setCslot k v).ops = s.ops := rfl
@[simp] theorem State.setCslot_groups {k : Nat} {v : CapSlot} : (s.setCslot k v).groups = s.groups := rfl
@[simp] theorem State.setCslot_dies {k : Nat} {v : CapSlot} : (s.setCslot k v).dies = s.dies := rfl
@[simp] theorem State.setCslot_frames {k : Nat} {v : CapSlot} : (s.setCslot k v).frames = s.frames := rfl
@[simp] theorem State.setCslot_pts {k : Nat} {v : CapSlot} : (s.setCslot k v).pts = s.pts := rfl
@[simp] theorem State.setCslot_seqs {k : Nat} {v : CapSlot} : (s.setCslot k v).seqs = s.seqs := rfl
@[simp] theorem State.setCslot_trk {k : Nat} {v : CapSlot} : (s.setCslot k v).trk = s.trk := rfl
@[simp] theorem State.setCslot_dram {k : Nat} {v : CapSlot} : (s.setCslot k v).dram = s.dram := rfl
@[simp] theorem State.setCslot_heads {k : Nat} {v : CapSlot} : (s.setCslot k v).heads = s.heads := rfl
@[simp] theorem State.setCslot_drive {k : Nat} {v : CapSlot} : (s.setCslot k v).drive = s.drive := rfl
@[simp] theorem State.setCslot_motion {k : Nat} {v : CapSlot} : (s.setCslot k v).motion = s.motion := rfl
@[simp] theorem State.setCslot_twin {k : Nat} {v : CapSlot} : (s.setCslot k v).twin = s.twin := rfl
@[simp] theorem State.setCslot_hk {k : Nat} {v : CapSlot} : (s.setCslot k v).hk = s.hk := rfl
@[simp] theorem State.setCslot_therm {k : Nat} {v : CapSlot} : (s.setCslot k v).therm = s.therm := rfl
@[simp] theorem State.setCslot_sec {k : Nat} {v : CapSlot} : (s.setCslot k v).sec = s.sec := rfl
@[simp] theorem State.setCslot_guard {k : Nat} {v : CapSlot} : (s.setCslot k v).guard = s.guard := rfl
@[simp] theorem State.setCslot_su {k : Nat} {v : CapSlot} : (s.setCslot k v).su = s.su := rfl
@[simp] theorem State.setCslot_reg {k : Nat} {v : CapSlot} {k0 : Nat} : (s.setCslot k v).reg k0 = s.reg k0 := rfl
@[simp] theorem State.setCslot_get {k : Nat} {v : CapSlot} {f0 : Field} : (s.setCslot k v).get f0 = s.get f0 := rfl
@[simp] theorem State.setCslot_flag {k : Nat} {v : CapSlot} {f0 : Field} : (s.setCslot k v).flag f0 = s.flag f0 := rfl
@[simp] theorem State.setCslot_byte {k : Nat} {v : CapSlot} {k0 : Nat} : (s.setCslot k v).byte k0 = s.byte k0 := rfl

@[simp] theorem State.setCalDie_now {k : Nat} {v : CalDie} : (s.setCalDie k v).now = s.now := rfl
@[simp] theorem State.setCalDie_variant {k : Nat} {v : CalDie} : (s.setCalDie k v).variant = s.variant := rfl
@[simp] theorem State.setCalDie_regs {k : Nat} {v : CalDie} : (s.setCalDie k v).regs = s.regs := rfl
@[simp] theorem State.setCalDie_mem {k : Nat} {v : CalDie} : (s.setCalDie k v).mem = s.mem := rfl
@[simp] theorem State.setCalDie_fresh {k : Nat} {v : CalDie} : (s.setCalDie k v).fresh = s.fresh := rfl
@[simp] theorem State.setCalDie_pending {k : Nat} {v : CalDie} : (s.setCalDie k v).pending = s.pending := rfl
@[simp] theorem State.setCalDie_chans {k : Nat} {v : CalDie} : (s.setCalDie k v).chans = s.chans := rfl
@[simp] theorem State.setCalDie_tb {k : Nat} {v : CalDie} : (s.setCalDie k v).tb = s.tb := rfl
@[simp] theorem State.setCalDie_ops {k : Nat} {v : CalDie} : (s.setCalDie k v).ops = s.ops := rfl
@[simp] theorem State.setCalDie_groups {k : Nat} {v : CalDie} : (s.setCalDie k v).groups = s.groups := rfl
@[simp] theorem State.setCalDie_dies {k : Nat} {v : CalDie} : (s.setCalDie k v).dies = s.dies := rfl
@[simp] theorem State.setCalDie_frames {k : Nat} {v : CalDie} : (s.setCalDie k v).frames = s.frames := rfl
@[simp] theorem State.setCalDie_pts {k : Nat} {v : CalDie} : (s.setCalDie k v).pts = s.pts := rfl
@[simp] theorem State.setCalDie_seqs {k : Nat} {v : CalDie} : (s.setCalDie k v).seqs = s.seqs := rfl
@[simp] theorem State.setCalDie_trk {k : Nat} {v : CalDie} : (s.setCalDie k v).trk = s.trk := rfl
@[simp] theorem State.setCalDie_dram {k : Nat} {v : CalDie} : (s.setCalDie k v).dram = s.dram := rfl
@[simp] theorem State.setCalDie_heads {k : Nat} {v : CalDie} : (s.setCalDie k v).heads = s.heads := rfl
@[simp] theorem State.setCalDie_drive {k : Nat} {v : CalDie} : (s.setCalDie k v).drive = s.drive := rfl
@[simp] theorem State.setCalDie_motion {k : Nat} {v : CalDie} : (s.setCalDie k v).motion = s.motion := rfl
@[simp] theorem State.setCalDie_twin {k : Nat} {v : CalDie} : (s.setCalDie k v).twin = s.twin := rfl
@[simp] theorem State.setCalDie_cap {k : Nat} {v : CalDie} : (s.setCalDie k v).cap = s.cap := rfl
@[simp] theorem State.setCalDie_hk {k : Nat} {v : CalDie} : (s.setCalDie k v).hk = s.hk := rfl
@[simp] theorem State.setCalDie_sec {k : Nat} {v : CalDie} : (s.setCalDie k v).sec = s.sec := rfl
@[simp] theorem State.setCalDie_guard {k : Nat} {v : CalDie} : (s.setCalDie k v).guard = s.guard := rfl
@[simp] theorem State.setCalDie_su {k : Nat} {v : CalDie} : (s.setCalDie k v).su = s.su := rfl
@[simp] theorem State.setCalDie_reg {k : Nat} {v : CalDie} {k0 : Nat} : (s.setCalDie k v).reg k0 = s.reg k0 := rfl
@[simp] theorem State.setCalDie_get {k : Nat} {v : CalDie} {f0 : Field} : (s.setCalDie k v).get f0 = s.get f0 := rfl
@[simp] theorem State.setCalDie_flag {k : Nat} {v : CalDie} {f0 : Field} : (s.setCalDie k v).flag f0 = s.flag f0 := rfl
@[simp] theorem State.setCalDie_byte {k : Nat} {v : CalDie} {k0 : Nat} : (s.setCalDie k v).byte k0 = s.byte k0 := rfl

@[simp] theorem State.setProof_now {k : Nat} {v : MotionProof} : (s.setProof k v).now = s.now := rfl
@[simp] theorem State.setProof_variant {k : Nat} {v : MotionProof} : (s.setProof k v).variant = s.variant := rfl
@[simp] theorem State.setProof_regs {k : Nat} {v : MotionProof} : (s.setProof k v).regs = s.regs := rfl
@[simp] theorem State.setProof_mem {k : Nat} {v : MotionProof} : (s.setProof k v).mem = s.mem := rfl
@[simp] theorem State.setProof_fresh {k : Nat} {v : MotionProof} : (s.setProof k v).fresh = s.fresh := rfl
@[simp] theorem State.setProof_pending {k : Nat} {v : MotionProof} : (s.setProof k v).pending = s.pending := rfl
@[simp] theorem State.setProof_chans {k : Nat} {v : MotionProof} : (s.setProof k v).chans = s.chans := rfl
@[simp] theorem State.setProof_tb {k : Nat} {v : MotionProof} : (s.setProof k v).tb = s.tb := rfl
@[simp] theorem State.setProof_ops {k : Nat} {v : MotionProof} : (s.setProof k v).ops = s.ops := rfl
@[simp] theorem State.setProof_groups {k : Nat} {v : MotionProof} : (s.setProof k v).groups = s.groups := rfl
@[simp] theorem State.setProof_dies {k : Nat} {v : MotionProof} : (s.setProof k v).dies = s.dies := rfl
@[simp] theorem State.setProof_frames {k : Nat} {v : MotionProof} : (s.setProof k v).frames = s.frames := rfl
@[simp] theorem State.setProof_pts {k : Nat} {v : MotionProof} : (s.setProof k v).pts = s.pts := rfl
@[simp] theorem State.setProof_seqs {k : Nat} {v : MotionProof} : (s.setProof k v).seqs = s.seqs := rfl
@[simp] theorem State.setProof_trk {k : Nat} {v : MotionProof} : (s.setProof k v).trk = s.trk := rfl
@[simp] theorem State.setProof_dram {k : Nat} {v : MotionProof} : (s.setProof k v).dram = s.dram := rfl
@[simp] theorem State.setProof_heads {k : Nat} {v : MotionProof} : (s.setProof k v).heads = s.heads := rfl
@[simp] theorem State.setProof_drive {k : Nat} {v : MotionProof} : (s.setProof k v).drive = s.drive := rfl
@[simp] theorem State.setProof_motion {k : Nat} {v : MotionProof} : (s.setProof k v).motion = s.motion := rfl
@[simp] theorem State.setProof_twin {k : Nat} {v : MotionProof} : (s.setProof k v).twin = s.twin := rfl
@[simp] theorem State.setProof_cap {k : Nat} {v : MotionProof} : (s.setProof k v).cap = s.cap := rfl
@[simp] theorem State.setProof_hk {k : Nat} {v : MotionProof} : (s.setProof k v).hk = s.hk := rfl
@[simp] theorem State.setProof_therm {k : Nat} {v : MotionProof} : (s.setProof k v).therm = s.therm := rfl
@[simp] theorem State.setProof_sec {k : Nat} {v : MotionProof} : (s.setProof k v).sec = s.sec := rfl
@[simp] theorem State.setProof_su {k : Nat} {v : MotionProof} : (s.setProof k v).su = s.su := rfl
@[simp] theorem State.setProof_reg {k : Nat} {v : MotionProof} {k0 : Nat} : (s.setProof k v).reg k0 = s.reg k0 := rfl
@[simp] theorem State.setProof_get {k : Nat} {v : MotionProof} {f0 : Field} : (s.setProof k v).get f0 = s.get f0 := rfl
@[simp] theorem State.setProof_flag {k : Nat} {v : MotionProof} {f0 : Field} : (s.setProof k v).flag f0 = s.flag f0 := rfl
@[simp] theorem State.setProof_byte {k : Nat} {v : MotionProof} {k0 : Nat} : (s.setProof k v).byte k0 = s.byte k0 := rfl

@[simp] theorem State.setSess_now {k : Nat} {v : Session} : (s.setSess k v).now = s.now := rfl
@[simp] theorem State.setSess_variant {k : Nat} {v : Session} : (s.setSess k v).variant = s.variant := rfl
@[simp] theorem State.setSess_regs {k : Nat} {v : Session} : (s.setSess k v).regs = s.regs := rfl
@[simp] theorem State.setSess_mem {k : Nat} {v : Session} : (s.setSess k v).mem = s.mem := rfl
@[simp] theorem State.setSess_fresh {k : Nat} {v : Session} : (s.setSess k v).fresh = s.fresh := rfl
@[simp] theorem State.setSess_pending {k : Nat} {v : Session} : (s.setSess k v).pending = s.pending := rfl
@[simp] theorem State.setSess_chans {k : Nat} {v : Session} : (s.setSess k v).chans = s.chans := rfl
@[simp] theorem State.setSess_tb {k : Nat} {v : Session} : (s.setSess k v).tb = s.tb := rfl
@[simp] theorem State.setSess_ops {k : Nat} {v : Session} : (s.setSess k v).ops = s.ops := rfl
@[simp] theorem State.setSess_groups {k : Nat} {v : Session} : (s.setSess k v).groups = s.groups := rfl
@[simp] theorem State.setSess_dies {k : Nat} {v : Session} : (s.setSess k v).dies = s.dies := rfl
@[simp] theorem State.setSess_frames {k : Nat} {v : Session} : (s.setSess k v).frames = s.frames := rfl
@[simp] theorem State.setSess_pts {k : Nat} {v : Session} : (s.setSess k v).pts = s.pts := rfl
@[simp] theorem State.setSess_seqs {k : Nat} {v : Session} : (s.setSess k v).seqs = s.seqs := rfl
@[simp] theorem State.setSess_trk {k : Nat} {v : Session} : (s.setSess k v).trk = s.trk := rfl
@[simp] theorem State.setSess_dram {k : Nat} {v : Session} : (s.setSess k v).dram = s.dram := rfl
@[simp] theorem State.setSess_heads {k : Nat} {v : Session} : (s.setSess k v).heads = s.heads := rfl
@[simp] theorem State.setSess_drive {k : Nat} {v : Session} : (s.setSess k v).drive = s.drive := rfl
@[simp] theorem State.setSess_motion {k : Nat} {v : Session} : (s.setSess k v).motion = s.motion := rfl
@[simp] theorem State.setSess_twin {k : Nat} {v : Session} : (s.setSess k v).twin = s.twin := rfl
@[simp] theorem State.setSess_cap {k : Nat} {v : Session} : (s.setSess k v).cap = s.cap := rfl
@[simp] theorem State.setSess_hk {k : Nat} {v : Session} : (s.setSess k v).hk = s.hk := rfl
@[simp] theorem State.setSess_therm {k : Nat} {v : Session} : (s.setSess k v).therm = s.therm := rfl
@[simp] theorem State.setSess_guard {k : Nat} {v : Session} : (s.setSess k v).guard = s.guard := rfl
@[simp] theorem State.setSess_su {k : Nat} {v : Session} : (s.setSess k v).su = s.su := rfl
@[simp] theorem State.setSess_reg {k : Nat} {v : Session} {k0 : Nat} : (s.setSess k v).reg k0 = s.reg k0 := rfl
@[simp] theorem State.setSess_get {k : Nat} {v : Session} {f0 : Field} : (s.setSess k v).get f0 = s.get f0 := rfl
@[simp] theorem State.setSess_flag {k : Nat} {v : Session} {f0 : Field} : (s.setSess k v).flag f0 = s.flag f0 := rfl
@[simp] theorem State.setSess_byte {k : Nat} {v : Session} {k0 : Nat} : (s.setSess k v).byte k0 = s.byte k0 := rfl

@[simp] theorem State.setNvPair_now {k : Nat} {v : NvPair} : (s.setNvPair k v).now = s.now := rfl
@[simp] theorem State.setNvPair_variant {k : Nat} {v : NvPair} : (s.setNvPair k v).variant = s.variant := rfl
@[simp] theorem State.setNvPair_regs {k : Nat} {v : NvPair} : (s.setNvPair k v).regs = s.regs := rfl
@[simp] theorem State.setNvPair_mem {k : Nat} {v : NvPair} : (s.setNvPair k v).mem = s.mem := rfl
@[simp] theorem State.setNvPair_fresh {k : Nat} {v : NvPair} : (s.setNvPair k v).fresh = s.fresh := rfl
@[simp] theorem State.setNvPair_pending {k : Nat} {v : NvPair} : (s.setNvPair k v).pending = s.pending := rfl
@[simp] theorem State.setNvPair_chans {k : Nat} {v : NvPair} : (s.setNvPair k v).chans = s.chans := rfl
@[simp] theorem State.setNvPair_tb {k : Nat} {v : NvPair} : (s.setNvPair k v).tb = s.tb := rfl
@[simp] theorem State.setNvPair_ops {k : Nat} {v : NvPair} : (s.setNvPair k v).ops = s.ops := rfl
@[simp] theorem State.setNvPair_groups {k : Nat} {v : NvPair} : (s.setNvPair k v).groups = s.groups := rfl
@[simp] theorem State.setNvPair_dies {k : Nat} {v : NvPair} : (s.setNvPair k v).dies = s.dies := rfl
@[simp] theorem State.setNvPair_frames {k : Nat} {v : NvPair} : (s.setNvPair k v).frames = s.frames := rfl
@[simp] theorem State.setNvPair_pts {k : Nat} {v : NvPair} : (s.setNvPair k v).pts = s.pts := rfl
@[simp] theorem State.setNvPair_seqs {k : Nat} {v : NvPair} : (s.setNvPair k v).seqs = s.seqs := rfl
@[simp] theorem State.setNvPair_trk {k : Nat} {v : NvPair} : (s.setNvPair k v).trk = s.trk := rfl
@[simp] theorem State.setNvPair_dram {k : Nat} {v : NvPair} : (s.setNvPair k v).dram = s.dram := rfl
@[simp] theorem State.setNvPair_heads {k : Nat} {v : NvPair} : (s.setNvPair k v).heads = s.heads := rfl
@[simp] theorem State.setNvPair_drive {k : Nat} {v : NvPair} : (s.setNvPair k v).drive = s.drive := rfl
@[simp] theorem State.setNvPair_motion {k : Nat} {v : NvPair} : (s.setNvPair k v).motion = s.motion := rfl
@[simp] theorem State.setNvPair_twin {k : Nat} {v : NvPair} : (s.setNvPair k v).twin = s.twin := rfl
@[simp] theorem State.setNvPair_cap {k : Nat} {v : NvPair} : (s.setNvPair k v).cap = s.cap := rfl
@[simp] theorem State.setNvPair_hk {k : Nat} {v : NvPair} : (s.setNvPair k v).hk = s.hk := rfl
@[simp] theorem State.setNvPair_therm {k : Nat} {v : NvPair} : (s.setNvPair k v).therm = s.therm := rfl
@[simp] theorem State.setNvPair_guard {k : Nat} {v : NvPair} : (s.setNvPair k v).guard = s.guard := rfl
@[simp] theorem State.setNvPair_su {k : Nat} {v : NvPair} : (s.setNvPair k v).su = s.su := rfl
@[simp] theorem State.setNvPair_reg {k : Nat} {v : NvPair} {k0 : Nat} : (s.setNvPair k v).reg k0 = s.reg k0 := rfl
@[simp] theorem State.setNvPair_get {k : Nat} {v : NvPair} {f0 : Field} : (s.setNvPair k v).get f0 = s.get f0 := rfl
@[simp] theorem State.setNvPair_flag {k : Nat} {v : NvPair} {f0 : Field} : (s.setNvPair k v).flag f0 = s.flag f0 := rfl
@[simp] theorem State.setNvPair_byte {k : Nat} {v : NvPair} {k0 : Nat} : (s.setNvPair k v).byte k0 = s.byte k0 := rfl

@[simp] theorem State.tick_now_eq {t : Nat} : (s.tick t).now = max s.now t := rfl

/-! ### A record update of State -/

@[simp] theorem State.with_now_get {x : Nat} {f : Field} : ({ s with now := x } : State).get f = s.get f := rfl
@[simp] theorem State.with_now_flag {x : Nat} {f : Field} : ({ s with now := x } : State).flag f = s.flag f := rfl
@[simp] theorem State.with_now_reg {x : Nat} {k : Nat} : ({ s with now := x } : State).reg k = s.reg k := rfl
@[simp] theorem State.with_variant_get {x : Nat} {f : Field} : ({ s with variant := x } : State).get f = s.get f := rfl
@[simp] theorem State.with_variant_flag {x : Nat} {f : Field} : ({ s with variant := x } : State).flag f = s.flag f := rfl
@[simp] theorem State.with_variant_reg {x : Nat} {k : Nat} : ({ s with variant := x } : State).reg k = s.reg k := rfl
@[simp] theorem State.with_mem_get {x : List Host.Cell} {f : Field} : ({ s with mem := x } : State).get f = s.get f := rfl
@[simp] theorem State.with_mem_flag {x : List Host.Cell} {f : Field} : ({ s with mem := x } : State).flag f = s.flag f := rfl
@[simp] theorem State.with_mem_reg {x : List Host.Cell} {k : Nat} : ({ s with mem := x } : State).reg k = s.reg k := rfl
@[simp] theorem State.with_fresh_get {x : Nat} {f : Field} : ({ s with fresh := x } : State).get f = s.get f := rfl
@[simp] theorem State.with_fresh_flag {x : Nat} {f : Field} : ({ s with fresh := x } : State).flag f = s.flag f := rfl
@[simp] theorem State.with_fresh_reg {x : Nat} {k : Nat} : ({ s with fresh := x } : State).reg k = s.reg k := rfl
@[simp] theorem State.with_pending_get {x : List Instr} {f : Field} : ({ s with pending := x } : State).get f = s.get f := rfl
@[simp] theorem State.with_pending_flag {x : List Instr} {f : Field} : ({ s with pending := x } : State).flag f = s.flag f := rfl
@[simp] theorem State.with_pending_reg {x : List Instr} {k : Nat} : ({ s with pending := x } : State).reg k = s.reg k := rfl
@[simp] theorem State.with_chans_get {x : SMap Chan} {f : Field} : ({ s with chans := x } : State).get f = s.get f := rfl
@[simp] theorem State.with_chans_flag {x : SMap Chan} {f : Field} : ({ s with chans := x } : State).flag f = s.flag f := rfl
@[simp] theorem State.with_chans_reg {x : SMap Chan} {k : Nat} : ({ s with chans := x } : State).reg k = s.reg k := rfl
@[simp] theorem State.with_tb_get {x : TimeBase} {f : Field} : ({ s with tb := x } : State).get f = s.get f := rfl
@[simp] theorem State.with_tb_flag {x : TimeBase} {f : Field} : ({ s with tb := x } : State).flag f = s.flag f := rfl
@[simp] theorem State.with_tb_reg {x : TimeBase} {k : Nat} : ({ s with tb := x } : State).reg k = s.reg k := rfl
@[simp] theorem State.with_ops_get {x : SMap (Option Op)} {f : Field} : ({ s with ops := x } : State).get f = s.get f := rfl
@[simp] theorem State.with_ops_flag {x : SMap (Option Op)} {f : Field} : ({ s with ops := x } : State).flag f = s.flag f := rfl
@[simp] theorem State.with_ops_reg {x : SMap (Option Op)} {k : Nat} : ({ s with ops := x } : State).reg k = s.reg k := rfl
@[simp] theorem State.with_groups_get {x : SMap Group} {f : Field} : ({ s with groups := x } : State).get f = s.get f := rfl
@[simp] theorem State.with_groups_flag {x : SMap Group} {f : Field} : ({ s with groups := x } : State).flag f = s.flag f := rfl
@[simp] theorem State.with_groups_reg {x : SMap Group} {k : Nat} : ({ s with groups := x } : State).reg k = s.reg k := rfl
@[simp] theorem State.with_dies_get {x : SMap Die} {f : Field} : ({ s with dies := x } : State).get f = s.get f := rfl
@[simp] theorem State.with_dies_flag {x : SMap Die} {f : Field} : ({ s with dies := x } : State).flag f = s.flag f := rfl
@[simp] theorem State.with_dies_reg {x : SMap Die} {k : Nat} : ({ s with dies := x } : State).reg k = s.reg k := rfl
@[simp] theorem State.with_frames_get {x : SMap (Option FrameAcc)} {f : Field} : ({ s with frames := x } : State).get f = s.get f := rfl
@[simp] theorem State.with_frames_flag {x : SMap (Option FrameAcc)} {f : Field} : ({ s with frames := x } : State).flag f = s.flag f := rfl
@[simp] theorem State.with_frames_reg {x : SMap (Option FrameAcc)} {k : Nat} : ({ s with frames := x } : State).reg k = s.reg k := rfl
@[simp] theorem State.with_pts_get {x : Points} {f : Field} : ({ s with pts := x } : State).get f = s.get f := rfl
@[simp] theorem State.with_pts_flag {x : Points} {f : Field} : ({ s with pts := x } : State).flag f = s.flag f := rfl
@[simp] theorem State.with_pts_reg {x : Points} {k : Nat} : ({ s with pts := x } : State).reg k = s.reg k := rfl
@[simp] theorem State.with_seqs_get {x : SMap Seq} {f : Field} : ({ s with seqs := x } : State).get f = s.get f := rfl
@[simp] theorem State.with_seqs_flag {x : SMap Seq} {f : Field} : ({ s with seqs := x } : State).flag f = s.flag f := rfl
@[simp] theorem State.with_seqs_reg {x : SMap Seq} {k : Nat} : ({ s with seqs := x } : State).reg k = s.reg k := rfl
@[simp] theorem State.with_trk_get {x : Trunk} {f : Field} : ({ s with trk := x } : State).get f = s.get f := rfl
@[simp] theorem State.with_trk_flag {x : Trunk} {f : Field} : ({ s with trk := x } : State).flag f = s.flag f := rfl
@[simp] theorem State.with_trk_reg {x : Trunk} {k : Nat} : ({ s with trk := x } : State).reg k = s.reg k := rfl
@[simp] theorem State.with_dram_get {x : Mem} {f : Field} : ({ s with dram := x } : State).get f = s.get f := rfl
@[simp] theorem State.with_dram_flag {x : Mem} {f : Field} : ({ s with dram := x } : State).flag f = s.flag f := rfl
@[simp] theorem State.with_dram_reg {x : Mem} {k : Nat} : ({ s with dram := x } : State).reg k = s.reg k := rfl
@[simp] theorem State.with_heads_get {x : SMap Head} {f : Field} : ({ s with heads := x } : State).get f = s.get f := rfl
@[simp] theorem State.with_heads_flag {x : SMap Head} {f : Field} : ({ s with heads := x } : State).flag f = s.flag f := rfl
@[simp] theorem State.with_heads_reg {x : SMap Head} {k : Nat} : ({ s with heads := x } : State).reg k = s.reg k := rfl
@[simp] theorem State.with_drive_get {x : Drive} {f : Field} : ({ s with drive := x } : State).get f = s.get f := rfl
@[simp] theorem State.with_drive_flag {x : Drive} {f : Field} : ({ s with drive := x } : State).flag f = s.flag f := rfl
@[simp] theorem State.with_drive_reg {x : Drive} {k : Nat} : ({ s with drive := x } : State).reg k = s.reg k := rfl
@[simp] theorem State.with_motion_get {x : Motion} {f : Field} : ({ s with motion := x } : State).get f = s.get f := rfl
@[simp] theorem State.with_motion_flag {x : Motion} {f : Field} : ({ s with motion := x } : State).flag f = s.flag f := rfl
@[simp] theorem State.with_motion_reg {x : Motion} {k : Nat} : ({ s with motion := x } : State).reg k = s.reg k := rfl
@[simp] theorem State.with_twin_get {x : Twin} {f : Field} : ({ s with twin := x } : State).get f = s.get f := rfl
@[simp] theorem State.with_twin_flag {x : Twin} {f : Field} : ({ s with twin := x } : State).flag f = s.flag f := rfl
@[simp] theorem State.with_twin_reg {x : Twin} {k : Nat} : ({ s with twin := x } : State).reg k = s.reg k := rfl
@[simp] theorem State.with_cap_get {x : Capture} {f : Field} : ({ s with cap := x } : State).get f = s.get f := rfl
@[simp] theorem State.with_cap_flag {x : Capture} {f : Field} : ({ s with cap := x } : State).flag f = s.flag f := rfl
@[simp] theorem State.with_cap_reg {x : Capture} {k : Nat} : ({ s with cap := x } : State).reg k = s.reg k := rfl
@[simp] theorem State.with_hk_get {x : Housekeeping} {f : Field} : ({ s with hk := x } : State).get f = s.get f := rfl
@[simp] theorem State.with_hk_flag {x : Housekeeping} {f : Field} : ({ s with hk := x } : State).flag f = s.flag f := rfl
@[simp] theorem State.with_hk_reg {x : Housekeeping} {k : Nat} : ({ s with hk := x } : State).reg k = s.reg k := rfl
@[simp] theorem State.with_therm_get {x : Thermal} {f : Field} : ({ s with therm := x } : State).get f = s.get f := rfl
@[simp] theorem State.with_therm_flag {x : Thermal} {f : Field} : ({ s with therm := x } : State).flag f = s.flag f := rfl
@[simp] theorem State.with_therm_reg {x : Thermal} {k : Nat} : ({ s with therm := x } : State).reg k = s.reg k := rfl
@[simp] theorem State.with_sec_get {x : Sec} {f : Field} : ({ s with sec := x } : State).get f = s.get f := rfl
@[simp] theorem State.with_sec_flag {x : Sec} {f : Field} : ({ s with sec := x } : State).flag f = s.flag f := rfl
@[simp] theorem State.with_sec_reg {x : Sec} {k : Nat} : ({ s with sec := x } : State).reg k = s.reg k := rfl
@[simp] theorem State.with_guard_get {x : Guard} {f : Field} : ({ s with guard := x } : State).get f = s.get f := rfl
@[simp] theorem State.with_guard_flag {x : Guard} {f : Field} : ({ s with guard := x } : State).flag f = s.flag f := rfl
@[simp] theorem State.with_guard_reg {x : Guard} {k : Nat} : ({ s with guard := x } : State).reg k = s.reg k := rfl
@[simp] theorem State.with_su_get {x : Startup} {f : Field} : ({ s with su := x } : State).get f = s.get f := rfl
@[simp] theorem State.with_su_flag {x : Startup} {f : Field} : ({ s with su := x } : State).flag f = s.flag f := rfl
@[simp] theorem State.with_su_reg {x : Startup} {k : Nat} : ({ s with su := x } : State).reg k = s.reg k := rfl

/-! ### The frame of a meaning -/

/-- Without an error that calls for it, a command does not end in the safe state. -/
theorem settle_calm (h : s.su.wantSafe = false) : settle s = s := by
  unfold settle
  rw [if_neg (by rw [h]; exact Bool.false_ne_true)]

/-- A command of the part that ends without an entry to the safe state: its effect at its instant. -/
theorem act_next {t : Nat} {f : State → State} (hp : s.su.power = .running) (hw : (f (s.tick t)).su.wantSafe = false) :
    act t f s = .next (f (s.tick t)) := by
  have hp' : (s.tick t).su.power = .running := hp
  show Host.Outcome.next (if (s.tick t).su.power = .running then settle (f (s.tick t)) else s.tick t) = _
  rw [if_pos hp', settle_calm hw]

/-- A command of a part that is in reset or has no power: time alone moves on. -/
theorem act_off {t : Nat} {f : State → State} (hp : s.su.power ≠ .running) : act t f s = .next (s.tick t) := by
  have hp' : ¬ (s.tick t).su.power = .running := hp
  show Host.Outcome.next (if (s.tick t).su.power = .running then settle (f (s.tick t)) else s.tick t) = _
  rw [if_neg hp']

theorem actAny_next {t : Nat} {f : State → State} (hw : (f (s.tick t)).su.wantSafe = false) :
    actAny t f s = .next (f (s.tick t)) := by
  show Host.Outcome.next (settle (f (s.tick t))) = _
  rw [settle_calm hw]

end Sys2Proof.Machine
end

