-- ==== Sys2Proof/Laws/Bus.lean ====
section
/-! SUPPORT. The path of a register write: the word that writes one field, bit by bit; where an address of the hub lands;
and what is left of a write that its requester may make. -/

namespace Sys2Proof.Machine

/-! ### Words put together from fields -/

theorem withField_testBit (w lo n v i : Nat) :
    (withFields w [(lo, n, v)]).testBit i = if lo ≤ i ∧ i < lo + n then v.testBit (i - lo) else w.testBit i := by
  have e : withFields w [(lo, n, v)] = 2 ^ lo * (2 ^ n * (w >>> (lo + n)) + v % 2 ^ n) + w % 2 ^ lo := by
    show w - bits w lo n * 2 ^ lo + v % 2 ^ n * 2 ^ lo = _
    have h1 : w = 2 ^ lo * (2 ^ n * (w >>> (lo + n)) + bits w lo n) + w % 2 ^ lo := by
      have a : w >>> (lo + n) = (w >>> lo) / 2 ^ n := by
        rw [Nat.shiftRight_add, Nat.shiftRight_eq_div_pow (w >>> lo)]
      have b : 2 ^ n * ((w >>> lo) / 2 ^ n) + (w >>> lo) % 2 ^ n = w >>> lo := Nat.div_add_mod _ _
      have c : 2 ^ lo * (w >>> lo) + w % 2 ^ lo = w := by rw [Nat.shiftRight_eq_div_pow]; exact Nat.div_add_mod _ _
      rw [a]; unfold bits; rw [b, c]
    generalize bits w lo n = x at *
    generalize w >>> (lo + n) = y at *
    generalize w % 2 ^ lo = z at *
    rw [h1]
    rw [Nat.mul_add, Nat.mul_add, Nat.mul_comm x, Nat.mul_comm (v % 2 ^ n)]
    omega
  rw [e, Nat.testBit_two_pow_mul_add _ (Nat.mod_lt _ (Nat.two_pow_pos lo))]
  by_cases h1 : i < lo
  · rw [if_pos h1, if_neg (by omega), Nat.testBit_mod_two_pow, decide_eq_true h1, Bool.true_and]
  · rw [if_neg h1, Nat.testBit_two_pow_mul_add _ (Nat.mod_lt _ (Nat.two_pow_pos n))]
    by_cases h2 : i - lo < n
    · rw [if_pos h2, if_pos (by omega), Nat.testBit_mod_two_pow, decide_eq_true h2, Bool.true_and]
    · rw [if_neg h2, if_neg (by omega), Nat.testBit_shiftRight]
      congr 1; omega

theorem bits_testBit (x lo n i : Nat) : (bits x lo n).testBit i = (decide (i < n) && x.testBit (lo + i)) := by
  unfold bits; rw [Nat.testBit_mod_two_pow, Nat.testBit_shiftRight]

theorem bit_testBit (x i : Nat) : bit x i = x.testBit i := by
  unfold bit Nat.testBit
  rw [Nat.and_comm, Nat.and_one_is_mod]
  rcases Nat.mod_two_eq_zero_or_one (x >>> i) with h | h <;> simp [h]

/-- The field that was written holds the value; a place beside it holds what it held. -/
theorem bits_withField (w lo n v : Nat) : bits (withFields w [(lo, n, v)]) lo n = v % 2 ^ n := by
  apply Nat.eq_of_testBit_eq; intro i
  rw [bits_testBit, withField_testBit, Nat.testBit_mod_two_pow]
  by_cases h : i < n
  · rw [if_pos (by omega), Nat.add_sub_cancel_left]
  · simp [h]
theorem bits_withField_beside (w lo n v k m : Nat) (h : lo + n ≤ k ∨ k + m ≤ lo) :
    bits (withFields w [(lo, n, v)]) k m = bits w k m := by
  apply Nat.eq_of_testBit_eq; intro i
  rw [bits_testBit, bits_testBit, withField_testBit]
  by_cases hi : i < m
  · rw [if_neg (by omega)]
  · simp [hi]
theorem bits_mod (x lo n : Nat) (h : lo + n ≤ 32) : bits (x % 2 ^ 32) lo n = bits x lo n := by
  apply Nat.eq_of_testBit_eq; intro i
  rw [bits_testBit, bits_testBit, Nat.testBit_mod_two_pow]
  by_cases hi : i < n
  · have : lo + i < 32 := by omega
    simp [hi, this]
  · simp [hi]
theorem bit_mod (x i : Nat) (h : i < 32) : bit (x % 2 ^ 32) i = bit x i := by
  rw [bit_testBit, bit_testBit, Nat.testBit_mod_two_pow, decide_eq_true h, Bool.true_and]

/-- The bits of the word that writes a field: the field's own. -/
theorem fieldWord_bits (s : State) (req : Nat) (f : Field) (h : RegHit) (v : Nat) (hf : f.lo + f.w ≤ 32) :
    bits (s.fieldWord req f h v % 2 ^ 32) f.lo f.w = v % 2 ^ f.w := by
  rw [bits_mod _ _ _ hf]; exact bits_withField _ _ _ _
/-- A bit beside the field is 0 where no field that is kept covers it. -/
theorem withFields_zero (l : List (Nat × Nat × Nat)) (w i : Nat) (hl : ∀ p ∈ l, ¬ (p.1 ≤ i ∧ i < p.1 + p.2.1)) :
    (withFields w l).testBit i = w.testBit i := by
  induction l generalizing w with
  | nil => rfl
  | cons p r ih =>
    obtain ⟨lo, n, v⟩ := p
    have e : withFields w ((lo, n, v) :: r) = withFields (withFields w [(lo, n, v)]) r := rfl
    rw [e, ih _ (fun q hq => hl q (List.mem_cons_of_mem _ hq)), withField_testBit, if_neg (hl (lo, n, v) List.mem_cons_self)]
theorem fieldWord_bit (s : State) (req : Nat) (f : Field) (h : RegHit) (v i : Nat) (hi : i < 32)
    (hf : ¬ (f.lo ≤ i ∧ i < f.lo + f.w))
    (hk : ∀ g ∈ h.def_.fields, (g.cls = .static ∨ g.cls = .live ∨ g.cls = .latched) → ¬ (g.lo ≤ i ∧ i < g.lo + g.w)) :
    bit (s.fieldWord req f h v % 2 ^ 32) i = false := by
  rw [bit_mod _ _ hi, bit_testBit]
  show (withFields _ [(f.lo, f.w, v)]).testBit i = false
  rw [withField_testBit, if_neg hf, withFields_zero, Nat.zero_testBit]
  intro p hp
  rw [List.mem_map] at hp
  obtain ⟨g, hg, rfl⟩ := hp
  rw [List.mem_filter] at hg
  exact hk g hg.1 (by simpa [Bool.or_eq_true, or_assoc] using hg.2)
theorem fieldWord_set (s : State) (req : Nat) (f : Field) (h : RegHit) (i : Nat) (hi : i < 32) (he : f.lo = i) (hw : f.w = 1) :
    bit (s.fieldWord req f h 1 % 2 ^ 32) i = true := by
  rw [bit_mod _ _ hi, bit_testBit]
  show (withFields _ [(f.lo, f.w, 1)]).testBit i = true
  rw [withField_testBit, if_pos (by omega), he, Nat.sub_self]; rfl

/-! ### Where an access lands, and who may make it -/

/-- A register of the hub outside the windows of words. -/
theorem target_hub (s : State) (a : Nat) (h : RegHit) (ha : a < 0x1000000) (h4 : a % 4 = 0) (hw : wordWindow a = none)
    (hh : regHit a = some h) (h0 : h.def_.id ≠ .CH_RANGE_W0) (h1 : h.def_.id ≠ .CH_RANGE_W1) :
    s.target a 4 = .register h := by
  have e : a / 0x1000000 = 0 := Nat.div_eq_of_lt ha
  unfold State.target
  rw [if_pos (by omega), if_pos ⟨rfl, h4⟩]
  unfold State.regTarget
  simp only [e, if_true, hw, hh]
  split
  · next k _ => exact absurd k h0
  · next k _ => exact absurd k h1
  · rfl

/-- A register of a ranging die that is fitted and in service. -/
theorem target_die (s : State) (a : Nat) (h : RegHit) (ha : a < 0x8000000) (h4 : a % 4 = 0) (hd : a / 0x1000000 ≠ 0)
    (hf : s.dieUp (a / 0x1000000) = true) (hg : channelGap (a % 0x1000000) = false) (hh : regHit a = some h) :
    s.target a 4 = .register h := by
  unfold State.dieUp at hf
  rw [Bool.and_eq_true, Bool.not_eq_true'] at hf
  unfold State.target
  rw [if_pos ha, if_pos ⟨rfl, h4⟩]
  unfold State.regTarget
  simp [hd, hf.1, hf.2, hg, hh]

/-- A write that its requester may make reaches its target. -/
theorem busWrite_admits (s : State) (req a n v : Nat) (h : Admits s req a) : busWrite req a n v s = writeTarget req a n v s := by
  unfold busWrite
  split
  · next ht => unfold writeTarget; rw [ht]
  · rw [h.1 v, h.2.1, h.2.2, Bool.false_and]; rfl

/-- A write of one field that its requester may make is a write of the register's word. -/
theorem busField_admits (s : State) (req : Nat) (f : Field) (v : Nat) (h : RegHit) (hh : regHit f.addr = some h)
    (ht : s.target f.addr 4 = .register h) (ha : Admits s req f.addr) :
    busField req f v s = regWrite req f.addr h (s.fieldWord req f h v % 2 ^ 32) s := by
  unfold busField
  rw [hh]
  show busWrite req f.addr 4 (s.fieldWord req f h v) s = _
  rw [busWrite_admits _ _ _ _ _ ha]
  unfold writeTarget
  rw [ht]

/-- A write that nothing refuses stores the register's new word and reaches the register's hook. -/
theorem regWrite_takes (s : State) (req a : Nat) (h : RegHit) (v : Nat) (h0 : h.def_.id ≠ .CH_THR) (h1 : h.def_.id ≠ .SETPOINT)
    (hr : s.regRefused a h v = false) :
    regWrite req a h v s = writeHook req h.def_.id h.ix (s.reg a).toNat (s.regNew a h v) v
      (s.setReg a (BitVec.ofNat 32 (s.regNew a h v))) := by
  unfold regWrite
  split
  · next k _ => exact absurd k h0
  · next k _ => exact absurd k h1
  · rw [hr, if_neg Bool.false_ne_true]

/-- A write to a register whose block does not run and whose chapter does not refuse it. -/
theorem regWrite_hook (s : State) (req a : Nat) (h : RegHit) (v : Nat) (h0 : h.def_.id ≠ .CH_THR) (h1 : h.def_.id ≠ .SETPOINT)
    (hb : s.blockRuns h.def_.id h.ix = false) (hc : ∀ w, (s.setReg a w).configBad h.def_.id h.ix = false) :
    regWrite req a h v s = writeHook req h.def_.id h.ix (s.reg a).toNat (s.regNew a h v) v
      (s.setReg a (BitVec.ofNat 32 (s.regNew a h v))) := by
  refine regWrite_takes s req a h v h0 h1 ?_
  unfold State.regRefused
  dsimp only
  rw [hb, hc, Bool.and_false, Bool.and_false]; rfl

/-- The same where the written word leaves every static field as it was. -/
theorem regWrite_keep (s : State) (req a : Nat) (h : RegHit) (v : Nat) (h0 : h.def_.id ≠ .CH_THR) (h1 : h.def_.id ≠ .SETPOINT)
    (hb : FieldDef.staticChange (s.reg a).toNat (s.regNew a h v) h.def_.fields = false)
    (hc : ∀ w, (s.setReg a w).configBad h.def_.id h.ix = false) :
    regWrite req a h v s = writeHook req h.def_.id h.ix (s.reg a).toNat (s.regNew a h v) v
      (s.setReg a (BitVec.ofNat 32 (s.regNew a h v))) := by
  refine regWrite_takes s req a h v h0 h1 ?_
  unfold State.regRefused
  dsimp only
  rw [hb, hc, Bool.and_false, Bool.false_and]; rfl

/-! ### What the register of a requested field holds -/

theorem asked_eq (s : State) (req : Nat) (f : Field) (v : Nat) (h : RegHit) (hh : regHit f.addr = some h) :
    s.asked req f v = s.setReg f.addr (BitVec.ofNat 32 (s.regNew f.addr h (s.fieldWord req f h v % 2 ^ 32))) := by
  unfold State.asked
  rw [hh]
/-- The registers beside it, and every other field of the state, stay. -/
theorem asked_beside (s : State) (req : Nat) (f : Field) (v a : Nat) (h : a ≠ f.addr) : (s.asked req f v).reg a = s.reg a := by
  unfold State.asked
  split
  · exact State.reg_setReg_other _ _ _ _ h
  · rfl
theorem asked_same (s : State) (req : Nat) (f : Field) (v : Nat) : s.asked req f v = { s with regs := (s.asked req f v).regs } := by
  unfold State.asked
  split <;> rfl

/-- A field a requester may write, in a register whose static fields the written word leaves as they were: the request
reaches the register's hook. -/
theorem busField_asked (s : State) (req : Nat) (f : Field) (v : Nat) (h : RegHit) (hh : regHit f.addr = some h)
    (ht : s.target f.addr 4 = .register h) (ha : Admits s req f.addr) (h0 : h.def_.id ≠ .CH_THR) (h1 : h.def_.id ≠ .SETPOINT)
    (hb : FieldDef.staticChange (s.reg f.addr).toNat (s.regNew f.addr h (s.fieldWord req f h v % 2 ^ 32)) h.def_.fields = false ∨
      s.blockRuns h.def_.id h.ix = false)
    (hc : ∀ w, (s.setReg f.addr w).configBad h.def_.id h.ix = false) :
    busField req f v s = writeHook req h.def_.id h.ix (s.reg f.addr).toNat (s.regNew f.addr h (s.fieldWord req f h v % 2 ^ 32))
      (s.fieldWord req f h v % 2 ^ 32) (s.asked req f v) := by
  rw [busField_admits s req f v h hh ht ha, asked_eq _ _ _ _ _ hh]
  cases hb with
  | inl hb => exact regWrite_keep s req f.addr h _ h0 h1 hb hc
  | inr hb => exact regWrite_hook s req f.addr h _ h0 h1 hb hc

end Sys2Proof.Machine
end

