-- ==== Sys2Proof/Laws/Touch.lean ====
section
/-! SUPPORT. What each state change of the model may touch, said once per function. `Touch m s t`: `t` is reached from `s`
by changes to the parts of State whose bits stand in the mask `m` alone (bit i is field i, in the order of the
declaration), and memory and the register file keep their canonical form. `f_touch` reads: where `t` is reached from `s`
so, `f` of `t` is too, for every mask that holds the bits of `f`. The functions stand in the order in which they call
each other. -/

set_option Elab.async false

namespace Sys2Proof.Machine

/-- Every memory operation keeps the canonical form. -/
theorem Memory.wf_put {l : List Host.Cell} (k : Nat) (b : Byte) (h : Memory.wf l = true) :
    Memory.wf (SMap.put l (memDefault k) k b) = true := SMap.wf_put memDefault l k b h
theorem Memory.wf_filter {l : List Host.Cell} (p : Host.Cell → Bool) (h : Memory.wf l = true) : Memory.wf (l.filter p) = true :=
  SMap.wf_filter memDefault l p h
theorem RegFile.wf_put {r : SMap (BitVec 32)} (k : Nat) (v : BitVec 32) (h : RegFile.wf r = true) :
    RegFile.wf (SMap.put r (Reg.reset k) k v) = true := SMap.wf_put Reg.reset r k v h

/-- Two states agree on field i. -/
def State.Same (i : Nat) (s t : State) : Prop :=
  match i with
  | 0 => t.now = s.now
  | 1 => t.variant = s.variant
  | 2 => t.regs = s.regs
  | 3 => t.mem = s.mem
  | 4 => t.fresh = s.fresh
  | 5 => t.pending = s.pending
  | 6 => t.chans = s.chans
  | 7 => t.tb = s.tb
  | 8 => t.ops = s.ops
  | 9 => t.groups = s.groups
  | 10 => t.dies = s.dies
  | 11 => t.frames = s.frames
  | 12 => t.pts = s.pts
  | 13 => t.seqs = s.seqs
  | 14 => t.trk = s.trk
  | 15 => t.dram = s.dram
  | 16 => t.heads = s.heads
  | 17 => t.drive = s.drive
  | 18 => t.motion = s.motion
  | 19 => t.twin = s.twin
  | 20 => t.cap = s.cap
  | 21 => t.hk = s.hk
  | 22 => t.therm = s.therm
  | 23 => t.sec = s.sec
  | 24 => t.guard = s.guard
  | 25 => t.su = s.su
  | _ => True

/-- `t` is reached from `s` by changes to the fields of the mask. -/
structure Touch (m : Nat) (s t : State) : Prop where
  same : ∀ i, i < 26 → m.testBit i = false → State.Same i s t
  canon : s.Canon → t.Canon

/-- A field outside the mask of a change is outside the masks of its parts. -/
theorem Mask.sub {m f g : Nat} (hm : m ||| f = m) (h : f ||| g = f) : m ||| g = m := by
  rw [← hm, Nat.or_assoc, h]
theorem Mask.clear {m i : Nat} (hm : m ||| 2 ^ i = m) (h : m.testBit i = false) : False := by
  rw [← hm, Nat.testBit_or, Nat.testBit_two_pow_self] at h
  simp at h

variable {m : Nat} {a s : State}

theorem State.Same.refl (i : Nat) : State.Same i s s := by
  unfold State.Same; split <;> trivial
theorem State.Same.trans {t u : State} {i : Nat} (h : State.Same i s t) (k : State.Same i t u) : State.Same i s u := by
  unfold State.Same at *
  split <;> first | exact k.trans h | trivial
theorem Touch.refl : Touch m s s := ⟨fun i _ _ => State.Same.refl i, id⟩
theorem Touch.trans {t u : State} (h : Touch m s t) (k : Touch m t u) : Touch m s u :=
  ⟨fun i hi hb => (h.same i hi hb).trans (k.same i hi hb), fun c => k.canon (h.canon c)⟩
theorem Touch.ite {c : Prop} {i : Decidable c} {t u : State} (h : Touch m a t) (k : Touch m a u) : Touch m a (if c then t else u) := by
  split <;> assumption
theorem Touch.pair {β : Type} {p : State × β} {t : State} {x : β} (e : p = (t, x)) (h : Touch m a p.1) : Touch m a t := by
  rw [e] at h; exact h
theorem Touch.pair2 {β : Type} {p : β × State} {t : State} {x : β} (e : p = (x, t)) (h : Touch m a p.2) : Touch m a t := by
  rw [e] at h; exact h
/-- The fields of a mask change. -/
theorem Touch.many {t : State} (f : Nat) (hm : m ||| f = m) (h : Touch m a s)
    (hs : ∀ i, i < 26 → f.testBit i = false → State.Same i s t) (hc : s.Canon → t.Canon) : Touch m a t :=
  h.trans ⟨fun i hi hb => hs i hi (by rw [← hm, Nat.testBit_or, Bool.or_eq_false_iff] at hb; exact hb.2), hc⟩
/-- One field changes to another value. -/
theorem Touch.field {t : State} (k : Nat) (hm : m ||| 2 ^ k = m) (h : Touch m a s)
    (hs : ∀ i, i < 26 → i ≠ k → State.Same i s t) (hc : s.Canon → t.Canon) : Touch m a t :=
  h.trans ⟨fun i hi hb => hs i hi (fun e => Mask.clear hm (e ▸ hb)), hc⟩
/-! A field outside the mask is unchanged. -/
theorem Touch.now {t : State} (h : Touch m s t) (hb : m.testBit 0 = false) : t.now = s.now := h.same 0 (by decide) hb
theorem Touch.variant {t : State} (h : Touch m s t) (hb : m.testBit 1 = false) : t.variant = s.variant := h.same 1 (by decide) hb
theorem Touch.regs {t : State} (h : Touch m s t) (hb : m.testBit 2 = false) : t.regs = s.regs := h.same 2 (by decide) hb
theorem Touch.mem {t : State} (h : Touch m s t) (hb : m.testBit 3 = false) : t.mem = s.mem := h.same 3 (by decide) hb
theorem Touch.fresh {t : State} (h : Touch m s t) (hb : m.testBit 4 = false) : t.fresh = s.fresh := h.same 4 (by decide) hb
theorem Touch.pending {t : State} (h : Touch m s t) (hb : m.testBit 5 = false) : t.pending = s.pending := h.same 5 (by decide) hb
theorem Touch.chans {t : State} (h : Touch m s t) (hb : m.testBit 6 = false) : t.chans = s.chans := h.same 6 (by decide) hb
theorem Touch.tb {t : State} (h : Touch m s t) (hb : m.testBit 7 = false) : t.tb = s.tb := h.same 7 (by decide) hb
theorem Touch.ops {t : State} (h : Touch m s t) (hb : m.testBit 8 = false) : t.ops = s.ops := h.same 8 (by decide) hb
theorem Touch.groups {t : State} (h : Touch m s t) (hb : m.testBit 9 = false) : t.groups = s.groups := h.same 9 (by decide) hb
theorem Touch.dies {t : State} (h : Touch m s t) (hb : m.testBit 10 = false) : t.dies = s.dies := h.same 10 (by decide) hb
theorem Touch.frames {t : State} (h : Touch m s t) (hb : m.testBit 11 = false) : t.frames = s.frames := h.same 11 (by decide) hb
theorem Touch.pts {t : State} (h : Touch m s t) (hb : m.testBit 12 = false) : t.pts = s.pts := h.same 12 (by decide) hb
theorem Touch.seqs {t : State} (h : Touch m s t) (hb : m.testBit 13 = false) : t.seqs = s.seqs := h.same 13 (by decide) hb
theorem Touch.trk {t : State} (h : Touch m s t) (hb : m.testBit 14 = false) : t.trk = s.trk := h.same 14 (by decide) hb
theorem Touch.dram {t : State} (h : Touch m s t) (hb : m.testBit 15 = false) : t.dram = s.dram := h.same 15 (by decide) hb
theorem Touch.heads {t : State} (h : Touch m s t) (hb : m.testBit 16 = false) : t.heads = s.heads := h.same 16 (by decide) hb
theorem Touch.drive {t : State} (h : Touch m s t) (hb : m.testBit 17 = false) : t.drive = s.drive := h.same 17 (by decide) hb
theorem Touch.motion {t : State} (h : Touch m s t) (hb : m.testBit 18 = false) : t.motion = s.motion := h.same 18 (by decide) hb
theorem Touch.twin {t : State} (h : Touch m s t) (hb : m.testBit 19 = false) : t.twin = s.twin := h.same 19 (by decide) hb
theorem Touch.cap {t : State} (h : Touch m s t) (hb : m.testBit 20 = false) : t.cap = s.cap := h.same 20 (by decide) hb
theorem Touch.hk {t : State} (h : Touch m s t) (hb : m.testBit 21 = false) : t.hk = s.hk := h.same 21 (by decide) hb
theorem Touch.therm {t : State} (h : Touch m s t) (hb : m.testBit 22 = false) : t.therm = s.therm := h.same 22 (by decide) hb
theorem Touch.sec {t : State} (h : Touch m s t) (hb : m.testBit 23 = false) : t.sec = s.sec := h.same 23 (by decide) hb
theorem Touch.guard {t : State} (h : Touch m s t) (hb : m.testBit 24 = false) : t.guard = s.guard := h.same 24 (by decide) hb
theorem Touch.su {t : State} (h : Touch m s t) (hb : m.testBit 25 = false) : t.su = s.su := h.same 25 (by decide) hb

theorem Touch.set_fresh (hm : m ||| 16 = m) (h : Touch m a s) {v} : Touch m a { s with fresh := v } :=
  Touch.field 4 hm h (fun i _ hn => by unfold State.Same; split <;> first | rfl | trivial | exact absurd rfl hn) id
theorem Touch.set_chans (hm : m ||| 64 = m) (h : Touch m a s) {v} : Touch m a { s with chans := v } :=
  Touch.field 6 hm h (fun i _ hn => by unfold State.Same; split <;> first | rfl | trivial | exact absurd rfl hn) id
theorem Touch.set_tb (hm : m ||| 128 = m) (h : Touch m a s) {v} : Touch m a { s with tb := v } :=
  Touch.field 7 hm h (fun i _ hn => by unfold State.Same; split <;> first | rfl | trivial | exact absurd rfl hn) id
theorem Touch.set_ops (hm : m ||| 256 = m) (h : Touch m a s) {v} : Touch m a { s with ops := v } :=
  Touch.field 8 hm h (fun i _ hn => by unfold State.Same; split <;> first | rfl | trivial | exact absurd rfl hn) id
theorem Touch.set_groups (hm : m ||| 512 = m) (h : Touch m a s) {v} : Touch m a { s with groups := v } :=
  Touch.field 9 hm h (fun i _ hn => by unfold State.Same; split <;> first | rfl | trivial | exact absurd rfl hn) id
theorem Touch.set_dies (hm : m ||| 1024 = m) (h : Touch m a s) {v} : Touch m a { s with dies := v } :=
  Touch.field 10 hm h (fun i _ hn => by unfold State.Same; split <;> first | rfl | trivial | exact absurd rfl hn) id
theorem Touch.set_frames (hm : m ||| 2048 = m) (h : Touch m a s) {v} : Touch m a { s with frames := v } :=
  Touch.field 11 hm h (fun i _ hn => by unfold State.Same; split <;> first | rfl | trivial | exact absurd rfl hn) id
theorem Touch.set_pts (hm : m ||| 4096 = m) (h : Touch m a s) {v} : Touch m a { s with pts := v } :=
  Touch.field 12 hm h (fun i _ hn => by unfold State.Same; split <;> first | rfl | trivial | exact absurd rfl hn) id
theorem Touch.set_seqs (hm : m ||| 8192 = m) (h : Touch m a s) {v} : Touch m a { s with seqs := v } :=
  Touch.field 13 hm h (fun i _ hn => by unfold State.Same; split <;> first | rfl | trivial | exact absurd rfl hn) id
theorem Touch.set_trk (hm : m ||| 16384 = m) (h : Touch m a s) {v} : Touch m a { s with trk := v } :=
  Touch.field 14 hm h (fun i _ hn => by unfold State.Same; split <;> first | rfl | trivial | exact absurd rfl hn) id
theorem Touch.set_dram (hm : m ||| 32768 = m) (h : Touch m a s) {v} : Touch m a { s with dram := v } :=
  Touch.field 15 hm h (fun i _ hn => by unfold State.Same; split <;> first | rfl | trivial | exact absurd rfl hn) id
theorem Touch.set_heads (hm : m ||| 65536 = m) (h : Touch m a s) {v} : Touch m a { s with heads := v } :=
  Touch.field 16 hm h (fun i _ hn => by unfold State.Same; split <;> first | rfl | trivial | exact absurd rfl hn) id
theorem Touch.set_drive (hm : m ||| 131072 = m) (h : Touch m a s) {v} : Touch m a { s with drive := v } :=
  Touch.field 17 hm h (fun i _ hn => by unfold State.Same; split <;> first | rfl | trivial | exact absurd rfl hn) id
theorem Touch.set_motion (hm : m ||| 262144 = m) (h : Touch m a s) {v} : Touch m a { s with motion := v } :=
  Touch.field 18 hm h (fun i _ hn => by unfold State.Same; split <;> first | rfl | trivial | exact absurd rfl hn) id
theorem Touch.set_twin (hm : m ||| 524288 = m) (h : Touch m a s) {v} : Touch m a { s with twin := v } :=
  Touch.field 19 hm h (fun i _ hn => by unfold State.Same; split <;> first | rfl | trivial | exact absurd rfl hn) id
theorem Touch.set_cap (hm : m ||| 1048576 = m) (h : Touch m a s) {v} : Touch m a { s with cap := v } :=
  Touch.field 20 hm h (fun i _ hn => by unfold State.Same; split <;> first | rfl | trivial | exact absurd rfl hn) id
theorem Touch.set_hk (hm : m ||| 2097152 = m) (h : Touch m a s) {v} : Touch m a { s with hk := v } :=
  Touch.field 21 hm h (fun i _ hn => by unfold State.Same; split <;> first | rfl | trivial | exact absurd rfl hn) id
theorem Touch.set_therm (hm : m ||| 4194304 = m) (h : Touch m a s) {v} : Touch m a { s with therm := v } :=
  Touch.field 22 hm h (fun i _ hn => by unfold State.Same; split <;> first | rfl | trivial | exact absurd rfl hn) id
theorem Touch.set_sec (hm : m ||| 8388608 = m) (h : Touch m a s) {v} : Touch m a { s with sec := v } :=
  Touch.field 23 hm h (fun i _ hn => by unfold State.Same; split <;> first | rfl | trivial | exact absurd rfl hn) id
theorem Touch.set_guard (hm : m ||| 16777216 = m) (h : Touch m a s) {v} : Touch m a { s with guard := v } :=
  Touch.field 24 hm h (fun i _ hn => by unfold State.Same; split <;> first | rfl | trivial | exact absurd rfl hn) id
theorem Touch.set_su (hm : m ||| 33554432 = m) (h : Touch m a s) {v} : Touch m a { s with su := v } :=
  Touch.field 25 hm h (fun i _ hn => by unfold State.Same; split <;> first | rfl | trivial | exact absurd rfl hn) id
theorem Touch.set_now (hm : m ||| 1 = m) (h : Touch m a s) {v} : Touch m a { s with now := v } :=
  Touch.field 0 hm h (fun i _ hn => by unfold State.Same; split <;> first | rfl | trivial | exact absurd rfl hn) id
theorem State.tick_touch (hm : m ||| 1 = m) {t} (h : Touch m a s) : Touch m a (s.tick t) := h.set_now hm
theorem State.setReg_touch (hm : m ||| 4 = m) {k v} (h : Touch m a s) : Touch m a (s.setReg k v) :=
  Touch.field 2 hm h (fun i _ hn => by unfold State.Same; split <;> first | rfl | trivial | exact absurd rfl hn)
    (fun c => ⟨c.1, RegFile.wf_put _ _ c.2⟩)
theorem State.setByte_touch (hm : m ||| 8 = m) {k v} (h : Touch m a s) : Touch m a (s.setByte k v) :=
  Touch.field 3 hm h (fun i _ hn => by unfold State.Same; split <;> first | rfl | trivial | exact absurd rfl hn)
    (fun c => ⟨Memory.wf_put _ _ c.1, c.2⟩)
theorem Touch.filter (hm : m ||| 8 = m) {p} (h : Touch m a s) : Touch m a { s with mem := s.mem.filter p } :=
  Touch.field 3 hm h (fun i _ hn => by unfold State.Same; split <;> first | rfl | trivial | exact absurd rfl hn)
    (fun c => ⟨Memory.wf_filter _ c.1, c.2⟩)
theorem upTo_touch {n f} (hf : ∀ k t, Touch m a t → Touch m a (f k t)) (h : Touch m a s) : Touch m a (upTo n f s) := by
  induction n with
  | zero => exact h
  | succ k ih => exact hf k _ ih
theorem forAll_touch {β : Type} {l : List β} {f} (hf : ∀ x t, Touch m a t → Touch m a (f x t)) (h : Touch m a s) :
    Touch m a (forAll l f s) := by
  induction l generalizing s with
  | nil => exact h
  | cons x r ih => exact ih (hf x _ h)
theorem when__touch {b f} (hf : ∀ t, Touch m a t → Touch m a (f t)) (h : Touch m a s) : Touch m a (when_ b f s) := by
  unfold when_; split
  · exact hf s h
  · exact h
theorem State.draw_touch (hm : m ||| 16 = m) (h : Touch m a s) : Touch m a s.draw.2 := h.set_fresh hm
theorem State.drawIf_touch (hm : m ||| 16 = m) {c v} (h : Touch m a s) : Touch m a (s.drawIf c v).2 := by
  unfold State.drawIf; split
  · exact State.draw_touch hm h
  · exact h
theorem keepReg_touch (hm : m ||| 4 = m) {old} (h : Touch m a s) {k} : Touch m a (keepReg old k s) := State.setReg_touch hm h

theorem State.put_touch (hm : m ||| 4 = m) {x1 : Sys2Proof.Machine.Field} {x2 : Nat} (h : Touch m a s) : Touch m a (State.put s x1 x2) := by
  unfold State.put
  repeat' with_reducible first | assumption | refine State.setReg_touch (Mask.sub hm rfl) ?_ | refine Touch.ite ?_ ?_ | split | dsimp only

theorem State.add_touch (hm : m ||| 4 = m) {x1 : Sys2Proof.Machine.Field} {x2 : Nat} (h : Touch m a s) : Touch m a (State.add s x1 x2) := by
  unfold State.add
  repeat' with_reducible first | assumption | refine State.put_touch (Mask.sub hm rfl) ?_ | refine Touch.ite ?_ ?_ | split | dsimp only

theorem State.addSat_touch (hm : m ||| 4 = m) {x1 : Sys2Proof.Machine.Field} {x2 : Nat} (h : Touch m a s) : Touch m a (State.addSat s x1 x2) := by
  unfold State.addSat
  repeat' with_reducible first | assumption | refine State.put_touch (Mask.sub hm rfl) ?_ | refine Touch.ite ?_ ?_ | split | dsimp only

theorem State.bump_touch (hm : m ||| 4 = m) {x1 : Sys2Proof.Machine.Field} (h : Touch m a s) : Touch m a (State.bump s x1) := by
  unfold State.bump
  repeat' with_reducible first | assumption | refine State.add_touch (Mask.sub hm rfl) ?_ | refine Touch.ite ?_ ?_ | split | dsimp only

theorem State.bumpSat_touch (hm : m ||| 4 = m) {x1 : Sys2Proof.Machine.Field} (h : Touch m a s) : Touch m a (State.bumpSat s x1) := by
  unfold State.bumpSat
  repeat' with_reducible first | assumption | refine State.addSat_touch (Mask.sub hm rfl) ?_ | refine Touch.ite ?_ ?_ | split | dsimp only

theorem State.clrFlag_touch (hm : m ||| 4 = m) {x1 : Sys2Proof.Machine.Field} (h : Touch m a s) : Touch m a (State.clrFlag s x1) := by
  unfold State.clrFlag
  repeat' with_reducible first | assumption | refine State.put_touch (Mask.sub hm rfl) ?_ | refine Touch.ite ?_ ?_ | split | dsimp only

theorem State.setBank_touch (hm : m ||| 131072 = m) {x1 : Nat} {x2 : Nat} {x3 : Sys2Proof.Machine.Bank} (h : Touch m a s) : Touch m a (State.setBank s x1 x2 x3) := by
  unfold State.setBank
  repeat' with_reducible first | assumption | refine Touch.ite ?_ ?_ | split | dsimp only | refine Touch.set_drive (Mask.sub hm rfl) ?_

theorem State.modBank_touch (hm : m ||| 131072 = m) {x1 : Nat} {x2 : Nat} {x3 : Sys2Proof.Machine.Bank → Sys2Proof.Machine.Bank} (h : Touch m a s) : Touch m a (State.modBank s x1 x2 x3) := by
  unfold State.modBank
  repeat' with_reducible first | assumption | refine State.setBank_touch (Mask.sub hm rfl) ?_ | refine Touch.ite ?_ ?_ | split | dsimp only

theorem State.setFrame_touch (hm : m ||| 2048 = m) {x1 : Nat} {x2 : Nat} {x3 : Option Sys2Proof.Machine.FrameAcc} (h : Touch m a s) : Touch m a (State.setFrame s x1 x2 x3) := by
  unfold State.setFrame
  repeat' with_reducible first | assumption | refine Touch.ite ?_ ?_ | split | dsimp only | refine Touch.set_frames (Mask.sub hm rfl) ?_

theorem State.modFrame_touch (hm : m ||| 2048 = m) {x1 : Nat} {x2 : Nat} {x3 : Sys2Proof.Machine.FrameAcc → Sys2Proof.Machine.FrameAcc} (h : Touch m a s) : Touch m a (State.modFrame s x1 x2 x3) := by
  unfold State.modFrame
  repeat' with_reducible first | assumption | refine State.setFrame_touch (Mask.sub hm rfl) ?_ | refine Touch.ite ?_ ?_ | split | dsimp only

theorem State.setHead_touch (hm : m ||| 65536 = m) {x1 : Nat} {x2 : Sys2Proof.Machine.Head} (h : Touch m a s) : Touch m a (State.setHead s x1 x2) := by
  unfold State.setHead
  repeat' with_reducible first | assumption | refine Touch.ite ?_ ?_ | split | dsimp only | refine Touch.set_heads (Mask.sub hm rfl) ?_

theorem State.modHead_touch (hm : m ||| 65536 = m) {x1 : Nat} {x2 : Sys2Proof.Machine.Head → Sys2Proof.Machine.Head} (h : Touch m a s) : Touch m a (State.modHead s x1 x2) := by
  unfold State.modHead
  repeat' with_reducible first | assumption | refine State.setHead_touch (Mask.sub hm rfl) ?_ | refine Touch.ite ?_ ?_ | split | dsimp only

theorem State.setLane_touch (hm : m ||| 16384 = m) {x1 : Nat} {x2 : Sys2Proof.Machine.Lane} (h : Touch m a s) : Touch m a (State.setLane s x1 x2) := by
  unfold State.setLane
  repeat' with_reducible first | assumption | refine Touch.ite ?_ ?_ | split | dsimp only | refine Touch.set_trk (Mask.sub hm rfl) ?_

theorem State.modLane_touch (hm : m ||| 16384 = m) {x1 : Nat} {x2 : Sys2Proof.Machine.Lane → Sys2Proof.Machine.Lane} (h : Touch m a s) : Touch m a (State.modLane s x1 x2) := by
  unfold State.modLane
  repeat' with_reducible first | assumption | refine State.setLane_touch (Mask.sub hm rfl) ?_ | refine Touch.ite ?_ ?_ | split | dsimp only

theorem State.setLoop_touch (hm : m ||| 262144 = m) {x1 : Nat} {x2 : Sys2Proof.Machine.Loop} (h : Touch m a s) : Touch m a (State.setLoop s x1 x2) := by
  unfold State.setLoop
  repeat' with_reducible first | assumption | refine Touch.ite ?_ ?_ | split | dsimp only | refine Touch.set_motion (Mask.sub hm rfl) ?_

theorem State.modLoop_touch (hm : m ||| 262144 = m) {x1 : Nat} {x2 : Sys2Proof.Machine.Loop → Sys2Proof.Machine.Loop} (h : Touch m a s) : Touch m a (State.modLoop s x1 x2) := by
  unfold State.modLoop
  repeat' with_reducible first | assumption | refine State.setLoop_touch (Mask.sub hm rfl) ?_ | refine Touch.ite ?_ ?_ | split | dsimp only

theorem State.putb_touch (hm : m ||| 4 = m) {x1 : Sys2Proof.Machine.Field} {x2 : Bool} (h : Touch m a s) : Touch m a (State.putb s x1 x2) := by
  unfold State.putb
  repeat' with_reducible first | assumption | refine State.put_touch (Mask.sub hm rfl) ?_ | refine Touch.ite ?_ ?_ | split | dsimp only

theorem State.puti_touch (hm : m ||| 4 = m) {x1 : Sys2Proof.Machine.Field} {x2 : Int} (h : Touch m a s) : Touch m a (State.puti s x1 x2) := by
  unfold State.puti
  repeat' with_reducible first | assumption | refine State.put_touch (Mask.sub hm rfl) ?_ | refine Touch.ite ?_ ?_ | split | dsimp only

theorem State.setCalDie_touch (hm : m ||| 4194304 = m) {x1 : Nat} {x2 : Sys2Proof.Machine.CalDie} (h : Touch m a s) : Touch m a (State.setCalDie s x1 x2) := by
  unfold State.setCalDie
  repeat' with_reducible first | assumption | refine Touch.ite ?_ ?_ | split | dsimp only | refine Touch.set_therm (Mask.sub hm rfl) ?_

theorem State.setCap_touch (hm : m ||| 1048576 = m) {x1 : Sys2Proof.Machine.Capture} (h : Touch m a s) : Touch m a (State.setCap s x1) := by
  unfold State.setCap
  repeat' with_reducible first | assumption | refine Touch.ite ?_ ?_ | split | dsimp only | refine Touch.set_cap (Mask.sub hm rfl) ?_

theorem State.setChan_touch (hm : m ||| 64 = m) {x1 : Nat} {x2 : Sys2Proof.Machine.Chan} (h : Touch m a s) : Touch m a (State.setChan s x1 x2) := by
  unfold State.setChan
  repeat' with_reducible first | assumption | refine Touch.ite ?_ ?_ | split | dsimp only | refine Touch.set_chans (Mask.sub hm rfl) ?_

theorem State.setCslot_touch (hm : m ||| 1048576 = m) {x1 : Nat} {x2 : Sys2Proof.Machine.CapSlot} (h : Touch m a s) : Touch m a (State.setCslot s x1 x2) := by
  unfold State.setCslot
  repeat' with_reducible first | assumption | refine Touch.ite ?_ ?_ | split | dsimp only | refine Touch.set_cap (Mask.sub hm rfl) ?_

theorem State.setDie_touch (hm : m ||| 1024 = m) {x1 : Nat} {x2 : Sys2Proof.Machine.Die} (h : Touch m a s) : Touch m a (State.setDie s x1 x2) := by
  unfold State.setDie
  repeat' with_reducible first | assumption | refine Touch.ite ?_ ?_ | split | dsimp only | refine Touch.set_dies (Mask.sub hm rfl) ?_

theorem State.setDram_touch (hm : m ||| 32768 = m) {x1 : Sys2Proof.Machine.Mem} (h : Touch m a s) : Touch m a (State.setDram s x1) := by
  unfold State.setDram
  repeat' with_reducible first | assumption | refine Touch.ite ?_ ?_ | split | dsimp only | refine Touch.set_dram (Mask.sub hm rfl) ?_

theorem State.setDrv_touch (hm : m ||| 131072 = m) {x1 : Nat} {x2 : Sys2Proof.Machine.DriveHead} (h : Touch m a s) : Touch m a (State.setDrv s x1 x2) := by
  unfold State.setDrv
  repeat' with_reducible first | assumption | refine Touch.ite ?_ ?_ | split | dsimp only | refine Touch.set_heads (Mask.sub hm rfl) ?_ | refine Touch.set_drive (Mask.sub hm rfl) ?_

theorem State.setEnc_touch (hm : m ||| 262144 = m) {x1 : Nat} {x2 : Sys2Proof.Machine.Enc} (h : Touch m a s) : Touch m a (State.setEnc s x1 x2) := by
  unfold State.setEnc
  repeat' with_reducible first | assumption | refine Touch.ite ?_ ?_ | split | dsimp only | refine Touch.set_motion (Mask.sub hm rfl) ?_

theorem State.setFlag_touch (hm : m ||| 4 = m) {x1 : Sys2Proof.Machine.Field} (h : Touch m a s) : Touch m a (State.setFlag s x1) := by
  unfold State.setFlag
  repeat' with_reducible first | assumption | refine State.put_touch (Mask.sub hm rfl) ?_ | refine Touch.ite ?_ ?_ | split | dsimp only

theorem State.setGin_touch (hm : m ||| 16777216 = m) {x1 : Nat} {x2 : Sys2Proof.Machine.Gin} (h : Touch m a s) : Touch m a (State.setGin s x1 x2) := by
  unfold State.setGin
  repeat' with_reducible first | assumption | refine Touch.ite ?_ ?_ | split | dsimp only | refine Touch.set_guard (Mask.sub hm rfl) ?_

theorem State.setGreg_touch (hm : m ||| 4 = m) {x1 : Nat} {x2 : Nat} {x3 : Nat} (h : Touch m a s) : Touch m a (State.setGreg s x1 x2 x3) := by
  unfold State.setGreg
  repeat' with_reducible first | assumption | refine State.put_touch (Mask.sub hm rfl) ?_ | refine Touch.ite ?_ ?_ | split | dsimp only

theorem State.setGregs_touch (hm : m ||| 4 = m) {n k : Nat} {l : List Nat} (h : Touch m a s) : Touch m a (s.setGregs n k l) := by
  induction l generalizing k s with
  | nil => exact h
  | cons v r ih => exact ih (State.setGreg_touch (Mask.sub hm rfl) h)

theorem State.setGroup_touch (hm : m ||| 512 = m) {x1 : Nat} {x2 : Nat} {x3 : Sys2Proof.Machine.Group} (h : Touch m a s) : Touch m a (State.setGroup s x1 x2 x3) := by
  unfold State.setGroup
  repeat' with_reducible first | assumption | refine Touch.ite ?_ ?_ | split | dsimp only | refine Touch.set_groups (Mask.sub hm rfl) ?_

theorem State.setStream_touch (hm : m ||| 16384 = m) {x1 : Nat} {x2 : Sys2Proof.Machine.Stream} (h : Touch m a s) : Touch m a (State.setStream s x1 x2) := by
  unfold State.setStream
  repeat' with_reducible first | assumption | refine Touch.ite ?_ ?_ | split | dsimp only | refine Touch.set_trk (Mask.sub hm rfl) ?_

theorem cwyParcel_touch (hm : m ||| 16384 = m) {x0 : Nat} {x1 : Sys2Proof.Machine.Rec} (h : Touch m a s) : Touch m a (cwyParcel x0 x1 s) := by
  unfold cwyParcel
  repeat' with_reducible first | assumption | refine State.setStream_touch (Mask.sub hm rfl) ?_ | refine Touch.ite ?_ ?_ | split | dsimp only

theorem cwySend_touch (hm : m ||| 16384 = m) {x0 : Nat} {x1 : Sys2Proof.Machine.Rec} (h : Touch m a s) : Touch m a (cwySend x0 x1 s) := by
  unfold cwySend
  repeat' with_reducible first | assumption | refine cwyParcel_touch (Mask.sub hm rfl) ?_ | refine forAll_touch (fun _ _ _ => ?_) ?_ | refine Touch.ite ?_ ?_ | split | dsimp only

theorem forward_touch (hm : m ||| 16384 = m) {x0 : Nat} {x1 : Nat} {x2 : Nat} (h : Touch m a s) : Touch m a (forward x0 x1 x2 s) := by
  unfold forward
  repeat' with_reducible first | assumption | refine cwySend_touch (Mask.sub hm rfl) ?_ | refine Touch.ite ?_ ?_ | split | dsimp only

theorem State.store_touch (hm : m ||| 8 = m) {p n v : Nat} (h : Touch m a s) : Touch m a (s.store p n v) := by
  induction n generalizing p v s with
  | zero => exact h
  | succ n ih => exact ih (State.setByte_touch (Mask.sub hm rfl) h)

theorem State.setLichen_touch (hm : m ||| 16392 = m) {x1 : Nat} {x2 : Nat} (h : Touch m a s) : Touch m a (State.setLichen s x1 x2) := by
  unfold State.setLichen
  repeat' with_reducible first | assumption | refine forward_touch (Mask.sub hm rfl) ?_ | refine State.store_touch (Mask.sub hm rfl) ?_ | refine Touch.ite ?_ ?_ | split | dsimp only

theorem State.setNvPair_touch (hm : m ||| 8388608 = m) {x1 : Nat} {x2 : Sys2Proof.Machine.NvPair} (h : Touch m a s) : Touch m a (State.setNvPair s x1 x2) := by
  unfold State.setNvPair
  repeat' with_reducible first | assumption | refine Touch.ite ?_ ?_ | split | dsimp only | refine Touch.set_sec (Mask.sub hm rfl) ?_

theorem State.setOp_touch (hm : m ||| 256 = m) {x1 : Nat} {x2 : Nat} {x3 : Option Sys2Proof.Machine.Op} (h : Touch m a s) : Touch m a (State.setOp s x1 x2 x3) := by
  unfold State.setOp
  repeat' with_reducible first | assumption | refine Touch.ite ?_ ?_ | split | dsimp only | refine Touch.set_ops (Mask.sub hm rfl) ?_

theorem State.setPend_touch (hm : m ||| 4 = m) {x1 : Nat} {x2 : Nat} (h : Touch m a s) : Touch m a (State.setPend s x1 x2) := by
  unfold State.setPend
  repeat' with_reducible first | assumption | refine State.put_touch (Mask.sub hm rfl) ?_ | refine Touch.ite ?_ ?_ | split | dsimp only

theorem State.setPolicy_touch (hm : m ||| 4096 = m) {x1 : Nat} {x2 : Sys2Proof.Machine.PolicySt} (h : Touch m a s) : Touch m a (State.setPolicy s x1 x2) := by
  unfold State.setPolicy
  repeat' with_reducible first | assumption | refine Touch.ite ?_ ?_ | split | dsimp only | refine Touch.set_pts (Mask.sub hm rfl) ?_

theorem State.setPort_touch (hm : m ||| 16384 = m) {x1 : Nat} {x2 : Sys2Proof.Machine.Port} (h : Touch m a s) : Touch m a (State.setPort s x1 x2) := by
  unfold State.setPort
  repeat' with_reducible first | assumption | refine Touch.ite ?_ ?_ | split | dsimp only | refine Touch.set_trk (Mask.sub hm rfl) ?_

theorem State.setPredicate_touch (hm : m ||| 4 = m) {x1 : Nat} {x2 : Nat} {x3 : Bool} (h : Touch m a s) : Touch m a (State.setPredicate s x1 x2 x3) := by
  unfold State.setPredicate
  repeat' with_reducible first | assumption | refine State.put_touch (Mask.sub hm rfl) ?_ | refine Touch.ite ?_ ?_ | split | dsimp only

theorem State.setProof_touch (hm : m ||| 16777216 = m) {x1 : Nat} {x2 : Sys2Proof.Machine.MotionProof} (h : Touch m a s) : Touch m a (State.setProof s x1 x2) := by
  unfold State.setProof
  repeat' with_reducible first | assumption | refine Touch.ite ?_ ?_ | split | dsimp only | refine Touch.set_motion (Mask.sub hm rfl) ?_ | refine Touch.set_guard (Mask.sub hm rfl) ?_

theorem State.setSec_touch (hm : m ||| 8388608 = m) {x1 : Sys2Proof.Machine.Sec} (h : Touch m a s) : Touch m a (State.setSec s x1) := by
  unfold State.setSec
  repeat' with_reducible first | assumption | refine Touch.ite ?_ ?_ | split | dsimp only | refine Touch.set_sec (Mask.sub hm rfl) ?_

theorem State.setSensor_touch (hm : m ||| 4194304 = m) {x1 : Nat} {x2 : Nat} {x3 : Sys2Proof.Machine.TempSensor} (h : Touch m a s) : Touch m a (State.setSensor s x1 x2 x3) := by
  unfold State.setSensor
  repeat' with_reducible first | assumption | refine Touch.ite ?_ ?_ | split | dsimp only | refine Touch.set_therm (Mask.sub hm rfl) ?_

theorem State.setSeq_touch (hm : m ||| 8192 = m) {x1 : Nat} {x2 : Sys2Proof.Machine.Seq} (h : Touch m a s) : Touch m a (State.setSeq s x1 x2) := by
  unfold State.setSeq
  repeat' with_reducible first | assumption | refine Touch.ite ?_ ?_ | split | dsimp only | refine Touch.set_seqs (Mask.sub hm rfl) ?_

theorem State.setSess_touch (hm : m ||| 8388608 = m) {x1 : Nat} {x2 : Sys2Proof.Machine.Session} (h : Touch m a s) : Touch m a (State.setSess s x1 x2) := by
  unfold State.setSess
  repeat' with_reducible first | assumption | refine State.setSec_touch (Mask.sub hm rfl) ?_ | refine Touch.ite ?_ ?_ | split | dsimp only

theorem State.setSport_touch (hm : m ||| 2097152 = m) {x1 : Nat} {x2 : Sys2Proof.Machine.SensorPort} (h : Touch m a s) : Touch m a (State.setSport s x1 x2) := by
  unfold State.setSport
  repeat' with_reducible first | assumption | refine Touch.ite ?_ ?_ | split | dsimp only | refine Touch.set_hk (Mask.sub hm rfl) ?_

theorem State.setTwin_touch (hm : m ||| 524288 = m) {x1 : Sys2Proof.Machine.Twin} (h : Touch m a s) : Touch m a (State.setTwin s x1) := by
  unfold State.setTwin
  repeat' with_reducible first | assumption | refine Touch.ite ?_ ?_ | split | dsimp only | refine Touch.set_twin (Mask.sub hm rfl) ?_

theorem State.storeList_touch (hm : m ||| 8 = m) {p : Nat} {l : List Nat} (h : Touch m a s) : Touch m a (s.storeList p l) := by
  induction l generalizing p s with
  | nil => exact h
  | cons v r ih => exact ih (State.setByte_touch (Mask.sub hm rfl) h)

theorem abandonMissed_touch (hm : m ||| 2052 = m) {x0 : Sys2Proof.Machine.Op} (h : Touch m a s) : Touch m a (abandonMissed x0 s) := by
  unfold abandonMissed
  repeat' with_reducible first | assumption | refine State.bump_touch (Mask.sub hm rfl) ?_ | refine State.modFrame_touch (Mask.sub hm rfl) ?_ | refine Touch.ite ?_ ?_ | split | dsimp only

theorem openFirst_touch (hm : m ||| 260 = m) {x0 : Nat} {x1 : Nat} {x2 : Nat} {x3 : Sys2Proof.Machine.Op} (h : Touch m a s) : Touch m a (openFirst x0 x1 x2 x3 s) := by
  unfold openFirst
  repeat' with_reducible first | assumption | refine State.setOp_touch (Mask.sub hm rfl) ?_ | refine State.bump_touch (Mask.sub hm rfl) ?_ | refine Touch.ite ?_ ?_ | split | dsimp only

theorem takeWaitingN_touch (hm : m ||| 260 = m) {ch n : Nat} (h : Touch m a s) : Touch m a (takeWaitingN ch n s) := by
  induction n generalizing s with
  | zero => exact h
  | succ n ih =>
    unfold takeWaitingN
    split
    · exact ih (openFirst_touch (Mask.sub hm rfl) h)
    · exact h

theorem takeWaiting_touch (hm : m ||| 260 = m) {x0 : Nat} (h : Touch m a s) : Touch m a (takeWaiting x0 s) := by
  unfold takeWaiting
  repeat' with_reducible first | assumption | refine takeWaitingN_touch (Mask.sub hm rfl) ?_ | refine Touch.ite ?_ ?_ | split | dsimp only

theorem levelAt_touch (hm : m ||| 4 = m) {x0 : Nat} {x1 : Nat} (h : Touch m a s) : Touch m a (levelAt x0 x1 s) := by
  unfold levelAt
  repeat' with_reducible first | assumption | refine State.setPend_touch (Mask.sub hm rfl) ?_ | refine Touch.ite ?_ ?_ | split | dsimp only

theorem levels_touch (hm : m ||| 4 = m) (h : Touch m a s) : Touch m a (levels s) := by
  unfold levels
  repeat' with_reducible first | assumption | refine levelAt_touch (Mask.sub hm rfl) ?_ | refine upTo_touch (fun _ _ _ => ?_) ?_ | refine Touch.ite ?_ ?_ | split | dsimp only

theorem cqAdd_touch (hm : m ||| 8196 = m) {x0 : Nat} {x1 : Nat × Nat × Nat × Nat} (h : Touch m a s) : Touch m a (cqAdd x0 x1 s) := by
  unfold cqAdd
  repeat' with_reducible first | assumption | refine levels_touch (Mask.sub hm rfl) ?_ | refine State.setSeq_touch (Mask.sub hm rfl) ?_ | refine Touch.ite ?_ ?_ | split | dsimp only

theorem cqProbe_touch (hm : m ||| 8196 = m) {x0 : Sys2Proof.Machine.ProbeInfo} {x1 : Nat → Nat × Nat × Nat × Nat} (h : Touch m a s) : Touch m a (cqProbe x0 x1 s) := by
  unfold cqProbe
  repeat' with_reducible first | assumption | refine cqAdd_touch (Mask.sub hm rfl) ?_ | refine State.setSeq_touch (Mask.sub hm rfl) ?_ | refine Touch.ite ?_ ?_ | split | dsimp only

theorem releaseOp_touch (hm : m ||| 768 = m) {x0 : Nat} {x1 : Nat} (h : Touch m a s) : Touch m a (releaseOp x0 x1 s) := by
  unfold releaseOp
  repeat' with_reducible first | assumption | refine State.setGroup_touch (Mask.sub hm rfl) ?_ | refine State.setOp_touch (Mask.sub hm rfl) ?_ | refine Touch.ite ?_ ?_ | split | dsimp only

theorem abandonOp_touch (hm : m ||| 12036 = m) {x0 : Nat} {x1 : Nat} (h : Touch m a s) : Touch m a (abandonOp x0 x1 s) := by
  unfold abandonOp
  repeat' with_reducible first | assumption | refine takeWaiting_touch (Mask.sub hm rfl) ?_ | refine State.bump_touch (Mask.sub hm rfl) ?_ | refine State.modFrame_touch (Mask.sub hm rfl) ?_ | refine cqProbe_touch (Mask.sub hm rfl) ?_ | refine State.setDie_touch (Mask.sub hm rfl) ?_ | refine releaseOp_touch (Mask.sub hm rfl) ?_ | refine Touch.ite ?_ ?_ | split | dsimp only

theorem abandonWhere_touch (hm : m ||| 12036 = m) {x0 : Nat → Sys2Proof.Machine.Op → Bool} (h : Touch m a s) : Touch m a (abandonWhere x0 s) := by
  unfold abandonWhere
  repeat' with_reducible first | assumption | refine abandonOp_touch (Mask.sub hm rfl) ?_ | refine forAll_touch (fun _ _ _ => ?_) ?_ | refine Touch.ite ?_ ?_ | split | dsimp only

theorem noticePulses_touch (hm : m ||| 16384 = m) {x0 : Sys2Proof.Machine.Op} {x1 : Nat} {x2 : List Nat} (h : Touch m a s) : Touch m a (noticePulses x0 x1 x2 s) := by
  unfold noticePulses
  repeat' with_reducible first | assumption | refine cwySend_touch (Mask.sub hm rfl) ?_ | refine Touch.ite ?_ ?_ | split | dsimp only

theorem queueSettled_touch (hm : m ||| 1280 = m) {x0 : Nat} {x1 : Nat} (h : Touch m a s) : Touch m a (queueSettled x0 x1 s) := by
  unfold queueSettled
  repeat' with_reducible first | assumption | refine State.setDie_touch (Mask.sub hm rfl) ?_ | refine State.setOp_touch (Mask.sub hm rfl) ?_ | refine Touch.ite ?_ ?_ | split | dsimp only

theorem accumulationEnd_touch (hm : m ||| 17668 = m) {x0 : Nat} {x1 : Nat} (h : Touch m a s) : Touch m a (accumulationEnd x0 x1 s) := by
  unfold accumulationEnd
  repeat' with_reducible first | assumption | refine takeWaiting_touch (Mask.sub hm rfl) ?_ | refine noticePulses_touch (Mask.sub hm rfl) ?_ | refine queueSettled_touch (Mask.sub hm rfl) ?_ | refine State.setOp_touch (Mask.sub hm rfl) ?_ | refine Touch.ite ?_ ?_ | split | dsimp only

theorem ackBlock_touch (hm : m ||| 16384 = m) {x0 : Nat} (h : Touch m a s) : Touch m a (ackBlock x0 s).1 := by
  unfold ackBlock
  repeat' with_reducible first | assumption | refine State.modLane_touch (Mask.sub hm rfl) ?_ | refine forAll_touch (fun _ _ _ => ?_) ?_ | refine Touch.ite ?_ ?_ | split | dsimp only

theorem requeue_touch (hm : m ||| 16384 = m) {x0 : Nat} (h : Touch m a s) : Touch m a (requeue x0 s) := by
  unfold requeue
  repeat' with_reducible first | assumption | refine State.setLane_touch (Mask.sub hm rfl) ?_ | refine State.setStream_touch (Mask.sub hm rfl) ?_ | refine forAll_touch (fun _ _ _ => ?_) ?_ | refine Touch.ite ?_ ?_ | split | dsimp only

theorem raiseAt_touch (hm : m ||| 4 = m) {x0 : Nat} {x1 : Nat} (h : Touch m a s) : Touch m a (raiseAt x0 x1 s) := by
  unfold raiseAt
  repeat' with_reducible first | assumption | refine State.bumpSat_touch (Mask.sub hm rfl) ?_ | refine State.setPend_touch (Mask.sub hm rfl) ?_ | refine Touch.ite ?_ ?_ | split | dsimp only

theorem raiseEv_touch (hm : m ||| 4 = m) {x0 : Nat} (h : Touch m a s) : Touch m a (raiseEv x0 s) := by
  unfold raiseEv
  repeat' with_reducible first | assumption | refine raiseAt_touch (Mask.sub hm rfl) ?_ | refine upTo_touch (fun _ _ _ => ?_) ?_ | refine Touch.ite ?_ ?_ | split | dsimp only

theorem enterErr_touch (hm : m ||| 33554436 = m) {x0 : Nat} {x1 : Nat} {x2 : Sys2Proof.Machine.Field} (h : Touch m a s) : Touch m a (enterErr x0 x1 x2 s) := by
  unfold enterErr
  repeat' with_reducible first | assumption | refine State.bumpSat_touch (Mask.sub hm rfl) ?_ | refine State.setFlag_touch (Mask.sub hm rfl) ?_ | refine raiseEv_touch (Mask.sub hm rfl) ?_ | refine Touch.ite ?_ ?_ | split | dsimp only | refine Touch.set_su (Mask.sub hm rfl) ?_

theorem portFollow_touch (hm : m ||| 8388612 = m) {x0 : Nat} (h : Touch m a s) : Touch m a (portFollow x0 s) := by
  unfold portFollow
  repeat' with_reducible first | assumption | refine State.putb_touch (Mask.sub hm rfl) ?_ | refine Touch.ite ?_ ?_ | split | dsimp only | refine Touch.set_sec (Mask.sub hm rfl) ?_

theorem laneFail_touch (hm : m ||| 41959428 = m) {x0 : Nat} (h : Touch m a s) : Touch m a (laneFail x0 s) := by
  unfold laneFail
  repeat' with_reducible first | assumption | refine requeue_touch (Mask.sub hm rfl) ?_ | refine State.setFlag_touch (Mask.sub hm rfl) ?_ | refine State.clrFlag_touch (Mask.sub hm rfl) ?_ | refine State.put_touch (Mask.sub hm rfl) ?_ | refine State.modLane_touch (Mask.sub hm rfl) ?_ | refine enterErr_touch (Mask.sub hm rfl) ?_ | refine portFollow_touch (Mask.sub hm rfl) ?_ | refine Touch.ite ?_ ?_ | split | dsimp only

theorem replayFrom_touch (hm : m ||| 16388 = m) {x0 : Nat} {x1 : Nat} (h : Touch m a s) : Touch m a (replayFrom x0 x1 s) := by
  unfold replayFrom
  repeat' with_reducible first | assumption | refine State.setLane_touch (Mask.sub hm rfl) ?_ | refine State.bumpSat_touch (Mask.sub hm rfl) ?_ | refine Touch.ite ?_ ?_ | split | dsimp only

theorem retire_touch (hm : m ||| 16384 = m) {x0 : Sys2Proof.Machine.Parcel} (h : Touch m a s) : Touch m a (retire x0 s) := by
  unfold retire
  repeat' with_reducible first | assumption | refine State.setStream_touch (Mask.sub hm rfl) ?_ | refine Touch.ite ?_ ?_ | split | dsimp only

theorem ackEntry_touch (hm : m ||| 41959428 = m) {x0 : Nat} {x1 : Sys2Proof.AckEntry} (h : Touch m a s) : Touch m a (ackEntry x0 x1 s) := by
  unfold ackEntry
  repeat' with_reducible first | assumption | refine State.modLane_touch (Mask.sub hm rfl) ?_ | refine laneFail_touch (Mask.sub hm rfl) ?_ | refine replayFrom_touch (Mask.sub hm rfl) ?_ | refine State.setLane_touch (Mask.sub hm rfl) ?_ | refine retire_touch (Mask.sub hm rfl) ?_ | refine forAll_touch (fun _ _ _ => ?_) ?_ | refine Touch.ite ?_ ?_ | split | dsimp only

theorem ackReceive_touch (hm : m ||| 41959428 = m) {x0 : Nat} {x1 : List Sys2Proof.AckEntry} (h : Touch m a s) : Touch m a (ackReceive x0 x1 s) := by
  unfold ackReceive
  repeat' with_reducible first | assumption | refine ackEntry_touch (Mask.sub hm rfl) ?_ | refine forAll_touch (fun _ _ _ => ?_) ?_ | refine Touch.ite ?_ ?_ | split | dsimp only

theorem ackSend_touch (hm : m ||| 16384 = m) {x0 : Nat} (h : Touch m a s) : Touch m a (ackSend x0 s) := by
  unfold ackSend
  repeat' with_reducible first | assumption | refine State.modLane_touch (Mask.sub hm rfl) ?_ | refine Touch.ite ?_ ?_ | split | dsimp only

theorem ackTimeout_touch (hm : m ||| 41959428 = m) {x0 : Nat} (h : Touch m a s) : Touch m a (ackTimeout x0 s) := by
  unfold ackTimeout
  repeat' with_reducible first | assumption | refine laneFail_touch (Mask.sub hm rfl) ?_ | refine replayFrom_touch (Mask.sub hm rfl) ?_ | refine State.setLane_touch (Mask.sub hm rfl) ?_ | refine Touch.ite ?_ ?_ | split | dsimp only

theorem ageOut_touch (hm : m ||| 12036 = m) {x0 : Nat} {x1 : Nat} (h : Touch m a s) : Touch m a (ageOut x0 x1 s) := by
  unfold ageOut
  repeat' with_reducible first | assumption | refine abandonOp_touch (Mask.sub hm rfl) ?_ | refine Touch.ite ?_ ?_ | split | dsimp only

theorem alignHead_touch (hm : m ||| 67584 = m) {x0 : Nat} {x1 : Int} (h : Touch m a s) : Touch m a (alignHead x0 x1 s) := by
  unfold alignHead
  repeat' with_reducible first | assumption | refine State.modHead_touch (Mask.sub hm rfl) ?_ | refine State.modFrame_touch (Mask.sub hm rfl) ?_ | refine Touch.ite ?_ ?_ | split | dsimp only

theorem pushRec_touch (hm : m ||| 16384 = m) {x0 : Nat} {x1 : Sys2Proof.Machine.ParcelKey} {x2 : Sys2Proof.Machine.Rec} (h : Touch m a s) : Touch m a (pushRec x0 x1 x2 s) := by
  unfold pushRec
  repeat' with_reducible first | assumption | refine State.setStream_touch (Mask.sub hm rfl) ?_ | refine Touch.ite ?_ ?_ | split | dsimp only

theorem replayCopy_touch (hm : m ||| 32772 = m) {x0 : Sys2Proof.Machine.Parcel} {x1 : Nat} (h : Touch m a s) : Touch m a (replayCopy x0 x1 s) := by
  unfold replayCopy
  repeat' with_reducible first | assumption | refine State.bumpSat_touch (Mask.sub hm rfl) ?_ | refine Touch.ite ?_ ?_ | split | dsimp only | refine Touch.set_dram (Mask.sub hm rfl) ?_

theorem selfRefreshExit_touch (hm : m ||| 4 = m) {x0 : Nat} (h : Touch m a s) : Touch m a (selfRefreshExit x0 s) := by
  unfold selfRefreshExit
  repeat' with_reducible first | assumption | refine State.clrFlag_touch (Mask.sub hm rfl) ?_ | refine Touch.ite ?_ ?_ | split | dsimp only

theorem bankRefresh_touch (hm : m ||| 32768 = m) {x0 : Nat} (h : Touch m a s) : Touch m a (bankRefresh x0 s) := by
  unfold bankRefresh
  repeat' with_reducible first | assumption | refine State.setDram_touch (Mask.sub hm rfl) ?_ | refine Touch.ite ?_ ?_ | split | dsimp only

theorem tollTrigger_touch (hm : m ||| 32772 = m) {x0 : Nat} {x1 : Nat} (h : Touch m a s) : Touch m a (tollTrigger x0 x1 s) := by
  unfold tollTrigger
  repeat' with_reducible first | assumption | refine bankRefresh_touch (Mask.sub hm rfl) ?_ | refine State.setDram_touch (Mask.sub hm rfl) ?_ | refine State.bumpSat_touch (Mask.sub hm rfl) ?_ | refine Touch.ite ?_ ?_ | split | dsimp only

theorem dramTouch_touch (hm : m ||| 32772 = m) {x0 : Nat} {x1 : Nat} (h : Touch m a s) : Touch m a (dramTouch x0 x1 s) := by
  unfold dramTouch
  repeat' with_reducible first | assumption | refine selfRefreshExit_touch (Mask.sub hm rfl) ?_ | refine State.setDram_touch (Mask.sub hm rfl) ?_ | refine tollTrigger_touch (Mask.sub hm rfl) ?_ | refine Touch.ite ?_ ?_ | split | dsimp only

theorem unmapped_touch (hm : m ||| 4 = m) {x0 : Nat} {x1 : Nat} (h : Touch m a s) : Touch m a (unmapped x0 x1 s) := by
  unfold unmapped
  repeat' with_reducible first | assumption | refine State.bumpSat_touch (Mask.sub hm rfl) ?_ | refine State.setFlag_touch (Mask.sub hm rfl) ?_ | refine State.put_touch (Mask.sub hm rfl) ?_ | refine Touch.ite ?_ ?_ | split | dsimp only

theorem dramUse_touch (hm : m ||| 32772 = m) {x0 : Nat} {x1 : Nat} (h : Touch m a s) : Touch m a (dramUse x0 x1 s) := by
  unfold dramUse
  repeat' with_reducible first | assumption | refine dramTouch_touch (Mask.sub hm rfl) ?_ | refine unmapped_touch (Mask.sub hm rfl) ?_ | refine Touch.ite ?_ ?_ | split | dsimp only

theorem dramRing_touch (hm : m ||| 32772 = m) {x0 : Nat} {x1 : Nat} {x2 : Nat} {x3 : Nat} {x4 : Nat} (h : Touch m a s) : Touch m a (dramRing x0 x1 x2 x3 x4 s) := by
  unfold dramRing
  repeat' with_reducible first | assumption | refine dramUse_touch (Mask.sub hm rfl) ?_ | refine forAll_touch (fun _ _ _ => ?_) ?_ | refine Touch.ite ?_ ?_ | split | dsimp only

theorem ringBytes_touch (hm : m ||| 8 = m) {base size n ofs v : Nat} (h : Touch m a s) : Touch m a (ringBytes base size n ofs v s) := by
  induction n generalizing ofs v s with
  | zero => exact h
  | succ n ih => exact ih (State.setByte_touch (Mask.sub hm rfl) h)

theorem ringStore_touch (hm : m ||| 32780 = m) {x0 : Nat} {x1 : Nat} {x2 : Nat} {x3 : Nat} {x4 : Nat} {x5 : Nat} (h : Touch m a s) : Touch m a (ringStore x0 x1 x2 x3 x4 x5 s) := by
  unfold ringStore
  repeat' with_reducible first | assumption | refine dramRing_touch (Mask.sub hm rfl) ?_ | refine ringBytes_touch (Mask.sub hm rfl) ?_ | refine Touch.ite ?_ ?_ | split | dsimp only

theorem closeCore_touch (hm : m ||| 51212 = m) {x0 : Nat} (h : Touch m a s) : Touch m a (closeCore x0 s).1 := by
  unfold closeCore
  repeat' with_reducible first | assumption | refine replayCopy_touch (Mask.sub hm rfl) ?_ | refine State.setStream_touch (Mask.sub hm rfl) ?_ | refine State.modFrame_touch (Mask.sub hm rfl) ?_ | refine ringStore_touch (Mask.sub hm rfl) ?_ | refine Touch.ite ?_ ?_ | split | dsimp only

theorem gapMarks_touch (hm : m ||| 4 = m) {x0 : Nat} {x1 : Sys2Proof.Machine.Loss} (h : Touch m a s) : Touch m a (gapMarks x0 x1 s) := by
  unfold gapMarks
  repeat' with_reducible first | assumption | refine raiseEv_touch (Mask.sub hm rfl) ?_ | refine State.addSat_touch (Mask.sub hm rfl) ?_ | refine State.setFlag_touch (Mask.sub hm rfl) ?_ | refine Touch.ite ?_ ?_ | split | dsimp only

theorem openGap_touch (hm : m ||| 16388 = m) {x0 : Sys2Proof.Machine.Loss} (h : Touch m a s) : Touch m a (openGap x0 s) := by
  unfold openGap
  repeat' with_reducible first | assumption | refine gapMarks_touch (Mask.sub hm rfl) ?_ | refine State.setStream_touch (Mask.sub hm rfl) ?_ | refine Touch.ite ?_ ?_ | split | dsimp only

theorem closeMs_touch (hm : m ||| 51212 = m) (h : Touch m a s) : Touch m a (closeMs s) := by
  unfold closeMs
  repeat' with_reducible first | assumption | refine closeCore_touch (Mask.sub hm rfl) ?_ | refine Touch.pair (by assumption) (closeCore_touch (Mask.sub hm rfl) ?_) | refine openGap_touch (Mask.sub hm rfl) ?_ | refine Touch.ite ?_ ?_ | split | dsimp only

theorem fitMs_touch (hm : m ||| 51212 = m) {x0 : Sys2Proof.Machine.Rec} (h : Touch m a s) : Touch m a (fitMs x0 s) := by
  unfold fitMs
  repeat' with_reducible first | assumption | refine closeMs_touch (Mask.sub hm rfl) ?_ | refine Touch.ite ?_ ?_ | split | dsimp only

theorem pushMs_touch (hm : m ||| 51212 = m) {x0 : Sys2Proof.Machine.Rec} (h : Touch m a s) : Touch m a (pushMs x0 s) := by
  unfold pushMs
  repeat' with_reducible first | assumption | refine pushRec_touch (Mask.sub hm rfl) ?_ | refine fitMs_touch (Mask.sub hm rfl) ?_ | refine Touch.ite ?_ ?_ | split | dsimp only | refine Touch.set_trk (Mask.sub hm rfl) ?_

theorem milestoneAt_touch (hm : m ||| 51212 = m) {x0 : Nat} {x1 : Nat} {x2 : Nat} {x3 : Nat} {x4 : List Nat} (h : Touch m a s) : Touch m a (milestoneAt x0 x1 x2 x3 x4 s) := by
  unfold milestoneAt
  repeat' with_reducible first | assumption | refine pushMs_touch (Mask.sub hm rfl) ?_ | refine Touch.ite ?_ ?_ | split | dsimp only

theorem milestone_touch (hm : m ||| 51212 = m) {x0 : Nat} {x1 : Nat} {x2 : Nat} {x3 : List Nat} (h : Touch m a s) : Touch m a (milestone x0 x1 x2 x3 s) := by
  unfold milestone
  repeat' with_reducible first | assumption | refine milestoneAt_touch (Mask.sub hm rfl) ?_ | refine Touch.ite ?_ ?_ | split | dsimp only

theorem milestone0_touch (hm : m ||| 51212 = m) {x0 : Nat} {x1 : List Nat} (h : Touch m a s) : Touch m a (milestone0 x0 x1 s) := by
  unfold milestone0
  repeat' with_reducible first | assumption | refine milestone_touch (Mask.sub hm rfl) ?_ | refine Touch.ite ?_ ?_ | split | dsimp only

theorem twinMs_touch (hm : m ||| 51212 = m) {x0 : Nat} {x1 : List Nat} (h : Touch m a s) : Touch m a (twinMs x0 x1 s) := by
  unfold twinMs
  repeat' with_reducible first | assumption | refine raiseEv_touch (Mask.sub hm rfl) ?_ | refine milestone0_touch (Mask.sub hm rfl) ?_ | refine Touch.ite ?_ ?_ | split | dsimp only

theorem dramSpan_touch (hm : m ||| 32772 = m) {x0 : Nat} {x1 : Nat} {x2 : Nat} (h : Touch m a s) : Touch m a (dramSpan x0 x1 x2 s) := by
  unfold dramSpan
  repeat' with_reducible first | assumption | refine dramRing_touch (Mask.sub hm rfl) ?_ | refine Touch.ite ?_ ?_ | split | dsimp only

theorem copyOpen_touch (hm : m ||| 557060 = m) {x0 : Nat} (h : Touch m a s) : Touch m a (copyOpen x0 s) := by
  unfold copyOpen
  repeat' with_reducible first | assumption | refine dramSpan_touch (Mask.sub hm rfl) ?_ | refine Touch.ite ?_ ?_ | split | dsimp only | refine Touch.set_twin (Mask.sub hm rfl) ?_

theorem alignStart_touch (hm : m ||| 575500 = m) (h : Touch m a s) : Touch m a (alignStart s) := by
  unfold alignStart
  repeat' with_reducible first | assumption | refine twinMs_touch (Mask.sub hm rfl) ?_ | refine copyOpen_touch (Mask.sub hm rfl) ?_ | refine State.setTwin_touch (Mask.sub hm rfl) ?_ | refine Touch.ite ?_ ?_ | split | dsimp only

theorem anchorEffect_touch (hm : m ||| 51340 = m) (h : Touch m a s) : Touch m a (anchorEffect s) := by
  unfold anchorEffect
  repeat' with_reducible first | assumption | refine raiseEv_touch (Mask.sub hm rfl) ?_ | refine milestoneAt_touch (Mask.sub hm rfl) ?_ | refine Touch.ite ?_ ?_ | split | dsimp only | refine Touch.set_tb (Mask.sub hm rfl) ?_

theorem anchorEnter_touch (hm : m ||| 132 = m) {x0 : Nat} {x1 : Nat} (h : Touch m a s) : Touch m a (anchorEnter x0 x1 s).1 := by
  unfold anchorEnter
  repeat' with_reducible first | assumption | refine State.bumpSat_touch (Mask.sub hm rfl) ?_ | refine State.setFlag_touch (Mask.sub hm rfl) ?_ | refine Touch.ite ?_ ?_ | split | dsimp only | refine Touch.set_tb (Mask.sub hm rfl) ?_

theorem anchorGo_touch (hm : m ||| 132 = m) (h : Touch m a s) : Touch m a (anchorGo s) := by
  unfold anchorGo
  repeat' with_reducible first | assumption | refine anchorEnter_touch (Mask.sub hm rfl) ?_ | refine Touch.pair (by assumption) (anchorEnter_touch (Mask.sub hm rfl) ?_) | refine Touch.ite ?_ ?_ | split | dsimp only

theorem anchorRepeat_touch (hm : m ||| 51340 = m) {x0 : Nat} {x1 : Nat} {x2 : Nat} (h : Touch m a s) : Touch m a (anchorRepeat x0 x1 x2 s) := by
  unfold anchorRepeat
  repeat' with_reducible first | assumption | refine milestoneAt_touch (Mask.sub hm rfl) ?_ | refine Touch.ite ?_ ?_ | split | dsimp only | refine Touch.set_tb (Mask.sub hm rfl) ?_

theorem profileMove_touch (hm : m ||| 262144 = m) {x0 : Nat} {x1 : Nat} (h : Touch m a s) : Touch m a (profileMove x0 x1 s).1 := by
  unfold profileMove
  repeat' with_reducible first | assumption | refine State.modLoop_touch (Mask.sub hm rfl) ?_ | refine Touch.ite ?_ ?_ | split | dsimp only

theorem setpointWrite_touch (hm : m ||| 262148 = m) {x0 : Nat} {x1 : Nat} (h : Touch m a s) : Touch m a (setpointWrite x0 x1 s) := by
  unfold setpointWrite
  repeat' with_reducible first | assumption | refine State.modLoop_touch (Mask.sub hm rfl) ?_ | refine State.put_touch (Mask.sub hm rfl) ?_ | refine State.setFlag_touch (Mask.sub hm rfl) ?_ | refine Touch.ite ?_ ?_ | split | dsimp only

theorem countTo_touch (hm : m ||| 2308 = m) {x0 : Nat} {x1 : Nat} (h : Touch m a s) : Touch m a (countTo x0 x1 s) := by
  unfold countTo
  repeat' with_reducible first | assumption | refine State.put_touch (Mask.sub hm rfl) ?_ | refine State.setFrame_touch (Mask.sub hm rfl) ?_ | refine State.setOp_touch (Mask.sub hm rfl) ?_ | refine forAll_touch (fun _ _ _ => ?_) ?_ | refine Touch.ite ?_ ?_ | split | dsimp only

theorem mirrorAnchor_touch (hm : m ||| 132 = m) (h : Touch m a s) : Touch m a (mirrorAnchor s) := by
  unfold mirrorAnchor
  repeat' with_reducible first | assumption | refine anchorEnter_touch (Mask.sub hm rfl) ?_ | refine Touch.pair (by assumption) (anchorEnter_touch (Mask.sub hm rfl) ?_) | refine Touch.ite ?_ ?_ | split | dsimp only

theorem paceMinRestart_touch (hm : m ||| 4 = m) (h : Touch m a s) : Touch m a (paceMinRestart s) := by
  unfold paceMinRestart
  repeat' with_reducible first | assumption | refine State.put_touch (Mask.sub hm rfl) ?_ | refine upTo_touch (fun _ _ _ => ?_) ?_ | refine Touch.ite ?_ ?_ | split | dsimp only

theorem modOps_touch (hm : m ||| 256 = m) {x0 : Nat} {x1 : Sys2Proof.Machine.Op → Sys2Proof.Machine.Op} (h : Touch m a s) : Touch m a (modOps x0 x1 s) := by
  unfold modOps
  repeat' with_reducible first | assumption | refine State.setOp_touch (Mask.sub hm rfl) ?_ | refine forAll_touch (fun _ _ _ => ?_) ?_ | refine Touch.ite ?_ ?_ | split | dsimp only

theorem tornChan_touch (hm : m ||| 256 = m) {x0 : Nat} (h : Touch m a s) : Touch m a (tornChan x0 s) := by
  unfold tornChan
  repeat' with_reducible first | assumption | refine modOps_touch (Mask.sub hm rfl) ?_ | refine Touch.ite ?_ ?_ | split | dsimp only

theorem ofsHook_touch (hm : m ||| 4194560 = m) {x0 : Nat} {x1 : Nat} {x2 : Nat} (h : Touch m a s) : Touch m a (ofsHook x0 x1 x2 s) := by
  unfold ofsHook
  repeat' with_reducible first | assumption | refine tornChan_touch (Mask.sub hm rfl) ?_ | refine when__touch (fun _ _ => ?_) ?_ | refine Touch.ite ?_ ?_ | split | dsimp only | refine Touch.set_therm (Mask.sub hm rfl) ?_

theorem syncQualChanged_touch (hm : m ||| 65540 = m) {x0 : Nat} (h : Touch m a s) : Touch m a (syncQualChanged x0 s) := by
  unfold syncQualChanged
  repeat' with_reducible first | assumption | refine State.modHead_touch (Mask.sub hm rfl) ?_ | refine State.put_touch (Mask.sub hm rfl) ?_ | refine upTo_touch (fun _ _ _ => ?_) ?_ | refine Touch.ite ?_ ?_ | split | dsimp only

theorem syncOff_touch (hm : m ||| 65668 = m) (h : Touch m a s) : Touch m a (syncOff s) := by
  unfold syncOff
  repeat' with_reducible first | assumption | refine State.put_touch (Mask.sub hm rfl) ?_ | refine syncQualChanged_touch (Mask.sub hm rfl) ?_ | refine Touch.ite ?_ ?_ | split | dsimp only | refine Touch.set_tb (Mask.sub hm rfl) ?_

theorem iuIdle_touch (hm : m ||| 4 = m) (h : Touch m a s) : Touch m a (iuIdle s) := by
  unfold iuIdle
  repeat' with_reducible first | assumption | refine State.clrFlag_touch (Mask.sub hm rfl) ?_ | refine State.put_touch (Mask.sub hm rfl) ?_ | refine Touch.ite ?_ ?_ | split | dsimp only

theorem iuExpire_touch (hm : m ||| 4 = m) (h : Touch m a s) : Touch m a (iuExpire s) := by
  unfold iuExpire
  repeat' with_reducible first | assumption | refine State.setFlag_touch (Mask.sub hm rfl) ?_ | refine State.clrFlag_touch (Mask.sub hm rfl) ?_ | refine raiseEv_touch (Mask.sub hm rfl) ?_ | refine iuIdle_touch (Mask.sub hm rfl) ?_ | refine State.put_touch (Mask.sub hm rfl) ?_ | refine Touch.ite ?_ ?_ | split | dsimp only

theorem iuPast_touch (hm : m ||| 4 = m) (h : Touch m a s) : Touch m a (iuPast s) := by
  unfold iuPast
  repeat' with_reducible first | assumption | refine iuExpire_touch (Mask.sub hm rfl) ?_ | refine Touch.ite ?_ ?_ | split | dsimp only

theorem iuStop_touch (hm : m ||| 4 = m) (h : Touch m a s) : Touch m a (iuStop s) := by
  unfold iuStop
  repeat' with_reducible first | assumption | refine State.setFlag_touch (Mask.sub hm rfl) ?_ | refine State.put_touch (Mask.sub hm rfl) ?_ | refine raiseEv_touch (Mask.sub hm rfl) ?_ | refine Touch.ite ?_ ?_ | split | dsimp only

theorem iuSwstop_touch (hm : m ||| 4 = m) (h : Touch m a s) : Touch m a (iuSwstop s) := by
  unfold iuSwstop
  repeat' with_reducible first | assumption | refine iuPast_touch (Mask.sub hm rfl) ?_ | refine iuStop_touch (Mask.sub hm rfl) ?_ | refine Touch.ite ?_ ?_ | split | dsimp only

theorem iuArm_touch (hm : m ||| 132 = m) (h : Touch m a s) : Touch m a (iuArm s) := by
  unfold iuArm
  repeat' with_reducible first | assumption | refine iuPast_touch (Mask.sub hm rfl) ?_ | refine State.setFlag_touch (Mask.sub hm rfl) ?_ | refine State.clrFlag_touch (Mask.sub hm rfl) ?_ | refine State.put_touch (Mask.sub hm rfl) ?_ | refine Touch.ite ?_ ?_ | split | dsimp only | refine Touch.set_tb (Mask.sub hm rfl) ?_

theorem gateOpen_touch (hm : m ||| 132 = m) {x0 : Option Nat} (h : Touch m a s) : Touch m a (gateOpen x0 s) := by
  unfold gateOpen
  repeat' with_reducible first | assumption | refine State.setFlag_touch (Mask.sub hm rfl) ?_ | refine Touch.ite ?_ ?_ | split | dsimp only | refine Touch.set_tb (Mask.sub hm rfl) ?_

theorem fuStart_touch (hm : m ||| 132 = m) (h : Touch m a s) : Touch m a (fuStart s) := by
  unfold fuStart
  repeat' with_reducible first | assumption | refine gateOpen_touch (Mask.sub hm rfl) ?_ | refine Touch.ite ?_ ?_ | split | dsimp only

theorem headFields_touch (hm : m ||| 65536 = m) {x0 : Nat} {x1 : Nat} {x2 : Nat} (h : Touch m a s) : Touch m a (headFields x0 x1 x2 s) := by
  unfold headFields
  repeat' with_reducible first | assumption | refine State.modHead_touch (Mask.sub hm rfl) ?_ | refine when__touch (fun _ _ => ?_) ?_ | refine Touch.ite ?_ ?_ | split | dsimp only

theorem latchDrive_touch (hm : m ||| 4 = m) {x0 : Nat} (h : Touch m a s) : Touch m a (latchDrive x0 s) := by
  unfold latchDrive
  repeat' with_reducible first | assumption | refine State.put_touch (Mask.sub hm rfl) ?_ | refine upTo_touch (fun _ _ _ => ?_) ?_ | refine Touch.ite ?_ ?_ | split | dsimp only

theorem latchRegions_touch (hm : m ||| 4100 = m) {x0 : Nat} (h : Touch m a s) : Touch m a (latchRegions x0 s) := by
  unfold latchRegions
  repeat' with_reducible first | assumption | refine raiseEv_touch (Mask.sub hm rfl) ?_ | refine State.bumpSat_touch (Mask.sub hm rfl) ?_ | refine State.put_touch (Mask.sub hm rfl) ?_ | refine upTo_touch (fun _ _ _ => ?_) ?_ | refine Touch.ite ?_ ?_ | split | dsimp only | refine Touch.set_pts (Mask.sub hm rfl) ?_

theorem takeCommits_touch (hm : m ||| 65540 = m) {x0 : Nat} (h : Touch m a s) : Touch m a (takeCommits x0 s) := by
  unfold takeCommits
  repeat' with_reducible first | assumption | refine State.clrFlag_touch (Mask.sub hm rfl) ?_ | refine State.modHead_touch (Mask.sub hm rfl) ?_ | refine upTo_touch (fun _ _ _ => ?_) ?_ | refine Touch.ite ?_ ?_ | split | dsimp only

theorem latchOne_touch (hm : m ||| 69636 = m) {x0 : Nat} (h : Touch m a s) : Touch m a (latchOne x0 s) := by
  unfold latchOne
  repeat' with_reducible first | assumption | refine latchDrive_touch (Mask.sub hm rfl) ?_ | refine latchRegions_touch (Mask.sub hm rfl) ?_ | refine takeCommits_touch (Mask.sub hm rfl) ?_ | refine Touch.ite ?_ ?_ | split | dsimp only

theorem latchSync_touch (hm : m ||| 65540 = m) {x0 : Nat} (h : Touch m a s) : Touch m a (latchSync x0 s) := by
  unfold latchSync
  repeat' with_reducible first | assumption | refine State.put_touch (Mask.sub hm rfl) ?_ | refine State.modHead_touch (Mask.sub hm rfl) ?_ | refine Touch.ite ?_ ?_ | split | dsimp only

theorem latchPoint_touch (hm : m ||| 69636 = m) {x0 : Nat} (h : Touch m a s) : Touch m a (latchPoint x0 s) := by
  unfold latchPoint
  repeat' with_reducible first | assumption | refine latchOne_touch (Mask.sub hm rfl) ?_ | refine raiseEv_touch (Mask.sub hm rfl) ?_ | refine latchSync_touch (Mask.sub hm rfl) ?_ | refine Touch.ite ?_ ?_ | split | dsimp only

theorem startOne_touch (hm : m ||| 65540 = m) {x0 : Nat} {x1 : Nat} {x2 : Nat} (h : Touch m a s) : Touch m a (startOne x0 x1 x2 s) := by
  unfold startOne
  repeat' with_reducible first | assumption | refine State.setFlag_touch (Mask.sub hm rfl) ?_ | refine State.put_touch (Mask.sub hm rfl) ?_ | refine State.modHead_touch (Mask.sub hm rfl) ?_ | refine Touch.ite ?_ ?_ | split | dsimp only

theorem scanStart_touch (hm : m ||| 69636 = m) {x0 : Nat} (h : Touch m a s) : Touch m a (scanStart x0 s) := by
  unfold scanStart
  repeat' with_reducible first | assumption | refine latchPoint_touch (Mask.sub hm rfl) ?_ | refine State.modHead_touch (Mask.sub hm rfl) ?_ | refine startOne_touch (Mask.sub hm rfl) ?_ | refine latchSync_touch (Mask.sub hm rfl) ?_ | refine State.setFlag_touch (Mask.sub hm rfl) ?_ | refine Touch.ite ?_ ?_ | split | dsimp only

theorem milestoneH_touch (hm : m ||| 51212 = m) {x0 : Nat} {x1 : Nat} {x2 : List Nat} (h : Touch m a s) : Touch m a (milestoneH x0 x1 x2 s) := by
  unfold milestoneH
  repeat' with_reducible first | assumption | refine milestone_touch (Mask.sub hm rfl) ?_ | refine Touch.ite ?_ ?_ | split | dsimp only

theorem calLineEnd_touch (hm : m ||| 116748 = m) {x0 : Nat} (h : Touch m a s) : Touch m a (calLineEnd x0 s) := by
  unfold calLineEnd
  repeat' with_reducible first | assumption | refine milestoneH_touch (Mask.sub hm rfl) ?_ | refine State.modHead_touch (Mask.sub hm rfl) ?_ | refine Touch.ite ?_ ?_ | split | dsimp only

theorem stopVisits_touch (hm : m ||| 117004 = m) {x0 : Nat} (h : Touch m a s) : Touch m a (stopVisits x0 s) := by
  unfold stopVisits
  repeat' with_reducible first | assumption | refine calLineEnd_touch (Mask.sub hm rfl) ?_ | refine State.setHead_touch (Mask.sub hm rfl) ?_ | refine State.modFrame_touch (Mask.sub hm rfl) ?_ | refine State.setOp_touch (Mask.sub hm rfl) ?_ | refine forAll_touch (fun _ _ _ => ?_) ?_ | refine Touch.ite ?_ ?_ | split | dsimp only

theorem headStopped_touch (hm : m ||| 65540 = m) {x0 : Nat} (h : Touch m a s) : Touch m a (headStopped x0 s) := by
  unfold headStopped
  repeat' with_reducible first | assumption | refine State.put_touch (Mask.sub hm rfl) ?_ | refine State.clrFlag_touch (Mask.sub hm rfl) ?_ | refine State.modHead_touch (Mask.sub hm rfl) ?_ | refine Touch.ite ?_ ?_ | split | dsimp only

theorem stopHead_touch (hm : m ||| 117004 = m) {x0 : Nat} (h : Touch m a s) : Touch m a (stopHead x0 s) := by
  unfold stopHead
  repeat' with_reducible first | assumption | refine stopVisits_touch (Mask.sub hm rfl) ?_ | refine headStopped_touch (Mask.sub hm rfl) ?_ | refine Touch.ite ?_ ?_ | split | dsimp only

theorem headHook_touch (hm : m ||| 121100 = m) {x0 : Nat} {x1 : Nat} {x2 : Nat} (h : Touch m a s) : Touch m a (headHook x0 x1 x2 s) := by
  unfold headHook
  repeat' with_reducible first | assumption | refine headFields_touch (Mask.sub hm rfl) ?_ | refine scanStart_touch (Mask.sub hm rfl) ?_ | refine stopHead_touch (Mask.sub hm rfl) ?_ | refine Touch.ite ?_ ?_ | split | dsimp only

theorem forwardBytes_touch (hm : m ||| 16384 = m) {fuel b n : Nat} (h : Touch m a s) : Touch m a (forwardBytes fuel b n s) := by
  induction fuel generalizing b n s with
  | zero => exact h
  | succ k ih => exact Touch.ite h (ih (forward_touch (Mask.sub hm rfl) h))

theorem forwardFrond_touch (hm : m ||| 49156 = m) {x0 : Nat} {x1 : Nat} {x2 : Nat} (h : Touch m a s) : Touch m a (forwardFrond x0 x1 x2 s) := by
  unfold forwardFrond
  repeat' with_reducible first | assumption | refine forwardBytes_touch (Mask.sub hm rfl) ?_ | refine dramSpan_touch (Mask.sub hm rfl) ?_ | refine Touch.ite ?_ ?_ | split | dsimp only

theorem commitFrond_touch (hm : m ||| 114692 = m) {x0 : Nat} {x1 : Nat} (h : Touch m a s) : Touch m a (commitFrond x0 x1 s) := by
  unfold commitFrond
  repeat' with_reducible first | assumption | refine State.setHead_touch (Mask.sub hm rfl) ?_ | refine forwardFrond_touch (Mask.sub hm rfl) ?_ | refine State.setFlag_touch (Mask.sub hm rfl) ?_ | refine Touch.ite ?_ ?_ | split | dsimp only

theorem sqUnload_touch (hm : m ||| 8196 = m) {x0 : Nat} (h : Touch m a s) : Touch m a (sqUnload x0 s) := by
  unfold sqUnload
  repeat' with_reducible first | assumption | refine State.setSeq_touch (Mask.sub hm rfl) ?_ | refine State.put_touch (Mask.sub hm rfl) ?_ | refine Touch.ite ?_ ?_ | split | dsimp only

theorem disown_touch (hm : m ||| 8448 = m) {x0 : Nat} (h : Touch m a s) : Touch m a (disown x0 s) := by
  unfold disown
  repeat' with_reducible first | assumption | refine State.setSeq_touch (Mask.sub hm rfl) ?_ | refine State.setOp_touch (Mask.sub hm rfl) ?_ | refine forAll_touch (fun _ _ _ => ?_) ?_ | refine Touch.ite ?_ ?_ | split | dsimp only

theorem forwardReg_touch (hm : m ||| 16384 = m) {x0 : Nat} (h : Touch m a s) : Touch m a (forwardReg x0 s) := by
  unfold forwardReg
  repeat' with_reducible first | assumption | refine forward_touch (Mask.sub hm rfl) ?_ | refine Touch.ite ?_ ?_ | split | dsimp only

theorem policyStart_touch (hm : m ||| 20484 = m) {x0 : Nat} (h : Touch m a s) : Touch m a (policyStart x0 s) := by
  unfold policyStart
  repeat' with_reducible first | assumption | refine State.setPolicy_touch (Mask.sub hm rfl) ?_ | refine forwardReg_touch (Mask.sub hm rfl) ?_ | refine State.put_touch (Mask.sub hm rfl) ?_ | refine Touch.ite ?_ ?_ | split | dsimp only

theorem sqStart_touch (hm : m ||| 28932 = m) {x0 : Nat} (h : Touch m a s) : Touch m a (sqStart x0 s) := by
  unfold sqStart
  repeat' with_reducible first | assumption | refine disown_touch (Mask.sub hm rfl) ?_ | refine State.setSeq_touch (Mask.sub hm rfl) ?_ | refine State.put_touch (Mask.sub hm rfl) ?_ | refine State.setPend_touch (Mask.sub hm rfl) ?_ | refine policyStart_touch (Mask.sub hm rfl) ?_ | refine levels_touch (Mask.sub hm rfl) ?_ | refine Touch.ite ?_ ?_ | split | dsimp only

theorem sqStop_touch (hm : m ||| 8196 = m) {x0 : Nat} (h : Touch m a s) : Touch m a (sqStop x0 s) := by
  unfold sqStop
  repeat' with_reducible first | assumption | refine State.put_touch (Mask.sub hm rfl) ?_ | refine State.setSeq_touch (Mask.sub hm rfl) ?_ | refine Touch.ite ?_ ?_ | split | dsimp only

theorem sqHook_touch (hm : m ||| 28932 = m) {x0 : Nat} {x1 : Nat} (h : Touch m a s) : Touch m a (sqHook x0 x1 s) := by
  unfold sqHook
  repeat' with_reducible first | assumption | refine sqUnload_touch (Mask.sub hm rfl) ?_ | refine sqStart_touch (Mask.sub hm rfl) ?_ | refine sqStop_touch (Mask.sub hm rfl) ?_ | refine when__touch (fun _ _ => ?_) ?_ | refine Touch.ite ?_ ?_ | split | dsimp only

theorem evSoft_touch (hm : m ||| 4 = m) {x0 : Nat} (h : Touch m a s) : Touch m a (evSoft x0 s) := by
  unfold evSoft
  repeat' with_reducible first | assumption | refine raiseEv_touch (Mask.sub hm rfl) ?_ | refine upTo_touch (fun _ _ _ => ?_) ?_ | refine Touch.ite ?_ ?_ | split | dsimp only

theorem modBanks_touch (hm : m ||| 131072 = m) {x0 : Nat} {x1 : Nat → Sys2Proof.Machine.Bank → Sys2Proof.Machine.Bank} (h : Touch m a s) : Touch m a (modBanks x0 x1 s) := by
  unfold modBanks
  repeat' with_reducible first | assumption | refine State.modBank_touch (Mask.sub hm rfl) ?_ | refine upTo_touch (fun _ _ _ => ?_) ?_ | refine Touch.ite ?_ ?_ | split | dsimp only

theorem pairsAll_touch (hm : m ||| 131072 = m) {x0 : Nat} {x1 : Sys2Proof.Machine.PairLine} (h : Touch m a s) : Touch m a (pairsAll x0 x1 s) := by
  unfold pairsAll
  repeat' with_reducible first | assumption | refine modBanks_touch (Mask.sub hm rfl) ?_ | refine Touch.ite ?_ ?_ | split | dsimp only

theorem startExchange_touch (hm : m ||| 131076 = m) {x0 : Nat} {x1 : Nat} {x2 : Sys2Proof.Machine.XKind} (h : Touch m a s) : Touch m a (startExchange x0 x1 x2 s) := by
  unfold startExchange
  repeat' with_reducible first | assumption | refine State.setDrv_touch (Mask.sub hm rfl) ?_ | refine modBanks_touch (Mask.sub hm rfl) ?_ | refine State.bump_touch (Mask.sub hm rfl) ?_ | refine Touch.ite ?_ ?_ | split | dsimp only

theorem bringUp_touch (hm : m ||| 131076 = m) {x0 : Nat} (h : Touch m a s) : Touch m a (bringUp x0 s) := by
  unfold bringUp
  repeat' with_reducible first | assumption | refine State.clrFlag_touch (Mask.sub hm rfl) ?_ | refine pairsAll_touch (Mask.sub hm rfl) ?_ | refine State.setDrv_touch (Mask.sub hm rfl) ?_ | refine startExchange_touch (Mask.sub hm rfl) ?_ | refine Touch.ite ?_ ?_ | split | dsimp only

theorem driveOn_touch (hm : m ||| 131076 = m) {x0 : Nat} (h : Touch m a s) : Touch m a (driveOn x0 s) := by
  unfold driveOn
  repeat' with_reducible first | assumption | refine modBanks_touch (Mask.sub hm rfl) ?_ | refine State.clrFlag_touch (Mask.sub hm rfl) ?_ | refine State.put_touch (Mask.sub hm rfl) ?_ | refine bringUp_touch (Mask.sub hm rfl) ?_ | refine upTo_touch (fun _ _ _ => ?_) ?_ | refine Touch.ite ?_ ?_ | split | dsimp only

theorem iuFree_touch (hm : m ||| 4 = m) {x0 : Nat} (h : Touch m a s) : Touch m a (iuFree x0 s) := by
  unfold iuFree
  repeat' with_reducible first | assumption | refine State.clrFlag_touch (Mask.sub hm rfl) ?_ | refine State.put_touch (Mask.sub hm rfl) ?_ | refine Touch.ite ?_ ?_ | split | dsimp only

theorem driveOff_touch (hm : m ||| 131076 = m) {x0 : Nat} (h : Touch m a s) : Touch m a (driveOff x0 s) := by
  unfold driveOff
  repeat' with_reducible first | assumption | refine State.clrFlag_touch (Mask.sub hm rfl) ?_ | refine iuFree_touch (Mask.sub hm rfl) ?_ | refine State.setDrv_touch (Mask.sub hm rfl) ?_ | refine State.put_touch (Mask.sub hm rfl) ?_ | refine pairsAll_touch (Mask.sub hm rfl) ?_ | refine Touch.ite ?_ ?_ | split | dsimp only

theorem softStop_touch (hm : m ||| 131072 = m) {x0 : Nat} (h : Touch m a s) : Touch m a (softStop x0 s) := by
  unfold softStop
  repeat' with_reducible first | assumption | refine State.setDrv_touch (Mask.sub hm rfl) ?_ | refine Touch.ite ?_ ?_ | split | dsimp only

theorem drvHook_touch (hm : m ||| 131076 = m) {x0 : Nat} {x1 : Nat} {x2 : Nat} {x3 : Nat} (h : Touch m a s) : Touch m a (drvHook x0 x1 x2 x3 s) := by
  unfold drvHook
  repeat' with_reducible first | assumption | refine driveOn_touch (Mask.sub hm rfl) ?_ | refine driveOff_touch (Mask.sub hm rfl) ?_ | refine softStop_touch (Mask.sub hm rfl) ?_ | refine when__touch (fun _ _ => ?_) ?_ | refine Touch.ite ?_ ?_ | split | dsimp only

theorem markDiffer_touch (hm : m ||| 16777216 = m) (h : Touch m a s) : Touch m a (markDiffer s) := by
  unfold markDiffer
  repeat' with_reducible first | assumption | refine Touch.ite ?_ ?_ | split | dsimp only | refine Touch.set_guard (Mask.sub hm rfl) ?_

theorem emenH_touch (hm : m ||| 16777220 = m) {x0 : Bool} (h : Touch m a s) : Touch m a (emenH x0 s) := by
  unfold emenH
  repeat' with_reducible first | assumption | refine State.putb_touch (Mask.sub hm rfl) ?_ | refine Touch.ite ?_ ?_ | split | dsimp only | refine Touch.set_guard (Mask.sub hm rfl) ?_

theorem emenP_touch (hm : m ||| 16777220 = m) {x0 : Bool} (h : Touch m a s) : Touch m a (emenP x0 s) := by
  unfold emenP
  repeat' with_reducible first | assumption | refine State.putb_touch (Mask.sub hm rfl) ?_ | refine Touch.ite ?_ ?_ | split | dsimp only | refine Touch.set_guard (Mask.sub hm rfl) ?_

theorem guardMs_touch (hm : m ||| 51212 = m) {x0 : Nat} {x1 : Nat} {x2 : Nat} (h : Touch m a s) : Touch m a (guardMs x0 x1 x2 s) := by
  unfold guardMs
  repeat' with_reducible first | assumption | refine milestoneH_touch (Mask.sub hm rfl) ?_ | refine Touch.ite ?_ ?_ | split | dsimp only

theorem guardTo_touch (hm : m ||| 16828428 = m) {x0 : Nat} {x1 : Nat} {x2 : Nat} (h : Touch m a s) : Touch m a (guardTo x0 x1 x2 s) := by
  unfold guardTo
  repeat' with_reducible first | assumption | refine markDiffer_touch (Mask.sub hm rfl) ?_ | refine emenH_touch (Mask.sub hm rfl) ?_ | refine emenP_touch (Mask.sub hm rfl) ?_ | refine State.put_touch (Mask.sub hm rfl) ?_ | refine raiseEv_touch (Mask.sub hm rfl) ?_ | refine guardMs_touch (Mask.sub hm rfl) ?_ | refine Touch.ite ?_ ?_ | split | dsimp only

theorem guardRestart_touch (hm : m ||| 16959500 = m) (h : Touch m a s) : Touch m a (guardRestart s) := by
  unfold guardRestart
  repeat' with_reducible first | assumption | refine guardTo_touch (Mask.sub hm rfl) ?_ | refine State.setDrv_touch (Mask.sub hm rfl) ?_ | refine State.setFlag_touch (Mask.sub hm rfl) ?_ | refine upTo_touch (fun _ _ _ => ?_) ?_ | refine Touch.ite ?_ ?_ | split | dsimp only | refine Touch.set_guard (Mask.sub hm rfl) ?_

theorem guardRetest_touch (hm : m ||| 16777236 = m) (h : Touch m a s) : Touch m a (guardRetest s) := by
  unfold guardRetest
  repeat' with_reducible first | assumption | refine State.draw_touch (Mask.sub hm rfl) ?_ | refine Touch.pair2 (by assumption) (State.draw_touch (Mask.sub hm rfl) ?_) | refine State.putb_touch (Mask.sub hm rfl) ?_ | refine Touch.ite ?_ ?_ | split | dsimp only | refine Touch.set_guard (Mask.sub hm rfl) ?_

theorem guardReset_touch (hm : m ||| 16828444 = m) (h : Touch m a s) : Touch m a (guardReset s) := by
  unfold guardReset
  repeat' with_reducible first | assumption | refine guardRetest_touch (Mask.sub hm rfl) ?_ | refine State.put_touch (Mask.sub hm rfl) ?_ | refine State.setReg_touch (Mask.sub hm rfl) ?_ | refine guardTo_touch (Mask.sub hm rfl) ?_ | refine State.setFlag_touch (Mask.sub hm rfl) ?_ | refine Touch.ite ?_ ?_ | split | dsimp only | refine Touch.set_guard (Mask.sub hm rfl) ?_

theorem facetZero_touch (hm : m ||| 262144 = m) {x0 : Nat} (h : Touch m a s) : Touch m a (facetZero x0 s) := by
  unfold facetZero
  repeat' with_reducible first | assumption | refine State.modLoop_touch (Mask.sub hm rfl) ?_ | refine Touch.ite ?_ ?_ | split | dsimp only

theorem rcClear_touch (hm : m ||| 8 = m) {x0 : Nat} (h : Touch m a s) : Touch m a (rcClear x0 s) := by
  unfold rcClear
  repeat' with_reducible first | assumption | refine Touch.ite ?_ ?_ | split | dsimp only | refine Touch.filter (Mask.sub hm rfl) ?_

theorem loopHook_touch (hm : m ||| 262152 = m) {x0 : Nat} {x1 : Nat} {x2 : Nat} {x3 : Nat} (h : Touch m a s) : Touch m a (loopHook x0 x1 x2 x3 s) := by
  unfold loopHook
  repeat' with_reducible first | assumption | refine State.modLoop_touch (Mask.sub hm rfl) ?_ | refine facetZero_touch (Mask.sub hm rfl) ?_ | refine rcClear_touch (Mask.sub hm rfl) ?_ | refine when__touch (fun _ _ => ?_) ?_ | refine Touch.ite ?_ ?_ | split | dsimp only

theorem faultHook_touch (hm : m ||| 4 = m) {x0 : Nat} {x1 : Nat} {x2 : Nat} (h : Touch m a s) : Touch m a (faultHook x0 x1 x2 s) := by
  unfold faultHook
  repeat' with_reducible first | assumption | refine State.put_touch (Mask.sub hm rfl) ?_ | refine when__touch (fun _ _ => ?_) ?_ | refine Touch.ite ?_ ?_ | split | dsimp only

theorem traceDone_touch (hm : m ||| 4 = m) (h : Touch m a s) : Touch m a (traceDone s) := by
  unfold traceDone
  repeat' with_reducible first | assumption | refine State.setFlag_touch (Mask.sub hm rfl) ?_ | refine State.clrFlag_touch (Mask.sub hm rfl) ?_ | refine Touch.ite ?_ ?_ | split | dsimp only

theorem traceTrig_touch (hm : m ||| 262148 = m) {x0 : Nat} (h : Touch m a s) : Touch m a (traceTrig x0 s) := by
  unfold traceTrig
  repeat' with_reducible first | assumption | refine State.put_touch (Mask.sub hm rfl) ?_ | refine State.setFlag_touch (Mask.sub hm rfl) ?_ | refine traceDone_touch (Mask.sub hm rfl) ?_ | refine Touch.ite ?_ ?_ | split | dsimp only | refine Touch.set_motion (Mask.sub hm rfl) ?_

theorem traceStop_touch (hm : m ||| 262148 = m) (h : Touch m a s) : Touch m a (traceStop s) := by
  unfold traceStop
  repeat' with_reducible first | assumption | refine State.clrFlag_touch (Mask.sub hm rfl) ?_ | refine traceTrig_touch (Mask.sub hm rfl) ?_ | refine Touch.ite ?_ ?_ | split | dsimp only

theorem traceStart_touch (hm : m ||| 262148 = m) (h : Touch m a s) : Touch m a (traceStart s) := by
  unfold traceStart
  repeat' with_reducible first | assumption | refine State.put_touch (Mask.sub hm rfl) ?_ | refine State.clrFlag_touch (Mask.sub hm rfl) ?_ | refine State.setFlag_touch (Mask.sub hm rfl) ?_ | refine Touch.ite ?_ ?_ | split | dsimp only | refine Touch.set_motion (Mask.sub hm rfl) ?_

theorem laneStart_touch (hm : m ||| 8404996 = m) {x0 : Nat} (h : Touch m a s) : Touch m a (laneStart x0 s) := by
  unfold laneStart
  repeat' with_reducible first | assumption | refine requeue_touch (Mask.sub hm rfl) ?_ | refine State.setLane_touch (Mask.sub hm rfl) ?_ | refine State.put_touch (Mask.sub hm rfl) ?_ | refine State.clrFlag_touch (Mask.sub hm rfl) ?_ | refine portFollow_touch (Mask.sub hm rfl) ?_ | refine Touch.ite ?_ ?_ | split | dsimp only

theorem laneEnable_touch (hm : m ||| 8404996 = m) {x0 : Nat} {x1 : Bool} (h : Touch m a s) : Touch m a (laneEnable x0 x1 s) := by
  unfold laneEnable
  repeat' with_reducible first | assumption | refine State.putb_touch (Mask.sub hm rfl) ?_ | refine laneStart_touch (Mask.sub hm rfl) ?_ | refine requeue_touch (Mask.sub hm rfl) ?_ | refine State.clrFlag_touch (Mask.sub hm rfl) ?_ | refine State.put_touch (Mask.sub hm rfl) ?_ | refine portFollow_touch (Mask.sub hm rfl) ?_ | refine Touch.ite ?_ ?_ | split | dsimp only

theorem injectBits_touch (hm : m ||| 16384 = m) {x0 : Nat} {x1 : Nat} (h : Touch m a s) : Touch m a (injectBits x0 x1 s) := by
  unfold injectBits
  repeat' with_reducible first | assumption | refine State.modLane_touch (Mask.sub hm rfl) ?_ | refine Touch.ite ?_ ?_ | split | dsimp only

theorem injectCrc_touch (hm : m ||| 16384 = m) {x0 : Nat} (h : Touch m a s) : Touch m a (injectCrc x0 s) := by
  unfold injectCrc
  repeat' with_reducible first | assumption | refine State.modLane_touch (Mask.sub hm rfl) ?_ | refine Touch.ite ?_ ?_ | split | dsimp only

theorem chkClear_touch (hm : m ||| 16388 = m) {x0 : Nat} (h : Touch m a s) : Touch m a (chkClear x0 s) := by
  unfold chkClear
  repeat' with_reducible first | assumption | refine State.modLane_touch (Mask.sub hm rfl) ?_ | refine State.put_touch (Mask.sub hm rfl) ?_ | refine Touch.ite ?_ ?_ | split | dsimp only

theorem laneHook_touch (hm : m ||| 8404996 = m) {x0 : Nat} {x1 : Nat} {x2 : Nat} {x3 : Nat} (h : Touch m a s) : Touch m a (laneHook x0 x1 x2 x3 s) := by
  unfold laneHook
  repeat' with_reducible first | assumption | refine laneEnable_touch (Mask.sub hm rfl) ?_ | refine State.putb_touch (Mask.sub hm rfl) ?_ | refine injectBits_touch (Mask.sub hm rfl) ?_ | refine injectCrc_touch (Mask.sub hm rfl) ?_ | refine chkClear_touch (Mask.sub hm rfl) ?_ | refine when__touch (fun _ _ => ?_) ?_ | refine Touch.ite ?_ ?_ | split | dsimp only

theorem dropOwn_touch (hm : m ||| 655364 = m) (h : Touch m a s) : Touch m a (dropOwn s) := by
  unfold dropOwn
  repeat' with_reducible first | assumption | refine State.clrFlag_touch (Mask.sub hm rfl) ?_ | refine iuFree_touch (Mask.sub hm rfl) ?_ | refine pairsAll_touch (Mask.sub hm rfl) ?_ | refine State.setDrv_touch (Mask.sub hm rfl) ?_ | refine Touch.ite ?_ ?_ | split | dsimp only | refine Touch.set_twin (Mask.sub hm rfl) ?_

theorem releaseOwn_touch (hm : m ||| 706572 = m) {x0 : Nat} (h : Touch m a s) : Touch m a (releaseOwn x0 s) := by
  unfold releaseOwn
  repeat' with_reducible first | assumption | refine dropOwn_touch (Mask.sub hm rfl) ?_ | refine State.put_touch (Mask.sub hm rfl) ?_ | refine twinMs_touch (Mask.sub hm rfl) ?_ | refine Touch.ite ?_ ?_ | split | dsimp only | refine Touch.set_twin (Mask.sub hm rfl) ?_

theorem ownRelease_touch (hm : m ||| 706572 = m) (h : Touch m a s) : Touch m a (ownRelease s) := by
  unfold ownRelease
  repeat' with_reducible first | assumption | refine releaseOwn_touch (Mask.sub hm rfl) ?_ | refine Touch.ite ?_ ?_ | split | dsimp only

theorem replayOldest_touch (hm : m ||| 4 = m) (h : Touch m a s) : Touch m a (replayOldest s) := by
  unfold replayOldest
  repeat' with_reducible first | assumption | refine State.put_touch (Mask.sub hm rfl) ?_ | refine Touch.ite ?_ ?_ | split | dsimp only

theorem replayFlush_touch (hm : m ||| 32780 = m) (h : Touch m a s) : Touch m a (replayFlush s) := by
  unfold replayFlush
  repeat' with_reducible first | assumption | refine ringStore_touch (Mask.sub hm rfl) ?_ | refine forAll_touch (fun _ _ _ => ?_) ?_ | refine Touch.ite ?_ ?_ | split | dsimp only | refine Touch.set_dram (Mask.sub hm rfl) ?_

theorem replayStore_touch (hm : m ||| 32780 = m) (h : Touch m a s) : Touch m a (replayStore s) := by
  unfold replayStore
  repeat' with_reducible first | assumption | refine replayOldest_touch (Mask.sub hm rfl) ?_ | refine replayFlush_touch (Mask.sub hm rfl) ?_ | refine Touch.ite ?_ ?_ | split | dsimp only

theorem replayHook_touch (hm : m ||| 32780 = m) {x0 : Nat} {x1 : Nat} (h : Touch m a s) : Touch m a (replayHook x0 x1 s) := by
  unfold replayHook
  repeat' with_reducible first | assumption | refine replayOldest_touch (Mask.sub hm rfl) ?_ | refine State.setDram_touch (Mask.sub hm rfl) ?_ | refine replayStore_touch (Mask.sub hm rfl) ?_ | refine when__touch (fun _ _ => ?_) ?_ | refine Touch.ite ?_ ?_ | split | dsimp only

theorem replayAbort_touch (hm : m ||| 32768 = m) (h : Touch m a s) : Touch m a (replayAbort s) := by
  unfold replayAbort
  repeat' with_reducible first | assumption | refine State.setDram_touch (Mask.sub hm rfl) ?_ | refine Touch.ite ?_ ?_ | split | dsimp only

theorem replayStart_touch (hm : m ||| 32780 = m) (h : Touch m a s) : Touch m a (replayStart s) := by
  unfold replayStart
  repeat' with_reducible first | assumption | refine State.setFlag_touch (Mask.sub hm rfl) ?_ | refine replayStore_touch (Mask.sub hm rfl) ?_ | refine State.setDram_touch (Mask.sub hm rfl) ?_ | refine Touch.ite ?_ ?_ | split | dsimp only

theorem capForce_touch (hm : m ||| 1048576 = m) (h : Touch m a s) : Touch m a (capForce s) := by
  unfold capForce
  repeat' with_reducible first | assumption | refine State.setCap_touch (Mask.sub hm rfl) ?_ | refine Touch.ite ?_ ?_ | split | dsimp only

theorem readoutEnd_touch (hm : m ||| 4 = m) {x0 : Nat} (h : Touch m a s) : Touch m a (readoutEnd x0 s) := by
  unfold readoutEnd
  repeat' with_reducible first | assumption | refine State.put_touch (Mask.sub hm rfl) ?_ | refine Touch.ite ?_ ?_ | split | dsimp only

theorem emitGap_touch (hm : m ||| 51212 = m) {x0 : Nat} {x1 : Sys2Proof.Machine.Loss} (h : Touch m a s) : Touch m a (emitGap x0 x1 s) := by
  unfold emitGap
  repeat' with_reducible first | assumption | refine gapMarks_touch (Mask.sub hm rfl) ?_ | refine pushMs_touch (Mask.sub hm rfl) ?_ | refine Touch.ite ?_ ?_ | split | dsimp only

theorem closeParcel_touch (hm : m ||| 51212 = m) {x0 : Nat} (h : Touch m a s) : Touch m a (closeParcel x0 s) := by
  unfold closeParcel
  repeat' with_reducible first | assumption | refine closeMs_touch (Mask.sub hm rfl) ?_ | refine closeCore_touch (Mask.sub hm rfl) ?_ | refine Touch.pair (by assumption) (closeCore_touch (Mask.sub hm rfl) ?_) | refine readoutEnd_touch (Mask.sub hm rfl) ?_ | refine emitGap_touch (Mask.sub hm rfl) ?_ | refine Touch.ite ?_ ?_ | split | dsimp only

theorem pushStream_touch (hm : m ||| 51212 = m) {x0 : Nat} {x1 : Sys2Proof.Machine.ParcelKey} {x2 : Sys2Proof.Machine.Rec} (h : Touch m a s) : Touch m a (pushStream x0 x1 x2 s) := by
  unfold pushStream
  repeat' with_reducible first | assumption | refine pushRec_touch (Mask.sub hm rfl) ?_ | refine closeParcel_touch (Mask.sub hm rfl) ?_ | refine Touch.ite ?_ ?_ | split | dsimp only

theorem capTouch_touch (hm : m ||| 32772 = m) {x0 : Nat} (h : Touch m a s) : Touch m a (capTouch x0 s) := by
  unfold capTouch
  repeat' with_reducible first | assumption | refine dramUse_touch (Mask.sub hm rfl) ?_ | refine Touch.ite ?_ ?_ | split | dsimp only

theorem readoutRec_touch (hm : m ||| 51212 = m) {x0 : Nat} (h : Touch m a s) : Touch m a (readoutRec x0 s) := by
  unfold readoutRec
  repeat' with_reducible first | assumption | refine pushStream_touch (Mask.sub hm rfl) ?_ | refine capTouch_touch (Mask.sub hm rfl) ?_ | refine Touch.ite ?_ ?_ | split | dsimp only

theorem readoutAll_touch (hm : m ||| 51212 = m) (h : Touch m a s) : Touch m a (readoutAll s) := by
  unfold readoutAll
  repeat' with_reducible first | assumption | refine State.put_touch (Mask.sub hm rfl) ?_ | refine pushStream_touch (Mask.sub hm rfl) ?_ | refine readoutRec_touch (Mask.sub hm rfl) ?_ | refine upTo_touch (fun _ _ _ => ?_) ?_ | refine Touch.ite ?_ ?_ | split | dsimp only

theorem capReadout_touch (hm : m ||| 51212 = m) (h : Touch m a s) : Touch m a (capReadout s) := by
  unfold capReadout
  repeat' with_reducible first | assumption | refine readoutAll_touch (Mask.sub hm rfl) ?_ | refine State.setFlag_touch (Mask.sub hm rfl) ?_ | refine Touch.ite ?_ ?_ | split | dsimp only

theorem capPut_touch (hm : m ||| 1081356 = m) {x0 : Nat} (h : Touch m a s) : Touch m a (capPut x0 s) := by
  unfold capPut
  repeat' with_reducible first | assumption | refine capTouch_touch (Mask.sub hm rfl) ?_ | refine State.store_touch (Mask.sub hm rfl) ?_ | refine State.setCap_touch (Mask.sub hm rfl) ?_ | refine Touch.ite ?_ ?_ | split | dsimp only

theorem capHeader_touch (hm : m ||| 8 = m) {x0 : Bool} (h : Touch m a s) : Touch m a (capHeader x0 s) := by
  unfold capHeader
  repeat' with_reducible first | assumption | refine State.store_touch (Mask.sub hm rfl) ?_ | refine Touch.ite ?_ ?_ | split | dsimp only

theorem capFinish_touch (hm : m ||| 1099788 = m) {x0 : Bool} (h : Touch m a s) : Touch m a (capFinish x0 s) := by
  unfold capFinish
  repeat' with_reducible first | assumption | refine capPut_touch (Mask.sub hm rfl) ?_ | refine State.setCap_touch (Mask.sub hm rfl) ?_ | refine State.put_touch (Mask.sub hm rfl) ?_ | refine capHeader_touch (Mask.sub hm rfl) ?_ | refine readoutAll_touch (Mask.sub hm rfl) ?_ | refine Touch.ite ?_ ?_ | split | dsimp only

theorem capStop_touch (hm : m ||| 1099788 = m) (h : Touch m a s) : Touch m a (capStop s) := by
  unfold capStop
  repeat' with_reducible first | assumption | refine capFinish_touch (Mask.sub hm rfl) ?_ | refine State.setCap_touch (Mask.sub hm rfl) ?_ | refine Touch.ite ?_ ?_ | split | dsimp only

theorem capArm_touch (hm : m ||| 1048580 = m) {x0 : Nat} (h : Touch m a s) : Touch m a (capArm x0 s).1 := by
  unfold capArm
  repeat' with_reducible first | assumption | refine State.setFlag_touch (Mask.sub hm rfl) ?_ | refine State.put_touch (Mask.sub hm rfl) ?_ | refine State.bump_touch (Mask.sub hm rfl) ?_ | refine State.setCap_touch (Mask.sub hm rfl) ?_ | refine State.setCslot_touch (Mask.sub hm rfl) ?_ | refine upTo_touch (fun _ _ _ => ?_) ?_ | refine Touch.ite ?_ ?_ | split | dsimp only

theorem seqStop_touch (hm : m ||| 2097152 = m) (h : Touch m a s) : Touch m a (seqStop s) := by
  unfold seqStop
  repeat' with_reducible first | assumption | refine Touch.ite ?_ ?_ | split | dsimp only | refine Touch.set_hk (Mask.sub hm rfl) ?_

theorem seqTurn_touch (hm : m ||| 2097156 = m) {x0 : Nat} {x1 : Nat} (h : Touch m a s) : Touch m a (seqTurn x0 x1 s) := by
  unfold seqTurn
  repeat' with_reducible first | assumption | refine State.put_touch (Mask.sub hm rfl) ?_ | refine Touch.ite ?_ ?_ | split | dsimp only | refine Touch.set_hk (Mask.sub hm rfl) ?_

theorem seqStart_touch (hm : m ||| 2097156 = m) (h : Touch m a s) : Touch m a (seqStart s) := by
  unfold seqStart
  repeat' with_reducible first | assumption | refine seqTurn_touch (Mask.sub hm rfl) ?_ | refine Touch.ite ?_ ?_ | split | dsimp only

theorem portEnable_touch (hm : m ||| 2097156 = m) {x0 : Nat} (h : Touch m a s) : Touch m a (portEnable x0 s) := by
  unfold portEnable
  repeat' with_reducible first | assumption | refine State.setSport_touch (Mask.sub hm rfl) ?_ | refine State.clrFlag_touch (Mask.sub hm rfl) ?_ | refine Touch.ite ?_ ?_ | split | dsimp only

theorem portChange_touch (hm : m ||| 2097152 = m) {x0 : Nat} (h : Touch m a s) : Touch m a (portChange x0 s) := by
  unfold portChange
  repeat' with_reducible first | assumption | refine State.setSport_touch (Mask.sub hm rfl) ?_ | refine Touch.ite ?_ ?_ | split | dsimp only

theorem curveExpand_touch (hm : m ||| 2097156 = m) {x0 : Nat} (h : Touch m a s) : Touch m a (curveExpand x0 s) := by
  unfold curveExpand
  repeat' with_reducible first | assumption | refine State.clrFlag_touch (Mask.sub hm rfl) ?_ | refine State.setSport_touch (Mask.sub hm rfl) ?_ | refine State.setFlag_touch (Mask.sub hm rfl) ?_ | refine Touch.ite ?_ ?_ | split | dsimp only

theorem portHook_touch (hm : m ||| 2097156 = m) {x0 : Nat} {x1 : Nat} {x2 : Nat} {x3 : Nat} (h : Touch m a s) : Touch m a (portHook x0 x1 x2 x3 s) := by
  unfold portHook
  repeat' with_reducible first | assumption | refine State.setFlag_touch (Mask.sub hm rfl) ?_ | refine portEnable_touch (Mask.sub hm rfl) ?_ | refine portChange_touch (Mask.sub hm rfl) ?_ | refine curveExpand_touch (Mask.sub hm rfl) ?_ | refine when__touch (fun _ _ => ?_) ?_ | refine Touch.ite ?_ ?_ | split | dsimp only

theorem makeDue_touch (hm : m ||| 4194308 = m) {x0 : Nat} (h : Touch m a s) : Touch m a (makeDue x0 s) := by
  unfold makeDue
  repeat' with_reducible first | assumption | refine State.setFlag_touch (Mask.sub hm rfl) ?_ | refine State.setCalDie_touch (Mask.sub hm rfl) ?_ | refine Touch.ite ?_ ?_ | split | dsimp only

theorem calNow_touch (hm : m ||| 4194308 = m) (h : Touch m a s) : Touch m a (calNow s) := by
  unfold calNow
  repeat' with_reducible first | assumption | refine makeDue_touch (Mask.sub hm rfl) ?_ | refine upTo_touch (fun _ _ _ => ?_) ?_ | refine Touch.ite ?_ ?_ | split | dsimp only

theorem ledgGo_touch (hm : m ||| 8388612 = m) (h : Touch m a s) : Touch m a (ledgGo s) := by
  unfold ledgGo
  repeat' with_reducible first | assumption | refine State.put_touch (Mask.sub hm rfl) ?_ | refine State.setSec_touch (Mask.sub hm rfl) ?_ | refine State.setFlag_touch (Mask.sub hm rfl) ?_ | refine Touch.ite ?_ ?_ | split | dsimp only

theorem drawChallenge_touch (hm : m ||| 8388624 = m) {x0 : Nat} (h : Touch m a s) : Touch m a (drawChallenge x0 s) := by
  unfold drawChallenge
  repeat' with_reducible first | assumption | refine State.setSess_touch (Mask.sub hm rfl) ?_ | refine Touch.ite ?_ ?_ | split | dsimp only | refine Touch.set_fresh (Mask.sub hm rfl) ?_

theorem authGo_touch (hm : m ||| 8388624 = m) {x0 : Nat} (h : Touch m a s) : Touch m a (authGo x0 s) := by
  unfold authGo
  repeat' with_reducible first | assumption | refine drawChallenge_touch (Mask.sub hm rfl) ?_ | refine State.setSess_touch (Mask.sub hm rfl) ?_ | refine Touch.ite ?_ ?_ | split | dsimp only

theorem sessEnd_touch (hm : m ||| 8388608 = m) {x0 : Nat} (h : Touch m a s) : Touch m a (sessEnd x0 s) := by
  unfold sessEnd
  repeat' with_reducible first | assumption | refine State.setSess_touch (Mask.sub hm rfl) ?_ | refine Touch.ite ?_ ?_ | split | dsimp only

theorem authHook_touch (hm : m ||| 8388624 = m) {x0 : Nat} {x1 : Nat} (h : Touch m a s) : Touch m a (authHook x0 x1 s) := by
  unfold authHook
  repeat' with_reducible first | assumption | refine State.setSess_touch (Mask.sub hm rfl) ?_ | refine authGo_touch (Mask.sub hm rfl) ?_ | refine sessEnd_touch (Mask.sub hm rfl) ?_ | refine when__touch (fun _ _ => ?_) ?_ | refine Touch.ite ?_ ?_ | split | dsimp only

theorem attGo_touch (hm : m ||| 8388612 = m) (h : Touch m a s) : Touch m a (attGo s) := by
  unfold attGo
  repeat' with_reducible first | assumption | refine State.setFlag_touch (Mask.sub hm rfl) ?_ | refine State.setSec_touch (Mask.sub hm rfl) ?_ | refine Touch.ite ?_ ?_ | split | dsimp only

theorem release_touch (hm : m ||| 33554432 = m) (h : Touch m a s) : Touch m a (release s) := by
  unfold release
  repeat' with_reducible first | assumption | refine Touch.ite ?_ ?_ | split | dsimp only | refine Touch.set_su (Mask.sub hm rfl) ?_

theorem showFuses_touch (hm : m ||| 4 = m) (h : Touch m a s) : Touch m a (showFuses s) := by
  unfold showFuses
  repeat' with_reducible first | assumption | refine State.put_touch (Mask.sub hm rfl) ?_ | refine Touch.ite ?_ ?_ | split | dsimp only

theorem burnFuse_touch (hm : m ||| 8388612 = m) {x0 : Nat} (h : Touch m a s) : Touch m a (burnFuse x0 s) := by
  unfold burnFuse
  repeat' with_reducible first | assumption | refine showFuses_touch (Mask.sub hm rfl) ?_ | refine State.setSec_touch (Mask.sub hm rfl) ?_ | refine Touch.ite ?_ ?_ | split | dsimp only

theorem storeSetting_touch (hm : m ||| 8388608 = m) {x0 : Nat} {x1 : Nat} {x2 : Nat} (h : Touch m a s) : Touch m a (storeSetting x0 x1 x2 s) := by
  unfold storeSetting
  repeat' with_reducible first | assumption | refine State.setNvPair_touch (Mask.sub hm rfl) ?_ | refine Touch.ite ?_ ?_ | split | dsimp only

theorem cutChange_touch (hm : m ||| 8388628 = m) (h : Touch m a s) : Touch m a (cutChange s) := by
  unfold cutChange
  repeat' with_reducible first | assumption | refine State.draw_touch (Mask.sub hm rfl) ?_ | refine Touch.pair2 (by assumption) (State.draw_touch (Mask.sub hm rfl) ?_) | refine State.setSec_touch (Mask.sub hm rfl) ?_ | refine burnFuse_touch (Mask.sub hm rfl) ?_ | refine storeSetting_touch (Mask.sub hm rfl) ?_ | refine Touch.ite ?_ ?_ | split | dsimp only

theorem takeReset_touch (hm : m ||| 67108828 = m) {cause : Nat} (h : Touch m a s) : Touch m a (takeReset cause s) := by
  unfold takeReset
  extract_lets s1 stuck su r1 r2 r3 r4 r5 r6
  have h1 : Touch m a s1 := cutChange_touch (Mask.sub hm rfl) h
  clear_value s1
  have k1 : Touch m a r1 :=
    Touch.many 67108812 (Mask.sub hm rfl) h1 (fun i hi hb => by unfold State.Same; split <;> first | rfl | trivial | exact absurd hb (by decide))
      (fun c => ⟨Memory.wf_filter _ c.1, rfl⟩)
  clear_value r1
  have k2 : Touch m a r2 := forAll_touch (fun _ _ k => keepReg_touch (Mask.sub hm rfl) k) k1
  clear_value r2
  have k3 : Touch m a r3 := State.put_touch (Mask.sub hm rfl) k2
  clear_value r3
  have k4 : Touch m a r4 := State.putb_touch (Mask.sub hm rfl) (State.put_touch (Mask.sub hm rfl) k3)
  clear_value r4
  have k5 : Touch m a r5 := Touch.ite (State.setFlag_touch (Mask.sub hm rfl) k4) k4
  clear_value r5
  have k6 : Touch m a r6 := showFuses_touch (Mask.sub hm rfl) (State.put_touch (Mask.sub hm rfl) k5)
  exact upTo_touch (fun _ _ k => drawChallenge_touch (Mask.sub hm rfl) k) k6

theorem recover_touch (hm : m ||| 67108828 = m) (h : Touch m a s) : Touch m a (recover s) := by
  unfold recover
  repeat' with_reducible first | assumption | refine release_touch (Mask.sub hm rfl) ?_ | refine takeReset_touch (Mask.sub hm rfl) ?_ | refine Touch.ite ?_ ?_ | split | dsimp only

theorem errPop_touch (hm : m ||| 33554432 = m) (h : Touch m a s) : Touch m a (errPop s) := by
  unfold errPop
  repeat' with_reducible first | assumption | refine Touch.ite ?_ ?_ | split | dsimp only | refine Touch.set_su (Mask.sub hm rfl) ?_

theorem writeHook_touch (hm : m ||| 67108828 = m) {x0 : Nat} {x1 : Sys2Proof.Machine.RegId} {x2 : List Nat} {x3 : Nat} {x4 : Nat} {x5 : Nat} (h : Touch m a s) : Touch m a (writeHook x0 x1 x2 x3 x4 x5 s) := by
  unfold writeHook
  repeat' with_reducible first | assumption | refine State.put_touch (Mask.sub hm rfl) ?_ | refine paceMinRestart_touch (Mask.sub hm rfl) ?_ | refine tornChan_touch (Mask.sub hm rfl) ?_ | refine ofsHook_touch (Mask.sub hm rfl) ?_ | refine anchorGo_touch (Mask.sub hm rfl) ?_ | refine syncOff_touch (Mask.sub hm rfl) ?_ | refine iuSwstop_touch (Mask.sub hm rfl) ?_ | refine iuIdle_touch (Mask.sub hm rfl) ?_ | refine iuArm_touch (Mask.sub hm rfl) ?_ | refine fuStart_touch (Mask.sub hm rfl) ?_ | refine headHook_touch (Mask.sub hm rfl) ?_ | refine State.modHead_touch (Mask.sub hm rfl) ?_ | refine commitFrond_touch (Mask.sub hm rfl) ?_ | refine sqHook_touch (Mask.sub hm rfl) ?_ | refine evSoft_touch (Mask.sub hm rfl) ?_ | refine drvHook_touch (Mask.sub hm rfl) ?_ | refine State.modBank_touch (Mask.sub hm rfl) ?_ | refine guardRestart_touch (Mask.sub hm rfl) ?_ | refine guardReset_touch (Mask.sub hm rfl) ?_ | refine loopHook_touch (Mask.sub hm rfl) ?_ | refine faultHook_touch (Mask.sub hm rfl) ?_ | refine traceStop_touch (Mask.sub hm rfl) ?_ | refine traceStart_touch (Mask.sub hm rfl) ?_ | refine laneHook_touch (Mask.sub hm rfl) ?_ | refine ownRelease_touch (Mask.sub hm rfl) ?_ | refine replayHook_touch (Mask.sub hm rfl) ?_ | refine replayAbort_touch (Mask.sub hm rfl) ?_ | refine replayStart_touch (Mask.sub hm rfl) ?_ | refine capForce_touch (Mask.sub hm rfl) ?_ | refine capReadout_touch (Mask.sub hm rfl) ?_ | refine capStop_touch (Mask.sub hm rfl) ?_ | refine capArm_touch (Mask.sub hm rfl) ?_ | refine Touch.pair (by assumption) (capArm_touch (Mask.sub hm rfl) ?_) | refine seqStop_touch (Mask.sub hm rfl) ?_ | refine seqStart_touch (Mask.sub hm rfl) ?_ | refine portHook_touch (Mask.sub hm rfl) ?_ | refine calNow_touch (Mask.sub hm rfl) ?_ | refine State.setSess_touch (Mask.sub hm rfl) ?_ | refine ledgGo_touch (Mask.sub hm rfl) ?_ | refine authHook_touch (Mask.sub hm rfl) ?_ | refine attGo_touch (Mask.sub hm rfl) ?_ | refine recover_touch (Mask.sub hm rfl) ?_ | refine errPop_touch (Mask.sub hm rfl) ?_ | refine when__touch (fun _ _ => ?_) ?_ | refine Touch.ite ?_ ?_ | split | dsimp only | refine Touch.set_pts (Mask.sub hm rfl) ?_

theorem mirrorReg_touch (hm : m ||| 67108828 = m) {x0 : Nat} {x1 : Nat} {x2 : Sys2Proof.Machine.RegHit} (h : Touch m a s) : Touch m a (mirrorReg x0 x1 x2 s) := by
  unfold mirrorReg
  repeat' with_reducible first | assumption | refine setpointWrite_touch (Mask.sub hm rfl) ?_ | refine countTo_touch (Mask.sub hm rfl) ?_ | refine State.setReg_touch (Mask.sub hm rfl) ?_ | refine mirrorAnchor_touch (Mask.sub hm rfl) ?_ | refine writeHook_touch (Mask.sub hm rfl) ?_ | refine when__touch (fun _ _ => ?_) ?_ | refine Touch.ite ?_ ?_ | split | dsimp only

theorem linkError_touch (hm : m ||| 33554436 = m) {x0 : Nat} {x1 : Nat} (h : Touch m a s) : Touch m a (linkError x0 x1 s) := by
  unfold linkError
  repeat' with_reducible first | assumption | refine State.bumpSat_touch (Mask.sub hm rfl) ?_ | refine enterErr_touch (Mask.sub hm rfl) ?_ | refine Touch.ite ?_ ?_ | split | dsimp only

theorem dramDo_touch (hm : m ||| 33587212 = m) {x0 : Sys2Proof.Machine.HeldAccess} (h : Touch m a s) : Touch m a (dramDo x0 s) := by
  unfold dramDo
  repeat' with_reducible first | assumption | refine linkError_touch (Mask.sub hm rfl) ?_ | refine dramTouch_touch (Mask.sub hm rfl) ?_ | refine State.store_touch (Mask.sub hm rfl) ?_ | refine Touch.ite ?_ ?_ | split | dsimp only

theorem dramAsk_touch (hm : m ||| 33587212 = m) {x0 : Sys2Proof.Machine.HeldAccess} (h : Touch m a s) : Touch m a (dramAsk x0 s) := by
  unfold dramAsk
  repeat' with_reducible first | assumption | refine State.setDram_touch (Mask.sub hm rfl) ?_ | refine dramDo_touch (Mask.sub hm rfl) ?_ | refine Touch.ite ?_ ?_ | split | dsimp only

theorem dramWrite_touch (hm : m ||| 33587212 = m) {fuel r b n v : Nat} (h : Touch m a s) : Touch m a (dramWrite fuel r b n v s) := by
  induction fuel generalizing b n v s with
  | zero => exact h
  | succ k ih => exact Touch.ite h (ih (Touch.ite (dramAsk_touch (Mask.sub hm rfl) h) (unmapped_touch (Mask.sub hm rfl) h)))

theorem mirrorApply_touch (hm : m ||| 67108828 = m) {x0 : Nat} {x1 : Nat} {x2 : Nat} (h : Touch m a s) : Touch m a (mirrorApply x0 x1 x2 s) := by
  unfold mirrorApply
  repeat' with_reducible first | assumption | refine State.store_touch (Mask.sub hm rfl) ?_ | refine profileMove_touch (Mask.sub hm rfl) ?_ | refine Touch.pair (by assumption) (profileMove_touch (Mask.sub hm rfl) ?_) | refine mirrorReg_touch (Mask.sub hm rfl) ?_ | refine dramWrite_touch (Mask.sub hm rfl) ?_ | refine Touch.ite ?_ ?_ | split | dsimp only

theorem applyRegs_touch (hm : m ||| 67108828 = m) {l : List Nat} (h : Touch m a s) : Touch m a (applyRegs l s) := by
  induction l, s using applyRegs.induct with
  | case1 a0 a1 a2 a3 v0 v1 v2 v3 r s ih =>
    unfold applyRegs
    apply ih
    dsimp only
    split
    · exact mirrorApply_touch (Mask.sub hm rfl) h
    · exact h
  | case2 l s hn => unfold applyRegs; split <;> first | exact h | exact absurd rfl (hn _ _ _ _ _ _ _ _ _)

theorem applyEpoch_touch (hm : m ||| 67108828 = m) {x0 : Nat} {x1 : List Nat} (h : Touch m a s) : Touch m a (applyEpoch x0 x1 s) := by
  unfold applyEpoch
  repeat' with_reducible first | assumption | refine applyRegs_touch (Mask.sub hm rfl) ?_ | refine State.putb_touch (Mask.sub hm rfl) ?_ | refine State.storeList_touch (Mask.sub hm rfl) ?_ | refine dramWrite_touch (Mask.sub hm rfl) ?_ | refine Touch.ite ?_ ?_ | split | dsimp only

theorem applyWaiting_touch (hm : m ||| 67108828 = m) {x0 : Nat} (h : Touch m a s) : Touch m a (applyWaiting x0 s) := by
  unfold applyWaiting
  repeat' with_reducible first | assumption | refine State.setTwin_touch (Mask.sub hm rfl) ?_ | refine mirrorApply_touch (Mask.sub hm rfl) ?_ | refine forAll_touch (fun _ _ _ => ?_) ?_ | refine Touch.ite ?_ ?_ | split | dsimp only

theorem attDone_touch (hm : m ||| 8388620 = m) (h : Touch m a s) : Touch m a (attDone s) := by
  unfold attDone
  repeat' with_reducible first | assumption | refine State.setSec_touch (Mask.sub hm rfl) ?_ | refine State.clrFlag_touch (Mask.sub hm rfl) ?_ | refine State.store_touch (Mask.sub hm rfl) ?_ | refine Touch.ite ?_ ?_ | split | dsimp only

theorem autoAck_touch (hm : m ||| 33554432 = m) (h : Touch m a s) : Touch m a (autoAck s) := by
  unfold autoAck
  repeat' with_reducible first | assumption | refine Touch.ite ?_ ?_ | split | dsimp only | refine Touch.set_su (Mask.sub hm rfl) ?_

theorem guardLatch_touch (hm : m ||| 51038220 = m) {x0 : Nat} {x1 : Nat} (h : Touch m a s) : Touch m a (guardLatch x0 x1 s) := by
  unfold guardLatch
  repeat' with_reducible first | assumption | refine State.put_touch (Mask.sub hm rfl) ?_ | refine releaseOwn_touch (Mask.sub hm rfl) ?_ | refine enterErr_touch (Mask.sub hm rfl) ?_ | refine State.bumpSat_touch (Mask.sub hm rfl) ?_ | refine guardTo_touch (Mask.sub hm rfl) ?_ | refine Touch.ite ?_ ?_ | split | dsimp only | refine Touch.set_guard (Mask.sub hm rfl) ?_

theorem keepReplies_touch (hm : m ||| 131072 = m) {x0 : Nat} {x1 : Sys2Proof.Machine.State} (h : Touch m a s) : Touch m a (keepReplies x0 x1 s) := by
  unfold keepReplies
  repeat' with_reducible first | assumption | refine State.setDrv_touch (Mask.sub hm rfl) ?_ | refine Touch.ite ?_ ?_ | split | dsimp only

theorem bankFail_touch (hm : m ||| 51038220 = m) {x0 : Nat} {x1 : Nat} {x2 : Nat} {x3 : Nat} {x4 : Nat} (h : Touch m a s) : Touch m a (bankFail x0 x1 x2 x3 x4 s) := by
  unfold bankFail
  repeat' with_reducible first | assumption | refine State.put_touch (Mask.sub hm rfl) ?_ | refine State.setFlag_touch (Mask.sub hm rfl) ?_ | refine guardLatch_touch (Mask.sub hm rfl) ?_ | refine keepReplies_touch (Mask.sub hm rfl) ?_ | refine Touch.ite ?_ ?_ | split | dsimp only | refine Touch.set_drive (Mask.sub hm rfl) ?_

theorem pathRegained_touch (hm : m ||| 51212 = m) {x0 : Nat} {x1 : Sys2Proof.Machine.Field} {x2 : Bool} (h : Touch m a s) : Touch m a (pathRegained x0 x1 x2 s) := by
  unfold pathRegained
  repeat' with_reducible first | assumption | refine State.setFlag_touch (Mask.sub hm rfl) ?_ | refine twinMs_touch (Mask.sub hm rfl) ?_ | refine Touch.ite ?_ ?_ | split | dsimp only

theorem beatPulse_touch (hm : m ||| 575500 = m) (h : Touch m a s) : Touch m a (beatPulse s) := by
  unfold beatPulse
  repeat' with_reducible first | assumption | refine State.setTwin_touch (Mask.sub hm rfl) ?_ | refine pathRegained_touch (Mask.sub hm rfl) ?_ | refine State.addSat_touch (Mask.sub hm rfl) ?_ | refine Touch.ite ?_ ?_ | split | dsimp only

theorem twinRefuse_touch (hm : m ||| 51212 = m) {x0 : Nat} {x1 : Nat} (h : Touch m a s) : Touch m a (twinRefuse x0 x1 s) := by
  unfold twinRefuse
  repeat' with_reducible first | assumption | refine State.put_touch (Mask.sub hm rfl) ?_ | refine State.setFlag_touch (Mask.sub hm rfl) ?_ | refine State.bumpSat_touch (Mask.sub hm rfl) ?_ | refine twinMs_touch (Mask.sub hm rfl) ?_ | refine Touch.ite ?_ ?_ | split | dsimp only

theorem pairTest_touch (hm : m ||| 575500 = m) (h : Touch m a s) : Touch m a (pairTest s) := by
  unfold pairTest
  repeat' with_reducible first | assumption | refine State.setTwin_touch (Mask.sub hm rfl) ?_ | refine State.put_touch (Mask.sub hm rfl) ?_ | refine twinMs_touch (Mask.sub hm rfl) ?_ | refine twinRefuse_touch (Mask.sub hm rfl) ?_ | refine Touch.ite ?_ ?_ | split | dsimp only

theorem beatReceive_touch (hm : m ||| 575500 = m) {x0 : Nat} {x1 : Nat} (h : Touch m a s) : Touch m a (beatReceive x0 x1 s) := by
  unfold beatReceive
  repeat' with_reducible first | assumption | refine State.setTwin_touch (Mask.sub hm rfl) ?_ | refine State.putb_touch (Mask.sub hm rfl) ?_ | refine State.put_touch (Mask.sub hm rfl) ?_ | refine pairTest_touch (Mask.sub hm rfl) ?_ | refine pathRegained_touch (Mask.sub hm rfl) ?_ | refine State.addSat_touch (Mask.sub hm rfl) ?_ | refine Touch.ite ?_ ?_ | split | dsimp only

theorem guardItem_touch (hm : m ||| 540672 = m) (h : Touch m a s) : Touch m a (guardItem s) := by
  unfold guardItem
  repeat' with_reducible first | assumption | refine cwySend_touch (Mask.sub hm rfl) ?_ | refine Touch.ite ?_ ?_ | split | dsimp only | refine Touch.set_twin (Mask.sub hm rfl) ?_

theorem unitItems_touch (hm : m ||| 540672 = m) (h : Touch m a s) : Touch m a (unitItems s) := by
  unfold unitItems
  repeat' with_reducible first | assumption | refine cwySend_touch (Mask.sub hm rfl) ?_ | refine guardItem_touch (Mask.sub hm rfl) ?_ | refine Touch.ite ?_ ?_ | split | dsimp only | refine Touch.set_twin (Mask.sub hm rfl) ?_

theorem beatSend_touch (hm : m ||| 540672 = m) (h : Touch m a s) : Touch m a (beatSend s) := by
  unfold beatSend
  repeat' with_reducible first | assumption | refine unitItems_touch (Mask.sub hm rfl) ?_ | refine State.setTwin_touch (Mask.sub hm rfl) ?_ | refine Touch.ite ?_ ?_ | split | dsimp only

theorem markFrondTorn_touch (hm : m ||| 67588 = m) {x0 : Nat} {x1 : Bool} (h : Touch m a s) : Touch m a (markFrondTorn x0 x1 s) := by
  unfold markFrondTorn
  repeat' with_reducible first | assumption | refine State.bumpSat_touch (Mask.sub hm rfl) ?_ | refine State.setFlag_touch (Mask.sub hm rfl) ?_ | refine State.modHead_touch (Mask.sub hm rfl) ?_ | refine State.modFrame_touch (Mask.sub hm rfl) ?_ | refine Touch.ite ?_ ?_ | split | dsimp only

theorem beginLine_touch (hm : m ||| 67604 = m) {x0 : Nat} {x1 : Bool} (h : Touch m a s) : Touch m a (beginLine x0 x1 s) := by
  unfold beginLine
  repeat' with_reducible first | assumption | refine State.drawIf_touch (Mask.sub hm rfl) ?_ | refine Touch.pair2 (by assumption) (State.drawIf_touch (Mask.sub hm rfl) ?_) | refine State.setHead_touch (Mask.sub hm rfl) ?_ | refine State.bumpSat_touch (Mask.sub hm rfl) ?_ | refine State.setFlag_touch (Mask.sub hm rfl) ?_ | refine markFrondTorn_touch (Mask.sub hm rfl) ?_ | refine Touch.ite ?_ ?_ | split | dsimp only

theorem queueChan_touch (hm : m ||| 1280 = m) {x0 : Nat} (h : Touch m a s) : Touch m a (queueChan x0 s) := by
  unfold queueChan
  repeat' with_reducible first | assumption | refine queueSettled_touch (Mask.sub hm rfl) ?_ | refine forAll_touch (fun _ _ _ => ?_) ?_ | refine Touch.ite ?_ ?_ | split | dsimp only

theorem binEvent_touch (hm : m ||| 1348 = m) {x0 : Nat} (h : Touch m a s) : Touch m a (binEvent x0 s) := by
  unfold binEvent
  repeat' with_reducible first | assumption | refine takeWaiting_touch (Mask.sub hm rfl) ?_ | refine State.setChan_touch (Mask.sub hm rfl) ?_ | refine State.setFlag_touch (Mask.sub hm rfl) ?_ | refine State.setOp_touch (Mask.sub hm rfl) ?_ | refine queueChan_touch (Mask.sub hm rfl) ?_ | refine forAll_touch (fun _ _ _ => ?_) ?_ | refine Touch.ite ?_ ?_ | split | dsimp only

theorem roleReject_touch (hm : m ||| 4 = m) {x0 : Nat} (h : Touch m a s) : Touch m a (roleReject x0 s) := by
  unfold roleReject
  repeat' with_reducible first | assumption | refine State.setFlag_touch (Mask.sub hm rfl) ?_ | refine Touch.ite ?_ ?_ | split | dsimp only

theorem rejected_touch (hm : m ||| 20 = m) {x0 : Sys2Proof.Machine.RegId} {x1 : List Nat} (h : Touch m a s) : Touch m a (rejected x0 x1 s) := by
  unfold rejected
  repeat' with_reducible first | assumption | refine State.setFlag_touch (Mask.sub hm rfl) ?_ | refine State.draw_touch (Mask.sub hm rfl) ?_ | refine Touch.pair2 (by assumption) (State.draw_touch (Mask.sub hm rfl) ?_) | refine Touch.ite ?_ ?_ | split | dsimp only

theorem standbyReject_touch (hm : m ||| 20 = m) {x0 : Nat} (h : Touch m a s) : Touch m a (standbyReject x0 s) := by
  unfold standbyReject
  repeat' with_reducible first | assumption | refine State.setFlag_touch (Mask.sub hm rfl) ?_ | refine rejected_touch (Mask.sub hm rfl) ?_ | refine Touch.ite ?_ ?_ | split | dsimp only

theorem writeThr_touch (hm : m ||| 260 = m) {x0 : Nat} {x1 : Nat} (h : Touch m a s) : Touch m a (writeThr x0 x1 s) := by
  unfold writeThr
  repeat' with_reducible first | assumption | refine State.setFlag_touch (Mask.sub hm rfl) ?_ | refine State.put_touch (Mask.sub hm rfl) ?_ | refine tornChan_touch (Mask.sub hm rfl) ?_ | refine Touch.ite ?_ ?_ | split | dsimp only

theorem regWrite_touch (hm : m ||| 67108828 = m) {x0 : Nat} {x1 : Nat} {x2 : Sys2Proof.Machine.RegHit} {x3 : Nat} (h : Touch m a s) : Touch m a (regWrite x0 x1 x2 x3 s) := by
  unfold regWrite
  repeat' with_reducible first | assumption | refine writeThr_touch (Mask.sub hm rfl) ?_ | refine setpointWrite_touch (Mask.sub hm rfl) ?_ | refine rejected_touch (Mask.sub hm rfl) ?_ | refine writeHook_touch (Mask.sub hm rfl) ?_ | refine State.setReg_touch (Mask.sub hm rfl) ?_ | refine Touch.ite ?_ ?_ | split | dsimp only

theorem rcWrite_touch (hm : m ||| 12 = m) {x0 : Nat} {x1 : Nat} (h : Touch m a s) : Touch m a (rcWrite x0 x1 s) := by
  unfold rcWrite
  repeat' with_reducible first | assumption | refine State.setFlag_touch (Mask.sub hm rfl) ?_ | refine State.store_touch (Mask.sub hm rfl) ?_ | refine Touch.ite ?_ ?_ | split | dsimp only

theorem writeTarget_touch (hm : m ||| 67108828 = m) {x0 : Nat} {x1 : Nat} {x2 : Nat} {x3 : Nat} (h : Touch m a s) : Touch m a (writeTarget x0 x1 x2 x3 s) := by
  unfold writeTarget
  repeat' with_reducible first | assumption | refine regWrite_touch (Mask.sub hm rfl) ?_ | refine rcWrite_touch (Mask.sub hm rfl) ?_ | refine State.store_touch (Mask.sub hm rfl) ?_ | refine dramAsk_touch (Mask.sub hm rfl) ?_ | refine unmapped_touch (Mask.sub hm rfl) ?_ | refine Touch.ite ?_ ?_ | split | dsimp only

theorem busWrite_touch (hm : m ||| 67108828 = m) {x0 : Nat} {x1 : Nat} {x2 : Nat} {x3 : Nat} (h : Touch m a s) : Touch m a (busWrite x0 x1 x2 x3 s) := by
  unfold busWrite
  repeat' with_reducible first | assumption | refine unmapped_touch (Mask.sub hm rfl) ?_ | refine roleReject_touch (Mask.sub hm rfl) ?_ | refine standbyReject_touch (Mask.sub hm rfl) ?_ | refine forward_touch (Mask.sub hm rfl) ?_ | refine writeTarget_touch (Mask.sub hm rfl) ?_ | refine Touch.ite ?_ ?_ | split | dsimp only

theorem bodyAmoadd_touch (hm : m ||| 67108828 = m) {x0 : Nat} {x1 : Sys2Proof.Machine.Ins} (h : Touch m a s) : Touch m a (bodyAmoadd x0 x1 s).1 := by
  unfold bodyAmoadd
  repeat' with_reducible first | assumption | refine State.setGreg_touch (Mask.sub hm rfl) ?_ | refine busWrite_touch (Mask.sub hm rfl) ?_ | refine Touch.ite ?_ ?_ | split | dsimp only

theorem forwardAnchor_touch (hm : m ||| 16384 = m) {x0 : Nat} {x1 : Nat} (h : Touch m a s) : Touch m a (forwardAnchor x0 x1 s) := by
  unfold forwardAnchor
  repeat' with_reducible first | assumption | refine forward_touch (Mask.sub hm rfl) ?_ | refine forAll_touch (fun _ _ _ => ?_) ?_ | refine Touch.ite ?_ ?_ | split | dsimp only

theorem bodyAnchor_touch (hm : m ||| 16516 = m) {x0 : Nat} {x1 : Sys2Proof.Machine.Ins} (h : Touch m a s) : Touch m a (bodyAnchor x0 x1 s).1 := by
  unfold bodyAnchor
  repeat' with_reducible first | assumption | refine anchorEnter_touch (Mask.sub hm rfl) ?_ | refine Touch.pair (by assumption) (anchorEnter_touch (Mask.sub hm rfl) ?_) | refine State.setGreg_touch (Mask.sub hm rfl) ?_ | refine forwardAnchor_touch (Mask.sub hm rfl) ?_ | refine Touch.ite ?_ ?_ | split | dsimp only

theorem bodyCall_touch (hm : m ||| 4 = m) {x0 : Nat} {x1 : Sys2Proof.Machine.Ins} (h : Touch m a s) : Touch m a (bodyCall x0 x1 s).1 := by
  unfold bodyCall
  repeat' with_reducible first | assumption | refine State.setGreg_touch (Mask.sub hm rfl) ?_ | refine Touch.ite ?_ ?_ | split | dsimp only

theorem bodyCarm_touch (hm : m ||| 1048580 = m) {x0 : Nat} {x1 : Sys2Proof.Machine.Ins} (h : Touch m a s) : Touch m a (bodyCarm x0 x1 s).1 := by
  unfold bodyCarm
  repeat' with_reducible first | assumption | refine capArm_touch (Mask.sub hm rfl) ?_ | refine Touch.pair (by assumption) (capArm_touch (Mask.sub hm rfl) ?_) | refine State.setGreg_touch (Mask.sub hm rfl) ?_ | refine Touch.ite ?_ ?_ | split | dsimp only

theorem bodyCqpop_touch (hm : m ||| 8196 = m) {x0 : Nat} {x1 : Sys2Proof.Machine.Ins} (h : Touch m a s) : Touch m a (bodyCqpop x0 x1 s).1 := by
  unfold bodyCqpop
  repeat' with_reducible first | assumption | refine State.setGregs_touch (Mask.sub hm rfl) ?_ | refine State.setSeq_touch (Mask.sub hm rfl) ?_ | refine Touch.ite ?_ ?_ | split | dsimp only

theorem bodyDab_touch (hm : m ||| 4 = m) {x0 : Nat → Nat → Nat} {x1 : Nat} {x2 : Sys2Proof.Machine.Ins} (h : Touch m a s) : Touch m a (bodyDab x0 x1 x2 s).1 := by
  unfold bodyDab
  repeat' with_reducible first | assumption | refine State.setGreg_touch (Mask.sub hm rfl) ?_ | refine Touch.ite ?_ ?_ | split | dsimp only

theorem bodyDai_touch (hm : m ||| 4 = m) {x0 : Nat → Nat → Nat} {x1 : Nat} {x2 : Sys2Proof.Machine.Ins} (h : Touch m a s) : Touch m a (bodyDai x0 x1 x2 s).1 := by
  unfold bodyDai
  repeat' with_reducible first | assumption | refine State.setGreg_touch (Mask.sub hm rfl) ?_ | refine Touch.ite ?_ ?_ | split | dsimp only

theorem bodyDbase_touch (hm : m ||| 4 = m) {x0 : Nat} {x1 : Sys2Proof.Machine.Ins} (h : Touch m a s) : Touch m a (bodyDbase x0 x1 s).1 := by
  unfold bodyDbase
  repeat' with_reducible first | assumption | refine State.put_touch (Mask.sub hm rfl) ?_ | refine Touch.ite ?_ ?_ | split | dsimp only

theorem bodyEmit_touch (hm : m ||| 51212 = m) {x0 : Nat} {x1 : Sys2Proof.Machine.Ins} (h : Touch m a s) : Touch m a (bodyEmit x0 x1 s).1 := by
  unfold bodyEmit
  repeat' with_reducible first | assumption | refine milestoneAt_touch (Mask.sub hm rfl) ?_ | refine Touch.ite ?_ ?_ | split | dsimp only

theorem busField_touch (hm : m ||| 67108828 = m) {x0 : Nat} {x1 : Sys2Proof.Machine.Field} {x2 : Nat} (h : Touch m a s) : Touch m a (busField x0 x1 x2 s) := by
  unfold busField
  repeat' with_reducible first | assumption | refine busWrite_touch (Mask.sub hm rfl) ?_ | refine Touch.ite ?_ ?_ | split | dsimp only

theorem bodyEnergy_touch (hm : m ||| 67108828 = m) {x0 : Nat} {x1 : Sys2Proof.Machine.Ins} (h : Touch m a s) : Touch m a (bodyEnergy x0 x1 s).1 := by
  unfold bodyEnergy
  repeat' with_reducible first | assumption | refine busField_touch (Mask.sub hm rfl) ?_ | refine upTo_touch (fun _ _ _ => ?_) ?_ | refine Touch.ite ?_ ?_ | split | dsimp only

theorem clearPending_touch (hm : m ||| 4 = m) {x0 : Nat} {x1 : Nat} (h : Touch m a s) : Touch m a (clearPending x0 x1 s) := by
  unfold clearPending
  repeat' with_reducible first | assumption | refine levels_touch (Mask.sub hm rfl) ?_ | refine State.setPend_touch (Mask.sub hm rfl) ?_ | refine Touch.ite ?_ ?_ | split | dsimp only

theorem bodyEvclr_touch (hm : m ||| 4 = m) {x0 : Nat} {x1 : Sys2Proof.Machine.Ins} (h : Touch m a s) : Touch m a (bodyEvclr x0 x1 s).1 := by
  unfold bodyEvclr
  repeat' with_reducible first | assumption | refine clearPending_touch (Mask.sub hm rfl) ?_ | refine Touch.ite ?_ ?_ | split | dsimp only

theorem bodyFcommit_touch (hm : m ||| 114692 = m) {x0 : Nat} {x1 : Sys2Proof.Machine.Ins} (h : Touch m a s) : Touch m a (bodyFcommit x0 x1 s).1 := by
  unfold bodyFcommit
  repeat' with_reducible first | assumption | refine State.put_touch (Mask.sub hm rfl) ?_ | refine forwardReg_touch (Mask.sub hm rfl) ?_ | refine forward_touch (Mask.sub hm rfl) ?_ | refine commitFrond_touch (Mask.sub hm rfl) ?_ | refine State.setFlag_touch (Mask.sub hm rfl) ?_ | refine State.setGreg_touch (Mask.sub hm rfl) ?_ | refine forAll_touch (fun _ _ _ => ?_) ?_ | refine Touch.ite ?_ ?_ | split | dsimp only

theorem bodyFence_touch {x0 : Nat} {x1 : Sys2Proof.Machine.Ins} (h : Touch m a s) : Touch m a (bodyFence x0 x1 s).1 := by
  unfold bodyFence
  repeat' with_reducible first | assumption | refine Touch.ite ?_ ?_ | split | dsimp only

theorem fillBytes_touch (hm : m ||| 8 = m) {p n v : Nat} (h : Touch m a s) : Touch m a (fillBytes p n v s) := by
  induction n generalizing p s with
  | zero => exact h
  | succ n ih => exact ih (State.setByte_touch (Mask.sub hm rfl) h)

theorem fillRow_touch (hm : m ||| 33603596 = m) {x0 : Nat} {x1 : Bool} {x2 : Nat} {x3 : Nat} {x4 : Nat} (h : Touch m a s) : Touch m a (fillRow x0 x1 x2 x3 x4 s) := by
  unfold fillRow
  repeat' with_reducible first | assumption | refine dramWrite_touch (Mask.sub hm rfl) ?_ | refine forwardBytes_touch (Mask.sub hm rfl) ?_ | refine fillBytes_touch (Mask.sub hm rfl) ?_ | refine Touch.ite ?_ ?_ | split | dsimp only

theorem fillBuffer_touch (hm : m ||| 33603596 = m) {x0 : Nat} {x1 : Bool} {x2 : Nat} {x3 : Nat} {x4 : Sys2Proof.Machine.FillArea} (h : Touch m a s) : Touch m a (fillBuffer x0 x1 x2 x3 x4 s) := by
  unfold fillBuffer
  repeat' with_reducible first | assumption | refine fillRow_touch (Mask.sub hm rfl) ?_ | refine upTo_touch (fun _ _ _ => ?_) ?_ | refine Touch.ite ?_ ?_ | split | dsimp only

theorem bodyFfill_touch (hm : m ||| 33603596 = m) {x0 : Nat} {x1 : Sys2Proof.Machine.Ins} (h : Touch m a s) : Touch m a (bodyFfill x0 x1 s).1 := by
  unfold bodyFfill
  repeat' with_reducible first | assumption | refine unmapped_touch (Mask.sub hm rfl) ?_ | refine fillBuffer_touch (Mask.sub hm rfl) ?_ | refine dramSpan_touch (Mask.sub hm rfl) ?_ | refine Touch.ite ?_ ?_ | split | dsimp only

theorem bodyFmt_touch (hm : m ||| 67108828 = m) {x0 : Nat} {x1 : Sys2Proof.Machine.Ins} (h : Touch m a s) : Touch m a (bodyFmt x0 x1 s).1 := by
  unfold bodyFmt
  repeat' with_reducible first | assumption | refine busWrite_touch (Mask.sub hm rfl) ?_ | refine forwardReg_touch (Mask.sub hm rfl) ?_ | refine headFields_touch (Mask.sub hm rfl) ?_ | refine State.setReg_touch (Mask.sub hm rfl) ?_ | refine Touch.ite ?_ ?_ | split | dsimp only

theorem bodyFstat_touch (hm : m ||| 4 = m) {x0 : Nat} {x1 : Sys2Proof.Machine.Ins} (h : Touch m a s) : Touch m a (bodyFstat x0 x1 s).1 := by
  unfold bodyFstat
  repeat' with_reducible first | assumption | refine State.setGreg_touch (Mask.sub hm rfl) ?_ | refine Touch.ite ?_ ?_ | split | dsimp only

theorem bodyHlock_touch (hm : m ||| 16388 = m) {x0 : Nat} {x1 : Sys2Proof.Machine.Ins} (h : Touch m a s) : Touch m a (bodyHlock x0 x1 s).1 := by
  unfold bodyHlock
  repeat' with_reducible first | assumption | refine State.setGreg_touch (Mask.sub hm rfl) ?_ | refine State.setFlag_touch (Mask.sub hm rfl) ?_ | refine State.put_touch (Mask.sub hm rfl) ?_ | refine forwardReg_touch (Mask.sub hm rfl) ?_ | refine Touch.ite ?_ ?_ | split | dsimp only

theorem writeRegion_touch (hm : m ||| 20484 = m) {x0 : Nat} {x1 : Nat} {x2 : Nat} (h : Touch m a s) : Touch m a (writeRegion x0 x1 x2 s) := by
  unfold writeRegion
  repeat' with_reducible first | assumption | refine forwardReg_touch (Mask.sub hm rfl) ?_ | refine State.put_touch (Mask.sub hm rfl) ?_ | refine Touch.ite ?_ ?_ | split | dsimp only | refine Touch.set_pts (Mask.sub hm rfl) ?_

theorem bodyHop_touch (hm : m ||| 20484 = m) {x0 : Nat} {x1 : Sys2Proof.Machine.Ins} (h : Touch m a s) : Touch m a (bodyHop x0 x1 s).1 := by
  unfold bodyHop
  repeat' with_reducible first | assumption | refine writeRegion_touch (Mask.sub hm rfl) ?_ | refine State.bumpSat_touch (Mask.sub hm rfl) ?_ | refine Touch.ite ?_ ?_ | split | dsimp only

theorem bodyKick_touch (hm : m ||| 8192 = m) {x0 : Nat} {x1 : Sys2Proof.Machine.Ins} (h : Touch m a s) : Touch m a (bodyKick x0 x1 s).1 := by
  unfold bodyKick
  repeat' with_reducible first | assumption | refine State.setSeq_touch (Mask.sub hm rfl) ?_ | refine Touch.ite ?_ ?_ | split | dsimp only

theorem syncPop_touch (hm : m ||| 132 = m) (h : Touch m a s) : Touch m a (syncPop s).2 := by
  unfold syncPop
  repeat' with_reducible first | assumption | refine State.putb_touch (Mask.sub hm rfl) ?_ | refine State.put_touch (Mask.sub hm rfl) ?_ | refine Touch.ite ?_ ?_ | split | dsimp only | refine Touch.set_tb (Mask.sub hm rfl) ?_

theorem rqPop_touch (hm : m ||| 2097156 = m) (h : Touch m a s) : Touch m a (rqPop s).2 := by
  unfold rqPop
  repeat' with_reducible first | assumption | refine State.put_touch (Mask.sub hm rfl) ?_ | refine Touch.ite ?_ ?_ | split | dsimp only | refine Touch.set_hk (Mask.sub hm rfl) ?_

theorem prbsCapture_touch (hm : m ||| 4 = m) {x0 : Nat} (h : Touch m a s) : Touch m a (prbsCapture x0 s) := by
  unfold prbsCapture
  repeat' with_reducible first | assumption | refine State.put_touch (Mask.sub hm rfl) ?_ | refine Touch.ite ?_ ?_ | split | dsimp only

theorem readHook_touch (hm : m ||| 2097284 = m) {x0 : Nat} {x1 : Sys2Proof.Machine.RegId} {x2 : List Nat} (h : Touch m a s) : Touch m a (readHook x0 x1 x2 s) := by
  unfold readHook
  repeat' with_reducible first | assumption | refine syncPop_touch (Mask.sub hm rfl) ?_ | refine Touch.pair2 (by assumption) (syncPop_touch (Mask.sub hm rfl) ?_) | refine iuIdle_touch (Mask.sub hm rfl) ?_ | refine rqPop_touch (Mask.sub hm rfl) ?_ | refine Touch.pair2 (by assumption) (rqPop_touch (Mask.sub hm rfl) ?_) | refine prbsCapture_touch (Mask.sub hm rfl) ?_ | refine Touch.ite ?_ ?_ | split | dsimp only | refine Touch.set_tb (Mask.sub hm rfl) ?_

theorem busRead_touch (hm : m ||| 2130068 = m) {x0 : Nat} {x1 : Nat} {x2 : Nat} (h : Touch m a s) : Touch m a (busRead x0 x1 x2 s).2 := by
  unfold busRead
  repeat' with_reducible first | assumption | refine readHook_touch (Mask.sub hm rfl) ?_ | refine dramTouch_touch (Mask.sub hm rfl) ?_ | refine State.draw_touch (Mask.sub hm rfl) ?_ | refine Touch.pair2 (by assumption) (State.draw_touch (Mask.sub hm rfl) ?_) | refine unmapped_touch (Mask.sub hm rfl) ?_ | refine Touch.ite ?_ ?_ | split | dsimp only

theorem bodyLd_touch (hm : m ||| 2130068 = m) {x0 : Nat} {x1 : Sys2Proof.Machine.Ins} (h : Touch m a s) : Touch m a (bodyLd x0 x1 s).1 := by
  unfold bodyLd
  repeat' with_reducible first | assumption | refine busRead_touch (Mask.sub hm rfl) ?_ | refine Touch.pair2 (by assumption) (busRead_touch (Mask.sub hm rfl) ?_) | refine State.setGregs_touch (Mask.sub hm rfl) ?_ | refine State.setGreg_touch (Mask.sub hm rfl) ?_ | refine Touch.ite ?_ ?_ | split | dsimp only

theorem bodyLflag_touch (hm : m ||| 16396 = m) {x0 : Nat} {x1 : Sys2Proof.Machine.Ins} (h : Touch m a s) : Touch m a (bodyLflag x0 x1 s).1 := by
  unfold bodyLflag
  repeat' with_reducible first | assumption | refine State.setGreg_touch (Mask.sub hm rfl) ?_ | refine State.setLichen_touch (Mask.sub hm rfl) ?_ | refine Touch.ite ?_ ?_ | split | dsimp only

theorem bodyLoop_touch (hm : m ||| 4 = m) {x0 : Nat} {x1 : Sys2Proof.Machine.Ins} (h : Touch m a s) : Touch m a (bodyLoop x0 x1 s).1 := by
  unfold bodyLoop
  repeat' with_reducible first | assumption | refine State.setGreg_touch (Mask.sub hm rfl) ?_ | refine Touch.ite ?_ ?_ | split | dsimp only

theorem bodyLread_touch (hm : m ||| 4 = m) {x0 : Nat} {x1 : Sys2Proof.Machine.Ins} (h : Touch m a s) : Touch m a (bodyLread x0 x1 s).1 := by
  unfold bodyLread
  repeat' with_reducible first | assumption | refine State.setGregs_touch (Mask.sub hm rfl) ?_ | refine Touch.ite ?_ ?_ | split | dsimp only

theorem bodyLwrite_touch (hm : m ||| 16392 = m) {x0 : Nat} {x1 : Sys2Proof.Machine.Ins} (h : Touch m a s) : Touch m a (bodyLwrite x0 x1 s).1 := by
  unfold bodyLwrite
  repeat' with_reducible first | assumption | refine State.setLichen_touch (Mask.sub hm rfl) ?_ | refine Touch.ite ?_ ?_ | split | dsimp only

theorem bodyMprof_touch (hm : m ||| 278532 = m) {x0 : Nat} {x1 : Sys2Proof.Machine.Ins} (h : Touch m a s) : Touch m a (bodyMprof x0 x1 s).1 := by
  unfold bodyMprof
  repeat' with_reducible first | assumption | refine profileMove_touch (Mask.sub hm rfl) ?_ | refine Touch.pair (by assumption) (profileMove_touch (Mask.sub hm rfl) ?_) | refine State.setGreg_touch (Mask.sub hm rfl) ?_ | refine forward_touch (Mask.sub hm rfl) ?_ | refine Touch.ite ?_ ?_ | split | dsimp only

theorem bodyMset_touch (hm : m ||| 67108828 = m) {x0 : Nat} {x1 : Sys2Proof.Machine.Ins} (h : Touch m a s) : Touch m a (bodyMset x0 x1 s).1 := by
  unfold bodyMset
  repeat' with_reducible first | assumption | refine busWrite_touch (Mask.sub hm rfl) ?_ | refine Touch.ite ?_ ?_ | split | dsimp only

theorem bodyPab_touch (hm : m ||| 4 = m) {x0 : Nat → Nat → Bool} {x1 : Nat} {x2 : Sys2Proof.Machine.Ins} (h : Touch m a s) : Touch m a (bodyPab x0 x1 x2 s).1 := by
  unfold bodyPab
  repeat' with_reducible first | assumption | refine State.setPredicate_touch (Mask.sub hm rfl) ?_ | refine Touch.ite ?_ ?_ | split | dsimp only

theorem bodyPai_touch (hm : m ||| 4 = m) {x0 : Nat → Nat → Bool} {x1 : Nat} {x2 : Sys2Proof.Machine.Ins} (h : Touch m a s) : Touch m a (bodyPai x0 x1 x2 s).1 := by
  unfold bodyPai
  repeat' with_reducible first | assumption | refine State.setPredicate_touch (Mask.sub hm rfl) ?_ | refine Touch.ite ?_ ?_ | split | dsimp only

theorem bodyPqr_touch (hm : m ||| 4 = m) {x0 : Bool → Bool → Bool} {x1 : Nat} {x2 : Sys2Proof.Machine.Ins} (h : Touch m a s) : Touch m a (bodyPqr x0 x1 x2 s).1 := by
  unfold bodyPqr
  repeat' with_reducible first | assumption | refine State.setPredicate_touch (Mask.sub hm rfl) ?_ | refine Touch.ite ?_ ?_ | split | dsimp only

theorem bodyProbe_touch (hm : m ||| 8196 = m) {x0 : Nat} {x1 : Sys2Proof.Machine.Ins} (h : Touch m a s) : Touch m a (bodyProbe x0 x1 s).1 := by
  unfold bodyProbe
  repeat' with_reducible first | assumption | refine State.setGreg_touch (Mask.sub hm rfl) ?_ | refine State.setSeq_touch (Mask.sub hm rfl) ?_ | refine Touch.ite ?_ ?_ | split | dsimp only

theorem bodySleep_touch {x0 : Nat} {x1 : Sys2Proof.Machine.Ins} (h : Touch m a s) : Touch m a (bodySleep x0 x1 s).1 := by
  unfold bodySleep
  repeat' with_reducible first | assumption | refine Touch.ite ?_ ?_ | split | dsimp only

theorem bodySt_touch (hm : m ||| 67108828 = m) {x0 : Nat} {x1 : Sys2Proof.Machine.Ins} (h : Touch m a s) : Touch m a (bodySt x0 x1 s).1 := by
  unfold bodySt
  repeat' with_reducible first | assumption | refine busWrite_touch (Mask.sub hm rfl) ?_ | refine Touch.ite ?_ ?_ | split | dsimp only

theorem bodyTime_touch (hm : m ||| 4 = m) {x0 : Nat} {x1 : Sys2Proof.Machine.Ins} (h : Touch m a s) : Touch m a (bodyTime x0 x1 s).1 := by
  unfold bodyTime
  repeat' with_reducible first | assumption | refine State.setGregs_touch (Mask.sub hm rfl) ?_ | refine Touch.ite ?_ ?_ | split | dsimp only

theorem takeMask_touch (hm : m ||| 4 = m) {x0 : Nat} {x1 : Nat} {x2 : Nat} (h : Touch m a s) : Touch m a (takeMask x0 x1 x2 s) := by
  unfold takeMask
  repeat' with_reducible first | assumption | refine clearPending_touch (Mask.sub hm rfl) ?_ | refine State.setGreg_touch (Mask.sub hm rfl) ?_ | refine Touch.ite ?_ ?_ | split | dsimp only

theorem bodyWait_touch (hm : m ||| 4 = m) {x0 : Nat} {x1 : Sys2Proof.Machine.Ins} (h : Touch m a s) : Touch m a (bodyWait x0 x1 s).1 := by
  unfold bodyWait
  repeat' with_reducible first | assumption | refine takeMask_touch (Mask.sub hm rfl) ?_ | refine Touch.ite ?_ ?_ | split | dsimp only

theorem takeLine_touch (hm : m ||| 4 = m) {x0 : Nat} {x1 : Nat} {x2 : Nat} (h : Touch m a s) : Touch m a (takeLine x0 x1 x2 s) := by
  unfold takeLine
  repeat' with_reducible first | assumption | refine clearPending_touch (Mask.sub hm rfl) ?_ | refine State.setGreg_touch (Mask.sub hm rfl) ?_ | refine Touch.ite ?_ ?_ | split | dsimp only

theorem bodyWait1_touch (hm : m ||| 4 = m) {x0 : Nat} {x1 : Sys2Proof.Machine.Ins} (h : Touch m a s) : Touch m a (bodyWait1 x0 x1 s).1 := by
  unfold bodyWait1
  repeat' with_reducible first | assumption | refine takeLine_touch (Mask.sub hm rfl) ?_ | refine Touch.ite ?_ ?_ | split | dsimp only

theorem bodyWatch_touch (hm : m ||| 8192 = m) {x0 : Nat} {x1 : Sys2Proof.Machine.Ins} (h : Touch m a s) : Touch m a (bodyWatch x0 x1 s).1 := by
  unfold bodyWatch
  repeat' with_reducible first | assumption | refine State.setSeq_touch (Mask.sub hm rfl) ?_ | refine Touch.ite ?_ ?_ | split | dsimp only

theorem bootError_touch (hm : m ||| 33554436 = m) (h : Touch m a s) : Touch m a (bootError s) := by
  unfold bootError
  repeat' with_reducible first | assumption | refine enterErr_touch (Mask.sub hm rfl) ?_ | refine Touch.ite ?_ ?_ | split | dsimp only

theorem cableJump_touch (hm : m ||| 33554436 = m) {x0 : Nat} {x1 : Nat} (h : Touch m a s) : Touch m a (cableJump x0 x1 s) := by
  unfold cableJump
  repeat' with_reducible first | assumption | refine enterErr_touch (Mask.sub hm rfl) ?_ | refine State.setFlag_touch (Mask.sub hm rfl) ?_ | refine Touch.ite ?_ ?_ | split | dsimp only

theorem cableUpdate_touch (hm : m ||| 33685508 = m) {x0 : Nat} {x1 : Nat} {x2 : Int} (h : Touch m a s) : Touch m a (cableUpdate x0 x1 x2 s) := by
  unfold cableUpdate
  repeat' with_reducible first | assumption | refine cableJump_touch (Mask.sub hm rfl) ?_ | refine State.modBank_touch (Mask.sub hm rfl) ?_ | refine State.setFlag_touch (Mask.sub hm rfl) ?_ | refine State.puti_touch (Mask.sub hm rfl) ?_ | refine Touch.ite ?_ ?_ | split | dsimp only

theorem cableListen_touch (hm : m ||| 33685508 = m) {x0 : Nat} {x1 : Nat} {x2 : Nat} {x3 : Nat} {x4 : Nat} (h : Touch m a s) : Touch m a (cableListen x0 x1 x2 x3 x4 s) := by
  unfold cableListen
  repeat' with_reducible first | assumption | refine State.modBank_touch (Mask.sub hm rfl) ?_ | refine State.put_touch (Mask.sub hm rfl) ?_ | refine cableUpdate_touch (Mask.sub hm rfl) ?_ | refine Touch.ite ?_ ?_ | split | dsimp only

theorem calEnd_touch (hm : m ||| 4194308 = m) {x0 : Nat} (h : Touch m a s) : Touch m a (calEnd x0 s) := by
  unfold calEnd
  repeat' with_reducible first | assumption | refine State.setCalDie_touch (Mask.sub hm rfl) ?_ | refine State.clrFlag_touch (Mask.sub hm rfl) ?_ | refine State.put_touch (Mask.sub hm rfl) ?_ | refine State.bump_touch (Mask.sub hm rfl) ?_ | refine raiseEv_touch (Mask.sub hm rfl) ?_ | refine Touch.ite ?_ ?_ | split | dsimp only

theorem startGroups_touch (hm : m ||| 4194304 = m) {x0 : Nat} {x1 : Nat} {x2 : List Nat} (h : Touch m a s) : Touch m a (startGroups x0 x1 x2 s) := by
  unfold startGroups
  repeat' with_reducible first | assumption | refine State.setCalDie_touch (Mask.sub hm rfl) ?_ | refine Touch.ite ?_ ?_ | split | dsimp only

theorem calFlyback_touch (hm : m ||| 4194308 = m) {x0 : Nat} {x1 : Nat} (h : Touch m a s) : Touch m a (calFlyback x0 x1 s) := by
  unfold calFlyback
  repeat' with_reducible first | assumption | refine State.setCalDie_touch (Mask.sub hm rfl) ?_ | refine startGroups_touch (Mask.sub hm rfl) ?_ | refine State.addSat_touch (Mask.sub hm rfl) ?_ | refine Touch.ite ?_ ?_ | split | dsimp only

theorem calGroup_touch (hm : m ||| 4194308 = m) {x0 : Nat} {x1 : Nat} {x2 : List (Nat × Nat × Int)} (h : Touch m a s) : Touch m a (calGroup x0 x1 x2 s) := by
  unfold calGroup
  repeat' with_reducible first | assumption | refine State.setCalDie_touch (Mask.sub hm rfl) ?_ | refine calEnd_touch (Mask.sub hm rfl) ?_ | refine State.put_touch (Mask.sub hm rfl) ?_ | refine forAll_touch (fun _ _ _ => ?_) ?_ | refine Touch.ite ?_ ?_ | split | dsimp only | refine Touch.set_therm (Mask.sub hm rfl) ?_

theorem calIdle_touch (hm : m ||| 4194304 = m) {x0 : Nat} (h : Touch m a s) : Touch m a (calIdle x0 s) := by
  unfold calIdle
  repeat' with_reducible first | assumption | refine startGroups_touch (Mask.sub hm rfl) ?_ | refine Touch.ite ?_ ?_ | split | dsimp only

theorem calLineStart_touch (hm : m ||| 117004 = m) {x0 : Nat} {x1 : Nat} (h : Touch m a s) : Touch m a (calLineStart x0 x1 s) := by
  unfold calLineStart
  repeat' with_reducible first | assumption | refine calLineEnd_touch (Mask.sub hm rfl) ?_ | refine State.modHead_touch (Mask.sub hm rfl) ?_ | refine State.modFrame_touch (Mask.sub hm rfl) ?_ | refine State.setOp_touch (Mask.sub hm rfl) ?_ | refine forAll_touch (fun _ _ _ => ?_) ?_ | refine Touch.ite ?_ ?_ | split | dsimp only

theorem calTaken_touch (hm : m ||| 4194304 = m) {x0 : Nat} {x1 : Nat} (h : Touch m a s) : Touch m a (calTaken x0 x1 s) := by
  unfold calTaken
  repeat' with_reducible first | assumption | refine startGroups_touch (Mask.sub hm rfl) ?_ | refine Touch.ite ?_ ?_ | split | dsimp only

theorem calStart_touch (hm : m ||| 4194308 = m) {x0 : Nat} (h : Touch m a s) : Touch m a (calStart x0 s) := by
  unfold calStart
  repeat' with_reducible first | assumption | refine calFlyback_touch (Mask.sub hm rfl) ?_ | refine calTaken_touch (Mask.sub hm rfl) ?_ | refine calIdle_touch (Mask.sub hm rfl) ?_ | refine Touch.ite ?_ ?_ | split | dsimp only

theorem calUrgent_touch (hm : m ||| 65536 = m) {x0 : Nat} (h : Touch m a s) : Touch m a (calUrgent x0 s) := by
  unfold calUrgent
  repeat' with_reducible first | assumption | refine State.modHead_touch (Mask.sub hm rfl) ?_ | refine upTo_touch (fun _ _ _ => ?_) ?_ | refine Touch.ite ?_ ?_ | split | dsimp only

theorem capTrim_touch (hm : m ||| 1048576 = m) {x0 : Sys2Proof.Machine.CapTrig} (h : Touch m a s) : Touch m a (capTrim x0 s) := by
  unfold capTrim
  repeat' with_reducible first | assumption | refine State.setCap_touch (Mask.sub hm rfl) ?_ | refine Touch.ite ?_ ?_ | split | dsimp only

theorem sendXtrig_touch (hm : m ||| 524288 = m) {x0 : Nat} {x1 : Nat} {x2 : Nat} (h : Touch m a s) : Touch m a (sendXtrig x0 x1 x2 s) := by
  unfold sendXtrig
  repeat' with_reducible first | assumption | refine Touch.ite ?_ ?_ | split | dsimp only | refine Touch.set_twin (Mask.sub hm rfl) ?_

theorem capCheck_touch (hm : m ||| 1099788 = m) (h : Touch m a s) : Touch m a (capCheck s) := by
  unfold capCheck
  repeat' with_reducible first | assumption | refine capFinish_touch (Mask.sub hm rfl) ?_ | refine State.setCap_touch (Mask.sub hm rfl) ?_ | refine Touch.ite ?_ ?_ | split | dsimp only

theorem capTrigger_touch (hm : m ||| 1886220 = m) {x0 : Sys2Proof.Machine.CapTrig} (h : Touch m a s) : Touch m a (capTrigger x0 s) := by
  unfold capTrigger
  repeat' with_reducible first | assumption | refine capTrim_touch (Mask.sub hm rfl) ?_ | refine State.setCap_touch (Mask.sub hm rfl) ?_ | refine traceTrig_touch (Mask.sub hm rfl) ?_ | refine raiseEv_touch (Mask.sub hm rfl) ?_ | refine State.put_touch (Mask.sub hm rfl) ?_ | refine milestoneAt_touch (Mask.sub hm rfl) ?_ | refine sendXtrig_touch (Mask.sub hm rfl) ?_ | refine capCheck_touch (Mask.sub hm rfl) ?_ | refine Touch.ite ?_ ?_ | split | dsimp only

theorem capKeep_touch (hm : m ||| 1886220 = m) {x0 : Nat} {x1 : Nat} {x2 : Bool} {x3 : Nat} (h : Touch m a s) : Touch m a (capKeep x0 x1 x2 x3 s) := by
  unfold capKeep
  repeat' with_reducible first | assumption | refine capPut_touch (Mask.sub hm rfl) ?_ | refine State.setCap_touch (Mask.sub hm rfl) ?_ | refine capTrigger_touch (Mask.sub hm rfl) ?_ | refine Touch.ite ?_ ?_ | split | dsimp only

theorem capStore_touch (hm : m ||| 1886220 = m) {x0 : Nat} {x1 : Nat} {x2 : Bool} {x3 : Nat} (h : Touch m a s) : Touch m a (capStore x0 x1 x2 x3 s).1 := by
  unfold capStore
  repeat' with_reducible first | assumption | refine State.setCap_touch (Mask.sub hm rfl) ?_ | refine capKeep_touch (Mask.sub hm rfl) ?_ | refine Touch.ite ?_ ?_ | split | dsimp only | refine Touch.set_fresh (Mask.sub hm rfl) ?_

theorem capGap_touch (hm : m ||| 1886220 = m) {x0 : Nat} {x1 : Option Nat} (h : Touch m a s) : Touch m a (capGap x0 x1 s) := by
  unfold capGap
  repeat' with_reducible first | assumption | refine capStore_touch (Mask.sub hm rfl) ?_ | refine Touch.pair (by assumption) (capStore_touch (Mask.sub hm rfl) ?_) | refine State.setCslot_touch (Mask.sub hm rfl) ?_ | refine State.setCap_touch (Mask.sub hm rfl) ?_ | refine Touch.ite ?_ ?_ | split | dsimp only

theorem capRecord_touch (hm : m ||| 1886220 = m) {x0 : Nat} {x1 : Nat} {x2 : Bool} {x3 : Nat} {x4 : Nat} {x5 : Nat} {x6 : Nat} {x7 : Nat} (h : Touch m a s) : Touch m a (capRecord x0 x1 x2 x3 x4 x5 x6 x7 s) := by
  unfold capRecord
  repeat' with_reducible first | assumption | refine capGap_touch (Mask.sub hm rfl) ?_ | refine capStore_touch (Mask.sub hm rfl) ?_ | refine Touch.pair (by assumption) (capStore_touch (Mask.sub hm rfl) ?_) | refine State.setCap_touch (Mask.sub hm rfl) ?_ | refine capTrigger_touch (Mask.sub hm rfl) ?_ | refine capCheck_touch (Mask.sub hm rfl) ?_ | refine Touch.ite ?_ ?_ | split | dsimp only | refine Touch.set_fresh (Mask.sub hm rfl) ?_

theorem capAvgFlush_touch (hm : m ||| 1886220 = m) {x0 : Nat} {x1 : Nat} {x2 : Nat} (h : Touch m a s) : Touch m a (capAvgFlush x0 x1 x2 s) := by
  unfold capAvgFlush
  repeat' with_reducible first | assumption | refine capRecord_touch (Mask.sub hm rfl) ?_ | refine State.setCslot_touch (Mask.sub hm rfl) ?_ | refine Touch.ite ?_ ?_ | split | dsimp only

theorem capAvgAdvance_touch (hm : m ||| 1886220 = m) {x0 : Nat} {x1 : Nat} (h : Touch m a s) : Touch m a (capAvgAdvance x0 x1 s) := by
  unfold capAvgAdvance
  repeat' with_reducible first | assumption | refine capAvgFlush_touch (Mask.sub hm rfl) ?_ | refine State.setCslot_touch (Mask.sub hm rfl) ?_ | refine Touch.ite ?_ ?_ | split | dsimp only

theorem capAvgAdd_touch (hm : m ||| 1886220 = m) {x0 : Nat} {x1 : Sys2Proof.Machine.Sample} (h : Touch m a s) : Touch m a (capAvgAdd x0 x1 s) := by
  unfold capAvgAdd
  repeat' with_reducible first | assumption | refine capAvgAdvance_touch (Mask.sub hm rfl) ?_ | refine State.setCslot_touch (Mask.sub hm rfl) ?_ | refine capAvgFlush_touch (Mask.sub hm rfl) ?_ | refine Touch.ite ?_ ?_ | split | dsimp only

theorem capConds_touch (hm : m ||| 1048576 = m) {k ns data : Nat} {value : Option Int} {prev : Option (Nat × Int)} (h : Touch m a s) :
    Touch m a (capConds k ns data value prev s).1 := by
  have hf : ∀ (f : State × Nat → Nat → State × Nat) (l : List Nat) (p : State × Nat),
      (∀ q c, Touch m a q.1 → Touch m a (f q c).1) → Touch m a p.1 → Touch m a (l.foldl f p).1 := by
    intro f l
    induction l with
    | nil => exact fun _ _ hp => hp
    | cons c r ih => exact fun p hq hp => ih _ hq (hq p c hp)
  unfold capConds
  refine hf _ _ _ (fun q c hq => ?_) h
  dsimp only
  split
  · exact State.setCap_touch (Mask.sub hm rfl) hq
  · exact hq

theorem capTake_touch (hm : m ||| 1048580 = m) {x0 : Nat} {x1 : Nat} {x2 : Nat} {x3 : Option Int} (h : Touch m a s) : Touch m a (capTake x0 x1 x2 x3 s) := by
  unfold capTake
  repeat' with_reducible first | assumption | refine capConds_touch (Mask.sub hm rfl) ?_ | refine Touch.pair (by assumption) (capConds_touch (Mask.sub hm rfl) ?_) | refine State.setCslot_touch (Mask.sub hm rfl) ?_ | refine State.bumpSat_touch (Mask.sub hm rfl) ?_ | refine Touch.ite ?_ ?_ | split | dsimp only

theorem capOffer_touch (hm : m ||| 1048580 = m) {x0 : Nat} {x1 : Nat} {x2 : Nat} {x3 : Nat} {x4 : Option Int} (h : Touch m a s) : Touch m a (capOffer x0 x1 x2 x3 x4 s) := by
  unfold capOffer
  repeat' with_reducible first | assumption | refine capTake_touch (Mask.sub hm rfl) ?_ | refine upTo_touch (fun _ _ _ => ?_) ?_ | refine Touch.ite ?_ ?_ | split | dsimp only

theorem capEvent_touch (hm : m ||| 1048580 = m) {x0 : Nat} {x1 : Nat} {x2 : BitVec 64} (h : Touch m a s) : Touch m a (capEvent x0 x1 x2 s) := by
  unfold capEvent
  repeat' with_reducible first | assumption | refine capOffer_touch (Mask.sub hm rfl) ?_ | refine Touch.ite ?_ ?_ | split | dsimp only

theorem capValue_touch (hm : m ||| 1048580 = m) {x0 : Nat} {x1 : Nat} {x2 : Nat} {x3 : Int} (h : Touch m a s) : Touch m a (capValue x0 x1 x2 x3 s) := by
  unfold capValue
  repeat' with_reducible first | assumption | refine capOffer_touch (Mask.sub hm rfl) ?_ | refine Touch.ite ?_ ?_ | split | dsimp only

theorem capMotion_touch (hm : m ||| 1048580 = m) {x0 : Nat} {x1 : Nat} (h : Touch m a s) : Touch m a (capMotion x0 x1 s) := by
  unfold capMotion
  repeat' with_reducible first | assumption | refine capValue_touch (Mask.sub hm rfl) ?_ | refine upTo_touch (fun _ _ _ => ?_) ?_ | refine Touch.ite ?_ ?_ | split | dsimp only

theorem grantDue_touch (hm : m ||| 16384 = m) {x0 : Nat} (h : Touch m a s) : Touch m a (grantDue x0 s) := by
  unfold grantDue
  repeat' with_reducible first | assumption | refine State.setPort_touch (Mask.sub hm rfl) ?_ | refine Touch.ite ?_ ?_ | split | dsimp only

theorem startCredit_touch (hm : m ||| 16384 = m) {x0 : Nat} {x1 : Nat} (h : Touch m a s) : Touch m a (startCredit x0 x1 s) := by
  unfold startCredit
  repeat' with_reducible first | assumption | refine State.setStream_touch (Mask.sub hm rfl) ?_ | refine Touch.ite ?_ ?_ | split | dsimp only

theorem linkStart_touch (hm : m ||| 16388 = m) {x0 : Nat} {x1 : Nat} (h : Touch m a s) : Touch m a (linkStart x0 x1 s) := by
  unfold linkStart
  repeat' with_reducible first | assumption | refine State.setPort_touch (Mask.sub hm rfl) ?_ | refine State.put_touch (Mask.sub hm rfl) ?_ | refine startCredit_touch (Mask.sub hm rfl) ?_ | refine forAll_touch (fun _ _ _ => ?_) ?_ | refine Touch.ite ?_ ?_ | split | dsimp only

theorem capReceive_touch (hm : m ||| 8404996 = m) {x0 : Nat} {x1 : Nat} (h : Touch m a s) : Touch m a (capReceive x0 x1 s) := by
  unfold capReceive
  repeat' with_reducible first | assumption | refine State.setFlag_touch (Mask.sub hm rfl) ?_ | refine State.put_touch (Mask.sub hm rfl) ?_ | refine State.modLane_touch (Mask.sub hm rfl) ?_ | refine portFollow_touch (Mask.sub hm rfl) ?_ | refine grantDue_touch (Mask.sub hm rfl) ?_ | refine linkStart_touch (Mask.sub hm rfl) ?_ | refine Touch.ite ?_ ?_ | split | dsimp only

theorem capSend_touch (hm : m ||| 16384 = m) {x0 : Nat} (h : Touch m a s) : Touch m a (capSend x0 s) := by
  unfold capSend
  repeat' with_reducible first | assumption | refine State.modLane_touch (Mask.sub hm rfl) ?_ | refine Touch.ite ?_ ?_ | split | dsimp only

theorem capTimeout_touch (hm : m ||| 8404996 = m) {x0 : Nat} (h : Touch m a s) : Touch m a (capTimeout x0 s) := by
  unfold capTimeout
  repeat' with_reducible first | assumption | refine laneStart_touch (Mask.sub hm rfl) ?_ | refine State.bumpSat_touch (Mask.sub hm rfl) ?_ | refine Touch.ite ?_ ?_ | split | dsimp only

theorem captureAvgEnd_touch (hm : m ||| 1886220 = m) {x0 : Nat} (h : Touch m a s) : Touch m a (captureAvgEnd x0 s) := by
  unfold captureAvgEnd
  repeat' with_reducible first | assumption | refine capAvgAdvance_touch (Mask.sub hm rfl) ?_ | refine Touch.ite ?_ ?_ | split | dsimp only

theorem captureStore_touch (hm : m ||| 1886220 = m) {x0 : Nat} (h : Touch m a s) : Touch m a (captureStore x0 s) := by
  unfold captureStore
  repeat' with_reducible first | assumption | refine State.setCslot_touch (Mask.sub hm rfl) ?_ | refine capRecord_touch (Mask.sub hm rfl) ?_ | refine capAvgAdd_touch (Mask.sub hm rfl) ?_ | refine Touch.ite ?_ ?_ | split | dsimp only

theorem captureTimeout_touch (hm : m ||| 1886220 = m) {x0 : Nat} (h : Touch m a s) : Touch m a (captureTimeout x0 s) := by
  unfold captureTimeout
  repeat' with_reducible first | assumption | refine State.setCap_touch (Mask.sub hm rfl) ?_ | refine capRecord_touch (Mask.sub hm rfl) ?_ | refine Touch.ite ?_ ?_ | split | dsimp only

theorem cfgId_touch (hm : m ||| 4 = m) (h : Touch m a s) : Touch m a (cfgId s) := by
  unfold cfgId
  repeat' with_reducible first | assumption | refine State.put_touch (Mask.sub hm rfl) ?_ | refine Touch.ite ?_ ?_ | split | dsimp only

theorem channelsDiffer_touch (hm : m ||| 51038220 = m) (h : Touch m a s) : Touch m a (channelsDiffer s) := by
  unfold channelsDiffer
  repeat' with_reducible first | assumption | refine guardLatch_touch (Mask.sub hm rfl) ?_ | refine Touch.ite ?_ ?_ | split | dsimp only

theorem takeOp_touch (hm : m ||| 256 = m) {x0 : Nat} {x1 : Nat} (h : Touch m a s) : Touch m a (takeOp x0 x1 s) := by
  unfold takeOp
  repeat' with_reducible first | assumption | refine State.setOp_touch (Mask.sub hm rfl) ?_ | refine Touch.ite ?_ ?_ | split | dsimp only

theorem takeFrame_touch (hm : m ||| 2048 = m) {x0 : Nat} (h : Touch m a s) : Touch m a (takeFrame x0 s) := by
  unfold takeFrame
  repeat' with_reducible first | assumption | refine State.modFrame_touch (Mask.sub hm rfl) ?_ | refine Touch.ite ?_ ?_ | split | dsimp only

theorem countRecord_touch (hm : m ||| 2052 = m) {x0 : Nat} {x1 : Option Nat} {x2 : Nat} (h : Touch m a s) : Touch m a (countRecord x0 x1 x2 s) := by
  unfold countRecord
  repeat' with_reducible first | assumption | refine State.bump_touch (Mask.sub hm rfl) ?_ | refine State.modFrame_touch (Mask.sub hm rfl) ?_ | refine Touch.ite ?_ ?_ | split | dsimp only

theorem pushPoint_touch (hm : m ||| 51212 = m) {x0 : Nat} {x1 : Option Nat} {x2 : Nat} {x3 : Sys2Proof.Machine.Rec} (h : Touch m a s) : Touch m a (pushPoint x0 x1 x2 x3 s) := by
  unfold pushPoint
  repeat' with_reducible first | assumption | refine pushStream_touch (Mask.sub hm rfl) ?_ | refine countRecord_touch (Mask.sub hm rfl) ?_ | refine Touch.ite ?_ ?_ | split | dsimp only

theorem emitHeld_touch (hm : m ||| 51212 = m) {x0 : Sys2Proof.Machine.Held} (h : Touch m a s) : Touch m a (emitHeld x0 s) := by
  unfold emitHeld
  repeat' with_reducible first | assumption | refine pushPoint_touch (Mask.sub hm rfl) ?_ | refine forAll_touch (fun _ _ _ => ?_) ?_ | refine Touch.ite ?_ ?_ | split | dsimp only

theorem takeOverExchange_touch (hm : m ||| 131076 = m) {x0 : Nat} (h : Touch m a s) : Touch m a (takeOverExchange x0 s) := by
  unfold takeOverExchange
  repeat' with_reducible first | assumption | refine pairsAll_touch (Mask.sub hm rfl) ?_ | refine State.setFlag_touch (Mask.sub hm rfl) ?_ | refine startExchange_touch (Mask.sub hm rfl) ?_ | refine State.setDrv_touch (Mask.sub hm rfl) ?_ | refine upTo_touch (fun _ _ _ => ?_) ?_ | refine Touch.ite ?_ ?_ | split | dsimp only

theorem takeOver_touch (hm : m ||| 720652 = m) {x0 : Nat} {x1 : Nat} (h : Touch m a s) : Touch m a (takeOver x0 x1 s) := by
  unfold takeOver
  repeat' with_reducible first | assumption | refine State.setTwin_touch (Mask.sub hm rfl) ?_ | refine takeOp_touch (Mask.sub hm rfl) ?_ | refine abandonWhere_touch (Mask.sub hm rfl) ?_ | refine abandonMissed_touch (Mask.sub hm rfl) ?_ | refine takeFrame_touch (Mask.sub hm rfl) ?_ | refine emitHeld_touch (Mask.sub hm rfl) ?_ | refine takeOverExchange_touch (Mask.sub hm rfl) ?_ | refine sqStart_touch (Mask.sub hm rfl) ?_ | refine twinMs_touch (Mask.sub hm rfl) ?_ | refine forAll_touch (fun _ _ _ => ?_) ?_ | refine upTo_touch (fun _ _ _ => ?_) ?_ | refine Touch.ite ?_ ?_ | split | dsimp only

theorem unlearnFrom_touch (hm : m ||| 8 = m) {x0 : Nat} (h : Touch m a s) : Touch m a (unlearnFrom x0 s) := by
  unfold unlearnFrom
  repeat' with_reducible first | assumption | refine Touch.ite ?_ ?_ | split | dsimp only | refine Touch.filter (Mask.sub hm rfl) ?_

theorem takeOverPartial_touch (hm : m ||| 720652 = m) (h : Touch m a s) : Touch m a (takeOverPartial s) := by
  unfold takeOverPartial
  repeat' with_reducible first | assumption | refine unlearnFrom_touch (Mask.sub hm rfl) ?_ | refine State.setOp_touch (Mask.sub hm rfl) ?_ | refine takeOver_touch (Mask.sub hm rfl) ?_ | refine forAll_touch (fun _ _ _ => ?_) ?_ | refine Touch.ite ?_ ?_ | split | dsimp only

theorem claimBringUp_touch (hm : m ||| 131076 = m) (h : Touch m a s) : Touch m a (claimBringUp s) := by
  unfold claimBringUp
  repeat' with_reducible first | assumption | refine bringUp_touch (Mask.sub hm rfl) ?_ | refine pairsAll_touch (Mask.sub hm rfl) ?_ | refine upTo_touch (fun _ _ _ => ?_) ?_ | refine Touch.ite ?_ ?_ | split | dsimp only

theorem claim_touch (hm : m ||| 720652 = m) {x0 : Bool} (h : Touch m a s) : Touch m a (claim x0 s) := by
  unfold claim
  repeat' with_reducible first | assumption | refine State.bumpSat_touch (Mask.sub hm rfl) ?_ | refine State.setTwin_touch (Mask.sub hm rfl) ?_ | refine State.setFlag_touch (Mask.sub hm rfl) ?_ | refine State.put_touch (Mask.sub hm rfl) ?_ | refine takeOver_touch (Mask.sub hm rfl) ?_ | refine takeOverPartial_touch (Mask.sub hm rfl) ?_ | refine claimBringUp_touch (Mask.sub hm rfl) ?_ | refine Touch.ite ?_ ?_ | split | dsimp only

theorem claimSeq_touch (hm : m ||| 8396804 = m) {x0 : Bool} {x1 : Nat} {x2 : Nat} (h : Touch m a s) : Touch m a (claimSeq x0 x1 x2 s) := by
  unfold claimSeq
  repeat' with_reducible first | assumption | refine State.put_touch (Mask.sub hm rfl) ?_ | refine State.setSeq_touch (Mask.sub hm rfl) ?_ | refine State.setSec_touch (Mask.sub hm rfl) ?_ | refine Touch.ite ?_ ?_ | split | dsimp only

theorem clearPage_touch (hm : m ||| 512 = m) {x0 : Nat} {x1 : Nat} (h : Touch m a s) : Touch m a (clearPage x0 x1 s) := by
  unfold clearPage
  repeat' with_reducible first | assumption | refine State.setGroup_touch (Mask.sub hm rfl) ?_ | refine Touch.ite ?_ ?_ | split | dsimp only

theorem setFstat_touch (hm : m ||| 4096 = m) {x0 : Nat} {x1 : Nat} {x2 : Sys2Proof.Machine.FrameAcc} {x3 : Nat} (h : Touch m a s) : Touch m a (setFstat x0 x1 x2 x3 s) := by
  unfold setFstat
  repeat' with_reducible first | assumption | refine Touch.ite ?_ ?_ | split | dsimp only | refine Touch.set_pts (Mask.sub hm rfl) ?_

theorem hopRegions_touch (hm : m ||| 4100 = m) {x0 : Nat} {x1 : Sys2Proof.Machine.FrameAcc} (h : Touch m a s) : Touch m a (hopRegions x0 x1 s) := by
  unfold hopRegions
  repeat' with_reducible first | assumption | refine State.bumpSat_touch (Mask.sub hm rfl) ?_ | refine upTo_touch (fun _ _ _ => ?_) ?_ | refine Touch.ite ?_ ?_ | split | dsimp only | refine Touch.set_pts (Mask.sub hm rfl) ?_

theorem stopDone_touch (hm : m ||| 69636 = m) {x0 : Nat} {x1 : Nat} (h : Touch m a s) : Touch m a (stopDone x0 x1 s) := by
  unfold stopDone
  repeat' with_reducible first | assumption | refine headStopped_touch (Mask.sub hm rfl) ?_ | refine scanStart_touch (Mask.sub hm rfl) ?_ | refine Touch.ite ?_ ?_ | split | dsimp only

theorem policyWeather_touch (hm : m ||| 55308 = m) {x0 : Nat} {x1 : Sys2Proof.Machine.PolicySt} {x2 : Sys2Proof.Machine.PolicySt} (h : Touch m a s) : Touch m a (policyWeather x0 x1 x2 s) := by
  unfold policyWeather
  repeat' with_reducible first | assumption | refine State.setPolicy_touch (Mask.sub hm rfl) ?_ | refine forwardReg_touch (Mask.sub hm rfl) ?_ | refine State.clrFlag_touch (Mask.sub hm rfl) ?_ | refine State.putb_touch (Mask.sub hm rfl) ?_ | refine milestoneAt_touch (Mask.sub hm rfl) ?_ | refine Touch.ite ?_ ?_ | split | dsimp only

theorem policyCell_touch (hm : m ||| 4104 = m) {x0 : Nat} {x1 : Nat} {x2 : Sys2Proof.Machine.PolicyParams} {x3 : Sys2Proof.Machine.ScanFormat} {x4 : Nat} {x5 : Nat} (h : Touch m a s) : Touch m a (policyCell x0 x1 x2 x3 x4 x5 s) := by
  unfold policyCell
  repeat' with_reducible first | assumption | refine State.setByte_touch (Mask.sub hm rfl) ?_ | refine State.setPolicy_touch (Mask.sub hm rfl) ?_ | refine Touch.ite ?_ ?_ | split | dsimp only

theorem policyHeader_touch (hm : m ||| 8 = m) {x0 : Nat} {x1 : Nat} {x2 : Nat} {x3 : Sys2Proof.Machine.ScanFormat} (h : Touch m a s) : Touch m a (policyHeader x0 x1 x2 x3 s) := by
  unfold policyHeader
  repeat' with_reducible first | assumption | refine State.store_touch (Mask.sub hm rfl) ?_ | refine Touch.ite ?_ ?_ | split | dsimp only

theorem policySweep_touch (hm : m ||| 20484 = m) {x0 : Nat} {x1 : Sys2Proof.Machine.PolicyParams} (h : Touch m a s) : Touch m a (policySweep x0 x1 s) := by
  unfold policySweep
  repeat' with_reducible first | assumption | refine forwardReg_touch (Mask.sub hm rfl) ?_ | refine State.put_touch (Mask.sub hm rfl) ?_ | refine State.setPolicy_touch (Mask.sub hm rfl) ?_ | refine upTo_touch (fun _ _ _ => ?_) ?_ | refine Touch.ite ?_ ?_ | split | dsimp only

theorem policyBand_touch (hm : m ||| 118796 = m) {x0 : Nat} {x1 : Sys2Proof.Machine.PolicyParams} {x2 : Sys2Proof.Machine.ScanFormat} (h : Touch m a s) : Touch m a (policyBand x0 x1 x2 s) := by
  unfold policyBand
  repeat' with_reducible first | assumption | refine policyCell_touch (Mask.sub hm rfl) ?_ | refine forwardBytes_touch (Mask.sub hm rfl) ?_ | refine policyHeader_touch (Mask.sub hm rfl) ?_ | refine State.put_touch (Mask.sub hm rfl) ?_ | refine forwardReg_touch (Mask.sub hm rfl) ?_ | refine forward_touch (Mask.sub hm rfl) ?_ | refine commitFrond_touch (Mask.sub hm rfl) ?_ | refine State.setPolicy_touch (Mask.sub hm rfl) ?_ | refine policySweep_touch (Mask.sub hm rfl) ?_ | refine forAll_touch (fun _ _ _ => ?_) ?_ | refine Touch.ite ?_ ?_ | split | dsimp only

theorem policyFrame_touch (hm : m ||| 120844 = m) {x0 : Nat} {x1 : Nat} {x2 : Nat} {x3 : Nat} (h : Touch m a s) : Touch m a (policyFrame x0 x1 x2 x3 s) := by
  unfold policyFrame
  repeat' with_reducible first | assumption | refine policyWeather_touch (Mask.sub hm rfl) ?_ | refine State.setPolicy_touch (Mask.sub hm rfl) ?_ | refine policyBand_touch (Mask.sub hm rfl) ?_ | refine Touch.ite ?_ ?_ | split | dsimp only

theorem closeFrame_touch (hm : m ||| 120844 = m) {x0 : Nat} {x1 : Nat} (h : Touch m a s) : Touch m a (closeFrame x0 x1 s) := by
  unfold closeFrame
  repeat' with_reducible first | assumption | refine milestone_touch (Mask.sub hm rfl) ?_ | refine setFstat_touch (Mask.sub hm rfl) ?_ | refine State.setFrame_touch (Mask.sub hm rfl) ?_ | refine hopRegions_touch (Mask.sub hm rfl) ?_ | refine raiseEv_touch (Mask.sub hm rfl) ?_ | refine stopDone_touch (Mask.sub hm rfl) ?_ | refine policyFrame_touch (Mask.sub hm rfl) ?_ | refine Touch.ite ?_ ?_ | split | dsimp only

theorem closeFrames_touch (hm : m ||| 120844 = m) (h : Touch m a s) : Touch m a (closeFrames s) := by
  unfold closeFrames
  repeat' with_reducible first | assumption | refine closeFrame_touch (Mask.sub hm rfl) ?_ | refine forAll_touch (fun _ _ _ => ?_) ?_ | refine Touch.ite ?_ ?_ | split | dsimp only

theorem closeStream_touch (hm : m ||| 51212 = m) {x0 : Nat} (h : Touch m a s) : Touch m a (closeStream x0 s) := by
  unfold closeStream
  repeat' with_reducible first | assumption | refine closeParcel_touch (Mask.sub hm rfl) ?_ | refine State.setStream_touch (Mask.sub hm rfl) ?_ | refine emitGap_touch (Mask.sub hm rfl) ?_ | refine Touch.ite ?_ ?_ | split | dsimp only

theorem commandApply_touch (hm : m ||| 262148 = m) {x0 : Nat} {x1 : Bool} (h : Touch m a s) : Touch m a (commandApply x0 x1 s) := by
  unfold commandApply
  repeat' with_reducible first | assumption | refine State.setLoop_touch (Mask.sub hm rfl) ?_ | refine State.bumpSat_touch (Mask.sub hm rfl) ?_ | refine Touch.ite ?_ ?_ | split | dsimp only

theorem tearLine_touch (hm : m ||| 67584 = m) {x0 : Nat} {x1 : Bool} (h : Touch m a s) : Touch m a (tearLine x0 x1 s) := by
  unfold tearLine
  repeat' with_reducible first | assumption | refine State.modHead_touch (Mask.sub hm rfl) ?_ | refine State.modFrame_touch (Mask.sub hm rfl) ?_ | refine Touch.ite ?_ ?_ | split | dsimp only

theorem compose_touch (hm : m ||| 67604 = m) {x0 : Nat} (h : Touch m a s) : Touch m a (compose x0 s) := by
  unfold compose
  repeat' with_reducible first | assumption | refine beginLine_touch (Mask.sub hm rfl) ?_ | refine tearLine_touch (Mask.sub hm rfl) ?_ | refine State.setHead_touch (Mask.sub hm rfl) ?_ | refine Touch.ite ?_ ?_ | split | dsimp only

theorem configErr_touch (hm : m ||| 33554436 = m) {x0 : Nat} (h : Touch m a s) : Touch m a (configErr x0 s) := by
  unfold configErr
  repeat' with_reducible first | assumption | refine enterErr_touch (Mask.sub hm rfl) ?_ | refine Touch.ite ?_ ?_ | split | dsimp only

theorem copyNext_touch (hm : m ||| 573444 = m) (h : Touch m a s) : Touch m a (copyNext s) := by
  unfold copyNext
  repeat' with_reducible first | assumption | refine cwyParcel_touch (Mask.sub hm rfl) ?_ | refine copyOpen_touch (Mask.sub hm rfl) ?_ | refine Touch.ite ?_ ?_ | split | dsimp only | refine Touch.set_twin (Mask.sub hm rfl) ?_

theorem correlatorTake_touch (hm : m ||| 1296 = m) {x0 : Nat} (h : Touch m a s) : Touch m a (correlatorTake x0 s) := by
  unfold correlatorTake
  repeat' with_reducible first | assumption | refine State.setDie_touch (Mask.sub hm rfl) ?_ | refine State.setOp_touch (Mask.sub hm rfl) ?_ | refine Touch.ite ?_ ?_ | split | dsimp only | refine Touch.set_fresh (Mask.sub hm rfl) ?_

theorem creditReceive_touch (hm : m ||| 16384 = m) {x0 : Nat} {x1 : List (Nat × Nat)} (h : Touch m a s) : Touch m a (creditReceive x0 x1 s) := by
  unfold creditReceive
  repeat' with_reducible first | assumption | refine State.setStream_touch (Mask.sub hm rfl) ?_ | refine forAll_touch (fun _ _ _ => ?_) ?_ | refine Touch.ite ?_ ?_ | split | dsimp only

theorem ctrlReadReq_touch (hm : m ||| 2130068 = m) {x0 : Nat} {x1 : Nat} (h : Touch m a s) : Touch m a (ctrlReadReq x0 x1 s).2.2 := by
  unfold ctrlReadReq
  repeat' with_reducible first | assumption | refine busRead_touch (Mask.sub hm rfl) ?_ | refine Touch.pair2 (by assumption) (busRead_touch (Mask.sub hm rfl) ?_) | refine Touch.ite ?_ ?_ | split | dsimp only

theorem ctrlServe_touch (hm : m ||| 51212 = m) {p : Nat} {may : Nat → Bool} {f : Nat → State → Nat × Nat × State}
    (hf : ∀ r t, Touch m a t → Touch m a (f r t).2.2) (h : Touch m a s) : Touch m a (ctrlServe p may f s) := by
  unfold ctrlServe
  dsimp only
  split
  · split
    · exact pushStream_touch (Mask.sub hm rfl) (hf _ _ (State.setPort_touch (Mask.sub hm rfl) h))
    · exact h
  · exact h

theorem ctrlWriteReq_touch (hm : m ||| 67108828 = m) {x0 : Nat} {x1 : Nat} (h : Touch m a s) : Touch m a (ctrlWriteReq x0 x1 s).2.2 := by
  unfold ctrlWriteReq
  repeat' with_reducible first | assumption | refine busWrite_touch (Mask.sub hm rfl) ?_ | refine Touch.ite ?_ ?_ | split | dsimp only

theorem curveExpandDone_touch (hm : m ||| 2097156 = m) {x0 : Nat} (h : Touch m a s) : Touch m a (curveExpandDone x0 s) := by
  unfold curveExpandDone
  repeat' with_reducible first | assumption | refine State.setFlag_touch (Mask.sub hm rfl) ?_ | refine State.clrFlag_touch (Mask.sub hm rfl) ?_ | refine State.put_touch (Mask.sub hm rfl) ?_ | refine State.setSport_touch (Mask.sub hm rfl) ?_ | refine Touch.ite ?_ ?_ | split | dsimp only

theorem cwyCheck_touch (hm : m ||| 524292 = m) (h : Touch m a s) : Touch m a (cwyCheck s) := by
  unfold cwyCheck
  repeat' with_reducible first | assumption | refine State.setTwin_touch (Mask.sub hm rfl) ?_ | refine State.put_touch (Mask.sub hm rfl) ?_ | refine Touch.ite ?_ ?_ | split | dsimp only

theorem noticeDecision_touch (hm : m ||| 16384 = m) {x0 : Sys2Proof.Machine.Op} {x1 : List Nat} {x2 : Nat} (h : Touch m a s) : Touch m a (noticeDecision x0 x1 x2 s) := by
  unfold noticeDecision
  repeat' with_reducible first | assumption | refine cwySend_touch (Mask.sub hm rfl) ?_ | refine Touch.ite ?_ ?_ | split | dsimp only

theorem nvBegin_touch (hm : m ||| 8388608 = m) (h : Touch m a s) : Touch m a (nvBegin s) := by
  unfold nvBegin
  repeat' with_reducible first | assumption | refine State.setNvPair_touch (Mask.sub hm rfl) ?_ | refine Touch.ite ?_ ?_ | split | dsimp only | refine Touch.set_sec (Mask.sub hm rfl) ?_

theorem learnObs_touch (hm : m ||| 16392 = m) {x0 : Sys2Proof.Machine.Obs} (h : Touch m a s) : Touch m a (learnObs x0 s) := by
  unfold learnObs
  repeat' with_reducible first | assumption | refine State.setLichen_touch (Mask.sub hm rfl) ?_ | refine Touch.ite ?_ ?_ | split | dsimp only

theorem serveUrgent_touch (hm : m ||| 8409096 = m) (h : Touch m a s) : Touch m a (serveUrgent s) := by
  unfold serveUrgent
  repeat' with_reducible first | assumption | refine nvBegin_touch (Mask.sub hm rfl) ?_ | refine learnObs_touch (Mask.sub hm rfl) ?_ | refine forAll_touch (fun _ _ _ => ?_) ?_ | refine Touch.ite ?_ ?_ | split | dsimp only | refine Touch.set_pts (Mask.sub hm rfl) ?_

theorem decline_touch (hm : m ||| 8517644 = m) {x0 : Sys2Proof.Machine.Op} {x1 : Nat} (h : Touch m a s) : Touch m a (decline x0 x1 s) := by
  unfold decline
  repeat' with_reducible first | assumption | refine State.bump_touch (Mask.sub hm rfl) ?_ | refine State.modFrame_touch (Mask.sub hm rfl) ?_ | refine State.modHead_touch (Mask.sub hm rfl) ?_ | refine cqProbe_touch (Mask.sub hm rfl) ?_ | refine noticeDecision_touch (Mask.sub hm rfl) ?_ | refine pushPoint_touch (Mask.sub hm rfl) ?_ | refine serveUrgent_touch (Mask.sub hm rfl) ?_ | refine Touch.ite ?_ ?_ | split | dsimp only

theorem issue_touch (hm : m ||| 19204 = m) {x0 : Sys2Proof.Machine.Op} {x1 : List Nat} (h : Touch m a s) : Touch m a (issue x0 x1 s) := by
  unfold issue
  repeat' with_reducible first | assumption | refine State.setGroup_touch (Mask.sub hm rfl) ?_ | refine State.setOp_touch (Mask.sub hm rfl) ?_ | refine noticeDecision_touch (Mask.sub hm rfl) ?_ | refine State.bump_touch (Mask.sub hm rfl) ?_ | refine State.modFrame_touch (Mask.sub hm rfl) ?_ | refine Touch.ite ?_ ?_ | split | dsimp only

theorem decideOp_touch (hm : m ||| 8518412 = m) {x0 : Sys2Proof.Machine.Op} {x1 : List Nat} {x2 : Bool} {x3 : Bool} (h : Touch m a s) : Touch m a (decideOp x0 x1 x2 x3 s) := by
  unfold decideOp
  repeat' with_reducible first | assumption | refine decline_touch (Mask.sub hm rfl) ?_ | refine issue_touch (Mask.sub hm rfl) ?_ | refine Touch.ite ?_ ?_ | split | dsimp only

theorem dropEvent_touch (hm : m ||| 260 = m) {x0 : Nat} {x1 : Nat} (h : Touch m a s) : Touch m a (dropEvent x0 x1 s) := by
  unfold dropEvent
  repeat' with_reducible first | assumption | refine State.setFlag_touch (Mask.sub hm rfl) ?_ | refine State.bumpSat_touch (Mask.sub hm rfl) ?_ | refine takeWaiting_touch (Mask.sub hm rfl) ?_ | refine modOps_touch (Mask.sub hm rfl) ?_ | refine Touch.ite ?_ ?_ | split | dsimp only

theorem deliver_touch (hm : m ||| 1048900 = m) {x0 : Nat} {x1 : Sys2Proof.Machine.OpenEvent} {x2 : Nat} {x3 : Bool} (h : Touch m a s) : Touch m a (deliver x0 x1 x2 x3 s) := by
  unfold deliver
  repeat' with_reducible first | assumption | refine State.bump_touch (Mask.sub hm rfl) ?_ | refine State.put_touch (Mask.sub hm rfl) ?_ | refine State.setChan_touch (Mask.sub hm rfl) ?_ | refine capEvent_touch (Mask.sub hm rfl) ?_ | refine dropEvent_touch (Mask.sub hm rfl) ?_ | refine Touch.ite ?_ ?_ | split | dsimp only

theorem dieDark_touch (hm : m ||| 33566468 = m) {x0 : Nat} (h : Touch m a s) : Touch m a (dieDark x0 s) := by
  unfold dieDark
  repeat' with_reducible first | assumption | refine State.put_touch (Mask.sub hm rfl) ?_ | refine abandonWhere_touch (Mask.sub hm rfl) ?_ | refine enterErr_touch (Mask.sub hm rfl) ?_ | refine Touch.ite ?_ ?_ | split | dsimp only

theorem dqsTrack_touch (hm : m ||| 32768 = m) {x0 : Nat} {x1 : Int} (h : Touch m a s) : Touch m a (dqsTrack x0 x1 s) := by
  unfold dqsTrack
  repeat' with_reducible first | assumption | refine State.setDram_touch (Mask.sub hm rfl) ?_ | refine Touch.ite ?_ ?_ | split | dsimp only

theorem dramAccess_touch (hm : m ||| 67108828 = m) {x0 : Nat} {x1 : Nat} {x2 : Nat} {x3 : Bool} {x4 : Nat} {x5 : Nat} (h : Touch m a s) : Touch m a (dramAccess x0 x1 x2 x3 x4 x5 s) := by
  unfold dramAccess
  repeat' with_reducible first | assumption | refine linkError_touch (Mask.sub hm rfl) ?_ | refine replayStore_touch (Mask.sub hm rfl) ?_ | refine roleReject_touch (Mask.sub hm rfl) ?_ | refine dramAsk_touch (Mask.sub hm rfl) ?_ | refine busWrite_touch (Mask.sub hm rfl) ?_ | refine busRead_touch (Mask.sub hm rfl) ?_ | refine Touch.pair2 (by assumption) (busRead_touch (Mask.sub hm rfl) ?_) | refine Touch.ite ?_ ?_ | split | dsimp only

theorem dramResume_touch (hm : m ||| 33587212 = m) {x0 : Nat} {x1 : Nat} (h : Touch m a s) : Touch m a (dramResume x0 x1 s) := by
  unfold dramResume
  repeat' with_reducible first | assumption | refine dramAsk_touch (Mask.sub hm rfl) ?_ | refine State.setDram_touch (Mask.sub hm rfl) ?_ | refine forAll_touch (fun _ _ _ => ?_) ?_ | refine Touch.ite ?_ ?_ | split | dsimp only

theorem dropOpenEvents_touch (hm : m ||| 1344 = m) {x0 : Nat → Bool} (h : Touch m a s) : Touch m a (dropOpenEvents x0 s) := by
  unfold dropOpenEvents
  repeat' with_reducible first | assumption | refine queueChan_touch (Mask.sub hm rfl) ?_ | refine State.setChan_touch (Mask.sub hm rfl) ?_ | refine forAll_touch (fun _ _ _ => ?_) ?_ | refine Touch.ite ?_ ?_ | split | dsimp only

theorem dropProbe_touch (hm : m ||| 8196 = m) {x0 : Sys2Proof.Machine.ProbeReq} (h : Touch m a s) : Touch m a (dropProbe x0 s) := by
  unfold dropProbe
  repeat' with_reducible first | assumption | refine cqProbe_touch (Mask.sub hm rfl) ?_ | refine Touch.ite ?_ ?_ | split | dsimp only

theorem dueBlock_touch (hm : m ||| 540672 = m) {l : Nat} {p : State × Nat} (e : dueBlock l s = some p) (h : Touch m a s) : Touch m a p.1 := by
  unfold dueBlock at e
  dsimp only at e
  split at e
  · cases e; exact Touch.set_twin (Mask.sub hm rfl) h
  · split at e
    · cases e; exact ackBlock_touch (Mask.sub hm rfl) h
    · split at e
      · cases e; exact State.setPort_touch (Mask.sub hm rfl) h
      · cases e

theorem dueByTemp_touch (hm : m ||| 4194308 = m) {x0 : Nat} (h : Touch m a s) : Touch m a (dueByTemp x0 s) := by
  unfold dueByTemp
  repeat' with_reducible first | assumption | refine makeDue_touch (Mask.sub hm rfl) ?_ | refine Touch.ite ?_ ?_ | split | dsimp only

theorem iuDriveDone_touch (hm : m ||| 4 = m) (h : Touch m a s) : Touch m a (iuDriveDone s) := by
  unfold iuDriveDone
  repeat' with_reducible first | assumption | refine State.setFlag_touch (Mask.sub hm rfl) ?_ | refine State.put_touch (Mask.sub hm rfl) ?_ | refine raiseEv_touch (Mask.sub hm rfl) ?_ | refine State.clrFlag_touch (Mask.sub hm rfl) ?_ | refine Touch.ite ?_ ?_ | split | dsimp only

theorem echoEdge_touch (hm : m ||| 131076 = m) {x0 : Nat} {x1 : Nat} (h : Touch m a s) : Touch m a (echoEdge x0 x1 s) := by
  unfold echoEdge
  repeat' with_reducible first | assumption | refine State.modBank_touch (Mask.sub hm rfl) ?_ | refine State.setDrv_touch (Mask.sub hm rfl) ?_ | refine iuDriveDone_touch (Mask.sub hm rfl) ?_ | refine Touch.ite ?_ ?_ | split | dsimp only

theorem emitRecord_touch (hm : m ||| 51212 = m) {x0 : Sys2Proof.Machine.Op} {x1 : Nat} {x2 : Nat} {x3 : Nat} {x4 : Nat} {x5 : Nat} {x6 : Nat} (h : Touch m a s) : Touch m a (emitRecord x0 x1 x2 x3 x4 x5 x6 s).1 := by
  unfold emitRecord
  repeat' with_reducible first | assumption | refine pushPoint_touch (Mask.sub hm rfl) ?_ | refine Touch.ite ?_ ?_ | split | dsimp only

theorem echoRecord_touch (hm : m ||| 51212 = m) {x0 : Sys2Proof.Machine.Op} {x1 : Nat} {x2 : Option Nat} {x3 : Sys2Proof.Machine.EchoOut} (h : Touch m a s) : Touch m a (echoRecord x0 x1 x2 x3 s).1 := by
  unfold echoRecord
  repeat' with_reducible first | assumption | refine State.bump_touch (Mask.sub hm rfl) ?_ | refine State.modFrame_touch (Mask.sub hm rfl) ?_ | refine emitRecord_touch (Mask.sub hm rfl) ?_ | refine Touch.pair (by assumption) (emitRecord_touch (Mask.sub hm rfl) ?_) | refine Touch.ite ?_ ?_ | split | dsimp only

theorem echoRecords_touch (hm : m ||| 51212 = m) {o : Op} {e : Nat} {mt : Option Nat} {l : List EchoOut} (h : Touch m a s) :
    Touch m a (echoRecords o e mt l s).1 := by
  induction l generalizing s with
  | nil => exact h
  | cons x r ih => exact ih (echoRecord_touch (Mask.sub hm rfl) h)

theorem elevRead_touch (hm : m ||| 16777216 = m) {x0 : Nat} {x1 : Nat} (h : Touch m a s) : Touch m a (elevRead x0 x1 s) := by
  unfold elevRead
  repeat' with_reducible first | assumption | refine State.setProof_touch (Mask.sub hm rfl) ?_ | refine Touch.ite ?_ ?_ | split | dsimp only

theorem emenFault_touch (hm : m ||| 51038220 = m) {x0 : Bool} (h : Touch m a s) : Touch m a (emenFault x0 s) := by
  unfold emenFault
  repeat' with_reducible first | assumption | refine State.putb_touch (Mask.sub hm rfl) ?_ | refine guardLatch_touch (Mask.sub hm rfl) ?_ | refine Touch.ite ?_ ?_ | split | dsimp only | refine Touch.set_guard (Mask.sub hm rfl) ?_

theorem emitReading_touch (hm : m ||| 131072 = m) {x0 : Nat} {x1 : Nat} {x2 : Nat} (h : Touch m a s) : Touch m a (emitReading x0 x1 x2 s) := by
  unfold emitReading
  repeat' with_reducible first | assumption | refine State.modBank_touch (Mask.sub hm rfl) ?_ | refine Touch.ite ?_ ?_ | split | dsimp only

theorem encEdge_touch (hm : m ||| 17039364 = m) {x0 : Nat} {x1 : Bool} {x2 : Bool} (h : Touch m a s) : Touch m a (encEdge x0 x1 x2 s) := by
  unfold encEdge
  repeat' with_reducible first | assumption | refine State.setEnc_touch (Mask.sub hm rfl) ?_ | refine State.setFlag_touch (Mask.sub hm rfl) ?_ | refine State.bumpSat_touch (Mask.sub hm rfl) ?_ | refine State.setProof_touch (Mask.sub hm rfl) ?_ | refine State.puti_touch (Mask.sub hm rfl) ?_ | refine Touch.ite ?_ ?_ | split | dsimp only

theorem encIndex_touch (hm : m ||| 17039364 = m) {x0 : Nat} {x1 : Bool} (h : Touch m a s) : Touch m a (encIndex x0 x1 s) := by
  unfold encIndex
  repeat' with_reducible first | assumption | refine State.puti_touch (Mask.sub hm rfl) ?_ | refine State.setEnc_touch (Mask.sub hm rfl) ?_ | refine State.setProof_touch (Mask.sub hm rfl) ?_ | refine State.setFlag_touch (Mask.sub hm rfl) ?_ | refine Touch.ite ?_ ?_ | split | dsimp only

theorem endOps_touch (hm : m ||| 130828 = m) (h : Touch m a s) : Touch m a (endOps s) := by
  unfold endOps
  repeat' with_reducible first | assumption | refine abandonWhere_touch (Mask.sub hm rfl) ?_ | refine stopVisits_touch (Mask.sub hm rfl) ?_ | refine State.modFrame_touch (Mask.sub hm rfl) ?_ | refine closeFrames_touch (Mask.sub hm rfl) ?_ | refine upTo_touch (fun _ _ _ => ?_) ?_ | refine forAll_touch (fun _ _ _ => ?_) ?_ | refine Touch.ite ?_ ?_ | split | dsimp only

theorem endSessions_touch (hm : m ||| 8388608 = m) {x0 : Nat} (h : Touch m a s) : Touch m a (endSessions x0 s) := by
  unfold endSessions
  repeat' with_reducible first | assumption | refine State.setSec_touch (Mask.sub hm rfl) ?_ | refine upTo_touch (fun _ _ _ => ?_) ?_ | refine Touch.ite ?_ ?_ | split | dsimp only

theorem sqStopAll_touch (hm : m ||| 8196 = m) (h : Touch m a s) : Touch m a (sqStopAll s) := by
  unfold sqStopAll
  repeat' with_reducible first | assumption | refine sqStop_touch (Mask.sub hm rfl) ?_ | refine upTo_touch (fun _ _ _ => ?_) ?_ | refine Touch.ite ?_ ?_ | split | dsimp only

theorem epochStart_touch (hm : m ||| 532484 = m) (h : Touch m a s) : Touch m a (epochStart s) := by
  unfold epochStart
  repeat' with_reducible first | assumption | refine sqStopAll_touch (Mask.sub hm rfl) ?_ | refine State.setTwin_touch (Mask.sub hm rfl) ?_ | refine State.put_touch (Mask.sub hm rfl) ?_ | refine Touch.ite ?_ ?_ | split | dsimp only

theorem epochReceive_touch (hm : m ||| 67108828 = m) {x0 : Nat} {x1 : Nat} {x2 : Nat} {x3 : List Nat} (h : Touch m a s) : Touch m a (epochReceive x0 x1 x2 x3 s) := by
  unfold epochReceive
  repeat' with_reducible first | assumption | refine epochStart_touch (Mask.sub hm rfl) ?_ | refine applyWaiting_touch (Mask.sub hm rfl) ?_ | refine State.setTwin_touch (Mask.sub hm rfl) ?_ | refine State.bumpSat_touch (Mask.sub hm rfl) ?_ | refine applyEpoch_touch (Mask.sub hm rfl) ?_ | refine Touch.ite ?_ ?_ | split | dsimp only

theorem exchangeAt_touch (hm : m ||| 131076 = m) {x0 : Nat} {x1 : Nat} (h : Touch m a s) : Touch m a (exchangeAt x0 x1 s) := by
  unfold exchangeAt
  repeat' with_reducible first | assumption | refine startExchange_touch (Mask.sub hm rfl) ?_ | refine State.setDrv_touch (Mask.sub hm rfl) ?_ | refine Touch.ite ?_ ?_ | split | dsimp only

theorem softStopEnd_touch (hm : m ||| 131076 = m) {x0 : Nat} (h : Touch m a s) : Touch m a (softStopEnd x0 s) := by
  unfold softStopEnd
  repeat' with_reducible first | assumption | refine driveOff_touch (Mask.sub hm rfl) ?_ | refine State.setFlag_touch (Mask.sub hm rfl) ?_ | refine State.clrFlag_touch (Mask.sub hm rfl) ?_ | refine Touch.ite ?_ ?_ | split | dsimp only

theorem stepRamps_touch (hm : m ||| 131072 = m) {x0 : Nat} (h : Touch m a s) : Touch m a (stepRamps x0 s) := by
  unfold stepRamps
  repeat' with_reducible first | assumption | refine State.setDrv_touch (Mask.sub hm rfl) ?_ | refine Touch.ite ?_ ?_ | split | dsimp only

theorem sendCommand_touch (hm : m ||| 131076 = m) {x0 : Nat} {x1 : Nat} (h : Touch m a s) : Touch m a (sendCommand x0 x1 s) := by
  unfold sendCommand
  repeat' with_reducible first | assumption | refine State.setBank_touch (Mask.sub hm rfl) ?_ | refine State.put_touch (Mask.sub hm rfl) ?_ | refine Touch.ite ?_ ?_ | split | dsimp only | refine Touch.set_drive (Mask.sub hm rfl) ?_ | refine Touch.set_cap (Mask.sub hm rfl) ?_

theorem exchangeCommand_touch (hm : m ||| 131076 = m) {x0 : Nat} (h : Touch m a s) : Touch m a (exchangeCommand x0 s) := by
  unfold exchangeCommand
  repeat' with_reducible first | assumption | refine State.setDrv_touch (Mask.sub hm rfl) ?_ | refine modBanks_touch (Mask.sub hm rfl) ?_ | refine softStopEnd_touch (Mask.sub hm rfl) ?_ | refine stepRamps_touch (Mask.sub hm rfl) ?_ | refine sendCommand_touch (Mask.sub hm rfl) ?_ | refine upTo_touch (fun _ _ _ => ?_) ?_ | refine Touch.ite ?_ ?_ | split | dsimp only

theorem exchangeMark_touch (hm : m ||| 131204 = m) {x0 : Nat} (h : Touch m a s) : Touch m a (exchangeMark x0 s) := by
  unfold exchangeMark
  repeat' with_reducible first | assumption | refine modBanks_touch (Mask.sub hm rfl) ?_ | refine State.clrFlag_touch (Mask.sub hm rfl) ?_ | refine State.setFlag_touch (Mask.sub hm rfl) ?_ | refine State.put_touch (Mask.sub hm rfl) ?_ | refine State.setDrv_touch (Mask.sub hm rfl) ?_ | refine Touch.ite ?_ ?_ | split | dsimp only | refine Touch.set_tb (Mask.sub hm rfl) ?_

theorem facetPhase_touch (hm : m ||| 262148 = m) {x0 : Nat} (h : Touch m a s) : Touch m a (facetPhase x0 s) := by
  unfold facetPhase
  repeat' with_reducible first | assumption | refine State.modLoop_touch (Mask.sub hm rfl) ?_ | refine State.puti_touch (Mask.sub hm rfl) ?_ | refine State.setLoop_touch (Mask.sub hm rfl) ?_ | refine State.clrFlag_touch (Mask.sub hm rfl) ?_ | refine State.setFlag_touch (Mask.sub hm rfl) ?_ | refine Touch.ite ?_ ?_ | split | dsimp only

theorem factoryInstall_touch (hm : m ||| 25165828 = m) (h : Touch m a s) : Touch m a (factoryInstall s) := by
  unfold factoryInstall
  repeat' with_reducible first | assumption | refine State.setReg_touch (Mask.sub hm rfl) ?_ | refine State.put_touch (Mask.sub hm rfl) ?_ | refine State.setSec_touch (Mask.sub hm rfl) ?_ | refine Touch.ite ?_ ?_ | split | dsimp only | refine Touch.set_guard (Mask.sub hm rfl) ?_

theorem fatalTimeout_touch (hm : m ||| 33554432 = m) (h : Touch m a s) : Touch m a (fatalTimeout s) := by
  unfold fatalTimeout
  repeat' with_reducible first | assumption | refine Touch.ite ?_ ?_ | split | dsimp only | refine Touch.set_su (Mask.sub hm rfl) ?_

theorem guardHold_touch (hm : m ||| 16828428 = m) {x0 : Nat} {x1 : Nat} (h : Touch m a s) : Touch m a (guardHold x0 x1 s) := by
  unfold guardHold
  repeat' with_reducible first | assumption | refine guardTo_touch (Mask.sub hm rfl) ?_ | refine Touch.ite ?_ ?_ | split | dsimp only | refine Touch.set_fresh (Mask.sub hm rfl) ?_ | refine Touch.set_guard (Mask.sub hm rfl) ?_

theorem orderlyStop_touch (hm : m ||| 21743884 = m) (h : Touch m a s) : Touch m a (orderlyStop s) := by
  unfold orderlyStop
  repeat' with_reducible first | assumption | refine guardHold_touch (Mask.sub hm rfl) ?_ | refine guardMs_touch (Mask.sub hm rfl) ?_ | refine State.setFlag_touch (Mask.sub hm rfl) ?_ | refine stopHead_touch (Mask.sub hm rfl) ?_ | refine releaseOwn_touch (Mask.sub hm rfl) ?_ | refine Touch.ite ?_ ?_ | split | dsimp only | refine Touch.set_twin (Mask.sub hm rfl) ?_ | refine Touch.set_therm (Mask.sub hm rfl) ?_

theorem nvCut_touch (hm : m ||| 8388608 = m) {x0 : Bool} (h : Touch m a s) : Touch m a (nvCut x0 s) := by
  unfold nvCut
  repeat' with_reducible first | assumption | refine State.setNvPair_touch (Mask.sub hm rfl) ?_ | refine Touch.ite ?_ ?_ | split | dsimp only | refine Touch.set_sec (Mask.sub hm rfl) ?_

theorem hwShutdown_touch (hm : m ||| 46792724 = m) {cause die sensor : Nat} {temp : Int} (h : Touch m a s) :
    Touch m a (hwShutdown cause die sensor temp s) := by
  unfold hwShutdown
  extract_lets s1 s2
  have h1 : Touch m a s1 := State.puti_touch (Mask.sub hm rfl) (State.put_touch (Mask.sub hm rfl) (State.put_touch (Mask.sub hm rfl) (State.put_touch (Mask.sub hm rfl) h)))
  clear_value s1
  have h2 : Touch m a s2 := State.bumpSat_touch (Mask.sub hm rfl) h1
  clear_value s2
  split
  next v s3 e =>
  have h3 : Touch m a s3 := by
    exact Touch.pair2 e (State.drawIf_touch (Mask.sub hm rfl) h2)
  extract_lets s4 s5 s6
  have h4 : Touch m a s4 := nvCut_touch (Mask.sub hm rfl) h3
  clear_value s4
  have h5 : Touch m a s5 := State.clrFlag_touch (Mask.sub hm rfl) (State.clrFlag_touch (Mask.sub hm rfl) (State.clrFlag_touch (Mask.sub hm rfl) (State.clrFlag_touch (Mask.sub hm rfl) h4)))
  clear_value s5
  have h6 : Touch m a s6 := dropOwn_touch (Mask.sub hm rfl) h5
  clear_value s6
  exact Touch.many 37748736 (Mask.sub hm rfl) h6 (fun i hi hb => by unfold State.Same; split <;> first | rfl | trivial | exact absurd hb (by decide)) id

theorem faultSensor_touch (hm : m ||| 63696668 = m) {x0 : Nat} {x1 : Nat} (h : Touch m a s) : Touch m a (faultSensor x0 x1 s) := by
  unfold faultSensor
  repeat' with_reducible first | assumption | refine State.put_touch (Mask.sub hm rfl) ?_ | refine enterErr_touch (Mask.sub hm rfl) ?_ | refine dieDark_touch (Mask.sub hm rfl) ?_ | refine orderlyStop_touch (Mask.sub hm rfl) ?_ | refine hwShutdown_touch (Mask.sub hm rfl) ?_ | refine Touch.ite ?_ ?_ | split | dsimp only | refine Touch.set_therm (Mask.sub hm rfl) ?_

theorem seqResume_touch (hm : m ||| 8196 = m) {x0 : Nat} (h : Touch m a s) : Touch m a (seqResume x0 s) := by
  unfold seqResume
  repeat' with_reducible first | assumption | refine State.put_touch (Mask.sub hm rfl) ?_ | refine State.setSeq_touch (Mask.sub hm rfl) ?_ | refine Touch.ite ?_ ?_ | split | dsimp only

theorem fenceDone_touch (hm : m ||| 8196 = m) {x0 : Nat} (h : Touch m a s) : Touch m a (fenceDone x0 s) := by
  unfold fenceDone
  repeat' with_reducible first | assumption | refine seqResume_touch (Mask.sub hm rfl) ?_ | refine Touch.ite ?_ ?_ | split | dsimp only

theorem limiterReq_touch (hm : m ||| 16777216 = m) {x0 : Nat} {x1 : Nat} {x2 : Nat} {x3 : Nat} (h : Touch m a s) : Touch m a (limiterReq x0 x1 x2 x3 s) := by
  unfold limiterReq
  repeat' with_reducible first | assumption | refine Touch.ite ?_ ?_ | split | dsimp only | refine Touch.set_guard (Mask.sub hm rfl) ?_

theorem limiterAdd_touch (hm : m ||| 16777216 = m) {h b t eu : Nat} {u : State} (e : limiterAdd h b t eu s = some u) (k : Touch m a s) : Touch m a u := by
  unfold limiterAdd at e
  dsimp only at e
  split at e
  · cases e; exact Touch.set_guard (Mask.sub hm rfl) k
  · cases e

theorem suppress_touch (hm : m ||| 16644 = m) {x0 : Nat} {x1 : Nat} {x2 : Nat} (h : Touch m a s) : Touch m a (suppress x0 x1 x2 s) := by
  unfold suppress
  repeat' with_reducible first | assumption | refine noticePulses_touch (Mask.sub hm rfl) ?_ | refine State.add_touch (Mask.sub hm rfl) ?_ | refine State.setOp_touch (Mask.sub hm rfl) ?_ | refine Touch.ite ?_ ?_ | split | dsimp only

theorem limitBlock_touch (hm : m ||| 16828428 = m) {x0 : Nat} {x1 : Nat} {x2 : Nat} {x3 : Nat} (h : Touch m a s) : Touch m a (limitBlock x0 x1 x2 x3 s) := by
  unfold limitBlock
  repeat' with_reducible first | assumption | refine State.setFlag_touch (Mask.sub hm rfl) ?_ | refine State.bump_touch (Mask.sub hm rfl) ?_ | refine guardMs_touch (Mask.sub hm rfl) ?_ | refine Touch.ite ?_ ?_ | split | dsimp only | refine Touch.set_guard (Mask.sub hm rfl) ?_

theorem firedShot_touch (hm : m ||| 16777216 = m) {x0 : Nat} {x1 : Sys2Proof.Machine.Shot} (h : Touch m a s) : Touch m a (firedShot x0 x1 s) := by
  unfold firedShot
  repeat' with_reducible first | assumption | refine Touch.ite ?_ ?_ | split | dsimp only | refine Touch.set_guard (Mask.sub hm rfl) ?_

theorem openWindow_touch (hm : m ||| 260 = m) {x0 : Nat} {x1 : Nat} {x2 : Sys2Proof.Machine.Op} {x3 : Nat} (h : Touch m a s) : Touch m a (openWindow x0 x1 x2 x3 s) := by
  unfold openWindow
  repeat' with_reducible first | assumption | refine takeWaiting_touch (Mask.sub hm rfl) ?_ | refine State.setOp_touch (Mask.sub hm rfl) ?_ | refine Touch.ite ?_ ?_ | split | dsimp only

theorem fireBank_touch (hm : m ||| 17484044 = m) {d slot : Nat} {o : Op} {f : Nat} (h : Touch m a s) : Touch m a (fireBank d slot o f s) := by
  unfold fireBank
  extract_lets _ b offs
  split
  extract_lets ws eu s1 s2
  have h1 : Touch m a s1 := Touch.ite (State.setFlag_touch (Mask.sub hm rfl) h) h
  clear_value s1
  have h2 : Touch m a s2 := limiterReq_touch (Mask.sub hm rfl) h1
  clear_value s2
  split
  · exact suppress_touch (Mask.sub hm rfl) (limitBlock_touch (Mask.sub hm rfl) h2)
  · next s3 e =>
    have h3 := limiterAdd_touch (Mask.sub hm rfl) e h2
    extract_lets s4 s5 _ s6
    have h4 : Touch m a s4 := State.modBank_touch (Mask.sub hm rfl) h3
    clear_value s4
    have h5 : Touch m a s5 := firedShot_touch (Mask.sub hm rfl) h4
    clear_value s5
    refine openWindow_touch (Mask.sub hm rfl) ?_
    unfold s6
    split
    · exact State.put_touch (Mask.sub hm rfl) (Touch.set_twin (Mask.sub hm rfl) h5)
    · exact h5

theorem firedReport_touch (hm : m ||| 51038220 = m) {x0 : Nat} {x1 : Nat} {x2 : Nat} (h : Touch m a s) : Touch m a (firedReport x0 x1 x2 s) := by
  unfold firedReport
  repeat' with_reducible first | assumption | refine guardLatch_touch (Mask.sub hm rfl) ?_ | refine Touch.ite ?_ ?_ | split | dsimp only | refine Touch.set_guard (Mask.sub hm rfl) ?_

theorem standbyEnter_touch (hm : m ||| 51468 = m) {x0 : Nat} (h : Touch m a s) : Touch m a (standbyEnter x0 s) := by
  unfold standbyEnter
  repeat' with_reducible first | assumption | refine State.put_touch (Mask.sub hm rfl) ?_ | refine State.setOp_touch (Mask.sub hm rfl) ?_ | refine twinMs_touch (Mask.sub hm rfl) ?_ | refine forAll_touch (fun _ _ _ => ?_) ?_ | refine Touch.ite ?_ ?_ | split | dsimp only

theorem missedAge_touch (hm : m ||| 526340 = m) (h : Touch m a s) : Touch m a (missedAge s) := by
  unfold missedAge
  repeat' with_reducible first | assumption | refine abandonMissed_touch (Mask.sub hm rfl) ?_ | refine forAll_touch (fun _ _ _ => ?_) ?_ | refine Touch.ite ?_ ?_ | split | dsimp only | refine Touch.set_twin (Mask.sub hm rfl) ?_

theorem policyOpen_touch (hm : m ||| 20488 = m) {x0 : Nat} (h : Touch m a s) : Touch m a (policyOpen x0 s) := by
  unfold policyOpen
  repeat' with_reducible first | assumption | refine State.setByte_touch (Mask.sub hm rfl) ?_ | refine forwardBytes_touch (Mask.sub hm rfl) ?_ | refine State.setPolicy_touch (Mask.sub hm rfl) ?_ | refine forAll_touch (fun _ _ _ => ?_) ?_ | refine Touch.ite ?_ ?_ | split | dsimp only

theorem useCommits_touch (hm : m ||| 65540 = m) {x0 : Nat} {x1 : Nat} (h : Touch m a s) : Touch m a (useCommits x0 x1 s) := by
  unfold useCommits
  repeat' with_reducible first | assumption | refine State.modHead_touch (Mask.sub hm rfl) ?_ | refine State.put_touch (Mask.sub hm rfl) ?_ | refine upTo_touch (fun _ _ _ => ?_) ?_ | refine Touch.ite ?_ ?_ | split | dsimp only

theorem syncAdjust_touch (hm : m ||| 65540 = m) {x0 : Nat} {x1 : Nat} {x2 : Sys2Proof.Machine.ScanFormat} (h : Touch m a s) : Touch m a (syncAdjust x0 x1 x2 s).1 := by
  unfold syncAdjust
  repeat' with_reducible first | assumption | refine State.puti_touch (Mask.sub hm rfl) ?_ | refine State.modHead_touch (Mask.sub hm rfl) ?_ | refine State.put_touch (Mask.sub hm rfl) ?_ | refine Touch.ite ?_ ?_ | split | dsimp only

theorem frameOpenAt_touch (hm : m ||| 383116 = m) {h o9 : Nat} {f : ScanFormat} (k : Touch m a s) : Touch m a (frameOpenAt h o9 f s) := by
  unfold frameOpenAt
  extract_lets x first s1 count s2 s3 s4 s5
  have h1 : Touch m a s1 := State.modFrame_touch (Mask.sub hm rfl) k
  clear_value s1
  have h2 : Touch m a s2 := State.put_touch (Mask.sub hm rfl) h1
  clear_value s2 count
  have h3 : Touch m a s3 := State.setFrame_touch (Mask.sub hm rfl) h2
  clear_value s3
  have h4 : Touch m a s4 := policyOpen_touch (Mask.sub hm rfl) (useCommits_touch (Mask.sub hm rfl) h3)
  clear_value s4
  have h5 : Touch m a s5 := Touch.ite (facetZero_touch (Mask.sub hm rfl) h4) h4
  clear_value s5
  split
  next s6 adj e =>
  have h6 : Touch m a s6 := by
    split at e
    · cases e; exact h5
    · exact Touch.pair e (syncAdjust_touch (Mask.sub hm rfl) h5)
  extract_lets n9 s7 s8 t1 s9
  have h7 : Touch m a s7 := State.setHead_touch (Mask.sub hm rfl) h6
  clear_value s7
  have h8 : Touch m a s8 := State.clrFlag_touch (Mask.sub hm rfl) h7
  clear_value s8
  have h9 : Touch m a s9 := Touch.ite (Touch.set_tb (Mask.sub hm rfl) h8) (Touch.set_tb (Mask.sub hm rfl) h8)
  clear_value s9
  exact anchorRepeat_touch (Mask.sub hm rfl) (raiseEv_touch (Mask.sub hm rfl) (milestoneAt_touch (Mask.sub hm rfl) h9))

theorem frameOpen_touch (hm : m ||| 907660 = m) {x0 : Nat} (h : Touch m a s) : Touch m a (frameOpen x0 s) := by
  unfold frameOpen
  repeat' with_reducible first | assumption | refine forwardReg_touch (Mask.sub hm rfl) ?_ | refine standbyEnter_touch (Mask.sub hm rfl) ?_ | refine missedAge_touch (Mask.sub hm rfl) ?_ | refine frameOpenAt_touch (Mask.sub hm rfl) ?_ | refine Touch.ite ?_ ?_ | split | dsimp only

theorem fuEdge_touch (hm : m ||| 128 = m) {x0 : Nat} {x1 : Nat} (h : Touch m a s) : Touch m a (fuEdge x0 x1 s) := by
  unfold fuEdge
  repeat' with_reducible first | assumption | refine Touch.ite ?_ ?_ | split | dsimp only | refine Touch.set_tb (Mask.sub hm rfl) ?_

theorem mainsResult_touch (hm : m ||| 4 = m) {x0 : Nat} {x1 : Int} (h : Touch m a s) : Touch m a (mainsResult x0 x1 s) := by
  unfold mainsResult
  repeat' with_reducible first | assumption | refine State.put_touch (Mask.sub hm rfl) ?_ | refine State.setFlag_touch (Mask.sub hm rfl) ?_ | refine Touch.ite ?_ ?_ | split | dsimp only

theorem fuStore_touch (hm : m ||| 20 = m) {x0 : Sys2Proof.Machine.Gate} {x1 : Nat} {x2 : Int} {x3 : Int} (h : Touch m a s) : Touch m a (fuStore x0 x1 x2 x3 s) := by
  unfold fuStore
  repeat' with_reducible first | assumption | refine State.drawIf_touch (Mask.sub hm rfl) ?_ | refine Touch.pair2 (by assumption) (State.drawIf_touch (Mask.sub hm rfl) ?_) | refine State.put_touch (Mask.sub hm rfl) ?_ | refine State.setFlag_touch (Mask.sub hm rfl) ?_ | refine Touch.ite ?_ ?_ | split | dsimp only

theorem fuFinish_touch (hm : m ||| 20 = m) {x0 : Sys2Proof.Machine.Gate} (h : Touch m a s) : Touch m a (fuFinish x0 s) := by
  unfold fuFinish
  repeat' with_reducible first | assumption | refine raiseEv_touch (Mask.sub hm rfl) ?_ | refine mainsResult_touch (Mask.sub hm rfl) ?_ | refine State.setFlag_touch (Mask.sub hm rfl) ?_ | refine fuStore_touch (Mask.sub hm rfl) ?_ | refine Touch.ite ?_ ?_ | split | dsimp only

theorem fuGateEnd_touch (hm : m ||| 128 = m) {x0 : Bool} (h : Touch m a s) : Touch m a (fuGateEnd x0 s) := by
  unfold fuGateEnd
  repeat' with_reducible first | assumption | refine Touch.ite ?_ ?_ | split | dsimp only | refine Touch.set_tb (Mask.sub hm rfl) ?_

theorem fuGateOpen_touch (hm : m ||| 132 = m) {x0 : Bool} (h : Touch m a s) : Touch m a (fuGateOpen x0 s) := by
  unfold fuGateOpen
  repeat' with_reducible first | assumption | refine gateOpen_touch (Mask.sub hm rfl) ?_ | refine Touch.ite ?_ ?_ | split | dsimp only

theorem fuResult_touch (hm : m ||| 148 = m) (h : Touch m a s) : Touch m a (fuResult s) := by
  unfold fuResult
  repeat' with_reducible first | assumption | refine State.clrFlag_touch (Mask.sub hm rfl) ?_ | refine raiseEv_touch (Mask.sub hm rfl) ?_ | refine State.setFlag_touch (Mask.sub hm rfl) ?_ | refine fuFinish_touch (Mask.sub hm rfl) ?_ | refine Touch.ite ?_ ?_ | split | dsimp only | refine Touch.set_tb (Mask.sub hm rfl) ?_

theorem gapSplit_touch (hm : m ||| 51212 = m) {x0 : Nat} (h : Touch m a s) : Touch m a (gapSplit x0 s) := by
  unfold gapSplit
  repeat' with_reducible first | assumption | refine State.setStream_touch (Mask.sub hm rfl) ?_ | refine openGap_touch (Mask.sub hm rfl) ?_ | refine closeCore_touch (Mask.sub hm rfl) ?_ | refine Touch.pair (by assumption) (closeCore_touch (Mask.sub hm rfl) ?_) | refine emitGap_touch (Mask.sub hm rfl) ?_ | refine Touch.ite ?_ ?_ | split | dsimp only

theorem modeMove_touch (hm : m ||| 262144 = m) {x0 : Nat} {x1 : Int} (h : Touch m a s) : Touch m a (modeMove x0 x1 s) := by
  unfold modeMove
  repeat' with_reducible first | assumption | refine State.setLoop_touch (Mask.sub hm rfl) ?_ | refine Touch.ite ?_ ?_ | split | dsimp only

theorem setParked_touch (hm : m ||| 4 = m) {x0 : Nat} (h : Touch m a s) : Touch m a (setParked x0 s) := by
  unfold setParked
  repeat' with_reducible first | assumption | refine State.put_touch (Mask.sub hm rfl) ?_ | refine State.setFlag_touch (Mask.sub hm rfl) ?_ | refine Touch.ite ?_ ?_ | split | dsimp only

theorem loopOff_touch (hm : m ||| 262148 = m) {x0 : Nat} (h : Touch m a s) : Touch m a (loopOff x0 s) := by
  unfold loopOff
  repeat' with_reducible first | assumption | refine State.modLoop_touch (Mask.sub hm rfl) ?_ | refine State.clrFlag_touch (Mask.sub hm rfl) ?_ | refine State.put_touch (Mask.sub hm rfl) ?_ | refine Touch.ite ?_ ?_ | split | dsimp only

theorem moveEnd_touch (hm : m ||| 262148 = m) {x0 : Nat} {x1 : Int} (h : Touch m a s) : Touch m a (moveEnd x0 x1 s) := by
  unfold moveEnd
  repeat' with_reducible first | assumption | refine State.modLoop_touch (Mask.sub hm rfl) ?_ | refine raiseEv_touch (Mask.sub hm rfl) ?_ | refine State.clrFlag_touch (Mask.sub hm rfl) ?_ | refine setParked_touch (Mask.sub hm rfl) ?_ | refine loopOff_touch (Mask.sub hm rfl) ?_ | refine Touch.ite ?_ ?_ | split | dsimp only

theorem moveEval_touch (hm : m ||| 262148 = m) {x0 : Nat} {x1 : Nat} (h : Touch m a s) : Touch m a (moveEval x0 x1 s) := by
  unfold moveEval
  repeat' with_reducible first | assumption | refine moveEnd_touch (Mask.sub hm rfl) ?_ | refine State.modLoop_touch (Mask.sub hm rfl) ?_ | refine Touch.ite ?_ ?_ | split | dsimp only

theorem moveStart_touch (hm : m ||| 262148 = m) {x0 : Nat} {x1 : Nat} {x2 : Sys2Proof.Machine.MoveReq} (h : Touch m a s) : Touch m a (moveStart x0 x1 x2 s) := by
  unfold moveStart
  repeat' with_reducible first | assumption | refine traceTrig_touch (Mask.sub hm rfl) ?_ | refine moveEnd_touch (Mask.sub hm rfl) ?_ | refine State.modLoop_touch (Mask.sub hm rfl) ?_ | refine State.setFlag_touch (Mask.sub hm rfl) ?_ | refine Touch.ite ?_ ?_ | split | dsimp only

theorem moveTake_touch (hm : m ||| 262148 = m) {x0 : Nat} {x1 : Nat} {x2 : Sys2Proof.Machine.MoveReq} (h : Touch m a s) : Touch m a (moveTake x0 x1 x2 s) := by
  unfold moveTake
  repeat' with_reducible first | assumption | refine moveStart_touch (Mask.sub hm rfl) ?_ | refine State.modLoop_touch (Mask.sub hm rfl) ?_ | refine Touch.ite ?_ ?_ | split | dsimp only

theorem genStep_touch (hm : m ||| 262148 = m) {x0 : Nat} {x1 : Nat} {x2 : Int} (h : Touch m a s) : Touch m a (genStep x0 x1 x2 s) := by
  unfold genStep
  repeat' with_reducible first | assumption | refine modeMove_touch (Mask.sub hm rfl) ?_ | refine moveEval_touch (Mask.sub hm rfl) ?_ | refine moveTake_touch (Mask.sub hm rfl) ?_ | refine Touch.ite ?_ ?_ | split | dsimp only

theorem guardUnhold_touch (hm : m ||| 16828428 = m) {x0 : Nat} {x1 : Nat} (h : Touch m a s) : Touch m a (guardUnhold x0 x1 s) := by
  unfold guardUnhold
  repeat' with_reducible first | assumption | refine guardTo_touch (Mask.sub hm rfl) ?_ | refine Touch.ite ?_ ?_ | split | dsimp only | refine Touch.set_guard (Mask.sub hm rfl) ?_

theorem ginAgreed_touch (hm : m ||| 16828428 = m) {x0 : Nat} (h : Touch m a s) : Touch m a (ginAgreed x0 s) := by
  unfold ginAgreed
  repeat' with_reducible first | assumption | refine State.setGin_touch (Mask.sub hm rfl) ?_ | refine guardUnhold_touch (Mask.sub hm rfl) ?_ | refine State.put_touch (Mask.sub hm rfl) ?_ | refine Touch.ite ?_ ?_ | split | dsimp only

theorem putBit_touch (hm : m ||| 4 = m) {x0 : Sys2Proof.Machine.Field} {x1 : Nat} {x2 : Bool} (h : Touch m a s) : Touch m a (putBit x0 x1 x2 s) := by
  unfold putBit
  repeat' with_reducible first | assumption | refine State.put_touch (Mask.sub hm rfl) ?_ | refine Touch.ite ?_ ?_ | split | dsimp only

theorem ginRead_touch (hm : m ||| 51038220 = m) {x0 : Nat} {x1 : Nat} {x2 : Bool} (h : Touch m a s) : Touch m a (ginRead x0 x1 x2 s) := by
  unfold ginRead
  repeat' with_reducible first | assumption | refine putBit_touch (Mask.sub hm rfl) ?_ | refine State.bump_touch (Mask.sub hm rfl) ?_ | refine State.setGin_touch (Mask.sub hm rfl) ?_ | refine guardHold_touch (Mask.sub hm rfl) ?_ | refine guardUnhold_touch (Mask.sub hm rfl) ?_ | refine guardLatch_touch (Mask.sub hm rfl) ?_ | refine Touch.ite ?_ ?_ | split | dsimp only

theorem ginBegin_touch (hm : m ||| 51038220 = m) (h : Touch m a s) : Touch m a (ginBegin s) := by
  unfold ginBegin
  repeat' with_reducible first | assumption | refine ginRead_touch (Mask.sub hm rfl) ?_ | refine upTo_touch (fun _ _ _ => ?_) ?_ | refine Touch.ite ?_ ?_ | split | dsimp only

theorem ginPins_touch (hm : m ||| 16777216 = m) {x0 : Nat} {x1 : Bool} {x2 : Bool} (h : Touch m a s) : Touch m a (ginPins x0 x1 x2 s) := by
  unfold ginPins
  repeat' with_reducible first | assumption | refine State.setGin_touch (Mask.sub hm rfl) ?_ | refine Touch.ite ?_ ?_ | split | dsimp only

theorem twinCheck_touch (hm : m ||| 51038220 = m) (h : Touch m a s) : Touch m a (twinCheck s) := by
  unfold twinCheck
  repeat' with_reducible first | assumption | refine guardLatch_touch (Mask.sub hm rfl) ?_ | refine Touch.ite ?_ ?_ | split | dsimp only

theorem twinCompare_touch (hm : m ||| 16777216 = m) (h : Touch m a s) : Touch m a (twinCompare s) := by
  unfold twinCompare
  repeat' with_reducible first | assumption | refine upTo_touch (fun _ _ _ => ?_) ?_ | refine Touch.ite ?_ ?_ | split | dsimp only | refine Touch.set_guard (Mask.sub hm rfl) ?_

theorem ginChange_touch (hm : m ||| 51038220 = m) {x0 : Nat} {x1 : Nat} {x2 : Bool} {x3 : Bool} (h : Touch m a s) : Touch m a (ginChange x0 x1 x2 x3 s) := by
  unfold ginChange
  repeat' with_reducible first | assumption | refine ginPins_touch (Mask.sub hm rfl) ?_ | refine twinCheck_touch (Mask.sub hm rfl) ?_ | refine twinCompare_touch (Mask.sub hm rfl) ?_ | refine ginRead_touch (Mask.sub hm rfl) ?_ | refine Touch.ite ?_ ?_ | split | dsimp only

theorem ginTimeout_touch (hm : m ||| 51038220 = m) {x0 : Nat} (h : Touch m a s) : Touch m a (ginTimeout x0 s) := by
  unfold ginTimeout
  repeat' with_reducible first | assumption | refine guardLatch_touch (Mask.sub hm rfl) ?_ | refine Touch.ite ?_ ?_ | split | dsimp only

theorem refHandoff_touch (hm : m ||| 4194304 = m) {x0 : Nat} {x1 : Sys2Proof.Machine.Op} (h : Touch m a s) : Touch m a (refHandoff x0 x1 s) := by
  unfold refHandoff
  repeat' with_reducible first | assumption | refine Touch.ite ?_ ?_ | split | dsimp only | refine Touch.set_therm (Mask.sub hm rfl) ?_

theorem queueObs_touch (hm : m ||| 4100 = m) {x0 : Sys2Proof.Machine.Op} {x1 : List Sys2Proof.Machine.EchoOut} (h : Touch m a s) : Touch m a (queueObs x0 x1 s) := by
  unfold queueObs
  repeat' with_reducible first | assumption | refine State.setFlag_touch (Mask.sub hm rfl) ?_ | refine State.bumpSat_touch (Mask.sub hm rfl) ?_ | refine Touch.ite ?_ ?_ | split | dsimp only | refine Touch.set_pts (Mask.sub hm rfl) ?_

theorem heldTrim_touch (hm : m ||| 524292 = m) {n : Nat} (h : Touch m a s) : Touch m a (heldTrim n s) := by
  induction n generalizing s with
  | zero => exact h
  | succ n ih =>
    unfold heldTrim
    split
    · exact h
    · split
      · exact ih (State.bumpSat_touch (Mask.sub hm rfl) (Touch.set_twin (Mask.sub hm rfl) h))
      · exact h

theorem holdRecords_touch (hm : m ||| 524292 = m) {x0 : Sys2Proof.Machine.Op} {x1 : List (Nat × Sys2Proof.Machine.ParcelKey × Sys2Proof.Machine.Rec)} (h : Touch m a s) : Touch m a (holdRecords x0 x1 s) := by
  unfold holdRecords
  repeat' with_reducible first | assumption | refine heldTrim_touch (Mask.sub hm rfl) ?_ | refine Touch.ite ?_ ?_ | split | dsimp only | refine Touch.set_twin (Mask.sub hm rfl) ?_

theorem probePost_touch (hm : m ||| 8196 = m) {x0 : Sys2Proof.Machine.Op} {x1 : Sys2Proof.Machine.ProbeInfo} {x2 : List Sys2Proof.Machine.EchoOut} (h : Touch m a s) : Touch m a (probePost x0 x1 x2 s) := by
  unfold probePost
  repeat' with_reducible first | assumption | refine cqProbe_touch (Mask.sub hm rfl) ?_ | refine Touch.ite ?_ ?_ | split | dsimp only

theorem watchPost_touch (hm : m ||| 8196 = m) {x0 : Sys2Proof.Machine.Op} {x1 : List Sys2Proof.Machine.EchoOut} {x2 : Option Nat} {x3 : Nat} (h : Touch m a s) : Touch m a (watchPost x0 x1 x2 x3 s) := by
  unfold watchPost
  repeat' with_reducible first | assumption | refine State.bumpSat_touch (Mask.sub hm rfl) ?_ | refine cqAdd_touch (Mask.sub hm rfl) ?_ | refine Touch.ite ?_ ?_ | split | dsimp only

theorem pointHandoff_touch (hm : m ||| 587804 = m) {d : Nat} {o : Op} (h : Touch m a s) : Touch m a (pointHandoff d o s) := by
  unfold pointHandoff
  split
  next v s1 e1 =>
  have h1 := Touch.pair2 e1 (State.drawIf_touch (Mask.sub hm rfl) h)
  extract_lets hd l s2 s3 e matched n s4 s5 s6
  have h2 : Touch m a s2 := Touch.ite (State.setFlag_touch (Mask.sub hm rfl) h1) h1
  clear_value s2
  have h3 : Touch m a s3 := State.add_touch (Mask.sub hm rfl) h2
  clear_value s3
  have h4 : Touch m a s4 := Touch.ite h3 (State.setLichen_touch (Mask.sub hm rfl) h3)
  clear_value s4
  have h5 : Touch m a s5 := Touch.ite (queueObs_touch (Mask.sub hm rfl) h4) h4
  clear_value s5
  have h6 : Touch m a s6 := by
    unfold s6; split
    · exact State.modFrame_touch (Mask.sub hm rfl) h5
    · exact h5
  clear_value s6
  split
  next s7 held e7 =>
  have h7 : Touch m a s7 := by
    split at e7
    · split at e7
      · exact Touch.pair e7 (emitRecord_touch (Mask.sub hm rfl) h6)
      · cases e7; exact h6
    · exact Touch.pair e7 (echoRecords_touch (Mask.sub hm rfl) h6)
  extract_lets s8
  have h8 : Touch m a s8 := Touch.ite (holdRecords_touch (Mask.sub hm rfl) h7) h7
  clear_value s8
  split
  · exact probePost_touch (Mask.sub hm rfl) h8
  · exact upTo_touch (fun _ _ k => watchPost_touch (Mask.sub hm rfl) k) h8

theorem noticeEgress_touch (hm : m ||| 16384 = m) {x0 : Sys2Proof.Machine.Op} {x1 : Nat} (h : Touch m a s) : Touch m a (noticeEgress x0 x1 s) := by
  unfold noticeEgress
  repeat' with_reducible first | assumption | refine cwySend_touch (Mask.sub hm rfl) ?_ | refine Touch.ite ?_ ?_ | split | dsimp only

theorem handoff_touch (hm : m ||| 13172508 = m) {x0 : Nat} (h : Touch m a s) : Touch m a (handoff x0 s) := by
  unfold handoff
  repeat' with_reducible first | assumption | refine State.setDie_touch (Mask.sub hm rfl) ?_ | refine State.bump_touch (Mask.sub hm rfl) ?_ | refine refHandoff_touch (Mask.sub hm rfl) ?_ | refine pointHandoff_touch (Mask.sub hm rfl) ?_ | refine serveUrgent_touch (Mask.sub hm rfl) ?_ | refine noticeEgress_touch (Mask.sub hm rfl) ?_ | refine releaseOp_touch (Mask.sub hm rfl) ?_ | refine Touch.ite ?_ ?_ | split | dsimp only

theorem healthCheck_touch (hm : m ||| 524292 = m) {x0 : Bool} (h : Touch m a s) : Touch m a (healthCheck x0 s) := by
  unfold healthCheck
  repeat' with_reducible first | assumption | refine cwyCheck_touch (Mask.sub hm rfl) ?_ | refine State.setTwin_touch (Mask.sub hm rfl) ?_ | refine Touch.ite ?_ ?_ | split | dsimp only

theorem heartbeat_touch (hm : m ||| 51038220 = m) {x0 : Bool} {x1 : Bool} (h : Touch m a s) : Touch m a (heartbeat x0 x1 s) := by
  unfold heartbeat
  repeat' with_reducible first | assumption | refine twinCheck_touch (Mask.sub hm rfl) ?_ | refine guardLatch_touch (Mask.sub hm rfl) ?_ | refine Touch.ite ?_ ?_ | split | dsimp only | refine Touch.set_guard (Mask.sub hm rfl) ?_

theorem highCross_touch (hm : m ||| 64 = m) {x0 : Nat} {x1 : Bool} (h : Touch m a s) : Touch m a (highCross x0 x1 s) := by
  unfold highCross
  repeat' with_reducible first | assumption | refine State.setChan_touch (Mask.sub hm rfl) ?_ | refine Touch.ite ?_ ?_ | split | dsimp only

theorem nvWrite_touch (hm : m ||| 8388608 = m) {x0 : Sys2Proof.NvRecord} (h : Touch m a s) : Touch m a (nvWrite x0 s) := by
  unfold nvWrite
  repeat' with_reducible first | assumption | refine nvBegin_touch (Mask.sub hm rfl) ?_ | refine Touch.ite ?_ ?_ | split | dsimp only | refine Touch.set_sec (Mask.sub hm rfl) ?_

theorem hoursWrite_touch (hm : m ||| 8388612 = m) (h : Touch m a s) : Touch m a (hoursWrite s) := by
  unfold hoursWrite
  repeat' with_reducible first | assumption | refine nvWrite_touch (Mask.sub hm rfl) ?_ | refine State.bump_touch (Mask.sub hm rfl) ?_ | refine Touch.ite ?_ ?_ | split | dsimp only | refine Touch.set_sec (Mask.sub hm rfl) ?_

theorem hwShutdownHot_touch (hm : m ||| 46792724 = m) {x0 : Nat} (h : Touch m a s) : Touch m a (hwShutdownHot x0 s) := by
  unfold hwShutdownHot
  repeat' with_reducible first | assumption | refine hwShutdown_touch (Mask.sub hm rfl) ?_ | refine Touch.ite ?_ ?_ | split | dsimp only

theorem identityReceive_touch (hm : m ||| 575500 = m) {x0 : Sys2Proof.Identity} (h : Touch m a s) : Touch m a (identityReceive x0 s) := by
  unfold identityReceive
  repeat' with_reducible first | assumption | refine State.setTwin_touch (Mask.sub hm rfl) ?_ | refine State.putb_touch (Mask.sub hm rfl) ?_ | refine State.put_touch (Mask.sub hm rfl) ?_ | refine pairTest_touch (Mask.sub hm rfl) ?_ | refine Touch.ite ?_ ?_ | split | dsimp only

theorem takeBounds_touch (hm : m ||| 4194304 = m) {x0 : List (Nat × Int)} (h : Touch m a s) : Touch m a (takeBounds x0 s) := by
  unfold takeBounds
  repeat' with_reducible first | assumption | refine Touch.ite ?_ ?_ | split | dsimp only | refine Touch.set_therm (Mask.sub hm rfl) ?_

theorem setTrim_touch (hm : m ||| 4194308 = m) {x0 : Nat} {x1 : Nat} {x2 : Int} (h : Touch m a s) : Touch m a (setTrim x0 x1 x2 s) := by
  unfold setTrim
  repeat' with_reducible first | assumption | refine State.puti_touch (Mask.sub hm rfl) ?_ | refine Touch.ite ?_ ?_ | split | dsimp only | refine Touch.set_therm (Mask.sub hm rfl) ?_

theorem stepTrim_touch (hm : m ||| 4194308 = m) {x0 : Nat} (h : Touch m a s) : Touch m a (stepTrim x0 s) := by
  unfold stepTrim
  repeat' with_reducible first | assumption | refine setTrim_touch (Mask.sub hm rfl) ?_ | refine Touch.ite ?_ ?_ | split | dsimp only | refine Touch.set_therm (Mask.sub hm rfl) ?_

theorem stepTrims_touch (hm : m ||| 4194308 = m) {x0 : Nat} (h : Touch m a s) : Touch m a (stepTrims x0 s) := by
  unfold stepTrims
  repeat' with_reducible first | assumption | refine stepTrim_touch (Mask.sub hm rfl) ?_ | refine forAll_touch (fun _ _ _ => ?_) ?_ | refine Touch.ite ?_ ?_ | split | dsimp only | refine Touch.set_therm (Mask.sub hm rfl) ?_

theorem idleTrims_touch (hm : m ||| 4194308 = m) {x0 : Nat} {x1 : List (Nat × Int)} (h : Touch m a s) : Touch m a (idleTrims x0 x1 s) := by
  unfold idleTrims
  repeat' with_reducible first | assumption | refine takeBounds_touch (Mask.sub hm rfl) ?_ | refine stepTrims_touch (Mask.sub hm rfl) ?_ | refine Touch.ite ?_ ?_ | split | dsimp only

theorem policyReset_touch (hm : m ||| 16392 = m) (h : Touch m a s) : Touch m a (policyReset s) := by
  unfold policyReset
  repeat' with_reducible first | assumption | refine forward_touch (Mask.sub hm rfl) ?_ | refine State.store_touch (Mask.sub hm rfl) ?_ | refine forAll_touch (fun _ _ _ => ?_) ?_ | refine Touch.ite ?_ ?_ | split | dsimp only

theorem loadImage_touch (hm : m ||| 8417548 = m) {x0 : Bool} {x1 : Bool} {x2 : List Nat} (h : Touch m a s) : Touch m a (loadImage x0 x1 x2 s).1 := by
  unfold loadImage
  repeat' with_reducible first | assumption | refine sqStop_touch (Mask.sub hm rfl) ?_ | refine State.storeList_touch (Mask.sub hm rfl) ?_ | refine forwardBytes_touch (Mask.sub hm rfl) ?_ | refine claimSeq_touch (Mask.sub hm rfl) ?_ | refine policyReset_touch (Mask.sub hm rfl) ?_ | refine State.setFlag_touch (Mask.sub hm rfl) ?_ | refine cfgId_touch (Mask.sub hm rfl) ?_ | refine sqStart_touch (Mask.sub hm rfl) ?_ | refine forAll_touch (fun _ _ _ => ?_) ?_ | refine Touch.ite ?_ ?_ | split | dsimp only

theorem imageRequest_touch (hm : m ||| 8417548 = m) {x0 : Nat} {x1 : List Sys2Proof.Byte} {x2 : Bool} (h : Touch m a s) : Touch m a (imageRequest x0 x1 x2 s) := by
  unfold imageRequest
  repeat' with_reducible first | assumption | refine loadImage_touch (Mask.sub hm rfl) ?_ | refine Touch.pair (by assumption) (loadImage_touch (Mask.sub hm rfl) ?_) | refine roleReject_touch (Mask.sub hm rfl) ?_ | refine Touch.ite ?_ ?_ | split | dsimp only

theorem iuStartEdge_touch (hm : m ||| 132 = m) {x0 : Nat} {x1 : Bool} {x2 : Nat} (h : Touch m a s) : Touch m a (iuStartEdge x0 x1 x2 s) := by
  unfold iuStartEdge
  repeat' with_reducible first | assumption | refine iuPast_touch (Mask.sub hm rfl) ?_ | refine State.put_touch (Mask.sub hm rfl) ?_ | refine Touch.ite ?_ ?_ | split | dsimp only | refine Touch.set_tb (Mask.sub hm rfl) ?_

theorem iuStopEdge_touch (hm : m ||| 4 = m) {x0 : Nat} {x1 : Bool} {x2 : Nat} (h : Touch m a s) : Touch m a (iuStopEdge x0 x1 x2 s) := by
  unfold iuStopEdge
  repeat' with_reducible first | assumption | refine iuPast_touch (Mask.sub hm rfl) ?_ | refine iuStop_touch (Mask.sub hm rfl) ?_ | refine Touch.ite ?_ ?_ | split | dsimp only

theorem iuTimeout_touch (hm : m ||| 4 = m) (h : Touch m a s) : Touch m a (iuTimeout s) := by
  unfold iuTimeout
  repeat' with_reducible first | assumption | refine iuExpire_touch (Mask.sub hm rfl) ?_ | refine Touch.ite ?_ ?_ | split | dsimp only

theorem keeperLapse_touch (hm : m ||| 655364 = m) (h : Touch m a s) : Touch m a (keeperLapse s) := by
  unfold keeperLapse
  repeat' with_reducible first | assumption | refine dropOwn_touch (Mask.sub hm rfl) ?_ | refine State.put_touch (Mask.sub hm rfl) ?_ | refine Touch.ite ?_ ?_ | split | dsimp only

theorem laneRestart_touch (hm : m ||| 8404996 = m) {x0 : Nat} (h : Touch m a s) : Touch m a (laneRestart x0 s) := by
  unfold laneRestart
  repeat' with_reducible first | assumption | refine laneStart_touch (Mask.sub hm rfl) ?_ | refine Touch.ite ?_ ?_ | split | dsimp only

theorem latchFormat_touch (hm : m ||| 65540 = m) {x0 : Nat} (h : Touch m a s) : Touch m a (latchFormat x0 s) := by
  unfold latchFormat
  repeat' with_reducible first | assumption | refine State.setHead_touch (Mask.sub hm rfl) ?_ | refine State.put_touch (Mask.sub hm rfl) ?_ | refine State.setFlag_touch (Mask.sub hm rfl) ?_ | refine Touch.ite ?_ ?_ | split | dsimp only

theorem latch_touch (hm : m ||| 69636 = m) {x0 : Nat} (h : Touch m a s) : Touch m a (latch x0 s) := by
  unfold latch
  repeat' with_reducible first | assumption | refine State.setFlag_touch (Mask.sub hm rfl) ?_ | refine State.modHead_touch (Mask.sub hm rfl) ?_ | refine latchPoint_touch (Mask.sub hm rfl) ?_ | refine latchFormat_touch (Mask.sub hm rfl) ?_ | refine Touch.ite ?_ ?_ | split | dsimp only

theorem laybyDrain_touch (hm : m ||| 49156 = m) {x0 : Nat} (h : Touch m a s) : Touch m a (laybyDrain x0 s) := by
  unfold laybyDrain
  repeat' with_reducible first | assumption | refine dramRing_touch (Mask.sub hm rfl) ?_ | refine State.setStream_touch (Mask.sub hm rfl) ?_ | refine Touch.ite ?_ ?_ | split | dsimp only

theorem ledgerAppend_touch (hm : m ||| 12 = m) {x0 : Nat} {x1 : Nat} {x2 : Bool} {x3 : Nat} {x4 : Nat} (h : Touch m a s) : Touch m a (ledgerAppend x0 x1 x2 x3 x4 s) := by
  unfold ledgerAppend
  repeat' with_reducible first | assumption | refine State.store_touch (Mask.sub hm rfl) ?_ | refine State.put_touch (Mask.sub hm rfl) ?_ | refine State.setFlag_touch (Mask.sub hm rfl) ?_ | refine Touch.ite ?_ ?_ | split | dsimp only

theorem putSetting_touch (hm : m ||| 8388612 = m) {x0 : Nat} {x1 : Nat} (h : Touch m a s) : Touch m a (putSetting x0 x1 s) := by
  unfold putSetting
  repeat' with_reducible first | assumption | refine State.put_touch (Mask.sub hm rfl) ?_ | refine State.setReg_touch (Mask.sub hm rfl) ?_ | refine State.setSec_touch (Mask.sub hm rfl) ?_ | refine Touch.ite ?_ ?_ | split | dsimp only

theorem ledgerDone_touch (hm : m ||| 8388620 = m) (h : Touch m a s) : Touch m a (ledgerDone s) := by
  unfold ledgerDone
  repeat' with_reducible first | assumption | refine storeSetting_touch (Mask.sub hm rfl) ?_ | refine burnFuse_touch (Mask.sub hm rfl) ?_ | refine ledgerAppend_touch (Mask.sub hm rfl) ?_ | refine putSetting_touch (Mask.sub hm rfl) ?_ | refine endSessions_touch (Mask.sub hm rfl) ?_ | refine cfgId_touch (Mask.sub hm rfl) ?_ | refine State.clrFlag_touch (Mask.sub hm rfl) ?_ | refine State.setSec_touch (Mask.sub hm rfl) ?_ | refine Touch.ite ?_ ?_ | split | dsimp only

theorem levelStep_touch (hm : m ||| 4194308 = m) {x0 : Int} {x1 : Int} {x2 : Int} {x3 : Nat} (h : Touch m a s) : Touch m a (levelStep x0 x1 x2 x3 s) := by
  unfold levelStep
  repeat' with_reducible first | assumption | refine State.bumpSat_touch (Mask.sub hm rfl) ?_ | refine Touch.ite ?_ ?_ | split | dsimp only | refine Touch.set_therm (Mask.sub hm rfl) ?_

theorem limiterShadow_touch (hm : m ||| 16777216 = m) {x0 : Sys2Proof.Machine.Op} {x1 : Nat} (h : Touch m a s) : Touch m a (limiterShadow x0 x1 s) := by
  unfold limiterShadow
  repeat' with_reducible first | assumption | refine Touch.ite ?_ ?_ | split | dsimp only | refine Touch.set_guard (Mask.sub hm rfl) ?_

theorem limiterUndo_touch (hm : m ||| 16777216 = m) {x0 : Sys2Proof.Machine.Op} {x1 : List Nat} (h : Touch m a s) : Touch m a (limiterUndo x0 x1 s) := by
  unfold limiterUndo
  repeat' with_reducible first | assumption | refine Touch.ite ?_ ?_ | split | dsimp only | refine Touch.set_guard (Mask.sub hm rfl) ?_

theorem lockStep_touch (hm : m ||| 41959428 = m) {x0 : Nat} {x1 : Bool} (h : Touch m a s) : Touch m a (lockStep x0 x1 s) := by
  unfold lockStep
  repeat' with_reducible first | assumption | refine State.modLane_touch (Mask.sub hm rfl) ?_ | refine laneFail_touch (Mask.sub hm rfl) ?_ | refine laneStart_touch (Mask.sub hm rfl) ?_ | refine State.setFlag_touch (Mask.sub hm rfl) ?_ | refine State.put_touch (Mask.sub hm rfl) ?_ | refine Touch.ite ?_ ?_ | split | dsimp only

theorem takeBlock_touch (hm : m ||| 41959428 = m) {x0 : Nat} (h : Touch m a s) : Touch m a (takeBlock x0 s) := by
  unfold takeBlock
  repeat' with_reducible first | assumption | refine State.setLane_touch (Mask.sub hm rfl) ?_ | refine lockStep_touch (Mask.sub hm rfl) ?_ | refine State.bumpSat_touch (Mask.sub hm rfl) ?_ | refine Touch.ite ?_ ?_ | split | dsimp only

theorem takeBlocks_touch (hm : m ||| 41959428 = m) {n l : Nat} (h : Touch m a s) : Touch m a (takeBlocks n l s) := by
  induction n generalizing s with
  | zero => exact h
  | succ n ih =>
    unfold takeBlocks
    split
    · exact ih (takeBlock_touch (Mask.sub hm rfl) h)
    · exact h

theorem lineReceive_touch (hm : m ||| 41959428 = m) {x0 : Nat} {x1 : List Bool} (h : Touch m a s) : Touch m a (lineReceive x0 x1 s) := by
  unfold lineReceive
  repeat' with_reducible first | assumption | refine State.setLane_touch (Mask.sub hm rfl) ?_ | refine State.setFlag_touch (Mask.sub hm rfl) ?_ | refine State.addSat_touch (Mask.sub hm rfl) ?_ | refine takeBlocks_touch (Mask.sub hm rfl) ?_ | refine Touch.ite ?_ ?_ | split | dsimp only

theorem stepLate_touch (hm : m ||| 4 = m) {x0 : Nat} (h : Touch m a s) : Touch m a (stepLate x0 s) := by
  unfold stepLate
  repeat' with_reducible first | assumption | refine State.bumpSat_touch (Mask.sub hm rfl) ?_ | refine State.setFlag_touch (Mask.sub hm rfl) ?_ | refine Touch.ite ?_ ?_ | split | dsimp only

theorem refStep_touch (hm : m ||| 4 = m) {x0 : Nat} (h : Touch m a s) : Touch m a (refStep x0 s) := by
  unfold refStep
  repeat' with_reducible first | assumption | refine State.puti_touch (Mask.sub hm rfl) ?_ | refine Touch.ite ?_ ?_ | split | dsimp only

theorem slopeStep_touch (hm : m ||| 33685508 = m) {x0 : Nat} {x1 : Nat} (h : Touch m a s) : Touch m a (slopeStep x0 x1 s) := by
  unfold slopeStep
  repeat' with_reducible first | assumption | refine State.setBank_touch (Mask.sub hm rfl) ?_ | refine enterErr_touch (Mask.sub hm rfl) ?_ | refine State.setFlag_touch (Mask.sub hm rfl) ?_ | refine State.put_touch (Mask.sub hm rfl) ?_ | refine Touch.ite ?_ ?_ | split | dsimp only

theorem lineTrims_touch (hm : m ||| 37879812 = m) {x0 : Nat} (h : Touch m a s) : Touch m a (lineTrims x0 s) := by
  unfold lineTrims
  repeat' with_reducible first | assumption | refine refStep_touch (Mask.sub hm rfl) ?_ | refine slopeStep_touch (Mask.sub hm rfl) ?_ | refine stepTrims_touch (Mask.sub hm rfl) ?_ | refine upTo_touch (fun _ _ _ => ?_) ?_ | refine Touch.ite ?_ ?_ | split | dsimp only

theorem lineStart_touch (hm : m ||| 38258956 = m) {x0 : Nat} {x1 : List (Nat × Int)} (h : Touch m a s) : Touch m a (lineStart x0 x1 s) := by
  unfold lineStart
  repeat' with_reducible first | assumption | refine State.setHead_touch (Mask.sub hm rfl) ?_ | refine State.clrFlag_touch (Mask.sub hm rfl) ?_ | refine State.put_touch (Mask.sub hm rfl) ?_ | refine raiseEv_touch (Mask.sub hm rfl) ?_ | refine milestoneAt_touch (Mask.sub hm rfl) ?_ | refine stepLate_touch (Mask.sub hm rfl) ?_ | refine facetPhase_touch (Mask.sub hm rfl) ?_ | refine lineTrims_touch (Mask.sub hm rfl) ?_ | refine takeBounds_touch (Mask.sub hm rfl) ?_ | refine calLineStart_touch (Mask.sub hm rfl) ?_ | refine Touch.ite ?_ ?_ | split | dsimp only

theorem linesLow_touch (hm : m ||| 131072 = m) {x0 : Nat} (h : Touch m a s) : Touch m a (linesLow x0 s) := by
  unfold linesLow
  repeat' with_reducible first | assumption | refine pairsAll_touch (Mask.sub hm rfl) ?_ | refine Touch.ite ?_ ?_ | split | dsimp only

theorem linkStall_touch (hm : m ||| 33570564 = m) {x0 : Nat} (h : Touch m a s) : Touch m a (linkStall x0 s) := by
  unfold linkStall
  repeat' with_reducible first | assumption | refine dieDark_touch (Mask.sub hm rfl) ?_ | refine Touch.ite ?_ ?_ | split | dsimp only | refine Touch.set_pts (Mask.sub hm rfl) ?_

theorem loadBootImage_touch (hm : m ||| 41971980 = m) {x0 : Bool} {x1 : Bool} {x2 : Nat × Bool × Nat × Nat} (h : Touch m a s) : Touch m a (loadBootImage x0 x1 x2 s) := by
  unfold loadBootImage
  repeat' with_reducible first | assumption | refine loadImage_touch (Mask.sub hm rfl) ?_ | refine Touch.pair (by assumption) (loadImage_touch (Mask.sub hm rfl) ?_) | refine bootError_touch (Mask.sub hm rfl) ?_ | refine Touch.ite ?_ ?_ | split | dsimp only | refine Touch.set_su (Mask.sub hm rfl) ?_

theorem loadRecord_touch (hm : m ||| 4194308 = m) {x0 : Sys2Proof.NvRecord} (h : Touch m a s) : Touch m a (loadRecord x0 s) := by
  unfold loadRecord
  repeat' with_reducible first | assumption | refine State.setFlag_touch (Mask.sub hm rfl) ?_ | refine State.put_touch (Mask.sub hm rfl) ?_ | refine setTrim_touch (Mask.sub hm rfl) ?_ | refine State.puti_touch (Mask.sub hm rfl) ?_ | refine upTo_touch (fun _ _ _ => ?_) ?_ | refine Touch.ite ?_ ?_ | split | dsimp only | refine Touch.set_therm (Mask.sub hm rfl) ?_

theorem loadSetting_touch (hm : m ||| 8388612 = m) {x0 : Nat} (h : Touch m a s) : Touch m a (loadSetting x0 s) := by
  unfold loadSetting
  repeat' with_reducible first | assumption | refine State.put_touch (Mask.sub hm rfl) ?_ | refine putSetting_touch (Mask.sub hm rfl) ?_ | refine Touch.ite ?_ ?_ | split | dsimp only

theorem loopConversion_touch (hm : m ||| 18087940 = m) {x0 : Nat} {x1 : Nat} (h : Touch m a s) : Touch m a (loopConversion x0 x1 s) := by
  unfold loopConversion
  repeat' with_reducible first | assumption | refine State.modLoop_touch (Mask.sub hm rfl) ?_ | refine elevRead_touch (Mask.sub hm rfl) ?_ | refine capValue_touch (Mask.sub hm rfl) ?_ | refine Touch.ite ?_ ?_ | split | dsimp only

theorem loopFault_touch (hm : m ||| 33816580 = m) {x0 : Nat} {x1 : Nat} (h : Touch m a s) : Touch m a (loopFault x0 x1 s) := by
  unfold loopFault
  repeat' with_reducible first | assumption | refine State.put_touch (Mask.sub hm rfl) ?_ | refine loopOff_touch (Mask.sub hm rfl) ?_ | refine setParked_touch (Mask.sub hm rfl) ?_ | refine enterErr_touch (Mask.sub hm rfl) ?_ | refine traceTrig_touch (Mask.sub hm rfl) ?_ | refine Touch.ite ?_ ?_ | split | dsimp only

theorem rcLearnBin_touch (hm : m ||| 8 = m) {x0 : Nat} {x1 : Int} {x2 : Nat} (h : Touch m a s) : Touch m a (rcLearnBin x0 x1 x2 s) := by
  unfold rcLearnBin
  repeat' with_reducible first | assumption | refine State.store_touch (Mask.sub hm rfl) ?_ | refine Touch.ite ?_ ?_ | split | dsimp only

theorem rcLearn_touch (hm : m ||| 8 = m) {x0 : Nat} {x1 : Int} {x2 : Nat} {x3 : Nat} (h : Touch m a s) : Touch m a (rcLearn x0 x1 x2 x3 s) := by
  unfold rcLearn
  repeat' with_reducible first | assumption | refine rcLearnBin_touch (Mask.sub hm rfl) ?_ | refine upTo_touch (fun _ _ _ => ?_) ?_ | refine Touch.ite ?_ ?_ | split | dsimp only

theorem loopLaw_touch (hm : m ||| 33816588 = m) {x0 : Nat} {x1 : Nat} {x2 : Int} {x3 : Bool} {x4 : Bool} (h : Touch m a s) : Touch m a (loopLaw x0 x1 x2 x3 x4 s) := by
  unfold loopLaw
  repeat' with_reducible first | assumption | refine State.setFlag_touch (Mask.sub hm rfl) ?_ | refine State.putb_touch (Mask.sub hm rfl) ?_ | refine State.puti_touch (Mask.sub hm rfl) ?_ | refine rcLearn_touch (Mask.sub hm rfl) ?_ | refine State.setLoop_touch (Mask.sub hm rfl) ?_ | refine loopFault_touch (Mask.sub hm rfl) ?_ | refine Touch.ite ?_ ?_ | split | dsimp only

theorem traceRecord_touch (hm : m ||| 262156 = m) (h : Touch m a s) : Touch m a (traceRecord s) := by
  unfold traceRecord
  repeat' with_reducible first | assumption | refine State.store_touch (Mask.sub hm rfl) ?_ | refine State.put_touch (Mask.sub hm rfl) ?_ | refine traceDone_touch (Mask.sub hm rfl) ?_ | refine upTo_touch (fun _ _ _ => ?_) ?_ | refine Touch.ite ?_ ?_ | split | dsimp only | refine Touch.set_motion (Mask.sub hm rfl) ?_

theorem traceSample_touch (hm : m ||| 262156 = m) {x0 : Nat} (h : Touch m a s) : Touch m a (traceSample x0 s) := by
  unfold traceSample
  repeat' with_reducible first | assumption | refine traceRecord_touch (Mask.sub hm rfl) ?_ | refine Touch.ite ?_ ?_ | split | dsimp only | refine Touch.set_motion (Mask.sub hm rfl) ?_

theorem modeTake_touch (hm : m ||| 262148 = m) {x0 : Nat} {x1 : Nat} {x2 : Int} (h : Touch m a s) : Touch m a (modeTake x0 x1 x2 s) := by
  unfold modeTake
  repeat' with_reducible first | assumption | refine traceTrig_touch (Mask.sub hm rfl) ?_ | refine loopOff_touch (Mask.sub hm rfl) ?_ | refine setParked_touch (Mask.sub hm rfl) ?_ | refine State.modLoop_touch (Mask.sub hm rfl) ?_ | refine State.clrFlag_touch (Mask.sub hm rfl) ?_ | refine State.put_touch (Mask.sub hm rfl) ?_ | refine Touch.ite ?_ ?_ | split | dsimp only

theorem takeMode_touch (hm : m ||| 262148 = m) {x0 : Nat} {x1 : Int} (h : Touch m a s) : Touch m a (takeMode x0 x1 s) := by
  unfold takeMode
  repeat' with_reducible first | assumption | refine State.setLoop_touch (Mask.sub hm rfl) ?_ | refine State.setFlag_touch (Mask.sub hm rfl) ?_ | refine modeTake_touch (Mask.sub hm rfl) ?_ | refine Touch.ite ?_ ?_ | split | dsimp only

theorem speedMark_touch (hm : m ||| 262144 = m) {x0 : Nat} {x1 : Nat} (h : Touch m a s) : Touch m a (speedMark x0 x1 s) := by
  unfold speedMark
  repeat' with_reducible first | assumption | refine State.modLoop_touch (Mask.sub hm rfl) ?_ | refine Touch.ite ?_ ?_ | split | dsimp only

theorem loopSampleAt_touch (hm : m ||| 33816588 = m) {x0 : Nat} {x1 : Nat} (h : Touch m a s) : Touch m a (loopSampleAt x0 x1 s) := by
  unfold loopSampleAt
  repeat' with_reducible first | assumption | refine State.setLoop_touch (Mask.sub hm rfl) ?_ | refine State.modLoop_touch (Mask.sub hm rfl) ?_ | refine takeMode_touch (Mask.sub hm rfl) ?_ | refine speedMark_touch (Mask.sub hm rfl) ?_ | refine State.setFlag_touch (Mask.sub hm rfl) ?_ | refine State.put_touch (Mask.sub hm rfl) ?_ | refine genStep_touch (Mask.sub hm rfl) ?_ | refine loopLaw_touch (Mask.sub hm rfl) ?_ | refine Touch.ite ?_ ?_ | split | dsimp only

theorem loopSample_touch (hm : m ||| 33816588 = m) {x0 : Nat} (h : Touch m a s) : Touch m a (loopSample x0 s) := by
  unfold loopSample
  repeat' with_reducible first | assumption | refine traceSample_touch (Mask.sub hm rfl) ?_ | refine loopSampleAt_touch (Mask.sub hm rfl) ?_ | refine Touch.ite ?_ ?_ | split | dsimp only

theorem timeoutClose_touch (hm : m ||| 1049924 = m) {x0 : Nat} (h : Touch m a s) : Touch m a (timeoutClose x0 s) := by
  unfold timeoutClose
  repeat' with_reducible first | assumption | refine queueChan_touch (Mask.sub hm rfl) ?_ | refine deliver_touch (Mask.sub hm rfl) ?_ | refine State.setChan_touch (Mask.sub hm rfl) ?_ | refine Touch.ite ?_ ?_ | split | dsimp only

theorem lowFall_touch (hm : m ||| 1049924 = m) {x0 : Nat} (h : Touch m a s) : Touch m a (lowFall x0 s) := by
  unfold lowFall
  repeat' with_reducible first | assumption | refine timeoutClose_touch (Mask.sub hm rfl) ?_ | refine State.setChan_touch (Mask.sub hm rfl) ?_ | refine queueChan_touch (Mask.sub hm rfl) ?_ | refine deliver_touch (Mask.sub hm rfl) ?_ | refine Touch.ite ?_ ?_ | split | dsimp only

theorem lowRise_touch (hm : m ||| 64 = m) {x0 : Nat} (h : Touch m a s) : Touch m a (lowRise x0 s) := by
  unfold lowRise
  repeat' with_reducible first | assumption | refine State.setChan_touch (Mask.sub hm rfl) ?_ | refine Touch.ite ?_ ?_ | split | dsimp only

theorem zoneJudge_touch (hm : m ||| 4 = m) {x0 : Nat} (h : Touch m a s) : Touch m a (zoneJudge x0 s) := by
  unfold zoneJudge
  repeat' with_reducible first | assumption | refine State.setFlag_touch (Mask.sub hm rfl) ?_ | refine State.put_touch (Mask.sub hm rfl) ?_ | refine upTo_touch (fun _ _ _ => ?_) ?_ | refine Touch.ite ?_ ?_ | split | dsimp only

theorem memoryJudge_touch (hm : m ||| 4 = m) (h : Touch m a s) : Touch m a (memoryJudge s) := by
  unfold memoryJudge
  repeat' with_reducible first | assumption | refine zoneJudge_touch (Mask.sub hm rfl) ?_ | refine State.setFlag_touch (Mask.sub hm rfl) ?_ | refine State.put_touch (Mask.sub hm rfl) ?_ | refine State.clrFlag_touch (Mask.sub hm rfl) ?_ | refine upTo_touch (fun _ _ _ => ?_) ?_ | refine Touch.ite ?_ ?_ | split | dsimp only

theorem mfenceDone_touch (hm : m ||| 8196 = m) {x0 : Nat} (h : Touch m a s) : Touch m a (mfenceDone x0 s) := by
  unfold mfenceDone
  repeat' with_reducible first | assumption | refine seqResume_touch (Mask.sub hm rfl) ?_ | refine Touch.ite ?_ ?_ | split | dsimp only

theorem mirroredWrite_touch (hm : m ||| 67108828 = m) {x0 : Nat} {x1 : Nat} {x2 : Nat} (h : Touch m a s) : Touch m a (mirroredWrite x0 x1 x2 s) := by
  unfold mirroredWrite
  repeat' with_reducible first | assumption | refine mirrorApply_touch (Mask.sub hm rfl) ?_ | refine State.setTwin_touch (Mask.sub hm rfl) ?_ | refine Touch.ite ?_ ?_ | split | dsimp only

theorem missedDone_touch (hm : m ||| 526336 = m) {x0 : Nat} {x1 : Nat} (h : Touch m a s) : Touch m a (missedDone x0 x1 s) := by
  unfold missedDone
  repeat' with_reducible first | assumption | refine State.setTwin_touch (Mask.sub hm rfl) ?_ | refine State.modFrame_touch (Mask.sub hm rfl) ?_ | refine Touch.ite ?_ ?_ | split | dsimp only

theorem missedPass_touch (hm : m ||| 17301504 = m) {x0 : Sys2Proof.Machine.Op} {x1 : Nat} (h : Touch m a s) : Touch m a (missedPass x0 x1 s) := by
  unfold missedPass
  repeat' with_reducible first | assumption | refine limiterShadow_touch (Mask.sub hm rfl) ?_ | refine forAll_touch (fun _ _ _ => ?_) ?_ | refine Touch.ite ?_ ?_ | split | dsimp only | refine Touch.set_twin (Mask.sub hm rfl) ?_

theorem motionWindow_touch (hm : m ||| 51038220 = m) {x0 : Nat} {x1 : Bool} {x2 : Bool} (h : Touch m a s) : Touch m a (motionWindow x0 x1 x2 s) := by
  unfold motionWindow
  repeat' with_reducible first | assumption | refine State.setProof_touch (Mask.sub hm rfl) ?_ | refine guardMs_touch (Mask.sub hm rfl) ?_ | refine putBit_touch (Mask.sub hm rfl) ?_ | refine guardLatch_touch (Mask.sub hm rfl) ?_ | refine Touch.ite ?_ ?_ | split | dsimp only

theorem nrstFall_touch (hm : m ||| 33554432 = m) (h : Touch m a s) : Touch m a (nrstFall s) := by
  unfold nrstFall
  repeat' with_reducible first | assumption | refine Touch.ite ?_ ?_ | split | dsimp only | refine Touch.set_su (Mask.sub hm rfl) ?_

theorem nrstRise_touch (hm : m ||| 33554432 = m) (h : Touch m a s) : Touch m a (nrstRise s) := by
  unfold nrstRise
  repeat' with_reducible first | assumption | refine release_touch (Mask.sub hm rfl) ?_ | refine Touch.ite ?_ ?_ | split | dsimp only | refine Touch.set_su (Mask.sub hm rfl) ?_

theorem nrstStuck_touch (hm : m ||| 51038220 = m) (h : Touch m a s) : Touch m a (nrstStuck s) := by
  unfold nrstStuck
  repeat' with_reducible first | assumption | refine State.setFlag_touch (Mask.sub hm rfl) ?_ | refine release_touch (Mask.sub hm rfl) ?_ | refine State.bumpSat_touch (Mask.sub hm rfl) ?_ | refine State.put_touch (Mask.sub hm rfl) ?_ | refine releaseOwn_touch (Mask.sub hm rfl) ?_ | refine guardHold_touch (Mask.sub hm rfl) ?_ | refine enterErr_touch (Mask.sub hm rfl) ?_ | refine Touch.ite ?_ ?_ | split | dsimp only

theorem nrstStuckEnd_touch (hm : m ||| 16828428 = m) (h : Touch m a s) : Touch m a (nrstStuckEnd s) := by
  unfold nrstStuckEnd
  repeat' with_reducible first | assumption | refine guardUnhold_touch (Mask.sub hm rfl) ?_ | refine State.clrFlag_touch (Mask.sub hm rfl) ?_ | refine Touch.ite ?_ ?_ | split | dsimp only

theorem nvDone_touch (hm : m ||| 8388608 = m) (h : Touch m a s) : Touch m a (nvDone s) := by
  unfold nvDone
  repeat' with_reducible first | assumption | refine State.setNvPair_touch (Mask.sub hm rfl) ?_ | refine nvBegin_touch (Mask.sub hm rfl) ?_ | refine Touch.ite ?_ ?_ | split | dsimp only | refine Touch.set_sec (Mask.sub hm rfl) ?_

theorem orderlyRecords_touch (hm : m ||| 46792724 = m) (h : Touch m a s) : Touch m a (orderlyRecords s) := by
  unfold orderlyRecords
  repeat' with_reducible first | assumption | refine nvDone_touch (Mask.sub hm rfl) ?_ | refine nvWrite_touch (Mask.sub hm rfl) ?_ | refine hwShutdownHot_touch (Mask.sub hm rfl) ?_ | refine forAll_touch (fun _ _ _ => ?_) ?_ | refine Touch.ite ?_ ?_ | split | dsimp only

theorem ownClaim_touch (hm : m ||| 720652 = m) {x0 : Bool} (h : Touch m a s) : Touch m a (ownClaim x0 s) := by
  unfold ownClaim
  repeat' with_reducible first | assumption | refine State.setTwin_touch (Mask.sub hm rfl) ?_ | refine claim_touch (Mask.sub hm rfl) ?_ | refine twinRefuse_touch (Mask.sub hm rfl) ?_ | refine Touch.ite ?_ ?_ | split | dsimp only

theorem ownLine_touch (hm : m ||| 524288 = m) {x0 : Bool} (h : Touch m a s) : Touch m a (ownLine x0 s) := by
  unfold ownLine
  repeat' with_reducible first | assumption | refine State.setTwin_touch (Mask.sub hm rfl) ?_ | refine Touch.ite ?_ ?_ | split | dsimp only

theorem paceDie_touch (hm : m ||| 33554436 = m) {x0 : Nat} {x1 : List Nat} (h : Touch m a s) : Touch m a (paceDie x0 x1 s) := by
  unfold paceDie
  repeat' with_reducible first | assumption | refine State.put_touch (Mask.sub hm rfl) ?_ | refine State.setFlag_touch (Mask.sub hm rfl) ?_ | refine State.clrFlag_touch (Mask.sub hm rfl) ?_ | refine enterErr_touch (Mask.sub hm rfl) ?_ | refine Touch.ite ?_ ?_ | split | dsimp only

theorem policyPace_touch (hm : m ||| 4096 = m) {x0 : Nat} (h : Touch m a s) : Touch m a (policyPace x0 s) := by
  unfold policyPace
  repeat' with_reducible first | assumption | refine State.setPolicy_touch (Mask.sub hm rfl) ?_ | refine Touch.ite ?_ ?_ | split | dsimp only

theorem paceWindow_touch (hm : m ||| 33558532 = m) {x0 : List (List Nat)} (h : Touch m a s) : Touch m a (paceWindow x0 s) := by
  unfold paceWindow
  repeat' with_reducible first | assumption | refine paceDie_touch (Mask.sub hm rfl) ?_ | refine policyPace_touch (Mask.sub hm rfl) ?_ | refine raiseEv_touch (Mask.sub hm rfl) ?_ | refine State.setFlag_touch (Mask.sub hm rfl) ?_ | refine upTo_touch (fun _ _ _ => ?_) ?_ | refine Touch.ite ?_ ?_ | split | dsimp only | refine Touch.set_pts (Mask.sub hm rfl) ?_

theorem refuseParcel_touch (hm : m ||| 16384 = m) {x0 : Nat} (h : Touch m a s) : Touch m a (refuseParcel x0 s) := by
  unfold refuseParcel
  repeat' with_reducible first | assumption | refine State.modLane_touch (Mask.sub hm rfl) ?_ | refine Touch.ite ?_ ?_ | split | dsimp only

theorem takeParcelIn_touch (hm : m ||| 16388 = m) {x0 : Nat} {x1 : Nat} {x2 : List Nat} (h : Touch m a s) : Touch m a (takeParcelIn x0 x1 x2 s) := by
  unfold takeParcelIn
  repeat' with_reducible first | assumption | refine refuseParcel_touch (Mask.sub hm rfl) ?_ | refine State.bumpSat_touch (Mask.sub hm rfl) ?_ | refine State.modLane_touch (Mask.sub hm rfl) ?_ | refine State.bump_touch (Mask.sub hm rfl) ?_ | refine grantDue_touch (Mask.sub hm rfl) ?_ | refine State.setPort_touch (Mask.sub hm rfl) ?_ | refine Touch.ite ?_ ?_ | split | dsimp only

theorem parcelReceive_touch (hm : m ||| 16388 = m) {x0 : Nat} {x1 : Nat} {x2 : List Nat} (h : Touch m a s) : Touch m a (parcelReceive x0 x1 x2 s) := by
  unfold parcelReceive
  repeat' with_reducible first | assumption | refine takeParcelIn_touch (Mask.sub hm rfl) ?_ | refine State.modLane_touch (Mask.sub hm rfl) ?_ | refine Touch.ite ?_ ?_ | split | dsimp only

theorem parcelTimeout_touch (hm : m ||| 51212 = m) {x0 : Nat} (h : Touch m a s) : Touch m a (parcelTimeout x0 s) := by
  unfold parcelTimeout
  repeat' with_reducible first | assumption | refine closeParcel_touch (Mask.sub hm rfl) ?_ | refine Touch.ite ?_ ?_ | split | dsimp only

theorem parkLoop_touch (hm : m ||| 262148 = m) {x0 : Nat} (h : Touch m a s) : Touch m a (parkLoop x0 s) := by
  unfold parkLoop
  repeat' with_reducible first | assumption | refine setParked_touch (Mask.sub hm rfl) ?_ | refine loopOff_touch (Mask.sub hm rfl) ?_ | refine State.setLoop_touch (Mask.sub hm rfl) ?_ | refine State.put_touch (Mask.sub hm rfl) ?_ | refine Touch.ite ?_ ?_ | split | dsimp only

theorem parkAll_touch (hm : m ||| 262148 = m) (h : Touch m a s) : Touch m a (parkAll s) := by
  unfold parkAll
  repeat' with_reducible first | assumption | refine parkLoop_touch (Mask.sub hm rfl) ?_ | refine State.setFlag_touch (Mask.sub hm rfl) ?_ | refine upTo_touch (fun _ _ _ => ?_) ?_ | refine Touch.ite ?_ ?_ | split | dsimp only

theorem parkEnd_touch (hm : m ||| 4245516 = m) (h : Touch m a s) : Touch m a (parkEnd s) := by
  unfold parkEnd
  repeat' with_reducible first | assumption | refine closeStream_touch (Mask.sub hm rfl) ?_ | refine forAll_touch (fun _ _ _ => ?_) ?_ | refine Touch.ite ?_ ?_ | split | dsimp only | refine Touch.set_therm (Mask.sub hm rfl) ?_

theorem parkRequest_touch (hm : m ||| 4587276 = m) (h : Touch m a s) : Touch m a (parkRequest s) := by
  unfold parkRequest
  repeat' with_reducible first | assumption | refine endOps_touch (Mask.sub hm rfl) ?_ | refine parkAll_touch (Mask.sub hm rfl) ?_ | refine Touch.ite ?_ ?_ | split | dsimp only | refine Touch.set_therm (Mask.sub hm rfl) ?_

theorem pathLost_touch (hm : m ||| 34129932 = m) {x0 : Nat} (h : Touch m a s) : Touch m a (pathLost x0 s) := by
  unfold pathLost
  repeat' with_reducible first | assumption | refine State.clrFlag_touch (Mask.sub hm rfl) ?_ | refine enterErr_touch (Mask.sub hm rfl) ?_ | refine twinMs_touch (Mask.sub hm rfl) ?_ | refine State.setFlag_touch (Mask.sub hm rfl) ?_ | refine cwyCheck_touch (Mask.sub hm rfl) ?_ | refine State.setTwin_touch (Mask.sub hm rfl) ?_ | refine twinRefuse_touch (Mask.sub hm rfl) ?_ | refine Touch.ite ?_ ?_ | split | dsimp only

theorem phiTaken_touch (hm : m ||| 65536 = m) {x0 : Nat} (h : Touch m a s) : Touch m a (phiTaken x0 s) := by
  unfold phiTaken
  repeat' with_reducible first | assumption | refine State.modHead_touch (Mask.sub hm rfl) ?_ | refine Touch.ite ?_ ?_ | split | dsimp only

theorem pinReset_touch (hm : m ||| 67108828 = m) (h : Touch m a s) : Touch m a (pinReset s) := by
  unfold pinReset
  repeat' with_reducible first | assumption | refine takeReset_touch (Mask.sub hm rfl) ?_ | refine Touch.ite ?_ ?_ | split | dsimp only

theorem portStep_touch (hm : m ||| 2097152 = m) {x0 : Nat} (h : Touch m a s) : Touch m a (portStep x0 s) := by
  unfold portStep
  repeat' with_reducible first | assumption | refine State.setSport_touch (Mask.sub hm rfl) ?_ | refine Touch.ite ?_ ?_ | split | dsimp only

theorem portsHold_touch (hm : m ||| 18925580 = m) (h : Touch m a s) : Touch m a (portsHold s) := by
  unfold portsHold
  repeat' with_reducible first | assumption | refine portStep_touch (Mask.sub hm rfl) ?_ | refine guardHold_touch (Mask.sub hm rfl) ?_ | refine guardUnhold_touch (Mask.sub hm rfl) ?_ | refine upTo_touch (fun _ _ _ => ?_) ?_ | refine Touch.ite ?_ ?_ | split | dsimp only

theorem powerOn_touch (hm : m ||| 33554437 = m) {b : Bool} (h : Touch m a s) : Touch m a (powerOn b s) := by
  unfold powerOn
  split
  · exact h
  · extract_lets su1 s1 s2
    have h1 : Touch m a s1 := Touch.many 33554433 (Mask.sub hm rfl) h
      (fun i hi hb => by unfold State.Same; split <;> first | rfl | trivial | exact absurd hb (by decide)) id
    clear_value s1
    have h2 : Touch m a s2 := State.putb_touch (Mask.sub hm rfl) (State.bump_touch (Mask.sub hm rfl) h1)
    clear_value s2
    exact Touch.ite (release_touch (Mask.sub hm rfl) h2) h2

theorem prbsCheck_touch (hm : m ||| 16388 = m) {x0 : Nat} {x1 : Bool} (h : Touch m a s) : Touch m a (prbsCheck x0 x1 s) := by
  unfold prbsCheck
  repeat' with_reducible first | assumption | refine State.setLane_touch (Mask.sub hm rfl) ?_ | refine State.put_touch (Mask.sub hm rfl) ?_ | refine State.bumpSat_touch (Mask.sub hm rfl) ?_ | refine State.clrFlag_touch (Mask.sub hm rfl) ?_ | refine State.setFlag_touch (Mask.sub hm rfl) ?_ | refine Touch.ite ?_ ?_ | split | dsimp only

theorem touchFrond_touch (hm : m ||| 32772 = m) {x0 : Nat} {x1 : Nat} {x2 : Nat} {x3 : Sys2Proof.Machine.ScanFormat} {x4 : Sys2Proof.Machine.FrondRef} (h : Touch m a s) : Touch m a (touchFrond x0 x1 x2 x3 x4 s) := by
  unfold touchFrond
  repeat' with_reducible first | assumption | refine dramSpan_touch (Mask.sub hm rfl) ?_ | refine forAll_touch (fun _ _ _ => ?_) ?_ | refine Touch.ite ?_ ?_ | split | dsimp only

theorem prefetch_touch (hm : m ||| 100356 = m) {x0 : Nat} {x1 : Nat} {x2 : Nat} (h : Touch m a s) : Touch m a (prefetch x0 x1 x2 s) := by
  unfold prefetch
  repeat' with_reducible first | assumption | refine touchFrond_touch (Mask.sub hm rfl) ?_ | refine State.setHead_touch (Mask.sub hm rfl) ?_ | refine State.setFlag_touch (Mask.sub hm rfl) ?_ | refine markFrondTorn_touch (Mask.sub hm rfl) ?_ | refine forAll_touch (fun _ _ _ => ?_) ?_ | refine Touch.ite ?_ ?_ | split | dsimp only

theorem probeDecision_touch (hm : m ||| 8518412 = m) {x0 : Nat} {x1 : Bool} (h : Touch m a s) : Touch m a (probeDecision x0 x1 s) := by
  unfold probeDecision
  repeat' with_reducible first | assumption | refine State.setSeq_touch (Mask.sub hm rfl) ?_ | refine decideOp_touch (Mask.sub hm rfl) ?_ | refine Touch.ite ?_ ?_ | split | dsimp only

theorem pulseFire_touch (hm : m ||| 17484044 = m) {x0 : Nat} {x1 : Nat} (h : Touch m a s) : Touch m a (pulseFire x0 x1 s) := by
  unfold pulseFire
  repeat' with_reducible first | assumption | refine suppress_touch (Mask.sub hm rfl) ?_ | refine openWindow_touch (Mask.sub hm rfl) ?_ | refine limiterShadow_touch (Mask.sub hm rfl) ?_ | refine fireBank_touch (Mask.sub hm rfl) ?_ | refine Touch.ite ?_ ?_ | split | dsimp only

theorem pushSplit_touch (hm : m ||| 51212 = m) {n len val : Nat} (h : Touch m a s) : Touch m a (pushSplit n len val s) := by
  induction n generalizing len val s with
  | zero => exact h
  | succ n ih =>
    unfold pushSplit
    split
    · exact h
    · exact ih (pushStream_touch (Mask.sub hm rfl) (Touch.ite h (closeParcel_touch (Mask.sub hm rfl) h)))

theorem putLine_touch (hm : m ||| 41959428 = m) {x0 : Nat} {x1 : List Bool} (h : Touch m a s) : Touch m a (putLine x0 x1 s) := by
  unfold putLine
  repeat' with_reducible first | assumption | refine State.setLane_touch (Mask.sub hm rfl) ?_ | refine lineReceive_touch (Mask.sub hm rfl) ?_ | refine Touch.ite ?_ ?_ | split | dsimp only

theorem putWords_touch (hm : m ||| 4 = m) {x0 : Nat → Nat} {x1 : Nat} {x2 : Nat} (h : Touch m a s) : Touch m a (putWords x0 x1 x2 s) := by
  unfold putWords
  repeat' with_reducible first | assumption | refine State.setReg_touch (Mask.sub hm rfl) ?_ | refine upTo_touch (fun _ _ _ => ?_) ?_ | refine Touch.ite ?_ ?_ | split | dsimp only

theorem rearmEnd_touch (hm : m ||| 64 = m) {x0 : Nat} (h : Touch m a s) : Touch m a (rearmEnd x0 s) := by
  unfold rearmEnd
  repeat' with_reducible first | assumption | refine State.setChan_touch (Mask.sub hm rfl) ?_ | refine Touch.ite ?_ ?_ | split | dsimp only

theorem recoverEntries_touch (hm : m ||| 8388620 = m) (h : Touch m a s) : Touch m a (recoverEntries s) := by
  unfold recoverEntries
  repeat' with_reducible first | assumption | refine State.setSec_touch (Mask.sub hm rfl) ?_ | refine ledgerAppend_touch (Mask.sub hm rfl) ?_ | refine forAll_touch (fun _ _ _ => ?_) ?_ | refine Touch.ite ?_ ?_ | split | dsimp only

theorem reductionEnd_touch (hm : m ||| 52492 = m) {x0 : Nat} {x1 : Nat} (h : Touch m a s) : Touch m a (reductionEnd x0 x1 s) := by
  unfold reductionEnd
  repeat' with_reducible first | assumption | refine State.setDie_touch (Mask.sub hm rfl) ?_ | refine State.setOp_touch (Mask.sub hm rfl) ?_ | refine State.add_touch (Mask.sub hm rfl) ?_ | refine State.setFlag_touch (Mask.sub hm rfl) ?_ | refine pushStream_touch (Mask.sub hm rfl) ?_ | refine forAll_touch (fun _ _ _ => ?_) ?_ | refine Touch.ite ?_ ?_ | split | dsimp only

theorem refIssue_touch (hm : m ||| 4213508 = m) {x0 : Nat} (h : Touch m a s) : Touch m a (refIssue x0 s) := by
  unfold refIssue
  repeat' with_reducible first | assumption | refine State.bumpSat_touch (Mask.sub hm rfl) ?_ | refine State.bump_touch (Mask.sub hm rfl) ?_ | refine issue_touch (Mask.sub hm rfl) ?_ | refine Touch.ite ?_ ?_ | split | dsimp only | refine Touch.set_therm (Mask.sub hm rfl) ?_

theorem replayRec_touch (hm : m ||| 51212 = m) {x0 : Nat} {x1 : Nat} {x2 : Nat} {x3 : Nat} {x4 : Nat} {x5 : Nat} (h : Touch m a s) : Touch m a (replayRec x0 x1 x2 x3 x4 x5 s) := by
  unfold replayRec
  repeat' with_reducible first | assumption | refine pushSplit_touch (Mask.sub hm rfl) ?_ | refine Touch.ite ?_ ?_ | split | dsimp only

theorem replayEnd_touch (hm : m ||| 51212 = m) {x0 : Sys2Proof.Machine.Reader} (h : Touch m a s) : Touch m a (replayEnd x0 s) := by
  unfold replayEnd
  repeat' with_reducible first | assumption | refine replayRec_touch (Mask.sub hm rfl) ?_ | refine State.clrFlag_touch (Mask.sub hm rfl) ?_ | refine State.setDram_touch (Mask.sub hm rfl) ?_ | refine Touch.ite ?_ ?_ | split | dsimp only

theorem replayIndex_touch (hm : m ||| 32780 = m) (h : Touch m a s) : Touch m a (replayIndex s) := by
  unfold replayIndex
  repeat' with_reducible first | assumption | refine replayFlush_touch (Mask.sub hm rfl) ?_ | refine dramUse_touch (Mask.sub hm rfl) ?_ | refine State.store_touch (Mask.sub hm rfl) ?_ | refine replayOldest_touch (Mask.sub hm rfl) ?_ | refine State.setDram_touch (Mask.sub hm rfl) ?_ | refine Touch.ite ?_ ?_ | split | dsimp only

theorem replayOne_touch (hm : m ||| 51212 = m) {x0 : Sys2Proof.Machine.Reader} {x1 : Sys2Proof.Machine.ReplayCopy} (h : Touch m a s) : Touch m a (replayOne x0 x1 s) := by
  unfold replayOne
  repeat' with_reducible first | assumption | refine dramRing_touch (Mask.sub hm rfl) ?_ | refine replayRec_touch (Mask.sub hm rfl) ?_ | refine State.setDram_touch (Mask.sub hm rfl) ?_ | refine Touch.ite ?_ ?_ | split | dsimp only

theorem replaySend_touch (hm : m ||| 51212 = m) (h : Touch m a s) : Touch m a (replaySend s) := by
  unfold replaySend
  split
  · exact h
  · split
    · exact h
    · extract_lets s1
      have h1 : Touch m a s1 := replayStore_touch (Mask.sub hm rfl) h
      clear_value s1
      split
      · exact h1
      · extract_lets lost s2 rd
        have h2 : Touch m a s2 := Touch.ite h1 (State.setFlag_touch (Mask.sub hm rfl) h1)
        clear_value s2 rd
        split
        · split
          · exact replayEnd_touch (Mask.sub hm rfl) h2
          · exact Touch.ite h2 (replayOne_touch (Mask.sub hm rfl) h2)
        · exact replayEnd_touch (Mask.sub hm rfl) h2

theorem replyDeadline_touch (hm : m ||| 51038220 = m) {x0 : Nat} (h : Touch m a s) : Touch m a (replyDeadline x0 s) := by
  unfold replyDeadline
  repeat' with_reducible first | assumption | refine iuFree_touch (Mask.sub hm rfl) ?_ | refine State.setDrv_touch (Mask.sub hm rfl) ?_ | refine State.setBank_touch (Mask.sub hm rfl) ?_ | refine bankFail_touch (Mask.sub hm rfl) ?_ | refine State.bumpSat_touch (Mask.sub hm rfl) ?_ | refine State.setFlag_touch (Mask.sub hm rfl) ?_ | refine upTo_touch (fun _ _ _ => ?_) ?_ | refine Touch.ite ?_ ?_ | split | dsimp only

theorem statBit_touch (hm : m ||| 33554436 = m) {x0 : Nat} {x1 : Nat} {x2 : Nat} {x3 : Nat} {x4 : Nat} (h : Touch m a s) : Touch m a (statBit x0 x1 x2 x3 x4 s) := by
  unfold statBit
  repeat' with_reducible first | assumption | refine enterErr_touch (Mask.sub hm rfl) ?_ | refine Touch.ite ?_ ?_ | split | dsimp only

theorem replyGood_touch (hm : m ||| 51038220 = m) {x0 : Nat} {x1 : Nat} {x2 : Nat} {x3 : Nat} {x4 : Nat} {x5 : Sys2Proof.Machine.Exchange} (h : Touch m a s) : Touch m a (replyGood x0 x1 x2 x3 x4 x5 s) := by
  unfold replyGood
  repeat' with_reducible first | assumption | refine State.put_touch (Mask.sub hm rfl) ?_ | refine State.modBank_touch (Mask.sub hm rfl) ?_ | refine statBit_touch (Mask.sub hm rfl) ?_ | refine cableUpdate_touch (Mask.sub hm rfl) ?_ | refine emitReading_touch (Mask.sub hm rfl) ?_ | refine bankFail_touch (Mask.sub hm rfl) ?_ | refine Touch.ite ?_ ?_ | split | dsimp only

theorem replyFrame_touch (hm : m ||| 51038220 = m) {x0 : Nat} {x1 : Nat} {x2 : Nat} (h : Touch m a s) : Touch m a (replyFrame x0 x1 x2 s) := by
  unfold replyFrame
  repeat' with_reducible first | assumption | refine replyGood_touch (Mask.sub hm rfl) ?_ | refine Touch.ite ?_ ?_ | split | dsimp only

theorem riseWarn_touch (hm : m ||| 4 = m) {x0 : Int} (h : Touch m a s) : Touch m a (riseWarn x0 s) := by
  unfold riseWarn
  repeat' with_reducible first | assumption | refine raiseEv_touch (Mask.sub hm rfl) ?_ | refine State.setFlag_touch (Mask.sub hm rfl) ?_ | refine Touch.ite ?_ ?_ | split | dsimp only

theorem rqPlace_touch (hm : m ||| 2097156 = m) {x0 : Nat} {x1 : Nat} (h : Touch m a s) : Touch m a (rqPlace x0 x1 s) := by
  unfold rqPlace
  repeat' with_reducible first | assumption | refine State.bumpSat_touch (Mask.sub hm rfl) ?_ | refine State.setFlag_touch (Mask.sub hm rfl) ?_ | refine Touch.ite ?_ ?_ | split | dsimp only | refine Touch.set_hk (Mask.sub hm rfl) ?_

theorem seqFault_touch (hm : m ||| 33562628 = m) {x0 : Nat} {x1 : Nat} (h : Touch m a s) : Touch m a (seqFault x0 x1 s) := by
  unfold seqFault
  repeat' with_reducible first | assumption | refine State.setSeq_touch (Mask.sub hm rfl) ?_ | refine State.bumpSat_touch (Mask.sub hm rfl) ?_ | refine State.put_touch (Mask.sub hm rfl) ?_ | refine enterErr_touch (Mask.sub hm rfl) ?_ | refine Touch.ite ?_ ?_ | split | dsimp only

theorem seqsSafe_touch (hm : m ||| 33566468 = m) (h : Touch m a s) : Touch m a (seqsSafe s) := by
  unfold seqsSafe
  repeat' with_reducible first | assumption | refine seqFault_touch (Mask.sub hm rfl) ?_ | refine dropProbe_touch (Mask.sub hm rfl) ?_ | refine State.setSeq_touch (Mask.sub hm rfl) ?_ | refine abandonWhere_touch (Mask.sub hm rfl) ?_ | refine upTo_touch (fun _ _ _ => ?_) ?_ | refine forAll_touch (fun _ _ _ => ?_) ?_ | refine Touch.ite ?_ ?_ | split | dsimp only

theorem safeEntry_touch (hm : m ||| 51113740 = m) (h : Touch m a s) : Touch m a (safeEntry s) := by
  unfold safeEntry
  repeat' with_reducible first | assumption | refine State.setFlag_touch (Mask.sub hm rfl) ?_ | refine releaseOwn_touch (Mask.sub hm rfl) ?_ | refine stopHead_touch (Mask.sub hm rfl) ?_ | refine seqsSafe_touch (Mask.sub hm rfl) ?_ | refine guardLatch_touch (Mask.sub hm rfl) ?_ | refine Touch.ite ?_ ?_ | split | dsimp only | refine Touch.set_su (Mask.sub hm rfl) ?_

theorem serveVisit_touch (hm : m ||| 256 = m) {x0 : Nat} {x1 : Sys2Proof.Machine.Visit} {x2 : Nat} {x3 : Nat} {x4 : Nat} {x5 : Sys2Proof.Machine.Op} (h : Touch m a s) : Touch m a (serveVisit x0 x1 x2 x3 x4 x5 s) := by
  unfold serveVisit
  repeat' with_reducible first | assumption | refine State.setOp_touch (Mask.sub hm rfl) ?_ | refine Touch.ite ?_ ?_ | split | dsimp only

theorem scanVisit_touch (hm : m ||| 25819916 = m) {x0 : Nat} {x1 : Bool} (h : Touch m a s) : Touch m a (scanVisit x0 x1 s) := by
  unfold scanVisit
  repeat' with_reducible first | assumption | refine State.modHead_touch (Mask.sub hm rfl) ?_ | refine serveVisit_touch (Mask.sub hm rfl) ?_ | refine missedPass_touch (Mask.sub hm rfl) ?_ | refine decideOp_touch (Mask.sub hm rfl) ?_ | refine Touch.ite ?_ ?_ | split | dsimp only

theorem selfRefreshEnter_touch (hm : m ||| 4 = m) {x0 : Nat} (h : Touch m a s) : Touch m a (selfRefreshEnter x0 s) := by
  unfold selfRefreshEnter
  repeat' with_reducible first | assumption | refine State.bump_touch (Mask.sub hm rfl) ?_ | refine State.setFlag_touch (Mask.sub hm rfl) ?_ | refine Touch.ite ?_ ?_ | split | dsimp only

theorem sendParcel_touch (hm : m ||| 16388 = m) {x0 : Nat} {x1 : Nat} {x2 : Sys2Proof.Machine.Parcel} {x3 : Bool} (h : Touch m a s) : Touch m a (sendParcel x0 x1 x2 x3 s).1 := by
  unfold sendParcel
  repeat' with_reducible first | assumption | refine State.setLane_touch (Mask.sub hm rfl) ?_ | refine State.bump_touch (Mask.sub hm rfl) ?_ | refine Touch.ite ?_ ?_ | split | dsimp only

theorem takeReading_touch (hm : m ||| 4194308 = m) {x0 : Nat × Nat × Int} (h : Touch m a s) : Touch m a (takeReading x0 s) := by
  unfold takeReading
  repeat' with_reducible first | assumption | refine State.setSensor_touch (Mask.sub hm rfl) ?_ | refine State.puti_touch (Mask.sub hm rfl) ?_ | refine Touch.ite ?_ ?_ | split | dsimp only

theorem setCap_touch (hm : m ||| 4 = m) (h : Touch m a s) : Touch m a (setCap s) := by
  unfold setCap
  repeat' with_reducible first | assumption | refine State.put_touch (Mask.sub hm rfl) ?_ | refine Touch.ite ?_ ?_ | split | dsimp only

theorem temperatures_touch (hm : m ||| 4194324 = m) (h : Touch m a s) : Touch m a (temperatures s) := by
  unfold temperatures
  repeat' with_reducible first | assumption | refine State.puti_touch (Mask.sub hm rfl) ?_ | refine State.drawIf_touch (Mask.sub hm rfl) ?_ | refine Touch.pair2 (by assumption) (State.drawIf_touch (Mask.sub hm rfl) ?_) | refine levelStep_touch (Mask.sub hm rfl) ?_ | refine setCap_touch (Mask.sub hm rfl) ?_ | refine riseWarn_touch (Mask.sub hm rfl) ?_ | refine forAll_touch (fun _ _ _ => ?_) ?_ | refine Touch.ite ?_ ?_ | split | dsimp only

theorem sensorConversion_touch (hm : m ||| 65793820 = m) {x0 : List (Nat × Nat × Int)} (h : Touch m a s) : Touch m a (sensorConversion x0 s) := by
  unfold sensorConversion
  repeat' with_reducible first | assumption | refine takeReading_touch (Mask.sub hm rfl) ?_ | refine faultSensor_touch (Mask.sub hm rfl) ?_ | refine temperatures_touch (Mask.sub hm rfl) ?_ | refine portsHold_touch (Mask.sub hm rfl) ?_ | refine dueByTemp_touch (Mask.sub hm rfl) ?_ | refine forAll_touch (fun _ _ _ => ?_) ?_ | refine upTo_touch (fun _ _ _ => ?_) ?_ | refine Touch.ite ?_ ?_ | split | dsimp only | refine Touch.set_therm (Mask.sub hm rfl) ?_

theorem seqAdvance_touch (hm : m ||| 4 = m) {x0 : Nat} {x1 : Nat} (h : Touch m a s) : Touch m a (seqAdvance x0 x1 s) := by
  unfold seqAdvance
  repeat' with_reducible first | assumption | refine State.bump_touch (Mask.sub hm rfl) ?_ | refine State.put_touch (Mask.sub hm rfl) ?_ | refine Touch.ite ?_ ?_ | split | dsimp only

theorem seqConvert_touch (hm : m ||| 3145732 = m) {x0 : Nat} {x1 : Nat} {x2 : Nat} (h : Touch m a s) : Touch m a (seqConvert x0 x1 x2 s) := by
  unfold seqConvert
  repeat' with_reducible first | assumption | refine rqPlace_touch (Mask.sub hm rfl) ?_ | refine capValue_touch (Mask.sub hm rfl) ?_ | refine Touch.ite ?_ ?_ | split | dsimp only

theorem seqDrain_touch (hm : m ||| 3145732 = m) {l : List Nat} (h : Touch m a s) : Touch m a (seqDrain l s) := by
  induction l generalizing s with
  | nil => exact h
  | cons c r ih =>
    have k := fun (v : Housekeeping) (w t : Nat) => seqConvert_touch (Mask.sub hm rfl : m ||| 3145732 = m) (x0 := w) (x1 := t) (x2 := c)
      (Touch.set_hk (v := v) (Mask.sub hm rfl) h)
    unfold seqDrain
    cases s.hk.seqTail with
    | nil => exact h
    | cons p l => exact Touch.ite h (ih (k _ _ _))

theorem seqEnd_touch (hm : m ||| 33562628 = m) {n : Nat} {t : State} {f : Flow} (h : Touch m a s) (k : Touch m a t) : Touch m a (seqEnd n s t f) := by
  unfold seqEnd
  repeat' with_reducible first | assumption | refine seqAdvance_touch (Mask.sub hm rfl) ?_ | refine seqFault_touch (Mask.sub hm rfl) ?_ | refine State.put_touch (Mask.sub hm rfl) ?_ | refine State.setSeq_touch (Mask.sub hm rfl) ?_ | refine Touch.ite ?_ ?_ | split | dsimp only

theorem seqNext_touch (hm : m ||| 2097156 = m) {x0 : Nat} (h : Touch m a s) : Touch m a (seqNext x0 s) := by
  unfold seqNext
  repeat' with_reducible first | assumption | refine seqTurn_touch (Mask.sub hm rfl) ?_ | refine Touch.ite ?_ ?_ | split | dsimp only

theorem seqRun_touch (hm : m ||| 3145732 = m) {l : List Nat} (h : Touch m a s) : Touch m a (seqRun l s) := by
  induction l generalizing s with
  | nil => exact h
  | cons c r ih =>
    have k := fun (v : Housekeeping) (w t : Nat) => seqConvert_touch (Mask.sub hm rfl : m ||| 3145732 = m) (x0 := w) (x1 := t) (x2 := c)
      (Touch.set_hk (v := v) (Mask.sub hm rfl) h)
    exact Touch.ite h (Touch.ite (seqNext_touch (Mask.sub hm rfl) (k _ _ _)) (ih (k _ _ _)))

theorem seqPort_touch (hm : m ||| 2097156 = m) {x0 : Nat} (h : Touch m a s) : Touch m a (seqPort x0 s) := by
  unfold seqPort
  repeat' with_reducible first | assumption | refine rqPlace_touch (Mask.sub hm rfl) ?_ | refine Touch.ite ?_ ?_ | split | dsimp only

theorem seqEntry_touch (hm : m ||| 3145732 = m) {x0 : List Nat} (h : Touch m a s) : Touch m a (seqEntry x0 s) := by
  unfold seqEntry
  repeat' with_reducible first | assumption | refine seqDrain_touch (Mask.sub hm rfl) ?_ | refine seqRun_touch (Mask.sub hm rfl) ?_ | refine seqNext_touch (Mask.sub hm rfl) ?_ | refine seqPort_touch (Mask.sub hm rfl) ?_ | refine Touch.ite ?_ ?_ | split | dsimp only

theorem seqSkip_touch (hm : m ||| 33562628 = m) {x0 : Nat} (h : Touch m a s) : Touch m a (seqSkip x0 s) := by
  unfold seqSkip
  repeat' with_reducible first | assumption | refine State.put_touch (Mask.sub hm rfl) ?_ | refine seqFault_touch (Mask.sub hm rfl) ?_ | refine Touch.ite ?_ ?_ | split | dsimp only

theorem seqInstr_touch (hm : m ||| 33562628 = m) {n opc : Nat} {body : Body} (hb : ∀ i t, Touch m a t → Touch m a (body n i t).1) (h : Touch m a s) :
    Touch m a (seqInstr n opc body s) := by
  unfold seqInstr
  repeat' with_reducible first | assumption | exact seqFault_touch (Mask.sub hm rfl) h | exact seqEnd_touch (Mask.sub hm rfl) h (hb _ _ h) | exact seqEnd_touch (Mask.sub hm rfl) h h | exact seqSkip_touch (Mask.sub hm rfl) h | refine Touch.ite ?_ ?_ | split | dsimp only

theorem serveObs_touch (hm : m ||| 8409096 = m) (h : Touch m a s) : Touch m a (serveObs s) := by
  unfold serveObs
  repeat' with_reducible first | assumption | refine nvBegin_touch (Mask.sub hm rfl) ?_ | refine learnObs_touch (Mask.sub hm rfl) ?_ | refine Touch.ite ?_ ?_ | split | dsimp only | refine Touch.set_pts (Mask.sub hm rfl) ?_

theorem setQual_touch (hm : m ||| 65540 = m) {x0 : Nat} (h : Touch m a s) : Touch m a (setQual x0 s) := by
  unfold setQual
  repeat' with_reducible first | assumption | refine syncQualChanged_touch (Mask.sub hm rfl) ?_ | refine State.put_touch (Mask.sub hm rfl) ?_ | refine Touch.ite ?_ ?_ | split | dsimp only

theorem settle_touch (hm : m ||| 51113740 = m) (h : Touch m a s) : Touch m a (settle s) := by
  unfold settle
  repeat' with_reducible first | assumption | refine safeEntry_touch (Mask.sub hm rfl) ?_ | refine Touch.ite ?_ ?_ | split | dsimp only | refine Touch.set_su (Mask.sub hm rfl) ?_

theorem standbyTakes_touch (hm : m ||| 67840 = m) {x0 : Nat} {x1 : Nat} (h : Touch m a s) : Touch m a (standbyTakes x0 x1 s) := by
  unfold standbyTakes
  repeat' with_reducible first | assumption | refine State.modHead_touch (Mask.sub hm rfl) ?_ | refine State.modFrame_touch (Mask.sub hm rfl) ?_ | refine State.setOp_touch (Mask.sub hm rfl) ?_ | refine forAll_touch (fun _ _ _ => ?_) ?_ | refine Touch.ite ?_ ?_ | split | dsimp only

theorem shadowDeclined_touch (hm : m ||| 68352 = m) {x0 : Nat} {x1 : Nat} {x2 : Nat} {x3 : Nat} (h : Touch m a s) : Touch m a (shadowDeclined x0 x1 x2 x3 s) := by
  unfold shadowDeclined
  repeat' with_reducible first | assumption | refine standbyTakes_touch (Mask.sub hm rfl) ?_ | refine State.modFrame_touch (Mask.sub hm rfl) ?_ | refine releaseOp_touch (Mask.sub hm rfl) ?_ | refine State.modHead_touch (Mask.sub hm rfl) ?_ | refine Touch.ite ?_ ?_ | split | dsimp only

theorem shadowEgress_touch (hm : m ||| 526336 = m) {x0 : Nat} {x1 : Nat} {x2 : Nat} {x3 : Nat} {x4 : Nat} {x5 : Nat} (h : Touch m a s) : Touch m a (shadowEgress x0 x1 x2 x3 x4 x5 s) := by
  unfold shadowEgress
  repeat' with_reducible first | assumption | refine missedDone_touch (Mask.sub hm rfl) ?_ | refine State.setTwin_touch (Mask.sub hm rfl) ?_ | refine Touch.ite ?_ ?_ | split | dsimp only

theorem shadowMiss_touch (hm : m ||| 17369092 = m) {x0 : Sys2Proof.Machine.Op} (h : Touch m a s) : Touch m a (shadowMiss x0 s) := by
  unfold shadowMiss
  repeat' with_reducible first | assumption | refine State.modHead_touch (Mask.sub hm rfl) ?_ | refine State.bumpSat_touch (Mask.sub hm rfl) ?_ | refine State.modFrame_touch (Mask.sub hm rfl) ?_ | refine missedPass_touch (Mask.sub hm rfl) ?_ | refine State.setTwin_touch (Mask.sub hm rfl) ?_ | refine Touch.ite ?_ ?_ | split | dsimp only

theorem shadowIssued_touch (hm : m ||| 17386244 = m) {x0 : Nat} {x1 : Nat} {x2 : Nat} {x3 : Nat} {x4 : Nat} {x5 : List Nat} {x6 : Nat} {x7 : Nat} {x8 : Nat} (h : Touch m a s) : Touch m a (shadowIssued x0 x1 x2 x3 x4 x5 x6 x7 x8 s) := by
  unfold shadowIssued
  repeat' with_reducible first | assumption | refine alignHead_touch (Mask.sub hm rfl) ?_ | refine State.setOp_touch (Mask.sub hm rfl) ?_ | refine State.modFrame_touch (Mask.sub hm rfl) ?_ | refine releaseOp_touch (Mask.sub hm rfl) ?_ | refine issue_touch (Mask.sub hm rfl) ?_ | refine shadowMiss_touch (Mask.sub hm rfl) ?_ | refine Touch.ite ?_ ?_ | split | dsimp only

theorem shadowPulses_touch (hm : m ||| 17301760 = m) {x0 : Nat} {x1 : Nat} {x2 : Nat} {x3 : List Nat} (h : Touch m a s) : Touch m a (shadowPulses x0 x1 x2 x3 s) := by
  unfold shadowPulses
  repeat' with_reducible first | assumption | refine State.setTwin_touch (Mask.sub hm rfl) ?_ | refine limiterUndo_touch (Mask.sub hm rfl) ?_ | refine State.setOp_touch (Mask.sub hm rfl) ?_ | refine Touch.ite ?_ ?_ | split | dsimp only

theorem shadowNotice_touch (hm : m ||| 17386244 = m) {x0 : Sys2Proof.ShadowNotice} (h : Touch m a s) : Touch m a (shadowNotice x0 s) := by
  unfold shadowNotice
  repeat' with_reducible first | assumption | refine shadowIssued_touch (Mask.sub hm rfl) ?_ | refine shadowDeclined_touch (Mask.sub hm rfl) ?_ | refine shadowPulses_touch (Mask.sub hm rfl) ?_ | refine shadowEgress_touch (Mask.sub hm rfl) ?_ | refine Touch.ite ?_ ?_ | split | dsimp only

theorem showIdentity_touch (hm : m ||| 12 = m) (h : Touch m a s) : Touch m a (showIdentity s) := by
  unfold showIdentity
  repeat' with_reducible first | assumption | refine State.put_touch (Mask.sub hm rfl) ?_ | refine State.store_touch (Mask.sub hm rfl) ?_ | refine putWords_touch (Mask.sub hm rfl) ?_ | refine Touch.ite ?_ ?_ | split | dsimp only

theorem signalDetect_touch (hm : m ||| 16388 = m) {x0 : Nat} (h : Touch m a s) : Touch m a (signalDetect x0 s) := by
  unfold signalDetect
  repeat' with_reducible first | assumption | refine State.modLane_touch (Mask.sub hm rfl) ?_ | refine State.put_touch (Mask.sub hm rfl) ?_ | refine Touch.ite ?_ ?_ | split | dsimp only

theorem sleepEnd_touch (hm : m ||| 8196 = m) {x0 : Nat} (h : Touch m a s) : Touch m a (sleepEnd x0 s) := by
  unfold sleepEnd
  repeat' with_reducible first | assumption | refine seqResume_touch (Mask.sub hm rfl) ?_ | refine Touch.ite ?_ ?_ | split | dsimp only

theorem sleepEnter_touch (hm : m ||| 41959428 = m) {x0 : Nat} (h : Touch m a s) : Touch m a (sleepEnter x0 s) := by
  unfold sleepEnter
  repeat' with_reducible first | assumption | refine State.put_touch (Mask.sub hm rfl) ?_ | refine putLine_touch (Mask.sub hm rfl) ?_ | refine State.modLane_touch (Mask.sub hm rfl) ?_ | refine Touch.ite ?_ ?_ | split | dsimp only

theorem sleepReceive_touch (hm : m ||| 16388 = m) {x0 : Nat} {x1 : Bool} (h : Touch m a s) : Touch m a (sleepReceive x0 x1 s) := by
  unfold sleepReceive
  repeat' with_reducible first | assumption | refine State.put_touch (Mask.sub hm rfl) ?_ | refine State.modLane_touch (Mask.sub hm rfl) ?_ | refine State.clrFlag_touch (Mask.sub hm rfl) ?_ | refine Touch.ite ?_ ?_ | split | dsimp only

theorem takeParcel_touch (hm : m ||| 573444 = m) {l : Nat} {p : State × Nat} (e : takeParcel l s = some p) (h : Touch m a s) : Touch m a p.1 := by
  unfold takeParcel at e
  extract_lets w at e
  have hw : Touch m a w := Touch.ite (copyNext_touch (Mask.sub hm rfl) h) h
  clear_value w
  dsimp only at e
  split at e
  · cases e; exact sendParcel_touch (Mask.sub hm rfl) (State.setLane_touch (Mask.sub hm rfl) hw)
  · split at e
    · cases e
    · split at e
      · cases e
      · split at e
        · cases e
        · cases e
          refine sendParcel_touch (Mask.sub hm rfl) (State.setLane_touch (Mask.sub hm rfl) ?_)
          split
          · exact State.setPort_touch (Mask.sub hm rfl) (State.setStream_touch (Mask.sub hm rfl) hw)
          · exact State.setStream_touch (Mask.sub hm rfl) hw

theorem upSlot_touch (hm : m ||| 573444 = m) {l : Nat} (h : Touch m a s) : Touch m a (upSlot l s).1 := by
  unfold upSlot
  extract_lets x idle control
  have hi : Touch m a idle.1 := by unfold idle; dsimp only; exact State.modLane_touch (Mask.sub hm rfl) h
  have hc : Touch m a control.1 := by
    unfold control
    split
    · next d e => dsimp only; exact State.modLane_touch (Mask.sub hm rfl) (dueBlock_touch (Mask.sub hm rfl) e h)
    · exact hi
  clear_value idle control x
  split
  · split
    · dsimp only; exact State.setLane_touch (Mask.sub hm rfl) h
    · exact hc
  · split
    · exact hi
    · split
      · exact hc
      · split
        · next d e => dsimp only; exact State.modLane_touch (Mask.sub hm rfl) (takeParcel_touch (Mask.sub hm rfl) e h)
        · exact hi

theorem slotBlock_touch (hm : m ||| 573444 = m) {l : Nat} {p : State × Bool × Nat × Bool} (e : slotBlock l s = some p) (h : Touch m a s) :
    Touch m a p.1 := by
  unfold slotBlock at e
  dsimp only at e
  split at e
  · cases e; exact h
  · split at e
    · split at e
      · cases e; dsimp only; exact State.modLane_touch (Mask.sub hm rfl) h
      · cases e; exact h
    · split at e
      · cases e; exact upSlot_touch (Mask.sub hm rfl) h
      · cases e

theorem spOutput_touch (hm : m ||| 2097156 = m) {x0 : Nat} {x1 : Nat} {x2 : Int} (h : Touch m a s) : Touch m a (spOutput x0 x1 x2 s) := by
  unfold spOutput
  repeat' with_reducible first | assumption | refine State.setSport_touch (Mask.sub hm rfl) ?_ | refine State.putb_touch (Mask.sub hm rfl) ?_ | refine State.bump_touch (Mask.sub hm rfl) ?_ | refine State.puti_touch (Mask.sub hm rfl) ?_ | refine Touch.ite ?_ ?_ | split | dsimp only

theorem spBreak_touch (hm : m ||| 52480012 = m) {x0 : Nat} (h : Touch m a s) : Touch m a (spBreak x0 s) := by
  unfold spBreak
  repeat' with_reducible first | assumption | refine State.setSport_touch (Mask.sub hm rfl) ?_ | refine State.setFlag_touch (Mask.sub hm rfl) ?_ | refine spOutput_touch (Mask.sub hm rfl) ?_ | refine enterErr_touch (Mask.sub hm rfl) ?_ | refine portsHold_touch (Mask.sub hm rfl) ?_ | refine Touch.ite ?_ ?_ | split | dsimp only

theorem takeCurve_touch (hm : m ||| 2097156 = m) {x0 : Nat} (h : Touch m a s) : Touch m a (takeCurve x0 s) := by
  unfold takeCurve
  repeat' with_reducible first | assumption | refine State.put_touch (Mask.sub hm rfl) ?_ | refine State.setSport_touch (Mask.sub hm rfl) ?_ | refine upTo_touch (fun _ _ _ => ?_) ?_ | refine Touch.ite ?_ ?_ | split | dsimp only

theorem spFilter_touch (hm : m ||| 3145732 = m) {x0 : Nat} {x1 : Int × Bool} (h : Touch m a s) : Touch m a (spFilter x0 x1 s) := by
  unfold spFilter
  repeat' with_reducible first | assumption | refine State.setSport_touch (Mask.sub hm rfl) ?_ | refine State.setFlag_touch (Mask.sub hm rfl) ?_ | refine takeCurve_touch (Mask.sub hm rfl) ?_ | refine capValue_touch (Mask.sub hm rfl) ?_ | refine spOutput_touch (Mask.sub hm rfl) ?_ | refine State.puti_touch (Mask.sub hm rfl) ?_ | refine Touch.ite ?_ ?_ | split | dsimp only

theorem spSample_touch (hm : m ||| 53528604 = m) {x0 : Nat} {x1 : Sys2Proof.Machine.Pulse} (h : Touch m a s) : Touch m a (spSample x0 x1 s) := by
  unfold spSample
  repeat' with_reducible first | assumption | refine State.setSport_touch (Mask.sub hm rfl) ?_ | refine spBreak_touch (Mask.sub hm rfl) ?_ | refine State.clrFlag_touch (Mask.sub hm rfl) ?_ | refine portsHold_touch (Mask.sub hm rfl) ?_ | refine State.drawIf_touch (Mask.sub hm rfl) ?_ | refine Touch.pair2 (by assumption) (State.drawIf_touch (Mask.sub hm rfl) ?_) | refine spFilter_touch (Mask.sub hm rfl) ?_ | refine Touch.ite ?_ ?_ | split | dsimp only

theorem stageEnd_touch (hm : m ||| 33554436 = m) {x0 : Nat} (h : Touch m a s) : Touch m a (stageEnd x0 s) := by
  unfold stageEnd
  repeat' with_reducible first | assumption | refine bootError_touch (Mask.sub hm rfl) ?_ | refine State.put_touch (Mask.sub hm rfl) ?_ | refine Touch.ite ?_ ?_ | split | dsimp only | refine Touch.set_su (Mask.sub hm rfl) ?_

theorem stageCalibration_touch (hm : m ||| 37748740 = m) {x0 : List (Nat × Int)} (h : Touch m a s) : Touch m a (stageCalibration x0 s) := by
  unfold stageCalibration
  repeat' with_reducible first | assumption | refine calNow_touch (Mask.sub hm rfl) ?_ | refine stageEnd_touch (Mask.sub hm rfl) ?_ | refine Touch.ite ?_ ?_ | split | dsimp only | refine Touch.set_therm (Mask.sub hm rfl) ?_

theorem stageConfig_touch (hm : m ||| 46153740 = m) (h : Touch m a s) : Touch m a (stageConfig s) := by
  unfold stageConfig
  repeat' with_reducible first | assumption | refine loadSetting_touch (Mask.sub hm rfl) ?_ | refine State.setFlag_touch (Mask.sub hm rfl) ?_ | refine loadRecord_touch (Mask.sub hm rfl) ?_ | refine State.put_touch (Mask.sub hm rfl) ?_ | refine configErr_touch (Mask.sub hm rfl) ?_ | refine stageEnd_touch (Mask.sub hm rfl) ?_ | refine cfgId_touch (Mask.sub hm rfl) ?_ | refine recoverEntries_touch (Mask.sub hm rfl) ?_ | refine upTo_touch (fun _ _ _ => ?_) ?_ | refine Touch.ite ?_ ?_ | split | dsimp only | refine Touch.set_trk (Mask.sub hm rfl) ?_

theorem takeDieRecord_touch (hm : m ||| 33570564 = m) {x0 : Sys2Proof.DieRecord} (h : Touch m a s) : Touch m a (takeDieRecord x0 s) := by
  unfold takeDieRecord
  repeat' with_reducible first | assumption | refine State.put_touch (Mask.sub hm rfl) ?_ | refine State.putb_touch (Mask.sub hm rfl) ?_ | refine dieDark_touch (Mask.sub hm rfl) ?_ | refine enterErr_touch (Mask.sub hm rfl) ?_ | refine Touch.ite ?_ ?_ | split | dsimp only | refine Touch.set_pts (Mask.sub hm rfl) ?_

theorem stageDies_touch (hm : m ||| 33570564 = m) {x0 : List Sys2Proof.DieRecord} (h : Touch m a s) : Touch m a (stageDies x0 s) := by
  unfold stageDies
  repeat' with_reducible first | assumption | refine stageEnd_touch (Mask.sub hm rfl) ?_ | refine bootError_touch (Mask.sub hm rfl) ?_ | refine takeDieRecord_touch (Mask.sub hm rfl) ?_ | refine forAll_touch (fun _ _ _ => ?_) ?_ | refine Touch.ite ?_ ?_ | split | dsimp only

theorem stageGuard_touch (hm : m ||| 51038220 = m) {x0 : Bool} (h : Touch m a s) : Touch m a (stageGuard x0 s) := by
  unfold stageGuard
  repeat' with_reducible first | assumption | refine State.putb_touch (Mask.sub hm rfl) ?_ | refine bootError_touch (Mask.sub hm rfl) ?_ | refine releaseOwn_touch (Mask.sub hm rfl) ?_ | refine guardLatch_touch (Mask.sub hm rfl) ?_ | refine guardTo_touch (Mask.sub hm rfl) ?_ | refine stageEnd_touch (Mask.sub hm rfl) ?_ | refine ginBegin_touch (Mask.sub hm rfl) ?_ | refine Touch.ite ?_ ?_ | split | dsimp only | refine Touch.set_guard (Mask.sub hm rfl) ?_

theorem stageImages_touch (hm : m ||| 41971980 = m) (h : Touch m a s) : Touch m a (stageImages s) := by
  unfold stageImages
  repeat' with_reducible first | assumption | refine loadBootImage_touch (Mask.sub hm rfl) ?_ | refine bootError_touch (Mask.sub hm rfl) ?_ | refine stageEnd_touch (Mask.sub hm rfl) ?_ | refine forAll_touch (fun _ _ _ => ?_) ?_ | refine Touch.ite ?_ ?_ | split | dsimp only

theorem stageMemory_touch (hm : m ||| 33587204 = m) {x0 : List Sys2Proof.PortRecord} (h : Touch m a s) : Touch m a (stageMemory x0 s) := by
  unfold stageMemory
  repeat' with_reducible first | assumption | refine State.put_touch (Mask.sub hm rfl) ?_ | refine State.putb_touch (Mask.sub hm rfl) ?_ | refine enterErr_touch (Mask.sub hm rfl) ?_ | refine State.setFlag_touch (Mask.sub hm rfl) ?_ | refine bootError_touch (Mask.sub hm rfl) ?_ | refine State.setDram_touch (Mask.sub hm rfl) ?_ | refine stageEnd_touch (Mask.sub hm rfl) ?_ | refine memoryJudge_touch (Mask.sub hm rfl) ?_ | refine upTo_touch (fun _ _ _ => ?_) ?_ | refine Touch.ite ?_ ?_ | split | dsimp only

theorem stageReady_touch (hm : m ||| 41971972 = m) (h : Touch m a s) : Touch m a (stageReady s) := by
  unfold stageReady
  repeat' with_reducible first | assumption | refine laneEnable_touch (Mask.sub hm rfl) ?_ | refine sqStart_touch (Mask.sub hm rfl) ?_ | refine State.put_touch (Mask.sub hm rfl) ?_ | refine State.setFlag_touch (Mask.sub hm rfl) ?_ | refine upTo_touch (fun _ _ _ => ?_) ?_ | refine forAll_touch (fun _ _ _ => ?_) ?_ | refine Touch.ite ?_ ?_ | split | dsimp only | refine Touch.set_su (Mask.sub hm rfl) ?_

theorem tableInstall_touch (hm : m ||| 25165828 = m) {x0 : Nat} (h : Touch m a s) : Touch m a (tableInstall x0 s) := by
  unfold tableInstall
  repeat' with_reducible first | assumption | refine State.setReg_touch (Mask.sub hm rfl) ?_ | refine State.put_touch (Mask.sub hm rfl) ?_ | refine State.setSec_touch (Mask.sub hm rfl) ?_ | refine Touch.ite ?_ ?_ | split | dsimp only | refine Touch.set_guard (Mask.sub hm rfl) ?_

theorem stageRom_touch (hm : m ||| 58720268 = m) {x0 : List (Nat × List Sys2Proof.Byte)} (h : Touch m a s) : Touch m a (stageRom x0 s) := by
  unfold stageRom
  repeat' with_reducible first | assumption | refine showIdentity_touch (Mask.sub hm rfl) ?_ | refine State.setSec_touch (Mask.sub hm rfl) ?_ | refine putSetting_touch (Mask.sub hm rfl) ?_ | refine enterErr_touch (Mask.sub hm rfl) ?_ | refine State.setFlag_touch (Mask.sub hm rfl) ?_ | refine State.put_touch (Mask.sub hm rfl) ?_ | refine State.putb_touch (Mask.sub hm rfl) ?_ | refine tableInstall_touch (Mask.sub hm rfl) ?_ | refine factoryInstall_touch (Mask.sub hm rfl) ?_ | refine stageEnd_touch (Mask.sub hm rfl) ?_ | refine upTo_touch (fun _ _ _ => ?_) ?_ | refine Touch.ite ?_ ?_ | split | dsimp only | refine Touch.set_guard (Mask.sub hm rfl) ?_

theorem startupStage_touch (hm : m ||| 63635212 = m) {x0 : Sys2Proof.StageWork} (h : Touch m a s) : Touch m a (startupStage x0 s) := by
  unfold startupStage
  repeat' with_reducible first | assumption | refine stageRom_touch (Mask.sub hm rfl) ?_ | refine stageGuard_touch (Mask.sub hm rfl) ?_ | refine stageConfig_touch (Mask.sub hm rfl) ?_ | refine stageDies_touch (Mask.sub hm rfl) ?_ | refine stageMemory_touch (Mask.sub hm rfl) ?_ | refine stageImages_touch (Mask.sub hm rfl) ?_ | refine stageCalibration_touch (Mask.sub hm rfl) ?_ | refine stageReady_touch (Mask.sub hm rfl) ?_ | refine Touch.ite ?_ ?_ | split | dsimp only

theorem stepMove_touch (hm : m ||| 262144 = m) {x0 : Nat} {x1 : Nat} (h : Touch m a s) : Touch m a (stepMove x0 x1 s) := by
  unfold stepMove
  repeat' with_reducible first | assumption | refine State.modLoop_touch (Mask.sub hm rfl) ?_ | refine Touch.ite ?_ ?_ | split | dsimp only

theorem stuckHigh_touch (hm : m ||| 34604356 = m) {x0 : Nat} (h : Touch m a s) : Touch m a (stuckHigh x0 s) := by
  unfold stuckHigh
  repeat' with_reducible first | assumption | refine timeoutClose_touch (Mask.sub hm rfl) ?_ | refine enterErr_touch (Mask.sub hm rfl) ?_ | refine State.setFlag_touch (Mask.sub hm rfl) ?_ | refine State.setChan_touch (Mask.sub hm rfl) ?_ | refine Touch.ite ?_ ?_ | split | dsimp only

theorem supplyConversion_touch (hm : m ||| 36700164 = m) {x0 : Nat} {x1 : Nat} (h : Touch m a s) : Touch m a (supplyConversion x0 x1 s) := by
  unfold supplyConversion
  repeat' with_reducible first | assumption | refine capValue_touch (Mask.sub hm rfl) ?_ | refine State.put_touch (Mask.sub hm rfl) ?_ | refine enterErr_touch (Mask.sub hm rfl) ?_ | refine Touch.ite ?_ ?_ | split | dsimp only | refine Touch.set_hk (Mask.sub hm rfl) ?_

theorem syncMiss_touch (hm : m ||| 65668 = m) {x0 : Nat} (h : Touch m a s) : Touch m a (syncMiss x0 s) := by
  unfold syncMiss
  repeat' with_reducible first | assumption | refine State.bumpSat_touch (Mask.sub hm rfl) ?_ | refine State.setFlag_touch (Mask.sub hm rfl) ?_ | refine setQual_touch (Mask.sub hm rfl) ?_ | refine Touch.ite ?_ ?_ | split | dsimp only | refine Touch.set_tb (Mask.sub hm rfl) ?_

theorem syncGrade_touch (hm : m ||| 65668 = m) {x0 : Nat} (h : Touch m a s) : Touch m a (syncGrade x0 s).1 := by
  unfold syncGrade
  repeat' with_reducible first | assumption | refine setQual_touch (Mask.sub hm rfl) ?_ | refine State.setFlag_touch (Mask.sub hm rfl) ?_ | refine State.put_touch (Mask.sub hm rfl) ?_ | refine Touch.ite ?_ ?_ | split | dsimp only | refine Touch.set_tb (Mask.sub hm rfl) ?_

theorem syncEdge_touch (hm : m ||| 65668 = m) {x0 : Nat} {x1 : Bool} {x2 : Nat} (h : Touch m a s) : Touch m a (syncEdge x0 x1 x2 s) := by
  unfold syncEdge
  repeat' with_reducible first | assumption | refine syncMiss_touch (Mask.sub hm rfl) ?_ | refine syncGrade_touch (Mask.sub hm rfl) ?_ | refine Touch.pair (by assumption) (syncGrade_touch (Mask.sub hm rfl) ?_) | refine raiseEv_touch (Mask.sub hm rfl) ?_ | refine State.setFlag_touch (Mask.sub hm rfl) ?_ | refine Touch.ite ?_ ?_ | split | dsimp only | refine Touch.set_tb (Mask.sub hm rfl) ?_

theorem tbLock_touch (hm : m ||| 132 = m) (h : Touch m a s) : Touch m a (tbLock s) := by
  unfold tbLock
  repeat' with_reducible first | assumption | refine State.clrFlag_touch (Mask.sub hm rfl) ?_ | refine State.setFlag_touch (Mask.sub hm rfl) ?_ | refine Touch.ite ?_ ?_ | split | dsimp only | refine Touch.set_tb (Mask.sub hm rfl) ?_

theorem tbLoss_touch (hm : m ||| 34262348 = m) (h : Touch m a s) : Touch m a (tbLoss s) := by
  unfold tbLoss
  repeat' with_reducible first | assumption | refine State.setFlag_touch (Mask.sub hm rfl) ?_ | refine State.clrFlag_touch (Mask.sub hm rfl) ?_ | refine State.bumpSat_touch (Mask.sub hm rfl) ?_ | refine releaseOwn_touch (Mask.sub hm rfl) ?_ | refine dropOpenEvents_touch (Mask.sub hm rfl) ?_ | refine enterErr_touch (Mask.sub hm rfl) ?_ | refine Touch.ite ?_ ?_ | split | dsimp only

theorem thermalLevel_touch (hm : m ||| 63686940 = m) (h : Touch m a s) : Touch m a (thermalLevel s) := by
  unfold thermalLevel
  repeat' with_reducible first | assumption | refine State.putb_touch (Mask.sub hm rfl) ?_ | refine State.put_touch (Mask.sub hm rfl) ?_ | refine setCap_touch (Mask.sub hm rfl) ?_ | refine enterErr_touch (Mask.sub hm rfl) ?_ | refine raiseEv_touch (Mask.sub hm rfl) ?_ | refine hwShutdownHot_touch (Mask.sub hm rfl) ?_ | refine orderlyStop_touch (Mask.sub hm rfl) ?_ | refine Touch.ite ?_ ?_ | split | dsimp only

theorem thermalRestart_touch (hm : m ||| 67108828 = m) (h : Touch m a s) : Touch m a (thermalRestart s) := by
  unfold thermalRestart
  repeat' with_reducible first | assumption | refine takeReset_touch (Mask.sub hm rfl) ?_ | refine release_touch (Mask.sub hm rfl) ?_ | refine Touch.ite ?_ ?_ | split | dsimp only

theorem tofsUpdate_touch (hm : m ||| 524292 = m) {x0 : List Nat} {x1 : List Nat} (h : Touch m a s) : Touch m a (tofsUpdate x0 x1 s) := by
  unfold tofsUpdate
  repeat' with_reducible first | assumption | refine State.setTwin_touch (Mask.sub hm rfl) ?_ | refine State.put_touch (Mask.sub hm rfl) ?_ | refine Touch.ite ?_ ?_ | split | dsimp only

theorem tollHoldEnd_touch (hm : m ||| 33587212 = m) {x0 : Nat} {x1 : Nat} (h : Touch m a s) : Touch m a (tollHoldEnd x0 x1 s) := by
  unfold tollHoldEnd
  repeat' with_reducible first | assumption | refine dramResume_touch (Mask.sub hm rfl) ?_ | refine State.setDram_touch (Mask.sub hm rfl) ?_ | refine Touch.ite ?_ ?_ | split | dsimp only

theorem transmitSlot_touch (hm : m ||| 42516484 = m) {l : Nat} (h : Touch m a s) : Touch m a (transmitSlot l s) := by
  unfold transmitSlot
  split
  · exact h
  · split
    · exact putLine_touch (Mask.sub hm rfl) (State.modLane_touch (Mask.sub hm rfl) h)
    · split
      · exact State.modLane_touch (Mask.sub hm rfl) h
      · next e => exact putLine_touch (Mask.sub hm rfl) (State.setLane_touch (Mask.sub hm rfl) (slotBlock_touch (Mask.sub hm rfl) e h))

theorem twinGuard_touch (hm : m ||| 51038220 = m) {x0 : Bool} {x1 : Bool} {x2 : List (Bool × Bool)} (h : Touch m a s) : Touch m a (twinGuard x0 x1 x2 s) := by
  unfold twinGuard
  repeat' with_reducible first | assumption | refine State.putb_touch (Mask.sub hm rfl) ?_ | refine twinMs_touch (Mask.sub hm rfl) ?_ | refine twinCheck_touch (Mask.sub hm rfl) ?_ | refine twinCompare_touch (Mask.sub hm rfl) ?_ | refine guardLatch_touch (Mask.sub hm rfl) ?_ | refine Touch.ite ?_ ?_ | split | dsimp only | refine Touch.set_guard (Mask.sub hm rfl) ?_

theorem txWake_touch (hm : m ||| 16388 = m) {x0 : Nat} (h : Touch m a s) : Touch m a (txWake x0 s) := by
  unfold txWake
  repeat' with_reducible first | assumption | refine State.modLane_touch (Mask.sub hm rfl) ?_ | refine State.put_touch (Mask.sub hm rfl) ?_ | refine Touch.ite ?_ ?_ | split | dsimp only

theorem undervoltage_touch (hm : m ||| 67108828 = m) (h : Touch m a s) : Touch m a (undervoltage s) := by
  unfold undervoltage
  repeat' with_reducible first | assumption | refine takeReset_touch (Mask.sub hm rfl) ?_ | refine nvCut_touch (Mask.sub hm rfl) ?_ | refine Touch.ite ?_ ?_ | split | dsimp only | refine Touch.set_su (Mask.sub hm rfl) ?_

theorem unknownBlock_touch (hm : m ||| 4 = m) {x0 : Nat} {x1 : Nat} (h : Touch m a s) : Touch m a (unknownBlock x0 x1 s) := by
  unfold unknownBlock
  repeat' with_reducible first | assumption | refine State.bumpSat_touch (Mask.sub hm rfl) ?_ | refine Touch.ite ?_ ?_ | split | dsimp only

theorem waitTimeout_touch (hm : m ||| 8196 = m) {x0 : Nat} (h : Touch m a s) : Touch m a (waitTimeout x0 s) := by
  unfold waitTimeout
  repeat' with_reducible first | assumption | refine seqResume_touch (Mask.sub hm rfl) ?_ | refine State.setGreg_touch (Mask.sub hm rfl) ?_ | refine Touch.ite ?_ ?_ | split | dsimp only

theorem waitWake_touch (hm : m ||| 8196 = m) {x0 : Nat} (h : Touch m a s) : Touch m a (waitWake x0 s) := by
  unfold waitWake
  repeat' with_reducible first | assumption | refine seqResume_touch (Mask.sub hm rfl) ?_ | refine takeMask_touch (Mask.sub hm rfl) ?_ | refine takeLine_touch (Mask.sub hm rfl) ?_ | refine Touch.ite ?_ ?_ | split | dsimp only

theorem wakeLockTimeout_touch (hm : m ||| 8404996 = m) {x0 : Nat} (h : Touch m a s) : Touch m a (wakeLockTimeout x0 s) := by
  unfold wakeLockTimeout
  repeat' with_reducible first | assumption | refine laneStart_touch (Mask.sub hm rfl) ?_ | refine Touch.ite ?_ ?_ | split | dsimp only

theorem wakeResume_touch (hm : m ||| 16384 = m) {x0 : Nat} (h : Touch m a s) : Touch m a (wakeResume x0 s) := by
  unfold wakeResume
  repeat' with_reducible first | assumption | refine State.modLane_touch (Mask.sub hm rfl) ?_ | refine Touch.ite ?_ ?_ | split | dsimp only

theorem watchdogExpiry_touch (hm : m ||| 33562628 = m) {x0 : Nat} (h : Touch m a s) : Touch m a (watchdogExpiry x0 s) := by
  unfold watchdogExpiry
  repeat' with_reducible first | assumption | refine seqFault_touch (Mask.sub hm rfl) ?_ | refine Touch.ite ?_ ?_ | split | dsimp only

theorem windowEnd_touch (hm : m ||| 131076 = m) {x0 : Nat} (h : Touch m a s) : Touch m a (windowEnd x0 s) := by
  unfold windowEnd
  repeat' with_reducible first | assumption | refine linesLow_touch (Mask.sub hm rfl) ?_ | refine State.setDrv_touch (Mask.sub hm rfl) ?_ | refine State.setFlag_touch (Mask.sub hm rfl) ?_ | refine startExchange_touch (Mask.sub hm rfl) ?_ | refine Touch.ite ?_ ?_ | split | dsimp only

end Sys2Proof.Machine
end

