-- ==== Sys2Proof/Laws/Exec.lean ====
section
/-! SUPPORT. What each command may touch, one lemma per meaning: `execX_touch` reads: where a state is reached by changes to
the fields of a mask, what the command answers is too, for every mask that holds the command's bits. -/

namespace Sys2Proof.Machine
variable {m : Nat} {a s u : State}
theorem act_touch (hm : m ||| 51113741 = m) {t f} (hf : ∀ t, Touch m a t → Touch m a (f t)) (h : Touch m a s) (e : act t f s = .next u) : Touch m a u := by
  have e' : Host.Outcome.next (if (s.tick t).su.power = .running then settle (f (s.tick t)) else s.tick t) = (Host.Outcome.next u : Host.Outcome State Fault Refusal) := e
  injection e' with e'
  rw [← e']
  have k : Touch m a (s.tick t) := State.tick_touch (Mask.sub hm rfl) h
  split
  · exact settle_touch (Mask.sub hm rfl) (hf _ k)
  · exact k
theorem actAny_touch (hm : m ||| 51113741 = m) {t f} (hf : ∀ t, Touch m a t → Touch m a (f t)) (h : Touch m a s) (e : actAny t f s = .next u) : Touch m a u := by
  have e' : Host.Outcome.next (settle (f (s.tick t))) = (Host.Outcome.next u : Host.Outcome State Fault Refusal) := e
  injection e' with e'
  rw [← e']
  exact settle_touch (Mask.sub hm rfl) (hf _ (State.tick_touch (Mask.sub hm rfl) h))

theorem execRegisterWrite_touch (hm : m ||| 67108829 = m) {t req addr size val : Nat} (h : Touch m a s) (e : execRegisterWrite t req addr size val s = .next u) : Touch m a u := by
  refine act_touch (Mask.sub hm rfl) (fun x k => ?_) h e
  repeat' with_reducible first | assumption | refine busWrite_touch (Mask.sub hm rfl) ?_ | refine Touch.ite ?_ ?_ | split | dsimp only

theorem execUnmappedClear_touch (hm : m ||| 67108829 = m) {t req : Nat} (h : Touch m a s) (e : execUnmappedClear t req s = .next u) : Touch m a u := by
  refine act_touch (Mask.sub hm rfl) (fun x k => ?_) h e
  repeat' with_reducible first | assumption | refine busField_touch (Mask.sub hm rfl) ?_ | refine Touch.ite ?_ ?_ | split | dsimp only

theorem execPaceMinRestart_touch (hm : m ||| 67108829 = m) {t req : Nat} (h : Touch m a s) (e : execPaceMinRestart t req s = .next u) : Touch m a u := by
  refine act_touch (Mask.sub hm rfl) (fun x k => ?_) h e
  repeat' with_reducible first | assumption | refine busField_touch (Mask.sub hm rfl) ?_ | refine Touch.ite ?_ ?_ | split | dsimp only

theorem execPaceWindowEnd_touch (hm : m ||| 51117837 = m) {t : Nat} {counts : List (List Nat)} (h : Touch m a s) (e : execPaceWindowEnd t counts s = .next u) : Touch m a u := by
  refine act_touch (Mask.sub hm rfl) (fun x k => ?_) h e
  repeat' with_reducible first | assumption | refine paceWindow_touch (Mask.sub hm rfl) ?_ | refine Touch.ite ?_ ?_ | split | dsimp only

theorem execDieLinkStall_touch (hm : m ||| 51117837 = m) {t : Nat} {die : Nat} (h : Touch m a s) (e : execDieLinkStall t die s = .next u) : Touch m a u := by
  refine act_touch (Mask.sub hm rfl) (fun x k => ?_) h e
  repeat' with_reducible first | assumption | refine linkStall_touch (Mask.sub hm rfl) ?_ | refine Touch.ite ?_ ?_ | split | dsimp only

theorem execLateResultDiscard_touch (hm : m ||| 51117837 = m) {t : Nat} {island : Fin 4} {_unit : Nat} (h : Touch m a s) (e : execLateResultDiscard t island _unit s = .next u) : Touch m a u := by
  refine act_touch (Mask.sub hm rfl) (fun x k => ?_) h e
  repeat' with_reducible first | assumption | refine Touch.ite ?_ ?_ | split | dsimp only | refine Touch.set_pts (Mask.sub hm rfl) ?_

theorem execDramRefreshDue_touch (hm : m ||| 51113741 = m) {t : Nat} {bank : Nat} (h : Touch m a s) (e : execDramRefreshDue t bank s = .next u) : Touch m a u := by
  refine act_touch (Mask.sub hm rfl) (fun x k => ?_) h e
  repeat' with_reducible first | assumption | refine bankRefresh_touch (Mask.sub hm rfl) ?_ | refine Touch.ite ?_ ?_ | split | dsimp only

theorem execEventStart_touch (hm : m ||| 51113805 = m) {t : Nat} {ch : Nat} (h : Touch m a s) (e : execEventStart t ch s = .next u) : Touch m a u := by
  refine act_touch (Mask.sub hm rfl) (fun x k => ?_) h e
  repeat' with_reducible first | assumption | refine lowRise_touch (Mask.sub hm rfl) ?_ | refine Touch.ite ?_ ?_ | split | dsimp only

theorem execHighComparatorEdge_touch (hm : m ||| 51113805 = m) {t : Nat} {ch : Nat} {rise : Bool} (h : Touch m a s) (e : execHighComparatorEdge t ch rise s = .next u) : Touch m a u := by
  refine act_touch (Mask.sub hm rfl) (fun x k => ?_) h e
  repeat' with_reducible first | assumption | refine highCross_touch (Mask.sub hm rfl) ?_ | refine Touch.ite ?_ ?_ | split | dsimp only

theorem execEventEnd_touch (hm : m ||| 52162381 = m) {t : Nat} {ch : Nat} (h : Touch m a s) (e : execEventEnd t ch s = .next u) : Touch m a u := by
  refine act_touch (Mask.sub hm rfl) (fun x k => ?_) h e
  repeat' with_reducible first | assumption | refine lowFall_touch (Mask.sub hm rfl) ?_ | refine Touch.ite ?_ ?_ | split | dsimp only

theorem execEventTimeoutClose_touch (hm : m ||| 52162381 = m) {t : Nat} {ch : Nat} (h : Touch m a s) (e : execEventTimeoutClose t ch s = .next u) : Touch m a u := by
  refine act_touch (Mask.sub hm rfl) (fun x k => ?_) h e
  repeat' with_reducible first | assumption | refine timeoutClose_touch (Mask.sub hm rfl) ?_ | refine Touch.ite ?_ ?_ | split | dsimp only

theorem execRearmEnd_touch (hm : m ||| 51113805 = m) {t : Nat} {ch : Nat} (h : Touch m a s) (e : execRearmEnd t ch s = .next u) : Touch m a u := by
  refine act_touch (Mask.sub hm rfl) (fun x k => ?_) h e
  repeat' with_reducible first | assumption | refine rearmEnd_touch (Mask.sub hm rfl) ?_ | refine Touch.ite ?_ ?_ | split | dsimp only

theorem execStuckHighTimeout_touch (hm : m ||| 52162381 = m) {t : Nat} {ch : Nat} (h : Touch m a s) (e : execStuckHighTimeout t ch s = .next u) : Touch m a u := by
  refine act_touch (Mask.sub hm rfl) (fun x k => ?_) h e
  repeat' with_reducible first | assumption | refine stuckHigh_touch (Mask.sub hm rfl) ?_ | refine Touch.ite ?_ ?_ | split | dsimp only

theorem execStuckHighClear_touch (hm : m ||| 67108829 = m) {t req ch : Nat} (h : Touch m a s) (e : execStuckHighClear t req ch s = .next u) : Touch m a u := by
  refine act_touch (Mask.sub hm rfl) (fun x k => ?_) h e
  repeat' with_reducible first | assumption | refine busField_touch (Mask.sub hm rfl) ?_ | refine Touch.ite ?_ ?_ | split | dsimp only

theorem execDropCountClear_touch (hm : m ||| 67108829 = m) {t req ch : Nat} (h : Touch m a s) (e : execDropCountClear t req ch s = .next u) : Touch m a u := by
  refine act_touch (Mask.sub hm rfl) (fun x k => ?_) h e
  repeat' with_reducible first | assumption | refine busField_touch (Mask.sub hm rfl) ?_ | refine Touch.ite ?_ ?_ | split | dsimp only

theorem execChThrWrite_touch (hm : m ||| 67108829 = m) {t req ch val : Nat} (h : Touch m a s) (e : execChThrWrite t req ch val s = .next u) : Touch m a u := by
  refine act_touch (Mask.sub hm rfl) (fun x k => ?_) h e
  repeat' with_reducible first | assumption | refine busWrite_touch (Mask.sub hm rfl) ?_ | refine Touch.ite ?_ ?_ | split | dsimp only

theorem execChannelDisable_touch (hm : m ||| 67108829 = m) {t req ch : Nat} (h : Touch m a s) (e : execChannelDisable t req ch s = .next u) : Touch m a u := by
  refine act_touch (Mask.sub hm rfl) (fun x k => ?_) h e
  repeat' with_reducible first | assumption | refine busField_touch (Mask.sub hm rfl) ?_ | refine Touch.ite ?_ ?_ | split | dsimp only

theorem execEventBin_touch (hm : m ||| 51113805 = m) {t : Nat} {ch : Nat} (h : Touch m a s) (e : execEventBin t ch s = .next u) : Touch m a u := by
  refine act_touch (Mask.sub hm rfl) (fun x k => ?_) h e
  repeat' with_reducible first | assumption | refine binEvent_touch (Mask.sub hm rfl) ?_ | refine Touch.ite ?_ ?_ | split | dsimp only

theorem execTimebaseLock_touch (hm : m ||| 51113869 = m) {t : Nat} (h : Touch m a s) (e : execTimebaseLock t s = .next u) : Touch m a u := by
  refine actAny_touch (Mask.sub hm rfl) (fun x k => ?_) h e
  repeat' with_reducible first | assumption | refine tbLock_touch (Mask.sub hm rfl) ?_ | refine Touch.ite ?_ ?_ | split | dsimp only

theorem execTimebaseLockLoss_touch (hm : m ||| 51113805 = m) {t : Nat} (h : Touch m a s) (e : execTimebaseLockLoss t s = .next u) : Touch m a u := by
  refine actAny_touch (Mask.sub hm rfl) (fun x k => ?_) h e
  repeat' with_reducible first | assumption | refine tbLoss_touch (Mask.sub hm rfl) ?_ | refine Touch.ite ?_ ?_ | split | dsimp only

theorem execDevtimeSnapshot_touch (hm : m ||| 53211037 = m) {t req : Nat} (h : Touch m a s) (e : execDevtimeSnapshot t req s = .next u) : Touch m a u := by
  refine act_touch (Mask.sub hm rfl) (fun x k => ?_) h e
  repeat' with_reducible first | assumption | refine busRead_touch (Mask.sub hm rfl) ?_ | refine Touch.ite ?_ ?_ | split | dsimp only

theorem execPoweredHoursWrite_touch (hm : m ||| 59502349 = m) {t : Nat} (h : Touch m a s) (e : execPoweredHoursWrite t s = .next u) : Touch m a u := by
  refine act_touch (Mask.sub hm rfl) (fun x k => ?_) h e
  repeat' with_reducible first | assumption | refine hoursWrite_touch (Mask.sub hm rfl) ?_ | refine Touch.ite ?_ ?_ | split | dsimp only

theorem execAnchorGo_touch (hm : m ||| 67108829 = m) {t req : Nat} (h : Touch m a s) (e : execAnchorGo t req s = .next u) : Touch m a u := by
  refine act_touch (Mask.sub hm rfl) (fun x k => ?_) h e
  repeat' with_reducible first | assumption | refine busField_touch (Mask.sub hm rfl) ?_ | refine Touch.ite ?_ ?_ | split | dsimp only

theorem execAnchorTakeEffect_touch (hm : m ||| 51113869 = m) {t : Nat} (h : Touch m a s) (e : execAnchorTakeEffect t s = .next u) : Touch m a u := by
  refine act_touch (Mask.sub hm rfl) (fun x k => ?_) h e
  repeat' with_reducible first | assumption | refine anchorEffect_touch (Mask.sub hm rfl) ?_ | refine Touch.ite ?_ ?_ | split | dsimp only

theorem execSyncEdge_touch (hm : m ||| 51113869 = m) {t : Nat} {rising : Bool} {width : Nat} (h : Touch m a s) (e : execSyncEdge t rising width s = .next u) : Touch m a u := by
  refine act_touch (Mask.sub hm rfl) (fun x k => ?_) h e
  repeat' with_reducible first | assumption | refine syncEdge_touch (Mask.sub hm rfl) ?_ | refine Touch.ite ?_ ?_ | split | dsimp only

theorem execSyncMiss_touch (hm : m ||| 51113869 = m) {t : Nat} (h : Touch m a s) (e : execSyncMiss t s = .next u) : Touch m a u := by
  refine act_touch (Mask.sub hm rfl) (fun x k => ?_) h e
  repeat' with_reducible first | assumption | refine syncMiss_touch (Mask.sub hm rfl) ?_ | refine Touch.ite ?_ ?_ | split | dsimp only

theorem execSyncFifoPop_touch (hm : m ||| 53211037 = m) {t req : Nat} (h : Touch m a s) (e : execSyncFifoPop t req s = .next u) : Touch m a u := by
  refine act_touch (Mask.sub hm rfl) (fun x k => ?_) h e
  repeat' with_reducible first | assumption | refine busRead_touch (Mask.sub hm rfl) ?_ | refine Touch.ite ?_ ?_ | split | dsimp only

theorem execIuArm_touch (hm : m ||| 67108829 = m) {t req : Nat} (h : Touch m a s) (e : execIuArm t req s = .next u) : Touch m a u := by
  refine act_touch (Mask.sub hm rfl) (fun x k => ?_) h e
  repeat' with_reducible first | assumption | refine busField_touch (Mask.sub hm rfl) ?_ | refine Touch.ite ?_ ?_ | split | dsimp only

theorem execIuStartEdge_touch (hm : m ||| 51113869 = m) {t : Nat} {src : Nat} {rising : Bool} {bank : Fin 64} (h : Touch m a s) (e : execIuStartEdge t src rising bank s = .next u) : Touch m a u := by
  refine act_touch (Mask.sub hm rfl) (fun x k => ?_) h e
  repeat' with_reducible first | assumption | refine iuStartEdge_touch (Mask.sub hm rfl) ?_ | refine Touch.ite ?_ ?_ | split | dsimp only

theorem execIuStopEdge_touch (hm : m ||| 51113741 = m) {t : Nat} {src : Nat} {rising : Bool} {bank : Fin 64} (h : Touch m a s) (e : execIuStopEdge t src rising bank s = .next u) : Touch m a u := by
  refine act_touch (Mask.sub hm rfl) (fun x k => ?_) h e
  repeat' with_reducible first | assumption | refine iuStopEdge_touch (Mask.sub hm rfl) ?_ | refine Touch.ite ?_ ?_ | split | dsimp only

theorem execIuSwstop_touch (hm : m ||| 67108829 = m) {t req : Nat} (h : Touch m a s) (e : execIuSwstop t req s = .next u) : Touch m a u := by
  refine act_touch (Mask.sub hm rfl) (fun x k => ?_) h e
  repeat' with_reducible first | assumption | refine busField_touch (Mask.sub hm rfl) ?_ | refine Touch.ite ?_ ?_ | split | dsimp only

theorem execIuTimeout_touch (hm : m ||| 51113741 = m) {t : Nat} (h : Touch m a s) (e : execIuTimeout t s = .next u) : Touch m a u := by
  refine act_touch (Mask.sub hm rfl) (fun x k => ?_) h e
  repeat' with_reducible first | assumption | refine iuTimeout_touch (Mask.sub hm rfl) ?_ | refine Touch.ite ?_ ?_ | split | dsimp only

theorem execIuAbort_touch (hm : m ||| 67108829 = m) {t req : Nat} (h : Touch m a s) (e : execIuAbort t req s = .next u) : Touch m a u := by
  refine act_touch (Mask.sub hm rfl) (fun x k => ?_) h e
  repeat' with_reducible first | assumption | refine busField_touch (Mask.sub hm rfl) ?_ | refine Touch.ite ?_ ?_ | split | dsimp only

theorem execIuResultRead_touch (hm : m ||| 53211037 = m) {t req : Nat} (h : Touch m a s) (e : execIuResultRead t req s = .next u) : Touch m a u := by
  refine act_touch (Mask.sub hm rfl) (fun x k => ?_) h e
  repeat' with_reducible first | assumption | refine busRead_touch (Mask.sub hm rfl) ?_ | refine Touch.ite ?_ ?_ | split | dsimp only

theorem execFuStart_touch (hm : m ||| 67108829 = m) {t req : Nat} (h : Touch m a s) (e : execFuStart t req s = .next u) : Touch m a u := by
  refine act_touch (Mask.sub hm rfl) (fun x k => ?_) h e
  repeat' with_reducible first | assumption | refine busField_touch (Mask.sub hm rfl) ?_ | refine Touch.ite ?_ ?_ | split | dsimp only

theorem execFuGateOpen_touch (hm : m ||| 51113869 = m) {t : Nat} {level : Bool} (h : Touch m a s) (e : execFuGateOpen t level s = .next u) : Touch m a u := by
  refine act_touch (Mask.sub hm rfl) (fun x k => ?_) h e
  repeat' with_reducible first | assumption | refine fuGateOpen_touch (Mask.sub hm rfl) ?_ | refine Touch.ite ?_ ?_ | split | dsimp only

theorem execFuGateEnd_touch (hm : m ||| 51113869 = m) {t : Nat} {level : Bool} (h : Touch m a s) (e : execFuGateEnd t level s = .next u) : Touch m a u := by
  refine act_touch (Mask.sub hm rfl) (fun x k => ?_) h e
  repeat' with_reducible first | assumption | refine fuGateEnd_touch (Mask.sub hm rfl) ?_ | refine Touch.ite ?_ ?_ | split | dsimp only

theorem execFuResult_touch (hm : m ||| 51113885 = m) {t : Nat} (h : Touch m a s) (e : execFuResult t s = .next u) : Touch m a u := by
  refine act_touch (Mask.sub hm rfl) (fun x k => ?_) h e
  repeat' with_reducible first | assumption | refine fuResult_touch (Mask.sub hm rfl) ?_ | refine Touch.ite ?_ ?_ | split | dsimp only

theorem execCellDecision_touch (hm : m ||| 59506445 = m) {t : Nat} {src : CellSource} {late : Bool} (h : Touch m a s) (e : execCellDecision t src late s = .next u) : Touch m a u := by
  refine act_touch (Mask.sub hm rfl) (fun x k => ?_) h e
  repeat' with_reducible first | assumption | refine scanVisit_touch (Mask.sub hm rfl) ?_ | refine probeDecision_touch (Mask.sub hm rfl) ?_ | refine Touch.ite ?_ ?_ | split | dsimp only

theorem execPulseFire_touch (hm : m ||| 51113741 = m) {t : Nat} {die slot : Nat} (h : Touch m a s) (e : execPulseFire t die slot s = .next u) : Touch m a u := by
  refine act_touch (Mask.sub hm rfl) (fun x k => ?_) h e
  repeat' with_reducible first | assumption | refine pulseFire_touch (Mask.sub hm rfl) ?_ | refine Touch.ite ?_ ?_ | split | dsimp only

theorem execAccumulationEnd_touch (hm : m ||| 51113741 = m) {t : Nat} {die slot : Nat} (h : Touch m a s) (e : execAccumulationEnd t die slot s = .next u) : Touch m a u := by
  refine act_touch (Mask.sub hm rfl) (fun x k => ?_) h e
  repeat' with_reducible first | assumption | refine accumulationEnd_touch (Mask.sub hm rfl) ?_ | refine Touch.ite ?_ ?_ | split | dsimp only

theorem execCorrelatorTake_touch (hm : m ||| 51113757 = m) {t : Nat} {die : Nat} (h : Touch m a s) (e : execCorrelatorTake t die s = .next u) : Touch m a u := by
  refine act_touch (Mask.sub hm rfl) (fun x k => ?_) h e
  repeat' with_reducible first | assumption | refine correlatorTake_touch (Mask.sub hm rfl) ?_ | refine Touch.ite ?_ ?_ | split | dsimp only

theorem execReductionEnd_touch (hm : m ||| 51113741 = m) {t : Nat} {die slot : Nat} (h : Touch m a s) (e : execReductionEnd t die slot s = .next u) : Touch m a u := by
  refine act_touch (Mask.sub hm rfl) (fun x k => ?_) h e
  repeat' with_reducible first | assumption | refine reductionEnd_touch (Mask.sub hm rfl) ?_ | refine Touch.ite ?_ ?_ | split | dsimp only

theorem execHandoff_touch (hm : m ||| 63700765 = m) {t : Nat} {die : Nat} (h : Touch m a s) (e : execHandoff t die s = .next u) : Touch m a u := by
  refine act_touch (Mask.sub hm rfl) (fun x k => ?_) h e
  repeat' with_reducible first | assumption | refine handoff_touch (Mask.sub hm rfl) ?_ | refine Touch.ite ?_ ?_ | split | dsimp only

theorem execLichenObservation_touch (hm : m ||| 59506445 = m) {t : Nat} (h : Touch m a s) (e : execLichenObservation t s = .next u) : Touch m a u := by
  refine act_touch (Mask.sub hm rfl) (fun x k => ?_) h e
  repeat' with_reducible first | assumption | refine serveObs_touch (Mask.sub hm rfl) ?_ | refine Touch.ite ?_ ?_ | split | dsimp only

theorem execOpAbandon_touch (hm : m ||| 51113741 = m) {t : Nat} {die slot : Nat} (h : Touch m a s) (e : execOpAbandon t die slot s = .next u) : Touch m a u := by
  refine act_touch (Mask.sub hm rfl) (fun x k => ?_) h e
  repeat' with_reducible first | assumption | refine ageOut_touch (Mask.sub hm rfl) ?_ | refine Touch.ite ?_ ?_ | split | dsimp only

theorem execPageClearDone_touch (hm : m ||| 51113741 = m) {t : Nat} {die group : Nat} (h : Touch m a s) (e : execPageClearDone t die group s = .next u) : Touch m a u := by
  refine act_touch (Mask.sub hm rfl) (fun x k => ?_) h e
  repeat' with_reducible first | assumption | refine clearPage_touch (Mask.sub hm rfl) ?_ | refine Touch.ite ?_ ?_ | split | dsimp only

theorem execFrameClosed_touch (hm : m ||| 51117837 = m) {t : Nat} {head : Fin 2} {frame : Nat} (h : Touch m a s) (e : execFrameClosed t head frame s = .next u) : Touch m a u := by
  refine act_touch (Mask.sub hm rfl) (fun x k => ?_) h e
  repeat' with_reducible first | assumption | refine closeFrame_touch (Mask.sub hm rfl) ?_ | refine Touch.ite ?_ ?_ | split | dsimp only

theorem execLineStart_touch (hm : m ||| 55570189 = m) {t : Nat} {at_ : HeadBounds} (h : Touch m a s) (e : execLineStart t at_ s = .next u) : Touch m a u := by
  refine act_touch (Mask.sub hm rfl) (fun x k => ?_) h e
  repeat' with_reducible first | assumption | refine lineStart_touch (Mask.sub hm rfl) ?_ | refine Touch.ite ?_ ?_ | split | dsimp only

theorem execLatchPoint_touch (hm : m ||| 51117837 = m) {t : Nat} {head : Fin 2} (h : Touch m a s) (e : execLatchPoint t head s = .next u) : Touch m a u := by
  refine act_touch (Mask.sub hm rfl) (fun x k => ?_) h e
  repeat' with_reducible first | assumption | refine latch_touch (Mask.sub hm rfl) ?_ | refine Touch.ite ?_ ?_ | split | dsimp only

theorem execFrameOpen_touch (hm : m ||| 51380109 = m) {t : Nat} {head : Fin 2} (h : Touch m a s) (e : execFrameOpen t head s = .next u) : Touch m a u := by
  refine act_touch (Mask.sub hm rfl) (fun x k => ?_) h e
  repeat' with_reducible first | assumption | refine frameOpen_touch (Mask.sub hm rfl) ?_ | refine Touch.ite ?_ ?_ | split | dsimp only

theorem execLinePrefetch_touch (hm : m ||| 51113741 = m) {t : Nat} {head : Fin 2} {line : Nat} {got : Fin 16} (h : Touch m a s) (e : execLinePrefetch t head line got s = .next u) : Touch m a u := by
  refine act_touch (Mask.sub hm rfl) (fun x k => ?_) h e
  repeat' with_reducible first | assumption | refine prefetch_touch (Mask.sub hm rfl) ?_ | refine Touch.ite ?_ ?_ | split | dsimp only

theorem execVisitCompose_touch (hm : m ||| 51113757 = m) {t : Nat} {head : Fin 2} (h : Touch m a s) (e : execVisitCompose t head s = .next u) : Touch m a u := by
  refine act_touch (Mask.sub hm rfl) (fun x k => ?_) h e
  repeat' with_reducible first | assumption | refine compose_touch (Mask.sub hm rfl) ?_ | refine Touch.ite ?_ ?_ | split | dsimp only

theorem execFrondCommit_touch (hm : m ||| 67108829 = m) {t req : Nat} {head : Fin 2} {frond : Fin 4} (h : Touch m a s) (e : execFrondCommit t req head frond s = .next u) : Touch m a u := by
  refine act_touch (Mask.sub hm rfl) (fun x k => ?_) h e
  repeat' with_reducible first | assumption | refine busField_touch (Mask.sub hm rfl) ?_ | refine Touch.ite ?_ ?_ | split | dsimp only

theorem execScanStart_touch (hm : m ||| 67108829 = m) {t req : Nat} {head : Fin 2} (h : Touch m a s) (e : execScanStart t req head s = .next u) : Touch m a u := by
  refine act_touch (Mask.sub hm rfl) (fun x k => ?_) h e
  repeat' with_reducible first | assumption | refine busField_touch (Mask.sub hm rfl) ?_ | refine Touch.ite ?_ ?_ | split | dsimp only

theorem execScanStop_touch (hm : m ||| 67108829 = m) {t req : Nat} {head : Fin 2} (h : Touch m a s) (e : execScanStop t req head s = .next u) : Touch m a u := by
  refine act_touch (Mask.sub hm rfl) (fun x k => ?_) h e
  repeat' with_reducible first | assumption | refine busField_touch (Mask.sub hm rfl) ?_ | refine Touch.ite ?_ ?_ | split | dsimp only

theorem execSqRun_touch (hm : m ||| 67108829 = m) {t req : Nat} {n : Fin 8} (h : Touch m a s) (e : execSqRun t req n s = .next u) : Touch m a u := by
  refine act_touch (Mask.sub hm rfl) (fun x k => ?_) h e
  repeat' with_reducible first | assumption | refine busField_touch (Mask.sub hm rfl) ?_ | refine Touch.ite ?_ ?_ | split | dsimp only

theorem execSqStop_touch (hm : m ||| 67108829 = m) {t req : Nat} {n : Fin 8} (h : Touch m a s) (e : execSqStop t req n s = .next u) : Touch m a u := by
  refine act_touch (Mask.sub hm rfl) (fun x k => ?_) h e
  repeat' with_reducible first | assumption | refine busField_touch (Mask.sub hm rfl) ?_ | refine Touch.ite ?_ ?_ | split | dsimp only

theorem execSqUnload_touch (hm : m ||| 67108829 = m) {t req : Nat} {n : Fin 8} (h : Touch m a s) (e : execSqUnload t req n s = .next u) : Touch m a u := by
  refine act_touch (Mask.sub hm rfl) (fun x k => ?_) h e
  repeat' with_reducible first | assumption | refine busField_touch (Mask.sub hm rfl) ?_ | refine Touch.ite ?_ ?_ | split | dsimp only

theorem execEvSoft_touch (hm : m ||| 67108829 = m) {t req mask : Nat} (h : Touch m a s) (e : execEvSoft t req mask s = .next u) : Touch m a u := by
  refine act_touch (Mask.sub hm rfl) (fun x k => ?_) h e
  repeat' with_reducible first | assumption | refine busWrite_touch (Mask.sub hm rfl) ?_ | refine Touch.ite ?_ ?_ | split | dsimp only

theorem execImageLoad_touch (hm : m ||| 59506445 = m) {t req : Nat} {image : List Byte} {start : Bool} (h : Touch m a s) (e : execImageLoad t req image start s = .next u) : Touch m a u := by
  refine act_touch (Mask.sub hm rfl) (fun x k => ?_) h e
  repeat' with_reducible first | assumption | refine imageRequest_touch (Mask.sub hm rfl) ?_ | refine Touch.ite ?_ ?_ | split | dsimp only

theorem execWatchdogExpiry_touch (hm : m ||| 51113741 = m) {t : Nat} {n : Fin 8} (h : Touch m a s) (e : execWatchdogExpiry t n s = .next u) : Touch m a u := by
  refine act_touch (Mask.sub hm rfl) (fun x k => ?_) h e
  repeat' with_reducible first | assumption | refine watchdogExpiry_touch (Mask.sub hm rfl) ?_ | refine Touch.ite ?_ ?_ | split | dsimp only

theorem execWaitWake_touch (hm : m ||| 51113741 = m) {t : Nat} {n : Fin 8} (h : Touch m a s) (e : execWaitWake t n s = .next u) : Touch m a u := by
  refine act_touch (Mask.sub hm rfl) (fun x k => ?_) h e
  repeat' with_reducible first | assumption | refine waitWake_touch (Mask.sub hm rfl) ?_ | refine Touch.ite ?_ ?_ | split | dsimp only

theorem execWaitTimeout_touch (hm : m ||| 51113741 = m) {t : Nat} {n : Fin 8} (h : Touch m a s) (e : execWaitTimeout t n s = .next u) : Touch m a u := by
  refine act_touch (Mask.sub hm rfl) (fun x k => ?_) h e
  repeat' with_reducible first | assumption | refine waitTimeout_touch (Mask.sub hm rfl) ?_ | refine Touch.ite ?_ ?_ | split | dsimp only

theorem execSleepEnd_touch (hm : m ||| 51113741 = m) {t : Nat} {n : Fin 8} (h : Touch m a s) (e : execSleepEnd t n s = .next u) : Touch m a u := by
  refine act_touch (Mask.sub hm rfl) (fun x k => ?_) h e
  repeat' with_reducible first | assumption | refine sleepEnd_touch (Mask.sub hm rfl) ?_ | refine Touch.ite ?_ ?_ | split | dsimp only

theorem execFenceDone_touch (hm : m ||| 51113741 = m) {t : Nat} {n : Fin 8} (h : Touch m a s) (e : execFenceDone t n s = .next u) : Touch m a u := by
  refine act_touch (Mask.sub hm rfl) (fun x k => ?_) h e
  repeat' with_reducible first | assumption | refine fenceDone_touch (Mask.sub hm rfl) ?_ | refine Touch.ite ?_ ?_ | split | dsimp only

theorem execMfenceDone_touch (hm : m ||| 51113741 = m) {t : Nat} {n : Fin 8} (h : Touch m a s) (e : execMfenceDone t n s = .next u) : Touch m a u := by
  refine act_touch (Mask.sub hm rfl) (fun x k => ?_) h e
  repeat' with_reducible first | assumption | refine mfenceDone_touch (Mask.sub hm rfl) ?_ | refine Touch.ite ?_ ?_ | split | dsimp only

theorem execNop_touch (hm : m ||| 51113741 = m) {t : Nat} {n : Fin 8} (h : Touch m a s) (e : execNop t n s = .next u) : Touch m a u := by
  refine act_touch (Mask.sub hm rfl) (fun x k => ?_) h e
  repeat' with_reducible first | assumption | refine seqInstr_touch (Mask.sub hm rfl) (fun _ _ _ => ?_) ?_ | refine Touch.ite ?_ ?_ | split | dsimp only

theorem execAdd_touch (hm : m ||| 51113741 = m) {t : Nat} {n : Fin 8} (h : Touch m a s) (e : execAdd t n s = .next u) : Touch m a u := by
  refine act_touch (Mask.sub hm rfl) (fun x k => ?_) h e
  repeat' with_reducible first | assumption | refine seqInstr_touch (Mask.sub hm rfl) (fun _ _ _ => ?_) ?_ | refine bodyDab_touch (Mask.sub hm rfl) ?_ | refine Touch.ite ?_ ?_ | split | dsimp only

theorem execAddi_touch (hm : m ||| 51113741 = m) {t : Nat} {n : Fin 8} (h : Touch m a s) (e : execAddi t n s = .next u) : Touch m a u := by
  refine act_touch (Mask.sub hm rfl) (fun x k => ?_) h e
  repeat' with_reducible first | assumption | refine seqInstr_touch (Mask.sub hm rfl) (fun _ _ _ => ?_) ?_ | refine bodyDai_touch (Mask.sub hm rfl) ?_ | refine Touch.ite ?_ ?_ | split | dsimp only

theorem execSub_touch (hm : m ||| 51113741 = m) {t : Nat} {n : Fin 8} (h : Touch m a s) (e : execSub t n s = .next u) : Touch m a u := by
  refine act_touch (Mask.sub hm rfl) (fun x k => ?_) h e
  repeat' with_reducible first | assumption | refine seqInstr_touch (Mask.sub hm rfl) (fun _ _ _ => ?_) ?_ | refine bodyDab_touch (Mask.sub hm rfl) ?_ | refine Touch.ite ?_ ?_ | split | dsimp only

theorem execAnd_touch (hm : m ||| 51113741 = m) {t : Nat} {n : Fin 8} (h : Touch m a s) (e : execAnd t n s = .next u) : Touch m a u := by
  refine act_touch (Mask.sub hm rfl) (fun x k => ?_) h e
  repeat' with_reducible first | assumption | refine seqInstr_touch (Mask.sub hm rfl) (fun _ _ _ => ?_) ?_ | refine bodyDab_touch (Mask.sub hm rfl) ?_ | refine Touch.ite ?_ ?_ | split | dsimp only

theorem execAndi_touch (hm : m ||| 51113741 = m) {t : Nat} {n : Fin 8} (h : Touch m a s) (e : execAndi t n s = .next u) : Touch m a u := by
  refine act_touch (Mask.sub hm rfl) (fun x k => ?_) h e
  repeat' with_reducible first | assumption | refine seqInstr_touch (Mask.sub hm rfl) (fun _ _ _ => ?_) ?_ | refine bodyDai_touch (Mask.sub hm rfl) ?_ | refine Touch.ite ?_ ?_ | split | dsimp only

theorem execOr_touch (hm : m ||| 51113741 = m) {t : Nat} {n : Fin 8} (h : Touch m a s) (e : execOr t n s = .next u) : Touch m a u := by
  refine act_touch (Mask.sub hm rfl) (fun x k => ?_) h e
  repeat' with_reducible first | assumption | refine seqInstr_touch (Mask.sub hm rfl) (fun _ _ _ => ?_) ?_ | refine bodyDab_touch (Mask.sub hm rfl) ?_ | refine Touch.ite ?_ ?_ | split | dsimp only

theorem execOri_touch (hm : m ||| 51113741 = m) {t : Nat} {n : Fin 8} (h : Touch m a s) (e : execOri t n s = .next u) : Touch m a u := by
  refine act_touch (Mask.sub hm rfl) (fun x k => ?_) h e
  repeat' with_reducible first | assumption | refine seqInstr_touch (Mask.sub hm rfl) (fun _ _ _ => ?_) ?_ | refine bodyDai_touch (Mask.sub hm rfl) ?_ | refine Touch.ite ?_ ?_ | split | dsimp only

theorem execXor_touch (hm : m ||| 51113741 = m) {t : Nat} {n : Fin 8} (h : Touch m a s) (e : execXor t n s = .next u) : Touch m a u := by
  refine act_touch (Mask.sub hm rfl) (fun x k => ?_) h e
  repeat' with_reducible first | assumption | refine seqInstr_touch (Mask.sub hm rfl) (fun _ _ _ => ?_) ?_ | refine bodyDab_touch (Mask.sub hm rfl) ?_ | refine Touch.ite ?_ ?_ | split | dsimp only

theorem execXori_touch (hm : m ||| 51113741 = m) {t : Nat} {n : Fin 8} (h : Touch m a s) (e : execXori t n s = .next u) : Touch m a u := by
  refine act_touch (Mask.sub hm rfl) (fun x k => ?_) h e
  repeat' with_reducible first | assumption | refine seqInstr_touch (Mask.sub hm rfl) (fun _ _ _ => ?_) ?_ | refine bodyDai_touch (Mask.sub hm rfl) ?_ | refine Touch.ite ?_ ?_ | split | dsimp only

theorem execShl_touch (hm : m ||| 51113741 = m) {t : Nat} {n : Fin 8} (h : Touch m a s) (e : execShl t n s = .next u) : Touch m a u := by
  refine act_touch (Mask.sub hm rfl) (fun x k => ?_) h e
  repeat' with_reducible first | assumption | refine seqInstr_touch (Mask.sub hm rfl) (fun _ _ _ => ?_) ?_ | refine bodyDab_touch (Mask.sub hm rfl) ?_ | refine Touch.ite ?_ ?_ | split | dsimp only

theorem execShli_touch (hm : m ||| 51113741 = m) {t : Nat} {n : Fin 8} (h : Touch m a s) (e : execShli t n s = .next u) : Touch m a u := by
  refine act_touch (Mask.sub hm rfl) (fun x k => ?_) h e
  repeat' with_reducible first | assumption | refine seqInstr_touch (Mask.sub hm rfl) (fun _ _ _ => ?_) ?_ | refine bodyDai_touch (Mask.sub hm rfl) ?_ | refine Touch.ite ?_ ?_ | split | dsimp only

theorem execShr_touch (hm : m ||| 51113741 = m) {t : Nat} {n : Fin 8} (h : Touch m a s) (e : execShr t n s = .next u) : Touch m a u := by
  refine act_touch (Mask.sub hm rfl) (fun x k => ?_) h e
  repeat' with_reducible first | assumption | refine seqInstr_touch (Mask.sub hm rfl) (fun _ _ _ => ?_) ?_ | refine bodyDab_touch (Mask.sub hm rfl) ?_ | refine Touch.ite ?_ ?_ | split | dsimp only

theorem execShri_touch (hm : m ||| 51113741 = m) {t : Nat} {n : Fin 8} (h : Touch m a s) (e : execShri t n s = .next u) : Touch m a u := by
  refine act_touch (Mask.sub hm rfl) (fun x k => ?_) h e
  repeat' with_reducible first | assumption | refine seqInstr_touch (Mask.sub hm rfl) (fun _ _ _ => ?_) ?_ | refine bodyDai_touch (Mask.sub hm rfl) ?_ | refine Touch.ite ?_ ?_ | split | dsimp only

theorem execSar_touch (hm : m ||| 51113741 = m) {t : Nat} {n : Fin 8} (h : Touch m a s) (e : execSar t n s = .next u) : Touch m a u := by
  refine act_touch (Mask.sub hm rfl) (fun x k => ?_) h e
  repeat' with_reducible first | assumption | refine seqInstr_touch (Mask.sub hm rfl) (fun _ _ _ => ?_) ?_ | refine bodyDab_touch (Mask.sub hm rfl) ?_ | refine Touch.ite ?_ ?_ | split | dsimp only

theorem execSari_touch (hm : m ||| 51113741 = m) {t : Nat} {n : Fin 8} (h : Touch m a s) (e : execSari t n s = .next u) : Touch m a u := by
  refine act_touch (Mask.sub hm rfl) (fun x k => ?_) h e
  repeat' with_reducible first | assumption | refine seqInstr_touch (Mask.sub hm rfl) (fun _ _ _ => ?_) ?_ | refine bodyDai_touch (Mask.sub hm rfl) ?_ | refine Touch.ite ?_ ?_ | split | dsimp only

theorem execMul_touch (hm : m ||| 51113741 = m) {t : Nat} {n : Fin 8} (h : Touch m a s) (e : execMul t n s = .next u) : Touch m a u := by
  refine act_touch (Mask.sub hm rfl) (fun x k => ?_) h e
  repeat' with_reducible first | assumption | refine seqInstr_touch (Mask.sub hm rfl) (fun _ _ _ => ?_) ?_ | refine bodyDab_touch (Mask.sub hm rfl) ?_ | refine Touch.ite ?_ ?_ | split | dsimp only

theorem execMulhu_touch (hm : m ||| 51113741 = m) {t : Nat} {n : Fin 8} (h : Touch m a s) (e : execMulhu t n s = .next u) : Touch m a u := by
  refine act_touch (Mask.sub hm rfl) (fun x k => ?_) h e
  repeat' with_reducible first | assumption | refine seqInstr_touch (Mask.sub hm rfl) (fun _ _ _ => ?_) ?_ | refine bodyDab_touch (Mask.sub hm rfl) ?_ | refine Touch.ite ?_ ?_ | split | dsimp only

theorem execMulhs_touch (hm : m ||| 51113741 = m) {t : Nat} {n : Fin 8} (h : Touch m a s) (e : execMulhs t n s = .next u) : Touch m a u := by
  refine act_touch (Mask.sub hm rfl) (fun x k => ?_) h e
  repeat' with_reducible first | assumption | refine seqInstr_touch (Mask.sub hm rfl) (fun _ _ _ => ?_) ?_ | refine bodyDab_touch (Mask.sub hm rfl) ?_ | refine Touch.ite ?_ ?_ | split | dsimp only

theorem execDivu_touch (hm : m ||| 51113741 = m) {t : Nat} {n : Fin 8} (h : Touch m a s) (e : execDivu t n s = .next u) : Touch m a u := by
  refine act_touch (Mask.sub hm rfl) (fun x k => ?_) h e
  repeat' with_reducible first | assumption | refine seqInstr_touch (Mask.sub hm rfl) (fun _ _ _ => ?_) ?_ | refine bodyDab_touch (Mask.sub hm rfl) ?_ | refine Touch.ite ?_ ?_ | split | dsimp only

theorem execRemu_touch (hm : m ||| 51113741 = m) {t : Nat} {n : Fin 8} (h : Touch m a s) (e : execRemu t n s = .next u) : Touch m a u := by
  refine act_touch (Mask.sub hm rfl) (fun x k => ?_) h e
  repeat' with_reducible first | assumption | refine seqInstr_touch (Mask.sub hm rfl) (fun _ _ _ => ?_) ?_ | refine bodyDab_touch (Mask.sub hm rfl) ?_ | refine Touch.ite ?_ ?_ | split | dsimp only

theorem execMin_touch (hm : m ||| 51113741 = m) {t : Nat} {n : Fin 8} (h : Touch m a s) (e : execMin t n s = .next u) : Touch m a u := by
  refine act_touch (Mask.sub hm rfl) (fun x k => ?_) h e
  repeat' with_reducible first | assumption | refine seqInstr_touch (Mask.sub hm rfl) (fun _ _ _ => ?_) ?_ | refine bodyDab_touch (Mask.sub hm rfl) ?_ | refine Touch.ite ?_ ?_ | split | dsimp only

theorem execMax_touch (hm : m ||| 51113741 = m) {t : Nat} {n : Fin 8} (h : Touch m a s) (e : execMax t n s = .next u) : Touch m a u := by
  refine act_touch (Mask.sub hm rfl) (fun x k => ?_) h e
  repeat' with_reducible first | assumption | refine seqInstr_touch (Mask.sub hm rfl) (fun _ _ _ => ?_) ?_ | refine bodyDab_touch (Mask.sub hm rfl) ?_ | refine Touch.ite ?_ ?_ | split | dsimp only

theorem execMovi_touch (hm : m ||| 51113741 = m) {t : Nat} {n : Fin 8} (h : Touch m a s) (e : execMovi t n s = .next u) : Touch m a u := by
  refine act_touch (Mask.sub hm rfl) (fun x k => ?_) h e
  repeat' with_reducible first | assumption | refine seqInstr_touch (Mask.sub hm rfl) (fun _ _ _ => ?_) ?_ | refine bodyDai_touch (Mask.sub hm rfl) ?_ | refine Touch.ite ?_ ?_ | split | dsimp only

theorem execMuli_touch (hm : m ||| 51113741 = m) {t : Nat} {n : Fin 8} (h : Touch m a s) (e : execMuli t n s = .next u) : Touch m a u := by
  refine act_touch (Mask.sub hm rfl) (fun x k => ?_) h e
  repeat' with_reducible first | assumption | refine seqInstr_touch (Mask.sub hm rfl) (fun _ _ _ => ?_) ?_ | refine bodyDai_touch (Mask.sub hm rfl) ?_ | refine Touch.ite ?_ ?_ | split | dsimp only

theorem execCmpeq_touch (hm : m ||| 51113741 = m) {t : Nat} {n : Fin 8} (h : Touch m a s) (e : execCmpeq t n s = .next u) : Touch m a u := by
  refine act_touch (Mask.sub hm rfl) (fun x k => ?_) h e
  repeat' with_reducible first | assumption | refine seqInstr_touch (Mask.sub hm rfl) (fun _ _ _ => ?_) ?_ | refine bodyPab_touch (Mask.sub hm rfl) ?_ | refine Touch.ite ?_ ?_ | split | dsimp only

theorem execCmpne_touch (hm : m ||| 51113741 = m) {t : Nat} {n : Fin 8} (h : Touch m a s) (e : execCmpne t n s = .next u) : Touch m a u := by
  refine act_touch (Mask.sub hm rfl) (fun x k => ?_) h e
  repeat' with_reducible first | assumption | refine seqInstr_touch (Mask.sub hm rfl) (fun _ _ _ => ?_) ?_ | refine bodyPab_touch (Mask.sub hm rfl) ?_ | refine Touch.ite ?_ ?_ | split | dsimp only

theorem execCmplt_touch (hm : m ||| 51113741 = m) {t : Nat} {n : Fin 8} (h : Touch m a s) (e : execCmplt t n s = .next u) : Touch m a u := by
  refine act_touch (Mask.sub hm rfl) (fun x k => ?_) h e
  repeat' with_reducible first | assumption | refine seqInstr_touch (Mask.sub hm rfl) (fun _ _ _ => ?_) ?_ | refine bodyPab_touch (Mask.sub hm rfl) ?_ | refine Touch.ite ?_ ?_ | split | dsimp only

theorem execCmpltu_touch (hm : m ||| 51113741 = m) {t : Nat} {n : Fin 8} (h : Touch m a s) (e : execCmpltu t n s = .next u) : Touch m a u := by
  refine act_touch (Mask.sub hm rfl) (fun x k => ?_) h e
  repeat' with_reducible first | assumption | refine seqInstr_touch (Mask.sub hm rfl) (fun _ _ _ => ?_) ?_ | refine bodyPab_touch (Mask.sub hm rfl) ?_ | refine Touch.ite ?_ ?_ | split | dsimp only

theorem execCmpge_touch (hm : m ||| 51113741 = m) {t : Nat} {n : Fin 8} (h : Touch m a s) (e : execCmpge t n s = .next u) : Touch m a u := by
  refine act_touch (Mask.sub hm rfl) (fun x k => ?_) h e
  repeat' with_reducible first | assumption | refine seqInstr_touch (Mask.sub hm rfl) (fun _ _ _ => ?_) ?_ | refine bodyPab_touch (Mask.sub hm rfl) ?_ | refine Touch.ite ?_ ?_ | split | dsimp only

theorem execCmpgeu_touch (hm : m ||| 51113741 = m) {t : Nat} {n : Fin 8} (h : Touch m a s) (e : execCmpgeu t n s = .next u) : Touch m a u := by
  refine act_touch (Mask.sub hm rfl) (fun x k => ?_) h e
  repeat' with_reducible first | assumption | refine seqInstr_touch (Mask.sub hm rfl) (fun _ _ _ => ?_) ?_ | refine bodyPab_touch (Mask.sub hm rfl) ?_ | refine Touch.ite ?_ ?_ | split | dsimp only

theorem execCmpeqi_touch (hm : m ||| 51113741 = m) {t : Nat} {n : Fin 8} (h : Touch m a s) (e : execCmpeqi t n s = .next u) : Touch m a u := by
  refine act_touch (Mask.sub hm rfl) (fun x k => ?_) h e
  repeat' with_reducible first | assumption | refine seqInstr_touch (Mask.sub hm rfl) (fun _ _ _ => ?_) ?_ | refine bodyPai_touch (Mask.sub hm rfl) ?_ | refine Touch.ite ?_ ?_ | split | dsimp only

theorem execCmplti_touch (hm : m ||| 51113741 = m) {t : Nat} {n : Fin 8} (h : Touch m a s) (e : execCmplti t n s = .next u) : Touch m a u := by
  refine act_touch (Mask.sub hm rfl) (fun x k => ?_) h e
  repeat' with_reducible first | assumption | refine seqInstr_touch (Mask.sub hm rfl) (fun _ _ _ => ?_) ?_ | refine bodyPai_touch (Mask.sub hm rfl) ?_ | refine Touch.ite ?_ ?_ | split | dsimp only

theorem execCmpltui_touch (hm : m ||| 51113741 = m) {t : Nat} {n : Fin 8} (h : Touch m a s) (e : execCmpltui t n s = .next u) : Touch m a u := by
  refine act_touch (Mask.sub hm rfl) (fun x k => ?_) h e
  repeat' with_reducible first | assumption | refine seqInstr_touch (Mask.sub hm rfl) (fun _ _ _ => ?_) ?_ | refine bodyPai_touch (Mask.sub hm rfl) ?_ | refine Touch.ite ?_ ?_ | split | dsimp only

theorem execCmpgei_touch (hm : m ||| 51113741 = m) {t : Nat} {n : Fin 8} (h : Touch m a s) (e : execCmpgei t n s = .next u) : Touch m a u := by
  refine act_touch (Mask.sub hm rfl) (fun x k => ?_) h e
  repeat' with_reducible first | assumption | refine seqInstr_touch (Mask.sub hm rfl) (fun _ _ _ => ?_) ?_ | refine bodyPai_touch (Mask.sub hm rfl) ?_ | refine Touch.ite ?_ ?_ | split | dsimp only

theorem execCmpgeui_touch (hm : m ||| 51113741 = m) {t : Nat} {n : Fin 8} (h : Touch m a s) (e : execCmpgeui t n s = .next u) : Touch m a u := by
  refine act_touch (Mask.sub hm rfl) (fun x k => ?_) h e
  repeat' with_reducible first | assumption | refine seqInstr_touch (Mask.sub hm rfl) (fun _ _ _ => ?_) ?_ | refine bodyPai_touch (Mask.sub hm rfl) ?_ | refine Touch.ite ?_ ?_ | split | dsimp only

theorem execPand_touch (hm : m ||| 51113741 = m) {t : Nat} {n : Fin 8} (h : Touch m a s) (e : execPand t n s = .next u) : Touch m a u := by
  refine act_touch (Mask.sub hm rfl) (fun x k => ?_) h e
  repeat' with_reducible first | assumption | refine seqInstr_touch (Mask.sub hm rfl) (fun _ _ _ => ?_) ?_ | refine bodyPqr_touch (Mask.sub hm rfl) ?_ | refine Touch.ite ?_ ?_ | split | dsimp only

theorem execPor_touch (hm : m ||| 51113741 = m) {t : Nat} {n : Fin 8} (h : Touch m a s) (e : execPor t n s = .next u) : Touch m a u := by
  refine act_touch (Mask.sub hm rfl) (fun x k => ?_) h e
  repeat' with_reducible first | assumption | refine seqInstr_touch (Mask.sub hm rfl) (fun _ _ _ => ?_) ?_ | refine bodyPqr_touch (Mask.sub hm rfl) ?_ | refine Touch.ite ?_ ?_ | split | dsimp only

theorem execPnot_touch (hm : m ||| 51113741 = m) {t : Nat} {n : Fin 8} (h : Touch m a s) (e : execPnot t n s = .next u) : Touch m a u := by
  refine act_touch (Mask.sub hm rfl) (fun x k => ?_) h e
  repeat' with_reducible first | assumption | refine seqInstr_touch (Mask.sub hm rfl) (fun _ _ _ => ?_) ?_ | refine bodyPqr_touch (Mask.sub hm rfl) ?_ | refine Touch.ite ?_ ?_ | split | dsimp only

theorem execTstbit_touch (hm : m ||| 51113741 = m) {t : Nat} {n : Fin 8} (h : Touch m a s) (e : execTstbit t n s = .next u) : Touch m a u := by
  refine act_touch (Mask.sub hm rfl) (fun x k => ?_) h e
  repeat' with_reducible first | assumption | refine seqInstr_touch (Mask.sub hm rfl) (fun _ _ _ => ?_) ?_ | refine bodyPai_touch (Mask.sub hm rfl) ?_ | refine Touch.ite ?_ ?_ | split | dsimp only

theorem execBr_touch (hm : m ||| 51113741 = m) {t : Nat} {n : Fin 8} (h : Touch m a s) (e : execBr t n s = .next u) : Touch m a u := by
  refine act_touch (Mask.sub hm rfl) (fun x k => ?_) h e
  repeat' with_reducible first | assumption | refine seqInstr_touch (Mask.sub hm rfl) (fun _ _ _ => ?_) ?_ | refine Touch.ite ?_ ?_ | split | dsimp only

theorem execBrr_touch (hm : m ||| 51113741 = m) {t : Nat} {n : Fin 8} (h : Touch m a s) (e : execBrr t n s = .next u) : Touch m a u := by
  refine act_touch (Mask.sub hm rfl) (fun x k => ?_) h e
  repeat' with_reducible first | assumption | refine seqInstr_touch (Mask.sub hm rfl) (fun _ _ _ => ?_) ?_ | refine Touch.ite ?_ ?_ | split | dsimp only

theorem execCall_touch (hm : m ||| 51113741 = m) {t : Nat} {n : Fin 8} (h : Touch m a s) (e : execCall t n s = .next u) : Touch m a u := by
  refine act_touch (Mask.sub hm rfl) (fun x k => ?_) h e
  repeat' with_reducible first | assumption | refine seqInstr_touch (Mask.sub hm rfl) (fun _ _ _ => ?_) ?_ | refine bodyCall_touch (Mask.sub hm rfl) ?_ | refine Touch.ite ?_ ?_ | split | dsimp only

theorem execRet_touch (hm : m ||| 51113741 = m) {t : Nat} {n : Fin 8} (h : Touch m a s) (e : execRet t n s = .next u) : Touch m a u := by
  refine act_touch (Mask.sub hm rfl) (fun x k => ?_) h e
  repeat' with_reducible first | assumption | refine seqInstr_touch (Mask.sub hm rfl) (fun _ _ _ => ?_) ?_ | refine Touch.ite ?_ ?_ | split | dsimp only

theorem execLoop_touch (hm : m ||| 51113741 = m) {t : Nat} {n : Fin 8} (h : Touch m a s) (e : execLoop t n s = .next u) : Touch m a u := by
  refine act_touch (Mask.sub hm rfl) (fun x k => ?_) h e
  repeat' with_reducible first | assumption | refine seqInstr_touch (Mask.sub hm rfl) (fun _ _ _ => ?_) ?_ | refine bodyLoop_touch (Mask.sub hm rfl) ?_ | refine Touch.ite ?_ ?_ | split | dsimp only

theorem execHalt_touch (hm : m ||| 51113741 = m) {t : Nat} {n : Fin 8} (h : Touch m a s) (e : execHalt t n s = .next u) : Touch m a u := by
  refine act_touch (Mask.sub hm rfl) (fun x k => ?_) h e
  repeat' with_reducible first | assumption | refine seqInstr_touch (Mask.sub hm rfl) (fun _ _ _ => ?_) ?_ | refine Touch.ite ?_ ?_ | split | dsimp only

theorem execKick_touch (hm : m ||| 51113741 = m) {t : Nat} {n : Fin 8} (h : Touch m a s) (e : execKick t n s = .next u) : Touch m a u := by
  refine act_touch (Mask.sub hm rfl) (fun x k => ?_) h e
  repeat' with_reducible first | assumption | refine seqInstr_touch (Mask.sub hm rfl) (fun _ _ _ => ?_) ?_ | refine bodyKick_touch (Mask.sub hm rfl) ?_ | refine Touch.ite ?_ ?_ | split | dsimp only

theorem execSleep_touch (hm : m ||| 51113741 = m) {t : Nat} {n : Fin 8} (h : Touch m a s) (e : execSleep t n s = .next u) : Touch m a u := by
  refine act_touch (Mask.sub hm rfl) (fun x k => ?_) h e
  repeat' with_reducible first | assumption | refine seqInstr_touch (Mask.sub hm rfl) (fun _ _ _ => ?_) ?_ | refine bodySleep_touch ?_ | refine Touch.ite ?_ ?_ | split | dsimp only

theorem execTime_touch (hm : m ||| 51113741 = m) {t : Nat} {n : Fin 8} (h : Touch m a s) (e : execTime t n s = .next u) : Touch m a u := by
  refine act_touch (Mask.sub hm rfl) (fun x k => ?_) h e
  repeat' with_reducible first | assumption | refine seqInstr_touch (Mask.sub hm rfl) (fun _ _ _ => ?_) ?_ | refine bodyTime_touch (Mask.sub hm rfl) ?_ | refine Touch.ite ?_ ?_ | split | dsimp only

theorem execFstat_touch (hm : m ||| 51113741 = m) {t : Nat} {n : Fin 8} (h : Touch m a s) (e : execFstat t n s = .next u) : Touch m a u := by
  refine act_touch (Mask.sub hm rfl) (fun x k => ?_) h e
  repeat' with_reducible first | assumption | refine seqInstr_touch (Mask.sub hm rfl) (fun _ _ _ => ?_) ?_ | refine bodyFstat_touch (Mask.sub hm rfl) ?_ | refine Touch.ite ?_ ?_ | split | dsimp only

theorem execWait_touch (hm : m ||| 51113741 = m) {t : Nat} {n : Fin 8} (h : Touch m a s) (e : execWait t n s = .next u) : Touch m a u := by
  refine act_touch (Mask.sub hm rfl) (fun x k => ?_) h e
  repeat' with_reducible first | assumption | refine seqInstr_touch (Mask.sub hm rfl) (fun _ _ _ => ?_) ?_ | refine bodyWait_touch (Mask.sub hm rfl) ?_ | refine Touch.ite ?_ ?_ | split | dsimp only

theorem execWait1_touch (hm : m ||| 51113741 = m) {t : Nat} {n : Fin 8} (h : Touch m a s) (e : execWait1 t n s = .next u) : Touch m a u := by
  refine act_touch (Mask.sub hm rfl) (fun x k => ?_) h e
  repeat' with_reducible first | assumption | refine seqInstr_touch (Mask.sub hm rfl) (fun _ _ _ => ?_) ?_ | refine bodyWait1_touch (Mask.sub hm rfl) ?_ | refine Touch.ite ?_ ?_ | split | dsimp only

theorem execSig_touch (hm : m ||| 51113741 = m) {t : Nat} {n : Fin 8} (h : Touch m a s) (e : execSig t n s = .next u) : Touch m a u := by
  refine act_touch (Mask.sub hm rfl) (fun x k => ?_) h e
  repeat' with_reducible first | assumption | refine seqInstr_touch (Mask.sub hm rfl) (fun _ _ _ => ?_) ?_ | refine raiseEv_touch (Mask.sub hm rfl) ?_ | refine Touch.ite ?_ ?_ | split | dsimp only

theorem execEvclr_touch (hm : m ||| 51113741 = m) {t : Nat} {n : Fin 8} (h : Touch m a s) (e : execEvclr t n s = .next u) : Touch m a u := by
  refine act_touch (Mask.sub hm rfl) (fun x k => ?_) h e
  repeat' with_reducible first | assumption | refine seqInstr_touch (Mask.sub hm rfl) (fun _ _ _ => ?_) ?_ | refine bodyEvclr_touch (Mask.sub hm rfl) ?_ | refine Touch.ite ?_ ?_ | split | dsimp only

theorem execLd_touch (hm : m ||| 53211037 = m) {t : Nat} {n : Fin 8} (h : Touch m a s) (e : execLd t n s = .next u) : Touch m a u := by
  refine act_touch (Mask.sub hm rfl) (fun x k => ?_) h e
  repeat' with_reducible first | assumption | refine seqInstr_touch (Mask.sub hm rfl) (fun _ _ _ => ?_) ?_ | refine bodyLd_touch (Mask.sub hm rfl) ?_ | refine Touch.ite ?_ ?_ | split | dsimp only

theorem execSt_touch (hm : m ||| 67108829 = m) {t : Nat} {n : Fin 8} (h : Touch m a s) (e : execSt t n s = .next u) : Touch m a u := by
  refine act_touch (Mask.sub hm rfl) (fun x k => ?_) h e
  repeat' with_reducible first | assumption | refine seqInstr_touch (Mask.sub hm rfl) (fun _ _ _ => ?_) ?_ | refine bodySt_touch (Mask.sub hm rfl) ?_ | refine Touch.ite ?_ ?_ | split | dsimp only

theorem execMfence_touch (hm : m ||| 51113741 = m) {t : Nat} {n : Fin 8} (h : Touch m a s) (e : execMfence t n s = .next u) : Touch m a u := by
  refine act_touch (Mask.sub hm rfl) (fun x k => ?_) h e
  repeat' with_reducible first | assumption | refine seqInstr_touch (Mask.sub hm rfl) (fun _ _ _ => ?_) ?_ | refine Touch.ite ?_ ?_ | split | dsimp only

theorem execDbase_touch (hm : m ||| 51113741 = m) {t : Nat} {n : Fin 8} (h : Touch m a s) (e : execDbase t n s = .next u) : Touch m a u := by
  refine act_touch (Mask.sub hm rfl) (fun x k => ?_) h e
  repeat' with_reducible first | assumption | refine seqInstr_touch (Mask.sub hm rfl) (fun _ _ _ => ?_) ?_ | refine bodyDbase_touch (Mask.sub hm rfl) ?_ | refine Touch.ite ?_ ?_ | split | dsimp only

theorem execAmoadd_touch (hm : m ||| 67108829 = m) {t : Nat} {n : Fin 8} (h : Touch m a s) (e : execAmoadd t n s = .next u) : Touch m a u := by
  refine act_touch (Mask.sub hm rfl) (fun x k => ?_) h e
  repeat' with_reducible first | assumption | refine seqInstr_touch (Mask.sub hm rfl) (fun _ _ _ => ?_) ?_ | refine bodyAmoadd_touch (Mask.sub hm rfl) ?_ | refine Touch.ite ?_ ?_ | split | dsimp only

theorem execFfill_touch (hm : m ||| 51113741 = m) {t : Nat} {n : Fin 8} (h : Touch m a s) (e : execFfill t n s = .next u) : Touch m a u := by
  refine act_touch (Mask.sub hm rfl) (fun x k => ?_) h e
  repeat' with_reducible first | assumption | refine seqInstr_touch (Mask.sub hm rfl) (fun _ _ _ => ?_) ?_ | refine bodyFfill_touch (Mask.sub hm rfl) ?_ | refine Touch.ite ?_ ?_ | split | dsimp only

theorem execFcommit_touch (hm : m ||| 51113741 = m) {t : Nat} {n : Fin 8} (h : Touch m a s) (e : execFcommit t n s = .next u) : Touch m a u := by
  refine act_touch (Mask.sub hm rfl) (fun x k => ?_) h e
  repeat' with_reducible first | assumption | refine seqInstr_touch (Mask.sub hm rfl) (fun _ _ _ => ?_) ?_ | refine bodyFcommit_touch (Mask.sub hm rfl) ?_ | refine Touch.ite ?_ ?_ | split | dsimp only

theorem execFmt_touch (hm : m ||| 67108829 = m) {t : Nat} {n : Fin 8} (h : Touch m a s) (e : execFmt t n s = .next u) : Touch m a u := by
  refine act_touch (Mask.sub hm rfl) (fun x k => ?_) h e
  repeat' with_reducible first | assumption | refine seqInstr_touch (Mask.sub hm rfl) (fun _ _ _ => ?_) ?_ | refine bodyFmt_touch (Mask.sub hm rfl) ?_ | refine Touch.ite ?_ ?_ | split | dsimp only

theorem execHlock_touch (hm : m ||| 51113741 = m) {t : Nat} {n : Fin 8} (h : Touch m a s) (e : execHlock t n s = .next u) : Touch m a u := by
  refine act_touch (Mask.sub hm rfl) (fun x k => ?_) h e
  repeat' with_reducible first | assumption | refine seqInstr_touch (Mask.sub hm rfl) (fun _ _ _ => ?_) ?_ | refine bodyHlock_touch (Mask.sub hm rfl) ?_ | refine Touch.ite ?_ ?_ | split | dsimp only

theorem execWatch_touch (hm : m ||| 51113741 = m) {t : Nat} {n : Fin 8} (h : Touch m a s) (e : execWatch t n s = .next u) : Touch m a u := by
  refine act_touch (Mask.sub hm rfl) (fun x k => ?_) h e
  repeat' with_reducible first | assumption | refine seqInstr_touch (Mask.sub hm rfl) (fun _ _ _ => ?_) ?_ | refine bodyWatch_touch (Mask.sub hm rfl) ?_ | refine Touch.ite ?_ ?_ | split | dsimp only

theorem execProbe_touch (hm : m ||| 51113741 = m) {t : Nat} {n : Fin 8} (h : Touch m a s) (e : execProbe t n s = .next u) : Touch m a u := by
  refine act_touch (Mask.sub hm rfl) (fun x k => ?_) h e
  repeat' with_reducible first | assumption | refine seqInstr_touch (Mask.sub hm rfl) (fun _ _ _ => ?_) ?_ | refine bodyProbe_touch (Mask.sub hm rfl) ?_ | refine Touch.ite ?_ ?_ | split | dsimp only

theorem execCqpop_touch (hm : m ||| 51113741 = m) {t : Nat} {n : Fin 8} (h : Touch m a s) (e : execCqpop t n s = .next u) : Touch m a u := by
  refine act_touch (Mask.sub hm rfl) (fun x k => ?_) h e
  repeat' with_reducible first | assumption | refine seqInstr_touch (Mask.sub hm rfl) (fun _ _ _ => ?_) ?_ | refine bodyCqpop_touch (Mask.sub hm rfl) ?_ | refine Touch.ite ?_ ?_ | split | dsimp only

theorem execFence_touch (hm : m ||| 51113741 = m) {t : Nat} {n : Fin 8} (h : Touch m a s) (e : execFence t n s = .next u) : Touch m a u := by
  refine act_touch (Mask.sub hm rfl) (fun x k => ?_) h e
  repeat' with_reducible first | assumption | refine seqInstr_touch (Mask.sub hm rfl) (fun _ _ _ => ?_) ?_ | refine bodyFence_touch ?_ | refine Touch.ite ?_ ?_ | split | dsimp only

theorem execEnergy_touch (hm : m ||| 67108829 = m) {t : Nat} {n : Fin 8} (h : Touch m a s) (e : execEnergy t n s = .next u) : Touch m a u := by
  refine act_touch (Mask.sub hm rfl) (fun x k => ?_) h e
  repeat' with_reducible first | assumption | refine seqInstr_touch (Mask.sub hm rfl) (fun _ _ _ => ?_) ?_ | refine bodyEnergy_touch (Mask.sub hm rfl) ?_ | refine Touch.ite ?_ ?_ | split | dsimp only

theorem execHop_touch (hm : m ||| 51117837 = m) {t : Nat} {n : Fin 8} (h : Touch m a s) (e : execHop t n s = .next u) : Touch m a u := by
  refine act_touch (Mask.sub hm rfl) (fun x k => ?_) h e
  repeat' with_reducible first | assumption | refine seqInstr_touch (Mask.sub hm rfl) (fun _ _ _ => ?_) ?_ | refine bodyHop_touch (Mask.sub hm rfl) ?_ | refine Touch.ite ?_ ?_ | split | dsimp only

theorem execLread_touch (hm : m ||| 51113741 = m) {t : Nat} {n : Fin 8} (h : Touch m a s) (e : execLread t n s = .next u) : Touch m a u := by
  refine act_touch (Mask.sub hm rfl) (fun x k => ?_) h e
  repeat' with_reducible first | assumption | refine seqInstr_touch (Mask.sub hm rfl) (fun _ _ _ => ?_) ?_ | refine bodyLread_touch (Mask.sub hm rfl) ?_ | refine Touch.ite ?_ ?_ | split | dsimp only

theorem execLwrite_touch (hm : m ||| 51113741 = m) {t : Nat} {n : Fin 8} (h : Touch m a s) (e : execLwrite t n s = .next u) : Touch m a u := by
  refine act_touch (Mask.sub hm rfl) (fun x k => ?_) h e
  repeat' with_reducible first | assumption | refine seqInstr_touch (Mask.sub hm rfl) (fun _ _ _ => ?_) ?_ | refine bodyLwrite_touch (Mask.sub hm rfl) ?_ | refine Touch.ite ?_ ?_ | split | dsimp only

theorem execLflag_touch (hm : m ||| 51113741 = m) {t : Nat} {n : Fin 8} (h : Touch m a s) (e : execLflag t n s = .next u) : Touch m a u := by
  refine act_touch (Mask.sub hm rfl) (fun x k => ?_) h e
  repeat' with_reducible first | assumption | refine seqInstr_touch (Mask.sub hm rfl) (fun _ _ _ => ?_) ?_ | refine bodyLflag_touch (Mask.sub hm rfl) ?_ | refine Touch.ite ?_ ?_ | split | dsimp only

theorem execAnchor_touch (hm : m ||| 51113869 = m) {t : Nat} {n : Fin 8} (h : Touch m a s) (e : execAnchor t n s = .next u) : Touch m a u := by
  refine act_touch (Mask.sub hm rfl) (fun x k => ?_) h e
  repeat' with_reducible first | assumption | refine seqInstr_touch (Mask.sub hm rfl) (fun _ _ _ => ?_) ?_ | refine bodyAnchor_touch (Mask.sub hm rfl) ?_ | refine Touch.ite ?_ ?_ | split | dsimp only

theorem execEmit_touch (hm : m ||| 51113741 = m) {t : Nat} {n : Fin 8} (h : Touch m a s) (e : execEmit t n s = .next u) : Touch m a u := by
  refine act_touch (Mask.sub hm rfl) (fun x k => ?_) h e
  repeat' with_reducible first | assumption | refine seqInstr_touch (Mask.sub hm rfl) (fun _ _ _ => ?_) ?_ | refine bodyEmit_touch (Mask.sub hm rfl) ?_ | refine Touch.ite ?_ ?_ | split | dsimp only

theorem execCarm_touch (hm : m ||| 52162317 = m) {t : Nat} {n : Fin 8} (h : Touch m a s) (e : execCarm t n s = .next u) : Touch m a u := by
  refine act_touch (Mask.sub hm rfl) (fun x k => ?_) h e
  repeat' with_reducible first | assumption | refine seqInstr_touch (Mask.sub hm rfl) (fun _ _ _ => ?_) ?_ | refine bodyCarm_touch (Mask.sub hm rfl) ?_ | refine Touch.ite ?_ ?_ | split | dsimp only

theorem execMset_touch (hm : m ||| 67108829 = m) {t : Nat} {n : Fin 8} (h : Touch m a s) (e : execMset t n s = .next u) : Touch m a u := by
  refine act_touch (Mask.sub hm rfl) (fun x k => ?_) h e
  repeat' with_reducible first | assumption | refine seqInstr_touch (Mask.sub hm rfl) (fun _ _ _ => ?_) ?_ | refine bodyMset_touch (Mask.sub hm rfl) ?_ | refine Touch.ite ?_ ?_ | split | dsimp only

theorem execMprof_touch (hm : m ||| 51375885 = m) {t : Nat} {n : Fin 8} (h : Touch m a s) (e : execMprof t n s = .next u) : Touch m a u := by
  refine act_touch (Mask.sub hm rfl) (fun x k => ?_) h e
  repeat' with_reducible first | assumption | refine seqInstr_touch (Mask.sub hm rfl) (fun _ _ _ => ?_) ?_ | refine bodyMprof_touch (Mask.sub hm rfl) ?_ | refine Touch.ite ?_ ?_ | split | dsimp only

theorem execDriveEnable_touch (hm : m ||| 67108829 = m) {t req : Nat} {head : Fin 2} (h : Touch m a s) (e : execDriveEnable t req head s = .next u) : Touch m a u := by
  refine act_touch (Mask.sub hm rfl) (fun x k => ?_) h e
  repeat' with_reducible first | assumption | refine busField_touch (Mask.sub hm rfl) ?_ | refine Touch.ite ?_ ?_ | split | dsimp only

theorem execExchangeStart_touch (hm : m ||| 51375885 = m) {t : Nat} {head : Fin 2} (h : Touch m a s) (e : execExchangeStart t head s = .next u) : Touch m a u := by
  refine act_touch (Mask.sub hm rfl) (fun x k => ?_) h e
  repeat' with_reducible first | assumption | refine stepMove_touch (Mask.sub hm rfl) ?_ | refine calLineEnd_touch (Mask.sub hm rfl) ?_ | refine exchangeAt_touch (Mask.sub hm rfl) ?_ | refine phiTaken_touch (Mask.sub hm rfl) ?_ | refine Touch.ite ?_ ?_ | split | dsimp only

theorem execExchangeCommand_touch (hm : m ||| 51113741 = m) {t : Nat} {head : Fin 2} (h : Touch m a s) (e : execExchangeCommand t head s = .next u) : Touch m a u := by
  refine act_touch (Mask.sub hm rfl) (fun x k => ?_) h e
  repeat' with_reducible first | assumption | refine exchangeCommand_touch (Mask.sub hm rfl) ?_ | refine Touch.ite ?_ ?_ | split | dsimp only

theorem execExchangeMark_touch (hm : m ||| 51113869 = m) {t : Nat} {head : Fin 2} (h : Touch m a s) (e : execExchangeMark t head s = .next u) : Touch m a u := by
  refine act_touch (Mask.sub hm rfl) (fun x k => ?_) h e
  repeat' with_reducible first | assumption | refine exchangeMark_touch (Mask.sub hm rfl) ?_ | refine Touch.ite ?_ ?_ | split | dsimp only

theorem execEchoEdge_touch (hm : m ||| 51113741 = m) {t : Nat} {head : Fin 2} {bank : Fin 32} (h : Touch m a s) (e : execEchoEdge t head bank s = .next u) : Touch m a u := by
  refine act_touch (Mask.sub hm rfl) (fun x k => ?_) h e
  repeat' with_reducible first | assumption | refine echoEdge_touch (Mask.sub hm rfl) ?_ | refine Touch.ite ?_ ?_ | split | dsimp only

theorem execReplyFrame_touch (hm : m ||| 51113741 = m) {t : Nat} {head : Fin 2} {bank : Fin 32} {frame : BitVec 80} (h : Touch m a s) (e : execReplyFrame t head bank frame s = .next u) : Touch m a u := by
  refine act_touch (Mask.sub hm rfl) (fun x k => ?_) h e
  repeat' with_reducible first | assumption | refine replyFrame_touch (Mask.sub hm rfl) ?_ | refine Touch.ite ?_ ?_ | split | dsimp only

theorem execReplyDeadline_touch (hm : m ||| 51113741 = m) {t : Nat} {head : Fin 2} (h : Touch m a s) (e : execReplyDeadline t head s = .next u) : Touch m a u := by
  refine act_touch (Mask.sub hm rfl) (fun x k => ?_) h e
  repeat' with_reducible first | assumption | refine replyDeadline_touch (Mask.sub hm rfl) ?_ | refine Touch.ite ?_ ?_ | split | dsimp only

theorem execExchangeWindowEnd_touch (hm : m ||| 51113741 = m) {t : Nat} {head : Fin 2} (h : Touch m a s) (e : execExchangeWindowEnd t head s = .next u) : Touch m a u := by
  refine act_touch (Mask.sub hm rfl) (fun x k => ?_) h e
  repeat' with_reducible first | assumption | refine windowEnd_touch (Mask.sub hm rfl) ?_ | refine Touch.ite ?_ ?_ | split | dsimp only

theorem execSoftStop_touch (hm : m ||| 67108829 = m) {t req : Nat} {head : Fin 2} (h : Touch m a s) (e : execSoftStop t req head s = .next u) : Touch m a u := by
  refine act_touch (Mask.sub hm rfl) (fun x k => ?_) h e
  repeat' with_reducible first | assumption | refine busField_touch (Mask.sub hm rfl) ?_ | refine Touch.ite ?_ ?_ | split | dsimp only

theorem execStandbyCableListen_touch (hm : m ||| 51113741 = m) {t : Nat} {head : Fin 2} {bank : Fin 32} {mark ca : Nat} {cap : BitVec 32} (h : Touch m a s) (e : execStandbyCableListen t head bank mark ca cap s = .next u) : Touch m a u := by
  refine act_touch (Mask.sub hm rfl) (fun x k => ?_) h e
  repeat' with_reducible first | assumption | refine cableListen_touch (Mask.sub hm rfl) ?_ | refine Touch.ite ?_ ?_ | split | dsimp only

theorem execGinChange_touch (hm : m ||| 51113741 = m) {t : Nat} {n : Fin 4} {a' b : Bool} (h : Touch m a s) (e : execGinChange t n a' b s = .next u) : Touch m a u := by
  refine actAny_touch (Mask.sub hm rfl) (fun x k => ?_) h e
  repeat' with_reducible first | assumption | refine ginChange_touch (Mask.sub hm rfl) ?_ | refine Touch.ite ?_ ?_ | split | dsimp only

theorem execGinDiscrepancyTimeout_touch (hm : m ||| 51113741 = m) {t : Nat} {n : Fin 4} (h : Touch m a s) (e : execGinDiscrepancyTimeout t n s = .next u) : Touch m a u := by
  refine act_touch (Mask.sub hm rfl) (fun x k => ?_) h e
  repeat' with_reducible first | assumption | refine ginTimeout_touch (Mask.sub hm rfl) ?_ | refine Touch.ite ?_ ?_ | split | dsimp only

theorem execGinAgreementEnd_touch (hm : m ||| 51113741 = m) {t : Nat} {n : Fin 4} (h : Touch m a s) (e : execGinAgreementEnd t n s = .next u) : Touch m a u := by
  refine act_touch (Mask.sub hm rfl) (fun x k => ?_) h e
  repeat' with_reducible first | assumption | refine ginAgreed_touch (Mask.sub hm rfl) ?_ | refine Touch.ite ?_ ?_ | split | dsimp only

theorem execGuardRestart_touch (hm : m ||| 67108829 = m) {t req : Nat} (h : Touch m a s) (e : execGuardRestart t req s = .next u) : Touch m a u := by
  refine act_touch (Mask.sub hm rfl) (fun x k => ?_) h e
  repeat' with_reducible first | assumption | refine busField_touch (Mask.sub hm rfl) ?_ | refine Touch.ite ?_ ?_ | split | dsimp only

theorem execGuardReset_touch (hm : m ||| 67108829 = m) {t req : Nat} (h : Touch m a s) (e : execGuardReset t req s = .next u) : Touch m a u := by
  refine act_touch (Mask.sub hm rfl) (fun x k => ?_) h e
  repeat' with_reducible first | assumption | refine busField_touch (Mask.sub hm rfl) ?_ | refine Touch.ite ?_ ?_ | split | dsimp only

theorem execMotionWindowEnd_touch (hm : m ||| 51113741 = m) {t : Nat} {head : Fin 2} {lim proc : Bool} (h : Touch m a s) (e : execMotionWindowEnd t head lim proc s = .next u) : Touch m a u := by
  refine act_touch (Mask.sub hm rfl) (fun x k => ?_) h e
  repeat' with_reducible first | assumption | refine motionWindow_touch (Mask.sub hm rfl) ?_ | refine Touch.ite ?_ ?_ | split | dsimp only

theorem execGuardHeartbeat_touch (hm : m ||| 51113741 = m) {t : Nat} {limBeat procAnswer : Bool} (h : Touch m a s) (e : execGuardHeartbeat t limBeat procAnswer s = .next u) : Touch m a u := by
  refine act_touch (Mask.sub hm rfl) (fun x k => ?_) h e
  repeat' with_reducible first | assumption | refine heartbeat_touch (Mask.sub hm rfl) ?_ | refine Touch.ite ?_ ?_ | split | dsimp only

theorem execFiredPulseReport_touch (hm : m ||| 51113741 = m) {t : Nat} {head : Fin 2} {bank : Fin 32} {fired : Nat} (h : Touch m a s) (e : execFiredPulseReport t head bank fired s = .next u) : Touch m a u := by
  refine act_touch (Mask.sub hm rfl) (fun x k => ?_) h e
  repeat' with_reducible first | assumption | refine firedReport_touch (Mask.sub hm rfl) ?_ | refine Touch.ite ?_ ?_ | split | dsimp only

theorem execChannelDisagreeTimeout_touch (hm : m ||| 51113741 = m) {t : Nat} (h : Touch m a s) (e : execChannelDisagreeTimeout t s = .next u) : Touch m a u := by
  refine act_touch (Mask.sub hm rfl) (fun x k => ?_) h e
  repeat' with_reducible first | assumption | refine channelsDiffer_touch (Mask.sub hm rfl) ?_ | refine Touch.ite ?_ ?_ | split | dsimp only

theorem execEmenReadbackFault_touch (hm : m ||| 51113741 = m) {t : Nat} {isH : Bool} (h : Touch m a s) (e : execEmenReadbackFault t isH s = .next u) : Touch m a u := by
  refine act_touch (Mask.sub hm rfl) (fun x k => ?_) h e
  repeat' with_reducible first | assumption | refine emenFault_touch (Mask.sub hm rfl) ?_ | refine Touch.ite ?_ ?_ | split | dsimp only

theorem execTwinGuardState_touch (hm : m ||| 51113741 = m) {t : Nat} {fault nrstStuck : Bool} {levels : List (Bool × Bool)} (h : Touch m a s) (e : execTwinGuardState t fault nrstStuck levels s = .next u) : Touch m a u := by
  refine act_touch (Mask.sub hm rfl) (fun x k => ?_) h e
  repeat' with_reducible first | assumption | refine twinGuard_touch (Mask.sub hm rfl) ?_ | refine Touch.ite ?_ ?_ | split | dsimp only

theorem execLoopSample_touch (hm : m ||| 52424461 = m) {t : Nat} {n : Fin 8} (h : Touch m a s) (e : execLoopSample t n s = .next u) : Touch m a u := by
  refine act_touch (Mask.sub hm rfl) (fun x k => ?_) h e
  repeat' with_reducible first | assumption | refine loopSample_touch (Mask.sub hm rfl) ?_ | refine capMotion_touch (Mask.sub hm rfl) ?_ | refine Touch.ite ?_ ?_ | split | dsimp only

theorem execCommandApply_touch (hm : m ||| 51375885 = m) {t : Nat} {n : Fin 8} {late : Bool} (h : Touch m a s) (e : execCommandApply t n late s = .next u) : Touch m a u := by
  refine act_touch (Mask.sub hm rfl) (fun x k => ?_) h e
  repeat' with_reducible first | assumption | refine commandApply_touch (Mask.sub hm rfl) ?_ | refine Touch.ite ?_ ?_ | split | dsimp only

theorem execEncEdge_touch (hm : m ||| 51375885 = m) {t : Nat} {m' : Fin 4} {a' b : Bool} (h : Touch m a s) (e : execEncEdge t m' a' b s = .next u) : Touch m a u := by
  refine act_touch (Mask.sub hm rfl) (fun x k => ?_) h e
  repeat' with_reducible first | assumption | refine encEdge_touch (Mask.sub hm rfl) ?_ | refine Touch.ite ?_ ?_ | split | dsimp only

theorem execEncIndex_touch (hm : m ||| 51375885 = m) {t : Nat} {m' : Fin 4} {rise : Bool} (h : Touch m a s) (e : execEncIndex t m' rise s = .next u) : Touch m a u := by
  refine act_touch (Mask.sub hm rfl) (fun x k => ?_) h e
  repeat' with_reducible first | assumption | refine encIndex_touch (Mask.sub hm rfl) ?_ | refine Touch.ite ?_ ?_ | split | dsimp only

theorem execSetpointWrite_touch (hm : m ||| 67108829 = m) {t req : Nat} {n : Fin 8} {val : BitVec 32} (h : Touch m a s) (e : execSetpointWrite t req n val s = .next u) : Touch m a u := by
  refine act_touch (Mask.sub hm rfl) (fun x k => ?_) h e
  repeat' with_reducible first | assumption | refine busWrite_touch (Mask.sub hm rfl) ?_ | refine Touch.ite ?_ ?_ | split | dsimp only

theorem execRcClear_touch (hm : m ||| 67108829 = m) {t req : Nat} {n : Fin 8} (h : Touch m a s) (e : execRcClear t req n s = .next u) : Touch m a u := by
  refine act_touch (Mask.sub hm rfl) (fun x k => ?_) h e
  repeat' with_reducible first | assumption | refine busField_touch (Mask.sub hm rfl) ?_ | refine Touch.ite ?_ ?_ | split | dsimp only

theorem execParkRequest_touch (hm : m ||| 55574285 = m) {t : Nat} (h : Touch m a s) (e : execParkRequest t s = .next u) : Touch m a u := by
  refine act_touch (Mask.sub hm rfl) (fun x k => ?_) h e
  repeat' with_reducible first | assumption | refine parkRequest_touch (Mask.sub hm rfl) ?_ | refine Touch.ite ?_ ?_ | split | dsimp only

theorem execParkEnd_touch (hm : m ||| 55308045 = m) {t : Nat} (h : Touch m a s) (e : execParkEnd t s = .next u) : Touch m a u := by
  refine act_touch (Mask.sub hm rfl) (fun x k => ?_) h e
  repeat' with_reducible first | assumption | refine parkEnd_touch (Mask.sub hm rfl) ?_ | refine Touch.ite ?_ ?_ | split | dsimp only

theorem execTrStart_touch (hm : m ||| 67108829 = m) {t req : Nat} (h : Touch m a s) (e : execTrStart t req s = .next u) : Touch m a u := by
  refine act_touch (Mask.sub hm rfl) (fun x k => ?_) h e
  repeat' with_reducible first | assumption | refine busField_touch (Mask.sub hm rfl) ?_ | refine Touch.ite ?_ ?_ | split | dsimp only

theorem execTrStop_touch (hm : m ||| 67108829 = m) {t req : Nat} (h : Touch m a s) (e : execTrStop t req s = .next u) : Touch m a u := by
  refine act_touch (Mask.sub hm rfl) (fun x k => ?_) h e
  repeat' with_reducible first | assumption | refine busField_touch (Mask.sub hm rfl) ?_ | refine Touch.ite ?_ ?_ | split | dsimp only

theorem execLaneEnable_touch (hm : m ||| 67108829 = m) {t req : Nat} {lane : Fin 16} {on : Bool} (h : Touch m a s) (e : execLaneEnable t req lane on s = .next u) : Touch m a u := by
  refine act_touch (Mask.sub hm rfl) (fun x k => ?_) h e
  repeat' with_reducible first | assumption | refine busField_touch (Mask.sub hm rfl) ?_ | refine Touch.ite ?_ ?_ | split | dsimp only

theorem execBlockReceive_touch (hm : m ||| 59502349 = m) {t : Nat} {lane : Fin 16} {bits : List Bool} (h : Touch m a s) (e : execBlockReceive t lane bits s = .next u) : Touch m a u := by
  refine act_touch (Mask.sub hm rfl) (fun x k => ?_) h e
  repeat' with_reducible first | assumption | refine lineReceive_touch (Mask.sub hm rfl) ?_ | refine Touch.ite ?_ ?_ | split | dsimp only

theorem execCapSend_touch (hm : m ||| 51113741 = m) {t : Nat} {lane : Fin 16} (h : Touch m a s) (e : execCapSend t lane s = .next u) : Touch m a u := by
  refine act_touch (Mask.sub hm rfl) (fun x k => ?_) h e
  repeat' with_reducible first | assumption | refine capSend_touch (Mask.sub hm rfl) ?_ | refine Touch.ite ?_ ?_ | split | dsimp only

theorem execCapReceive_touch (hm : m ||| 59502349 = m) {t : Nat} {lane : Fin 16} {cap : Nat} (h : Touch m a s) (e : execCapReceive t lane cap s = .next u) : Touch m a u := by
  refine act_touch (Mask.sub hm rfl) (fun x k => ?_) h e
  repeat' with_reducible first | assumption | refine capReceive_touch (Mask.sub hm rfl) ?_ | refine Touch.ite ?_ ?_ | split | dsimp only

theorem execCapTimeout_touch (hm : m ||| 59502349 = m) {t : Nat} {lane : Fin 16} (h : Touch m a s) (e : execCapTimeout t lane s = .next u) : Touch m a u := by
  refine act_touch (Mask.sub hm rfl) (fun x k => ?_) h e
  repeat' with_reducible first | assumption | refine capTimeout_touch (Mask.sub hm rfl) ?_ | refine Touch.ite ?_ ?_ | split | dsimp only

theorem execAckReceive_touch (hm : m ||| 59502349 = m) {t : Nat} {lane : Fin 16} {entries : List AckEntry} (h : Touch m a s) (e : execAckReceive t lane entries s = .next u) : Touch m a u := by
  refine act_touch (Mask.sub hm rfl) (fun x k => ?_) h e
  repeat' with_reducible first | assumption | refine ackReceive_touch (Mask.sub hm rfl) ?_ | refine Touch.ite ?_ ?_ | split | dsimp only

theorem execCreditReceive_touch (hm : m ||| 51113741 = m) {t : Nat} {lane : Fin 16} {entries : List (Nat × Nat)} (h : Touch m a s) (e : execCreditReceive t lane entries s = .next u) : Touch m a u := by
  refine act_touch (Mask.sub hm rfl) (fun x k => ?_) h e
  repeat' with_reducible first | assumption | refine creditReceive_touch (Mask.sub hm rfl) ?_ | refine Touch.ite ?_ ?_ | split | dsimp only

theorem execSleepReceive_touch (hm : m ||| 51113741 = m) {t : Nat} {lane : Fin 16} {deep : Bool} (h : Touch m a s) (e : execSleepReceive t lane deep s = .next u) : Touch m a u := by
  refine act_touch (Mask.sub hm rfl) (fun x k => ?_) h e
  repeat' with_reducible first | assumption | refine sleepReceive_touch (Mask.sub hm rfl) ?_ | refine Touch.ite ?_ ?_ | split | dsimp only

theorem execControlBlockUnknown_touch (hm : m ||| 51113741 = m) {t : Nat} {lane : Fin 16} {ctype : Nat} (h : Touch m a s) (e : execControlBlockUnknown t lane ctype s = .next u) : Touch m a u := by
  refine act_touch (Mask.sub hm rfl) (fun x k => ?_) h e
  repeat' with_reducible first | assumption | refine unknownBlock_touch (Mask.sub hm rfl) ?_ | refine Touch.ite ?_ ?_ | split | dsimp only

theorem execParcelReceive_touch (hm : m ||| 51113741 = m) {t : Nat} {lane : Fin 16} {header : Nat} {blocks : List Nat} (h : Touch m a s) (e : execParcelReceive t lane header blocks s = .next u) : Touch m a u := by
  refine act_touch (Mask.sub hm rfl) (fun x k => ?_) h e
  repeat' with_reducible first | assumption | refine parcelReceive_touch (Mask.sub hm rfl) ?_ | refine Touch.ite ?_ ?_ | split | dsimp only

theorem execAckSend_touch (hm : m ||| 51113741 = m) {t : Nat} {lane : Fin 16} (h : Touch m a s) (e : execAckSend t lane s = .next u) : Touch m a u := by
  refine act_touch (Mask.sub hm rfl) (fun x k => ?_) h e
  repeat' with_reducible first | assumption | refine ackSend_touch (Mask.sub hm rfl) ?_ | refine Touch.ite ?_ ?_ | split | dsimp only

theorem execTransmitSlot_touch (hm : m ||| 59502349 = m) {t : Nat} {lane : Fin 16} (h : Touch m a s) (e : execTransmitSlot t lane s = .next u) : Touch m a u := by
  refine act_touch (Mask.sub hm rfl) (fun x k => ?_) h e
  repeat' with_reducible first | assumption | refine transmitSlot_touch (Mask.sub hm rfl) ?_ | refine Touch.ite ?_ ?_ | split | dsimp only

theorem execAckTimeout_touch (hm : m ||| 59502349 = m) {t : Nat} {lane : Fin 16} (h : Touch m a s) (e : execAckTimeout t lane s = .next u) : Touch m a u := by
  refine act_touch (Mask.sub hm rfl) (fun x k => ?_) h e
  repeat' with_reducible first | assumption | refine ackTimeout_touch (Mask.sub hm rfl) ?_ | refine Touch.ite ?_ ?_ | split | dsimp only

theorem execLaneRestart_touch (hm : m ||| 59502349 = m) {t : Nat} {lane : Fin 16} (h : Touch m a s) (e : execLaneRestart t lane s = .next u) : Touch m a u := by
  refine act_touch (Mask.sub hm rfl) (fun x k => ?_) h e
  repeat' with_reducible first | assumption | refine laneRestart_touch (Mask.sub hm rfl) ?_ | refine Touch.ite ?_ ?_ | split | dsimp only

theorem execParcelTimeout_touch (hm : m ||| 51113741 = m) {t : Nat} {stream : Fin 8} (h : Touch m a s) (e : execParcelTimeout t stream s = .next u) : Touch m a u := by
  refine act_touch (Mask.sub hm rfl) (fun x k => ?_) h e
  repeat' with_reducible first | assumption | refine parcelTimeout_touch (Mask.sub hm rfl) ?_ | refine Touch.ite ?_ ?_ | split | dsimp only

theorem execLaybyDrain_touch (hm : m ||| 51113741 = m) {t : Nat} {stream : Fin 8} (h : Touch m a s) (e : execLaybyDrain t stream s = .next u) : Touch m a u := by
  refine act_touch (Mask.sub hm rfl) (fun x k => ?_) h e
  repeat' with_reducible first | assumption | refine laybyDrain_touch (Mask.sub hm rfl) ?_ | refine Touch.ite ?_ ?_ | split | dsimp only

theorem execGapSplitExpiry_touch (hm : m ||| 51113741 = m) {t : Nat} {stream : Fin 8} (h : Touch m a s) (e : execGapSplitExpiry t stream s = .next u) : Touch m a u := by
  refine act_touch (Mask.sub hm rfl) (fun x k => ?_) h e
  repeat' with_reducible first | assumption | refine gapSplit_touch (Mask.sub hm rfl) ?_ | refine Touch.ite ?_ ?_ | split | dsimp only

theorem execCtrlRead_touch (hm : m ||| 53211037 = m) {t : Nat} {port : Fin 2} (h : Touch m a s) (e : execCtrlRead t port s = .next u) : Touch m a u := by
  refine act_touch (Mask.sub hm rfl) (fun x k => ?_) h e
  repeat' with_reducible first | assumption | refine ctrlServe_touch (Mask.sub hm rfl) (fun _ _ _ => ?_) ?_ | refine ctrlReadReq_touch (Mask.sub hm rfl) ?_ | refine Touch.ite ?_ ?_ | split | dsimp only

theorem execCtrlWrite_touch (hm : m ||| 67108829 = m) {t : Nat} {port : Fin 2} (h : Touch m a s) (e : execCtrlWrite t port s = .next u) : Touch m a u := by
  refine act_touch (Mask.sub hm rfl) (fun x k => ?_) h e
  repeat' with_reducible first | assumption | refine ctrlServe_touch (Mask.sub hm rfl) (fun _ _ _ => ?_) ?_ | refine ctrlWriteReq_touch (Mask.sub hm rfl) ?_ | refine Touch.ite ?_ ?_ | split | dsimp only

theorem execCtrlUnknownOp_touch (hm : m ||| 51113741 = m) {t : Nat} {port : Fin 2} (h : Touch m a s) (e : execCtrlUnknownOp t port s = .next u) : Touch m a u := by
  refine act_touch (Mask.sub hm rfl) (fun x k => ?_) h e
  repeat' with_reducible first | assumption | refine ctrlServe_touch (Mask.sub hm rfl) (fun _ _ _ => ?_) ?_ | refine Touch.ite ?_ ?_ | split | dsimp only

theorem execTxSleepEnter_touch (hm : m ||| 59502349 = m) {t : Nat} {lane : Fin 16} (h : Touch m a s) (e : execTxSleepEnter t lane s = .next u) : Touch m a u := by
  refine act_touch (Mask.sub hm rfl) (fun x k => ?_) h e
  repeat' with_reducible first | assumption | refine sleepEnter_touch (Mask.sub hm rfl) ?_ | refine Touch.ite ?_ ?_ | split | dsimp only

theorem execTxWake_touch (hm : m ||| 51113741 = m) {t : Nat} {lane : Fin 16} (h : Touch m a s) (e : execTxWake t lane s = .next u) : Touch m a u := by
  refine act_touch (Mask.sub hm rfl) (fun x k => ?_) h e
  repeat' with_reducible first | assumption | refine txWake_touch (Mask.sub hm rfl) ?_ | refine Touch.ite ?_ ?_ | split | dsimp only

theorem execWakeResume_touch (hm : m ||| 51113741 = m) {t : Nat} {lane : Fin 16} (h : Touch m a s) (e : execWakeResume t lane s = .next u) : Touch m a u := by
  refine act_touch (Mask.sub hm rfl) (fun x k => ?_) h e
  repeat' with_reducible first | assumption | refine wakeResume_touch (Mask.sub hm rfl) ?_ | refine Touch.ite ?_ ?_ | split | dsimp only

theorem execPrbsBitsCapture_touch (hm : m ||| 51113741 = m) {t : Nat} {_req : Nat} {lane : Fin 16} (h : Touch m a s) (e : execPrbsBitsCapture t _req lane s = .next u) : Touch m a u := by
  refine act_touch (Mask.sub hm rfl) (fun x k => ?_) h e
  repeat' with_reducible first | assumption | refine prbsCapture_touch (Mask.sub hm rfl) ?_ | refine Touch.ite ?_ ?_ | split | dsimp only

theorem execChkClear_touch (hm : m ||| 67108829 = m) {t req : Nat} {lane : Fin 16} (h : Touch m a s) (e : execChkClear t req lane s = .next u) : Touch m a u := by
  refine act_touch (Mask.sub hm rfl) (fun x k => ?_) h e
  repeat' with_reducible first | assumption | refine busField_touch (Mask.sub hm rfl) ?_ | refine Touch.ite ?_ ?_ | split | dsimp only

theorem execInjBit_touch (hm : m ||| 67108829 = m) {t req : Nat} {lane : Fin 16} (h : Touch m a s) (e : execInjBit t req lane s = .next u) : Touch m a u := by
  refine act_touch (Mask.sub hm rfl) (fun x k => ?_) h e
  repeat' with_reducible first | assumption | refine busField_touch (Mask.sub hm rfl) ?_ | refine Touch.ite ?_ ?_ | split | dsimp only

theorem execInjBurst_touch (hm : m ||| 67108829 = m) {t req : Nat} {lane : Fin 16} (h : Touch m a s) (e : execInjBurst t req lane s = .next u) : Touch m a u := by
  refine act_touch (Mask.sub hm rfl) (fun x k => ?_) h e
  repeat' with_reducible first | assumption | refine busField_touch (Mask.sub hm rfl) ?_ | refine Touch.ite ?_ ?_ | split | dsimp only

theorem execInjCrc_touch (hm : m ||| 67108829 = m) {t req : Nat} {lane : Fin 16} (h : Touch m a s) (e : execInjCrc t req lane s = .next u) : Touch m a u := by
  refine act_touch (Mask.sub hm rfl) (fun x k => ?_) h e
  repeat' with_reducible first | assumption | refine busField_touch (Mask.sub hm rfl) ?_ | refine Touch.ite ?_ ?_ | split | dsimp only

theorem execBeatSend_touch (hm : m ||| 51113741 = m) {t : Nat} (h : Touch m a s) (e : execBeatSend t s = .next u) : Touch m a u := by
  refine act_touch (Mask.sub hm rfl) (fun x k => ?_) h e
  repeat' with_reducible first | assumption | refine beatSend_touch (Mask.sub hm rfl) ?_ | refine Touch.ite ?_ ?_ | split | dsimp only

theorem execHealthCheck_touch (hm : m ||| 51113741 = m) {t : Nat} {supplies cores firing : Bool} (h : Touch m a s) (e : execHealthCheck t supplies cores firing s = .next u) : Touch m a u := by
  refine act_touch (Mask.sub hm rfl) (fun x k => ?_) h e
  repeat' with_reducible first | assumption | refine healthCheck_touch (Mask.sub hm rfl) ?_ | refine Touch.ite ?_ ?_ | split | dsimp only

theorem execBeatReceive_touch (hm : m ||| 51113741 = m) {t : Nat} {lane : Fin 4} {info : BitVec 8} {_time : Nat} (h : Touch m a s) (e : execBeatReceive t lane info _time s = .next u) : Touch m a u := by
  refine act_touch (Mask.sub hm rfl) (fun x k => ?_) h e
  repeat' with_reducible first | assumption | refine beatReceive_touch (Mask.sub hm rfl) ?_ | refine Touch.ite ?_ ?_ | split | dsimp only

theorem execHbInPulse_touch (hm : m ||| 51113741 = m) {t : Nat} (h : Touch m a s) (e : execHbInPulse t s = .next u) : Touch m a u := by
  refine act_touch (Mask.sub hm rfl) (fun x k => ?_) h e
  repeat' with_reducible first | assumption | refine beatPulse_touch (Mask.sub hm rfl) ?_ | refine Touch.ite ?_ ?_ | split | dsimp only

theorem execPathLost_touch (hm : m ||| 51113741 = m) {t : Nat} {path : Fin 2} (h : Touch m a s) (e : execPathLost t path s = .next u) : Touch m a u := by
  refine act_touch (Mask.sub hm rfl) (fun x k => ?_) h e
  repeat' with_reducible first | assumption | refine pathLost_touch (Mask.sub hm rfl) ?_ | refine Touch.ite ?_ ?_ | split | dsimp only

theorem execOwnKeeperLapse_touch (hm : m ||| 51113741 = m) {t : Nat} (h : Touch m a s) (e : execOwnKeeperLapse t s = .next u) : Touch m a u := by
  refine actAny_touch (Mask.sub hm rfl) (fun x k => ?_) h e
  repeat' with_reducible first | assumption | refine keeperLapse_touch (Mask.sub hm rfl) ?_ | refine Touch.ite ?_ ?_ | split | dsimp only

theorem execOwnClaim_touch (hm : m ||| 51117837 = m) {t : Nat} {other : Bool} (h : Touch m a s) (e : execOwnClaim t other s = .next u) : Touch m a u := by
  refine act_touch (Mask.sub hm rfl) (fun x k => ?_) h e
  repeat' with_reducible first | assumption | refine ownClaim_touch (Mask.sub hm rfl) ?_ | refine Touch.ite ?_ ?_ | split | dsimp only

theorem execOwnRelease_touch (hm : m ||| 67108829 = m) {t req : Nat} (h : Touch m a s) (e : execOwnRelease t req s = .next u) : Touch m a u := by
  refine act_touch (Mask.sub hm rfl) (fun x k => ?_) h e
  repeat' with_reducible first | assumption | refine busField_touch (Mask.sub hm rfl) ?_ | refine Touch.ite ?_ ?_ | split | dsimp only

theorem execIdentityReceive_touch (hm : m ||| 51113741 = m) {t : Nat} {id : Identity} (h : Touch m a s) (e : execIdentityReceive t id s = .next u) : Touch m a u := by
  refine act_touch (Mask.sub hm rfl) (fun x k => ?_) h e
  repeat' with_reducible first | assumption | refine identityReceive_touch (Mask.sub hm rfl) ?_ | refine Touch.ite ?_ ?_ | split | dsimp only

theorem execTofsUpdate_touch (hm : m ||| 51113741 = m) {t : Nat} {stamps : BeatStamps} (h : Touch m a s) (e : execTofsUpdate t stamps s = .next u) : Touch m a u := by
  refine act_touch (Mask.sub hm rfl) (fun x k => ?_) h e
  repeat' with_reducible first | assumption | refine tofsUpdate_touch (Mask.sub hm rfl) ?_ | refine Touch.ite ?_ ?_ | split | dsimp only

theorem execShadowSchedule_touch (hm : m ||| 51113741 = m) {t : Nat} {notice : ShadowNotice} (h : Touch m a s) (e : execShadowSchedule t notice s = .next u) : Touch m a u := by
  refine act_touch (Mask.sub hm rfl) (fun x k => ?_) h e
  repeat' with_reducible first | assumption | refine shadowNotice_touch (Mask.sub hm rfl) ?_ | refine Touch.ite ?_ ?_ | split | dsimp only

theorem execMirroredWrite_touch (hm : m ||| 67108829 = m) {t addr size val : Nat} (h : Touch m a s) (e : execMirroredWrite t addr size val s = .next u) : Touch m a u := by
  refine act_touch (Mask.sub hm rfl) (fun x k => ?_) h e
  repeat' with_reducible first | assumption | refine mirroredWrite_touch (Mask.sub hm rfl) ?_ | refine Touch.ite ?_ ?_ | split | dsimp only

theorem execAlignStart_touch (hm : m ||| 51113741 = m) {t : Nat} (h : Touch m a s) (e : execAlignStart t s = .next u) : Touch m a u := by
  refine act_touch (Mask.sub hm rfl) (fun x k => ?_) h e
  repeat' with_reducible first | assumption | refine alignStart_touch (Mask.sub hm rfl) ?_ | refine Touch.ite ?_ ?_ | split | dsimp only

theorem execEpochReceive_touch (hm : m ||| 67108829 = m) {t epoch len crc : Nat} {content : List Byte} (h : Touch m a s) (e : execEpochReceive t epoch len crc content s = .next u) : Touch m a u := by
  refine act_touch (Mask.sub hm rfl) (fun x k => ?_) h e
  repeat' with_reducible first | assumption | refine epochReceive_touch (Mask.sub hm rfl) ?_ | refine Touch.ite ?_ ?_ | split | dsimp only

theorem execDqsTrack_touch (hm : m ||| 51113741 = m) {t : Nat} {byteLane : Nat} {drift : Int} (h : Touch m a s) (e : execDqsTrack t byteLane drift s = .next u) : Touch m a u := by
  refine act_touch (Mask.sub hm rfl) (fun x k => ?_) h e
  repeat' with_reducible first | assumption | refine dqsTrack_touch (Mask.sub hm rfl) ?_ | refine Touch.ite ?_ ?_ | split | dsimp only

theorem execDramAccess_touch (hm : m ||| 67108829 = m) {t req addr size : Nat} {write : Bool} {val : Nat} {linkErr : Fin 3} (h : Touch m a s) (e : execDramAccess t req addr size write val linkErr s = .next u) : Touch m a u := by
  refine act_touch (Mask.sub hm rfl) (fun x k => ?_) h e
  repeat' with_reducible first | assumption | refine dramAccess_touch (Mask.sub hm rfl) ?_ | refine Touch.ite ?_ ?_ | split | dsimp only

theorem execTollHoldEnd_touch (hm : m ||| 51113741 = m) {t : Nat} {req : Nat} {bank : Nat} (h : Touch m a s) (e : execTollHoldEnd t req bank s = .next u) : Touch m a u := by
  refine act_touch (Mask.sub hm rfl) (fun x k => ?_) h e
  repeat' with_reducible first | assumption | refine tollHoldEnd_touch (Mask.sub hm rfl) ?_ | refine Touch.ite ?_ ?_ | split | dsimp only

theorem execSelfRefreshEnter_touch (hm : m ||| 51113741 = m) {t : Nat} {port : Fin 4} (h : Touch m a s) (e : execSelfRefreshEnter t port s = .next u) : Touch m a u := by
  refine act_touch (Mask.sub hm rfl) (fun x k => ?_) h e
  repeat' with_reducible first | assumption | refine selfRefreshEnter_touch (Mask.sub hm rfl) ?_ | refine Touch.ite ?_ ?_ | split | dsimp only

theorem execSelfRefreshExit_touch (hm : m ||| 51113741 = m) {t : Nat} {port : Fin 4} (h : Touch m a s) (e : execSelfRefreshExit t port s = .next u) : Touch m a u := by
  refine act_touch (Mask.sub hm rfl) (fun x k => ?_) h e
  repeat' with_reducible first | assumption | refine selfRefreshExit_touch (Mask.sub hm rfl) ?_ | refine Touch.ite ?_ ?_ | split | dsimp only

theorem execReplayIndexWrite_touch (hm : m ||| 51113741 = m) {t : Nat} (h : Touch m a s) (e : execReplayIndexWrite t s = .next u) : Touch m a u := by
  refine act_touch (Mask.sub hm rfl) (fun x k => ?_) h e
  repeat' with_reducible first | assumption | refine replayIndex_touch (Mask.sub hm rfl) ?_ | refine Touch.ite ?_ ?_ | split | dsimp only

theorem execReplayStart_touch (hm : m ||| 67108829 = m) {t req : Nat} (h : Touch m a s) (e : execReplayStart t req s = .next u) : Touch m a u := by
  refine act_touch (Mask.sub hm rfl) (fun x k => ?_) h e
  repeat' with_reducible first | assumption | refine busField_touch (Mask.sub hm rfl) ?_ | refine Touch.ite ?_ ?_ | split | dsimp only

theorem execReplayAbort_touch (hm : m ||| 67108829 = m) {t req : Nat} (h : Touch m a s) (e : execReplayAbort t req s = .next u) : Touch m a u := by
  refine act_touch (Mask.sub hm rfl) (fun x k => ?_) h e
  repeat' with_reducible first | assumption | refine busField_touch (Mask.sub hm rfl) ?_ | refine Touch.ite ?_ ?_ | split | dsimp only

theorem execReplaySend_touch (hm : m ||| 51113741 = m) {t : Nat} (h : Touch m a s) (e : execReplaySend t s = .next u) : Touch m a u := by
  refine act_touch (Mask.sub hm rfl) (fun x k => ?_) h e
  repeat' with_reducible first | assumption | refine replaySend_touch (Mask.sub hm rfl) ?_ | refine Touch.ite ?_ ?_ | split | dsimp only

theorem execCaptureArm_touch (hm : m ||| 67108829 = m) {t req : Nat} {setup : Fin 16} (h : Touch m a s) (e : execCaptureArm t req setup s = .next u) : Touch m a u := by
  refine act_touch (Mask.sub hm rfl) (fun x k => ?_) h e
  repeat' with_reducible first | assumption | refine busWrite_touch (Mask.sub hm rfl) ?_ | refine Touch.ite ?_ ?_ | split | dsimp only

theorem execCaptureStore_touch (hm : m ||| 52424461 = m) {t : Nat} {slot : Fin 16} (h : Touch m a s) (e : execCaptureStore t slot s = .next u) : Touch m a u := by
  refine act_touch (Mask.sub hm rfl) (fun x k => ?_) h e
  repeat' with_reducible first | assumption | refine captureStore_touch (Mask.sub hm rfl) ?_ | refine Touch.ite ?_ ?_ | split | dsimp only

theorem execCaptureTimeoutExpiry_touch (hm : m ||| 52424461 = m) {t : Nat} {cond : Fin 4} (h : Touch m a s) (e : execCaptureTimeoutExpiry t cond s = .next u) : Touch m a u := by
  refine act_touch (Mask.sub hm rfl) (fun x k => ?_) h e
  repeat' with_reducible first | assumption | refine captureTimeout_touch (Mask.sub hm rfl) ?_ | refine Touch.ite ?_ ?_ | split | dsimp only

theorem execCaptureAvgIntervalEnd_touch (hm : m ||| 52424461 = m) {t : Nat} {slot : Fin 16} (h : Touch m a s) (e : execCaptureAvgIntervalEnd t slot s = .next u) : Touch m a u := by
  refine act_touch (Mask.sub hm rfl) (fun x k => ?_) h e
  repeat' with_reducible first | assumption | refine captureAvgEnd_touch (Mask.sub hm rfl) ?_ | refine Touch.ite ?_ ?_ | split | dsimp only

theorem execCaptureTriggerReport_touch (hm : m ||| 52424461 = m) {t : Nat} (h : Touch m a s) (e : execCaptureTriggerReport t s = .next u) : Touch m a u := by
  refine act_touch (Mask.sub hm rfl) (fun x k => ?_) h e
  repeat' with_reducible first | assumption | refine capTrigger_touch (Mask.sub hm rfl) ?_ | refine Touch.ite ?_ ?_ | split | dsimp only

theorem execCapForce_touch (hm : m ||| 67108829 = m) {t req : Nat} (h : Touch m a s) (e : execCapForce t req s = .next u) : Touch m a u := by
  refine act_touch (Mask.sub hm rfl) (fun x k => ?_) h e
  repeat' with_reducible first | assumption | refine busField_touch (Mask.sub hm rfl) ?_ | refine Touch.ite ?_ ?_ | split | dsimp only

theorem execXtrigReceive_touch (hm : m ||| 52162317 = m) {t : Nat} {_setup _mask _cause time : Nat} (h : Touch m a s) (e : execXtrigReceive t _setup _mask _cause time s = .next u) : Touch m a u := by
  refine act_touch (Mask.sub hm rfl) (fun x k => ?_) h e
  repeat' with_reducible first | assumption | refine State.setCap_touch (Mask.sub hm rfl) ?_ | refine Touch.ite ?_ ?_ | split | dsimp only

theorem execCapStop_touch (hm : m ||| 67108829 = m) {t req : Nat} (h : Touch m a s) (e : execCapStop t req s = .next u) : Touch m a u := by
  refine act_touch (Mask.sub hm rfl) (fun x k => ?_) h e
  repeat' with_reducible first | assumption | refine busField_touch (Mask.sub hm rfl) ?_ | refine Touch.ite ?_ ?_ | split | dsimp only

theorem execReadout_touch (hm : m ||| 67108829 = m) {t req : Nat} (h : Touch m a s) (e : execReadout t req s = .next u) : Touch m a u := by
  refine act_touch (Mask.sub hm rfl) (fun x k => ?_) h e
  repeat' with_reducible first | assumption | refine busField_touch (Mask.sub hm rfl) ?_ | refine Touch.ite ?_ ?_ | split | dsimp only

theorem execLoopConversion_touch (hm : m ||| 52424461 = m) {t : Nat} {n : Fin 8} {code : Fin 4096} (h : Touch m a s) (e : execLoopConversion t n code s = .next u) : Touch m a u := by
  refine act_touch (Mask.sub hm rfl) (fun x k => ?_) h e
  repeat' with_reducible first | assumption | refine loopConversion_touch (Mask.sub hm rfl) ?_ | refine Touch.ite ?_ ?_ | split | dsimp only

theorem execSupplyConversion_touch (hm : m ||| 54259469 = m) {t : Nat} {k : Fin 8} {code : Fin 4096} (h : Touch m a s) (e : execSupplyConversion t k code s = .next u) : Touch m a u := by
  refine act_touch (Mask.sub hm rfl) (fun x k => ?_) h e
  repeat' with_reducible first | assumption | refine supplyConversion_touch (Mask.sub hm rfl) ?_ | refine Touch.ite ?_ ?_ | split | dsimp only

theorem execSeqEntryRun_touch (hm : m ||| 54259469 = m) {t : Nat} {codes : List Nat} (h : Touch m a s) (e : execSeqEntryRun t codes s = .next u) : Touch m a u := by
  refine act_touch (Mask.sub hm rfl) (fun x k => ?_) h e
  repeat' with_reducible first | assumption | refine seqEntry_touch (Mask.sub hm rfl) ?_ | refine Touch.ite ?_ ?_ | split | dsimp only

theorem execSeqStart_touch (hm : m ||| 67108829 = m) {t req : Nat} (h : Touch m a s) (e : execSeqStart t req s = .next u) : Touch m a u := by
  refine act_touch (Mask.sub hm rfl) (fun x k => ?_) h e
  repeat' with_reducible first | assumption | refine busField_touch (Mask.sub hm rfl) ?_ | refine Touch.ite ?_ ?_ | split | dsimp only

theorem execRqPop_touch (hm : m ||| 53211037 = m) {t req : Nat} (h : Touch m a s) (e : execRqPop t req s = .next u) : Touch m a u := by
  refine act_touch (Mask.sub hm rfl) (fun x k => ?_) h e
  repeat' with_reducible first | assumption | refine busRead_touch (Mask.sub hm rfl) ?_ | refine Touch.ite ?_ ?_ | split | dsimp only

theorem execSpSample_touch (hm : m ||| 54259485 = m) {t : Nat} {n : Fin 8} {vs vf : List Int} {comply : Bool} (h : Touch m a s) (e : execSpSample t n vs vf comply s = .next u) : Touch m a u := by
  refine act_touch (Mask.sub hm rfl) (fun x k => ?_) h e
  repeat' with_reducible first | assumption | refine spSample_touch (Mask.sub hm rfl) ?_ | refine Touch.ite ?_ ?_ | split | dsimp only

theorem execPortEnable_touch (hm : m ||| 67108829 = m) {t req : Nat} {n : Fin 8} (h : Touch m a s) (e : execPortEnable t req n s = .next u) : Touch m a u := by
  refine act_touch (Mask.sub hm rfl) (fun x k => ?_) h e
  repeat' with_reducible first | assumption | refine busField_touch (Mask.sub hm rfl) ?_ | refine Touch.ite ?_ ?_ | split | dsimp only

theorem execCurveExpand_touch (hm : m ||| 67108829 = m) {t req : Nat} {n curve : Fin 8} (h : Touch m a s) (e : execCurveExpand t req n curve s = .next u) : Touch m a u := by
  refine act_touch (Mask.sub hm rfl) (fun x k => ?_) h e
  repeat' with_reducible first | assumption | refine busField_touch (Mask.sub hm rfl) ?_ | refine Touch.ite ?_ ?_ | split | dsimp only

theorem execCurveExpandDone_touch (hm : m ||| 53210893 = m) {t : Nat} {n : Fin 8} (h : Touch m a s) (e : execCurveExpandDone t n s = .next u) : Touch m a u := by
  refine act_touch (Mask.sub hm rfl) (fun x k => ?_) h e
  repeat' with_reducible first | assumption | refine curveExpandDone_touch (Mask.sub hm rfl) ?_ | refine Touch.ite ?_ ?_ | split | dsimp only

theorem execSensorConversion_touch (hm : m ||| 65793821 = m) {t : Nat} {readings : List (Nat × Nat × Int)} (h : Touch m a s) (e : execSensorConversion t readings s = .next u) : Touch m a u := by
  refine actAny_touch (Mask.sub hm rfl) (fun x k => ?_) h e
  repeat' with_reducible first | assumption | refine sensorConversion_touch (Mask.sub hm rfl) ?_ | refine Touch.ite ?_ ?_ | split | dsimp only

theorem execThermalLevelChange_touch (hm : m ||| 63696669 = m) {t : Nat} (h : Touch m a s) (e : execThermalLevelChange t s = .next u) : Touch m a u := by
  refine act_touch (Mask.sub hm rfl) (fun x k => ?_) h e
  repeat' with_reducible first | assumption | refine thermalLevel_touch (Mask.sub hm rfl) ?_ | refine Touch.ite ?_ ?_ | split | dsimp only

theorem execOrderlyStopRecords_touch (hm : m ||| 63696669 = m) {t : Nat} (h : Touch m a s) (e : execOrderlyStopRecords t s = .next u) : Touch m a u := by
  refine act_touch (Mask.sub hm rfl) (fun x k => ?_) h e
  repeat' with_reducible first | assumption | refine orderlyRecords_touch (Mask.sub hm rfl) ?_ | refine Touch.ite ?_ ?_ | split | dsimp only

theorem execThermalRestart_touch (hm : m ||| 67108829 = m) {t : Nat} (h : Touch m a s) (e : execThermalRestart t s = .next u) : Touch m a u := by
  refine actAny_touch (Mask.sub hm rfl) (fun x k => ?_) h e
  repeat' with_reducible first | assumption | refine thermalRestart_touch (Mask.sub hm rfl) ?_ | refine Touch.ite ?_ ?_ | split | dsimp only

theorem execRefOpIssue_touch (hm : m ||| 55308045 = m) {t : Nat} {head : Fin 2} (h : Touch m a s) (e : execRefOpIssue t head s = .next u) : Touch m a u := by
  refine act_touch (Mask.sub hm rfl) (fun x k => ?_) h e
  repeat' with_reducible first | assumption | refine refIssue_touch (Mask.sub hm rfl) ?_ | refine Touch.ite ?_ ?_ | split | dsimp only

theorem execCalGroup_touch (hm : m ||| 55308045 = m) {t : Nat} {die group : Nat} {results : List (Nat × Nat × Int)} (h : Touch m a s) (e : execCalGroup t die group results s = .next u) : Touch m a u := by
  refine act_touch (Mask.sub hm rfl) (fun x k => ?_) h e
  repeat' with_reducible first | assumption | refine calGroup_touch (Mask.sub hm rfl) ?_ | refine Touch.ite ?_ ?_ | split | dsimp only

theorem execCalNow_touch (hm : m ||| 67108829 = m) {t req : Nat} (h : Touch m a s) (e : execCalNow t req s = .next u) : Touch m a u := by
  refine act_touch (Mask.sub hm rfl) (fun x k => ?_) h e
  repeat' with_reducible first | assumption | refine busField_touch (Mask.sub hm rfl) ?_ | refine Touch.ite ?_ ?_ | split | dsimp only

theorem execCalUrgent_touch (hm : m ||| 51113741 = m) {t : Nat} {die : Nat} (h : Touch m a s) (e : execCalUrgent t die s = .next u) : Touch m a u := by
  refine act_touch (Mask.sub hm rfl) (fun x k => ?_) h e
  repeat' with_reducible first | assumption | refine calUrgent_touch (Mask.sub hm rfl) ?_ | refine Touch.ite ?_ ?_ | split | dsimp only

theorem execNvRecordWrite_touch (hm : m ||| 59502349 = m) {t : Nat} {rec : NvRecord} (h : Touch m a s) (e : execNvRecordWrite t rec s = .next u) : Touch m a u := by
  refine act_touch (Mask.sub hm rfl) (fun x k => ?_) h e
  repeat' with_reducible first | assumption | refine nvWrite_touch (Mask.sub hm rfl) ?_ | refine Touch.ite ?_ ?_ | split | dsimp only

theorem execAttGo_touch (hm : m ||| 67108829 = m) {t req : Nat} (h : Touch m a s) (e : execAttGo t req s = .next u) : Touch m a u := by
  refine act_touch (Mask.sub hm rfl) (fun x k => ?_) h e
  repeat' with_reducible first | assumption | refine busField_touch (Mask.sub hm rfl) ?_ | refine Touch.ite ?_ ?_ | split | dsimp only

theorem execAttDone_touch (hm : m ||| 59502349 = m) {t : Nat} (h : Touch m a s) (e : execAttDone t s = .next u) : Touch m a u := by
  refine act_touch (Mask.sub hm rfl) (fun x k => ?_) h e
  repeat' with_reducible first | assumption | refine attDone_touch (Mask.sub hm rfl) ?_ | refine Touch.ite ?_ ?_ | split | dsimp only

theorem execAuthGo_touch (hm : m ||| 67108829 = m) {t req : Nat} (h : Touch m a s) (e : execAuthGo t req s = .next u) : Touch m a u := by
  refine act_touch (Mask.sub hm rfl) (fun x k => ?_) h e
  repeat' with_reducible first | assumption | refine busField_touch (Mask.sub hm rfl) ?_ | refine Touch.ite ?_ ?_ | split | dsimp only

theorem execSessEnd_touch (hm : m ||| 67108829 = m) {t req : Nat} (h : Touch m a s) (e : execSessEnd t req s = .next u) : Touch m a u := by
  refine act_touch (Mask.sub hm rfl) (fun x k => ?_) h e
  repeat' with_reducible first | assumption | refine busField_touch (Mask.sub hm rfl) ?_ | refine Touch.ite ?_ ?_ | split | dsimp only

theorem execLedgGo_touch (hm : m ||| 67108829 = m) {t req : Nat} (h : Touch m a s) (e : execLedgGo t req s = .next u) : Touch m a u := by
  refine act_touch (Mask.sub hm rfl) (fun x k => ?_) h e
  repeat' with_reducible first | assumption | refine busField_touch (Mask.sub hm rfl) ?_ | refine Touch.ite ?_ ?_ | split | dsimp only

theorem execLedgerChangeDone_touch (hm : m ||| 59502349 = m) {t : Nat} (h : Touch m a s) (e : execLedgerChangeDone t s = .next u) : Touch m a u := by
  refine act_touch (Mask.sub hm rfl) (fun x k => ?_) h e
  repeat' with_reducible first | assumption | refine ledgerDone_touch (Mask.sub hm rfl) ?_ | refine Touch.ite ?_ ?_ | split | dsimp only

theorem execPowerOnReset_touch (hm : m ||| 51113741 = m) {release : PorRelease} (h : Touch m a s) (e : execPowerOnReset release s = .next u) : Touch m a u := by
  refine actAny_touch (Mask.sub hm rfl) (fun x k => ?_) h e
  repeat' with_reducible first | assumption | refine powerOn_touch (Mask.sub hm rfl) ?_ | refine Touch.ite ?_ ?_ | split | dsimp only

theorem execUndervoltageTrip_touch (hm : m ||| 67108829 = m) {t : Nat} {_supply : Fin 4} (h : Touch m a s) (e : execUndervoltageTrip t _supply s = .next u) : Touch m a u := by
  refine actAny_touch (Mask.sub hm rfl) (fun x k => ?_) h e
  repeat' with_reducible first | assumption | refine undervoltage_touch (Mask.sub hm rfl) ?_ | refine Touch.ite ?_ ?_ | split | dsimp only

theorem execPinReset_touch (hm : m ||| 67108829 = m) {t : Nat} (h : Touch m a s) (e : execPinReset t s = .next u) : Touch m a u := by
  refine actAny_touch (Mask.sub hm rfl) (fun x k => ?_) h e
  repeat' with_reducible first | assumption | refine pinReset_touch (Mask.sub hm rfl) ?_ | refine Touch.ite ?_ ?_ | split | dsimp only

theorem execNrstRelease_touch (hm : m ||| 51113741 = m) {t : Nat} (h : Touch m a s) (e : execNrstRelease t s = .next u) : Touch m a u := by
  refine actAny_touch (Mask.sub hm rfl) (fun x k => ?_) h e
  repeat' with_reducible first | assumption | refine nrstRise_touch (Mask.sub hm rfl) ?_ | refine Touch.ite ?_ ?_ | split | dsimp only

theorem execNrstStuck_touch (hm : m ||| 51113741 = m) {t : Nat} (h : Touch m a s) (e : execNrstStuck t s = .next u) : Touch m a u := by
  refine actAny_touch (Mask.sub hm rfl) (fun x k => ?_) h e
  repeat' with_reducible first | assumption | refine nrstStuck_touch (Mask.sub hm rfl) ?_ | refine Touch.ite ?_ ?_ | split | dsimp only

theorem execNrstStuckEnd_touch (hm : m ||| 51113741 = m) {t : Nat} (h : Touch m a s) (e : execNrstStuckEnd t s = .next u) : Touch m a u := by
  refine actAny_touch (Mask.sub hm rfl) (fun x k => ?_) h e
  repeat' with_reducible first | assumption | refine nrstStuckEnd_touch (Mask.sub hm rfl) ?_ | refine Touch.ite ?_ ?_ | split | dsimp only

theorem execStartupStage_touch (hm : m ||| 63700749 = m) {t : Nat} {work : StageWork} (h : Touch m a s) (e : execStartupStage t work s = .next u) : Touch m a u := by
  refine act_touch (Mask.sub hm rfl) (fun x k => ?_) h e
  repeat' with_reducible first | assumption | refine startupStage_touch (Mask.sub hm rfl) ?_ | refine Touch.ite ?_ ?_ | split | dsimp only

theorem execErrorAutoAck_touch (hm : m ||| 51113741 = m) {t : Nat} (h : Touch m a s) (e : execErrorAutoAck t s = .next u) : Touch m a u := by
  refine act_touch (Mask.sub hm rfl) (fun x k => ?_) h e
  repeat' with_reducible first | assumption | refine autoAck_touch (Mask.sub hm rfl) ?_ | refine Touch.ite ?_ ?_ | split | dsimp only

theorem execFatalTimeout_touch (hm : m ||| 51113741 = m) {t : Nat} (h : Touch m a s) (e : execFatalTimeout t s = .next u) : Touch m a u := by
  refine act_touch (Mask.sub hm rfl) (fun x k => ?_) h e
  repeat' with_reducible first | assumption | refine fatalTimeout_touch (Mask.sub hm rfl) ?_ | refine Touch.ite ?_ ?_ | split | dsimp only

theorem execErrPop_touch (hm : m ||| 67108829 = m) {t req : Nat} (h : Touch m a s) (e : execErrPop t req s = .next u) : Touch m a u := by
  refine act_touch (Mask.sub hm rfl) (fun x k => ?_) h e
  repeat' with_reducible first | assumption | refine busField_touch (Mask.sub hm rfl) ?_ | refine Touch.ite ?_ ?_ | split | dsimp only

theorem execRecover_touch (hm : m ||| 67108829 = m) {t req : Nat} (h : Touch m a s) (e : execRecover t req s = .next u) : Touch m a u := by
  refine act_touch (Mask.sub hm rfl) (fun x k => ?_) h e
  repeat' with_reducible first | assumption | refine busField_touch (Mask.sub hm rfl) ?_ | refine Touch.ite ?_ ?_ | split | dsimp only

theorem execTrimStepNoFormat_touch (hm : m ||| 55308045 = m) {t : Nat} {at_ : HeadBounds} (h : Touch m a s) (e : execTrimStepNoFormat t at_ s = .next u) : Touch m a u := by
  refine act_touch (Mask.sub hm rfl) (fun x k => ?_) h e
  repeat' with_reducible first | assumption | refine idleTrims_touch (Mask.sub hm rfl) ?_ | refine Touch.ite ?_ ?_ | split | dsimp only

theorem execFuInputEdge_touch (hm : m ||| 51113869 = m) {t : Nat} {src aux : Nat} (h : Touch m a s) (e : execFuInputEdge t src aux s = .next u) : Touch m a u := by
  refine act_touch (Mask.sub hm rfl) (fun x k => ?_) h e
  repeat' with_reducible first | assumption | refine fuEdge_touch (Mask.sub hm rfl) ?_ | refine Touch.ite ?_ ?_ | split | dsimp only

theorem execRxSignalDetect_touch (hm : m ||| 51113741 = m) {t : Nat} {lane : Fin 16} (h : Touch m a s) (e : execRxSignalDetect t lane s = .next u) : Touch m a u := by
  refine act_touch (Mask.sub hm rfl) (fun x k => ?_) h e
  repeat' with_reducible first | assumption | refine signalDetect_touch (Mask.sub hm rfl) ?_ | refine Touch.ite ?_ ?_ | split | dsimp only

theorem execRxWakeLockTimeout_touch (hm : m ||| 59502349 = m) {t : Nat} {lane : Fin 16} (h : Touch m a s) (e : execRxWakeLockTimeout t lane s = .next u) : Touch m a u := by
  refine act_touch (Mask.sub hm rfl) (fun x k => ?_) h e
  repeat' with_reducible first | assumption | refine wakeLockTimeout_touch (Mask.sub hm rfl) ?_ | refine Touch.ite ?_ ?_ | split | dsimp only

theorem execPrbsBitCheck_touch (hm : m ||| 51113741 = m) {t : Nat} {lane : Fin 16} {bit : Bool} (h : Touch m a s) (e : execPrbsBitCheck t lane bit s = .next u) : Touch m a u := by
  refine act_touch (Mask.sub hm rfl) (fun x k => ?_) h e
  repeat' with_reducible first | assumption | refine prbsCheck_touch (Mask.sub hm rfl) ?_ | refine Touch.ite ?_ ?_ | split | dsimp only

theorem execOwnLineChange_touch (hm : m ||| 51113741 = m) {t : Nat} {high : Bool} (h : Touch m a s) (e : execOwnLineChange t high s = .next u) : Touch m a u := by
  refine actAny_touch (Mask.sub hm rfl) (fun x k => ?_) h e
  repeat' with_reducible first | assumption | refine ownLine_touch (Mask.sub hm rfl) ?_ | refine Touch.ite ?_ ?_ | split | dsimp only

theorem execNvProgramDone_touch (hm : m ||| 59502349 = m) {t : Nat} (h : Touch m a s) (e : execNvProgramDone t s = .next u) : Touch m a u := by
  refine act_touch (Mask.sub hm rfl) (fun x k => ?_) h e
  repeat' with_reducible first | assumption | refine nvDone_touch (Mask.sub hm rfl) ?_ | refine Touch.ite ?_ ?_ | split | dsimp only

theorem execCalGroupStart_touch (hm : m ||| 55308045 = m) {t : Nat} {die : Nat} (h : Touch m a s) (e : execCalGroupStart t die s = .next u) : Touch m a u := by
  refine act_touch (Mask.sub hm rfl) (fun x k => ?_) h e
  repeat' with_reducible first | assumption | refine calStart_touch (Mask.sub hm rfl) ?_ | refine Touch.ite ?_ ?_ | split | dsimp only

theorem execNrstFall_touch (hm : m ||| 51113741 = m) {t : Nat} (h : Touch m a s) (e : execNrstFall t s = .next u) : Touch m a u := by
  refine actAny_touch (Mask.sub hm rfl) (fun x k => ?_) h e
  repeat' with_reducible first | assumption | refine nrstFall_touch (Mask.sub hm rfl) ?_ | refine Touch.ite ?_ ?_ | split | dsimp only


end Sys2Proof.Machine
end

