-- ==== Sys2Proof/Laws/Sram.lean ====
section
/-! SUPPORT. Which state changes leave every byte below the DRAM as it was: the SRAM windows, the trace, the repetitive
tables and the windows of the security block. `f_sram` reads: where `t` reads as `s` did below the DRAM, `f` of `t` does
too. A function that stores there has no such lemma. -/

set_option Elab.async false

namespace Sys2Proof.Machine

/-- Every byte below the DRAM reads in `t` as it reads in `s`. -/
def Sram (s t : State) : Prop := ∀ p, p < dramBase → t.byte p = s.byte p

variable {a s : State}

theorem Sram.refl : Sram s s := fun _ _ => rfl
theorem Sram.trans {t u : State} (h : Sram s t) (k : Sram t u) : Sram s u := fun p hp => (k p hp).trans (h p hp)
theorem Sram.ite {c : Prop} {i : Decidable c} {t u : State} (h : Sram a t) (k : Sram a u) : Sram a (if c then t else u) := by
  split <;> assumption
theorem Sram.pair {β : Type} {p : State × β} {t : State} {x : β} (e : p = (t, x)) (h : Sram a p.1) : Sram a t := by
  rw [e] at h; exact h
theorem Sram.pair2 {β : Type} {p : β × State} {t : State} {x : β} (e : p = (x, t)) (h : Sram a p.2) : Sram a t := by
  rw [e] at h; exact h
theorem Sram.set_now (h : Sram a s) {v} : Sram a { s with now := v } := h
theorem Sram.set_fresh (h : Sram a s) {v} : Sram a { s with fresh := v } := h
theorem Sram.set_chans (h : Sram a s) {v} : Sram a { s with chans := v } := h
theorem Sram.set_tb (h : Sram a s) {v} : Sram a { s with tb := v } := h
theorem Sram.set_ops (h : Sram a s) {v} : Sram a { s with ops := v } := h
theorem Sram.set_groups (h : Sram a s) {v} : Sram a { s with groups := v } := h
theorem Sram.set_dies (h : Sram a s) {v} : Sram a { s with dies := v } := h
theorem Sram.set_frames (h : Sram a s) {v} : Sram a { s with frames := v } := h
theorem Sram.set_pts (h : Sram a s) {v} : Sram a { s with pts := v } := h
theorem Sram.set_seqs (h : Sram a s) {v} : Sram a { s with seqs := v } := h
theorem Sram.set_trk (h : Sram a s) {v} : Sram a { s with trk := v } := h
theorem Sram.set_dram (h : Sram a s) {v} : Sram a { s with dram := v } := h
theorem Sram.set_heads (h : Sram a s) {v} : Sram a { s with heads := v } := h
theorem Sram.set_drive (h : Sram a s) {v} : Sram a { s with drive := v } := h
theorem Sram.set_motion (h : Sram a s) {v} : Sram a { s with motion := v } := h
theorem Sram.set_twin (h : Sram a s) {v} : Sram a { s with twin := v } := h
theorem Sram.set_cap (h : Sram a s) {v} : Sram a { s with cap := v } := h
theorem Sram.set_hk (h : Sram a s) {v} : Sram a { s with hk := v } := h
theorem Sram.set_therm (h : Sram a s) {v} : Sram a { s with therm := v } := h
theorem Sram.set_sec (h : Sram a s) {v} : Sram a { s with sec := v } := h
theorem Sram.set_guard (h : Sram a s) {v} : Sram a { s with guard := v } := h
theorem Sram.set_su (h : Sram a s) {v} : Sram a { s with su := v } := h
theorem State.tick_sram {t} (h : Sram a s) : Sram a (s.tick t) := h
theorem State.setReg_sram {k v} (h : Sram a s) : Sram a (s.setReg k v) := h
theorem upTo_sram {n f} (hf : ∀ k t, Sram a t → Sram a (f k t)) (h : Sram a s) : Sram a (upTo n f s) := by
  induction n with
  | zero => exact h
  | succ k ih => exact hf k _ ih
theorem forAll_sram {β : Type} {l : List β} {f} (hf : ∀ x t, Sram a t → Sram a (f x t)) (h : Sram a s) :
    Sram a (forAll l f s) := by
  induction l generalizing s with
  | nil => exact h
  | cons x r ih => exact ih (hf x _ h)
theorem when__sram {b f} (hf : ∀ t, Sram a t → Sram a (f t)) (h : Sram a s) : Sram a (when_ b f s) := by
  unfold when_; split
  · exact hf s h
  · exact h
theorem State.draw_sram (h : Sram a s) : Sram a s.draw.2 := h
theorem State.drawIf_sram {c v} (h : Sram a s) : Sram a (s.drawIf c v).2 := by
  unfold State.drawIf; split <;> exact h
theorem ringBytes_sram {base size n ofs v : Nat} (h : Sram a s) : Sram a (ringBytes base size n ofs v s) := by
  induction n generalizing ofs v s with
  | zero => exact h
  | succ n ih => exact ih (fun p hp => by rw [State.byte_setByte, if_neg (by omega)]; exact h p hp)
theorem State.store_dram_sram {b n v : Nat} (hb : dramBase ≤ b) (h : Sram a s) : Sram a (s.store b n v) := by
  induction n generalizing b v s with
  | zero => exact h
  | succ n ih => exact ih (by omega) (fun p hp => by rw [State.byte_setByte, if_neg (by omega)]; exact h p hp)
theorem keepReg_sram {old} (h : Sram a s) {k} : Sram a (keepReg old k s) := h

theorem State.put_sram {x1 : Sys2Proof.Machine.Field} {x2 : Nat} (h : Sram a s) : Sram a (State.put s x1 x2) := by
  unfold State.put
  repeat' with_reducible first | assumption | refine State.setReg_sram ?_ | refine Sram.ite ?_ ?_ | split | dsimp only

theorem State.add_sram {x1 : Sys2Proof.Machine.Field} {x2 : Nat} (h : Sram a s) : Sram a (State.add s x1 x2) := by
  unfold State.add
  repeat' with_reducible first | assumption | refine State.put_sram ?_ | refine Sram.ite ?_ ?_ | split | dsimp only

theorem State.addSat_sram {x1 : Sys2Proof.Machine.Field} {x2 : Nat} (h : Sram a s) : Sram a (State.addSat s x1 x2) := by
  unfold State.addSat
  repeat' with_reducible first | assumption | refine State.put_sram ?_ | refine Sram.ite ?_ ?_ | split | dsimp only

theorem State.bump_sram {x1 : Sys2Proof.Machine.Field} (h : Sram a s) : Sram a (State.bump s x1) := by
  unfold State.bump
  repeat' with_reducible first | assumption | refine State.add_sram ?_ | refine Sram.ite ?_ ?_ | split | dsimp only

theorem State.bumpSat_sram {x1 : Sys2Proof.Machine.Field} (h : Sram a s) : Sram a (State.bumpSat s x1) := by
  unfold State.bumpSat
  repeat' with_reducible first | assumption | refine State.addSat_sram ?_ | refine Sram.ite ?_ ?_ | split | dsimp only

theorem State.clrFlag_sram {x1 : Sys2Proof.Machine.Field} (h : Sram a s) : Sram a (State.clrFlag s x1) := by
  unfold State.clrFlag
  repeat' with_reducible first | assumption | refine State.put_sram ?_ | refine Sram.ite ?_ ?_ | split | dsimp only

theorem State.setBank_sram {x1 : Nat} {x2 : Nat} {x3 : Sys2Proof.Machine.Bank} (h : Sram a s) : Sram a (State.setBank s x1 x2 x3) := by
  unfold State.setBank
  repeat' with_reducible first | assumption | refine Sram.ite ?_ ?_ | split | dsimp only | refine Sram.set_drive ?_

theorem State.modBank_sram {x1 : Nat} {x2 : Nat} {x3 : Sys2Proof.Machine.Bank → Sys2Proof.Machine.Bank} (h : Sram a s) : Sram a (State.modBank s x1 x2 x3) := by
  unfold State.modBank
  repeat' with_reducible first | assumption | refine State.setBank_sram ?_ | refine Sram.ite ?_ ?_ | split | dsimp only

theorem State.setFrame_sram {x1 : Nat} {x2 : Nat} {x3 : Option Sys2Proof.Machine.FrameAcc} (h : Sram a s) : Sram a (State.setFrame s x1 x2 x3) := by
  unfold State.setFrame
  repeat' with_reducible first | assumption | refine Sram.ite ?_ ?_ | split | dsimp only | refine Sram.set_frames ?_

theorem State.modFrame_sram {x1 : Nat} {x2 : Nat} {x3 : Sys2Proof.Machine.FrameAcc → Sys2Proof.Machine.FrameAcc} (h : Sram a s) : Sram a (State.modFrame s x1 x2 x3) := by
  unfold State.modFrame
  repeat' with_reducible first | assumption | refine State.setFrame_sram ?_ | refine Sram.ite ?_ ?_ | split | dsimp only

theorem State.setHead_sram {x1 : Nat} {x2 : Sys2Proof.Machine.Head} (h : Sram a s) : Sram a (State.setHead s x1 x2) := by
  unfold State.setHead
  repeat' with_reducible first | assumption | refine Sram.ite ?_ ?_ | split | dsimp only | refine Sram.set_heads ?_

theorem State.modHead_sram {x1 : Nat} {x2 : Sys2Proof.Machine.Head → Sys2Proof.Machine.Head} (h : Sram a s) : Sram a (State.modHead s x1 x2) := by
  unfold State.modHead
  repeat' with_reducible first | assumption | refine State.setHead_sram ?_ | refine Sram.ite ?_ ?_ | split | dsimp only

theorem State.setLane_sram {x1 : Nat} {x2 : Sys2Proof.Machine.Lane} (h : Sram a s) : Sram a (State.setLane s x1 x2) := by
  unfold State.setLane
  repeat' with_reducible first | assumption | refine Sram.ite ?_ ?_ | split | dsimp only | refine Sram.set_trk ?_

theorem State.modLane_sram {x1 : Nat} {x2 : Sys2Proof.Machine.Lane → Sys2Proof.Machine.Lane} (h : Sram a s) : Sram a (State.modLane s x1 x2) := by
  unfold State.modLane
  repeat' with_reducible first | assumption | refine State.setLane_sram ?_ | refine Sram.ite ?_ ?_ | split | dsimp only

theorem State.setLoop_sram {x1 : Nat} {x2 : Sys2Proof.Machine.Loop} (h : Sram a s) : Sram a (State.setLoop s x1 x2) := by
  unfold State.setLoop
  repeat' with_reducible first | assumption | refine Sram.ite ?_ ?_ | split | dsimp only | refine Sram.set_motion ?_

theorem State.modLoop_sram {x1 : Nat} {x2 : Sys2Proof.Machine.Loop → Sys2Proof.Machine.Loop} (h : Sram a s) : Sram a (State.modLoop s x1 x2) := by
  unfold State.modLoop
  repeat' with_reducible first | assumption | refine State.setLoop_sram ?_ | refine Sram.ite ?_ ?_ | split | dsimp only

theorem State.putb_sram {x1 : Sys2Proof.Machine.Field} {x2 : Bool} (h : Sram a s) : Sram a (State.putb s x1 x2) := by
  unfold State.putb
  repeat' with_reducible first | assumption | refine State.put_sram ?_ | refine Sram.ite ?_ ?_ | split | dsimp only

theorem State.puti_sram {x1 : Sys2Proof.Machine.Field} {x2 : Int} (h : Sram a s) : Sram a (State.puti s x1 x2) := by
  unfold State.puti
  repeat' with_reducible first | assumption | refine State.put_sram ?_ | refine Sram.ite ?_ ?_ | split | dsimp only

theorem State.setCalDie_sram {x1 : Nat} {x2 : Sys2Proof.Machine.CalDie} (h : Sram a s) : Sram a (State.setCalDie s x1 x2) := by
  unfold State.setCalDie
  repeat' with_reducible first | assumption | refine Sram.ite ?_ ?_ | split | dsimp only | refine Sram.set_therm ?_

theorem State.setCap_sram {x1 : Sys2Proof.Machine.Capture} (h : Sram a s) : Sram a (State.setCap s x1) := by
  unfold State.setCap
  repeat' with_reducible first | assumption | refine Sram.ite ?_ ?_ | split | dsimp only | refine Sram.set_cap ?_

theorem State.setChan_sram {x1 : Nat} {x2 : Sys2Proof.Machine.Chan} (h : Sram a s) : Sram a (State.setChan s x1 x2) := by
  unfold State.setChan
  repeat' with_reducible first | assumption | refine Sram.ite ?_ ?_ | split | dsimp only | refine Sram.set_chans ?_

theorem State.setCslot_sram {x1 : Nat} {x2 : Sys2Proof.Machine.CapSlot} (h : Sram a s) : Sram a (State.setCslot s x1 x2) := by
  unfold State.setCslot
  repeat' with_reducible first | assumption | refine Sram.ite ?_ ?_ | split | dsimp only | refine Sram.set_cap ?_

theorem State.setDie_sram {x1 : Nat} {x2 : Sys2Proof.Machine.Die} (h : Sram a s) : Sram a (State.setDie s x1 x2) := by
  unfold State.setDie
  repeat' with_reducible first | assumption | refine Sram.ite ?_ ?_ | split | dsimp only | refine Sram.set_dies ?_

theorem State.setDram_sram {x1 : Sys2Proof.Machine.Mem} (h : Sram a s) : Sram a (State.setDram s x1) := by
  unfold State.setDram
  repeat' with_reducible first | assumption | refine Sram.ite ?_ ?_ | split | dsimp only | refine Sram.set_dram ?_

theorem State.setDrv_sram {x1 : Nat} {x2 : Sys2Proof.Machine.DriveHead} (h : Sram a s) : Sram a (State.setDrv s x1 x2) := by
  unfold State.setDrv
  repeat' with_reducible first | assumption | refine Sram.ite ?_ ?_ | split | dsimp only | refine Sram.set_heads ?_ | refine Sram.set_drive ?_

theorem State.setEnc_sram {x1 : Nat} {x2 : Sys2Proof.Machine.Enc} (h : Sram a s) : Sram a (State.setEnc s x1 x2) := by
  unfold State.setEnc
  repeat' with_reducible first | assumption | refine Sram.ite ?_ ?_ | split | dsimp only | refine Sram.set_motion ?_

theorem State.setFlag_sram {x1 : Sys2Proof.Machine.Field} (h : Sram a s) : Sram a (State.setFlag s x1) := by
  unfold State.setFlag
  repeat' with_reducible first | assumption | refine State.put_sram ?_ | refine Sram.ite ?_ ?_ | split | dsimp only

theorem State.setGin_sram {x1 : Nat} {x2 : Sys2Proof.Machine.Gin} (h : Sram a s) : Sram a (State.setGin s x1 x2) := by
  unfold State.setGin
  repeat' with_reducible first | assumption | refine Sram.ite ?_ ?_ | split | dsimp only | refine Sram.set_guard ?_

theorem State.setGreg_sram {x1 : Nat} {x2 : Nat} {x3 : Nat} (h : Sram a s) : Sram a (State.setGreg s x1 x2 x3) := by
  unfold State.setGreg
  repeat' with_reducible first | assumption | refine State.put_sram ?_ | refine Sram.ite ?_ ?_ | split | dsimp only

theorem State.setGregs_sram {n k : Nat} {l : List Nat} (h : Sram a s) : Sram a (s.setGregs n k l) := by
  induction l generalizing k s with
  | nil => exact h
  | cons v r ih => exact ih (State.setGreg_sram h)

theorem State.setGroup_sram {x1 : Nat} {x2 : Nat} {x3 : Sys2Proof.Machine.Group} (h : Sram a s) : Sram a (State.setGroup s x1 x2 x3) := by
  unfold State.setGroup
  repeat' with_reducible first | assumption | refine Sram.ite ?_ ?_ | split | dsimp only | refine Sram.set_groups ?_

theorem State.setStream_sram {x1 : Nat} {x2 : Sys2Proof.Machine.Stream} (h : Sram a s) : Sram a (State.setStream s x1 x2) := by
  unfold State.setStream
  repeat' with_reducible first | assumption | refine Sram.ite ?_ ?_ | split | dsimp only | refine Sram.set_trk ?_

theorem cwyParcel_sram {x0 : Nat} {x1 : Sys2Proof.Machine.Rec} (h : Sram a s) : Sram a (cwyParcel x0 x1 s) := by
  unfold cwyParcel
  repeat' with_reducible first | assumption | refine State.setStream_sram ?_ | refine Sram.ite ?_ ?_ | split | dsimp only

theorem cwySend_sram {x0 : Nat} {x1 : Sys2Proof.Machine.Rec} (h : Sram a s) : Sram a (cwySend x0 x1 s) := by
  unfold cwySend
  repeat' with_reducible first | assumption | refine cwyParcel_sram ?_ | refine forAll_sram (fun _ _ _ => ?_) ?_ | refine Sram.ite ?_ ?_ | split | dsimp only

theorem forward_sram {x0 : Nat} {x1 : Nat} {x2 : Nat} (h : Sram a s) : Sram a (forward x0 x1 x2 s) := by
  unfold forward
  repeat' with_reducible first | assumption | refine cwySend_sram ?_ | refine Sram.ite ?_ ?_ | split | dsimp only

theorem State.setNvPair_sram {x1 : Nat} {x2 : Sys2Proof.Machine.NvPair} (h : Sram a s) : Sram a (State.setNvPair s x1 x2) := by
  unfold State.setNvPair
  repeat' with_reducible first | assumption | refine Sram.ite ?_ ?_ | split | dsimp only | refine Sram.set_sec ?_

theorem State.setOp_sram {x1 : Nat} {x2 : Nat} {x3 : Option Sys2Proof.Machine.Op} (h : Sram a s) : Sram a (State.setOp s x1 x2 x3) := by
  unfold State.setOp
  repeat' with_reducible first | assumption | refine Sram.ite ?_ ?_ | split | dsimp only | refine Sram.set_ops ?_

theorem State.setPend_sram {x1 : Nat} {x2 : Nat} (h : Sram a s) : Sram a (State.setPend s x1 x2) := by
  unfold State.setPend
  repeat' with_reducible first | assumption | refine State.put_sram ?_ | refine Sram.ite ?_ ?_ | split | dsimp only

theorem State.setPolicy_sram {x1 : Nat} {x2 : Sys2Proof.Machine.PolicySt} (h : Sram a s) : Sram a (State.setPolicy s x1 x2) := by
  unfold State.setPolicy
  repeat' with_reducible first | assumption | refine Sram.ite ?_ ?_ | split | dsimp only | refine Sram.set_pts ?_

theorem State.setPort_sram {x1 : Nat} {x2 : Sys2Proof.Machine.Port} (h : Sram a s) : Sram a (State.setPort s x1 x2) := by
  unfold State.setPort
  repeat' with_reducible first | assumption | refine Sram.ite ?_ ?_ | split | dsimp only | refine Sram.set_trk ?_

theorem State.setPredicate_sram {x1 : Nat} {x2 : Nat} {x3 : Bool} (h : Sram a s) : Sram a (State.setPredicate s x1 x2 x3) := by
  unfold State.setPredicate
  repeat' with_reducible first | assumption | refine State.put_sram ?_ | refine Sram.ite ?_ ?_ | split | dsimp only

theorem State.setProof_sram {x1 : Nat} {x2 : Sys2Proof.Machine.MotionProof} (h : Sram a s) : Sram a (State.setProof s x1 x2) := by
  unfold State.setProof
  repeat' with_reducible first | assumption | refine Sram.ite ?_ ?_ | split | dsimp only | refine Sram.set_motion ?_ | refine Sram.set_guard ?_

theorem State.setSec_sram {x1 : Sys2Proof.Machine.Sec} (h : Sram a s) : Sram a (State.setSec s x1) := by
  unfold State.setSec
  repeat' with_reducible first | assumption | refine Sram.ite ?_ ?_ | split | dsimp only | refine Sram.set_sec ?_

theorem State.setSensor_sram {x1 : Nat} {x2 : Nat} {x3 : Sys2Proof.Machine.TempSensor} (h : Sram a s) : Sram a (State.setSensor s x1 x2 x3) := by
  unfold State.setSensor
  repeat' with_reducible first | assumption | refine Sram.ite ?_ ?_ | split | dsimp only | refine Sram.set_therm ?_

theorem State.setSeq_sram {x1 : Nat} {x2 : Sys2Proof.Machine.Seq} (h : Sram a s) : Sram a (State.setSeq s x1 x2) := by
  unfold State.setSeq
  repeat' with_reducible first | assumption | refine Sram.ite ?_ ?_ | split | dsimp only | refine Sram.set_seqs ?_

theorem State.setSess_sram {x1 : Nat} {x2 : Sys2Proof.Machine.Session} (h : Sram a s) : Sram a (State.setSess s x1 x2) := by
  unfold State.setSess
  repeat' with_reducible first | assumption | refine State.setSec_sram ?_ | refine Sram.ite ?_ ?_ | split | dsimp only

theorem State.setSport_sram {x1 : Nat} {x2 : Sys2Proof.Machine.SensorPort} (h : Sram a s) : Sram a (State.setSport s x1 x2) := by
  unfold State.setSport
  repeat' with_reducible first | assumption | refine Sram.ite ?_ ?_ | split | dsimp only | refine Sram.set_hk ?_

theorem State.setTwin_sram {x1 : Sys2Proof.Machine.Twin} (h : Sram a s) : Sram a (State.setTwin s x1) := by
  unfold State.setTwin
  repeat' with_reducible first | assumption | refine Sram.ite ?_ ?_ | split | dsimp only | refine Sram.set_twin ?_

theorem abandonMissed_sram {x0 : Sys2Proof.Machine.Op} (h : Sram a s) : Sram a (abandonMissed x0 s) := by
  unfold abandonMissed
  repeat' with_reducible first | assumption | refine State.bump_sram ?_ | refine State.modFrame_sram ?_ | refine Sram.ite ?_ ?_ | split | dsimp only

theorem openFirst_sram {x0 : Nat} {x1 : Nat} {x2 : Nat} {x3 : Sys2Proof.Machine.Op} (h : Sram a s) : Sram a (openFirst x0 x1 x2 x3 s) := by
  unfold openFirst
  repeat' with_reducible first | assumption | refine State.setOp_sram ?_ | refine State.bump_sram ?_ | refine Sram.ite ?_ ?_ | split | dsimp only

theorem takeWaitingN_sram {ch n : Nat} (h : Sram a s) : Sram a (takeWaitingN ch n s) := by
  induction n generalizing s with
  | zero => exact h
  | succ n ih =>
    unfold takeWaitingN
    split
    · exact ih (openFirst_sram h)
    · exact h

theorem takeWaiting_sram {x0 : Nat} (h : Sram a s) : Sram a (takeWaiting x0 s) := by
  unfold takeWaiting
  repeat' with_reducible first | assumption | refine takeWaitingN_sram ?_ | refine Sram.ite ?_ ?_ | split | dsimp only

theorem levelAt_sram {x0 : Nat} {x1 : Nat} (h : Sram a s) : Sram a (levelAt x0 x1 s) := by
  unfold levelAt
  repeat' with_reducible first | assumption | refine State.setPend_sram ?_ | refine Sram.ite ?_ ?_ | split | dsimp only

theorem levels_sram (h : Sram a s) : Sram a (levels s) := by
  unfold levels
  repeat' with_reducible first | assumption | refine levelAt_sram ?_ | refine upTo_sram (fun _ _ _ => ?_) ?_ | refine Sram.ite ?_ ?_ | split | dsimp only

theorem cqAdd_sram {x0 : Nat} {x1 : Nat × Nat × Nat × Nat} (h : Sram a s) : Sram a (cqAdd x0 x1 s) := by
  unfold cqAdd
  repeat' with_reducible first | assumption | refine levels_sram ?_ | refine State.setSeq_sram ?_ | refine Sram.ite ?_ ?_ | split | dsimp only

theorem cqProbe_sram {x0 : Sys2Proof.Machine.ProbeInfo} {x1 : Nat → Nat × Nat × Nat × Nat} (h : Sram a s) : Sram a (cqProbe x0 x1 s) := by
  unfold cqProbe
  repeat' with_reducible first | assumption | refine cqAdd_sram ?_ | refine State.setSeq_sram ?_ | refine Sram.ite ?_ ?_ | split | dsimp only

theorem releaseOp_sram {x0 : Nat} {x1 : Nat} (h : Sram a s) : Sram a (releaseOp x0 x1 s) := by
  unfold releaseOp
  repeat' with_reducible first | assumption | refine State.setGroup_sram ?_ | refine State.setOp_sram ?_ | refine Sram.ite ?_ ?_ | split | dsimp only

theorem abandonOp_sram {x0 : Nat} {x1 : Nat} (h : Sram a s) : Sram a (abandonOp x0 x1 s) := by
  unfold abandonOp
  repeat' with_reducible first | assumption | refine takeWaiting_sram ?_ | refine State.bump_sram ?_ | refine State.modFrame_sram ?_ | refine cqProbe_sram ?_ | refine State.setDie_sram ?_ | refine releaseOp_sram ?_ | refine Sram.ite ?_ ?_ | split | dsimp only

theorem abandonWhere_sram {x0 : Nat → Sys2Proof.Machine.Op → Bool} (h : Sram a s) : Sram a (abandonWhere x0 s) := by
  unfold abandonWhere
  repeat' with_reducible first | assumption | refine abandonOp_sram ?_ | refine forAll_sram (fun _ _ _ => ?_) ?_ | refine Sram.ite ?_ ?_ | split | dsimp only

theorem noticePulses_sram {x0 : Sys2Proof.Machine.Op} {x1 : Nat} {x2 : List Nat} (h : Sram a s) : Sram a (noticePulses x0 x1 x2 s) := by
  unfold noticePulses
  repeat' with_reducible first | assumption | refine cwySend_sram ?_ | refine Sram.ite ?_ ?_ | split | dsimp only

theorem queueSettled_sram {x0 : Nat} {x1 : Nat} (h : Sram a s) : Sram a (queueSettled x0 x1 s) := by
  unfold queueSettled
  repeat' with_reducible first | assumption | refine State.setDie_sram ?_ | refine State.setOp_sram ?_ | refine Sram.ite ?_ ?_ | split | dsimp only

theorem accumulationEnd_sram {x0 : Nat} {x1 : Nat} (h : Sram a s) : Sram a (accumulationEnd x0 x1 s) := by
  unfold accumulationEnd
  repeat' with_reducible first | assumption | refine takeWaiting_sram ?_ | refine noticePulses_sram ?_ | refine queueSettled_sram ?_ | refine State.setOp_sram ?_ | refine Sram.ite ?_ ?_ | split | dsimp only

theorem ackBlock_sram {x0 : Nat} (h : Sram a s) : Sram a (ackBlock x0 s).1 := by
  unfold ackBlock
  repeat' with_reducible first | assumption | refine State.modLane_sram ?_ | refine forAll_sram (fun _ _ _ => ?_) ?_ | refine Sram.ite ?_ ?_ | split | dsimp only

theorem requeue_sram {x0 : Nat} (h : Sram a s) : Sram a (requeue x0 s) := by
  unfold requeue
  repeat' with_reducible first | assumption | refine State.setLane_sram ?_ | refine State.setStream_sram ?_ | refine forAll_sram (fun _ _ _ => ?_) ?_ | refine Sram.ite ?_ ?_ | split | dsimp only

theorem raiseAt_sram {x0 : Nat} {x1 : Nat} (h : Sram a s) : Sram a (raiseAt x0 x1 s) := by
  unfold raiseAt
  repeat' with_reducible first | assumption | refine State.bumpSat_sram ?_ | refine State.setPend_sram ?_ | refine Sram.ite ?_ ?_ | split | dsimp only

theorem raiseEv_sram {x0 : Nat} (h : Sram a s) : Sram a (raiseEv x0 s) := by
  unfold raiseEv
  repeat' with_reducible first | assumption | refine raiseAt_sram ?_ | refine upTo_sram (fun _ _ _ => ?_) ?_ | refine Sram.ite ?_ ?_ | split | dsimp only

theorem enterErr_sram {x0 : Nat} {x1 : Nat} {x2 : Sys2Proof.Machine.Field} (h : Sram a s) : Sram a (enterErr x0 x1 x2 s) := by
  unfold enterErr
  repeat' with_reducible first | assumption | refine State.bumpSat_sram ?_ | refine State.setFlag_sram ?_ | refine raiseEv_sram ?_ | refine Sram.ite ?_ ?_ | split | dsimp only | refine Sram.set_su ?_

theorem portFollow_sram {x0 : Nat} (h : Sram a s) : Sram a (portFollow x0 s) := by
  unfold portFollow
  repeat' with_reducible first | assumption | refine State.putb_sram ?_ | refine Sram.ite ?_ ?_ | split | dsimp only | refine Sram.set_sec ?_

theorem laneFail_sram {x0 : Nat} (h : Sram a s) : Sram a (laneFail x0 s) := by
  unfold laneFail
  repeat' with_reducible first | assumption | refine requeue_sram ?_ | refine State.setFlag_sram ?_ | refine State.clrFlag_sram ?_ | refine State.put_sram ?_ | refine State.modLane_sram ?_ | refine enterErr_sram ?_ | refine portFollow_sram ?_ | refine Sram.ite ?_ ?_ | split | dsimp only

theorem replayFrom_sram {x0 : Nat} {x1 : Nat} (h : Sram a s) : Sram a (replayFrom x0 x1 s) := by
  unfold replayFrom
  repeat' with_reducible first | assumption | refine State.setLane_sram ?_ | refine State.bumpSat_sram ?_ | refine Sram.ite ?_ ?_ | split | dsimp only

theorem retire_sram {x0 : Sys2Proof.Machine.Parcel} (h : Sram a s) : Sram a (retire x0 s) := by
  unfold retire
  repeat' with_reducible first | assumption | refine State.setStream_sram ?_ | refine Sram.ite ?_ ?_ | split | dsimp only

theorem ackEntry_sram {x0 : Nat} {x1 : Sys2Proof.AckEntry} (h : Sram a s) : Sram a (ackEntry x0 x1 s) := by
  unfold ackEntry
  repeat' with_reducible first | assumption | refine State.modLane_sram ?_ | refine laneFail_sram ?_ | refine replayFrom_sram ?_ | refine State.setLane_sram ?_ | refine retire_sram ?_ | refine forAll_sram (fun _ _ _ => ?_) ?_ | refine Sram.ite ?_ ?_ | split | dsimp only

theorem ackReceive_sram {x0 : Nat} {x1 : List Sys2Proof.AckEntry} (h : Sram a s) : Sram a (ackReceive x0 x1 s) := by
  unfold ackReceive
  repeat' with_reducible first | assumption | refine ackEntry_sram ?_ | refine forAll_sram (fun _ _ _ => ?_) ?_ | refine Sram.ite ?_ ?_ | split | dsimp only

theorem ackSend_sram {x0 : Nat} (h : Sram a s) : Sram a (ackSend x0 s) := by
  unfold ackSend
  repeat' with_reducible first | assumption | refine State.modLane_sram ?_ | refine Sram.ite ?_ ?_ | split | dsimp only

theorem ackTimeout_sram {x0 : Nat} (h : Sram a s) : Sram a (ackTimeout x0 s) := by
  unfold ackTimeout
  repeat' with_reducible first | assumption | refine laneFail_sram ?_ | refine replayFrom_sram ?_ | refine State.setLane_sram ?_ | refine Sram.ite ?_ ?_ | split | dsimp only

theorem ageOut_sram {x0 : Nat} {x1 : Nat} (h : Sram a s) : Sram a (ageOut x0 x1 s) := by
  unfold ageOut
  repeat' with_reducible first | assumption | refine abandonOp_sram ?_ | refine Sram.ite ?_ ?_ | split | dsimp only

theorem alignHead_sram {x0 : Nat} {x1 : Int} (h : Sram a s) : Sram a (alignHead x0 x1 s) := by
  unfold alignHead
  repeat' with_reducible first | assumption | refine State.modHead_sram ?_ | refine State.modFrame_sram ?_ | refine Sram.ite ?_ ?_ | split | dsimp only

theorem pushRec_sram {x0 : Nat} {x1 : Sys2Proof.Machine.ParcelKey} {x2 : Sys2Proof.Machine.Rec} (h : Sram a s) : Sram a (pushRec x0 x1 x2 s) := by
  unfold pushRec
  repeat' with_reducible first | assumption | refine State.setStream_sram ?_ | refine Sram.ite ?_ ?_ | split | dsimp only

theorem replayCopy_sram {x0 : Sys2Proof.Machine.Parcel} {x1 : Nat} (h : Sram a s) : Sram a (replayCopy x0 x1 s) := by
  unfold replayCopy
  repeat' with_reducible first | assumption | refine State.bumpSat_sram ?_ | refine Sram.ite ?_ ?_ | split | dsimp only | refine Sram.set_dram ?_

theorem selfRefreshExit_sram {x0 : Nat} (h : Sram a s) : Sram a (selfRefreshExit x0 s) := by
  unfold selfRefreshExit
  repeat' with_reducible first | assumption | refine State.clrFlag_sram ?_ | refine Sram.ite ?_ ?_ | split | dsimp only

theorem bankRefresh_sram {x0 : Nat} (h : Sram a s) : Sram a (bankRefresh x0 s) := by
  unfold bankRefresh
  repeat' with_reducible first | assumption | refine State.setDram_sram ?_ | refine Sram.ite ?_ ?_ | split | dsimp only

theorem tollTrigger_sram {x0 : Nat} {x1 : Nat} (h : Sram a s) : Sram a (tollTrigger x0 x1 s) := by
  unfold tollTrigger
  repeat' with_reducible first | assumption | refine bankRefresh_sram ?_ | refine State.setDram_sram ?_ | refine State.bumpSat_sram ?_ | refine Sram.ite ?_ ?_ | split | dsimp only

theorem dramTouch_sram {x0 : Nat} {x1 : Nat} (h : Sram a s) : Sram a (dramTouch x0 x1 s) := by
  unfold dramTouch
  repeat' with_reducible first | assumption | refine selfRefreshExit_sram ?_ | refine State.setDram_sram ?_ | refine tollTrigger_sram ?_ | refine Sram.ite ?_ ?_ | split | dsimp only

theorem unmapped_sram {x0 : Nat} {x1 : Nat} (h : Sram a s) : Sram a (unmapped x0 x1 s) := by
  unfold unmapped
  repeat' with_reducible first | assumption | refine State.bumpSat_sram ?_ | refine State.setFlag_sram ?_ | refine State.put_sram ?_ | refine Sram.ite ?_ ?_ | split | dsimp only

theorem dramUse_sram {x0 : Nat} {x1 : Nat} (h : Sram a s) : Sram a (dramUse x0 x1 s) := by
  unfold dramUse
  repeat' with_reducible first | assumption | refine dramTouch_sram ?_ | refine unmapped_sram ?_ | refine Sram.ite ?_ ?_ | split | dsimp only

theorem dramRing_sram {x0 : Nat} {x1 : Nat} {x2 : Nat} {x3 : Nat} {x4 : Nat} (h : Sram a s) : Sram a (dramRing x0 x1 x2 x3 x4 s) := by
  unfold dramRing
  repeat' with_reducible first | assumption | refine dramUse_sram ?_ | refine forAll_sram (fun _ _ _ => ?_) ?_ | refine Sram.ite ?_ ?_ | split | dsimp only

theorem ringStore_sram {x0 : Nat} {x1 : Nat} {x2 : Nat} {x3 : Nat} {x4 : Nat} {x5 : Nat} (h : Sram a s) : Sram a (ringStore x0 x1 x2 x3 x4 x5 s) := by
  unfold ringStore
  repeat' with_reducible first | assumption | refine dramRing_sram ?_ | refine ringBytes_sram ?_ | refine Sram.ite ?_ ?_ | split | dsimp only

theorem closeCore_sram {x0 : Nat} (h : Sram a s) : Sram a (closeCore x0 s).1 := by
  unfold closeCore
  repeat' with_reducible first | assumption | refine replayCopy_sram ?_ | refine State.setStream_sram ?_ | refine State.modFrame_sram ?_ | refine ringStore_sram ?_ | refine Sram.ite ?_ ?_ | split | dsimp only

theorem gapMarks_sram {x0 : Nat} {x1 : Sys2Proof.Machine.Loss} (h : Sram a s) : Sram a (gapMarks x0 x1 s) := by
  unfold gapMarks
  repeat' with_reducible first | assumption | refine raiseEv_sram ?_ | refine State.addSat_sram ?_ | refine State.setFlag_sram ?_ | refine Sram.ite ?_ ?_ | split | dsimp only

theorem openGap_sram {x0 : Sys2Proof.Machine.Loss} (h : Sram a s) : Sram a (openGap x0 s) := by
  unfold openGap
  repeat' with_reducible first | assumption | refine gapMarks_sram ?_ | refine State.setStream_sram ?_ | refine Sram.ite ?_ ?_ | split | dsimp only

theorem closeMs_sram (h : Sram a s) : Sram a (closeMs s) := by
  unfold closeMs
  repeat' with_reducible first | assumption | refine closeCore_sram ?_ | refine Sram.pair (by assumption) (closeCore_sram ?_) | refine openGap_sram ?_ | refine Sram.ite ?_ ?_ | split | dsimp only

theorem fitMs_sram {x0 : Sys2Proof.Machine.Rec} (h : Sram a s) : Sram a (fitMs x0 s) := by
  unfold fitMs
  repeat' with_reducible first | assumption | refine closeMs_sram ?_ | refine Sram.ite ?_ ?_ | split | dsimp only

theorem pushMs_sram {x0 : Sys2Proof.Machine.Rec} (h : Sram a s) : Sram a (pushMs x0 s) := by
  unfold pushMs
  repeat' with_reducible first | assumption | refine pushRec_sram ?_ | refine fitMs_sram ?_ | refine Sram.ite ?_ ?_ | split | dsimp only | refine Sram.set_trk ?_

theorem milestoneAt_sram {x0 : Nat} {x1 : Nat} {x2 : Nat} {x3 : Nat} {x4 : List Nat} (h : Sram a s) : Sram a (milestoneAt x0 x1 x2 x3 x4 s) := by
  unfold milestoneAt
  repeat' with_reducible first | assumption | refine pushMs_sram ?_ | refine Sram.ite ?_ ?_ | split | dsimp only

theorem milestone_sram {x0 : Nat} {x1 : Nat} {x2 : Nat} {x3 : List Nat} (h : Sram a s) : Sram a (milestone x0 x1 x2 x3 s) := by
  unfold milestone
  repeat' with_reducible first | assumption | refine milestoneAt_sram ?_ | refine Sram.ite ?_ ?_ | split | dsimp only

theorem milestone0_sram {x0 : Nat} {x1 : List Nat} (h : Sram a s) : Sram a (milestone0 x0 x1 s) := by
  unfold milestone0
  repeat' with_reducible first | assumption | refine milestone_sram ?_ | refine Sram.ite ?_ ?_ | split | dsimp only

theorem twinMs_sram {x0 : Nat} {x1 : List Nat} (h : Sram a s) : Sram a (twinMs x0 x1 s) := by
  unfold twinMs
  repeat' with_reducible first | assumption | refine raiseEv_sram ?_ | refine milestone0_sram ?_ | refine Sram.ite ?_ ?_ | split | dsimp only

theorem dramSpan_sram {x0 : Nat} {x1 : Nat} {x2 : Nat} (h : Sram a s) : Sram a (dramSpan x0 x1 x2 s) := by
  unfold dramSpan
  repeat' with_reducible first | assumption | refine dramRing_sram ?_ | refine Sram.ite ?_ ?_ | split | dsimp only

theorem copyOpen_sram {x0 : Nat} (h : Sram a s) : Sram a (copyOpen x0 s) := by
  unfold copyOpen
  repeat' with_reducible first | assumption | refine dramSpan_sram ?_ | refine Sram.ite ?_ ?_ | split | dsimp only | refine Sram.set_twin ?_

theorem alignStart_sram (h : Sram a s) : Sram a (alignStart s) := by
  unfold alignStart
  repeat' with_reducible first | assumption | refine twinMs_sram ?_ | refine copyOpen_sram ?_ | refine State.setTwin_sram ?_ | refine Sram.ite ?_ ?_ | split | dsimp only

theorem anchorEffect_sram (h : Sram a s) : Sram a (anchorEffect s) := by
  unfold anchorEffect
  repeat' with_reducible first | assumption | refine raiseEv_sram ?_ | refine milestoneAt_sram ?_ | refine Sram.ite ?_ ?_ | split | dsimp only | refine Sram.set_tb ?_

theorem anchorEnter_sram {x0 : Nat} {x1 : Nat} (h : Sram a s) : Sram a (anchorEnter x0 x1 s).1 := by
  unfold anchorEnter
  repeat' with_reducible first | assumption | refine State.bumpSat_sram ?_ | refine State.setFlag_sram ?_ | refine Sram.ite ?_ ?_ | split | dsimp only | refine Sram.set_tb ?_

theorem anchorGo_sram (h : Sram a s) : Sram a (anchorGo s) := by
  unfold anchorGo
  repeat' with_reducible first | assumption | refine anchorEnter_sram ?_ | refine Sram.pair (by assumption) (anchorEnter_sram ?_) | refine Sram.ite ?_ ?_ | split | dsimp only

theorem anchorRepeat_sram {x0 : Nat} {x1 : Nat} {x2 : Nat} (h : Sram a s) : Sram a (anchorRepeat x0 x1 x2 s) := by
  unfold anchorRepeat
  repeat' with_reducible first | assumption | refine milestoneAt_sram ?_ | refine Sram.ite ?_ ?_ | split | dsimp only | refine Sram.set_tb ?_

theorem profileMove_sram {x0 : Nat} {x1 : Nat} (h : Sram a s) : Sram a (profileMove x0 x1 s).1 := by
  unfold profileMove
  repeat' with_reducible first | assumption | refine State.modLoop_sram ?_ | refine Sram.ite ?_ ?_ | split | dsimp only

theorem setpointWrite_sram {x0 : Nat} {x1 : Nat} (h : Sram a s) : Sram a (setpointWrite x0 x1 s) := by
  unfold setpointWrite
  repeat' with_reducible first | assumption | refine State.modLoop_sram ?_ | refine State.put_sram ?_ | refine State.setFlag_sram ?_ | refine Sram.ite ?_ ?_ | split | dsimp only

theorem countTo_sram {x0 : Nat} {x1 : Nat} (h : Sram a s) : Sram a (countTo x0 x1 s) := by
  unfold countTo
  repeat' with_reducible first | assumption | refine State.put_sram ?_ | refine State.setFrame_sram ?_ | refine State.setOp_sram ?_ | refine forAll_sram (fun _ _ _ => ?_) ?_ | refine Sram.ite ?_ ?_ | split | dsimp only

theorem mirrorAnchor_sram (h : Sram a s) : Sram a (mirrorAnchor s) := by
  unfold mirrorAnchor
  repeat' with_reducible first | assumption | refine anchorEnter_sram ?_ | refine Sram.pair (by assumption) (anchorEnter_sram ?_) | refine Sram.ite ?_ ?_ | split | dsimp only

theorem paceMinRestart_sram (h : Sram a s) : Sram a (paceMinRestart s) := by
  unfold paceMinRestart
  repeat' with_reducible first | assumption | refine State.put_sram ?_ | refine upTo_sram (fun _ _ _ => ?_) ?_ | refine Sram.ite ?_ ?_ | split | dsimp only

theorem modOps_sram {x0 : Nat} {x1 : Sys2Proof.Machine.Op → Sys2Proof.Machine.Op} (h : Sram a s) : Sram a (modOps x0 x1 s) := by
  unfold modOps
  repeat' with_reducible first | assumption | refine State.setOp_sram ?_ | refine forAll_sram (fun _ _ _ => ?_) ?_ | refine Sram.ite ?_ ?_ | split | dsimp only

theorem tornChan_sram {x0 : Nat} (h : Sram a s) : Sram a (tornChan x0 s) := by
  unfold tornChan
  repeat' with_reducible first | assumption | refine modOps_sram ?_ | refine Sram.ite ?_ ?_ | split | dsimp only

theorem ofsHook_sram {x0 : Nat} {x1 : Nat} {x2 : Nat} (h : Sram a s) : Sram a (ofsHook x0 x1 x2 s) := by
  unfold ofsHook
  repeat' with_reducible first | assumption | refine tornChan_sram ?_ | refine when__sram (fun _ _ => ?_) ?_ | refine Sram.ite ?_ ?_ | split | dsimp only | refine Sram.set_therm ?_

theorem syncQualChanged_sram {x0 : Nat} (h : Sram a s) : Sram a (syncQualChanged x0 s) := by
  unfold syncQualChanged
  repeat' with_reducible first | assumption | refine State.modHead_sram ?_ | refine State.put_sram ?_ | refine upTo_sram (fun _ _ _ => ?_) ?_ | refine Sram.ite ?_ ?_ | split | dsimp only

theorem syncOff_sram (h : Sram a s) : Sram a (syncOff s) := by
  unfold syncOff
  repeat' with_reducible first | assumption | refine State.put_sram ?_ | refine syncQualChanged_sram ?_ | refine Sram.ite ?_ ?_ | split | dsimp only | refine Sram.set_tb ?_

theorem iuIdle_sram (h : Sram a s) : Sram a (iuIdle s) := by
  unfold iuIdle
  repeat' with_reducible first | assumption | refine State.clrFlag_sram ?_ | refine State.put_sram ?_ | refine Sram.ite ?_ ?_ | split | dsimp only

theorem iuExpire_sram (h : Sram a s) : Sram a (iuExpire s) := by
  unfold iuExpire
  repeat' with_reducible first | assumption | refine State.setFlag_sram ?_ | refine State.clrFlag_sram ?_ | refine raiseEv_sram ?_ | refine iuIdle_sram ?_ | refine State.put_sram ?_ | refine Sram.ite ?_ ?_ | split | dsimp only

theorem iuPast_sram (h : Sram a s) : Sram a (iuPast s) := by
  unfold iuPast
  repeat' with_reducible first | assumption | refine iuExpire_sram ?_ | refine Sram.ite ?_ ?_ | split | dsimp only

theorem iuStop_sram (h : Sram a s) : Sram a (iuStop s) := by
  unfold iuStop
  repeat' with_reducible first | assumption | refine State.setFlag_sram ?_ | refine State.put_sram ?_ | refine raiseEv_sram ?_ | refine Sram.ite ?_ ?_ | split | dsimp only

theorem iuSwstop_sram (h : Sram a s) : Sram a (iuSwstop s) := by
  unfold iuSwstop
  repeat' with_reducible first | assumption | refine iuPast_sram ?_ | refine iuStop_sram ?_ | refine Sram.ite ?_ ?_ | split | dsimp only

theorem iuArm_sram (h : Sram a s) : Sram a (iuArm s) := by
  unfold iuArm
  repeat' with_reducible first | assumption | refine iuPast_sram ?_ | refine State.setFlag_sram ?_ | refine State.clrFlag_sram ?_ | refine State.put_sram ?_ | refine Sram.ite ?_ ?_ | split | dsimp only | refine Sram.set_tb ?_

theorem gateOpen_sram {x0 : Option Nat} (h : Sram a s) : Sram a (gateOpen x0 s) := by
  unfold gateOpen
  repeat' with_reducible first | assumption | refine State.setFlag_sram ?_ | refine Sram.ite ?_ ?_ | split | dsimp only | refine Sram.set_tb ?_

theorem fuStart_sram (h : Sram a s) : Sram a (fuStart s) := by
  unfold fuStart
  repeat' with_reducible first | assumption | refine gateOpen_sram ?_ | refine Sram.ite ?_ ?_ | split | dsimp only

theorem headFields_sram {x0 : Nat} {x1 : Nat} {x2 : Nat} (h : Sram a s) : Sram a (headFields x0 x1 x2 s) := by
  unfold headFields
  repeat' with_reducible first | assumption | refine State.modHead_sram ?_ | refine when__sram (fun _ _ => ?_) ?_ | refine Sram.ite ?_ ?_ | split | dsimp only

theorem latchDrive_sram {x0 : Nat} (h : Sram a s) : Sram a (latchDrive x0 s) := by
  unfold latchDrive
  repeat' with_reducible first | assumption | refine State.put_sram ?_ | refine upTo_sram (fun _ _ _ => ?_) ?_ | refine Sram.ite ?_ ?_ | split | dsimp only

theorem latchRegions_sram {x0 : Nat} (h : Sram a s) : Sram a (latchRegions x0 s) := by
  unfold latchRegions
  repeat' with_reducible first | assumption | refine raiseEv_sram ?_ | refine State.bumpSat_sram ?_ | refine State.put_sram ?_ | refine upTo_sram (fun _ _ _ => ?_) ?_ | refine Sram.ite ?_ ?_ | split | dsimp only | refine Sram.set_pts ?_

theorem takeCommits_sram {x0 : Nat} (h : Sram a s) : Sram a (takeCommits x0 s) := by
  unfold takeCommits
  repeat' with_reducible first | assumption | refine State.clrFlag_sram ?_ | refine State.modHead_sram ?_ | refine upTo_sram (fun _ _ _ => ?_) ?_ | refine Sram.ite ?_ ?_ | split | dsimp only

theorem latchOne_sram {x0 : Nat} (h : Sram a s) : Sram a (latchOne x0 s) := by
  unfold latchOne
  repeat' with_reducible first | assumption | refine latchDrive_sram ?_ | refine latchRegions_sram ?_ | refine takeCommits_sram ?_ | refine Sram.ite ?_ ?_ | split | dsimp only

theorem latchSync_sram {x0 : Nat} (h : Sram a s) : Sram a (latchSync x0 s) := by
  unfold latchSync
  repeat' with_reducible first | assumption | refine State.put_sram ?_ | refine State.modHead_sram ?_ | refine Sram.ite ?_ ?_ | split | dsimp only

theorem latchPoint_sram {x0 : Nat} (h : Sram a s) : Sram a (latchPoint x0 s) := by
  unfold latchPoint
  repeat' with_reducible first | assumption | refine latchOne_sram ?_ | refine raiseEv_sram ?_ | refine latchSync_sram ?_ | refine Sram.ite ?_ ?_ | split | dsimp only

theorem startOne_sram {x0 : Nat} {x1 : Nat} {x2 : Nat} (h : Sram a s) : Sram a (startOne x0 x1 x2 s) := by
  unfold startOne
  repeat' with_reducible first | assumption | refine State.setFlag_sram ?_ | refine State.put_sram ?_ | refine State.modHead_sram ?_ | refine Sram.ite ?_ ?_ | split | dsimp only

theorem scanStart_sram {x0 : Nat} (h : Sram a s) : Sram a (scanStart x0 s) := by
  unfold scanStart
  repeat' with_reducible first | assumption | refine latchPoint_sram ?_ | refine State.modHead_sram ?_ | refine startOne_sram ?_ | refine latchSync_sram ?_ | refine State.setFlag_sram ?_ | refine Sram.ite ?_ ?_ | split | dsimp only

theorem milestoneH_sram {x0 : Nat} {x1 : Nat} {x2 : List Nat} (h : Sram a s) : Sram a (milestoneH x0 x1 x2 s) := by
  unfold milestoneH
  repeat' with_reducible first | assumption | refine milestone_sram ?_ | refine Sram.ite ?_ ?_ | split | dsimp only

theorem calLineEnd_sram {x0 : Nat} (h : Sram a s) : Sram a (calLineEnd x0 s) := by
  unfold calLineEnd
  repeat' with_reducible first | assumption | refine milestoneH_sram ?_ | refine State.modHead_sram ?_ | refine Sram.ite ?_ ?_ | split | dsimp only

theorem stopVisits_sram {x0 : Nat} (h : Sram a s) : Sram a (stopVisits x0 s) := by
  unfold stopVisits
  repeat' with_reducible first | assumption | refine calLineEnd_sram ?_ | refine State.setHead_sram ?_ | refine State.modFrame_sram ?_ | refine State.setOp_sram ?_ | refine forAll_sram (fun _ _ _ => ?_) ?_ | refine Sram.ite ?_ ?_ | split | dsimp only

theorem headStopped_sram {x0 : Nat} (h : Sram a s) : Sram a (headStopped x0 s) := by
  unfold headStopped
  repeat' with_reducible first | assumption | refine State.put_sram ?_ | refine State.clrFlag_sram ?_ | refine State.modHead_sram ?_ | refine Sram.ite ?_ ?_ | split | dsimp only

theorem stopHead_sram {x0 : Nat} (h : Sram a s) : Sram a (stopHead x0 s) := by
  unfold stopHead
  repeat' with_reducible first | assumption | refine stopVisits_sram ?_ | refine headStopped_sram ?_ | refine Sram.ite ?_ ?_ | split | dsimp only

theorem headHook_sram {x0 : Nat} {x1 : Nat} {x2 : Nat} (h : Sram a s) : Sram a (headHook x0 x1 x2 s) := by
  unfold headHook
  repeat' with_reducible first | assumption | refine headFields_sram ?_ | refine scanStart_sram ?_ | refine stopHead_sram ?_ | refine Sram.ite ?_ ?_ | split | dsimp only

theorem forwardBytes_sram {fuel b n : Nat} (h : Sram a s) : Sram a (forwardBytes fuel b n s) := by
  induction fuel generalizing b n s with
  | zero => exact h
  | succ k ih => exact Sram.ite h (ih (forward_sram h))

theorem forwardFrond_sram {x0 : Nat} {x1 : Nat} {x2 : Nat} (h : Sram a s) : Sram a (forwardFrond x0 x1 x2 s) := by
  unfold forwardFrond
  repeat' with_reducible first | assumption | refine forwardBytes_sram ?_ | refine dramSpan_sram ?_ | refine Sram.ite ?_ ?_ | split | dsimp only

theorem commitFrond_sram {x0 : Nat} {x1 : Nat} (h : Sram a s) : Sram a (commitFrond x0 x1 s) := by
  unfold commitFrond
  repeat' with_reducible first | assumption | refine State.setHead_sram ?_ | refine forwardFrond_sram ?_ | refine State.setFlag_sram ?_ | refine Sram.ite ?_ ?_ | split | dsimp only

theorem sqUnload_sram {x0 : Nat} (h : Sram a s) : Sram a (sqUnload x0 s) := by
  unfold sqUnload
  repeat' with_reducible first | assumption | refine State.setSeq_sram ?_ | refine State.put_sram ?_ | refine Sram.ite ?_ ?_ | split | dsimp only

theorem disown_sram {x0 : Nat} (h : Sram a s) : Sram a (disown x0 s) := by
  unfold disown
  repeat' with_reducible first | assumption | refine State.setSeq_sram ?_ | refine State.setOp_sram ?_ | refine forAll_sram (fun _ _ _ => ?_) ?_ | refine Sram.ite ?_ ?_ | split | dsimp only

theorem forwardReg_sram {x0 : Nat} (h : Sram a s) : Sram a (forwardReg x0 s) := by
  unfold forwardReg
  repeat' with_reducible first | assumption | refine forward_sram ?_ | refine Sram.ite ?_ ?_ | split | dsimp only

theorem policyStart_sram {x0 : Nat} (h : Sram a s) : Sram a (policyStart x0 s) := by
  unfold policyStart
  repeat' with_reducible first | assumption | refine State.setPolicy_sram ?_ | refine forwardReg_sram ?_ | refine State.put_sram ?_ | refine Sram.ite ?_ ?_ | split | dsimp only

theorem sqStart_sram {x0 : Nat} (h : Sram a s) : Sram a (sqStart x0 s) := by
  unfold sqStart
  repeat' with_reducible first | assumption | refine disown_sram ?_ | refine State.setSeq_sram ?_ | refine State.put_sram ?_ | refine State.setPend_sram ?_ | refine policyStart_sram ?_ | refine levels_sram ?_ | refine Sram.ite ?_ ?_ | split | dsimp only

theorem sqStop_sram {x0 : Nat} (h : Sram a s) : Sram a (sqStop x0 s) := by
  unfold sqStop
  repeat' with_reducible first | assumption | refine State.put_sram ?_ | refine State.setSeq_sram ?_ | refine Sram.ite ?_ ?_ | split | dsimp only

theorem sqHook_sram {x0 : Nat} {x1 : Nat} (h : Sram a s) : Sram a (sqHook x0 x1 s) := by
  unfold sqHook
  repeat' with_reducible first | assumption | refine sqUnload_sram ?_ | refine sqStart_sram ?_ | refine sqStop_sram ?_ | refine when__sram (fun _ _ => ?_) ?_ | refine Sram.ite ?_ ?_ | split | dsimp only

theorem evSoft_sram {x0 : Nat} (h : Sram a s) : Sram a (evSoft x0 s) := by
  unfold evSoft
  repeat' with_reducible first | assumption | refine raiseEv_sram ?_ | refine upTo_sram (fun _ _ _ => ?_) ?_ | refine Sram.ite ?_ ?_ | split | dsimp only

theorem modBanks_sram {x0 : Nat} {x1 : Nat → Sys2Proof.Machine.Bank → Sys2Proof.Machine.Bank} (h : Sram a s) : Sram a (modBanks x0 x1 s) := by
  unfold modBanks
  repeat' with_reducible first | assumption | refine State.modBank_sram ?_ | refine upTo_sram (fun _ _ _ => ?_) ?_ | refine Sram.ite ?_ ?_ | split | dsimp only

theorem pairsAll_sram {x0 : Nat} {x1 : Sys2Proof.Machine.PairLine} (h : Sram a s) : Sram a (pairsAll x0 x1 s) := by
  unfold pairsAll
  repeat' with_reducible first | assumption | refine modBanks_sram ?_ | refine Sram.ite ?_ ?_ | split | dsimp only

theorem startExchange_sram {x0 : Nat} {x1 : Nat} {x2 : Sys2Proof.Machine.XKind} (h : Sram a s) : Sram a (startExchange x0 x1 x2 s) := by
  unfold startExchange
  repeat' with_reducible first | assumption | refine State.setDrv_sram ?_ | refine modBanks_sram ?_ | refine State.bump_sram ?_ | refine Sram.ite ?_ ?_ | split | dsimp only

theorem bringUp_sram {x0 : Nat} (h : Sram a s) : Sram a (bringUp x0 s) := by
  unfold bringUp
  repeat' with_reducible first | assumption | refine State.clrFlag_sram ?_ | refine pairsAll_sram ?_ | refine State.setDrv_sram ?_ | refine startExchange_sram ?_ | refine Sram.ite ?_ ?_ | split | dsimp only

theorem driveOn_sram {x0 : Nat} (h : Sram a s) : Sram a (driveOn x0 s) := by
  unfold driveOn
  repeat' with_reducible first | assumption | refine modBanks_sram ?_ | refine State.clrFlag_sram ?_ | refine State.put_sram ?_ | refine bringUp_sram ?_ | refine upTo_sram (fun _ _ _ => ?_) ?_ | refine Sram.ite ?_ ?_ | split | dsimp only

theorem iuFree_sram {x0 : Nat} (h : Sram a s) : Sram a (iuFree x0 s) := by
  unfold iuFree
  repeat' with_reducible first | assumption | refine State.clrFlag_sram ?_ | refine State.put_sram ?_ | refine Sram.ite ?_ ?_ | split | dsimp only

theorem driveOff_sram {x0 : Nat} (h : Sram a s) : Sram a (driveOff x0 s) := by
  unfold driveOff
  repeat' with_reducible first | assumption | refine State.clrFlag_sram ?_ | refine iuFree_sram ?_ | refine State.setDrv_sram ?_ | refine State.put_sram ?_ | refine pairsAll_sram ?_ | refine Sram.ite ?_ ?_ | split | dsimp only

theorem softStop_sram {x0 : Nat} (h : Sram a s) : Sram a (softStop x0 s) := by
  unfold softStop
  repeat' with_reducible first | assumption | refine State.setDrv_sram ?_ | refine Sram.ite ?_ ?_ | split | dsimp only

theorem drvHook_sram {x0 : Nat} {x1 : Nat} {x2 : Nat} {x3 : Nat} (h : Sram a s) : Sram a (drvHook x0 x1 x2 x3 s) := by
  unfold drvHook
  repeat' with_reducible first | assumption | refine driveOn_sram ?_ | refine driveOff_sram ?_ | refine softStop_sram ?_ | refine when__sram (fun _ _ => ?_) ?_ | refine Sram.ite ?_ ?_ | split | dsimp only

theorem markDiffer_sram (h : Sram a s) : Sram a (markDiffer s) := by
  unfold markDiffer
  repeat' with_reducible first | assumption | refine Sram.ite ?_ ?_ | split | dsimp only | refine Sram.set_guard ?_

theorem emenH_sram {x0 : Bool} (h : Sram a s) : Sram a (emenH x0 s) := by
  unfold emenH
  repeat' with_reducible first | assumption | refine State.putb_sram ?_ | refine Sram.ite ?_ ?_ | split | dsimp only | refine Sram.set_guard ?_

theorem emenP_sram {x0 : Bool} (h : Sram a s) : Sram a (emenP x0 s) := by
  unfold emenP
  repeat' with_reducible first | assumption | refine State.putb_sram ?_ | refine Sram.ite ?_ ?_ | split | dsimp only | refine Sram.set_guard ?_

theorem guardMs_sram {x0 : Nat} {x1 : Nat} {x2 : Nat} (h : Sram a s) : Sram a (guardMs x0 x1 x2 s) := by
  unfold guardMs
  repeat' with_reducible first | assumption | refine milestoneH_sram ?_ | refine Sram.ite ?_ ?_ | split | dsimp only

theorem guardTo_sram {x0 : Nat} {x1 : Nat} {x2 : Nat} (h : Sram a s) : Sram a (guardTo x0 x1 x2 s) := by
  unfold guardTo
  repeat' with_reducible first | assumption | refine markDiffer_sram ?_ | refine emenH_sram ?_ | refine emenP_sram ?_ | refine State.put_sram ?_ | refine raiseEv_sram ?_ | refine guardMs_sram ?_ | refine Sram.ite ?_ ?_ | split | dsimp only

theorem guardRestart_sram (h : Sram a s) : Sram a (guardRestart s) := by
  unfold guardRestart
  repeat' with_reducible first | assumption | refine guardTo_sram ?_ | refine State.setDrv_sram ?_ | refine State.setFlag_sram ?_ | refine upTo_sram (fun _ _ _ => ?_) ?_ | refine Sram.ite ?_ ?_ | split | dsimp only | refine Sram.set_guard ?_

theorem guardRetest_sram (h : Sram a s) : Sram a (guardRetest s) := by
  unfold guardRetest
  repeat' with_reducible first | assumption | refine State.draw_sram ?_ | refine Sram.pair2 (by assumption) (State.draw_sram ?_) | refine State.putb_sram ?_ | refine Sram.ite ?_ ?_ | split | dsimp only | refine Sram.set_guard ?_

theorem guardReset_sram (h : Sram a s) : Sram a (guardReset s) := by
  unfold guardReset
  repeat' with_reducible first | assumption | refine guardRetest_sram ?_ | refine State.put_sram ?_ | refine State.setReg_sram ?_ | refine guardTo_sram ?_ | refine State.setFlag_sram ?_ | refine Sram.ite ?_ ?_ | split | dsimp only | refine Sram.set_guard ?_

theorem facetZero_sram {x0 : Nat} (h : Sram a s) : Sram a (facetZero x0 s) := by
  unfold facetZero
  repeat' with_reducible first | assumption | refine State.modLoop_sram ?_ | refine Sram.ite ?_ ?_ | split | dsimp only

theorem faultHook_sram {x0 : Nat} {x1 : Nat} {x2 : Nat} (h : Sram a s) : Sram a (faultHook x0 x1 x2 s) := by
  unfold faultHook
  repeat' with_reducible first | assumption | refine State.put_sram ?_ | refine when__sram (fun _ _ => ?_) ?_ | refine Sram.ite ?_ ?_ | split | dsimp only

theorem traceDone_sram (h : Sram a s) : Sram a (traceDone s) := by
  unfold traceDone
  repeat' with_reducible first | assumption | refine State.setFlag_sram ?_ | refine State.clrFlag_sram ?_ | refine Sram.ite ?_ ?_ | split | dsimp only

theorem traceTrig_sram {x0 : Nat} (h : Sram a s) : Sram a (traceTrig x0 s) := by
  unfold traceTrig
  repeat' with_reducible first | assumption | refine State.put_sram ?_ | refine State.setFlag_sram ?_ | refine traceDone_sram ?_ | refine Sram.ite ?_ ?_ | split | dsimp only | refine Sram.set_motion ?_

theorem traceStop_sram (h : Sram a s) : Sram a (traceStop s) := by
  unfold traceStop
  repeat' with_reducible first | assumption | refine State.clrFlag_sram ?_ | refine traceTrig_sram ?_ | refine Sram.ite ?_ ?_ | split | dsimp only

theorem traceStart_sram (h : Sram a s) : Sram a (traceStart s) := by
  unfold traceStart
  repeat' with_reducible first | assumption | refine State.put_sram ?_ | refine State.clrFlag_sram ?_ | refine State.setFlag_sram ?_ | refine Sram.ite ?_ ?_ | split | dsimp only | refine Sram.set_motion ?_

theorem laneStart_sram {x0 : Nat} (h : Sram a s) : Sram a (laneStart x0 s) := by
  unfold laneStart
  repeat' with_reducible first | assumption | refine requeue_sram ?_ | refine State.setLane_sram ?_ | refine State.put_sram ?_ | refine State.clrFlag_sram ?_ | refine portFollow_sram ?_ | refine Sram.ite ?_ ?_ | split | dsimp only

theorem laneEnable_sram {x0 : Nat} {x1 : Bool} (h : Sram a s) : Sram a (laneEnable x0 x1 s) := by
  unfold laneEnable
  repeat' with_reducible first | assumption | refine State.putb_sram ?_ | refine laneStart_sram ?_ | refine requeue_sram ?_ | refine State.clrFlag_sram ?_ | refine State.put_sram ?_ | refine portFollow_sram ?_ | refine Sram.ite ?_ ?_ | split | dsimp only

theorem injectBits_sram {x0 : Nat} {x1 : Nat} (h : Sram a s) : Sram a (injectBits x0 x1 s) := by
  unfold injectBits
  repeat' with_reducible first | assumption | refine State.modLane_sram ?_ | refine Sram.ite ?_ ?_ | split | dsimp only

theorem injectCrc_sram {x0 : Nat} (h : Sram a s) : Sram a (injectCrc x0 s) := by
  unfold injectCrc
  repeat' with_reducible first | assumption | refine State.modLane_sram ?_ | refine Sram.ite ?_ ?_ | split | dsimp only

theorem chkClear_sram {x0 : Nat} (h : Sram a s) : Sram a (chkClear x0 s) := by
  unfold chkClear
  repeat' with_reducible first | assumption | refine State.modLane_sram ?_ | refine State.put_sram ?_ | refine Sram.ite ?_ ?_ | split | dsimp only

theorem laneHook_sram {x0 : Nat} {x1 : Nat} {x2 : Nat} {x3 : Nat} (h : Sram a s) : Sram a (laneHook x0 x1 x2 x3 s) := by
  unfold laneHook
  repeat' with_reducible first | assumption | refine laneEnable_sram ?_ | refine State.putb_sram ?_ | refine injectBits_sram ?_ | refine injectCrc_sram ?_ | refine chkClear_sram ?_ | refine when__sram (fun _ _ => ?_) ?_ | refine Sram.ite ?_ ?_ | split | dsimp only

theorem dropOwn_sram (h : Sram a s) : Sram a (dropOwn s) := by
  unfold dropOwn
  repeat' with_reducible first | assumption | refine State.clrFlag_sram ?_ | refine iuFree_sram ?_ | refine pairsAll_sram ?_ | refine State.setDrv_sram ?_ | refine Sram.ite ?_ ?_ | split | dsimp only | refine Sram.set_twin ?_

theorem releaseOwn_sram {x0 : Nat} (h : Sram a s) : Sram a (releaseOwn x0 s) := by
  unfold releaseOwn
  repeat' with_reducible first | assumption | refine dropOwn_sram ?_ | refine State.put_sram ?_ | refine twinMs_sram ?_ | refine Sram.ite ?_ ?_ | split | dsimp only | refine Sram.set_twin ?_

theorem ownRelease_sram (h : Sram a s) : Sram a (ownRelease s) := by
  unfold ownRelease
  repeat' with_reducible first | assumption | refine releaseOwn_sram ?_ | refine Sram.ite ?_ ?_ | split | dsimp only

theorem replayOldest_sram (h : Sram a s) : Sram a (replayOldest s) := by
  unfold replayOldest
  repeat' with_reducible first | assumption | refine State.put_sram ?_ | refine Sram.ite ?_ ?_ | split | dsimp only

theorem replayFlush_sram (h : Sram a s) : Sram a (replayFlush s) := by
  unfold replayFlush
  repeat' with_reducible first | assumption | refine ringStore_sram ?_ | refine forAll_sram (fun _ _ _ => ?_) ?_ | refine Sram.ite ?_ ?_ | split | dsimp only | refine Sram.set_dram ?_

theorem replayStore_sram (h : Sram a s) : Sram a (replayStore s) := by
  unfold replayStore
  repeat' with_reducible first | assumption | refine replayOldest_sram ?_ | refine replayFlush_sram ?_ | refine Sram.ite ?_ ?_ | split | dsimp only

theorem replayHook_sram {x0 : Nat} {x1 : Nat} (h : Sram a s) : Sram a (replayHook x0 x1 s) := by
  unfold replayHook
  repeat' with_reducible first | assumption | refine replayOldest_sram ?_ | refine State.setDram_sram ?_ | refine replayStore_sram ?_ | refine when__sram (fun _ _ => ?_) ?_ | refine Sram.ite ?_ ?_ | split | dsimp only

theorem replayAbort_sram (h : Sram a s) : Sram a (replayAbort s) := by
  unfold replayAbort
  repeat' with_reducible first | assumption | refine State.setDram_sram ?_ | refine Sram.ite ?_ ?_ | split | dsimp only

theorem replayStart_sram (h : Sram a s) : Sram a (replayStart s) := by
  unfold replayStart
  repeat' with_reducible first | assumption | refine State.setFlag_sram ?_ | refine replayStore_sram ?_ | refine State.setDram_sram ?_ | refine Sram.ite ?_ ?_ | split | dsimp only

theorem capForce_sram (h : Sram a s) : Sram a (capForce s) := by
  unfold capForce
  repeat' with_reducible first | assumption | refine State.setCap_sram ?_ | refine Sram.ite ?_ ?_ | split | dsimp only

theorem readoutEnd_sram {x0 : Nat} (h : Sram a s) : Sram a (readoutEnd x0 s) := by
  unfold readoutEnd
  repeat' with_reducible first | assumption | refine State.put_sram ?_ | refine Sram.ite ?_ ?_ | split | dsimp only

theorem emitGap_sram {x0 : Nat} {x1 : Sys2Proof.Machine.Loss} (h : Sram a s) : Sram a (emitGap x0 x1 s) := by
  unfold emitGap
  repeat' with_reducible first | assumption | refine gapMarks_sram ?_ | refine pushMs_sram ?_ | refine Sram.ite ?_ ?_ | split | dsimp only

theorem closeParcel_sram {x0 : Nat} (h : Sram a s) : Sram a (closeParcel x0 s) := by
  unfold closeParcel
  repeat' with_reducible first | assumption | refine closeMs_sram ?_ | refine closeCore_sram ?_ | refine Sram.pair (by assumption) (closeCore_sram ?_) | refine readoutEnd_sram ?_ | refine emitGap_sram ?_ | refine Sram.ite ?_ ?_ | split | dsimp only

theorem pushStream_sram {x0 : Nat} {x1 : Sys2Proof.Machine.ParcelKey} {x2 : Sys2Proof.Machine.Rec} (h : Sram a s) : Sram a (pushStream x0 x1 x2 s) := by
  unfold pushStream
  repeat' with_reducible first | assumption | refine pushRec_sram ?_ | refine closeParcel_sram ?_ | refine Sram.ite ?_ ?_ | split | dsimp only

theorem capTouch_sram {x0 : Nat} (h : Sram a s) : Sram a (capTouch x0 s) := by
  unfold capTouch
  repeat' with_reducible first | assumption | refine dramUse_sram ?_ | refine Sram.ite ?_ ?_ | split | dsimp only

theorem readoutRec_sram {x0 : Nat} (h : Sram a s) : Sram a (readoutRec x0 s) := by
  unfold readoutRec
  repeat' with_reducible first | assumption | refine pushStream_sram ?_ | refine capTouch_sram ?_ | refine Sram.ite ?_ ?_ | split | dsimp only

theorem readoutAll_sram (h : Sram a s) : Sram a (readoutAll s) := by
  unfold readoutAll
  repeat' with_reducible first | assumption | refine State.put_sram ?_ | refine pushStream_sram ?_ | refine readoutRec_sram ?_ | refine upTo_sram (fun _ _ _ => ?_) ?_ | refine Sram.ite ?_ ?_ | split | dsimp only

theorem capReadout_sram (h : Sram a s) : Sram a (capReadout s) := by
  unfold capReadout
  repeat' with_reducible first | assumption | refine readoutAll_sram ?_ | refine State.setFlag_sram ?_ | refine Sram.ite ?_ ?_ | split | dsimp only

theorem capArm_sram {x0 : Nat} (h : Sram a s) : Sram a (capArm x0 s).1 := by
  unfold capArm
  repeat' with_reducible first | assumption | refine State.setFlag_sram ?_ | refine State.put_sram ?_ | refine State.bump_sram ?_ | refine State.setCap_sram ?_ | refine State.setCslot_sram ?_ | refine upTo_sram (fun _ _ _ => ?_) ?_ | refine Sram.ite ?_ ?_ | split | dsimp only

theorem seqStop_sram (h : Sram a s) : Sram a (seqStop s) := by
  unfold seqStop
  repeat' with_reducible first | assumption | refine Sram.ite ?_ ?_ | split | dsimp only | refine Sram.set_hk ?_

theorem seqTurn_sram {x0 : Nat} {x1 : Nat} (h : Sram a s) : Sram a (seqTurn x0 x1 s) := by
  unfold seqTurn
  repeat' with_reducible first | assumption | refine State.put_sram ?_ | refine Sram.ite ?_ ?_ | split | dsimp only | refine Sram.set_hk ?_

theorem seqStart_sram (h : Sram a s) : Sram a (seqStart s) := by
  unfold seqStart
  repeat' with_reducible first | assumption | refine seqTurn_sram ?_ | refine Sram.ite ?_ ?_ | split | dsimp only

theorem portEnable_sram {x0 : Nat} (h : Sram a s) : Sram a (portEnable x0 s) := by
  unfold portEnable
  repeat' with_reducible first | assumption | refine State.setSport_sram ?_ | refine State.clrFlag_sram ?_ | refine Sram.ite ?_ ?_ | split | dsimp only

theorem portChange_sram {x0 : Nat} (h : Sram a s) : Sram a (portChange x0 s) := by
  unfold portChange
  repeat' with_reducible first | assumption | refine State.setSport_sram ?_ | refine Sram.ite ?_ ?_ | split | dsimp only

theorem curveExpand_sram {x0 : Nat} (h : Sram a s) : Sram a (curveExpand x0 s) := by
  unfold curveExpand
  repeat' with_reducible first | assumption | refine State.clrFlag_sram ?_ | refine State.setSport_sram ?_ | refine State.setFlag_sram ?_ | refine Sram.ite ?_ ?_ | split | dsimp only

theorem portHook_sram {x0 : Nat} {x1 : Nat} {x2 : Nat} {x3 : Nat} (h : Sram a s) : Sram a (portHook x0 x1 x2 x3 s) := by
  unfold portHook
  repeat' with_reducible first | assumption | refine State.setFlag_sram ?_ | refine portEnable_sram ?_ | refine portChange_sram ?_ | refine curveExpand_sram ?_ | refine when__sram (fun _ _ => ?_) ?_ | refine Sram.ite ?_ ?_ | split | dsimp only

theorem makeDue_sram {x0 : Nat} (h : Sram a s) : Sram a (makeDue x0 s) := by
  unfold makeDue
  repeat' with_reducible first | assumption | refine State.setFlag_sram ?_ | refine State.setCalDie_sram ?_ | refine Sram.ite ?_ ?_ | split | dsimp only

theorem calNow_sram (h : Sram a s) : Sram a (calNow s) := by
  unfold calNow
  repeat' with_reducible first | assumption | refine makeDue_sram ?_ | refine upTo_sram (fun _ _ _ => ?_) ?_ | refine Sram.ite ?_ ?_ | split | dsimp only

theorem ledgGo_sram (h : Sram a s) : Sram a (ledgGo s) := by
  unfold ledgGo
  repeat' with_reducible first | assumption | refine State.put_sram ?_ | refine State.setSec_sram ?_ | refine State.setFlag_sram ?_ | refine Sram.ite ?_ ?_ | split | dsimp only

theorem drawChallenge_sram {x0 : Nat} (h : Sram a s) : Sram a (drawChallenge x0 s) := by
  unfold drawChallenge
  repeat' with_reducible first | assumption | refine State.setSess_sram ?_ | refine Sram.ite ?_ ?_ | split | dsimp only | refine Sram.set_fresh ?_

theorem authGo_sram {x0 : Nat} (h : Sram a s) : Sram a (authGo x0 s) := by
  unfold authGo
  repeat' with_reducible first | assumption | refine drawChallenge_sram ?_ | refine State.setSess_sram ?_ | refine Sram.ite ?_ ?_ | split | dsimp only

theorem sessEnd_sram {x0 : Nat} (h : Sram a s) : Sram a (sessEnd x0 s) := by
  unfold sessEnd
  repeat' with_reducible first | assumption | refine State.setSess_sram ?_ | refine Sram.ite ?_ ?_ | split | dsimp only

theorem authHook_sram {x0 : Nat} {x1 : Nat} (h : Sram a s) : Sram a (authHook x0 x1 s) := by
  unfold authHook
  repeat' with_reducible first | assumption | refine State.setSess_sram ?_ | refine authGo_sram ?_ | refine sessEnd_sram ?_ | refine when__sram (fun _ _ => ?_) ?_ | refine Sram.ite ?_ ?_ | split | dsimp only

theorem attGo_sram (h : Sram a s) : Sram a (attGo s) := by
  unfold attGo
  repeat' with_reducible first | assumption | refine State.setFlag_sram ?_ | refine State.setSec_sram ?_ | refine Sram.ite ?_ ?_ | split | dsimp only

theorem release_sram (h : Sram a s) : Sram a (release s) := by
  unfold release
  repeat' with_reducible first | assumption | refine Sram.ite ?_ ?_ | split | dsimp only | refine Sram.set_su ?_

theorem showFuses_sram (h : Sram a s) : Sram a (showFuses s) := by
  unfold showFuses
  repeat' with_reducible first | assumption | refine State.put_sram ?_ | refine Sram.ite ?_ ?_ | split | dsimp only

theorem burnFuse_sram {x0 : Nat} (h : Sram a s) : Sram a (burnFuse x0 s) := by
  unfold burnFuse
  repeat' with_reducible first | assumption | refine showFuses_sram ?_ | refine State.setSec_sram ?_ | refine Sram.ite ?_ ?_ | split | dsimp only

theorem storeSetting_sram {x0 : Nat} {x1 : Nat} {x2 : Nat} (h : Sram a s) : Sram a (storeSetting x0 x1 x2 s) := by
  unfold storeSetting
  repeat' with_reducible first | assumption | refine State.setNvPair_sram ?_ | refine Sram.ite ?_ ?_ | split | dsimp only

theorem cutChange_sram (h : Sram a s) : Sram a (cutChange s) := by
  unfold cutChange
  repeat' with_reducible first | assumption | refine State.draw_sram ?_ | refine Sram.pair2 (by assumption) (State.draw_sram ?_) | refine State.setSec_sram ?_ | refine burnFuse_sram ?_ | refine storeSetting_sram ?_ | refine Sram.ite ?_ ?_ | split | dsimp only

theorem errPop_sram (h : Sram a s) : Sram a (errPop s) := by
  unfold errPop
  repeat' with_reducible first | assumption | refine Sram.ite ?_ ?_ | split | dsimp only | refine Sram.set_su ?_

theorem linkError_sram {x0 : Nat} {x1 : Nat} (h : Sram a s) : Sram a (linkError x0 x1 s) := by
  unfold linkError
  repeat' with_reducible first | assumption | refine State.bumpSat_sram ?_ | refine enterErr_sram ?_ | refine Sram.ite ?_ ?_ | split | dsimp only

theorem dramDo_sram {w : HeldAccess} (h : Sram a s) : Sram a (dramDo w s) :=
  linkError_sram (dramTouch_sram (Sram.ite (State.store_dram_sram (Nat.le_add_right _ _) h) h))

theorem dramAsk_sram {x0 : Sys2Proof.Machine.HeldAccess} (h : Sram a s) : Sram a (dramAsk x0 s) := by
  unfold dramAsk
  repeat' with_reducible first | assumption | refine State.setDram_sram ?_ | refine dramDo_sram ?_ | refine Sram.ite ?_ ?_ | split | dsimp only

theorem dramWrite_sram {fuel r b n v : Nat} (h : Sram a s) : Sram a (dramWrite fuel r b n v s) := by
  induction fuel generalizing b n v s with
  | zero => exact h
  | succ k ih => exact Sram.ite h (ih (Sram.ite (dramAsk_sram h) (unmapped_sram h)))

theorem autoAck_sram (h : Sram a s) : Sram a (autoAck s) := by
  unfold autoAck
  repeat' with_reducible first | assumption | refine Sram.ite ?_ ?_ | split | dsimp only | refine Sram.set_su ?_

theorem guardLatch_sram {x0 : Nat} {x1 : Nat} (h : Sram a s) : Sram a (guardLatch x0 x1 s) := by
  unfold guardLatch
  repeat' with_reducible first | assumption | refine State.put_sram ?_ | refine releaseOwn_sram ?_ | refine enterErr_sram ?_ | refine State.bumpSat_sram ?_ | refine guardTo_sram ?_ | refine Sram.ite ?_ ?_ | split | dsimp only | refine Sram.set_guard ?_

theorem keepReplies_sram {x0 : Nat} {x1 : Sys2Proof.Machine.State} (h : Sram a s) : Sram a (keepReplies x0 x1 s) := by
  unfold keepReplies
  repeat' with_reducible first | assumption | refine State.setDrv_sram ?_ | refine Sram.ite ?_ ?_ | split | dsimp only

theorem bankFail_sram {x0 : Nat} {x1 : Nat} {x2 : Nat} {x3 : Nat} {x4 : Nat} (h : Sram a s) : Sram a (bankFail x0 x1 x2 x3 x4 s) := by
  unfold bankFail
  repeat' with_reducible first | assumption | refine State.put_sram ?_ | refine State.setFlag_sram ?_ | refine guardLatch_sram ?_ | refine keepReplies_sram ?_ | refine Sram.ite ?_ ?_ | split | dsimp only | refine Sram.set_drive ?_

theorem pathRegained_sram {x0 : Nat} {x1 : Sys2Proof.Machine.Field} {x2 : Bool} (h : Sram a s) : Sram a (pathRegained x0 x1 x2 s) := by
  unfold pathRegained
  repeat' with_reducible first | assumption | refine State.setFlag_sram ?_ | refine twinMs_sram ?_ | refine Sram.ite ?_ ?_ | split | dsimp only

theorem beatPulse_sram (h : Sram a s) : Sram a (beatPulse s) := by
  unfold beatPulse
  repeat' with_reducible first | assumption | refine State.setTwin_sram ?_ | refine pathRegained_sram ?_ | refine State.addSat_sram ?_ | refine Sram.ite ?_ ?_ | split | dsimp only

theorem twinRefuse_sram {x0 : Nat} {x1 : Nat} (h : Sram a s) : Sram a (twinRefuse x0 x1 s) := by
  unfold twinRefuse
  repeat' with_reducible first | assumption | refine State.put_sram ?_ | refine State.setFlag_sram ?_ | refine State.bumpSat_sram ?_ | refine twinMs_sram ?_ | refine Sram.ite ?_ ?_ | split | dsimp only

theorem pairTest_sram (h : Sram a s) : Sram a (pairTest s) := by
  unfold pairTest
  repeat' with_reducible first | assumption | refine State.setTwin_sram ?_ | refine State.put_sram ?_ | refine twinMs_sram ?_ | refine twinRefuse_sram ?_ | refine Sram.ite ?_ ?_ | split | dsimp only

theorem beatReceive_sram {x0 : Nat} {x1 : Nat} (h : Sram a s) : Sram a (beatReceive x0 x1 s) := by
  unfold beatReceive
  repeat' with_reducible first | assumption | refine State.setTwin_sram ?_ | refine State.putb_sram ?_ | refine State.put_sram ?_ | refine pairTest_sram ?_ | refine pathRegained_sram ?_ | refine State.addSat_sram ?_ | refine Sram.ite ?_ ?_ | split | dsimp only

theorem guardItem_sram (h : Sram a s) : Sram a (guardItem s) := by
  unfold guardItem
  repeat' with_reducible first | assumption | refine cwySend_sram ?_ | refine Sram.ite ?_ ?_ | split | dsimp only | refine Sram.set_twin ?_

theorem unitItems_sram (h : Sram a s) : Sram a (unitItems s) := by
  unfold unitItems
  repeat' with_reducible first | assumption | refine cwySend_sram ?_ | refine guardItem_sram ?_ | refine Sram.ite ?_ ?_ | split | dsimp only | refine Sram.set_twin ?_

theorem beatSend_sram (h : Sram a s) : Sram a (beatSend s) := by
  unfold beatSend
  repeat' with_reducible first | assumption | refine unitItems_sram ?_ | refine State.setTwin_sram ?_ | refine Sram.ite ?_ ?_ | split | dsimp only

theorem markFrondTorn_sram {x0 : Nat} {x1 : Bool} (h : Sram a s) : Sram a (markFrondTorn x0 x1 s) := by
  unfold markFrondTorn
  repeat' with_reducible first | assumption | refine State.bumpSat_sram ?_ | refine State.setFlag_sram ?_ | refine State.modHead_sram ?_ | refine State.modFrame_sram ?_ | refine Sram.ite ?_ ?_ | split | dsimp only

theorem beginLine_sram {x0 : Nat} {x1 : Bool} (h : Sram a s) : Sram a (beginLine x0 x1 s) := by
  unfold beginLine
  repeat' with_reducible first | assumption | refine State.drawIf_sram ?_ | refine Sram.pair2 (by assumption) (State.drawIf_sram ?_) | refine State.setHead_sram ?_ | refine State.bumpSat_sram ?_ | refine State.setFlag_sram ?_ | refine markFrondTorn_sram ?_ | refine Sram.ite ?_ ?_ | split | dsimp only

theorem queueChan_sram {x0 : Nat} (h : Sram a s) : Sram a (queueChan x0 s) := by
  unfold queueChan
  repeat' with_reducible first | assumption | refine queueSettled_sram ?_ | refine forAll_sram (fun _ _ _ => ?_) ?_ | refine Sram.ite ?_ ?_ | split | dsimp only

theorem binEvent_sram {x0 : Nat} (h : Sram a s) : Sram a (binEvent x0 s) := by
  unfold binEvent
  repeat' with_reducible first | assumption | refine takeWaiting_sram ?_ | refine State.setChan_sram ?_ | refine State.setFlag_sram ?_ | refine State.setOp_sram ?_ | refine queueChan_sram ?_ | refine forAll_sram (fun _ _ _ => ?_) ?_ | refine Sram.ite ?_ ?_ | split | dsimp only

theorem roleReject_sram {x0 : Nat} (h : Sram a s) : Sram a (roleReject x0 s) := by
  unfold roleReject
  repeat' with_reducible first | assumption | refine State.setFlag_sram ?_ | refine Sram.ite ?_ ?_ | split | dsimp only

theorem rejected_sram {x0 : Sys2Proof.Machine.RegId} {x1 : List Nat} (h : Sram a s) : Sram a (rejected x0 x1 s) := by
  unfold rejected
  repeat' with_reducible first | assumption | refine State.setFlag_sram ?_ | refine State.draw_sram ?_ | refine Sram.pair2 (by assumption) (State.draw_sram ?_) | refine Sram.ite ?_ ?_ | split | dsimp only

theorem standbyReject_sram {x0 : Nat} (h : Sram a s) : Sram a (standbyReject x0 s) := by
  unfold standbyReject
  repeat' with_reducible first | assumption | refine State.setFlag_sram ?_ | refine rejected_sram ?_ | refine Sram.ite ?_ ?_ | split | dsimp only

theorem writeThr_sram {x0 : Nat} {x1 : Nat} (h : Sram a s) : Sram a (writeThr x0 x1 s) := by
  unfold writeThr
  repeat' with_reducible first | assumption | refine State.setFlag_sram ?_ | refine State.put_sram ?_ | refine tornChan_sram ?_ | refine Sram.ite ?_ ?_ | split | dsimp only

theorem forwardAnchor_sram {x0 : Nat} {x1 : Nat} (h : Sram a s) : Sram a (forwardAnchor x0 x1 s) := by
  unfold forwardAnchor
  repeat' with_reducible first | assumption | refine forward_sram ?_ | refine forAll_sram (fun _ _ _ => ?_) ?_ | refine Sram.ite ?_ ?_ | split | dsimp only

theorem bodyAnchor_sram {x0 : Nat} {x1 : Sys2Proof.Machine.Ins} (h : Sram a s) : Sram a (bodyAnchor x0 x1 s).1 := by
  unfold bodyAnchor
  repeat' with_reducible first | assumption | refine anchorEnter_sram ?_ | refine Sram.pair (by assumption) (anchorEnter_sram ?_) | refine State.setGreg_sram ?_ | refine forwardAnchor_sram ?_ | refine Sram.ite ?_ ?_ | split | dsimp only

theorem bodyCall_sram {x0 : Nat} {x1 : Sys2Proof.Machine.Ins} (h : Sram a s) : Sram a (bodyCall x0 x1 s).1 := by
  unfold bodyCall
  repeat' with_reducible first | assumption | refine State.setGreg_sram ?_ | refine Sram.ite ?_ ?_ | split | dsimp only

theorem bodyCarm_sram {x0 : Nat} {x1 : Sys2Proof.Machine.Ins} (h : Sram a s) : Sram a (bodyCarm x0 x1 s).1 := by
  unfold bodyCarm
  repeat' with_reducible first | assumption | refine capArm_sram ?_ | refine Sram.pair (by assumption) (capArm_sram ?_) | refine State.setGreg_sram ?_ | refine Sram.ite ?_ ?_ | split | dsimp only

theorem bodyCqpop_sram {x0 : Nat} {x1 : Sys2Proof.Machine.Ins} (h : Sram a s) : Sram a (bodyCqpop x0 x1 s).1 := by
  unfold bodyCqpop
  repeat' with_reducible first | assumption | refine State.setGregs_sram ?_ | refine State.setSeq_sram ?_ | refine Sram.ite ?_ ?_ | split | dsimp only

theorem bodyDab_sram {x0 : Nat → Nat → Nat} {x1 : Nat} {x2 : Sys2Proof.Machine.Ins} (h : Sram a s) : Sram a (bodyDab x0 x1 x2 s).1 := by
  unfold bodyDab
  repeat' with_reducible first | assumption | refine State.setGreg_sram ?_ | refine Sram.ite ?_ ?_ | split | dsimp only

theorem bodyDai_sram {x0 : Nat → Nat → Nat} {x1 : Nat} {x2 : Sys2Proof.Machine.Ins} (h : Sram a s) : Sram a (bodyDai x0 x1 x2 s).1 := by
  unfold bodyDai
  repeat' with_reducible first | assumption | refine State.setGreg_sram ?_ | refine Sram.ite ?_ ?_ | split | dsimp only

theorem bodyDbase_sram {x0 : Nat} {x1 : Sys2Proof.Machine.Ins} (h : Sram a s) : Sram a (bodyDbase x0 x1 s).1 := by
  unfold bodyDbase
  repeat' with_reducible first | assumption | refine State.put_sram ?_ | refine Sram.ite ?_ ?_ | split | dsimp only

theorem bodyEmit_sram {x0 : Nat} {x1 : Sys2Proof.Machine.Ins} (h : Sram a s) : Sram a (bodyEmit x0 x1 s).1 := by
  unfold bodyEmit
  repeat' with_reducible first | assumption | refine milestoneAt_sram ?_ | refine Sram.ite ?_ ?_ | split | dsimp only

theorem clearPending_sram {x0 : Nat} {x1 : Nat} (h : Sram a s) : Sram a (clearPending x0 x1 s) := by
  unfold clearPending
  repeat' with_reducible first | assumption | refine levels_sram ?_ | refine State.setPend_sram ?_ | refine Sram.ite ?_ ?_ | split | dsimp only

theorem bodyEvclr_sram {x0 : Nat} {x1 : Sys2Proof.Machine.Ins} (h : Sram a s) : Sram a (bodyEvclr x0 x1 s).1 := by
  unfold bodyEvclr
  repeat' with_reducible first | assumption | refine clearPending_sram ?_ | refine Sram.ite ?_ ?_ | split | dsimp only

theorem bodyFcommit_sram {x0 : Nat} {x1 : Sys2Proof.Machine.Ins} (h : Sram a s) : Sram a (bodyFcommit x0 x1 s).1 := by
  unfold bodyFcommit
  repeat' with_reducible first | assumption | refine State.put_sram ?_ | refine forwardReg_sram ?_ | refine forward_sram ?_ | refine commitFrond_sram ?_ | refine State.setFlag_sram ?_ | refine State.setGreg_sram ?_ | refine forAll_sram (fun _ _ _ => ?_) ?_ | refine Sram.ite ?_ ?_ | split | dsimp only

theorem bodyFence_sram {x0 : Nat} {x1 : Sys2Proof.Machine.Ins} (h : Sram a s) : Sram a (bodyFence x0 x1 s).1 := by
  unfold bodyFence
  repeat' with_reducible first | assumption | refine Sram.ite ?_ ?_ | split | dsimp only

theorem bodyFstat_sram {x0 : Nat} {x1 : Sys2Proof.Machine.Ins} (h : Sram a s) : Sram a (bodyFstat x0 x1 s).1 := by
  unfold bodyFstat
  repeat' with_reducible first | assumption | refine State.setGreg_sram ?_ | refine Sram.ite ?_ ?_ | split | dsimp only

theorem bodyHlock_sram {x0 : Nat} {x1 : Sys2Proof.Machine.Ins} (h : Sram a s) : Sram a (bodyHlock x0 x1 s).1 := by
  unfold bodyHlock
  repeat' with_reducible first | assumption | refine State.setGreg_sram ?_ | refine State.setFlag_sram ?_ | refine State.put_sram ?_ | refine forwardReg_sram ?_ | refine Sram.ite ?_ ?_ | split | dsimp only

theorem writeRegion_sram {x0 : Nat} {x1 : Nat} {x2 : Nat} (h : Sram a s) : Sram a (writeRegion x0 x1 x2 s) := by
  unfold writeRegion
  repeat' with_reducible first | assumption | refine forwardReg_sram ?_ | refine State.put_sram ?_ | refine Sram.ite ?_ ?_ | split | dsimp only | refine Sram.set_pts ?_

theorem bodyHop_sram {x0 : Nat} {x1 : Sys2Proof.Machine.Ins} (h : Sram a s) : Sram a (bodyHop x0 x1 s).1 := by
  unfold bodyHop
  repeat' with_reducible first | assumption | refine writeRegion_sram ?_ | refine State.bumpSat_sram ?_ | refine Sram.ite ?_ ?_ | split | dsimp only

theorem bodyKick_sram {x0 : Nat} {x1 : Sys2Proof.Machine.Ins} (h : Sram a s) : Sram a (bodyKick x0 x1 s).1 := by
  unfold bodyKick
  repeat' with_reducible first | assumption | refine State.setSeq_sram ?_ | refine Sram.ite ?_ ?_ | split | dsimp only

theorem syncPop_sram (h : Sram a s) : Sram a (syncPop s).2 := by
  unfold syncPop
  repeat' with_reducible first | assumption | refine State.putb_sram ?_ | refine State.put_sram ?_ | refine Sram.ite ?_ ?_ | split | dsimp only | refine Sram.set_tb ?_

theorem rqPop_sram (h : Sram a s) : Sram a (rqPop s).2 := by
  unfold rqPop
  repeat' with_reducible first | assumption | refine State.put_sram ?_ | refine Sram.ite ?_ ?_ | split | dsimp only | refine Sram.set_hk ?_

theorem prbsCapture_sram {x0 : Nat} (h : Sram a s) : Sram a (prbsCapture x0 s) := by
  unfold prbsCapture
  repeat' with_reducible first | assumption | refine State.put_sram ?_ | refine Sram.ite ?_ ?_ | split | dsimp only

theorem readHook_sram {x0 : Nat} {x1 : Sys2Proof.Machine.RegId} {x2 : List Nat} (h : Sram a s) : Sram a (readHook x0 x1 x2 s) := by
  unfold readHook
  repeat' with_reducible first | assumption | refine syncPop_sram ?_ | refine Sram.pair2 (by assumption) (syncPop_sram ?_) | refine iuIdle_sram ?_ | refine rqPop_sram ?_ | refine Sram.pair2 (by assumption) (rqPop_sram ?_) | refine prbsCapture_sram ?_ | refine Sram.ite ?_ ?_ | split | dsimp only | refine Sram.set_tb ?_

theorem busRead_sram {x0 : Nat} {x1 : Nat} {x2 : Nat} (h : Sram a s) : Sram a (busRead x0 x1 x2 s).2 := by
  unfold busRead
  repeat' with_reducible first | assumption | refine readHook_sram ?_ | refine dramTouch_sram ?_ | refine State.draw_sram ?_ | refine Sram.pair2 (by assumption) (State.draw_sram ?_) | refine unmapped_sram ?_ | refine Sram.ite ?_ ?_ | split | dsimp only

theorem bodyLd_sram {x0 : Nat} {x1 : Sys2Proof.Machine.Ins} (h : Sram a s) : Sram a (bodyLd x0 x1 s).1 := by
  unfold bodyLd
  repeat' with_reducible first | assumption | refine busRead_sram ?_ | refine Sram.pair2 (by assumption) (busRead_sram ?_) | refine State.setGregs_sram ?_ | refine State.setGreg_sram ?_ | refine Sram.ite ?_ ?_ | split | dsimp only

theorem bodyLoop_sram {x0 : Nat} {x1 : Sys2Proof.Machine.Ins} (h : Sram a s) : Sram a (bodyLoop x0 x1 s).1 := by
  unfold bodyLoop
  repeat' with_reducible first | assumption | refine State.setGreg_sram ?_ | refine Sram.ite ?_ ?_ | split | dsimp only

theorem bodyLread_sram {x0 : Nat} {x1 : Sys2Proof.Machine.Ins} (h : Sram a s) : Sram a (bodyLread x0 x1 s).1 := by
  unfold bodyLread
  repeat' with_reducible first | assumption | refine State.setGregs_sram ?_ | refine Sram.ite ?_ ?_ | split | dsimp only

theorem bodyMprof_sram {x0 : Nat} {x1 : Sys2Proof.Machine.Ins} (h : Sram a s) : Sram a (bodyMprof x0 x1 s).1 := by
  unfold bodyMprof
  repeat' with_reducible first | assumption | refine profileMove_sram ?_ | refine Sram.pair (by assumption) (profileMove_sram ?_) | refine State.setGreg_sram ?_ | refine forward_sram ?_ | refine Sram.ite ?_ ?_ | split | dsimp only

theorem bodyPab_sram {x0 : Nat → Nat → Bool} {x1 : Nat} {x2 : Sys2Proof.Machine.Ins} (h : Sram a s) : Sram a (bodyPab x0 x1 x2 s).1 := by
  unfold bodyPab
  repeat' with_reducible first | assumption | refine State.setPredicate_sram ?_ | refine Sram.ite ?_ ?_ | split | dsimp only

theorem bodyPai_sram {x0 : Nat → Nat → Bool} {x1 : Nat} {x2 : Sys2Proof.Machine.Ins} (h : Sram a s) : Sram a (bodyPai x0 x1 x2 s).1 := by
  unfold bodyPai
  repeat' with_reducible first | assumption | refine State.setPredicate_sram ?_ | refine Sram.ite ?_ ?_ | split | dsimp only

theorem bodyPqr_sram {x0 : Bool → Bool → Bool} {x1 : Nat} {x2 : Sys2Proof.Machine.Ins} (h : Sram a s) : Sram a (bodyPqr x0 x1 x2 s).1 := by
  unfold bodyPqr
  repeat' with_reducible first | assumption | refine State.setPredicate_sram ?_ | refine Sram.ite ?_ ?_ | split | dsimp only

theorem bodyProbe_sram {x0 : Nat} {x1 : Sys2Proof.Machine.Ins} (h : Sram a s) : Sram a (bodyProbe x0 x1 s).1 := by
  unfold bodyProbe
  repeat' with_reducible first | assumption | refine State.setGreg_sram ?_ | refine State.setSeq_sram ?_ | refine Sram.ite ?_ ?_ | split | dsimp only

theorem bodySleep_sram {x0 : Nat} {x1 : Sys2Proof.Machine.Ins} (h : Sram a s) : Sram a (bodySleep x0 x1 s).1 := by
  unfold bodySleep
  repeat' with_reducible first | assumption | refine Sram.ite ?_ ?_ | split | dsimp only

theorem bodyTime_sram {x0 : Nat} {x1 : Sys2Proof.Machine.Ins} (h : Sram a s) : Sram a (bodyTime x0 x1 s).1 := by
  unfold bodyTime
  repeat' with_reducible first | assumption | refine State.setGregs_sram ?_ | refine Sram.ite ?_ ?_ | split | dsimp only

theorem takeMask_sram {x0 : Nat} {x1 : Nat} {x2 : Nat} (h : Sram a s) : Sram a (takeMask x0 x1 x2 s) := by
  unfold takeMask
  repeat' with_reducible first | assumption | refine clearPending_sram ?_ | refine State.setGreg_sram ?_ | refine Sram.ite ?_ ?_ | split | dsimp only

theorem bodyWait_sram {x0 : Nat} {x1 : Sys2Proof.Machine.Ins} (h : Sram a s) : Sram a (bodyWait x0 x1 s).1 := by
  unfold bodyWait
  repeat' with_reducible first | assumption | refine takeMask_sram ?_ | refine Sram.ite ?_ ?_ | split | dsimp only

theorem takeLine_sram {x0 : Nat} {x1 : Nat} {x2 : Nat} (h : Sram a s) : Sram a (takeLine x0 x1 x2 s) := by
  unfold takeLine
  repeat' with_reducible first | assumption | refine clearPending_sram ?_ | refine State.setGreg_sram ?_ | refine Sram.ite ?_ ?_ | split | dsimp only

theorem bodyWait1_sram {x0 : Nat} {x1 : Sys2Proof.Machine.Ins} (h : Sram a s) : Sram a (bodyWait1 x0 x1 s).1 := by
  unfold bodyWait1
  repeat' with_reducible first | assumption | refine takeLine_sram ?_ | refine Sram.ite ?_ ?_ | split | dsimp only

theorem bodyWatch_sram {x0 : Nat} {x1 : Sys2Proof.Machine.Ins} (h : Sram a s) : Sram a (bodyWatch x0 x1 s).1 := by
  unfold bodyWatch
  repeat' with_reducible first | assumption | refine State.setSeq_sram ?_ | refine Sram.ite ?_ ?_ | split | dsimp only

theorem bootError_sram (h : Sram a s) : Sram a (bootError s) := by
  unfold bootError
  repeat' with_reducible first | assumption | refine enterErr_sram ?_ | refine Sram.ite ?_ ?_ | split | dsimp only

theorem cableJump_sram {x0 : Nat} {x1 : Nat} (h : Sram a s) : Sram a (cableJump x0 x1 s) := by
  unfold cableJump
  repeat' with_reducible first | assumption | refine enterErr_sram ?_ | refine State.setFlag_sram ?_ | refine Sram.ite ?_ ?_ | split | dsimp only

theorem cableUpdate_sram {x0 : Nat} {x1 : Nat} {x2 : Int} (h : Sram a s) : Sram a (cableUpdate x0 x1 x2 s) := by
  unfold cableUpdate
  repeat' with_reducible first | assumption | refine cableJump_sram ?_ | refine State.modBank_sram ?_ | refine State.setFlag_sram ?_ | refine State.puti_sram ?_ | refine Sram.ite ?_ ?_ | split | dsimp only

theorem cableListen_sram {x0 : Nat} {x1 : Nat} {x2 : Nat} {x3 : Nat} {x4 : Nat} (h : Sram a s) : Sram a (cableListen x0 x1 x2 x3 x4 s) := by
  unfold cableListen
  repeat' with_reducible first | assumption | refine State.modBank_sram ?_ | refine State.put_sram ?_ | refine cableUpdate_sram ?_ | refine Sram.ite ?_ ?_ | split | dsimp only

theorem calEnd_sram {x0 : Nat} (h : Sram a s) : Sram a (calEnd x0 s) := by
  unfold calEnd
  repeat' with_reducible first | assumption | refine State.setCalDie_sram ?_ | refine State.clrFlag_sram ?_ | refine State.put_sram ?_ | refine State.bump_sram ?_ | refine raiseEv_sram ?_ | refine Sram.ite ?_ ?_ | split | dsimp only

theorem startGroups_sram {x0 : Nat} {x1 : Nat} {x2 : List Nat} (h : Sram a s) : Sram a (startGroups x0 x1 x2 s) := by
  unfold startGroups
  repeat' with_reducible first | assumption | refine State.setCalDie_sram ?_ | refine Sram.ite ?_ ?_ | split | dsimp only

theorem calFlyback_sram {x0 : Nat} {x1 : Nat} (h : Sram a s) : Sram a (calFlyback x0 x1 s) := by
  unfold calFlyback
  repeat' with_reducible first | assumption | refine State.setCalDie_sram ?_ | refine startGroups_sram ?_ | refine State.addSat_sram ?_ | refine Sram.ite ?_ ?_ | split | dsimp only

theorem calGroup_sram {x0 : Nat} {x1 : Nat} {x2 : List (Nat × Nat × Int)} (h : Sram a s) : Sram a (calGroup x0 x1 x2 s) := by
  unfold calGroup
  repeat' with_reducible first | assumption | refine State.setCalDie_sram ?_ | refine calEnd_sram ?_ | refine State.put_sram ?_ | refine forAll_sram (fun _ _ _ => ?_) ?_ | refine Sram.ite ?_ ?_ | split | dsimp only | refine Sram.set_therm ?_

theorem calIdle_sram {x0 : Nat} (h : Sram a s) : Sram a (calIdle x0 s) := by
  unfold calIdle
  repeat' with_reducible first | assumption | refine startGroups_sram ?_ | refine Sram.ite ?_ ?_ | split | dsimp only

theorem calLineStart_sram {x0 : Nat} {x1 : Nat} (h : Sram a s) : Sram a (calLineStart x0 x1 s) := by
  unfold calLineStart
  repeat' with_reducible first | assumption | refine calLineEnd_sram ?_ | refine State.modHead_sram ?_ | refine State.modFrame_sram ?_ | refine State.setOp_sram ?_ | refine forAll_sram (fun _ _ _ => ?_) ?_ | refine Sram.ite ?_ ?_ | split | dsimp only

theorem calTaken_sram {x0 : Nat} {x1 : Nat} (h : Sram a s) : Sram a (calTaken x0 x1 s) := by
  unfold calTaken
  repeat' with_reducible first | assumption | refine startGroups_sram ?_ | refine Sram.ite ?_ ?_ | split | dsimp only

theorem calStart_sram {x0 : Nat} (h : Sram a s) : Sram a (calStart x0 s) := by
  unfold calStart
  repeat' with_reducible first | assumption | refine calFlyback_sram ?_ | refine calTaken_sram ?_ | refine calIdle_sram ?_ | refine Sram.ite ?_ ?_ | split | dsimp only

theorem calUrgent_sram {x0 : Nat} (h : Sram a s) : Sram a (calUrgent x0 s) := by
  unfold calUrgent
  repeat' with_reducible first | assumption | refine State.modHead_sram ?_ | refine upTo_sram (fun _ _ _ => ?_) ?_ | refine Sram.ite ?_ ?_ | split | dsimp only

theorem capTrim_sram {x0 : Sys2Proof.Machine.CapTrig} (h : Sram a s) : Sram a (capTrim x0 s) := by
  unfold capTrim
  repeat' with_reducible first | assumption | refine State.setCap_sram ?_ | refine Sram.ite ?_ ?_ | split | dsimp only

theorem sendXtrig_sram {x0 : Nat} {x1 : Nat} {x2 : Nat} (h : Sram a s) : Sram a (sendXtrig x0 x1 x2 s) := by
  unfold sendXtrig
  repeat' with_reducible first | assumption | refine Sram.ite ?_ ?_ | split | dsimp only | refine Sram.set_twin ?_

theorem capConds_sram {k ns data : Nat} {value : Option Int} {prev : Option (Nat × Int)} (h : Sram a s) :
    Sram a (capConds k ns data value prev s).1 := by
  have hf : ∀ (f : State × Nat → Nat → State × Nat) (l : List Nat) (p : State × Nat),
      (∀ q c, Sram a q.1 → Sram a (f q c).1) → Sram a p.1 → Sram a (l.foldl f p).1 := by
    intro f l
    induction l with
    | nil => exact fun _ _ hp => hp
    | cons c r ih => exact fun p hq hp => ih _ hq (hq p c hp)
  unfold capConds
  refine hf _ _ _ (fun q c hq => ?_) h
  dsimp only
  split
  · exact State.setCap_sram hq
  · exact hq

theorem capTake_sram {x0 : Nat} {x1 : Nat} {x2 : Nat} {x3 : Option Int} (h : Sram a s) : Sram a (capTake x0 x1 x2 x3 s) := by
  unfold capTake
  repeat' with_reducible first | assumption | refine capConds_sram ?_ | refine Sram.pair (by assumption) (capConds_sram ?_) | refine State.setCslot_sram ?_ | refine State.bumpSat_sram ?_ | refine Sram.ite ?_ ?_ | split | dsimp only

theorem capOffer_sram {x0 : Nat} {x1 : Nat} {x2 : Nat} {x3 : Nat} {x4 : Option Int} (h : Sram a s) : Sram a (capOffer x0 x1 x2 x3 x4 s) := by
  unfold capOffer
  repeat' with_reducible first | assumption | refine capTake_sram ?_ | refine upTo_sram (fun _ _ _ => ?_) ?_ | refine Sram.ite ?_ ?_ | split | dsimp only

theorem capEvent_sram {x0 : Nat} {x1 : Nat} {x2 : BitVec 64} (h : Sram a s) : Sram a (capEvent x0 x1 x2 s) := by
  unfold capEvent
  repeat' with_reducible first | assumption | refine capOffer_sram ?_ | refine Sram.ite ?_ ?_ | split | dsimp only

theorem capValue_sram {x0 : Nat} {x1 : Nat} {x2 : Nat} {x3 : Int} (h : Sram a s) : Sram a (capValue x0 x1 x2 x3 s) := by
  unfold capValue
  repeat' with_reducible first | assumption | refine capOffer_sram ?_ | refine Sram.ite ?_ ?_ | split | dsimp only

theorem capMotion_sram {x0 : Nat} {x1 : Nat} (h : Sram a s) : Sram a (capMotion x0 x1 s) := by
  unfold capMotion
  repeat' with_reducible first | assumption | refine capValue_sram ?_ | refine upTo_sram (fun _ _ _ => ?_) ?_ | refine Sram.ite ?_ ?_ | split | dsimp only

theorem grantDue_sram {x0 : Nat} (h : Sram a s) : Sram a (grantDue x0 s) := by
  unfold grantDue
  repeat' with_reducible first | assumption | refine State.setPort_sram ?_ | refine Sram.ite ?_ ?_ | split | dsimp only

theorem startCredit_sram {x0 : Nat} {x1 : Nat} (h : Sram a s) : Sram a (startCredit x0 x1 s) := by
  unfold startCredit
  repeat' with_reducible first | assumption | refine State.setStream_sram ?_ | refine Sram.ite ?_ ?_ | split | dsimp only

theorem linkStart_sram {x0 : Nat} {x1 : Nat} (h : Sram a s) : Sram a (linkStart x0 x1 s) := by
  unfold linkStart
  repeat' with_reducible first | assumption | refine State.setPort_sram ?_ | refine State.put_sram ?_ | refine startCredit_sram ?_ | refine forAll_sram (fun _ _ _ => ?_) ?_ | refine Sram.ite ?_ ?_ | split | dsimp only

theorem capReceive_sram {x0 : Nat} {x1 : Nat} (h : Sram a s) : Sram a (capReceive x0 x1 s) := by
  unfold capReceive
  repeat' with_reducible first | assumption | refine State.setFlag_sram ?_ | refine State.put_sram ?_ | refine State.modLane_sram ?_ | refine portFollow_sram ?_ | refine grantDue_sram ?_ | refine linkStart_sram ?_ | refine Sram.ite ?_ ?_ | split | dsimp only

theorem capSend_sram {x0 : Nat} (h : Sram a s) : Sram a (capSend x0 s) := by
  unfold capSend
  repeat' with_reducible first | assumption | refine State.modLane_sram ?_ | refine Sram.ite ?_ ?_ | split | dsimp only

theorem capTimeout_sram {x0 : Nat} (h : Sram a s) : Sram a (capTimeout x0 s) := by
  unfold capTimeout
  repeat' with_reducible first | assumption | refine laneStart_sram ?_ | refine State.bumpSat_sram ?_ | refine Sram.ite ?_ ?_ | split | dsimp only

theorem cfgId_sram (h : Sram a s) : Sram a (cfgId s) := by
  unfold cfgId
  repeat' with_reducible first | assumption | refine State.put_sram ?_ | refine Sram.ite ?_ ?_ | split | dsimp only

theorem channelsDiffer_sram (h : Sram a s) : Sram a (channelsDiffer s) := by
  unfold channelsDiffer
  repeat' with_reducible first | assumption | refine guardLatch_sram ?_ | refine Sram.ite ?_ ?_ | split | dsimp only

theorem takeOp_sram {x0 : Nat} {x1 : Nat} (h : Sram a s) : Sram a (takeOp x0 x1 s) := by
  unfold takeOp
  repeat' with_reducible first | assumption | refine State.setOp_sram ?_ | refine Sram.ite ?_ ?_ | split | dsimp only

theorem takeFrame_sram {x0 : Nat} (h : Sram a s) : Sram a (takeFrame x0 s) := by
  unfold takeFrame
  repeat' with_reducible first | assumption | refine State.modFrame_sram ?_ | refine Sram.ite ?_ ?_ | split | dsimp only

theorem countRecord_sram {x0 : Nat} {x1 : Option Nat} {x2 : Nat} (h : Sram a s) : Sram a (countRecord x0 x1 x2 s) := by
  unfold countRecord
  repeat' with_reducible first | assumption | refine State.bump_sram ?_ | refine State.modFrame_sram ?_ | refine Sram.ite ?_ ?_ | split | dsimp only

theorem pushPoint_sram {x0 : Nat} {x1 : Option Nat} {x2 : Nat} {x3 : Sys2Proof.Machine.Rec} (h : Sram a s) : Sram a (pushPoint x0 x1 x2 x3 s) := by
  unfold pushPoint
  repeat' with_reducible first | assumption | refine pushStream_sram ?_ | refine countRecord_sram ?_ | refine Sram.ite ?_ ?_ | split | dsimp only

theorem emitHeld_sram {x0 : Sys2Proof.Machine.Held} (h : Sram a s) : Sram a (emitHeld x0 s) := by
  unfold emitHeld
  repeat' with_reducible first | assumption | refine pushPoint_sram ?_ | refine forAll_sram (fun _ _ _ => ?_) ?_ | refine Sram.ite ?_ ?_ | split | dsimp only

theorem takeOverExchange_sram {x0 : Nat} (h : Sram a s) : Sram a (takeOverExchange x0 s) := by
  unfold takeOverExchange
  repeat' with_reducible first | assumption | refine pairsAll_sram ?_ | refine State.setFlag_sram ?_ | refine startExchange_sram ?_ | refine State.setDrv_sram ?_ | refine upTo_sram (fun _ _ _ => ?_) ?_ | refine Sram.ite ?_ ?_ | split | dsimp only

theorem takeOver_sram {x0 : Nat} {x1 : Nat} (h : Sram a s) : Sram a (takeOver x0 x1 s) := by
  unfold takeOver
  repeat' with_reducible first | assumption | refine State.setTwin_sram ?_ | refine takeOp_sram ?_ | refine abandonWhere_sram ?_ | refine abandonMissed_sram ?_ | refine takeFrame_sram ?_ | refine emitHeld_sram ?_ | refine takeOverExchange_sram ?_ | refine sqStart_sram ?_ | refine twinMs_sram ?_ | refine forAll_sram (fun _ _ _ => ?_) ?_ | refine upTo_sram (fun _ _ _ => ?_) ?_ | refine Sram.ite ?_ ?_ | split | dsimp only

theorem claimBringUp_sram (h : Sram a s) : Sram a (claimBringUp s) := by
  unfold claimBringUp
  repeat' with_reducible first | assumption | refine bringUp_sram ?_ | refine pairsAll_sram ?_ | refine upTo_sram (fun _ _ _ => ?_) ?_ | refine Sram.ite ?_ ?_ | split | dsimp only

theorem claimSeq_sram {x0 : Bool} {x1 : Nat} {x2 : Nat} (h : Sram a s) : Sram a (claimSeq x0 x1 x2 s) := by
  unfold claimSeq
  repeat' with_reducible first | assumption | refine State.put_sram ?_ | refine State.setSeq_sram ?_ | refine State.setSec_sram ?_ | refine Sram.ite ?_ ?_ | split | dsimp only

theorem clearPage_sram {x0 : Nat} {x1 : Nat} (h : Sram a s) : Sram a (clearPage x0 x1 s) := by
  unfold clearPage
  repeat' with_reducible first | assumption | refine State.setGroup_sram ?_ | refine Sram.ite ?_ ?_ | split | dsimp only

theorem setFstat_sram {x0 : Nat} {x1 : Nat} {x2 : Sys2Proof.Machine.FrameAcc} {x3 : Nat} (h : Sram a s) : Sram a (setFstat x0 x1 x2 x3 s) := by
  unfold setFstat
  repeat' with_reducible first | assumption | refine Sram.ite ?_ ?_ | split | dsimp only | refine Sram.set_pts ?_

theorem hopRegions_sram {x0 : Nat} {x1 : Sys2Proof.Machine.FrameAcc} (h : Sram a s) : Sram a (hopRegions x0 x1 s) := by
  unfold hopRegions
  repeat' with_reducible first | assumption | refine State.bumpSat_sram ?_ | refine upTo_sram (fun _ _ _ => ?_) ?_ | refine Sram.ite ?_ ?_ | split | dsimp only | refine Sram.set_pts ?_

theorem stopDone_sram {x0 : Nat} {x1 : Nat} (h : Sram a s) : Sram a (stopDone x0 x1 s) := by
  unfold stopDone
  repeat' with_reducible first | assumption | refine headStopped_sram ?_ | refine scanStart_sram ?_ | refine Sram.ite ?_ ?_ | split | dsimp only

theorem policyWeather_sram {x0 : Nat} {x1 : Sys2Proof.Machine.PolicySt} {x2 : Sys2Proof.Machine.PolicySt} (h : Sram a s) : Sram a (policyWeather x0 x1 x2 s) := by
  unfold policyWeather
  repeat' with_reducible first | assumption | refine State.setPolicy_sram ?_ | refine forwardReg_sram ?_ | refine State.clrFlag_sram ?_ | refine State.putb_sram ?_ | refine milestoneAt_sram ?_ | refine Sram.ite ?_ ?_ | split | dsimp only

theorem policySweep_sram {x0 : Nat} {x1 : Sys2Proof.Machine.PolicyParams} (h : Sram a s) : Sram a (policySweep x0 x1 s) := by
  unfold policySweep
  repeat' with_reducible first | assumption | refine forwardReg_sram ?_ | refine State.put_sram ?_ | refine State.setPolicy_sram ?_ | refine upTo_sram (fun _ _ _ => ?_) ?_ | refine Sram.ite ?_ ?_ | split | dsimp only

theorem closeStream_sram {x0 : Nat} (h : Sram a s) : Sram a (closeStream x0 s) := by
  unfold closeStream
  repeat' with_reducible first | assumption | refine closeParcel_sram ?_ | refine State.setStream_sram ?_ | refine emitGap_sram ?_ | refine Sram.ite ?_ ?_ | split | dsimp only

theorem commandApply_sram {x0 : Nat} {x1 : Bool} (h : Sram a s) : Sram a (commandApply x0 x1 s) := by
  unfold commandApply
  repeat' with_reducible first | assumption | refine State.setLoop_sram ?_ | refine State.bumpSat_sram ?_ | refine Sram.ite ?_ ?_ | split | dsimp only

theorem tearLine_sram {x0 : Nat} {x1 : Bool} (h : Sram a s) : Sram a (tearLine x0 x1 s) := by
  unfold tearLine
  repeat' with_reducible first | assumption | refine State.modHead_sram ?_ | refine State.modFrame_sram ?_ | refine Sram.ite ?_ ?_ | split | dsimp only

theorem compose_sram {x0 : Nat} (h : Sram a s) : Sram a (compose x0 s) := by
  unfold compose
  repeat' with_reducible first | assumption | refine beginLine_sram ?_ | refine tearLine_sram ?_ | refine State.setHead_sram ?_ | refine Sram.ite ?_ ?_ | split | dsimp only

theorem configErr_sram {x0 : Nat} (h : Sram a s) : Sram a (configErr x0 s) := by
  unfold configErr
  repeat' with_reducible first | assumption | refine enterErr_sram ?_ | refine Sram.ite ?_ ?_ | split | dsimp only

theorem copyNext_sram (h : Sram a s) : Sram a (copyNext s) := by
  unfold copyNext
  repeat' with_reducible first | assumption | refine cwyParcel_sram ?_ | refine copyOpen_sram ?_ | refine Sram.ite ?_ ?_ | split | dsimp only | refine Sram.set_twin ?_

theorem correlatorTake_sram {x0 : Nat} (h : Sram a s) : Sram a (correlatorTake x0 s) := by
  unfold correlatorTake
  repeat' with_reducible first | assumption | refine State.setDie_sram ?_ | refine State.setOp_sram ?_ | refine Sram.ite ?_ ?_ | split | dsimp only | refine Sram.set_fresh ?_

theorem creditReceive_sram {x0 : Nat} {x1 : List (Nat × Nat)} (h : Sram a s) : Sram a (creditReceive x0 x1 s) := by
  unfold creditReceive
  repeat' with_reducible first | assumption | refine State.setStream_sram ?_ | refine forAll_sram (fun _ _ _ => ?_) ?_ | refine Sram.ite ?_ ?_ | split | dsimp only

theorem ctrlReadReq_sram {x0 : Nat} {x1 : Nat} (h : Sram a s) : Sram a (ctrlReadReq x0 x1 s).2.2 := by
  unfold ctrlReadReq
  repeat' with_reducible first | assumption | refine busRead_sram ?_ | refine Sram.pair2 (by assumption) (busRead_sram ?_) | refine Sram.ite ?_ ?_ | split | dsimp only

theorem ctrlServe_sram {p : Nat} {may : Nat → Bool} {f : Nat → State → Nat × Nat × State}
    (hf : ∀ r t, Sram a t → Sram a (f r t).2.2) (h : Sram a s) : Sram a (ctrlServe p may f s) := by
  unfold ctrlServe
  dsimp only
  split
  · split
    · exact pushStream_sram (hf _ _ (State.setPort_sram h))
    · exact h
  · exact h

theorem curveExpandDone_sram {x0 : Nat} (h : Sram a s) : Sram a (curveExpandDone x0 s) := by
  unfold curveExpandDone
  repeat' with_reducible first | assumption | refine State.setFlag_sram ?_ | refine State.clrFlag_sram ?_ | refine State.put_sram ?_ | refine State.setSport_sram ?_ | refine Sram.ite ?_ ?_ | split | dsimp only

theorem cwyCheck_sram (h : Sram a s) : Sram a (cwyCheck s) := by
  unfold cwyCheck
  repeat' with_reducible first | assumption | refine State.setTwin_sram ?_ | refine State.put_sram ?_ | refine Sram.ite ?_ ?_ | split | dsimp only

theorem noticeDecision_sram {x0 : Sys2Proof.Machine.Op} {x1 : List Nat} {x2 : Nat} (h : Sram a s) : Sram a (noticeDecision x0 x1 x2 s) := by
  unfold noticeDecision
  repeat' with_reducible first | assumption | refine cwySend_sram ?_ | refine Sram.ite ?_ ?_ | split | dsimp only

theorem nvBegin_sram (h : Sram a s) : Sram a (nvBegin s) := by
  unfold nvBegin
  repeat' with_reducible first | assumption | refine State.setNvPair_sram ?_ | refine Sram.ite ?_ ?_ | split | dsimp only | refine Sram.set_sec ?_

theorem issue_sram {x0 : Sys2Proof.Machine.Op} {x1 : List Nat} (h : Sram a s) : Sram a (issue x0 x1 s) := by
  unfold issue
  repeat' with_reducible first | assumption | refine State.setGroup_sram ?_ | refine State.setOp_sram ?_ | refine noticeDecision_sram ?_ | refine State.bump_sram ?_ | refine State.modFrame_sram ?_ | refine Sram.ite ?_ ?_ | split | dsimp only

theorem dropEvent_sram {x0 : Nat} {x1 : Nat} (h : Sram a s) : Sram a (dropEvent x0 x1 s) := by
  unfold dropEvent
  repeat' with_reducible first | assumption | refine State.setFlag_sram ?_ | refine State.bumpSat_sram ?_ | refine takeWaiting_sram ?_ | refine modOps_sram ?_ | refine Sram.ite ?_ ?_ | split | dsimp only

theorem deliver_sram {x0 : Nat} {x1 : Sys2Proof.Machine.OpenEvent} {x2 : Nat} {x3 : Bool} (h : Sram a s) : Sram a (deliver x0 x1 x2 x3 s) := by
  unfold deliver
  repeat' with_reducible first | assumption | refine State.bump_sram ?_ | refine State.put_sram ?_ | refine State.setChan_sram ?_ | refine capEvent_sram ?_ | refine dropEvent_sram ?_ | refine Sram.ite ?_ ?_ | split | dsimp only

theorem dieDark_sram {x0 : Nat} (h : Sram a s) : Sram a (dieDark x0 s) := by
  unfold dieDark
  repeat' with_reducible first | assumption | refine State.put_sram ?_ | refine abandonWhere_sram ?_ | refine enterErr_sram ?_ | refine Sram.ite ?_ ?_ | split | dsimp only

theorem dqsTrack_sram {x0 : Nat} {x1 : Int} (h : Sram a s) : Sram a (dqsTrack x0 x1 s) := by
  unfold dqsTrack
  repeat' with_reducible first | assumption | refine State.setDram_sram ?_ | refine Sram.ite ?_ ?_ | split | dsimp only

theorem dramResume_sram {x0 : Nat} {x1 : Nat} (h : Sram a s) : Sram a (dramResume x0 x1 s) := by
  unfold dramResume
  repeat' with_reducible first | assumption | refine dramAsk_sram ?_ | refine State.setDram_sram ?_ | refine forAll_sram (fun _ _ _ => ?_) ?_ | refine Sram.ite ?_ ?_ | split | dsimp only

theorem dropOpenEvents_sram {x0 : Nat → Bool} (h : Sram a s) : Sram a (dropOpenEvents x0 s) := by
  unfold dropOpenEvents
  repeat' with_reducible first | assumption | refine queueChan_sram ?_ | refine State.setChan_sram ?_ | refine forAll_sram (fun _ _ _ => ?_) ?_ | refine Sram.ite ?_ ?_ | split | dsimp only

theorem dropProbe_sram {x0 : Sys2Proof.Machine.ProbeReq} (h : Sram a s) : Sram a (dropProbe x0 s) := by
  unfold dropProbe
  repeat' with_reducible first | assumption | refine cqProbe_sram ?_ | refine Sram.ite ?_ ?_ | split | dsimp only

theorem dueBlock_sram {l : Nat} {p : State × Nat} (e : dueBlock l s = some p) (h : Sram a s) : Sram a p.1 := by
  unfold dueBlock at e
  dsimp only at e
  split at e
  · cases e; exact Sram.set_twin h
  · split at e
    · cases e; exact ackBlock_sram h
    · split at e
      · cases e; exact State.setPort_sram h
      · cases e

theorem dueByTemp_sram {x0 : Nat} (h : Sram a s) : Sram a (dueByTemp x0 s) := by
  unfold dueByTemp
  repeat' with_reducible first | assumption | refine makeDue_sram ?_ | refine Sram.ite ?_ ?_ | split | dsimp only

theorem iuDriveDone_sram (h : Sram a s) : Sram a (iuDriveDone s) := by
  unfold iuDriveDone
  repeat' with_reducible first | assumption | refine State.setFlag_sram ?_ | refine State.put_sram ?_ | refine raiseEv_sram ?_ | refine State.clrFlag_sram ?_ | refine Sram.ite ?_ ?_ | split | dsimp only

theorem echoEdge_sram {x0 : Nat} {x1 : Nat} (h : Sram a s) : Sram a (echoEdge x0 x1 s) := by
  unfold echoEdge
  repeat' with_reducible first | assumption | refine State.modBank_sram ?_ | refine State.setDrv_sram ?_ | refine iuDriveDone_sram ?_ | refine Sram.ite ?_ ?_ | split | dsimp only

theorem emitRecord_sram {x0 : Sys2Proof.Machine.Op} {x1 : Nat} {x2 : Nat} {x3 : Nat} {x4 : Nat} {x5 : Nat} {x6 : Nat} (h : Sram a s) : Sram a (emitRecord x0 x1 x2 x3 x4 x5 x6 s).1 := by
  unfold emitRecord
  repeat' with_reducible first | assumption | refine pushPoint_sram ?_ | refine Sram.ite ?_ ?_ | split | dsimp only

theorem echoRecord_sram {x0 : Sys2Proof.Machine.Op} {x1 : Nat} {x2 : Option Nat} {x3 : Sys2Proof.Machine.EchoOut} (h : Sram a s) : Sram a (echoRecord x0 x1 x2 x3 s).1 := by
  unfold echoRecord
  repeat' with_reducible first | assumption | refine State.bump_sram ?_ | refine State.modFrame_sram ?_ | refine emitRecord_sram ?_ | refine Sram.pair (by assumption) (emitRecord_sram ?_) | refine Sram.ite ?_ ?_ | split | dsimp only

theorem echoRecords_sram {o : Op} {e : Nat} {m : Option Nat} {l : List EchoOut} (h : Sram a s) :
    Sram a (echoRecords o e m l s).1 := by
  induction l generalizing s with
  | nil => exact h
  | cons x r ih => exact ih (echoRecord_sram h)

theorem elevRead_sram {x0 : Nat} {x1 : Nat} (h : Sram a s) : Sram a (elevRead x0 x1 s) := by
  unfold elevRead
  repeat' with_reducible first | assumption | refine State.setProof_sram ?_ | refine Sram.ite ?_ ?_ | split | dsimp only

theorem emenFault_sram {x0 : Bool} (h : Sram a s) : Sram a (emenFault x0 s) := by
  unfold emenFault
  repeat' with_reducible first | assumption | refine State.putb_sram ?_ | refine guardLatch_sram ?_ | refine Sram.ite ?_ ?_ | split | dsimp only | refine Sram.set_guard ?_

theorem emitReading_sram {x0 : Nat} {x1 : Nat} {x2 : Nat} (h : Sram a s) : Sram a (emitReading x0 x1 x2 s) := by
  unfold emitReading
  repeat' with_reducible first | assumption | refine State.modBank_sram ?_ | refine Sram.ite ?_ ?_ | split | dsimp only

theorem encEdge_sram {x0 : Nat} {x1 : Bool} {x2 : Bool} (h : Sram a s) : Sram a (encEdge x0 x1 x2 s) := by
  unfold encEdge
  repeat' with_reducible first | assumption | refine State.setEnc_sram ?_ | refine State.setFlag_sram ?_ | refine State.bumpSat_sram ?_ | refine State.setProof_sram ?_ | refine State.puti_sram ?_ | refine Sram.ite ?_ ?_ | split | dsimp only

theorem encIndex_sram {x0 : Nat} {x1 : Bool} (h : Sram a s) : Sram a (encIndex x0 x1 s) := by
  unfold encIndex
  repeat' with_reducible first | assumption | refine State.puti_sram ?_ | refine State.setEnc_sram ?_ | refine State.setProof_sram ?_ | refine State.setFlag_sram ?_ | refine Sram.ite ?_ ?_ | split | dsimp only

theorem endSessions_sram {x0 : Nat} (h : Sram a s) : Sram a (endSessions x0 s) := by
  unfold endSessions
  repeat' with_reducible first | assumption | refine State.setSec_sram ?_ | refine upTo_sram (fun _ _ _ => ?_) ?_ | refine Sram.ite ?_ ?_ | split | dsimp only

theorem sqStopAll_sram (h : Sram a s) : Sram a (sqStopAll s) := by
  unfold sqStopAll
  repeat' with_reducible first | assumption | refine sqStop_sram ?_ | refine upTo_sram (fun _ _ _ => ?_) ?_ | refine Sram.ite ?_ ?_ | split | dsimp only

theorem epochStart_sram (h : Sram a s) : Sram a (epochStart s) := by
  unfold epochStart
  repeat' with_reducible first | assumption | refine sqStopAll_sram ?_ | refine State.setTwin_sram ?_ | refine State.put_sram ?_ | refine Sram.ite ?_ ?_ | split | dsimp only

theorem exchangeAt_sram {x0 : Nat} {x1 : Nat} (h : Sram a s) : Sram a (exchangeAt x0 x1 s) := by
  unfold exchangeAt
  repeat' with_reducible first | assumption | refine startExchange_sram ?_ | refine State.setDrv_sram ?_ | refine Sram.ite ?_ ?_ | split | dsimp only

theorem softStopEnd_sram {x0 : Nat} (h : Sram a s) : Sram a (softStopEnd x0 s) := by
  unfold softStopEnd
  repeat' with_reducible first | assumption | refine driveOff_sram ?_ | refine State.setFlag_sram ?_ | refine State.clrFlag_sram ?_ | refine Sram.ite ?_ ?_ | split | dsimp only

theorem stepRamps_sram {x0 : Nat} (h : Sram a s) : Sram a (stepRamps x0 s) := by
  unfold stepRamps
  repeat' with_reducible first | assumption | refine State.setDrv_sram ?_ | refine Sram.ite ?_ ?_ | split | dsimp only

theorem sendCommand_sram {x0 : Nat} {x1 : Nat} (h : Sram a s) : Sram a (sendCommand x0 x1 s) := by
  unfold sendCommand
  repeat' with_reducible first | assumption | refine State.setBank_sram ?_ | refine State.put_sram ?_ | refine Sram.ite ?_ ?_ | split | dsimp only | refine Sram.set_drive ?_ | refine Sram.set_cap ?_

theorem exchangeCommand_sram {x0 : Nat} (h : Sram a s) : Sram a (exchangeCommand x0 s) := by
  unfold exchangeCommand
  repeat' with_reducible first | assumption | refine State.setDrv_sram ?_ | refine modBanks_sram ?_ | refine softStopEnd_sram ?_ | refine stepRamps_sram ?_ | refine sendCommand_sram ?_ | refine upTo_sram (fun _ _ _ => ?_) ?_ | refine Sram.ite ?_ ?_ | split | dsimp only

theorem exchangeMark_sram {x0 : Nat} (h : Sram a s) : Sram a (exchangeMark x0 s) := by
  unfold exchangeMark
  repeat' with_reducible first | assumption | refine modBanks_sram ?_ | refine State.clrFlag_sram ?_ | refine State.setFlag_sram ?_ | refine State.put_sram ?_ | refine State.setDrv_sram ?_ | refine Sram.ite ?_ ?_ | split | dsimp only | refine Sram.set_tb ?_

theorem facetPhase_sram {x0 : Nat} (h : Sram a s) : Sram a (facetPhase x0 s) := by
  unfold facetPhase
  repeat' with_reducible first | assumption | refine State.modLoop_sram ?_ | refine State.puti_sram ?_ | refine State.setLoop_sram ?_ | refine State.clrFlag_sram ?_ | refine State.setFlag_sram ?_ | refine Sram.ite ?_ ?_ | split | dsimp only

theorem factoryInstall_sram (h : Sram a s) : Sram a (factoryInstall s) := by
  unfold factoryInstall
  repeat' with_reducible first | assumption | refine State.setReg_sram ?_ | refine State.put_sram ?_ | refine State.setSec_sram ?_ | refine Sram.ite ?_ ?_ | split | dsimp only | refine Sram.set_guard ?_

theorem fatalTimeout_sram (h : Sram a s) : Sram a (fatalTimeout s) := by
  unfold fatalTimeout
  repeat' with_reducible first | assumption | refine Sram.ite ?_ ?_ | split | dsimp only | refine Sram.set_su ?_

theorem guardHold_sram {x0 : Nat} {x1 : Nat} (h : Sram a s) : Sram a (guardHold x0 x1 s) := by
  unfold guardHold
  repeat' with_reducible first | assumption | refine guardTo_sram ?_ | refine Sram.ite ?_ ?_ | split | dsimp only | refine Sram.set_fresh ?_ | refine Sram.set_guard ?_

theorem orderlyStop_sram (h : Sram a s) : Sram a (orderlyStop s) := by
  unfold orderlyStop
  repeat' with_reducible first | assumption | refine guardHold_sram ?_ | refine guardMs_sram ?_ | refine State.setFlag_sram ?_ | refine stopHead_sram ?_ | refine releaseOwn_sram ?_ | refine Sram.ite ?_ ?_ | split | dsimp only | refine Sram.set_twin ?_ | refine Sram.set_therm ?_

theorem nvCut_sram {x0 : Bool} (h : Sram a s) : Sram a (nvCut x0 s) := by
  unfold nvCut
  repeat' with_reducible first | assumption | refine State.setNvPair_sram ?_ | refine Sram.ite ?_ ?_ | split | dsimp only | refine Sram.set_sec ?_

theorem hwShutdown_sram {cause die sensor : Nat} {temp : Int} (h : Sram a s) :
    Sram a (hwShutdown cause die sensor temp s) := by
  unfold hwShutdown
  extract_lets s1 s2
  have h1 : Sram a s1 := State.puti_sram (State.put_sram (State.put_sram (State.put_sram h)))
  clear_value s1
  have h2 : Sram a s2 := State.bumpSat_sram h1
  clear_value s2
  split
  next v s3 e =>
  have h3 : Sram a s3 := by
    exact Sram.pair2 e (State.drawIf_sram h2)
  extract_lets s4 s5 s6
  have h4 : Sram a s4 := nvCut_sram h3
  clear_value s4
  have h5 : Sram a s5 := State.clrFlag_sram (State.clrFlag_sram (State.clrFlag_sram (State.clrFlag_sram h4)))
  clear_value s5
  have h6 : Sram a s6 := dropOwn_sram h5
  clear_value s6
  exact h6

theorem faultSensor_sram {x0 : Nat} {x1 : Nat} (h : Sram a s) : Sram a (faultSensor x0 x1 s) := by
  unfold faultSensor
  repeat' with_reducible first | assumption | refine State.put_sram ?_ | refine enterErr_sram ?_ | refine dieDark_sram ?_ | refine orderlyStop_sram ?_ | refine hwShutdown_sram ?_ | refine Sram.ite ?_ ?_ | split | dsimp only | refine Sram.set_therm ?_

theorem seqResume_sram {x0 : Nat} (h : Sram a s) : Sram a (seqResume x0 s) := by
  unfold seqResume
  repeat' with_reducible first | assumption | refine State.put_sram ?_ | refine State.setSeq_sram ?_ | refine Sram.ite ?_ ?_ | split | dsimp only

theorem fenceDone_sram {x0 : Nat} (h : Sram a s) : Sram a (fenceDone x0 s) := by
  unfold fenceDone
  repeat' with_reducible first | assumption | refine seqResume_sram ?_ | refine Sram.ite ?_ ?_ | split | dsimp only

theorem limiterReq_sram {x0 : Nat} {x1 : Nat} {x2 : Nat} {x3 : Nat} (h : Sram a s) : Sram a (limiterReq x0 x1 x2 x3 s) := by
  unfold limiterReq
  repeat' with_reducible first | assumption | refine Sram.ite ?_ ?_ | split | dsimp only | refine Sram.set_guard ?_

theorem limiterAdd_sram {h b t eu : Nat} {u : State} (e : limiterAdd h b t eu s = some u) (k : Sram a s) : Sram a u := by
  unfold limiterAdd at e
  dsimp only at e
  split at e
  · cases e; exact Sram.set_guard k
  · cases e

theorem suppress_sram {x0 : Nat} {x1 : Nat} {x2 : Nat} (h : Sram a s) : Sram a (suppress x0 x1 x2 s) := by
  unfold suppress
  repeat' with_reducible first | assumption | refine noticePulses_sram ?_ | refine State.add_sram ?_ | refine State.setOp_sram ?_ | refine Sram.ite ?_ ?_ | split | dsimp only

theorem limitBlock_sram {x0 : Nat} {x1 : Nat} {x2 : Nat} {x3 : Nat} (h : Sram a s) : Sram a (limitBlock x0 x1 x2 x3 s) := by
  unfold limitBlock
  repeat' with_reducible first | assumption | refine State.setFlag_sram ?_ | refine State.bump_sram ?_ | refine guardMs_sram ?_ | refine Sram.ite ?_ ?_ | split | dsimp only | refine Sram.set_guard ?_

theorem firedShot_sram {x0 : Nat} {x1 : Sys2Proof.Machine.Shot} (h : Sram a s) : Sram a (firedShot x0 x1 s) := by
  unfold firedShot
  repeat' with_reducible first | assumption | refine Sram.ite ?_ ?_ | split | dsimp only | refine Sram.set_guard ?_

theorem openWindow_sram {x0 : Nat} {x1 : Nat} {x2 : Sys2Proof.Machine.Op} {x3 : Nat} (h : Sram a s) : Sram a (openWindow x0 x1 x2 x3 s) := by
  unfold openWindow
  repeat' with_reducible first | assumption | refine takeWaiting_sram ?_ | refine State.setOp_sram ?_ | refine Sram.ite ?_ ?_ | split | dsimp only

theorem fireBank_sram {d slot : Nat} {o : Op} {f : Nat} (h : Sram a s) : Sram a (fireBank d slot o f s) := by
  unfold fireBank
  extract_lets _ b offs
  split
  extract_lets ws eu s1 s2
  have h1 : Sram a s1 := Sram.ite (State.setFlag_sram h) h
  clear_value s1
  have h2 : Sram a s2 := limiterReq_sram h1
  clear_value s2
  split
  · exact suppress_sram (limitBlock_sram h2)
  · next s3 e =>
    have h3 := limiterAdd_sram e h2
    extract_lets s4 s5 _ s6
    have h4 : Sram a s4 := State.modBank_sram h3
    clear_value s4
    have h5 : Sram a s5 := firedShot_sram h4
    clear_value s5
    refine openWindow_sram ?_
    unfold s6
    split
    · exact State.put_sram (Sram.set_twin h5)
    · exact h5

theorem firedReport_sram {x0 : Nat} {x1 : Nat} {x2 : Nat} (h : Sram a s) : Sram a (firedReport x0 x1 x2 s) := by
  unfold firedReport
  repeat' with_reducible first | assumption | refine guardLatch_sram ?_ | refine Sram.ite ?_ ?_ | split | dsimp only | refine Sram.set_guard ?_

theorem standbyEnter_sram {x0 : Nat} (h : Sram a s) : Sram a (standbyEnter x0 s) := by
  unfold standbyEnter
  repeat' with_reducible first | assumption | refine State.put_sram ?_ | refine State.setOp_sram ?_ | refine twinMs_sram ?_ | refine forAll_sram (fun _ _ _ => ?_) ?_ | refine Sram.ite ?_ ?_ | split | dsimp only

theorem missedAge_sram (h : Sram a s) : Sram a (missedAge s) := by
  unfold missedAge
  repeat' with_reducible first | assumption | refine abandonMissed_sram ?_ | refine forAll_sram (fun _ _ _ => ?_) ?_ | refine Sram.ite ?_ ?_ | split | dsimp only | refine Sram.set_twin ?_

theorem useCommits_sram {x0 : Nat} {x1 : Nat} (h : Sram a s) : Sram a (useCommits x0 x1 s) := by
  unfold useCommits
  repeat' with_reducible first | assumption | refine State.modHead_sram ?_ | refine State.put_sram ?_ | refine upTo_sram (fun _ _ _ => ?_) ?_ | refine Sram.ite ?_ ?_ | split | dsimp only

theorem syncAdjust_sram {x0 : Nat} {x1 : Nat} {x2 : Sys2Proof.Machine.ScanFormat} (h : Sram a s) : Sram a (syncAdjust x0 x1 x2 s).1 := by
  unfold syncAdjust
  repeat' with_reducible first | assumption | refine State.puti_sram ?_ | refine State.modHead_sram ?_ | refine State.put_sram ?_ | refine Sram.ite ?_ ?_ | split | dsimp only

theorem fuEdge_sram {x0 : Nat} {x1 : Nat} (h : Sram a s) : Sram a (fuEdge x0 x1 s) := by
  unfold fuEdge
  repeat' with_reducible first | assumption | refine Sram.ite ?_ ?_ | split | dsimp only | refine Sram.set_tb ?_

theorem mainsResult_sram {x0 : Nat} {x1 : Int} (h : Sram a s) : Sram a (mainsResult x0 x1 s) := by
  unfold mainsResult
  repeat' with_reducible first | assumption | refine State.put_sram ?_ | refine State.setFlag_sram ?_ | refine Sram.ite ?_ ?_ | split | dsimp only

theorem fuStore_sram {x0 : Sys2Proof.Machine.Gate} {x1 : Nat} {x2 : Int} {x3 : Int} (h : Sram a s) : Sram a (fuStore x0 x1 x2 x3 s) := by
  unfold fuStore
  repeat' with_reducible first | assumption | refine State.drawIf_sram ?_ | refine Sram.pair2 (by assumption) (State.drawIf_sram ?_) | refine State.put_sram ?_ | refine State.setFlag_sram ?_ | refine Sram.ite ?_ ?_ | split | dsimp only

theorem fuFinish_sram {x0 : Sys2Proof.Machine.Gate} (h : Sram a s) : Sram a (fuFinish x0 s) := by
  unfold fuFinish
  repeat' with_reducible first | assumption | refine raiseEv_sram ?_ | refine mainsResult_sram ?_ | refine State.setFlag_sram ?_ | refine fuStore_sram ?_ | refine Sram.ite ?_ ?_ | split | dsimp only

theorem fuGateEnd_sram {x0 : Bool} (h : Sram a s) : Sram a (fuGateEnd x0 s) := by
  unfold fuGateEnd
  repeat' with_reducible first | assumption | refine Sram.ite ?_ ?_ | split | dsimp only | refine Sram.set_tb ?_

theorem fuGateOpen_sram {x0 : Bool} (h : Sram a s) : Sram a (fuGateOpen x0 s) := by
  unfold fuGateOpen
  repeat' with_reducible first | assumption | refine gateOpen_sram ?_ | refine Sram.ite ?_ ?_ | split | dsimp only

theorem fuResult_sram (h : Sram a s) : Sram a (fuResult s) := by
  unfold fuResult
  repeat' with_reducible first | assumption | refine State.clrFlag_sram ?_ | refine raiseEv_sram ?_ | refine State.setFlag_sram ?_ | refine fuFinish_sram ?_ | refine Sram.ite ?_ ?_ | split | dsimp only | refine Sram.set_tb ?_

theorem gapSplit_sram {x0 : Nat} (h : Sram a s) : Sram a (gapSplit x0 s) := by
  unfold gapSplit
  repeat' with_reducible first | assumption | refine State.setStream_sram ?_ | refine openGap_sram ?_ | refine closeCore_sram ?_ | refine Sram.pair (by assumption) (closeCore_sram ?_) | refine emitGap_sram ?_ | refine Sram.ite ?_ ?_ | split | dsimp only

theorem modeMove_sram {x0 : Nat} {x1 : Int} (h : Sram a s) : Sram a (modeMove x0 x1 s) := by
  unfold modeMove
  repeat' with_reducible first | assumption | refine State.setLoop_sram ?_ | refine Sram.ite ?_ ?_ | split | dsimp only

theorem setParked_sram {x0 : Nat} (h : Sram a s) : Sram a (setParked x0 s) := by
  unfold setParked
  repeat' with_reducible first | assumption | refine State.put_sram ?_ | refine State.setFlag_sram ?_ | refine Sram.ite ?_ ?_ | split | dsimp only

theorem loopOff_sram {x0 : Nat} (h : Sram a s) : Sram a (loopOff x0 s) := by
  unfold loopOff
  repeat' with_reducible first | assumption | refine State.modLoop_sram ?_ | refine State.clrFlag_sram ?_ | refine State.put_sram ?_ | refine Sram.ite ?_ ?_ | split | dsimp only

theorem moveEnd_sram {x0 : Nat} {x1 : Int} (h : Sram a s) : Sram a (moveEnd x0 x1 s) := by
  unfold moveEnd
  repeat' with_reducible first | assumption | refine State.modLoop_sram ?_ | refine raiseEv_sram ?_ | refine State.clrFlag_sram ?_ | refine setParked_sram ?_ | refine loopOff_sram ?_ | refine Sram.ite ?_ ?_ | split | dsimp only

theorem moveEval_sram {x0 : Nat} {x1 : Nat} (h : Sram a s) : Sram a (moveEval x0 x1 s) := by
  unfold moveEval
  repeat' with_reducible first | assumption | refine moveEnd_sram ?_ | refine State.modLoop_sram ?_ | refine Sram.ite ?_ ?_ | split | dsimp only

theorem moveStart_sram {x0 : Nat} {x1 : Nat} {x2 : Sys2Proof.Machine.MoveReq} (h : Sram a s) : Sram a (moveStart x0 x1 x2 s) := by
  unfold moveStart
  repeat' with_reducible first | assumption | refine traceTrig_sram ?_ | refine moveEnd_sram ?_ | refine State.modLoop_sram ?_ | refine State.setFlag_sram ?_ | refine Sram.ite ?_ ?_ | split | dsimp only

theorem moveTake_sram {x0 : Nat} {x1 : Nat} {x2 : Sys2Proof.Machine.MoveReq} (h : Sram a s) : Sram a (moveTake x0 x1 x2 s) := by
  unfold moveTake
  repeat' with_reducible first | assumption | refine moveStart_sram ?_ | refine State.modLoop_sram ?_ | refine Sram.ite ?_ ?_ | split | dsimp only

theorem genStep_sram {x0 : Nat} {x1 : Nat} {x2 : Int} (h : Sram a s) : Sram a (genStep x0 x1 x2 s) := by
  unfold genStep
  repeat' with_reducible first | assumption | refine modeMove_sram ?_ | refine moveEval_sram ?_ | refine moveTake_sram ?_ | refine Sram.ite ?_ ?_ | split | dsimp only

theorem guardUnhold_sram {x0 : Nat} {x1 : Nat} (h : Sram a s) : Sram a (guardUnhold x0 x1 s) := by
  unfold guardUnhold
  repeat' with_reducible first | assumption | refine guardTo_sram ?_ | refine Sram.ite ?_ ?_ | split | dsimp only | refine Sram.set_guard ?_

theorem ginAgreed_sram {x0 : Nat} (h : Sram a s) : Sram a (ginAgreed x0 s) := by
  unfold ginAgreed
  repeat' with_reducible first | assumption | refine State.setGin_sram ?_ | refine guardUnhold_sram ?_ | refine State.put_sram ?_ | refine Sram.ite ?_ ?_ | split | dsimp only

theorem putBit_sram {x0 : Sys2Proof.Machine.Field} {x1 : Nat} {x2 : Bool} (h : Sram a s) : Sram a (putBit x0 x1 x2 s) := by
  unfold putBit
  repeat' with_reducible first | assumption | refine State.put_sram ?_ | refine Sram.ite ?_ ?_ | split | dsimp only

theorem ginRead_sram {x0 : Nat} {x1 : Nat} {x2 : Bool} (h : Sram a s) : Sram a (ginRead x0 x1 x2 s) := by
  unfold ginRead
  repeat' with_reducible first | assumption | refine putBit_sram ?_ | refine State.bump_sram ?_ | refine State.setGin_sram ?_ | refine guardHold_sram ?_ | refine guardUnhold_sram ?_ | refine guardLatch_sram ?_ | refine Sram.ite ?_ ?_ | split | dsimp only

theorem ginBegin_sram (h : Sram a s) : Sram a (ginBegin s) := by
  unfold ginBegin
  repeat' with_reducible first | assumption | refine ginRead_sram ?_ | refine upTo_sram (fun _ _ _ => ?_) ?_ | refine Sram.ite ?_ ?_ | split | dsimp only

theorem ginPins_sram {x0 : Nat} {x1 : Bool} {x2 : Bool} (h : Sram a s) : Sram a (ginPins x0 x1 x2 s) := by
  unfold ginPins
  repeat' with_reducible first | assumption | refine State.setGin_sram ?_ | refine Sram.ite ?_ ?_ | split | dsimp only

theorem twinCheck_sram (h : Sram a s) : Sram a (twinCheck s) := by
  unfold twinCheck
  repeat' with_reducible first | assumption | refine guardLatch_sram ?_ | refine Sram.ite ?_ ?_ | split | dsimp only

theorem twinCompare_sram (h : Sram a s) : Sram a (twinCompare s) := by
  unfold twinCompare
  repeat' with_reducible first | assumption | refine upTo_sram (fun _ _ _ => ?_) ?_ | refine Sram.ite ?_ ?_ | split | dsimp only | refine Sram.set_guard ?_

theorem ginChange_sram {x0 : Nat} {x1 : Nat} {x2 : Bool} {x3 : Bool} (h : Sram a s) : Sram a (ginChange x0 x1 x2 x3 s) := by
  unfold ginChange
  repeat' with_reducible first | assumption | refine ginPins_sram ?_ | refine twinCheck_sram ?_ | refine twinCompare_sram ?_ | refine ginRead_sram ?_ | refine Sram.ite ?_ ?_ | split | dsimp only

theorem ginTimeout_sram {x0 : Nat} (h : Sram a s) : Sram a (ginTimeout x0 s) := by
  unfold ginTimeout
  repeat' with_reducible first | assumption | refine guardLatch_sram ?_ | refine Sram.ite ?_ ?_ | split | dsimp only

theorem refHandoff_sram {x0 : Nat} {x1 : Sys2Proof.Machine.Op} (h : Sram a s) : Sram a (refHandoff x0 x1 s) := by
  unfold refHandoff
  repeat' with_reducible first | assumption | refine Sram.ite ?_ ?_ | split | dsimp only | refine Sram.set_therm ?_

theorem queueObs_sram {x0 : Sys2Proof.Machine.Op} {x1 : List Sys2Proof.Machine.EchoOut} (h : Sram a s) : Sram a (queueObs x0 x1 s) := by
  unfold queueObs
  repeat' with_reducible first | assumption | refine State.setFlag_sram ?_ | refine State.bumpSat_sram ?_ | refine Sram.ite ?_ ?_ | split | dsimp only | refine Sram.set_pts ?_

theorem heldTrim_sram {n : Nat} (h : Sram a s) : Sram a (heldTrim n s) := by
  induction n generalizing s with
  | zero => exact h
  | succ n ih =>
    unfold heldTrim
    split
    · exact h
    · split
      · exact ih (State.bumpSat_sram (Sram.set_twin h))
      · exact h

theorem holdRecords_sram {x0 : Sys2Proof.Machine.Op} {x1 : List (Nat × Sys2Proof.Machine.ParcelKey × Sys2Proof.Machine.Rec)} (h : Sram a s) : Sram a (holdRecords x0 x1 s) := by
  unfold holdRecords
  repeat' with_reducible first | assumption | refine heldTrim_sram ?_ | refine Sram.ite ?_ ?_ | split | dsimp only | refine Sram.set_twin ?_

theorem probePost_sram {x0 : Sys2Proof.Machine.Op} {x1 : Sys2Proof.Machine.ProbeInfo} {x2 : List Sys2Proof.Machine.EchoOut} (h : Sram a s) : Sram a (probePost x0 x1 x2 s) := by
  unfold probePost
  repeat' with_reducible first | assumption | refine cqProbe_sram ?_ | refine Sram.ite ?_ ?_ | split | dsimp only

theorem watchPost_sram {x0 : Sys2Proof.Machine.Op} {x1 : List Sys2Proof.Machine.EchoOut} {x2 : Option Nat} {x3 : Nat} (h : Sram a s) : Sram a (watchPost x0 x1 x2 x3 s) := by
  unfold watchPost
  repeat' with_reducible first | assumption | refine State.bumpSat_sram ?_ | refine cqAdd_sram ?_ | refine Sram.ite ?_ ?_ | split | dsimp only

theorem noticeEgress_sram {x0 : Sys2Proof.Machine.Op} {x1 : Nat} (h : Sram a s) : Sram a (noticeEgress x0 x1 s) := by
  unfold noticeEgress
  repeat' with_reducible first | assumption | refine cwySend_sram ?_ | refine Sram.ite ?_ ?_ | split | dsimp only

theorem healthCheck_sram {x0 : Bool} (h : Sram a s) : Sram a (healthCheck x0 s) := by
  unfold healthCheck
  repeat' with_reducible first | assumption | refine cwyCheck_sram ?_ | refine State.setTwin_sram ?_ | refine Sram.ite ?_ ?_ | split | dsimp only

theorem heartbeat_sram {x0 : Bool} {x1 : Bool} (h : Sram a s) : Sram a (heartbeat x0 x1 s) := by
  unfold heartbeat
  repeat' with_reducible first | assumption | refine twinCheck_sram ?_ | refine guardLatch_sram ?_ | refine Sram.ite ?_ ?_ | split | dsimp only | refine Sram.set_guard ?_

theorem highCross_sram {x0 : Nat} {x1 : Bool} (h : Sram a s) : Sram a (highCross x0 x1 s) := by
  unfold highCross
  repeat' with_reducible first | assumption | refine State.setChan_sram ?_ | refine Sram.ite ?_ ?_ | split | dsimp only

theorem nvWrite_sram {x0 : Sys2Proof.NvRecord} (h : Sram a s) : Sram a (nvWrite x0 s) := by
  unfold nvWrite
  repeat' with_reducible first | assumption | refine nvBegin_sram ?_ | refine Sram.ite ?_ ?_ | split | dsimp only | refine Sram.set_sec ?_

theorem hoursWrite_sram (h : Sram a s) : Sram a (hoursWrite s) := by
  unfold hoursWrite
  repeat' with_reducible first | assumption | refine nvWrite_sram ?_ | refine State.bump_sram ?_ | refine Sram.ite ?_ ?_ | split | dsimp only | refine Sram.set_sec ?_

theorem hwShutdownHot_sram {x0 : Nat} (h : Sram a s) : Sram a (hwShutdownHot x0 s) := by
  unfold hwShutdownHot
  repeat' with_reducible first | assumption | refine hwShutdown_sram ?_ | refine Sram.ite ?_ ?_ | split | dsimp only

theorem identityReceive_sram {x0 : Sys2Proof.Identity} (h : Sram a s) : Sram a (identityReceive x0 s) := by
  unfold identityReceive
  repeat' with_reducible first | assumption | refine State.setTwin_sram ?_ | refine State.putb_sram ?_ | refine State.put_sram ?_ | refine pairTest_sram ?_ | refine Sram.ite ?_ ?_ | split | dsimp only

theorem takeBounds_sram {x0 : List (Nat × Int)} (h : Sram a s) : Sram a (takeBounds x0 s) := by
  unfold takeBounds
  repeat' with_reducible first | assumption | refine Sram.ite ?_ ?_ | split | dsimp only | refine Sram.set_therm ?_

theorem setTrim_sram {x0 : Nat} {x1 : Nat} {x2 : Int} (h : Sram a s) : Sram a (setTrim x0 x1 x2 s) := by
  unfold setTrim
  repeat' with_reducible first | assumption | refine State.puti_sram ?_ | refine Sram.ite ?_ ?_ | split | dsimp only | refine Sram.set_therm ?_

theorem stepTrim_sram {x0 : Nat} (h : Sram a s) : Sram a (stepTrim x0 s) := by
  unfold stepTrim
  repeat' with_reducible first | assumption | refine setTrim_sram ?_ | refine Sram.ite ?_ ?_ | split | dsimp only | refine Sram.set_therm ?_

theorem stepTrims_sram {x0 : Nat} (h : Sram a s) : Sram a (stepTrims x0 s) := by
  unfold stepTrims
  repeat' with_reducible first | assumption | refine stepTrim_sram ?_ | refine forAll_sram (fun _ _ _ => ?_) ?_ | refine Sram.ite ?_ ?_ | split | dsimp only | refine Sram.set_therm ?_

theorem idleTrims_sram {x0 : Nat} {x1 : List (Nat × Int)} (h : Sram a s) : Sram a (idleTrims x0 x1 s) := by
  unfold idleTrims
  repeat' with_reducible first | assumption | refine takeBounds_sram ?_ | refine stepTrims_sram ?_ | refine Sram.ite ?_ ?_ | split | dsimp only

theorem iuStartEdge_sram {x0 : Nat} {x1 : Bool} {x2 : Nat} (h : Sram a s) : Sram a (iuStartEdge x0 x1 x2 s) := by
  unfold iuStartEdge
  repeat' with_reducible first | assumption | refine iuPast_sram ?_ | refine State.put_sram ?_ | refine Sram.ite ?_ ?_ | split | dsimp only | refine Sram.set_tb ?_

theorem iuStopEdge_sram {x0 : Nat} {x1 : Bool} {x2 : Nat} (h : Sram a s) : Sram a (iuStopEdge x0 x1 x2 s) := by
  unfold iuStopEdge
  repeat' with_reducible first | assumption | refine iuPast_sram ?_ | refine iuStop_sram ?_ | refine Sram.ite ?_ ?_ | split | dsimp only

theorem iuTimeout_sram (h : Sram a s) : Sram a (iuTimeout s) := by
  unfold iuTimeout
  repeat' with_reducible first | assumption | refine iuExpire_sram ?_ | refine Sram.ite ?_ ?_ | split | dsimp only

theorem keeperLapse_sram (h : Sram a s) : Sram a (keeperLapse s) := by
  unfold keeperLapse
  repeat' with_reducible first | assumption | refine dropOwn_sram ?_ | refine State.put_sram ?_ | refine Sram.ite ?_ ?_ | split | dsimp only

theorem laneRestart_sram {x0 : Nat} (h : Sram a s) : Sram a (laneRestart x0 s) := by
  unfold laneRestart
  repeat' with_reducible first | assumption | refine laneStart_sram ?_ | refine Sram.ite ?_ ?_ | split | dsimp only

theorem latchFormat_sram {x0 : Nat} (h : Sram a s) : Sram a (latchFormat x0 s) := by
  unfold latchFormat
  repeat' with_reducible first | assumption | refine State.setHead_sram ?_ | refine State.put_sram ?_ | refine State.setFlag_sram ?_ | refine Sram.ite ?_ ?_ | split | dsimp only

theorem latch_sram {x0 : Nat} (h : Sram a s) : Sram a (latch x0 s) := by
  unfold latch
  repeat' with_reducible first | assumption | refine State.setFlag_sram ?_ | refine State.modHead_sram ?_ | refine latchPoint_sram ?_ | refine latchFormat_sram ?_ | refine Sram.ite ?_ ?_ | split | dsimp only

theorem laybyDrain_sram {x0 : Nat} (h : Sram a s) : Sram a (laybyDrain x0 s) := by
  unfold laybyDrain
  repeat' with_reducible first | assumption | refine dramRing_sram ?_ | refine State.setStream_sram ?_ | refine Sram.ite ?_ ?_ | split | dsimp only

theorem putSetting_sram {x0 : Nat} {x1 : Nat} (h : Sram a s) : Sram a (putSetting x0 x1 s) := by
  unfold putSetting
  repeat' with_reducible first | assumption | refine State.put_sram ?_ | refine State.setReg_sram ?_ | refine State.setSec_sram ?_ | refine Sram.ite ?_ ?_ | split | dsimp only

theorem levelStep_sram {x0 : Int} {x1 : Int} {x2 : Int} {x3 : Nat} (h : Sram a s) : Sram a (levelStep x0 x1 x2 x3 s) := by
  unfold levelStep
  repeat' with_reducible first | assumption | refine State.bumpSat_sram ?_ | refine Sram.ite ?_ ?_ | split | dsimp only | refine Sram.set_therm ?_

theorem limiterShadow_sram {x0 : Sys2Proof.Machine.Op} {x1 : Nat} (h : Sram a s) : Sram a (limiterShadow x0 x1 s) := by
  unfold limiterShadow
  repeat' with_reducible first | assumption | refine Sram.ite ?_ ?_ | split | dsimp only | refine Sram.set_guard ?_

theorem limiterUndo_sram {x0 : Sys2Proof.Machine.Op} {x1 : List Nat} (h : Sram a s) : Sram a (limiterUndo x0 x1 s) := by
  unfold limiterUndo
  repeat' with_reducible first | assumption | refine Sram.ite ?_ ?_ | split | dsimp only | refine Sram.set_guard ?_

theorem lockStep_sram {x0 : Nat} {x1 : Bool} (h : Sram a s) : Sram a (lockStep x0 x1 s) := by
  unfold lockStep
  repeat' with_reducible first | assumption | refine State.modLane_sram ?_ | refine laneFail_sram ?_ | refine laneStart_sram ?_ | refine State.setFlag_sram ?_ | refine State.put_sram ?_ | refine Sram.ite ?_ ?_ | split | dsimp only

theorem takeBlock_sram {x0 : Nat} (h : Sram a s) : Sram a (takeBlock x0 s) := by
  unfold takeBlock
  repeat' with_reducible first | assumption | refine State.setLane_sram ?_ | refine lockStep_sram ?_ | refine State.bumpSat_sram ?_ | refine Sram.ite ?_ ?_ | split | dsimp only

theorem takeBlocks_sram {n l : Nat} (h : Sram a s) : Sram a (takeBlocks n l s) := by
  induction n generalizing s with
  | zero => exact h
  | succ n ih =>
    unfold takeBlocks
    split
    · exact ih (takeBlock_sram h)
    · exact h

theorem lineReceive_sram {x0 : Nat} {x1 : List Bool} (h : Sram a s) : Sram a (lineReceive x0 x1 s) := by
  unfold lineReceive
  repeat' with_reducible first | assumption | refine State.setLane_sram ?_ | refine State.setFlag_sram ?_ | refine State.addSat_sram ?_ | refine takeBlocks_sram ?_ | refine Sram.ite ?_ ?_ | split | dsimp only

theorem stepLate_sram {x0 : Nat} (h : Sram a s) : Sram a (stepLate x0 s) := by
  unfold stepLate
  repeat' with_reducible first | assumption | refine State.bumpSat_sram ?_ | refine State.setFlag_sram ?_ | refine Sram.ite ?_ ?_ | split | dsimp only

theorem refStep_sram {x0 : Nat} (h : Sram a s) : Sram a (refStep x0 s) := by
  unfold refStep
  repeat' with_reducible first | assumption | refine State.puti_sram ?_ | refine Sram.ite ?_ ?_ | split | dsimp only

theorem slopeStep_sram {x0 : Nat} {x1 : Nat} (h : Sram a s) : Sram a (slopeStep x0 x1 s) := by
  unfold slopeStep
  repeat' with_reducible first | assumption | refine State.setBank_sram ?_ | refine enterErr_sram ?_ | refine State.setFlag_sram ?_ | refine State.put_sram ?_ | refine Sram.ite ?_ ?_ | split | dsimp only

theorem lineTrims_sram {x0 : Nat} (h : Sram a s) : Sram a (lineTrims x0 s) := by
  unfold lineTrims
  repeat' with_reducible first | assumption | refine refStep_sram ?_ | refine slopeStep_sram ?_ | refine stepTrims_sram ?_ | refine upTo_sram (fun _ _ _ => ?_) ?_ | refine Sram.ite ?_ ?_ | split | dsimp only

theorem lineStart_sram {x0 : Nat} {x1 : List (Nat × Int)} (h : Sram a s) : Sram a (lineStart x0 x1 s) := by
  unfold lineStart
  repeat' with_reducible first | assumption | refine State.setHead_sram ?_ | refine State.clrFlag_sram ?_ | refine State.put_sram ?_ | refine raiseEv_sram ?_ | refine milestoneAt_sram ?_ | refine stepLate_sram ?_ | refine facetPhase_sram ?_ | refine lineTrims_sram ?_ | refine takeBounds_sram ?_ | refine calLineStart_sram ?_ | refine Sram.ite ?_ ?_ | split | dsimp only

theorem linesLow_sram {x0 : Nat} (h : Sram a s) : Sram a (linesLow x0 s) := by
  unfold linesLow
  repeat' with_reducible first | assumption | refine pairsAll_sram ?_ | refine Sram.ite ?_ ?_ | split | dsimp only

theorem linkStall_sram {x0 : Nat} (h : Sram a s) : Sram a (linkStall x0 s) := by
  unfold linkStall
  repeat' with_reducible first | assumption | refine dieDark_sram ?_ | refine Sram.ite ?_ ?_ | split | dsimp only | refine Sram.set_pts ?_

theorem loadRecord_sram {x0 : Sys2Proof.NvRecord} (h : Sram a s) : Sram a (loadRecord x0 s) := by
  unfold loadRecord
  repeat' with_reducible first | assumption | refine State.setFlag_sram ?_ | refine State.put_sram ?_ | refine setTrim_sram ?_ | refine State.puti_sram ?_ | refine upTo_sram (fun _ _ _ => ?_) ?_ | refine Sram.ite ?_ ?_ | split | dsimp only | refine Sram.set_therm ?_

theorem loadSetting_sram {x0 : Nat} (h : Sram a s) : Sram a (loadSetting x0 s) := by
  unfold loadSetting
  repeat' with_reducible first | assumption | refine State.put_sram ?_ | refine putSetting_sram ?_ | refine Sram.ite ?_ ?_ | split | dsimp only

theorem loopConversion_sram {x0 : Nat} {x1 : Nat} (h : Sram a s) : Sram a (loopConversion x0 x1 s) := by
  unfold loopConversion
  repeat' with_reducible first | assumption | refine State.modLoop_sram ?_ | refine elevRead_sram ?_ | refine capValue_sram ?_ | refine Sram.ite ?_ ?_ | split | dsimp only

theorem loopFault_sram {x0 : Nat} {x1 : Nat} (h : Sram a s) : Sram a (loopFault x0 x1 s) := by
  unfold loopFault
  repeat' with_reducible first | assumption | refine State.put_sram ?_ | refine loopOff_sram ?_ | refine setParked_sram ?_ | refine enterErr_sram ?_ | refine traceTrig_sram ?_ | refine Sram.ite ?_ ?_ | split | dsimp only

theorem modeTake_sram {x0 : Nat} {x1 : Nat} {x2 : Int} (h : Sram a s) : Sram a (modeTake x0 x1 x2 s) := by
  unfold modeTake
  repeat' with_reducible first | assumption | refine traceTrig_sram ?_ | refine loopOff_sram ?_ | refine setParked_sram ?_ | refine State.modLoop_sram ?_ | refine State.clrFlag_sram ?_ | refine State.put_sram ?_ | refine Sram.ite ?_ ?_ | split | dsimp only

theorem takeMode_sram {x0 : Nat} {x1 : Int} (h : Sram a s) : Sram a (takeMode x0 x1 s) := by
  unfold takeMode
  repeat' with_reducible first | assumption | refine State.setLoop_sram ?_ | refine State.setFlag_sram ?_ | refine modeTake_sram ?_ | refine Sram.ite ?_ ?_ | split | dsimp only

theorem speedMark_sram {x0 : Nat} {x1 : Nat} (h : Sram a s) : Sram a (speedMark x0 x1 s) := by
  unfold speedMark
  repeat' with_reducible first | assumption | refine State.modLoop_sram ?_ | refine Sram.ite ?_ ?_ | split | dsimp only

theorem timeoutClose_sram {x0 : Nat} (h : Sram a s) : Sram a (timeoutClose x0 s) := by
  unfold timeoutClose
  repeat' with_reducible first | assumption | refine queueChan_sram ?_ | refine deliver_sram ?_ | refine State.setChan_sram ?_ | refine Sram.ite ?_ ?_ | split | dsimp only

theorem lowFall_sram {x0 : Nat} (h : Sram a s) : Sram a (lowFall x0 s) := by
  unfold lowFall
  repeat' with_reducible first | assumption | refine timeoutClose_sram ?_ | refine State.setChan_sram ?_ | refine queueChan_sram ?_ | refine deliver_sram ?_ | refine Sram.ite ?_ ?_ | split | dsimp only

theorem lowRise_sram {x0 : Nat} (h : Sram a s) : Sram a (lowRise x0 s) := by
  unfold lowRise
  repeat' with_reducible first | assumption | refine State.setChan_sram ?_ | refine Sram.ite ?_ ?_ | split | dsimp only

theorem zoneJudge_sram {x0 : Nat} (h : Sram a s) : Sram a (zoneJudge x0 s) := by
  unfold zoneJudge
  repeat' with_reducible first | assumption | refine State.setFlag_sram ?_ | refine State.put_sram ?_ | refine upTo_sram (fun _ _ _ => ?_) ?_ | refine Sram.ite ?_ ?_ | split | dsimp only

theorem memoryJudge_sram (h : Sram a s) : Sram a (memoryJudge s) := by
  unfold memoryJudge
  repeat' with_reducible first | assumption | refine zoneJudge_sram ?_ | refine State.setFlag_sram ?_ | refine State.put_sram ?_ | refine State.clrFlag_sram ?_ | refine upTo_sram (fun _ _ _ => ?_) ?_ | refine Sram.ite ?_ ?_ | split | dsimp only

theorem mfenceDone_sram {x0 : Nat} (h : Sram a s) : Sram a (mfenceDone x0 s) := by
  unfold mfenceDone
  repeat' with_reducible first | assumption | refine seqResume_sram ?_ | refine Sram.ite ?_ ?_ | split | dsimp only

theorem missedDone_sram {x0 : Nat} {x1 : Nat} (h : Sram a s) : Sram a (missedDone x0 x1 s) := by
  unfold missedDone
  repeat' with_reducible first | assumption | refine State.setTwin_sram ?_ | refine State.modFrame_sram ?_ | refine Sram.ite ?_ ?_ | split | dsimp only

theorem missedPass_sram {x0 : Sys2Proof.Machine.Op} {x1 : Nat} (h : Sram a s) : Sram a (missedPass x0 x1 s) := by
  unfold missedPass
  repeat' with_reducible first | assumption | refine limiterShadow_sram ?_ | refine forAll_sram (fun _ _ _ => ?_) ?_ | refine Sram.ite ?_ ?_ | split | dsimp only | refine Sram.set_twin ?_

theorem motionWindow_sram {x0 : Nat} {x1 : Bool} {x2 : Bool} (h : Sram a s) : Sram a (motionWindow x0 x1 x2 s) := by
  unfold motionWindow
  repeat' with_reducible first | assumption | refine State.setProof_sram ?_ | refine guardMs_sram ?_ | refine putBit_sram ?_ | refine guardLatch_sram ?_ | refine Sram.ite ?_ ?_ | split | dsimp only

theorem nrstFall_sram (h : Sram a s) : Sram a (nrstFall s) := by
  unfold nrstFall
  repeat' with_reducible first | assumption | refine Sram.ite ?_ ?_ | split | dsimp only | refine Sram.set_su ?_

theorem nrstRise_sram (h : Sram a s) : Sram a (nrstRise s) := by
  unfold nrstRise
  repeat' with_reducible first | assumption | refine release_sram ?_ | refine Sram.ite ?_ ?_ | split | dsimp only | refine Sram.set_su ?_

theorem nrstStuck_sram (h : Sram a s) : Sram a (nrstStuck s) := by
  unfold nrstStuck
  repeat' with_reducible first | assumption | refine State.setFlag_sram ?_ | refine release_sram ?_ | refine State.bumpSat_sram ?_ | refine State.put_sram ?_ | refine releaseOwn_sram ?_ | refine guardHold_sram ?_ | refine enterErr_sram ?_ | refine Sram.ite ?_ ?_ | split | dsimp only

theorem nrstStuckEnd_sram (h : Sram a s) : Sram a (nrstStuckEnd s) := by
  unfold nrstStuckEnd
  repeat' with_reducible first | assumption | refine guardUnhold_sram ?_ | refine State.clrFlag_sram ?_ | refine Sram.ite ?_ ?_ | split | dsimp only

theorem nvDone_sram (h : Sram a s) : Sram a (nvDone s) := by
  unfold nvDone
  repeat' with_reducible first | assumption | refine State.setNvPair_sram ?_ | refine nvBegin_sram ?_ | refine Sram.ite ?_ ?_ | split | dsimp only | refine Sram.set_sec ?_

theorem orderlyRecords_sram (h : Sram a s) : Sram a (orderlyRecords s) := by
  unfold orderlyRecords
  repeat' with_reducible first | assumption | refine nvDone_sram ?_ | refine nvWrite_sram ?_ | refine hwShutdownHot_sram ?_ | refine forAll_sram (fun _ _ _ => ?_) ?_ | refine Sram.ite ?_ ?_ | split | dsimp only

theorem ownLine_sram {x0 : Bool} (h : Sram a s) : Sram a (ownLine x0 s) := by
  unfold ownLine
  repeat' with_reducible first | assumption | refine State.setTwin_sram ?_ | refine Sram.ite ?_ ?_ | split | dsimp only

theorem paceDie_sram {x0 : Nat} {x1 : List Nat} (h : Sram a s) : Sram a (paceDie x0 x1 s) := by
  unfold paceDie
  repeat' with_reducible first | assumption | refine State.put_sram ?_ | refine State.setFlag_sram ?_ | refine State.clrFlag_sram ?_ | refine enterErr_sram ?_ | refine Sram.ite ?_ ?_ | split | dsimp only

theorem policyPace_sram {x0 : Nat} (h : Sram a s) : Sram a (policyPace x0 s) := by
  unfold policyPace
  repeat' with_reducible first | assumption | refine State.setPolicy_sram ?_ | refine Sram.ite ?_ ?_ | split | dsimp only

theorem paceWindow_sram {x0 : List (List Nat)} (h : Sram a s) : Sram a (paceWindow x0 s) := by
  unfold paceWindow
  repeat' with_reducible first | assumption | refine paceDie_sram ?_ | refine policyPace_sram ?_ | refine raiseEv_sram ?_ | refine State.setFlag_sram ?_ | refine upTo_sram (fun _ _ _ => ?_) ?_ | refine Sram.ite ?_ ?_ | split | dsimp only | refine Sram.set_pts ?_

theorem refuseParcel_sram {x0 : Nat} (h : Sram a s) : Sram a (refuseParcel x0 s) := by
  unfold refuseParcel
  repeat' with_reducible first | assumption | refine State.modLane_sram ?_ | refine Sram.ite ?_ ?_ | split | dsimp only

theorem takeParcelIn_sram {x0 : Nat} {x1 : Nat} {x2 : List Nat} (h : Sram a s) : Sram a (takeParcelIn x0 x1 x2 s) := by
  unfold takeParcelIn
  repeat' with_reducible first | assumption | refine refuseParcel_sram ?_ | refine State.bumpSat_sram ?_ | refine State.modLane_sram ?_ | refine State.bump_sram ?_ | refine grantDue_sram ?_ | refine State.setPort_sram ?_ | refine Sram.ite ?_ ?_ | split | dsimp only

theorem parcelReceive_sram {x0 : Nat} {x1 : Nat} {x2 : List Nat} (h : Sram a s) : Sram a (parcelReceive x0 x1 x2 s) := by
  unfold parcelReceive
  repeat' with_reducible first | assumption | refine takeParcelIn_sram ?_ | refine State.modLane_sram ?_ | refine Sram.ite ?_ ?_ | split | dsimp only

theorem parcelTimeout_sram {x0 : Nat} (h : Sram a s) : Sram a (parcelTimeout x0 s) := by
  unfold parcelTimeout
  repeat' with_reducible first | assumption | refine closeParcel_sram ?_ | refine Sram.ite ?_ ?_ | split | dsimp only

theorem parkLoop_sram {x0 : Nat} (h : Sram a s) : Sram a (parkLoop x0 s) := by
  unfold parkLoop
  repeat' with_reducible first | assumption | refine setParked_sram ?_ | refine loopOff_sram ?_ | refine State.setLoop_sram ?_ | refine State.put_sram ?_ | refine Sram.ite ?_ ?_ | split | dsimp only

theorem parkAll_sram (h : Sram a s) : Sram a (parkAll s) := by
  unfold parkAll
  repeat' with_reducible first | assumption | refine parkLoop_sram ?_ | refine State.setFlag_sram ?_ | refine upTo_sram (fun _ _ _ => ?_) ?_ | refine Sram.ite ?_ ?_ | split | dsimp only

theorem parkEnd_sram (h : Sram a s) : Sram a (parkEnd s) := by
  unfold parkEnd
  repeat' with_reducible first | assumption | refine closeStream_sram ?_ | refine forAll_sram (fun _ _ _ => ?_) ?_ | refine Sram.ite ?_ ?_ | split | dsimp only | refine Sram.set_therm ?_

theorem pathLost_sram {x0 : Nat} (h : Sram a s) : Sram a (pathLost x0 s) := by
  unfold pathLost
  repeat' with_reducible first | assumption | refine State.clrFlag_sram ?_ | refine enterErr_sram ?_ | refine twinMs_sram ?_ | refine State.setFlag_sram ?_ | refine cwyCheck_sram ?_ | refine State.setTwin_sram ?_ | refine twinRefuse_sram ?_ | refine Sram.ite ?_ ?_ | split | dsimp only

theorem phiTaken_sram {x0 : Nat} (h : Sram a s) : Sram a (phiTaken x0 s) := by
  unfold phiTaken
  repeat' with_reducible first | assumption | refine State.modHead_sram ?_ | refine Sram.ite ?_ ?_ | split | dsimp only

theorem portStep_sram {x0 : Nat} (h : Sram a s) : Sram a (portStep x0 s) := by
  unfold portStep
  repeat' with_reducible first | assumption | refine State.setSport_sram ?_ | refine Sram.ite ?_ ?_ | split | dsimp only

theorem portsHold_sram (h : Sram a s) : Sram a (portsHold s) := by
  unfold portsHold
  repeat' with_reducible first | assumption | refine portStep_sram ?_ | refine guardHold_sram ?_ | refine guardUnhold_sram ?_ | refine upTo_sram (fun _ _ _ => ?_) ?_ | refine Sram.ite ?_ ?_ | split | dsimp only

theorem powerOn_sram {b : Bool} (h : Sram a s) : Sram a (powerOn b s) := by
  unfold powerOn
  split
  · exact h
  · extract_lets su1 s1 s2
    have h2 : Sram a s2 := State.putb_sram (State.bump_sram (show Sram a s1 from h))
    clear_value s2
    exact Sram.ite (release_sram h2) h2

theorem prbsCheck_sram {x0 : Nat} {x1 : Bool} (h : Sram a s) : Sram a (prbsCheck x0 x1 s) := by
  unfold prbsCheck
  repeat' with_reducible first | assumption | refine State.setLane_sram ?_ | refine State.put_sram ?_ | refine State.bumpSat_sram ?_ | refine State.clrFlag_sram ?_ | refine State.setFlag_sram ?_ | refine Sram.ite ?_ ?_ | split | dsimp only

theorem touchFrond_sram {x0 : Nat} {x1 : Nat} {x2 : Nat} {x3 : Sys2Proof.Machine.ScanFormat} {x4 : Sys2Proof.Machine.FrondRef} (h : Sram a s) : Sram a (touchFrond x0 x1 x2 x3 x4 s) := by
  unfold touchFrond
  repeat' with_reducible first | assumption | refine dramSpan_sram ?_ | refine forAll_sram (fun _ _ _ => ?_) ?_ | refine Sram.ite ?_ ?_ | split | dsimp only

theorem prefetch_sram {x0 : Nat} {x1 : Nat} {x2 : Nat} (h : Sram a s) : Sram a (prefetch x0 x1 x2 s) := by
  unfold prefetch
  repeat' with_reducible first | assumption | refine touchFrond_sram ?_ | refine State.setHead_sram ?_ | refine State.setFlag_sram ?_ | refine markFrondTorn_sram ?_ | refine forAll_sram (fun _ _ _ => ?_) ?_ | refine Sram.ite ?_ ?_ | split | dsimp only

theorem pulseFire_sram {x0 : Nat} {x1 : Nat} (h : Sram a s) : Sram a (pulseFire x0 x1 s) := by
  unfold pulseFire
  repeat' with_reducible first | assumption | refine suppress_sram ?_ | refine openWindow_sram ?_ | refine limiterShadow_sram ?_ | refine fireBank_sram ?_ | refine Sram.ite ?_ ?_ | split | dsimp only

theorem pushSplit_sram {n len val : Nat} (h : Sram a s) : Sram a (pushSplit n len val s) := by
  induction n generalizing len val s with
  | zero => exact h
  | succ n ih =>
    unfold pushSplit
    split
    · exact h
    · exact ih (pushStream_sram (Sram.ite h (closeParcel_sram h)))

theorem putLine_sram {x0 : Nat} {x1 : List Bool} (h : Sram a s) : Sram a (putLine x0 x1 s) := by
  unfold putLine
  repeat' with_reducible first | assumption | refine State.setLane_sram ?_ | refine lineReceive_sram ?_ | refine Sram.ite ?_ ?_ | split | dsimp only

theorem putWords_sram {x0 : Nat → Nat} {x1 : Nat} {x2 : Nat} (h : Sram a s) : Sram a (putWords x0 x1 x2 s) := by
  unfold putWords
  repeat' with_reducible first | assumption | refine State.setReg_sram ?_ | refine upTo_sram (fun _ _ _ => ?_) ?_ | refine Sram.ite ?_ ?_ | split | dsimp only

theorem rearmEnd_sram {x0 : Nat} (h : Sram a s) : Sram a (rearmEnd x0 s) := by
  unfold rearmEnd
  repeat' with_reducible first | assumption | refine State.setChan_sram ?_ | refine Sram.ite ?_ ?_ | split | dsimp only

theorem reductionEnd_sram {x0 : Nat} {x1 : Nat} (h : Sram a s) : Sram a (reductionEnd x0 x1 s) := by
  unfold reductionEnd
  repeat' with_reducible first | assumption | refine State.setDie_sram ?_ | refine State.setOp_sram ?_ | refine State.add_sram ?_ | refine State.setFlag_sram ?_ | refine pushStream_sram ?_ | refine forAll_sram (fun _ _ _ => ?_) ?_ | refine Sram.ite ?_ ?_ | split | dsimp only

theorem refIssue_sram {x0 : Nat} (h : Sram a s) : Sram a (refIssue x0 s) := by
  unfold refIssue
  repeat' with_reducible first | assumption | refine State.bumpSat_sram ?_ | refine State.bump_sram ?_ | refine issue_sram ?_ | refine Sram.ite ?_ ?_ | split | dsimp only | refine Sram.set_therm ?_

theorem replayRec_sram {x0 : Nat} {x1 : Nat} {x2 : Nat} {x3 : Nat} {x4 : Nat} {x5 : Nat} (h : Sram a s) : Sram a (replayRec x0 x1 x2 x3 x4 x5 s) := by
  unfold replayRec
  repeat' with_reducible first | assumption | refine pushSplit_sram ?_ | refine Sram.ite ?_ ?_ | split | dsimp only

theorem replayEnd_sram {x0 : Sys2Proof.Machine.Reader} (h : Sram a s) : Sram a (replayEnd x0 s) := by
  unfold replayEnd
  repeat' with_reducible first | assumption | refine replayRec_sram ?_ | refine State.clrFlag_sram ?_ | refine State.setDram_sram ?_ | refine Sram.ite ?_ ?_ | split | dsimp only

theorem replayOne_sram {x0 : Sys2Proof.Machine.Reader} {x1 : Sys2Proof.Machine.ReplayCopy} (h : Sram a s) : Sram a (replayOne x0 x1 s) := by
  unfold replayOne
  repeat' with_reducible first | assumption | refine dramRing_sram ?_ | refine replayRec_sram ?_ | refine State.setDram_sram ?_ | refine Sram.ite ?_ ?_ | split | dsimp only

theorem replaySend_sram (h : Sram a s) : Sram a (replaySend s) := by
  unfold replaySend
  split
  · exact h
  · split
    · exact h
    · extract_lets s1
      have h1 : Sram a s1 := replayStore_sram h
      clear_value s1
      split
      · exact h1
      · extract_lets lost s2 rd
        have h2 : Sram a s2 := Sram.ite h1 (State.setFlag_sram h1)
        clear_value s2 rd
        split
        · split
          · exact replayEnd_sram h2
          · exact Sram.ite h2 (replayOne_sram h2)
        · exact replayEnd_sram h2

theorem replyDeadline_sram {x0 : Nat} (h : Sram a s) : Sram a (replyDeadline x0 s) := by
  unfold replyDeadline
  repeat' with_reducible first | assumption | refine iuFree_sram ?_ | refine State.setDrv_sram ?_ | refine State.setBank_sram ?_ | refine bankFail_sram ?_ | refine State.bumpSat_sram ?_ | refine State.setFlag_sram ?_ | refine upTo_sram (fun _ _ _ => ?_) ?_ | refine Sram.ite ?_ ?_ | split | dsimp only

theorem statBit_sram {x0 : Nat} {x1 : Nat} {x2 : Nat} {x3 : Nat} {x4 : Nat} (h : Sram a s) : Sram a (statBit x0 x1 x2 x3 x4 s) := by
  unfold statBit
  repeat' with_reducible first | assumption | refine enterErr_sram ?_ | refine Sram.ite ?_ ?_ | split | dsimp only

theorem replyGood_sram {x0 : Nat} {x1 : Nat} {x2 : Nat} {x3 : Nat} {x4 : Nat} {x5 : Sys2Proof.Machine.Exchange} (h : Sram a s) : Sram a (replyGood x0 x1 x2 x3 x4 x5 s) := by
  unfold replyGood
  repeat' with_reducible first | assumption | refine State.put_sram ?_ | refine State.modBank_sram ?_ | refine statBit_sram ?_ | refine cableUpdate_sram ?_ | refine emitReading_sram ?_ | refine bankFail_sram ?_ | refine Sram.ite ?_ ?_ | split | dsimp only

theorem replyFrame_sram {x0 : Nat} {x1 : Nat} {x2 : Nat} (h : Sram a s) : Sram a (replyFrame x0 x1 x2 s) := by
  unfold replyFrame
  repeat' with_reducible first | assumption | refine replyGood_sram ?_ | refine Sram.ite ?_ ?_ | split | dsimp only

theorem riseWarn_sram {x0 : Int} (h : Sram a s) : Sram a (riseWarn x0 s) := by
  unfold riseWarn
  repeat' with_reducible first | assumption | refine raiseEv_sram ?_ | refine State.setFlag_sram ?_ | refine Sram.ite ?_ ?_ | split | dsimp only

theorem rqPlace_sram {x0 : Nat} {x1 : Nat} (h : Sram a s) : Sram a (rqPlace x0 x1 s) := by
  unfold rqPlace
  repeat' with_reducible first | assumption | refine State.bumpSat_sram ?_ | refine State.setFlag_sram ?_ | refine Sram.ite ?_ ?_ | split | dsimp only | refine Sram.set_hk ?_

theorem seqFault_sram {x0 : Nat} {x1 : Nat} (h : Sram a s) : Sram a (seqFault x0 x1 s) := by
  unfold seqFault
  repeat' with_reducible first | assumption | refine State.setSeq_sram ?_ | refine State.bumpSat_sram ?_ | refine State.put_sram ?_ | refine enterErr_sram ?_ | refine Sram.ite ?_ ?_ | split | dsimp only

theorem seqsSafe_sram (h : Sram a s) : Sram a (seqsSafe s) := by
  unfold seqsSafe
  repeat' with_reducible first | assumption | refine seqFault_sram ?_ | refine dropProbe_sram ?_ | refine State.setSeq_sram ?_ | refine abandonWhere_sram ?_ | refine upTo_sram (fun _ _ _ => ?_) ?_ | refine forAll_sram (fun _ _ _ => ?_) ?_ | refine Sram.ite ?_ ?_ | split | dsimp only

theorem safeEntry_sram (h : Sram a s) : Sram a (safeEntry s) := by
  unfold safeEntry
  repeat' with_reducible first | assumption | refine State.setFlag_sram ?_ | refine releaseOwn_sram ?_ | refine stopHead_sram ?_ | refine seqsSafe_sram ?_ | refine guardLatch_sram ?_ | refine Sram.ite ?_ ?_ | split | dsimp only | refine Sram.set_su ?_

theorem serveVisit_sram {x0 : Nat} {x1 : Sys2Proof.Machine.Visit} {x2 : Nat} {x3 : Nat} {x4 : Nat} {x5 : Sys2Proof.Machine.Op} (h : Sram a s) : Sram a (serveVisit x0 x1 x2 x3 x4 x5 s) := by
  unfold serveVisit
  repeat' with_reducible first | assumption | refine State.setOp_sram ?_ | refine Sram.ite ?_ ?_ | split | dsimp only

theorem selfRefreshEnter_sram {x0 : Nat} (h : Sram a s) : Sram a (selfRefreshEnter x0 s) := by
  unfold selfRefreshEnter
  repeat' with_reducible first | assumption | refine State.bump_sram ?_ | refine State.setFlag_sram ?_ | refine Sram.ite ?_ ?_ | split | dsimp only

theorem sendParcel_sram {x0 : Nat} {x1 : Nat} {x2 : Sys2Proof.Machine.Parcel} {x3 : Bool} (h : Sram a s) : Sram a (sendParcel x0 x1 x2 x3 s).1 := by
  unfold sendParcel
  repeat' with_reducible first | assumption | refine State.setLane_sram ?_ | refine State.bump_sram ?_ | refine Sram.ite ?_ ?_ | split | dsimp only

theorem takeReading_sram {x0 : Nat × Nat × Int} (h : Sram a s) : Sram a (takeReading x0 s) := by
  unfold takeReading
  repeat' with_reducible first | assumption | refine State.setSensor_sram ?_ | refine State.puti_sram ?_ | refine Sram.ite ?_ ?_ | split | dsimp only

theorem setCap_sram (h : Sram a s) : Sram a (setCap s) := by
  unfold setCap
  repeat' with_reducible first | assumption | refine State.put_sram ?_ | refine Sram.ite ?_ ?_ | split | dsimp only

theorem temperatures_sram (h : Sram a s) : Sram a (temperatures s) := by
  unfold temperatures
  repeat' with_reducible first | assumption | refine State.puti_sram ?_ | refine State.drawIf_sram ?_ | refine Sram.pair2 (by assumption) (State.drawIf_sram ?_) | refine levelStep_sram ?_ | refine setCap_sram ?_ | refine riseWarn_sram ?_ | refine forAll_sram (fun _ _ _ => ?_) ?_ | refine Sram.ite ?_ ?_ | split | dsimp only

theorem sensorConversion_sram {x0 : List (Nat × Nat × Int)} (h : Sram a s) : Sram a (sensorConversion x0 s) := by
  unfold sensorConversion
  repeat' with_reducible first | assumption | refine takeReading_sram ?_ | refine faultSensor_sram ?_ | refine temperatures_sram ?_ | refine portsHold_sram ?_ | refine dueByTemp_sram ?_ | refine forAll_sram (fun _ _ _ => ?_) ?_ | refine upTo_sram (fun _ _ _ => ?_) ?_ | refine Sram.ite ?_ ?_ | split | dsimp only | refine Sram.set_therm ?_

theorem seqAdvance_sram {x0 : Nat} {x1 : Nat} (h : Sram a s) : Sram a (seqAdvance x0 x1 s) := by
  unfold seqAdvance
  repeat' with_reducible first | assumption | refine State.bump_sram ?_ | refine State.put_sram ?_ | refine Sram.ite ?_ ?_ | split | dsimp only

theorem seqConvert_sram {x0 : Nat} {x1 : Nat} {x2 : Nat} (h : Sram a s) : Sram a (seqConvert x0 x1 x2 s) := by
  unfold seqConvert
  repeat' with_reducible first | assumption | refine rqPlace_sram ?_ | refine capValue_sram ?_ | refine Sram.ite ?_ ?_ | split | dsimp only

theorem seqDrain_sram {l : List Nat} (h : Sram a s) : Sram a (seqDrain l s) := by
  induction l generalizing s with
  | nil => exact h
  | cons c r ih =>
    have k := fun (v : Housekeeping) (w t : Nat) => seqConvert_sram (x0 := w) (x1 := t) (x2 := c) (Sram.set_hk (v := v) h)
    unfold seqDrain
    cases s.hk.seqTail with
    | nil => exact h
    | cons p l => exact Sram.ite h (ih (k _ _ _))

theorem seqEnd_sram {n : Nat} {t : State} {f : Flow} (h : Sram a s) (k : Sram a t) : Sram a (seqEnd n s t f) := by
  unfold seqEnd
  repeat' with_reducible first | assumption | refine seqAdvance_sram ?_ | refine seqFault_sram ?_ | refine State.put_sram ?_ | refine State.setSeq_sram ?_ | refine Sram.ite ?_ ?_ | split | dsimp only

theorem seqNext_sram {x0 : Nat} (h : Sram a s) : Sram a (seqNext x0 s) := by
  unfold seqNext
  repeat' with_reducible first | assumption | refine seqTurn_sram ?_ | refine Sram.ite ?_ ?_ | split | dsimp only

theorem seqRun_sram {l : List Nat} (h : Sram a s) : Sram a (seqRun l s) := by
  induction l generalizing s with
  | nil => exact h
  | cons c r ih =>
    have k := fun (v : Housekeeping) (w t : Nat) => seqConvert_sram (x0 := w) (x1 := t) (x2 := c) (Sram.set_hk (v := v) h)
    exact Sram.ite h (Sram.ite (seqNext_sram (k _ _ _)) (ih (k _ _ _)))

theorem seqPort_sram {x0 : Nat} (h : Sram a s) : Sram a (seqPort x0 s) := by
  unfold seqPort
  repeat' with_reducible first | assumption | refine rqPlace_sram ?_ | refine Sram.ite ?_ ?_ | split | dsimp only

theorem seqEntry_sram {x0 : List Nat} (h : Sram a s) : Sram a (seqEntry x0 s) := by
  unfold seqEntry
  repeat' with_reducible first | assumption | refine seqDrain_sram ?_ | refine seqRun_sram ?_ | refine seqNext_sram ?_ | refine seqPort_sram ?_ | refine Sram.ite ?_ ?_ | split | dsimp only

theorem seqSkip_sram {x0 : Nat} (h : Sram a s) : Sram a (seqSkip x0 s) := by
  unfold seqSkip
  repeat' with_reducible first | assumption | refine State.put_sram ?_ | refine seqFault_sram ?_ | refine Sram.ite ?_ ?_ | split | dsimp only

theorem seqInstr_sram {n opc : Nat} {body : Body} (hb : ∀ i t, Sram a t → Sram a (body n i t).1) (h : Sram a s) :
    Sram a (seqInstr n opc body s) := by
  unfold seqInstr
  repeat' with_reducible first | assumption | exact seqFault_sram h | exact seqEnd_sram h (hb _ _ h) | exact seqEnd_sram h h | exact seqSkip_sram h | refine Sram.ite ?_ ?_ | split | dsimp only

theorem setQual_sram {x0 : Nat} (h : Sram a s) : Sram a (setQual x0 s) := by
  unfold setQual
  repeat' with_reducible first | assumption | refine syncQualChanged_sram ?_ | refine State.put_sram ?_ | refine Sram.ite ?_ ?_ | split | dsimp only

theorem settle_sram (h : Sram a s) : Sram a (settle s) := by
  unfold settle
  repeat' with_reducible first | assumption | refine safeEntry_sram ?_ | refine Sram.ite ?_ ?_ | split | dsimp only | refine Sram.set_su ?_

theorem standbyTakes_sram {x0 : Nat} {x1 : Nat} (h : Sram a s) : Sram a (standbyTakes x0 x1 s) := by
  unfold standbyTakes
  repeat' with_reducible first | assumption | refine State.modHead_sram ?_ | refine State.modFrame_sram ?_ | refine State.setOp_sram ?_ | refine forAll_sram (fun _ _ _ => ?_) ?_ | refine Sram.ite ?_ ?_ | split | dsimp only

theorem shadowDeclined_sram {x0 : Nat} {x1 : Nat} {x2 : Nat} {x3 : Nat} (h : Sram a s) : Sram a (shadowDeclined x0 x1 x2 x3 s) := by
  unfold shadowDeclined
  repeat' with_reducible first | assumption | refine standbyTakes_sram ?_ | refine State.modFrame_sram ?_ | refine releaseOp_sram ?_ | refine State.modHead_sram ?_ | refine Sram.ite ?_ ?_ | split | dsimp only

theorem shadowEgress_sram {x0 : Nat} {x1 : Nat} {x2 : Nat} {x3 : Nat} {x4 : Nat} {x5 : Nat} (h : Sram a s) : Sram a (shadowEgress x0 x1 x2 x3 x4 x5 s) := by
  unfold shadowEgress
  repeat' with_reducible first | assumption | refine missedDone_sram ?_ | refine State.setTwin_sram ?_ | refine Sram.ite ?_ ?_ | split | dsimp only

theorem shadowMiss_sram {x0 : Sys2Proof.Machine.Op} (h : Sram a s) : Sram a (shadowMiss x0 s) := by
  unfold shadowMiss
  repeat' with_reducible first | assumption | refine State.modHead_sram ?_ | refine State.bumpSat_sram ?_ | refine State.modFrame_sram ?_ | refine missedPass_sram ?_ | refine State.setTwin_sram ?_ | refine Sram.ite ?_ ?_ | split | dsimp only

theorem shadowIssued_sram {x0 : Nat} {x1 : Nat} {x2 : Nat} {x3 : Nat} {x4 : Nat} {x5 : List Nat} {x6 : Nat} {x7 : Nat} {x8 : Nat} (h : Sram a s) : Sram a (shadowIssued x0 x1 x2 x3 x4 x5 x6 x7 x8 s) := by
  unfold shadowIssued
  repeat' with_reducible first | assumption | refine alignHead_sram ?_ | refine State.setOp_sram ?_ | refine State.modFrame_sram ?_ | refine releaseOp_sram ?_ | refine issue_sram ?_ | refine shadowMiss_sram ?_ | refine Sram.ite ?_ ?_ | split | dsimp only

theorem shadowPulses_sram {x0 : Nat} {x1 : Nat} {x2 : Nat} {x3 : List Nat} (h : Sram a s) : Sram a (shadowPulses x0 x1 x2 x3 s) := by
  unfold shadowPulses
  repeat' with_reducible first | assumption | refine State.setTwin_sram ?_ | refine limiterUndo_sram ?_ | refine State.setOp_sram ?_ | refine Sram.ite ?_ ?_ | split | dsimp only

theorem shadowNotice_sram {x0 : Sys2Proof.ShadowNotice} (h : Sram a s) : Sram a (shadowNotice x0 s) := by
  unfold shadowNotice
  repeat' with_reducible first | assumption | refine shadowIssued_sram ?_ | refine shadowDeclined_sram ?_ | refine shadowPulses_sram ?_ | refine shadowEgress_sram ?_ | refine Sram.ite ?_ ?_ | split | dsimp only

theorem signalDetect_sram {x0 : Nat} (h : Sram a s) : Sram a (signalDetect x0 s) := by
  unfold signalDetect
  repeat' with_reducible first | assumption | refine State.modLane_sram ?_ | refine State.put_sram ?_ | refine Sram.ite ?_ ?_ | split | dsimp only

theorem sleepEnd_sram {x0 : Nat} (h : Sram a s) : Sram a (sleepEnd x0 s) := by
  unfold sleepEnd
  repeat' with_reducible first | assumption | refine seqResume_sram ?_ | refine Sram.ite ?_ ?_ | split | dsimp only

theorem sleepEnter_sram {x0 : Nat} (h : Sram a s) : Sram a (sleepEnter x0 s) := by
  unfold sleepEnter
  repeat' with_reducible first | assumption | refine State.put_sram ?_ | refine putLine_sram ?_ | refine State.modLane_sram ?_ | refine Sram.ite ?_ ?_ | split | dsimp only

theorem sleepReceive_sram {x0 : Nat} {x1 : Bool} (h : Sram a s) : Sram a (sleepReceive x0 x1 s) := by
  unfold sleepReceive
  repeat' with_reducible first | assumption | refine State.put_sram ?_ | refine State.modLane_sram ?_ | refine State.clrFlag_sram ?_ | refine Sram.ite ?_ ?_ | split | dsimp only

theorem takeParcel_sram {l : Nat} {p : State × Nat} (e : takeParcel l s = some p) (h : Sram a s) : Sram a p.1 := by
  unfold takeParcel at e
  extract_lets w at e
  have hw : Sram a w := Sram.ite (copyNext_sram h) h
  clear_value w
  dsimp only at e
  split at e
  · cases e; exact sendParcel_sram (State.setLane_sram hw)
  · split at e
    · cases e
    · split at e
      · cases e
      · split at e
        · cases e
        · cases e
          refine sendParcel_sram (State.setLane_sram ?_)
          split
          · exact State.setPort_sram (State.setStream_sram hw)
          · exact State.setStream_sram hw

theorem upSlot_sram {l : Nat} (h : Sram a s) : Sram a (upSlot l s).1 := by
  unfold upSlot
  extract_lets x idle control
  have hi : Sram a idle.1 := by unfold idle; dsimp only; exact State.modLane_sram h
  have hc : Sram a control.1 := by
    unfold control
    split
    · next d e => dsimp only; exact State.modLane_sram (dueBlock_sram e h)
    · exact hi
  clear_value idle control x
  split
  · split
    · dsimp only; exact State.setLane_sram h
    · exact hc
  · split
    · exact hi
    · split
      · exact hc
      · split
        · next d e => dsimp only; exact State.modLane_sram (takeParcel_sram e h)
        · exact hi

theorem slotBlock_sram {l : Nat} {p : State × Bool × Nat × Bool} (e : slotBlock l s = some p) (h : Sram a s) :
    Sram a p.1 := by
  unfold slotBlock at e
  dsimp only at e
  split at e
  · cases e; exact h
  · split at e
    · split at e
      · cases e; dsimp only; exact State.modLane_sram h
      · cases e; exact h
    · split at e
      · cases e; exact upSlot_sram h
      · cases e

theorem spOutput_sram {x0 : Nat} {x1 : Nat} {x2 : Int} (h : Sram a s) : Sram a (spOutput x0 x1 x2 s) := by
  unfold spOutput
  repeat' with_reducible first | assumption | refine State.setSport_sram ?_ | refine State.putb_sram ?_ | refine State.bump_sram ?_ | refine State.puti_sram ?_ | refine Sram.ite ?_ ?_ | split | dsimp only

theorem spBreak_sram {x0 : Nat} (h : Sram a s) : Sram a (spBreak x0 s) := by
  unfold spBreak
  repeat' with_reducible first | assumption | refine State.setSport_sram ?_ | refine State.setFlag_sram ?_ | refine spOutput_sram ?_ | refine enterErr_sram ?_ | refine portsHold_sram ?_ | refine Sram.ite ?_ ?_ | split | dsimp only

theorem takeCurve_sram {x0 : Nat} (h : Sram a s) : Sram a (takeCurve x0 s) := by
  unfold takeCurve
  repeat' with_reducible first | assumption | refine State.put_sram ?_ | refine State.setSport_sram ?_ | refine upTo_sram (fun _ _ _ => ?_) ?_ | refine Sram.ite ?_ ?_ | split | dsimp only

theorem spFilter_sram {x0 : Nat} {x1 : Int × Bool} (h : Sram a s) : Sram a (spFilter x0 x1 s) := by
  unfold spFilter
  repeat' with_reducible first | assumption | refine State.setSport_sram ?_ | refine State.setFlag_sram ?_ | refine takeCurve_sram ?_ | refine capValue_sram ?_ | refine spOutput_sram ?_ | refine State.puti_sram ?_ | refine Sram.ite ?_ ?_ | split | dsimp only

theorem spSample_sram {x0 : Nat} {x1 : Sys2Proof.Machine.Pulse} (h : Sram a s) : Sram a (spSample x0 x1 s) := by
  unfold spSample
  repeat' with_reducible first | assumption | refine State.setSport_sram ?_ | refine spBreak_sram ?_ | refine State.clrFlag_sram ?_ | refine portsHold_sram ?_ | refine State.drawIf_sram ?_ | refine Sram.pair2 (by assumption) (State.drawIf_sram ?_) | refine spFilter_sram ?_ | refine Sram.ite ?_ ?_ | split | dsimp only

theorem stageEnd_sram {x0 : Nat} (h : Sram a s) : Sram a (stageEnd x0 s) := by
  unfold stageEnd
  repeat' with_reducible first | assumption | refine bootError_sram ?_ | refine State.put_sram ?_ | refine Sram.ite ?_ ?_ | split | dsimp only | refine Sram.set_su ?_

theorem stageCalibration_sram {x0 : List (Nat × Int)} (h : Sram a s) : Sram a (stageCalibration x0 s) := by
  unfold stageCalibration
  repeat' with_reducible first | assumption | refine calNow_sram ?_ | refine stageEnd_sram ?_ | refine Sram.ite ?_ ?_ | split | dsimp only | refine Sram.set_therm ?_

theorem takeDieRecord_sram {x0 : Sys2Proof.DieRecord} (h : Sram a s) : Sram a (takeDieRecord x0 s) := by
  unfold takeDieRecord
  repeat' with_reducible first | assumption | refine State.put_sram ?_ | refine State.putb_sram ?_ | refine dieDark_sram ?_ | refine enterErr_sram ?_ | refine Sram.ite ?_ ?_ | split | dsimp only | refine Sram.set_pts ?_

theorem stageDies_sram {x0 : List Sys2Proof.DieRecord} (h : Sram a s) : Sram a (stageDies x0 s) := by
  unfold stageDies
  repeat' with_reducible first | assumption | refine stageEnd_sram ?_ | refine bootError_sram ?_ | refine takeDieRecord_sram ?_ | refine forAll_sram (fun _ _ _ => ?_) ?_ | refine Sram.ite ?_ ?_ | split | dsimp only

theorem stageGuard_sram {x0 : Bool} (h : Sram a s) : Sram a (stageGuard x0 s) := by
  unfold stageGuard
  repeat' with_reducible first | assumption | refine State.putb_sram ?_ | refine bootError_sram ?_ | refine releaseOwn_sram ?_ | refine guardLatch_sram ?_ | refine guardTo_sram ?_ | refine stageEnd_sram ?_ | refine ginBegin_sram ?_ | refine Sram.ite ?_ ?_ | split | dsimp only | refine Sram.set_guard ?_

theorem stageMemory_sram {x0 : List Sys2Proof.PortRecord} (h : Sram a s) : Sram a (stageMemory x0 s) := by
  unfold stageMemory
  repeat' with_reducible first | assumption | refine State.put_sram ?_ | refine State.putb_sram ?_ | refine enterErr_sram ?_ | refine State.setFlag_sram ?_ | refine bootError_sram ?_ | refine State.setDram_sram ?_ | refine stageEnd_sram ?_ | refine memoryJudge_sram ?_ | refine upTo_sram (fun _ _ _ => ?_) ?_ | refine Sram.ite ?_ ?_ | split | dsimp only

theorem stageReady_sram (h : Sram a s) : Sram a (stageReady s) := by
  unfold stageReady
  repeat' with_reducible first | assumption | refine laneEnable_sram ?_ | refine sqStart_sram ?_ | refine State.put_sram ?_ | refine State.setFlag_sram ?_ | refine upTo_sram (fun _ _ _ => ?_) ?_ | refine forAll_sram (fun _ _ _ => ?_) ?_ | refine Sram.ite ?_ ?_ | split | dsimp only | refine Sram.set_su ?_

theorem tableInstall_sram {x0 : Nat} (h : Sram a s) : Sram a (tableInstall x0 s) := by
  unfold tableInstall
  repeat' with_reducible first | assumption | refine State.setReg_sram ?_ | refine State.put_sram ?_ | refine State.setSec_sram ?_ | refine Sram.ite ?_ ?_ | split | dsimp only | refine Sram.set_guard ?_

theorem stepMove_sram {x0 : Nat} {x1 : Nat} (h : Sram a s) : Sram a (stepMove x0 x1 s) := by
  unfold stepMove
  repeat' with_reducible first | assumption | refine State.modLoop_sram ?_ | refine Sram.ite ?_ ?_ | split | dsimp only

theorem stuckHigh_sram {x0 : Nat} (h : Sram a s) : Sram a (stuckHigh x0 s) := by
  unfold stuckHigh
  repeat' with_reducible first | assumption | refine timeoutClose_sram ?_ | refine enterErr_sram ?_ | refine State.setFlag_sram ?_ | refine State.setChan_sram ?_ | refine Sram.ite ?_ ?_ | split | dsimp only

theorem supplyConversion_sram {x0 : Nat} {x1 : Nat} (h : Sram a s) : Sram a (supplyConversion x0 x1 s) := by
  unfold supplyConversion
  repeat' with_reducible first | assumption | refine capValue_sram ?_ | refine State.put_sram ?_ | refine enterErr_sram ?_ | refine Sram.ite ?_ ?_ | split | dsimp only | refine Sram.set_hk ?_

theorem syncMiss_sram {x0 : Nat} (h : Sram a s) : Sram a (syncMiss x0 s) := by
  unfold syncMiss
  repeat' with_reducible first | assumption | refine State.bumpSat_sram ?_ | refine State.setFlag_sram ?_ | refine setQual_sram ?_ | refine Sram.ite ?_ ?_ | split | dsimp only | refine Sram.set_tb ?_

theorem syncGrade_sram {x0 : Nat} (h : Sram a s) : Sram a (syncGrade x0 s).1 := by
  unfold syncGrade
  repeat' with_reducible first | assumption | refine setQual_sram ?_ | refine State.setFlag_sram ?_ | refine State.put_sram ?_ | refine Sram.ite ?_ ?_ | split | dsimp only | refine Sram.set_tb ?_

theorem syncEdge_sram {x0 : Nat} {x1 : Bool} {x2 : Nat} (h : Sram a s) : Sram a (syncEdge x0 x1 x2 s) := by
  unfold syncEdge
  repeat' with_reducible first | assumption | refine syncMiss_sram ?_ | refine syncGrade_sram ?_ | refine Sram.pair (by assumption) (syncGrade_sram ?_) | refine raiseEv_sram ?_ | refine State.setFlag_sram ?_ | refine Sram.ite ?_ ?_ | split | dsimp only | refine Sram.set_tb ?_

theorem tbLock_sram (h : Sram a s) : Sram a (tbLock s) := by
  unfold tbLock
  repeat' with_reducible first | assumption | refine State.clrFlag_sram ?_ | refine State.setFlag_sram ?_ | refine Sram.ite ?_ ?_ | split | dsimp only | refine Sram.set_tb ?_

theorem tbLoss_sram (h : Sram a s) : Sram a (tbLoss s) := by
  unfold tbLoss
  repeat' with_reducible first | assumption | refine State.setFlag_sram ?_ | refine State.clrFlag_sram ?_ | refine State.bumpSat_sram ?_ | refine releaseOwn_sram ?_ | refine dropOpenEvents_sram ?_ | refine enterErr_sram ?_ | refine Sram.ite ?_ ?_ | split | dsimp only

theorem thermalLevel_sram (h : Sram a s) : Sram a (thermalLevel s) := by
  unfold thermalLevel
  repeat' with_reducible first | assumption | refine State.putb_sram ?_ | refine State.put_sram ?_ | refine setCap_sram ?_ | refine enterErr_sram ?_ | refine raiseEv_sram ?_ | refine hwShutdownHot_sram ?_ | refine orderlyStop_sram ?_ | refine Sram.ite ?_ ?_ | split | dsimp only

theorem tofsUpdate_sram {x0 : List Nat} {x1 : List Nat} (h : Sram a s) : Sram a (tofsUpdate x0 x1 s) := by
  unfold tofsUpdate
  repeat' with_reducible first | assumption | refine State.setTwin_sram ?_ | refine State.put_sram ?_ | refine Sram.ite ?_ ?_ | split | dsimp only

theorem tollHoldEnd_sram {x0 : Nat} {x1 : Nat} (h : Sram a s) : Sram a (tollHoldEnd x0 x1 s) := by
  unfold tollHoldEnd
  repeat' with_reducible first | assumption | refine dramResume_sram ?_ | refine State.setDram_sram ?_ | refine Sram.ite ?_ ?_ | split | dsimp only

theorem transmitSlot_sram {l : Nat} (h : Sram a s) : Sram a (transmitSlot l s) := by
  unfold transmitSlot
  split
  · exact h
  · split
    · exact putLine_sram (State.modLane_sram h)
    · split
      · exact State.modLane_sram h
      · next e => exact putLine_sram (State.setLane_sram (slotBlock_sram e h))

theorem twinGuard_sram {x0 : Bool} {x1 : Bool} {x2 : List (Bool × Bool)} (h : Sram a s) : Sram a (twinGuard x0 x1 x2 s) := by
  unfold twinGuard
  repeat' with_reducible first | assumption | refine State.putb_sram ?_ | refine twinMs_sram ?_ | refine twinCheck_sram ?_ | refine twinCompare_sram ?_ | refine guardLatch_sram ?_ | refine Sram.ite ?_ ?_ | split | dsimp only | refine Sram.set_guard ?_

theorem txWake_sram {x0 : Nat} (h : Sram a s) : Sram a (txWake x0 s) := by
  unfold txWake
  repeat' with_reducible first | assumption | refine State.modLane_sram ?_ | refine State.put_sram ?_ | refine Sram.ite ?_ ?_ | split | dsimp only

theorem unknownBlock_sram {x0 : Nat} {x1 : Nat} (h : Sram a s) : Sram a (unknownBlock x0 x1 s) := by
  unfold unknownBlock
  repeat' with_reducible first | assumption | refine State.bumpSat_sram ?_ | refine Sram.ite ?_ ?_ | split | dsimp only

theorem waitTimeout_sram {x0 : Nat} (h : Sram a s) : Sram a (waitTimeout x0 s) := by
  unfold waitTimeout
  repeat' with_reducible first | assumption | refine seqResume_sram ?_ | refine State.setGreg_sram ?_ | refine Sram.ite ?_ ?_ | split | dsimp only

theorem waitWake_sram {x0 : Nat} (h : Sram a s) : Sram a (waitWake x0 s) := by
  unfold waitWake
  repeat' with_reducible first | assumption | refine seqResume_sram ?_ | refine takeMask_sram ?_ | refine takeLine_sram ?_ | refine Sram.ite ?_ ?_ | split | dsimp only

theorem wakeLockTimeout_sram {x0 : Nat} (h : Sram a s) : Sram a (wakeLockTimeout x0 s) := by
  unfold wakeLockTimeout
  repeat' with_reducible first | assumption | refine laneStart_sram ?_ | refine Sram.ite ?_ ?_ | split | dsimp only

theorem wakeResume_sram {x0 : Nat} (h : Sram a s) : Sram a (wakeResume x0 s) := by
  unfold wakeResume
  repeat' with_reducible first | assumption | refine State.modLane_sram ?_ | refine Sram.ite ?_ ?_ | split | dsimp only

theorem watchdogExpiry_sram {x0 : Nat} (h : Sram a s) : Sram a (watchdogExpiry x0 s) := by
  unfold watchdogExpiry
  repeat' with_reducible first | assumption | refine seqFault_sram ?_ | refine Sram.ite ?_ ?_ | split | dsimp only

theorem windowEnd_sram {x0 : Nat} (h : Sram a s) : Sram a (windowEnd x0 s) := by
  unfold windowEnd
  repeat' with_reducible first | assumption | refine linesLow_sram ?_ | refine State.setDrv_sram ?_ | refine State.setFlag_sram ?_ | refine startExchange_sram ?_ | refine Sram.ite ?_ ?_ | split | dsimp only

end Sys2Proof.Machine
end

