-- ==== Sys2Proof/Laws/ExecSram.lean ====
section
/-! SUPPORT. The commands that leave every byte below the DRAM as it was, one lemma per meaning. -/

namespace Sys2Proof.Machine

variable {a s u : State}

theorem act_sram {t f} (hf : ∀ t, Sram a t → Sram a (f t)) (h : Sram a s) (e : act t f s = .next u) : Sram a u := by
  have e' : Host.Outcome.next (if (s.tick t).su.power = .running then settle (f (s.tick t)) else s.tick t) = (Host.Outcome.next u : Host.Outcome State Fault Refusal) := e
  injection e' with e'
  rw [← e']
  have k : Sram a (s.tick t) := h
  split
  · exact settle_sram (hf _ k)
  · exact k
theorem actAny_sram {t f} (hf : ∀ t, Sram a t → Sram a (f t)) (h : Sram a s) (e : actAny t f s = .next u) : Sram a u := by
  have e' : Host.Outcome.next (settle (f (s.tick t))) = (Host.Outcome.next u : Host.Outcome State Fault Refusal) := e
  injection e' with e'
  rw [← e']
  exact settle_sram (hf _ h)


theorem execPaceWindowEnd_sram {t : Nat} {counts : List (List Nat)} (h : Sram a s) (e : execPaceWindowEnd t counts s = .next u) : Sram a u := by
  refine act_sram (fun x k => ?_) h e
  repeat' with_reducible first | assumption | refine paceWindow_sram ?_ | refine Sram.ite ?_ ?_ | split | dsimp only

theorem execDieLinkStall_sram {t : Nat} {die : Nat} (h : Sram a s) (e : execDieLinkStall t die s = .next u) : Sram a u := by
  refine act_sram (fun x k => ?_) h e
  repeat' with_reducible first | assumption | refine linkStall_sram ?_ | refine Sram.ite ?_ ?_ | split | dsimp only

theorem execLateResultDiscard_sram {t : Nat} {island : Fin 4} {_unit : Nat} (h : Sram a s) (e : execLateResultDiscard t island _unit s = .next u) : Sram a u := by
  refine act_sram (fun x k => ?_) h e
  repeat' with_reducible first | assumption | refine Sram.ite ?_ ?_ | split | dsimp only | refine Sram.set_pts ?_

theorem execDramRefreshDue_sram {t : Nat} {bank : Nat} (h : Sram a s) (e : execDramRefreshDue t bank s = .next u) : Sram a u := by
  refine act_sram (fun x k => ?_) h e
  repeat' with_reducible first | assumption | refine bankRefresh_sram ?_ | refine Sram.ite ?_ ?_ | split | dsimp only

theorem execEventStart_sram {t : Nat} {ch : Nat} (h : Sram a s) (e : execEventStart t ch s = .next u) : Sram a u := by
  refine act_sram (fun x k => ?_) h e
  repeat' with_reducible first | assumption | refine lowRise_sram ?_ | refine Sram.ite ?_ ?_ | split | dsimp only

theorem execHighComparatorEdge_sram {t : Nat} {ch : Nat} {rise : Bool} (h : Sram a s) (e : execHighComparatorEdge t ch rise s = .next u) : Sram a u := by
  refine act_sram (fun x k => ?_) h e
  repeat' with_reducible first | assumption | refine highCross_sram ?_ | refine Sram.ite ?_ ?_ | split | dsimp only

theorem execEventEnd_sram {t : Nat} {ch : Nat} (h : Sram a s) (e : execEventEnd t ch s = .next u) : Sram a u := by
  refine act_sram (fun x k => ?_) h e
  repeat' with_reducible first | assumption | refine lowFall_sram ?_ | refine Sram.ite ?_ ?_ | split | dsimp only

theorem execEventTimeoutClose_sram {t : Nat} {ch : Nat} (h : Sram a s) (e : execEventTimeoutClose t ch s = .next u) : Sram a u := by
  refine act_sram (fun x k => ?_) h e
  repeat' with_reducible first | assumption | refine timeoutClose_sram ?_ | refine Sram.ite ?_ ?_ | split | dsimp only

theorem execRearmEnd_sram {t : Nat} {ch : Nat} (h : Sram a s) (e : execRearmEnd t ch s = .next u) : Sram a u := by
  refine act_sram (fun x k => ?_) h e
  repeat' with_reducible first | assumption | refine rearmEnd_sram ?_ | refine Sram.ite ?_ ?_ | split | dsimp only

theorem execStuckHighTimeout_sram {t : Nat} {ch : Nat} (h : Sram a s) (e : execStuckHighTimeout t ch s = .next u) : Sram a u := by
  refine act_sram (fun x k => ?_) h e
  repeat' with_reducible first | assumption | refine stuckHigh_sram ?_ | refine Sram.ite ?_ ?_ | split | dsimp only

theorem execEventBin_sram {t : Nat} {ch : Nat} (h : Sram a s) (e : execEventBin t ch s = .next u) : Sram a u := by
  refine act_sram (fun x k => ?_) h e
  repeat' with_reducible first | assumption | refine binEvent_sram ?_ | refine Sram.ite ?_ ?_ | split | dsimp only

theorem execTimebaseLock_sram {t : Nat} (h : Sram a s) (e : execTimebaseLock t s = .next u) : Sram a u := by
  refine actAny_sram (fun x k => ?_) h e
  repeat' with_reducible first | assumption | refine tbLock_sram ?_ | refine Sram.ite ?_ ?_ | split | dsimp only

theorem execTimebaseLockLoss_sram {t : Nat} (h : Sram a s) (e : execTimebaseLockLoss t s = .next u) : Sram a u := by
  refine actAny_sram (fun x k => ?_) h e
  repeat' with_reducible first | assumption | refine tbLoss_sram ?_ | refine Sram.ite ?_ ?_ | split | dsimp only

theorem execDevtimeSnapshot_sram {t req : Nat} (h : Sram a s) (e : execDevtimeSnapshot t req s = .next u) : Sram a u := by
  refine act_sram (fun x k => ?_) h e
  repeat' with_reducible first | assumption | refine busRead_sram ?_ | refine Sram.ite ?_ ?_ | split | dsimp only

theorem execPoweredHoursWrite_sram {t : Nat} (h : Sram a s) (e : execPoweredHoursWrite t s = .next u) : Sram a u := by
  refine act_sram (fun x k => ?_) h e
  repeat' with_reducible first | assumption | refine hoursWrite_sram ?_ | refine Sram.ite ?_ ?_ | split | dsimp only

theorem execAnchorTakeEffect_sram {t : Nat} (h : Sram a s) (e : execAnchorTakeEffect t s = .next u) : Sram a u := by
  refine act_sram (fun x k => ?_) h e
  repeat' with_reducible first | assumption | refine anchorEffect_sram ?_ | refine Sram.ite ?_ ?_ | split | dsimp only

theorem execSyncEdge_sram {t : Nat} {rising : Bool} {width : Nat} (h : Sram a s) (e : execSyncEdge t rising width s = .next u) : Sram a u := by
  refine act_sram (fun x k => ?_) h e
  repeat' with_reducible first | assumption | refine syncEdge_sram ?_ | refine Sram.ite ?_ ?_ | split | dsimp only

theorem execSyncMiss_sram {t : Nat} (h : Sram a s) (e : execSyncMiss t s = .next u) : Sram a u := by
  refine act_sram (fun x k => ?_) h e
  repeat' with_reducible first | assumption | refine syncMiss_sram ?_ | refine Sram.ite ?_ ?_ | split | dsimp only

theorem execSyncFifoPop_sram {t req : Nat} (h : Sram a s) (e : execSyncFifoPop t req s = .next u) : Sram a u := by
  refine act_sram (fun x k => ?_) h e
  repeat' with_reducible first | assumption | refine busRead_sram ?_ | refine Sram.ite ?_ ?_ | split | dsimp only

theorem execIuStartEdge_sram {t : Nat} {src : Nat} {rising : Bool} {bank : Fin 64} (h : Sram a s) (e : execIuStartEdge t src rising bank s = .next u) : Sram a u := by
  refine act_sram (fun x k => ?_) h e
  repeat' with_reducible first | assumption | refine iuStartEdge_sram ?_ | refine Sram.ite ?_ ?_ | split | dsimp only

theorem execIuStopEdge_sram {t : Nat} {src : Nat} {rising : Bool} {bank : Fin 64} (h : Sram a s) (e : execIuStopEdge t src rising bank s = .next u) : Sram a u := by
  refine act_sram (fun x k => ?_) h e
  repeat' with_reducible first | assumption | refine iuStopEdge_sram ?_ | refine Sram.ite ?_ ?_ | split | dsimp only

theorem execIuTimeout_sram {t : Nat} (h : Sram a s) (e : execIuTimeout t s = .next u) : Sram a u := by
  refine act_sram (fun x k => ?_) h e
  repeat' with_reducible first | assumption | refine iuTimeout_sram ?_ | refine Sram.ite ?_ ?_ | split | dsimp only

theorem execIuResultRead_sram {t req : Nat} (h : Sram a s) (e : execIuResultRead t req s = .next u) : Sram a u := by
  refine act_sram (fun x k => ?_) h e
  repeat' with_reducible first | assumption | refine busRead_sram ?_ | refine Sram.ite ?_ ?_ | split | dsimp only

theorem execFuGateOpen_sram {t : Nat} {level : Bool} (h : Sram a s) (e : execFuGateOpen t level s = .next u) : Sram a u := by
  refine act_sram (fun x k => ?_) h e
  repeat' with_reducible first | assumption | refine fuGateOpen_sram ?_ | refine Sram.ite ?_ ?_ | split | dsimp only

theorem execFuGateEnd_sram {t : Nat} {level : Bool} (h : Sram a s) (e : execFuGateEnd t level s = .next u) : Sram a u := by
  refine act_sram (fun x k => ?_) h e
  repeat' with_reducible first | assumption | refine fuGateEnd_sram ?_ | refine Sram.ite ?_ ?_ | split | dsimp only

theorem execFuResult_sram {t : Nat} (h : Sram a s) (e : execFuResult t s = .next u) : Sram a u := by
  refine act_sram (fun x k => ?_) h e
  repeat' with_reducible first | assumption | refine fuResult_sram ?_ | refine Sram.ite ?_ ?_ | split | dsimp only

theorem execPulseFire_sram {t : Nat} {die slot : Nat} (h : Sram a s) (e : execPulseFire t die slot s = .next u) : Sram a u := by
  refine act_sram (fun x k => ?_) h e
  repeat' with_reducible first | assumption | refine pulseFire_sram ?_ | refine Sram.ite ?_ ?_ | split | dsimp only

theorem execAccumulationEnd_sram {t : Nat} {die slot : Nat} (h : Sram a s) (e : execAccumulationEnd t die slot s = .next u) : Sram a u := by
  refine act_sram (fun x k => ?_) h e
  repeat' with_reducible first | assumption | refine accumulationEnd_sram ?_ | refine Sram.ite ?_ ?_ | split | dsimp only

theorem execCorrelatorTake_sram {t : Nat} {die : Nat} (h : Sram a s) (e : execCorrelatorTake t die s = .next u) : Sram a u := by
  refine act_sram (fun x k => ?_) h e
  repeat' with_reducible first | assumption | refine correlatorTake_sram ?_ | refine Sram.ite ?_ ?_ | split | dsimp only

theorem execReductionEnd_sram {t : Nat} {die slot : Nat} (h : Sram a s) (e : execReductionEnd t die slot s = .next u) : Sram a u := by
  refine act_sram (fun x k => ?_) h e
  repeat' with_reducible first | assumption | refine reductionEnd_sram ?_ | refine Sram.ite ?_ ?_ | split | dsimp only

theorem execOpAbandon_sram {t : Nat} {die slot : Nat} (h : Sram a s) (e : execOpAbandon t die slot s = .next u) : Sram a u := by
  refine act_sram (fun x k => ?_) h e
  repeat' with_reducible first | assumption | refine ageOut_sram ?_ | refine Sram.ite ?_ ?_ | split | dsimp only

theorem execPageClearDone_sram {t : Nat} {die group : Nat} (h : Sram a s) (e : execPageClearDone t die group s = .next u) : Sram a u := by
  refine act_sram (fun x k => ?_) h e
  repeat' with_reducible first | assumption | refine clearPage_sram ?_ | refine Sram.ite ?_ ?_ | split | dsimp only

theorem execLineStart_sram {t : Nat} {at_ : HeadBounds} (h : Sram a s) (e : execLineStart t at_ s = .next u) : Sram a u := by
  refine act_sram (fun x k => ?_) h e
  repeat' with_reducible first | assumption | refine lineStart_sram ?_ | refine Sram.ite ?_ ?_ | split | dsimp only

theorem execLatchPoint_sram {t : Nat} {head : Fin 2} (h : Sram a s) (e : execLatchPoint t head s = .next u) : Sram a u := by
  refine act_sram (fun x k => ?_) h e
  repeat' with_reducible first | assumption | refine latch_sram ?_ | refine Sram.ite ?_ ?_ | split | dsimp only

theorem execLinePrefetch_sram {t : Nat} {head : Fin 2} {line : Nat} {got : Fin 16} (h : Sram a s) (e : execLinePrefetch t head line got s = .next u) : Sram a u := by
  refine act_sram (fun x k => ?_) h e
  repeat' with_reducible first | assumption | refine prefetch_sram ?_ | refine Sram.ite ?_ ?_ | split | dsimp only

theorem execVisitCompose_sram {t : Nat} {head : Fin 2} (h : Sram a s) (e : execVisitCompose t head s = .next u) : Sram a u := by
  refine act_sram (fun x k => ?_) h e
  repeat' with_reducible first | assumption | refine compose_sram ?_ | refine Sram.ite ?_ ?_ | split | dsimp only

theorem execWatchdogExpiry_sram {t : Nat} {n : Fin 8} (h : Sram a s) (e : execWatchdogExpiry t n s = .next u) : Sram a u := by
  refine act_sram (fun x k => ?_) h e
  repeat' with_reducible first | assumption | refine watchdogExpiry_sram ?_ | refine Sram.ite ?_ ?_ | split | dsimp only

theorem execWaitWake_sram {t : Nat} {n : Fin 8} (h : Sram a s) (e : execWaitWake t n s = .next u) : Sram a u := by
  refine act_sram (fun x k => ?_) h e
  repeat' with_reducible first | assumption | refine waitWake_sram ?_ | refine Sram.ite ?_ ?_ | split | dsimp only

theorem execWaitTimeout_sram {t : Nat} {n : Fin 8} (h : Sram a s) (e : execWaitTimeout t n s = .next u) : Sram a u := by
  refine act_sram (fun x k => ?_) h e
  repeat' with_reducible first | assumption | refine waitTimeout_sram ?_ | refine Sram.ite ?_ ?_ | split | dsimp only

theorem execSleepEnd_sram {t : Nat} {n : Fin 8} (h : Sram a s) (e : execSleepEnd t n s = .next u) : Sram a u := by
  refine act_sram (fun x k => ?_) h e
  repeat' with_reducible first | assumption | refine sleepEnd_sram ?_ | refine Sram.ite ?_ ?_ | split | dsimp only

theorem execFenceDone_sram {t : Nat} {n : Fin 8} (h : Sram a s) (e : execFenceDone t n s = .next u) : Sram a u := by
  refine act_sram (fun x k => ?_) h e
  repeat' with_reducible first | assumption | refine fenceDone_sram ?_ | refine Sram.ite ?_ ?_ | split | dsimp only

theorem execMfenceDone_sram {t : Nat} {n : Fin 8} (h : Sram a s) (e : execMfenceDone t n s = .next u) : Sram a u := by
  refine act_sram (fun x k => ?_) h e
  repeat' with_reducible first | assumption | refine mfenceDone_sram ?_ | refine Sram.ite ?_ ?_ | split | dsimp only

theorem execNop_sram {t : Nat} {n : Fin 8} (h : Sram a s) (e : execNop t n s = .next u) : Sram a u := by
  refine act_sram (fun x k => ?_) h e
  repeat' with_reducible first | assumption | refine seqInstr_sram (fun _ _ _ => ?_) ?_ | refine Sram.ite ?_ ?_ | split | dsimp only

theorem execAdd_sram {t : Nat} {n : Fin 8} (h : Sram a s) (e : execAdd t n s = .next u) : Sram a u := by
  refine act_sram (fun x k => ?_) h e
  repeat' with_reducible first | assumption | refine seqInstr_sram (fun _ _ _ => ?_) ?_ | refine bodyDab_sram ?_ | refine Sram.ite ?_ ?_ | split | dsimp only

theorem execAddi_sram {t : Nat} {n : Fin 8} (h : Sram a s) (e : execAddi t n s = .next u) : Sram a u := by
  refine act_sram (fun x k => ?_) h e
  repeat' with_reducible first | assumption | refine seqInstr_sram (fun _ _ _ => ?_) ?_ | refine bodyDai_sram ?_ | refine Sram.ite ?_ ?_ | split | dsimp only

theorem execSub_sram {t : Nat} {n : Fin 8} (h : Sram a s) (e : execSub t n s = .next u) : Sram a u := by
  refine act_sram (fun x k => ?_) h e
  repeat' with_reducible first | assumption | refine seqInstr_sram (fun _ _ _ => ?_) ?_ | refine bodyDab_sram ?_ | refine Sram.ite ?_ ?_ | split | dsimp only

theorem execAnd_sram {t : Nat} {n : Fin 8} (h : Sram a s) (e : execAnd t n s = .next u) : Sram a u := by
  refine act_sram (fun x k => ?_) h e
  repeat' with_reducible first | assumption | refine seqInstr_sram (fun _ _ _ => ?_) ?_ | refine bodyDab_sram ?_ | refine Sram.ite ?_ ?_ | split | dsimp only

theorem execAndi_sram {t : Nat} {n : Fin 8} (h : Sram a s) (e : execAndi t n s = .next u) : Sram a u := by
  refine act_sram (fun x k => ?_) h e
  repeat' with_reducible first | assumption | refine seqInstr_sram (fun _ _ _ => ?_) ?_ | refine bodyDai_sram ?_ | refine Sram.ite ?_ ?_ | split | dsimp only

theorem execOr_sram {t : Nat} {n : Fin 8} (h : Sram a s) (e : execOr t n s = .next u) : Sram a u := by
  refine act_sram (fun x k => ?_) h e
  repeat' with_reducible first | assumption | refine seqInstr_sram (fun _ _ _ => ?_) ?_ | refine bodyDab_sram ?_ | refine Sram.ite ?_ ?_ | split | dsimp only

theorem execOri_sram {t : Nat} {n : Fin 8} (h : Sram a s) (e : execOri t n s = .next u) : Sram a u := by
  refine act_sram (fun x k => ?_) h e
  repeat' with_reducible first | assumption | refine seqInstr_sram (fun _ _ _ => ?_) ?_ | refine bodyDai_sram ?_ | refine Sram.ite ?_ ?_ | split | dsimp only

theorem execXor_sram {t : Nat} {n : Fin 8} (h : Sram a s) (e : execXor t n s = .next u) : Sram a u := by
  refine act_sram (fun x k => ?_) h e
  repeat' with_reducible first | assumption | refine seqInstr_sram (fun _ _ _ => ?_) ?_ | refine bodyDab_sram ?_ | refine Sram.ite ?_ ?_ | split | dsimp only

theorem execXori_sram {t : Nat} {n : Fin 8} (h : Sram a s) (e : execXori t n s = .next u) : Sram a u := by
  refine act_sram (fun x k => ?_) h e
  repeat' with_reducible first | assumption | refine seqInstr_sram (fun _ _ _ => ?_) ?_ | refine bodyDai_sram ?_ | refine Sram.ite ?_ ?_ | split | dsimp only

theorem execShl_sram {t : Nat} {n : Fin 8} (h : Sram a s) (e : execShl t n s = .next u) : Sram a u := by
  refine act_sram (fun x k => ?_) h e
  repeat' with_reducible first | assumption | refine seqInstr_sram (fun _ _ _ => ?_) ?_ | refine bodyDab_sram ?_ | refine Sram.ite ?_ ?_ | split | dsimp only

theorem execShli_sram {t : Nat} {n : Fin 8} (h : Sram a s) (e : execShli t n s = .next u) : Sram a u := by
  refine act_sram (fun x k => ?_) h e
  repeat' with_reducible first | assumption | refine seqInstr_sram (fun _ _ _ => ?_) ?_ | refine bodyDai_sram ?_ | refine Sram.ite ?_ ?_ | split | dsimp only

theorem execShr_sram {t : Nat} {n : Fin 8} (h : Sram a s) (e : execShr t n s = .next u) : Sram a u := by
  refine act_sram (fun x k => ?_) h e
  repeat' with_reducible first | assumption | refine seqInstr_sram (fun _ _ _ => ?_) ?_ | refine bodyDab_sram ?_ | refine Sram.ite ?_ ?_ | split | dsimp only

theorem execShri_sram {t : Nat} {n : Fin 8} (h : Sram a s) (e : execShri t n s = .next u) : Sram a u := by
  refine act_sram (fun x k => ?_) h e
  repeat' with_reducible first | assumption | refine seqInstr_sram (fun _ _ _ => ?_) ?_ | refine bodyDai_sram ?_ | refine Sram.ite ?_ ?_ | split | dsimp only

theorem execSar_sram {t : Nat} {n : Fin 8} (h : Sram a s) (e : execSar t n s = .next u) : Sram a u := by
  refine act_sram (fun x k => ?_) h e
  repeat' with_reducible first | assumption | refine seqInstr_sram (fun _ _ _ => ?_) ?_ | refine bodyDab_sram ?_ | refine Sram.ite ?_ ?_ | split | dsimp only

theorem execSari_sram {t : Nat} {n : Fin 8} (h : Sram a s) (e : execSari t n s = .next u) : Sram a u := by
  refine act_sram (fun x k => ?_) h e
  repeat' with_reducible first | assumption | refine seqInstr_sram (fun _ _ _ => ?_) ?_ | refine bodyDai_sram ?_ | refine Sram.ite ?_ ?_ | split | dsimp only

theorem execMul_sram {t : Nat} {n : Fin 8} (h : Sram a s) (e : execMul t n s = .next u) : Sram a u := by
  refine act_sram (fun x k => ?_) h e
  repeat' with_reducible first | assumption | refine seqInstr_sram (fun _ _ _ => ?_) ?_ | refine bodyDab_sram ?_ | refine Sram.ite ?_ ?_ | split | dsimp only

theorem execMulhu_sram {t : Nat} {n : Fin 8} (h : Sram a s) (e : execMulhu t n s = .next u) : Sram a u := by
  refine act_sram (fun x k => ?_) h e
  repeat' with_reducible first | assumption | refine seqInstr_sram (fun _ _ _ => ?_) ?_ | refine bodyDab_sram ?_ | refine Sram.ite ?_ ?_ | split | dsimp only

theorem execMulhs_sram {t : Nat} {n : Fin 8} (h : Sram a s) (e : execMulhs t n s = .next u) : Sram a u := by
  refine act_sram (fun x k => ?_) h e
  repeat' with_reducible first | assumption | refine seqInstr_sram (fun _ _ _ => ?_) ?_ | refine bodyDab_sram ?_ | refine Sram.ite ?_ ?_ | split | dsimp only

theorem execDivu_sram {t : Nat} {n : Fin 8} (h : Sram a s) (e : execDivu t n s = .next u) : Sram a u := by
  refine act_sram (fun x k => ?_) h e
  repeat' with_reducible first | assumption | refine seqInstr_sram (fun _ _ _ => ?_) ?_ | refine bodyDab_sram ?_ | refine Sram.ite ?_ ?_ | split | dsimp only

theorem execRemu_sram {t : Nat} {n : Fin 8} (h : Sram a s) (e : execRemu t n s = .next u) : Sram a u := by
  refine act_sram (fun x k => ?_) h e
  repeat' with_reducible first | assumption | refine seqInstr_sram (fun _ _ _ => ?_) ?_ | refine bodyDab_sram ?_ | refine Sram.ite ?_ ?_ | split | dsimp only

theorem execMin_sram {t : Nat} {n : Fin 8} (h : Sram a s) (e : execMin t n s = .next u) : Sram a u := by
  refine act_sram (fun x k => ?_) h e
  repeat' with_reducible first | assumption | refine seqInstr_sram (fun _ _ _ => ?_) ?_ | refine bodyDab_sram ?_ | refine Sram.ite ?_ ?_ | split | dsimp only

theorem execMax_sram {t : Nat} {n : Fin 8} (h : Sram a s) (e : execMax t n s = .next u) : Sram a u := by
  refine act_sram (fun x k => ?_) h e
  repeat' with_reducible first | assumption | refine seqInstr_sram (fun _ _ _ => ?_) ?_ | refine bodyDab_sram ?_ | refine Sram.ite ?_ ?_ | split | dsimp only

theorem execMovi_sram {t : Nat} {n : Fin 8} (h : Sram a s) (e : execMovi t n s = .next u) : Sram a u := by
  refine act_sram (fun x k => ?_) h e
  repeat' with_reducible first | assumption | refine seqInstr_sram (fun _ _ _ => ?_) ?_ | refine bodyDai_sram ?_ | refine Sram.ite ?_ ?_ | split | dsimp only

theorem execMuli_sram {t : Nat} {n : Fin 8} (h : Sram a s) (e : execMuli t n s = .next u) : Sram a u := by
  refine act_sram (fun x k => ?_) h e
  repeat' with_reducible first | assumption | refine seqInstr_sram (fun _ _ _ => ?_) ?_ | refine bodyDai_sram ?_ | refine Sram.ite ?_ ?_ | split | dsimp only

theorem execCmpeq_sram {t : Nat} {n : Fin 8} (h : Sram a s) (e : execCmpeq t n s = .next u) : Sram a u := by
  refine act_sram (fun x k => ?_) h e
  repeat' with_reducible first | assumption | refine seqInstr_sram (fun _ _ _ => ?_) ?_ | refine bodyPab_sram ?_ | refine Sram.ite ?_ ?_ | split | dsimp only

theorem execCmpne_sram {t : Nat} {n : Fin 8} (h : Sram a s) (e : execCmpne t n s = .next u) : Sram a u := by
  refine act_sram (fun x k => ?_) h e
  repeat' with_reducible first | assumption | refine seqInstr_sram (fun _ _ _ => ?_) ?_ | refine bodyPab_sram ?_ | refine Sram.ite ?_ ?_ | split | dsimp only

theorem execCmplt_sram {t : Nat} {n : Fin 8} (h : Sram a s) (e : execCmplt t n s = .next u) : Sram a u := by
  refine act_sram (fun x k => ?_) h e
  repeat' with_reducible first | assumption | refine seqInstr_sram (fun _ _ _ => ?_) ?_ | refine bodyPab_sram ?_ | refine Sram.ite ?_ ?_ | split | dsimp only

theorem execCmpltu_sram {t : Nat} {n : Fin 8} (h : Sram a s) (e : execCmpltu t n s = .next u) : Sram a u := by
  refine act_sram (fun x k => ?_) h e
  repeat' with_reducible first | assumption | refine seqInstr_sram (fun _ _ _ => ?_) ?_ | refine bodyPab_sram ?_ | refine Sram.ite ?_ ?_ | split | dsimp only

theorem execCmpge_sram {t : Nat} {n : Fin 8} (h : Sram a s) (e : execCmpge t n s = .next u) : Sram a u := by
  refine act_sram (fun x k => ?_) h e
  repeat' with_reducible first | assumption | refine seqInstr_sram (fun _ _ _ => ?_) ?_ | refine bodyPab_sram ?_ | refine Sram.ite ?_ ?_ | split | dsimp only

theorem execCmpgeu_sram {t : Nat} {n : Fin 8} (h : Sram a s) (e : execCmpgeu t n s = .next u) : Sram a u := by
  refine act_sram (fun x k => ?_) h e
  repeat' with_reducible first | assumption | refine seqInstr_sram (fun _ _ _ => ?_) ?_ | refine bodyPab_sram ?_ | refine Sram.ite ?_ ?_ | split | dsimp only

theorem execCmpeqi_sram {t : Nat} {n : Fin 8} (h : Sram a s) (e : execCmpeqi t n s = .next u) : Sram a u := by
  refine act_sram (fun x k => ?_) h e
  repeat' with_reducible first | assumption | refine seqInstr_sram (fun _ _ _ => ?_) ?_ | refine bodyPai_sram ?_ | refine Sram.ite ?_ ?_ | split | dsimp only

theorem execCmplti_sram {t : Nat} {n : Fin 8} (h : Sram a s) (e : execCmplti t n s = .next u) : Sram a u := by
  refine act_sram (fun x k => ?_) h e
  repeat' with_reducible first | assumption | refine seqInstr_sram (fun _ _ _ => ?_) ?_ | refine bodyPai_sram ?_ | refine Sram.ite ?_ ?_ | split | dsimp only

theorem execCmpltui_sram {t : Nat} {n : Fin 8} (h : Sram a s) (e : execCmpltui t n s = .next u) : Sram a u := by
  refine act_sram (fun x k => ?_) h e
  repeat' with_reducible first | assumption | refine seqInstr_sram (fun _ _ _ => ?_) ?_ | refine bodyPai_sram ?_ | refine Sram.ite ?_ ?_ | split | dsimp only

theorem execCmpgei_sram {t : Nat} {n : Fin 8} (h : Sram a s) (e : execCmpgei t n s = .next u) : Sram a u := by
  refine act_sram (fun x k => ?_) h e
  repeat' with_reducible first | assumption | refine seqInstr_sram (fun _ _ _ => ?_) ?_ | refine bodyPai_sram ?_ | refine Sram.ite ?_ ?_ | split | dsimp only

theorem execCmpgeui_sram {t : Nat} {n : Fin 8} (h : Sram a s) (e : execCmpgeui t n s = .next u) : Sram a u := by
  refine act_sram (fun x k => ?_) h e
  repeat' with_reducible first | assumption | refine seqInstr_sram (fun _ _ _ => ?_) ?_ | refine bodyPai_sram ?_ | refine Sram.ite ?_ ?_ | split | dsimp only

theorem execPand_sram {t : Nat} {n : Fin 8} (h : Sram a s) (e : execPand t n s = .next u) : Sram a u := by
  refine act_sram (fun x k => ?_) h e
  repeat' with_reducible first | assumption | refine seqInstr_sram (fun _ _ _ => ?_) ?_ | refine bodyPqr_sram ?_ | refine Sram.ite ?_ ?_ | split | dsimp only

theorem execPor_sram {t : Nat} {n : Fin 8} (h : Sram a s) (e : execPor t n s = .next u) : Sram a u := by
  refine act_sram (fun x k => ?_) h e
  repeat' with_reducible first | assumption | refine seqInstr_sram (fun _ _ _ => ?_) ?_ | refine bodyPqr_sram ?_ | refine Sram.ite ?_ ?_ | split | dsimp only

theorem execPnot_sram {t : Nat} {n : Fin 8} (h : Sram a s) (e : execPnot t n s = .next u) : Sram a u := by
  refine act_sram (fun x k => ?_) h e
  repeat' with_reducible first | assumption | refine seqInstr_sram (fun _ _ _ => ?_) ?_ | refine bodyPqr_sram ?_ | refine Sram.ite ?_ ?_ | split | dsimp only

theorem execTstbit_sram {t : Nat} {n : Fin 8} (h : Sram a s) (e : execTstbit t n s = .next u) : Sram a u := by
  refine act_sram (fun x k => ?_) h e
  repeat' with_reducible first | assumption | refine seqInstr_sram (fun _ _ _ => ?_) ?_ | refine bodyPai_sram ?_ | refine Sram.ite ?_ ?_ | split | dsimp only

theorem execBr_sram {t : Nat} {n : Fin 8} (h : Sram a s) (e : execBr t n s = .next u) : Sram a u := by
  refine act_sram (fun x k => ?_) h e
  repeat' with_reducible first | assumption | refine seqInstr_sram (fun _ _ _ => ?_) ?_ | refine Sram.ite ?_ ?_ | split | dsimp only

theorem execBrr_sram {t : Nat} {n : Fin 8} (h : Sram a s) (e : execBrr t n s = .next u) : Sram a u := by
  refine act_sram (fun x k => ?_) h e
  repeat' with_reducible first | assumption | refine seqInstr_sram (fun _ _ _ => ?_) ?_ | refine Sram.ite ?_ ?_ | split | dsimp only

theorem execCall_sram {t : Nat} {n : Fin 8} (h : Sram a s) (e : execCall t n s = .next u) : Sram a u := by
  refine act_sram (fun x k => ?_) h e
  repeat' with_reducible first | assumption | refine seqInstr_sram (fun _ _ _ => ?_) ?_ | refine bodyCall_sram ?_ | refine Sram.ite ?_ ?_ | split | dsimp only

theorem execRet_sram {t : Nat} {n : Fin 8} (h : Sram a s) (e : execRet t n s = .next u) : Sram a u := by
  refine act_sram (fun x k => ?_) h e
  repeat' with_reducible first | assumption | refine seqInstr_sram (fun _ _ _ => ?_) ?_ | refine Sram.ite ?_ ?_ | split | dsimp only

theorem execLoop_sram {t : Nat} {n : Fin 8} (h : Sram a s) (e : execLoop t n s = .next u) : Sram a u := by
  refine act_sram (fun x k => ?_) h e
  repeat' with_reducible first | assumption | refine seqInstr_sram (fun _ _ _ => ?_) ?_ | refine bodyLoop_sram ?_ | refine Sram.ite ?_ ?_ | split | dsimp only

theorem execHalt_sram {t : Nat} {n : Fin 8} (h : Sram a s) (e : execHalt t n s = .next u) : Sram a u := by
  refine act_sram (fun x k => ?_) h e
  repeat' with_reducible first | assumption | refine seqInstr_sram (fun _ _ _ => ?_) ?_ | refine Sram.ite ?_ ?_ | split | dsimp only

theorem execKick_sram {t : Nat} {n : Fin 8} (h : Sram a s) (e : execKick t n s = .next u) : Sram a u := by
  refine act_sram (fun x k => ?_) h e
  repeat' with_reducible first | assumption | refine seqInstr_sram (fun _ _ _ => ?_) ?_ | refine bodyKick_sram ?_ | refine Sram.ite ?_ ?_ | split | dsimp only

theorem execSleep_sram {t : Nat} {n : Fin 8} (h : Sram a s) (e : execSleep t n s = .next u) : Sram a u := by
  refine act_sram (fun x k => ?_) h e
  repeat' with_reducible first | assumption | refine seqInstr_sram (fun _ _ _ => ?_) ?_ | refine bodySleep_sram ?_ | refine Sram.ite ?_ ?_ | split | dsimp only

theorem execTime_sram {t : Nat} {n : Fin 8} (h : Sram a s) (e : execTime t n s = .next u) : Sram a u := by
  refine act_sram (fun x k => ?_) h e
  repeat' with_reducible first | assumption | refine seqInstr_sram (fun _ _ _ => ?_) ?_ | refine bodyTime_sram ?_ | refine Sram.ite ?_ ?_ | split | dsimp only

theorem execFstat_sram {t : Nat} {n : Fin 8} (h : Sram a s) (e : execFstat t n s = .next u) : Sram a u := by
  refine act_sram (fun x k => ?_) h e
  repeat' with_reducible first | assumption | refine seqInstr_sram (fun _ _ _ => ?_) ?_ | refine bodyFstat_sram ?_ | refine Sram.ite ?_ ?_ | split | dsimp only

theorem execWait_sram {t : Nat} {n : Fin 8} (h : Sram a s) (e : execWait t n s = .next u) : Sram a u := by
  refine act_sram (fun x k => ?_) h e
  repeat' with_reducible first | assumption | refine seqInstr_sram (fun _ _ _ => ?_) ?_ | refine bodyWait_sram ?_ | refine Sram.ite ?_ ?_ | split | dsimp only

theorem execWait1_sram {t : Nat} {n : Fin 8} (h : Sram a s) (e : execWait1 t n s = .next u) : Sram a u := by
  refine act_sram (fun x k => ?_) h e
  repeat' with_reducible first | assumption | refine seqInstr_sram (fun _ _ _ => ?_) ?_ | refine bodyWait1_sram ?_ | refine Sram.ite ?_ ?_ | split | dsimp only

theorem execSig_sram {t : Nat} {n : Fin 8} (h : Sram a s) (e : execSig t n s = .next u) : Sram a u := by
  refine act_sram (fun x k => ?_) h e
  repeat' with_reducible first | assumption | refine seqInstr_sram (fun _ _ _ => ?_) ?_ | refine raiseEv_sram ?_ | refine Sram.ite ?_ ?_ | split | dsimp only

theorem execEvclr_sram {t : Nat} {n : Fin 8} (h : Sram a s) (e : execEvclr t n s = .next u) : Sram a u := by
  refine act_sram (fun x k => ?_) h e
  repeat' with_reducible first | assumption | refine seqInstr_sram (fun _ _ _ => ?_) ?_ | refine bodyEvclr_sram ?_ | refine Sram.ite ?_ ?_ | split | dsimp only

theorem execLd_sram {t : Nat} {n : Fin 8} (h : Sram a s) (e : execLd t n s = .next u) : Sram a u := by
  refine act_sram (fun x k => ?_) h e
  repeat' with_reducible first | assumption | refine seqInstr_sram (fun _ _ _ => ?_) ?_ | refine bodyLd_sram ?_ | refine Sram.ite ?_ ?_ | split | dsimp only

theorem execMfence_sram {t : Nat} {n : Fin 8} (h : Sram a s) (e : execMfence t n s = .next u) : Sram a u := by
  refine act_sram (fun x k => ?_) h e
  repeat' with_reducible first | assumption | refine seqInstr_sram (fun _ _ _ => ?_) ?_ | refine Sram.ite ?_ ?_ | split | dsimp only

theorem execDbase_sram {t : Nat} {n : Fin 8} (h : Sram a s) (e : execDbase t n s = .next u) : Sram a u := by
  refine act_sram (fun x k => ?_) h e
  repeat' with_reducible first | assumption | refine seqInstr_sram (fun _ _ _ => ?_) ?_ | refine bodyDbase_sram ?_ | refine Sram.ite ?_ ?_ | split | dsimp only

theorem execFcommit_sram {t : Nat} {n : Fin 8} (h : Sram a s) (e : execFcommit t n s = .next u) : Sram a u := by
  refine act_sram (fun x k => ?_) h e
  repeat' with_reducible first | assumption | refine seqInstr_sram (fun _ _ _ => ?_) ?_ | refine bodyFcommit_sram ?_ | refine Sram.ite ?_ ?_ | split | dsimp only

theorem execHlock_sram {t : Nat} {n : Fin 8} (h : Sram a s) (e : execHlock t n s = .next u) : Sram a u := by
  refine act_sram (fun x k => ?_) h e
  repeat' with_reducible first | assumption | refine seqInstr_sram (fun _ _ _ => ?_) ?_ | refine bodyHlock_sram ?_ | refine Sram.ite ?_ ?_ | split | dsimp only

theorem execWatch_sram {t : Nat} {n : Fin 8} (h : Sram a s) (e : execWatch t n s = .next u) : Sram a u := by
  refine act_sram (fun x k => ?_) h e
  repeat' with_reducible first | assumption | refine seqInstr_sram (fun _ _ _ => ?_) ?_ | refine bodyWatch_sram ?_ | refine Sram.ite ?_ ?_ | split | dsimp only

theorem execProbe_sram {t : Nat} {n : Fin 8} (h : Sram a s) (e : execProbe t n s = .next u) : Sram a u := by
  refine act_sram (fun x k => ?_) h e
  repeat' with_reducible first | assumption | refine seqInstr_sram (fun _ _ _ => ?_) ?_ | refine bodyProbe_sram ?_ | refine Sram.ite ?_ ?_ | split | dsimp only

theorem execCqpop_sram {t : Nat} {n : Fin 8} (h : Sram a s) (e : execCqpop t n s = .next u) : Sram a u := by
  refine act_sram (fun x k => ?_) h e
  repeat' with_reducible first | assumption | refine seqInstr_sram (fun _ _ _ => ?_) ?_ | refine bodyCqpop_sram ?_ | refine Sram.ite ?_ ?_ | split | dsimp only

theorem execFence_sram {t : Nat} {n : Fin 8} (h : Sram a s) (e : execFence t n s = .next u) : Sram a u := by
  refine act_sram (fun x k => ?_) h e
  repeat' with_reducible first | assumption | refine seqInstr_sram (fun _ _ _ => ?_) ?_ | refine bodyFence_sram ?_ | refine Sram.ite ?_ ?_ | split | dsimp only

theorem execHop_sram {t : Nat} {n : Fin 8} (h : Sram a s) (e : execHop t n s = .next u) : Sram a u := by
  refine act_sram (fun x k => ?_) h e
  repeat' with_reducible first | assumption | refine seqInstr_sram (fun _ _ _ => ?_) ?_ | refine bodyHop_sram ?_ | refine Sram.ite ?_ ?_ | split | dsimp only

theorem execLread_sram {t : Nat} {n : Fin 8} (h : Sram a s) (e : execLread t n s = .next u) : Sram a u := by
  refine act_sram (fun x k => ?_) h e
  repeat' with_reducible first | assumption | refine seqInstr_sram (fun _ _ _ => ?_) ?_ | refine bodyLread_sram ?_ | refine Sram.ite ?_ ?_ | split | dsimp only

theorem execAnchor_sram {t : Nat} {n : Fin 8} (h : Sram a s) (e : execAnchor t n s = .next u) : Sram a u := by
  refine act_sram (fun x k => ?_) h e
  repeat' with_reducible first | assumption | refine seqInstr_sram (fun _ _ _ => ?_) ?_ | refine bodyAnchor_sram ?_ | refine Sram.ite ?_ ?_ | split | dsimp only

theorem execEmit_sram {t : Nat} {n : Fin 8} (h : Sram a s) (e : execEmit t n s = .next u) : Sram a u := by
  refine act_sram (fun x k => ?_) h e
  repeat' with_reducible first | assumption | refine seqInstr_sram (fun _ _ _ => ?_) ?_ | refine bodyEmit_sram ?_ | refine Sram.ite ?_ ?_ | split | dsimp only

theorem execCarm_sram {t : Nat} {n : Fin 8} (h : Sram a s) (e : execCarm t n s = .next u) : Sram a u := by
  refine act_sram (fun x k => ?_) h e
  repeat' with_reducible first | assumption | refine seqInstr_sram (fun _ _ _ => ?_) ?_ | refine bodyCarm_sram ?_ | refine Sram.ite ?_ ?_ | split | dsimp only

theorem execMprof_sram {t : Nat} {n : Fin 8} (h : Sram a s) (e : execMprof t n s = .next u) : Sram a u := by
  refine act_sram (fun x k => ?_) h e
  repeat' with_reducible first | assumption | refine seqInstr_sram (fun _ _ _ => ?_) ?_ | refine bodyMprof_sram ?_ | refine Sram.ite ?_ ?_ | split | dsimp only

theorem execExchangeStart_sram {t : Nat} {head : Fin 2} (h : Sram a s) (e : execExchangeStart t head s = .next u) : Sram a u := by
  refine act_sram (fun x k => ?_) h e
  repeat' with_reducible first | assumption | refine stepMove_sram ?_ | refine calLineEnd_sram ?_ | refine exchangeAt_sram ?_ | refine phiTaken_sram ?_ | refine Sram.ite ?_ ?_ | split | dsimp only

theorem execExchangeCommand_sram {t : Nat} {head : Fin 2} (h : Sram a s) (e : execExchangeCommand t head s = .next u) : Sram a u := by
  refine act_sram (fun x k => ?_) h e
  repeat' with_reducible first | assumption | refine exchangeCommand_sram ?_ | refine Sram.ite ?_ ?_ | split | dsimp only

theorem execExchangeMark_sram {t : Nat} {head : Fin 2} (h : Sram a s) (e : execExchangeMark t head s = .next u) : Sram a u := by
  refine act_sram (fun x k => ?_) h e
  repeat' with_reducible first | assumption | refine exchangeMark_sram ?_ | refine Sram.ite ?_ ?_ | split | dsimp only

theorem execEchoEdge_sram {t : Nat} {head : Fin 2} {bank : Fin 32} (h : Sram a s) (e : execEchoEdge t head bank s = .next u) : Sram a u := by
  refine act_sram (fun x k => ?_) h e
  repeat' with_reducible first | assumption | refine echoEdge_sram ?_ | refine Sram.ite ?_ ?_ | split | dsimp only

theorem execReplyFrame_sram {t : Nat} {head : Fin 2} {bank : Fin 32} {frame : BitVec 80} (h : Sram a s) (e : execReplyFrame t head bank frame s = .next u) : Sram a u := by
  refine act_sram (fun x k => ?_) h e
  repeat' with_reducible first | assumption | refine replyFrame_sram ?_ | refine Sram.ite ?_ ?_ | split | dsimp only

theorem execReplyDeadline_sram {t : Nat} {head : Fin 2} (h : Sram a s) (e : execReplyDeadline t head s = .next u) : Sram a u := by
  refine act_sram (fun x k => ?_) h e
  repeat' with_reducible first | assumption | refine replyDeadline_sram ?_ | refine Sram.ite ?_ ?_ | split | dsimp only

theorem execExchangeWindowEnd_sram {t : Nat} {head : Fin 2} (h : Sram a s) (e : execExchangeWindowEnd t head s = .next u) : Sram a u := by
  refine act_sram (fun x k => ?_) h e
  repeat' with_reducible first | assumption | refine windowEnd_sram ?_ | refine Sram.ite ?_ ?_ | split | dsimp only

theorem execStandbyCableListen_sram {t : Nat} {head : Fin 2} {bank : Fin 32} {mark ca : Nat} {cap : BitVec 32} (h : Sram a s) (e : execStandbyCableListen t head bank mark ca cap s = .next u) : Sram a u := by
  refine act_sram (fun x k => ?_) h e
  repeat' with_reducible first | assumption | refine cableListen_sram ?_ | refine Sram.ite ?_ ?_ | split | dsimp only

theorem execGinChange_sram {t : Nat} {n : Fin 4} {a' b : Bool} (h : Sram a s) (e : execGinChange t n a' b s = .next u) : Sram a u := by
  refine actAny_sram (fun x k => ?_) h e
  repeat' with_reducible first | assumption | refine ginChange_sram ?_ | refine Sram.ite ?_ ?_ | split | dsimp only

theorem execGinDiscrepancyTimeout_sram {t : Nat} {n : Fin 4} (h : Sram a s) (e : execGinDiscrepancyTimeout t n s = .next u) : Sram a u := by
  refine act_sram (fun x k => ?_) h e
  repeat' with_reducible first | assumption | refine ginTimeout_sram ?_ | refine Sram.ite ?_ ?_ | split | dsimp only

theorem execGinAgreementEnd_sram {t : Nat} {n : Fin 4} (h : Sram a s) (e : execGinAgreementEnd t n s = .next u) : Sram a u := by
  refine act_sram (fun x k => ?_) h e
  repeat' with_reducible first | assumption | refine ginAgreed_sram ?_ | refine Sram.ite ?_ ?_ | split | dsimp only

theorem execMotionWindowEnd_sram {t : Nat} {head : Fin 2} {lim proc : Bool} (h : Sram a s) (e : execMotionWindowEnd t head lim proc s = .next u) : Sram a u := by
  refine act_sram (fun x k => ?_) h e
  repeat' with_reducible first | assumption | refine motionWindow_sram ?_ | refine Sram.ite ?_ ?_ | split | dsimp only

theorem execGuardHeartbeat_sram {t : Nat} {limBeat procAnswer : Bool} (h : Sram a s) (e : execGuardHeartbeat t limBeat procAnswer s = .next u) : Sram a u := by
  refine act_sram (fun x k => ?_) h e
  repeat' with_reducible first | assumption | refine heartbeat_sram ?_ | refine Sram.ite ?_ ?_ | split | dsimp only

theorem execFiredPulseReport_sram {t : Nat} {head : Fin 2} {bank : Fin 32} {fired : Nat} (h : Sram a s) (e : execFiredPulseReport t head bank fired s = .next u) : Sram a u := by
  refine act_sram (fun x k => ?_) h e
  repeat' with_reducible first | assumption | refine firedReport_sram ?_ | refine Sram.ite ?_ ?_ | split | dsimp only

theorem execChannelDisagreeTimeout_sram {t : Nat} (h : Sram a s) (e : execChannelDisagreeTimeout t s = .next u) : Sram a u := by
  refine act_sram (fun x k => ?_) h e
  repeat' with_reducible first | assumption | refine channelsDiffer_sram ?_ | refine Sram.ite ?_ ?_ | split | dsimp only

theorem execEmenReadbackFault_sram {t : Nat} {isH : Bool} (h : Sram a s) (e : execEmenReadbackFault t isH s = .next u) : Sram a u := by
  refine act_sram (fun x k => ?_) h e
  repeat' with_reducible first | assumption | refine emenFault_sram ?_ | refine Sram.ite ?_ ?_ | split | dsimp only

theorem execTwinGuardState_sram {t : Nat} {fault nrstStuck : Bool} {levels : List (Bool × Bool)} (h : Sram a s) (e : execTwinGuardState t fault nrstStuck levels s = .next u) : Sram a u := by
  refine act_sram (fun x k => ?_) h e
  repeat' with_reducible first | assumption | refine twinGuard_sram ?_ | refine Sram.ite ?_ ?_ | split | dsimp only

theorem execCommandApply_sram {t : Nat} {n : Fin 8} {late : Bool} (h : Sram a s) (e : execCommandApply t n late s = .next u) : Sram a u := by
  refine act_sram (fun x k => ?_) h e
  repeat' with_reducible first | assumption | refine commandApply_sram ?_ | refine Sram.ite ?_ ?_ | split | dsimp only

theorem execEncEdge_sram {t : Nat} {m' : Fin 4} {a' b : Bool} (h : Sram a s) (e : execEncEdge t m' a' b s = .next u) : Sram a u := by
  refine act_sram (fun x k => ?_) h e
  repeat' with_reducible first | assumption | refine encEdge_sram ?_ | refine Sram.ite ?_ ?_ | split | dsimp only

theorem execEncIndex_sram {t : Nat} {m' : Fin 4} {rise : Bool} (h : Sram a s) (e : execEncIndex t m' rise s = .next u) : Sram a u := by
  refine act_sram (fun x k => ?_) h e
  repeat' with_reducible first | assumption | refine encIndex_sram ?_ | refine Sram.ite ?_ ?_ | split | dsimp only

theorem execParkEnd_sram {t : Nat} (h : Sram a s) (e : execParkEnd t s = .next u) : Sram a u := by
  refine act_sram (fun x k => ?_) h e
  repeat' with_reducible first | assumption | refine parkEnd_sram ?_ | refine Sram.ite ?_ ?_ | split | dsimp only

theorem execBlockReceive_sram {t : Nat} {lane : Fin 16} {bits : List Bool} (h : Sram a s) (e : execBlockReceive t lane bits s = .next u) : Sram a u := by
  refine act_sram (fun x k => ?_) h e
  repeat' with_reducible first | assumption | refine lineReceive_sram ?_ | refine Sram.ite ?_ ?_ | split | dsimp only

theorem execCapSend_sram {t : Nat} {lane : Fin 16} (h : Sram a s) (e : execCapSend t lane s = .next u) : Sram a u := by
  refine act_sram (fun x k => ?_) h e
  repeat' with_reducible first | assumption | refine capSend_sram ?_ | refine Sram.ite ?_ ?_ | split | dsimp only

theorem execCapReceive_sram {t : Nat} {lane : Fin 16} {cap : Nat} (h : Sram a s) (e : execCapReceive t lane cap s = .next u) : Sram a u := by
  refine act_sram (fun x k => ?_) h e
  repeat' with_reducible first | assumption | refine capReceive_sram ?_ | refine Sram.ite ?_ ?_ | split | dsimp only

theorem execCapTimeout_sram {t : Nat} {lane : Fin 16} (h : Sram a s) (e : execCapTimeout t lane s = .next u) : Sram a u := by
  refine act_sram (fun x k => ?_) h e
  repeat' with_reducible first | assumption | refine capTimeout_sram ?_ | refine Sram.ite ?_ ?_ | split | dsimp only

theorem execAckReceive_sram {t : Nat} {lane : Fin 16} {entries : List AckEntry} (h : Sram a s) (e : execAckReceive t lane entries s = .next u) : Sram a u := by
  refine act_sram (fun x k => ?_) h e
  repeat' with_reducible first | assumption | refine ackReceive_sram ?_ | refine Sram.ite ?_ ?_ | split | dsimp only

theorem execCreditReceive_sram {t : Nat} {lane : Fin 16} {entries : List (Nat × Nat)} (h : Sram a s) (e : execCreditReceive t lane entries s = .next u) : Sram a u := by
  refine act_sram (fun x k => ?_) h e
  repeat' with_reducible first | assumption | refine creditReceive_sram ?_ | refine Sram.ite ?_ ?_ | split | dsimp only

theorem execSleepReceive_sram {t : Nat} {lane : Fin 16} {deep : Bool} (h : Sram a s) (e : execSleepReceive t lane deep s = .next u) : Sram a u := by
  refine act_sram (fun x k => ?_) h e
  repeat' with_reducible first | assumption | refine sleepReceive_sram ?_ | refine Sram.ite ?_ ?_ | split | dsimp only

theorem execControlBlockUnknown_sram {t : Nat} {lane : Fin 16} {ctype : Nat} (h : Sram a s) (e : execControlBlockUnknown t lane ctype s = .next u) : Sram a u := by
  refine act_sram (fun x k => ?_) h e
  repeat' with_reducible first | assumption | refine unknownBlock_sram ?_ | refine Sram.ite ?_ ?_ | split | dsimp only

theorem execParcelReceive_sram {t : Nat} {lane : Fin 16} {header : Nat} {blocks : List Nat} (h : Sram a s) (e : execParcelReceive t lane header blocks s = .next u) : Sram a u := by
  refine act_sram (fun x k => ?_) h e
  repeat' with_reducible first | assumption | refine parcelReceive_sram ?_ | refine Sram.ite ?_ ?_ | split | dsimp only

theorem execAckSend_sram {t : Nat} {lane : Fin 16} (h : Sram a s) (e : execAckSend t lane s = .next u) : Sram a u := by
  refine act_sram (fun x k => ?_) h e
  repeat' with_reducible first | assumption | refine ackSend_sram ?_ | refine Sram.ite ?_ ?_ | split | dsimp only

theorem execTransmitSlot_sram {t : Nat} {lane : Fin 16} (h : Sram a s) (e : execTransmitSlot t lane s = .next u) : Sram a u := by
  refine act_sram (fun x k => ?_) h e
  repeat' with_reducible first | assumption | refine transmitSlot_sram ?_ | refine Sram.ite ?_ ?_ | split | dsimp only

theorem execAckTimeout_sram {t : Nat} {lane : Fin 16} (h : Sram a s) (e : execAckTimeout t lane s = .next u) : Sram a u := by
  refine act_sram (fun x k => ?_) h e
  repeat' with_reducible first | assumption | refine ackTimeout_sram ?_ | refine Sram.ite ?_ ?_ | split | dsimp only

theorem execLaneRestart_sram {t : Nat} {lane : Fin 16} (h : Sram a s) (e : execLaneRestart t lane s = .next u) : Sram a u := by
  refine act_sram (fun x k => ?_) h e
  repeat' with_reducible first | assumption | refine laneRestart_sram ?_ | refine Sram.ite ?_ ?_ | split | dsimp only

theorem execParcelTimeout_sram {t : Nat} {stream : Fin 8} (h : Sram a s) (e : execParcelTimeout t stream s = .next u) : Sram a u := by
  refine act_sram (fun x k => ?_) h e
  repeat' with_reducible first | assumption | refine parcelTimeout_sram ?_ | refine Sram.ite ?_ ?_ | split | dsimp only

theorem execLaybyDrain_sram {t : Nat} {stream : Fin 8} (h : Sram a s) (e : execLaybyDrain t stream s = .next u) : Sram a u := by
  refine act_sram (fun x k => ?_) h e
  repeat' with_reducible first | assumption | refine laybyDrain_sram ?_ | refine Sram.ite ?_ ?_ | split | dsimp only

theorem execGapSplitExpiry_sram {t : Nat} {stream : Fin 8} (h : Sram a s) (e : execGapSplitExpiry t stream s = .next u) : Sram a u := by
  refine act_sram (fun x k => ?_) h e
  repeat' with_reducible first | assumption | refine gapSplit_sram ?_ | refine Sram.ite ?_ ?_ | split | dsimp only

theorem execCtrlRead_sram {t : Nat} {port : Fin 2} (h : Sram a s) (e : execCtrlRead t port s = .next u) : Sram a u := by
  refine act_sram (fun x k => ?_) h e
  repeat' with_reducible first | assumption | refine ctrlServe_sram (fun _ _ _ => ?_) ?_ | refine ctrlReadReq_sram ?_ | refine Sram.ite ?_ ?_ | split | dsimp only

theorem execCtrlUnknownOp_sram {t : Nat} {port : Fin 2} (h : Sram a s) (e : execCtrlUnknownOp t port s = .next u) : Sram a u := by
  refine act_sram (fun x k => ?_) h e
  repeat' with_reducible first | assumption | refine ctrlServe_sram (fun _ _ _ => ?_) ?_ | refine Sram.ite ?_ ?_ | split | dsimp only

theorem execTxSleepEnter_sram {t : Nat} {lane : Fin 16} (h : Sram a s) (e : execTxSleepEnter t lane s = .next u) : Sram a u := by
  refine act_sram (fun x k => ?_) h e
  repeat' with_reducible first | assumption | refine sleepEnter_sram ?_ | refine Sram.ite ?_ ?_ | split | dsimp only

theorem execTxWake_sram {t : Nat} {lane : Fin 16} (h : Sram a s) (e : execTxWake t lane s = .next u) : Sram a u := by
  refine act_sram (fun x k => ?_) h e
  repeat' with_reducible first | assumption | refine txWake_sram ?_ | refine Sram.ite ?_ ?_ | split | dsimp only

theorem execWakeResume_sram {t : Nat} {lane : Fin 16} (h : Sram a s) (e : execWakeResume t lane s = .next u) : Sram a u := by
  refine act_sram (fun x k => ?_) h e
  repeat' with_reducible first | assumption | refine wakeResume_sram ?_ | refine Sram.ite ?_ ?_ | split | dsimp only

theorem execPrbsBitsCapture_sram {t : Nat} {_req : Nat} {lane : Fin 16} (h : Sram a s) (e : execPrbsBitsCapture t _req lane s = .next u) : Sram a u := by
  refine act_sram (fun x k => ?_) h e
  repeat' with_reducible first | assumption | refine prbsCapture_sram ?_ | refine Sram.ite ?_ ?_ | split | dsimp only

theorem execBeatSend_sram {t : Nat} (h : Sram a s) (e : execBeatSend t s = .next u) : Sram a u := by
  refine act_sram (fun x k => ?_) h e
  repeat' with_reducible first | assumption | refine beatSend_sram ?_ | refine Sram.ite ?_ ?_ | split | dsimp only

theorem execHealthCheck_sram {t : Nat} {supplies cores firing : Bool} (h : Sram a s) (e : execHealthCheck t supplies cores firing s = .next u) : Sram a u := by
  refine act_sram (fun x k => ?_) h e
  repeat' with_reducible first | assumption | refine healthCheck_sram ?_ | refine Sram.ite ?_ ?_ | split | dsimp only

theorem execBeatReceive_sram {t : Nat} {lane : Fin 4} {info : BitVec 8} {_time : Nat} (h : Sram a s) (e : execBeatReceive t lane info _time s = .next u) : Sram a u := by
  refine act_sram (fun x k => ?_) h e
  repeat' with_reducible first | assumption | refine beatReceive_sram ?_ | refine Sram.ite ?_ ?_ | split | dsimp only

theorem execHbInPulse_sram {t : Nat} (h : Sram a s) (e : execHbInPulse t s = .next u) : Sram a u := by
  refine act_sram (fun x k => ?_) h e
  repeat' with_reducible first | assumption | refine beatPulse_sram ?_ | refine Sram.ite ?_ ?_ | split | dsimp only

theorem execPathLost_sram {t : Nat} {path : Fin 2} (h : Sram a s) (e : execPathLost t path s = .next u) : Sram a u := by
  refine act_sram (fun x k => ?_) h e
  repeat' with_reducible first | assumption | refine pathLost_sram ?_ | refine Sram.ite ?_ ?_ | split | dsimp only

theorem execOwnKeeperLapse_sram {t : Nat} (h : Sram a s) (e : execOwnKeeperLapse t s = .next u) : Sram a u := by
  refine actAny_sram (fun x k => ?_) h e
  repeat' with_reducible first | assumption | refine keeperLapse_sram ?_ | refine Sram.ite ?_ ?_ | split | dsimp only

theorem execIdentityReceive_sram {t : Nat} {id : Identity} (h : Sram a s) (e : execIdentityReceive t id s = .next u) : Sram a u := by
  refine act_sram (fun x k => ?_) h e
  repeat' with_reducible first | assumption | refine identityReceive_sram ?_ | refine Sram.ite ?_ ?_ | split | dsimp only

theorem execTofsUpdate_sram {t : Nat} {stamps : BeatStamps} (h : Sram a s) (e : execTofsUpdate t stamps s = .next u) : Sram a u := by
  refine act_sram (fun x k => ?_) h e
  repeat' with_reducible first | assumption | refine tofsUpdate_sram ?_ | refine Sram.ite ?_ ?_ | split | dsimp only

theorem execShadowSchedule_sram {t : Nat} {notice : ShadowNotice} (h : Sram a s) (e : execShadowSchedule t notice s = .next u) : Sram a u := by
  refine act_sram (fun x k => ?_) h e
  repeat' with_reducible first | assumption | refine shadowNotice_sram ?_ | refine Sram.ite ?_ ?_ | split | dsimp only

theorem execAlignStart_sram {t : Nat} (h : Sram a s) (e : execAlignStart t s = .next u) : Sram a u := by
  refine act_sram (fun x k => ?_) h e
  repeat' with_reducible first | assumption | refine alignStart_sram ?_ | refine Sram.ite ?_ ?_ | split | dsimp only

theorem execDqsTrack_sram {t : Nat} {byteLane : Nat} {drift : Int} (h : Sram a s) (e : execDqsTrack t byteLane drift s = .next u) : Sram a u := by
  refine act_sram (fun x k => ?_) h e
  repeat' with_reducible first | assumption | refine dqsTrack_sram ?_ | refine Sram.ite ?_ ?_ | split | dsimp only

theorem execSelfRefreshEnter_sram {t : Nat} {port : Fin 4} (h : Sram a s) (e : execSelfRefreshEnter t port s = .next u) : Sram a u := by
  refine act_sram (fun x k => ?_) h e
  repeat' with_reducible first | assumption | refine selfRefreshEnter_sram ?_ | refine Sram.ite ?_ ?_ | split | dsimp only

theorem execSelfRefreshExit_sram {t : Nat} {port : Fin 4} (h : Sram a s) (e : execSelfRefreshExit t port s = .next u) : Sram a u := by
  refine act_sram (fun x k => ?_) h e
  repeat' with_reducible first | assumption | refine selfRefreshExit_sram ?_ | refine Sram.ite ?_ ?_ | split | dsimp only

theorem execReplaySend_sram {t : Nat} (h : Sram a s) (e : execReplaySend t s = .next u) : Sram a u := by
  refine act_sram (fun x k => ?_) h e
  repeat' with_reducible first | assumption | refine replaySend_sram ?_ | refine Sram.ite ?_ ?_ | split | dsimp only

theorem execXtrigReceive_sram {t : Nat} {_setup _mask _cause time : Nat} (h : Sram a s) (e : execXtrigReceive t _setup _mask _cause time s = .next u) : Sram a u := by
  refine act_sram (fun x k => ?_) h e
  repeat' with_reducible first | assumption | refine State.setCap_sram ?_ | refine Sram.ite ?_ ?_ | split | dsimp only

theorem execLoopConversion_sram {t : Nat} {n : Fin 8} {code : Fin 4096} (h : Sram a s) (e : execLoopConversion t n code s = .next u) : Sram a u := by
  refine act_sram (fun x k => ?_) h e
  repeat' with_reducible first | assumption | refine loopConversion_sram ?_ | refine Sram.ite ?_ ?_ | split | dsimp only

theorem execSupplyConversion_sram {t : Nat} {k : Fin 8} {code : Fin 4096} (h : Sram a s) (e : execSupplyConversion t k code s = .next u) : Sram a u := by
  refine act_sram (fun x k => ?_) h e
  repeat' with_reducible first | assumption | refine supplyConversion_sram ?_ | refine Sram.ite ?_ ?_ | split | dsimp only

theorem execSeqEntryRun_sram {t : Nat} {codes : List Nat} (h : Sram a s) (e : execSeqEntryRun t codes s = .next u) : Sram a u := by
  refine act_sram (fun x k => ?_) h e
  repeat' with_reducible first | assumption | refine seqEntry_sram ?_ | refine Sram.ite ?_ ?_ | split | dsimp only

theorem execRqPop_sram {t req : Nat} (h : Sram a s) (e : execRqPop t req s = .next u) : Sram a u := by
  refine act_sram (fun x k => ?_) h e
  repeat' with_reducible first | assumption | refine busRead_sram ?_ | refine Sram.ite ?_ ?_ | split | dsimp only

theorem execSpSample_sram {t : Nat} {n : Fin 8} {vs vf : List Int} {comply : Bool} (h : Sram a s) (e : execSpSample t n vs vf comply s = .next u) : Sram a u := by
  refine act_sram (fun x k => ?_) h e
  repeat' with_reducible first | assumption | refine spSample_sram ?_ | refine Sram.ite ?_ ?_ | split | dsimp only

theorem execCurveExpandDone_sram {t : Nat} {n : Fin 8} (h : Sram a s) (e : execCurveExpandDone t n s = .next u) : Sram a u := by
  refine act_sram (fun x k => ?_) h e
  repeat' with_reducible first | assumption | refine curveExpandDone_sram ?_ | refine Sram.ite ?_ ?_ | split | dsimp only

theorem execSensorConversion_sram {t : Nat} {readings : List (Nat × Nat × Int)} (h : Sram a s) (e : execSensorConversion t readings s = .next u) : Sram a u := by
  refine actAny_sram (fun x k => ?_) h e
  repeat' with_reducible first | assumption | refine sensorConversion_sram ?_ | refine Sram.ite ?_ ?_ | split | dsimp only

theorem execThermalLevelChange_sram {t : Nat} (h : Sram a s) (e : execThermalLevelChange t s = .next u) : Sram a u := by
  refine act_sram (fun x k => ?_) h e
  repeat' with_reducible first | assumption | refine thermalLevel_sram ?_ | refine Sram.ite ?_ ?_ | split | dsimp only

theorem execOrderlyStopRecords_sram {t : Nat} (h : Sram a s) (e : execOrderlyStopRecords t s = .next u) : Sram a u := by
  refine act_sram (fun x k => ?_) h e
  repeat' with_reducible first | assumption | refine orderlyRecords_sram ?_ | refine Sram.ite ?_ ?_ | split | dsimp only

theorem execRefOpIssue_sram {t : Nat} {head : Fin 2} (h : Sram a s) (e : execRefOpIssue t head s = .next u) : Sram a u := by
  refine act_sram (fun x k => ?_) h e
  repeat' with_reducible first | assumption | refine refIssue_sram ?_ | refine Sram.ite ?_ ?_ | split | dsimp only

theorem execCalGroup_sram {t : Nat} {die group : Nat} {results : List (Nat × Nat × Int)} (h : Sram a s) (e : execCalGroup t die group results s = .next u) : Sram a u := by
  refine act_sram (fun x k => ?_) h e
  repeat' with_reducible first | assumption | refine calGroup_sram ?_ | refine Sram.ite ?_ ?_ | split | dsimp only

theorem execCalUrgent_sram {t : Nat} {die : Nat} (h : Sram a s) (e : execCalUrgent t die s = .next u) : Sram a u := by
  refine act_sram (fun x k => ?_) h e
  repeat' with_reducible first | assumption | refine calUrgent_sram ?_ | refine Sram.ite ?_ ?_ | split | dsimp only

theorem execNvRecordWrite_sram {t : Nat} {rec : NvRecord} (h : Sram a s) (e : execNvRecordWrite t rec s = .next u) : Sram a u := by
  refine act_sram (fun x k => ?_) h e
  repeat' with_reducible first | assumption | refine nvWrite_sram ?_ | refine Sram.ite ?_ ?_ | split | dsimp only

theorem execPowerOnReset_sram {release : PorRelease} (h : Sram a s) (e : execPowerOnReset release s = .next u) : Sram a u := by
  refine actAny_sram (fun x k => ?_) h e
  repeat' with_reducible first | assumption | refine powerOn_sram ?_ | refine Sram.ite ?_ ?_ | split | dsimp only

theorem execNrstRelease_sram {t : Nat} (h : Sram a s) (e : execNrstRelease t s = .next u) : Sram a u := by
  refine actAny_sram (fun x k => ?_) h e
  repeat' with_reducible first | assumption | refine nrstRise_sram ?_ | refine Sram.ite ?_ ?_ | split | dsimp only

theorem execNrstStuck_sram {t : Nat} (h : Sram a s) (e : execNrstStuck t s = .next u) : Sram a u := by
  refine actAny_sram (fun x k => ?_) h e
  repeat' with_reducible first | assumption | refine nrstStuck_sram ?_ | refine Sram.ite ?_ ?_ | split | dsimp only

theorem execNrstStuckEnd_sram {t : Nat} (h : Sram a s) (e : execNrstStuckEnd t s = .next u) : Sram a u := by
  refine actAny_sram (fun x k => ?_) h e
  repeat' with_reducible first | assumption | refine nrstStuckEnd_sram ?_ | refine Sram.ite ?_ ?_ | split | dsimp only

theorem execErrorAutoAck_sram {t : Nat} (h : Sram a s) (e : execErrorAutoAck t s = .next u) : Sram a u := by
  refine act_sram (fun x k => ?_) h e
  repeat' with_reducible first | assumption | refine autoAck_sram ?_ | refine Sram.ite ?_ ?_ | split | dsimp only

theorem execFatalTimeout_sram {t : Nat} (h : Sram a s) (e : execFatalTimeout t s = .next u) : Sram a u := by
  refine act_sram (fun x k => ?_) h e
  repeat' with_reducible first | assumption | refine fatalTimeout_sram ?_ | refine Sram.ite ?_ ?_ | split | dsimp only

theorem execTrimStepNoFormat_sram {t : Nat} {at_ : HeadBounds} (h : Sram a s) (e : execTrimStepNoFormat t at_ s = .next u) : Sram a u := by
  refine act_sram (fun x k => ?_) h e
  repeat' with_reducible first | assumption | refine idleTrims_sram ?_ | refine Sram.ite ?_ ?_ | split | dsimp only

theorem execFuInputEdge_sram {t : Nat} {src aux : Nat} (h : Sram a s) (e : execFuInputEdge t src aux s = .next u) : Sram a u := by
  refine act_sram (fun x k => ?_) h e
  repeat' with_reducible first | assumption | refine fuEdge_sram ?_ | refine Sram.ite ?_ ?_ | split | dsimp only

theorem execRxSignalDetect_sram {t : Nat} {lane : Fin 16} (h : Sram a s) (e : execRxSignalDetect t lane s = .next u) : Sram a u := by
  refine act_sram (fun x k => ?_) h e
  repeat' with_reducible first | assumption | refine signalDetect_sram ?_ | refine Sram.ite ?_ ?_ | split | dsimp only

theorem execRxWakeLockTimeout_sram {t : Nat} {lane : Fin 16} (h : Sram a s) (e : execRxWakeLockTimeout t lane s = .next u) : Sram a u := by
  refine act_sram (fun x k => ?_) h e
  repeat' with_reducible first | assumption | refine wakeLockTimeout_sram ?_ | refine Sram.ite ?_ ?_ | split | dsimp only

theorem execPrbsBitCheck_sram {t : Nat} {lane : Fin 16} {bit : Bool} (h : Sram a s) (e : execPrbsBitCheck t lane bit s = .next u) : Sram a u := by
  refine act_sram (fun x k => ?_) h e
  repeat' with_reducible first | assumption | refine prbsCheck_sram ?_ | refine Sram.ite ?_ ?_ | split | dsimp only

theorem execOwnLineChange_sram {t : Nat} {high : Bool} (h : Sram a s) (e : execOwnLineChange t high s = .next u) : Sram a u := by
  refine actAny_sram (fun x k => ?_) h e
  repeat' with_reducible first | assumption | refine ownLine_sram ?_ | refine Sram.ite ?_ ?_ | split | dsimp only

theorem execNvProgramDone_sram {t : Nat} (h : Sram a s) (e : execNvProgramDone t s = .next u) : Sram a u := by
  refine act_sram (fun x k => ?_) h e
  repeat' with_reducible first | assumption | refine nvDone_sram ?_ | refine Sram.ite ?_ ?_ | split | dsimp only

theorem execCalGroupStart_sram {t : Nat} {die : Nat} (h : Sram a s) (e : execCalGroupStart t die s = .next u) : Sram a u := by
  refine act_sram (fun x k => ?_) h e
  repeat' with_reducible first | assumption | refine calStart_sram ?_ | refine Sram.ite ?_ ?_ | split | dsimp only

theorem execNrstFall_sram {t : Nat} (h : Sram a s) (e : execNrstFall t s = .next u) : Sram a u := by
  refine actAny_sram (fun x k => ?_) h e
  repeat' with_reducible first | assumption | refine nrstFall_sram ?_ | refine Sram.ite ?_ ?_ | split | dsimp only


end Sys2Proof.Machine
end

