-- ==== Sys2Proof/Machine/Limits.lean ====
section
/-! DEFINITION. Electrical, thermal and mechanical limits (17_startup_faults.md R383, R384; 18_electrical_package.md R402 to
R414, R416, R417, R419, R420) as data, each value in the unit of its row, and the marking of the lid (R429). No step uses
these definitions. -/

namespace Sys2Proof.Machine

/-- A row of a table of limits. -/
structure Limit where
  item : String
  unit : String
  min : Option Int
  typ : Option Int
  max : Option Int
  deriving DecidableEq, Repr

/-- A value keeps to a limit. -/
def Limit.holds (l : Limit) (v : Int) : Bool :=
  (match l.min with | some a => decide (a ≤ v) | none => true) && (match l.max with | some b => decide (v ≤ b) | none => true)

/-- Absolute maximum ratings (R402). -/
def Limits.ratings : List Limit :=
  [
    ⟨"VCORE, VSRAM", "mV", some (-300), none, some 1000⟩,
    ⟨"VANA, VLANE 1.2 V", "mV", some (-300), none, some 1500⟩,
    ⟨"VLANE 0.9 V", "mV", some (-300), none, some 1100⟩,
    ⟨"VIO", "mV", some (-300), none, some 2200⟩,
    ⟨"VDDQ", "mV", some (-300), none, some 700⟩,
    ⟨"VAUX", "mV", some (-300), none, some 4000⟩,
    ⟨"channel input pin", "mV", some (-300), none, some 1500⟩,
    ⟨"channel input, differential", "mV", some (-1000), none, some 1000⟩,
    ⟨"CMOS, LVDS and fire-pair pins; above VIO", "mV", none, none, some 300⟩,
    ⟨"CMOS, LVDS and fire-pair pins", "mV", some (-300), none, some 2200⟩,
    ⟨"AUX0-AUX15", "mV", some (-300), none, some 2100⟩,
    ⟨"sensor-port pins", "mV", some (-500), none, none⟩,
    ⟨"sensor-port pins; above VAUX", "mV", none, none, some 300⟩,
    ⟨"storage temperature", "degC", some (-55), none, some 150⟩,
    ⟨"ESD, human-body model", "V", some (-1000), none, some 1000⟩,
    ⟨"ESD, charged-device model, lane pins", "V", some (-150), none, some 150⟩,
    ⟨"ESD, charged-device model, other pins", "V", some (-250), none, some 250⟩
  ]

/-- Recommended operating conditions (R403). -/
def Limits.conditions : List Limit :=
  [
    ⟨"VCORE", "uV", some 650000, some 750000, some 850000⟩,
    ⟨"VSRAM", "uV", some 760000, some 800000, some 840000⟩,
    ⟨"VANA", "uV", some 1140000, some 1200000, some 1260000⟩,
    ⟨"VIO", "uV", some 1710000, some 1800000, some 1890000⟩,
    ⟨"VLANE 0.9 V", "uV", some 855000, some 900000, some 945000⟩,
    ⟨"VLANE 1.2 V", "uV", some 1140000, some 1200000, some 1260000⟩,
    ⟨"VDDQ", "uV", some 475000, some 500000, some 525000⟩,
    ⟨"VAUX", "uV", some 3135000, some 3300000, some 3465000⟩,
    ⟨"case temperature", "degC", some (-40), none, some 105⟩,
    ⟨"junction temperature", "degC", some (-40), none, some 125⟩
  ]

/-- Supply ramps, 10 % to 90 % of nominal (R384). -/
def Limits.ramps : List Limit :=
  [
    ⟨"ramp", "us", some 100, none, some 20000⟩
  ]

/-- Load steps and noise (R405, R406). -/
def Limits.supplySteps : List Limit :=
  [
    ⟨"VCORE step per ranging die within 1 us", "mA", none, none, some 10000⟩,
    ⟨"VANA noise, 10 kHz to 1 GHz", "uV rms", none, none, some 2000⟩
  ]

/-- Channel inputs (R407, R408). -/
def Limits.channelInputs : List Limit :=
  [
    ⟨"differential input, linear range", "mV", some (-600), none, some 600⟩,
    ⟨"common-mode input", "mV", some 350, some 600, some 850⟩,
    ⟨"differential resistance, TERM = 0", "Ohm", some 10000, none, none⟩,
    ⟨"differential capacitance", "fF", none, some 600, some 800⟩,
    ⟨"termination, TERM = 1", "Ohm", some 90, some 100, some 110⟩,
    ⟨"termination, TERM = 2", "Ohm", some 180, some 200, some 220⟩,
    ⟨"bandwidth, -3 dB", "MHz", some 1500, some 2000, none⟩,
    ⟨"comparator offset, untrimmed", "uV", some (-15000), none, some 15000⟩,
    ⟨"comparator offset after a run", "uV", some (-200), none, some 200⟩,
    ⟨"threshold DAC integral non-linearity", "LSB", some (-1), none, some 1⟩,
    ⟨"input-referred noise", "uV rms", none, some 450, some 700⟩,
    ⟨"shortest ToT resolved, 20 mV overdrive", "ps", none, none, some 500⟩,
    ⟨"recovery after 1.0 V overdrive", "ns", none, none, some 5⟩,
    ⟨"crosstalk from an adjacent channel at 500 MHz", "dB", none, none, some (-50)⟩,
    ⟨"input current, VANA below 0.3 V", "uA", none, none, some 10⟩
  ]

/-- Fire pairs (R409). -/
def Limits.firePairs : List Limit :=
  [
    ⟨"|VOD| driven, into 100 Ohm", "mV", some 300, some 400, some 500⟩,
    ⟨"output common mode", "mV", some 800, some 900, some 1000⟩,
    ⟨"|VOD| in electrical idle", "mV", none, none, some 30⟩,
    ⟨"rise and fall time, 20-80 %", "ps", none, some 150, some 250⟩,
    ⟨"rising-edge placement", "ps", some (-50), none, some 50⟩,
    ⟨"edge jitter", "ps rms", none, some 8, some 12⟩,
    ⟨"receiver threshold", "mV", some (-50), none, some 50⟩,
    ⟨"termination while receiving", "Ohm", some 85, some 100, some 115⟩,
    ⟨"leakage at high impedance", "uA", none, none, some 20⟩
  ]

/-- Trunk and causeway lanes (R410, R411). -/
def Limits.lanePins : List Limit :=
  [
    ⟨"transmit swing, peak to peak", "mV", some 800, some 1000, some 1200⟩,
    ⟨"transmit total jitter at 1e-12", "mUI", none, none, some 250⟩,
    ⟨"receive amplitude, peak to peak", "mV", some 50, none, some 1200⟩,
    ⟨"insertion loss at 28 GHz", "dB", none, none, some 22⟩,
    ⟨"return loss, 50 MHz to 14 GHz", "dB", none, none, some (-10)⟩,
    ⟨"termination", "Ohm", some 90, some 100, some 110⟩,
    ⟨"coupling capacitor", "nF", some 80, some 100, some 120⟩,
    ⟨"capacitor to receiving ball", "mm", none, none, some 10⟩
  ]

/-- LVDS, CMOS and SPI pins (R412 to R414). -/
def Limits.digitalPins : List Limit :=
  [
    ⟨"LVDS receiver termination", "mOhm", some 85000, some 100000, some 115000⟩,
    ⟨"LVDS receiver |VID|", "mV", some 100, none, some 600⟩,
    ⟨"LVDS receiver common mode", "mV", some 400, none, some 1400⟩,
    ⟨"REFCLK", "Hz", some 99999000, some 100000000, some 100001000⟩,
    ⟨"REFCLK duty cycle", "%", some 45, none, some 55⟩,
    ⟨"REFCLK phase jitter, 12 kHz to 20 MHz", "fs rms", none, none, some 500⟩,
    ⟨"HB_OUT |VOD|", "mV", some 250, some 350, some 450⟩,
    ⟨"HB_OUT common mode", "mV", some 1125, none, some 1375⟩,
    ⟨"VIH, of VIO", "permille", some 650, none, none⟩,
    ⟨"VIH above VIO", "mV", none, none, some 300⟩,
    ⟨"VIL", "mV", some (-300), none, none⟩,
    ⟨"VIL, of VIO", "permille", none, none, some 350⟩,
    ⟨"hysteresis, of VIO", "permille", some 100, none, none⟩,
    ⟨"VOH below VIO at -8 mA", "mV", none, none, some 450⟩,
    ⟨"VOL at 8 mA", "mV", none, none, some 450⟩,
    ⟨"OWN VOL at 20 mA", "mV", none, none, some 400⟩,
    ⟨"leakage", "uA", some (-10), none, some 10⟩,
    ⟨"pin capacitance", "pF", none, none, some 5⟩,
    ⟨"FREF_EXT", "MHz", none, none, some 125⟩,
    ⟨"encoder edge spacing", "ns", some 16, none, none⟩,
    ⟨"SYNC or GATE pulse", "ns", some 20, none, none⟩,
    ⟨"SCK", "MHz", none, none, some 50⟩,
    ⟨"MOSI, MSPI_CS_n setup", "ns", some 3, none, none⟩,
    ⟨"MOSI, MSPI_CS_n hold", "ns", some 3, none, none⟩,
    ⟨"MISO valid", "ns", none, none, some 8⟩,
    ⟨"FL_SCK", "MHz", none, none, some 100⟩,
    ⟨"TCK", "MHz", none, none, some 25⟩,
    ⟨"TWINPOS strap", "Ohm", none, none, some 10000⟩,
    ⟨"EMEN pull-down", "Ohm", none, none, some 10000⟩
  ]

/-- Analogue housekeeping pins (R417). -/
def Limits.analoguePins : List Limit :=
  [
    ⟨"AUX input, single-ended", "mV", some 0, none, some 1200⟩,
    ⟨"AUX source impedance", "Ohm", none, none, some 2000⟩,
    ⟨"ADC integral non-linearity", "mLSB", some (-1500), none, some 1500⟩,
    ⟨"ADC differential non-linearity", "mLSB", some (-900), none, some 900⟩,
    ⟨"ADC offset error", "LSB", some (-3), none, some 3⟩,
    ⟨"ADC gain error", "permille", some (-5), none, some 5⟩,
    ⟨"excitation current accuracy", "%", some (-3), none, some 3⟩,
    ⟨"excitation compliance", "mV", some 200, none, none⟩,
    ⟨"excitation compliance, below VAUX", "mV", some 600, none, none⟩,
    ⟨"voltage excitation accuracy", "%", some (-1), none, some 1⟩,
    ⟨"voltage excitation load", "mA", none, none, some 25⟩,
    ⟨"sense common mode", "mV", some 150, none, none⟩,
    ⟨"sense common mode, below VAUX", "mV", some 900, none, none⟩,
    ⟨"sense-line bias current", "nA", some 800, some 1000, some 1200⟩,
    ⟨"port integral non-linearity", "ppm", some (-10), none, some 10⟩
  ]

/-- Thermal and mechanical data (R419, R420). -/
def Limits.mechanics : List Limit :=
  [
    ⟨"theta jc", "mK/W", none, some 60, none⟩,
    ⟨"theta jb", "mK/W", none, some 900, none⟩,
    ⟨"body edge", "um", some 74800, some 75000, some 75200⟩,
    ⟨"lid edge", "um", none, some 70000, none⟩,
    ⟨"ball pitch", "um", none, some 1000, none⟩,
    ⟨"seated height", "um", none, none, some 4600⟩,
    ⟨"ball diameter", "um", none, some 600, none⟩,
    ⟨"coplanarity", "um", none, none, some 200⟩,
    ⟨"mass", "g", none, some 68, none⟩,
    ⟨"static load on the lid", "N", none, none, some 450⟩,
    ⟨"peak reflow", "degC", none, none, some 245⟩
  ]

/-- Largest supply currents in mA (R404): rail, LNF2-E, LNF4-E, LNF8-E, and the typical LNF8-E. -/
def Limits.currents : List (String × Nat × Nat × Nat × Nat) :=
  [
    ("VCORE", 20000, 44000, 92000, 64000),
    ("VSRAM", 4000, 7000, 13000, 9000),
    ("VANA", 1900, 4700, 10300, 8000),
    ("VIO", 500, 500, 500, 200),
    ("VLANE 0.9 V", 5500, 5500, 5500, 4200),
    ("VLANE 1.2 V", 2000, 2000, 2000, 1500),
    ("VDDQ", 4000, 4000, 4000, 2600),
    ("VAUX", 300, 300, 300, 50)
  ]

/-- What each ranging die adds to the hub's VCORE, VSRAM and VANA current, in mA (R404): hub, die. -/
def Limits.dieCurrents : List (String × Nat × Nat) := [("VCORE", 8000, 12000), ("VSRAM", 2500, 1500), ("VANA", 500, 1400)]

/-- The undervoltage detector's thresholds in mV (R383): supply, rising, falling. -/
def Limits.undervoltage : List (String × Nat × Nat) :=
  [("VCORE", 620, 600), ("VSRAM", 740, 720), ("VANA", 1100, 1070), ("VIO", 1650, 1600)]

/-- The rise of OWN to VIH in ps through a pull-up of `ohm` Ohm on a line of `pf` pF: 1.05 × R × C (R413). -/
def ownRisePs (ohm pf : Nat) : Nat := 105 * ohm * pf / 100

/-- n hexadecimal digits of a number. -/
def hexDigit (n : Nat) : Char := if n < 10 then Char.ofNat (48 + n) else Char.ofNat (55 + n)
def hexDigits (n v : Nat) : List Char := (List.range n).map (fun i => hexDigit (v / 16 ^ (n - 1 - i) % 16))

/-- The lid's lines (R429), the last DEV_SERIAL in 16 digits. -/
def lidMarking (code lot : String) (serial : Nat) : List String :=
  ["GARUNE", "LENJA NAFEL", code, lot, String.ofList (hexDigits 16 serial)]

end Sys2Proof.Machine
end

