-- ==== Sys2Proof/Machine/Package.lean ====
section
/-! DEFINITION. The package (18_electrical_package.md R418, R421 to R428, R430): what every ball carries, the test port's
IDCODE, the ordering codes. No step uses these definitions. -/

namespace Sys2Proof.Machine

/-- What a ball carries: a supply or ground, no connection, or a pin: an input leg of a part-wide channel, a leg of a fire
pair, a leg of a lane's transmit or receive pair, a pin of a DRAM subchannel, or another pin by its name. -/
inductive Ball where
  | gnd | vcore | vsram | vana | vio | vlane09 | vlane12 | vddq | vaux | open_
  | chan (ch : Nat) (pos : Bool)
  | fire (head bank : Nat) (pos : Bool)
  | lane (n : Nat) (tx pos : Bool)
  | dram (port sub : Nat) (name : String)
  | pin (name : String)
  deriving DecidableEq, Repr

/-- A row's names in column order: GND and the supplies among them stand for themselves. -/
def namedBall (mk : String → Ball) (name : String) : Ball :=
  if name = "GND" then .gnd else if name = "VIO" then .vio else if name = "VDDQ" then .vddq
  else if name = "VAUX" then .vaux else mk name
def namedAt (mk : String → Ball) (l : List String) (i : Nat) : Ball := namedBall mk (l.getD i "GND")

/-- A ball of a channel field (R422): column x (0 to 17) of the field, signal row r (0 to 23). -/
def channelBall (d r x : Nat) : Ball :=
  if x = 8 then .gnd
  else if x = 17 then .vana
  else
    let y := if x < 8 then x else x - 1
    .chan (192 * (d - 1) + 8 * r + y / 2) (decide (y % 2 = 0))

/-- A field's remaining row: VANA on odd columns. -/
def stripBall (col : Nat) : Ball := if col % 2 = 1 then .vana else .gnd

/-- A ball of columns 1 to 48 of a fire row (R423). -/
def fireBall (head r col : Nat) : Ball :=
  let x := (col - 1) % 3
  if x = 2 then .gnd else .fire head (16 * r + (col - 1) / 3) (decide (x = 0))

/-- Columns 49 to 72 of the rows shared with fire pairs (R426). -/
def row26 : List String :=
  ["GND", "REFCLK_P", "REFCLK_N", "GND", "FREF_EXT", "SYNC", "GATE", "GND", "HB_OUT_P", "HB_OUT_N", "GND", "HB_IN_P",
   "HB_IN_N", "GND", "OWN", "TWINPOS", "nRST", "GND", "EMEN_P", "EMEN_H", "GND", "VIO", "VIO", "GND"]
def row27 : List String :=
  ["GND", "GIN0_A", "GIN0_B", "GIN1_A", "GIN1_B", "GIN2_A", "GIN2_B", "GIN3_A", "GIN3_B", "GND", "MSPI_SCK", "MSPI_CS_n",
   "MSPI_MOSI", "MSPI_MISO", "GND", "FL_SCK", "FL_CS_n", "FL_IO0", "FL_IO1", "FL_IO2", "FL_IO3", "GND", "VIO", "GND"]
def row46 : List String :=
  ["ENC0_A", "ENC0_B", "ENC0_I", "ENC1_A", "ENC1_B", "ENC1_I", "ENC2_A", "ENC2_B", "ENC2_I", "ENC3_A", "ENC3_B", "ENC3_I",
   "TCK", "TMS", "TDI", "TDO", "TRST_n", "GND", "VIO", "GND", "VIO", "GND", "VIO", "GND"]
def row47 : List String :=
  ["PWM0_H", "PWM0_L", "PWM1_H", "PWM1_L", "PWM2_H", "PWM2_L", "PWM3_H", "PWM3_L", "PWM4_H", "PWM4_L", "PWM5_H", "PWM5_L",
   "PWM6_H", "PWM6_L", "PWM7_H", "PWM7_L", "GND", "VIO", "GND", "VIO", "GND", "VIO", "GND", "VIO"]

/-- Row r (0 to 9) of a DRAM subchannel's block of nine columns (R425). -/
def dramRow (sub r : Nat) : List String :=
  match r with
  | 0 => ["DQ0", "DQ1", "DQ2", "DQ3", "DQ4", "DQ5", "DQ6", "DQ7", "VDDQ"]
  | 1 => ["DMI0", "RDQS0_t", "RDQS0_c", "WCK0_t", "WCK0_c", "GND", "GND", "GND", "VDDQ"]
  | 3 => ["DQ8", "DQ9", "DQ10", "DQ11", "DQ12", "DQ13", "DQ14", "DQ15", "VDDQ"]
  | 4 => ["DMI1", "RDQS1_t", "RDQS1_c", "WCK1_t", "WCK1_c", "GND", "GND", "GND", "VDDQ"]
  | 6 => ["CA0", "CA1", "CA2", "CA3", "CA4", "CA5", "CA6", "CS0", "CS1"]
  | 7 => ["CK_t", "CK_c", "GND", if sub = 0 then "ZQ" else "RESET_n", "GND", "VDDQ", "VDDQ", "VDDQ", "VDDQ"]
  | 8 => List.replicate 9 "VDDQ"
  | _ => List.replicate 9 "GND"

/-- Pins of a sensor port in column order (R427). -/
def portPins (n : Nat) : List String := ["EXP", "EXN", "SP", "SN", "FP", "FN"].map (fun p => "SP" ++ toString n ++ "_" ++ p)

/-- Columns 49 to 72 of the core region (R427). -/
def sideBall (row col : Nat) : Ball :=
  match row with
  | 38 | 40 => .vsram
  | 39 | 41 => .gnd
  | 42 => stripBall col
  | 43 => if col < 65 then .pin ("AUX" ++ toString (col - 49)) else if col % 2 = 1 then .gnd else .vaux
  | _ => .pin ((portPins (4 * (row - 44) + (col - 49) / 6)).getD ((col - 49) % 6) "GND")

/-- A ball of the lane field (R424). -/
def laneBall (row col : Nat) : Ball :=
  if row < 72 ∧ (col = 55 ∨ col = 64) then .vlane09
  else if row < 72 ∧ col = 72 then .vlane12
  else
    let base := if col < 64 then 56 else 65
    let l := (row - 49) / 3 + (if col < 64 then 0 else 8)
    let q := (row - 49) % 3
    if row < 49 then .gnd
    else if q = 0 ∧ base ≤ col ∧ col ≤ base + 1 then .lane l true (decide (col = base))
    else if q = 1 ∧ base + 3 ≤ col ∧ col ≤ base + 4 then .lane l false (decide (col = base + 3))
    else .gnd

/-- A ball of the field of die d; on a variant without the die it is not connected (R428). -/
def fieldBall (fitted : Nat → Bool) (d row col : Nat) : Ball :=
  let strip := if d ≤ 4 then 25 else 48
  let first := if d ≤ 4 then 1 else 49
  if !fitted d then .open_
  else if row = strip then stripBall col
  else channelBall d (row - first) ((col - 1) % 18)

/-- What ball row.column carries (R421), the dies fitted given. -/
def ballAt (fitted : Nat → Bool) (row col : Nat) : Ball :=
  if row ≤ 25 then fieldBall fitted ((col - 1) / 18 + 1) row col
  else if row ≤ 27 then
    if col ≤ 48 then fireBall 0 (row - 26) col else namedAt .pin (if row = 26 then row26 else row27) (col - 49)
  else if row ≤ 37 then
    let p := (col - 1) / 18
    let s := (col - 1) / 9 % 2
    namedAt (.dram p s) (dramRow s (row - 28)) ((col - 1) % 9)
  else if row ≤ 45 then
    if col ≤ 48 then (if (row + col) % 2 = 0 then .vcore else .gnd) else sideBall row col
  else if row ≤ 47 then
    if col ≤ 48 then fireBall 1 (row - 46) col else namedAt .pin (if row = 46 then row46 else row47) (col - 49)
  else if col ≤ 54 then fieldBall fitted ((col - 1) / 18 + 5) row col
  else laneBall row col

/-- The balls of a part. -/
def State.ball (s : State) (row col : Nat) : Ball := ballAt s.dieFitted row col

/-- IDCODE of the test port (R418), from the hub's revision and the maker's identity; bit 0 is 1 as IEEE 1149.1 has it. -/
def idcode (rev maker : Nat) : Nat := 1 + 2 * (maker % 2048) + 2 ^ 12 * 0x6E8F + 2 ^ 28 * (rev % 16)

/-- An ordering code (R430): DIE_ID.VARIANT, channels, maximum power in W. -/
structure OrderCode where
  code : String
  variant : Nat
  channels : Nat
  watts : Nat
  deriving DecidableEq, Repr

def orderCodes : List OrderCode := [⟨"LNF2-E", 1, 192, 35⟩, ⟨"LNF4-E", 3, 576, 62⟩, ⟨"LNF8-E", 7, 1344, 115⟩]

end Sys2Proof.Machine
end

