-- ==== Sys2Proof/WellFormed.lean ====
section
/-! DEFINITION. Which commands are well formed: their operands lie in the ranges the spec gives. A meaning is total and
does not depend on it; a command outside its ranges names something the part does not have and changes nothing there. -/

namespace Sys2Proof

/-- A requester identity has 6 bits (12_stream_memory.md R306). -/
def wfReq (r : Nat) : Bool := decide (r < 64)
/-- A part-wide channel (00_scope.md R6). -/
def wfCh (c : Nat) : Bool := decide (c < 1344)
/-- A die: the hub is 0 (00_scope.md R1). -/
def wfDie (d : Nat) : Bool := decide (d < 8)
/-- Part addresses have 40 bits (01_architecture.md R26). -/
def wfAddr (a : Nat) : Bool := decide (a < 2 ^ 40)
/-- A die's slot (03_ranging_operations.md R61). -/
def wfSlot (x : Nat) : Bool := decide (x < 2048)
/-- A die's channel group (00_scope.md R6). -/
def wfGroup (g : Nat) : Bool := decide (g < 16)
/-- An access moves 1 to 64 bytes. -/
def wfSize (n : Nat) : Bool := decide (1 ≤ n ∧ n ≤ 64)
/-- A value fits the largest access, 64 bytes. -/
def wfWord (v : Nat) : Bool := decide (v < 2 ^ 512)
/-- A mask of the 16 software events (06_salrad.md R151). -/
def wfMask (m : Nat) : Bool := decide (m < 2 ^ 16)
/-- A control block is 32 bytes (10_trunk.md R249, R256). -/
def wfBlock (v : Nat) : Bool := decide (v < 2 ^ 256)
/-- Line bits that arrive together, at most a stuffed block's (10_trunk.md R251). -/
def wfLine (l : List Bool) : Bool := decide (l.length ≤ 512)
/-- A control type. -/
def wfByte (v : Nat) : Bool := decide (v < 256)
/-- A DRAM bank key: channel × 1,024 + bank (12_stream_memory.md R305). -/
def wfBankKey (b : Nat) : Bool := decide (b < 65536)
/-- A device time in ns has 64 bits (02_channels_and_time.md R46). -/
def wfTime (t : Nat) : Bool := decide (t < 2 ^ 64)

/-- The command's operands lie in their ranges. -/
def wellFormed (i : Instr) : Bool :=
  match i with
  | .registerWrite _ req addr size val => wfReq req && wfAddr addr && wfSize size && wfWord val
  | .unmappedClear _ req => wfReq req
  | .paceMinRestart _ req => wfReq req
  | .paceWindowEnd _ _ => true
  | .dieLinkStall _ die => wfDie die
  | .lateResultDiscard _ _ _ => true
  | .dramRefreshDue _ bank => wfBankKey bank
  | .eventStart _ ch => wfCh ch
  | .highComparatorEdge _ ch _ => wfCh ch
  | .eventEnd _ ch => wfCh ch
  | .eventTimeoutClose _ ch => wfCh ch
  | .rearmEnd _ ch => wfCh ch
  | .stuckHighTimeout _ ch => wfCh ch
  | .stuckHighClear _ req ch => wfReq req && wfCh ch
  | .dropCountClear _ req ch => wfReq req && wfCh ch
  | .chThrWrite _ req ch val => wfReq req && wfCh ch && wfWord val
  | .channelDisable _ req ch => wfReq req && wfCh ch
  | .eventBin _ ch => wfCh ch
  | .timebaseLock _ => true
  | .timebaseLockLoss _ => true
  | .devtimeSnapshot _ req => wfReq req
  | .poweredHoursWrite _ => true
  | .anchorGo _ req => wfReq req
  | .anchorTakeEffect _ => true
  | .syncEdge _ _ _ => true
  | .syncMiss _ => true
  | .syncFifoPop _ req => wfReq req
  | .iuArm _ req => wfReq req
  | .iuStartEdge _ _ _ _ => true
  | .iuStopEdge _ _ _ _ => true
  | .iuSwstop _ req => wfReq req
  | .iuTimeout _ => true
  | .iuAbort _ req => wfReq req
  | .iuResultRead _ req => wfReq req
  | .fuStart _ req => wfReq req
  | .fuGateOpen _ _ => true
  | .fuGateEnd _ _ => true
  | .fuResult _ => true
  | .cellDecision _ _ _ => true
  | .pulseFire _ die slot => wfDie die && wfSlot slot
  | .accumulationEnd _ die slot => wfDie die && wfSlot slot
  | .correlatorTake _ die => wfDie die
  | .reductionEnd _ die slot => wfDie die && wfSlot slot
  | .handoff _ die => wfDie die
  | .lichenObservation _ => true
  | .opAbandon _ die slot => wfDie die && wfSlot slot
  | .pageClearDone _ die group => wfDie die && wfGroup group
  | .frameClosed _ _ _ => true
  | .lineStart _ _ => true
  | .latchPoint _ _ => true
  | .frameOpen _ _ => true
  | .linePrefetch _ _ _ _ => true
  | .visitCompose _ _ => true
  | .frondCommit _ req _ _ => wfReq req
  | .scanStart _ req _ => wfReq req
  | .scanStop _ req _ => wfReq req
  | .sqRun _ req _ => wfReq req
  | .sqStop _ req _ => wfReq req
  | .sqUnload _ req _ => wfReq req
  | .evSoft _ req mask => wfReq req && wfMask mask
  | .imageLoad _ req _ _ => wfReq req
  | .watchdogExpiry _ _ => true
  | .waitWake _ _ => true
  | .waitTimeout _ _ => true
  | .sleepEnd _ _ => true
  | .fenceDone _ _ => true
  | .mfenceDone _ _ => true
  | .nop _ _ => true
  | .add _ _ => true
  | .addi _ _ => true
  | .sub _ _ => true
  | .and _ _ => true
  | .andi _ _ => true
  | .or _ _ => true
  | .ori _ _ => true
  | .xor _ _ => true
  | .xori _ _ => true
  | .shl _ _ => true
  | .shli _ _ => true
  | .shr _ _ => true
  | .shri _ _ => true
  | .sar _ _ => true
  | .sari _ _ => true
  | .mul _ _ => true
  | .mulhu _ _ => true
  | .mulhs _ _ => true
  | .divu _ _ => true
  | .remu _ _ => true
  | .min _ _ => true
  | .max _ _ => true
  | .movi _ _ => true
  | .muli _ _ => true
  | .cmpeq _ _ => true
  | .cmpne _ _ => true
  | .cmplt _ _ => true
  | .cmpltu _ _ => true
  | .cmpge _ _ => true
  | .cmpgeu _ _ => true
  | .cmpeqi _ _ => true
  | .cmplti _ _ => true
  | .cmpltui _ _ => true
  | .cmpgei _ _ => true
  | .cmpgeui _ _ => true
  | .pand _ _ => true
  | .por _ _ => true
  | .pnot _ _ => true
  | .tstbit _ _ => true
  | .br _ _ => true
  | .brr _ _ => true
  | .call _ _ => true
  | .ret _ _ => true
  | .loop _ _ => true
  | .halt _ _ => true
  | .kick _ _ => true
  | .sleep _ _ => true
  | .time _ _ => true
  | .fstat _ _ => true
  | .wait _ _ => true
  | .wait1 _ _ => true
  | .sig _ _ => true
  | .evclr _ _ => true
  | .ld _ _ => true
  | .st _ _ => true
  | .mfence _ _ => true
  | .dbase _ _ => true
  | .amoadd _ _ => true
  | .ffill _ _ => true
  | .fcommit _ _ => true
  | .fmt _ _ => true
  | .hlock _ _ => true
  | .watch _ _ => true
  | .probe _ _ => true
  | .cqpop _ _ => true
  | .fence _ _ => true
  | .energy _ _ => true
  | .hop _ _ => true
  | .lread _ _ => true
  | .lwrite _ _ => true
  | .lflag _ _ => true
  | .anchor _ _ => true
  | .emit _ _ => true
  | .carm _ _ => true
  | .mset _ _ => true
  | .mprof _ _ => true
  | .driveEnable _ req _ => wfReq req
  | .exchangeStart _ _ => true
  | .exchangeCommand _ _ => true
  | .exchangeMark _ _ => true
  | .echoEdge _ _ _ => true
  | .replyFrame _ _ _ _ => true
  | .replyDeadline _ _ => true
  | .exchangeWindowEnd _ _ => true
  | .softStop _ req _ => wfReq req
  | .standbyCableListen _ _ _ _ _ _ => true
  | .ginChange _ _ _ _ => true
  | .ginDiscrepancyTimeout _ _ => true
  | .ginAgreementEnd _ _ => true
  | .guardRestart _ req => wfReq req
  | .guardReset _ req => wfReq req
  | .motionWindowEnd _ _ _ _ => true
  | .guardHeartbeat _ _ _ => true
  | .firedPulseReport _ _ _ _ => true
  | .channelDisagreeTimeout _ => true
  | .emenReadbackFault _ _ => true
  | .twinGuardState _ _ _ _ => true
  | .loopSample _ _ => true
  | .commandApply _ _ _ => true
  | .encEdge _ _ _ _ => true
  | .encIndex _ _ _ => true
  | .setpointWrite _ req _ _ => wfReq req
  | .rcClear _ req _ => wfReq req
  | .parkRequest _ => true
  | .parkEnd _ => true
  | .trStart _ req => wfReq req
  | .trStop _ req => wfReq req
  | .laneEnable _ req _ _ => wfReq req
  | .blockReceive _ _ bits => wfLine bits
  | .capSend _ _ => true
  | .capReceive _ _ cap => wfBlock cap
  | .capTimeout _ _ => true
  | .ackReceive _ _ _ => true
  | .creditReceive _ _ _ => true
  | .sleepReceive _ _ _ => true
  | .controlBlockUnknown _ _ ctype => wfByte ctype
  | .parcelReceive _ _ _ _ => true
  | .ackSend _ _ => true
  | .transmitSlot _ _ => true
  | .ackTimeout _ _ => true
  | .laneRestart _ _ => true
  | .parcelTimeout _ _ => true
  | .laybyDrain _ _ => true
  | .gapSplitExpiry _ _ => true
  | .ctrlRead _ _ => true
  | .ctrlWrite _ _ => true
  | .ctrlUnknownOp _ _ => true
  | .txSleepEnter _ _ => true
  | .txWake _ _ => true
  | .wakeResume _ _ => true
  | .prbsBitsCapture _ req _ => wfReq req
  | .chkClear _ req _ => wfReq req
  | .injBit _ req _ => wfReq req
  | .injBurst _ req _ => wfReq req
  | .injCrc _ req _ => wfReq req
  | .beatSend _ => true
  | .healthCheck _ _ _ _ => true
  | .beatReceive _ _ _ time => wfTime time
  | .hbInPulse _ => true
  | .pathLost _ _ => true
  | .ownKeeperLapse _ => true
  | .ownClaim _ _ => true
  | .ownRelease _ req => wfReq req
  | .identityReceive _ _ => true
  | .tofsUpdate _ _ => true
  | .shadowSchedule _ _ => true
  | .mirroredWrite _ addr size val => wfAddr addr && wfSize size && wfWord val
  | .alignStart _ => true
  | .epochReceive _ _ _ _ _ => true
  | .dqsTrack _ _ _ => true
  | .dramAccess _ req addr size _ val _ => wfReq req && wfAddr addr && wfSize size && wfWord val
  | .tollHoldEnd _ req bank => wfReq req && wfBankKey bank
  | .selfRefreshEnter _ _ => true
  | .selfRefreshExit _ _ => true
  | .replayIndexWrite _ => true
  | .replayStart _ req => wfReq req
  | .replayAbort _ req => wfReq req
  | .replaySend _ => true
  | .captureArm _ req _ => wfReq req
  | .captureStore _ _ => true
  | .captureTimeoutExpiry _ _ => true
  | .captureAvgIntervalEnd _ _ => true
  | .captureTriggerReport _ => true
  | .capForce _ req => wfReq req
  | .xtrigReceive _ _ mask _ time => wfMask mask && wfTime time
  | .capStop _ req => wfReq req
  | .readout _ req => wfReq req
  | .loopConversion _ _ _ => true
  | .supplyConversion _ _ _ => true
  | .seqEntryRun _ _ => true
  | .seqStart _ req => wfReq req
  | .rqPop _ req => wfReq req
  | .spSample _ _ _ _ _ => true
  | .portEnable _ req _ => wfReq req
  | .curveExpand _ req _ _ => wfReq req
  | .curveExpandDone _ _ => true
  | .sensorConversion _ _ => true
  | .thermalLevelChange _ => true
  | .orderlyStopRecords _ => true
  | .thermalRestart _ => true
  | .refOpIssue _ _ => true
  | .calGroup _ die group _ => wfDie die && wfGroup group
  | .calNow _ req => wfReq req
  | .calUrgent _ die => wfDie die
  | .nvRecordWrite _ _ => true
  | .attGo _ req => wfReq req
  | .attDone _ => true
  | .authGo _ req => wfReq req
  | .sessEnd _ req => wfReq req
  | .ledgGo _ req => wfReq req
  | .ledgerChangeDone _ => true
  | .powerOnReset _ => true
  | .undervoltageTrip _ _ => true
  | .pinReset _ => true
  | .nrstRelease _ => true
  | .nrstStuck _ => true
  | .nrstStuckEnd _ => true
  | .startupStage _ _ => true
  | .errorAutoAck _ => true
  | .fatalTimeout _ => true
  | .errPop _ req => wfReq req
  | .recover _ req => wfReq req
  | .trimStepNoFormat _ _ => true
  | .fuInputEdge _ _ _ => true
  | .rxSignalDetect _ _ => true
  | .rxWakeLockTimeout _ _ => true
  | .prbsBitCheck _ _ _ => true
  | .ownLineChange _ _ => true
  | .nvProgramDone _ => true
  | .calGroupStart _ die => wfDie die
  | .nrstFall _ => true

end Sys2Proof
end

