-- ==== Sys2Proof/Tests/Slice0.lean ====
section
/-! SUPPORT. The model's own tests: ill-formed commands, examples that the spec works out, and for each statement with
hypotheses states and operands that meet them, clause by clause. -/

namespace Sys2Proof.Tests
open Sys2Proof Sys2Proof.Machine
set_option maxRecDepth 20000
set_option Elab.async false

/-! Ill-formed commands that WellFormed refuses, one for each of its checks, and commands at the ends of the ranges. -/

theorem test_wf_requester : wellFormed (.registerWrite 0 64 0 4 0) = false := by decide
theorem test_wf_address : wellFormed (.registerWrite 0 63 (2 ^ 40) 4 0) = false := by decide
theorem test_wf_size_zero : wellFormed (.registerWrite 0 63 0 0 0) = false := by decide
theorem test_wf_size_large : wellFormed (.registerWrite 0 63 0 65 0) = false := by decide
theorem test_wf_word : wellFormed (.registerWrite 0 63 0 64 (2 ^ 512)) = false := by decide
theorem test_wf_ends : wellFormed (.registerWrite 0 63 (2 ^ 40 - 1) 64 (2 ^ 512 - 1)) = true := by decide
theorem test_wf_channel : wellFormed (.eventStart 0 1344) = false ∧ wellFormed (.eventStart 0 1343) = true := by decide
theorem test_wf_die : wellFormed (.dieLinkStall 0 8) = false ∧ wellFormed (.dieLinkStall 0 7) = true := by decide
theorem test_wf_slot : wellFormed (.pulseFire 0 7 2048) = false ∧ wellFormed (.pulseFire 0 7 2047) = true := by decide
theorem test_wf_group : wellFormed (.pageClearDone 0 7 16) = false ∧ wellFormed (.pageClearDone 0 7 15) = true := by decide
theorem test_wf_mask : wellFormed (.evSoft 0 4 65536) = false ∧ wellFormed (.evSoft 0 4 65535) = true := by decide
theorem test_wf_bank : wellFormed (.dramRefreshDue 0 65536) = false ∧ wellFormed (.dramRefreshDue 0 65535) = true := by decide
theorem test_wf_line : wellFormed (.blockReceive 0 15 (List.replicate 513 true)) = false := by decide +kernel
theorem test_wf_block : wellFormed (.capReceive 0 15 (2 ^ 256)) = false := by decide
theorem test_wf_control_type : wellFormed (.controlBlockUnknown 0 15 256) = false := by decide
theorem test_wf_time : wellFormed (.beatReceive 0 3 0 (2 ^ 64)) = false ∧ wellFormed (.beatReceive 0 3 0 (2 ^ 64 - 1)) = true := by decide

/-- Reset with the given register fields put. -/
def T (l : List (Field × Nat)) : State := l.foldl (fun s p => s.put p.1 p.2) State.reset

theorem ready_of (s : State) (h : s.su.power = .running ∧ s.su.wantSafe = false) : Ready s := h

/-- The management core may write anywhere, and stands outside the roles and the rule for a follower. -/
theorem admits_core (s : State) (a : Nat) (h : s.forwards a = false) : Admits s 4 a :=
  ⟨fun _ => rfl, by simp [roleTested], h⟩

/-- A requester with a role may write anywhere but at GUARD_CTL, and stands outside the twin's rule where the part is no
follower and no active. -/
theorem admits_role (s : State) (req a r : Nat)
    (h : s.roleOf req = some r ∧ a ≠ R.GUARD_CTL.addr ∧ s.follower = false ∧ s.twState ≠ 4) : Admits s req a := by
  obtain ⟨h1, h2, h3, h4⟩ := h
  refine ⟨fun v => ?_, by simp [h3], by simp [State.forwards, h4]⟩
  simp [State.mayWrite, h1, h2]

/-- The parts of AtInstr that a computation decides. -/
def atInstr (s : State) (n opc : Nat) (i : Ins) : Bool :=
  !s.policyHolds n && decide (s.sqState n = 2) && s.inSpan n (s.sqPc n) && decide (s.insAt n = i) && decide (i.opc = opc) &&
    (match layoutOf opc with | some l => i.legal l | none => false)

theorem at_of (s : State) (n opc : Nat) (i : Ins) (h : atInstr s n opc i = true) : AtInstr s n opc i := by
  simp only [atInstr, Bool.and_eq_true, decide_eq_true_eq, Bool.not_eq_true'] at h
  obtain ⟨⟨⟨⟨⟨h0, h1⟩, h2⟩, h3⟩, h4⟩, h5⟩ := h
  refine ⟨h0, h1, h2, h3, h4, ?_⟩
  split at h5
  · exact ⟨_, ‹_›, h5⟩
  · cases h5

theorem executes_of (s : State) (n opc : Nat) (i : Ins)
    (h : (atInstr s n opc i && s.executes n i && s.inSpan n (s.sqPc n + 1)) = true) : Executes s n opc i := by
  simp only [Bool.and_eq_true] at h
  exact ⟨at_of _ _ _ _ h.1.1, h.1.2, h.2⟩

/-! Examples that the spec works out. -/

namespace Examples

/-- 00_scope.md, locating channel 1000. -/
theorem test_locate_channel : chDie 1000 = 6 ∧ chLocal 1000 = 40 ∧ chGroup 1000 = 3 ∧ partGroup 6 3 = 83 := by decide

/-- 02_channels_and_time.md, walk correction: TOT 678 between entries of 96 and 64. -/
theorem test_walk :
    walkOf ((T [(R.CH_CFG.WALK_EN 6 40, 1), (R.CH_WALK.E_ODD 6 40 0, 96), (R.CH_WALK.E_EVEN 6 40 1, 64)]).walkTable 1000) 678 = 86 := by
  decide +kernel

/-- 03_ranging_operations.md, the group delay of T = 51 taps in 1 ns bins with S = 2. -/
theorem test_group_delay : groupDelay 51 128 2 = 6464 := by decide

/-- 04_echoes_and_points.md, from histogram to range. -/
theorem test_range :
    (T [(R.BANK_CABLE.CABLE_DLY 0 7, 1587), (R.BANK_LAT.EMIT_LAT 0 7, 397), (R.CH_RANGE_W0.RX_DLY 1000, 1101),
        (R.CH_RANGE_W0.TRIM_OFS 1000, 2 ^ 32 - 12)]).rangeOf
      { w0 := 1000 * 2 ^ 19, w1 := 0, w2 := 0, v0 := 0, bank := 7 }
      { d := 515514, g := 0, nNum := 1480, nDen := 1, conf := 0, qNum := 1, qDen := 1, ext := 0, sat := false, bin := 0 } 45 = 512372 := by
  decide +kernel

/-- 04_echoes_and_points.md, encoding that echo: the record's four words. -/
theorem test_point_record :
    pointRec 207895 512372 2840 0 0 1000 132838 255 0 0 0 1 =
      { len := 16, val := 0x8BA32C17 + 2 ^ 32 * 0xE8058C3E + 2 ^ 64 * 0xF8103733 + 2 ^ 96 * 0x00004007 } := by decide +kernel

/-- 04_echoes_and_points.md, TIME of a V0 8,302,431 ns after FRAME_OPEN. -/
theorem test_point_time : recTime (some 0) 0 8302431 = 132838 := by decide +kernel

/-- 05_scan_out.md, the bank of channel 250 in SF8 with groups 0 to 23 on head A. -/
theorem test_bank_of_channel :
    (T [(⟨R.HEAD_GROUPS_A.addr 0, 0, 32⟩, 0x00FFFFFF)]).bankOf 250 = some 27 := by decide +kernel

/-- 06_salrad.md, encoding (p2) addi g5, g7, 100. -/
theorem test_addi_word :
    insOf 0x0229C08000000064 = { opc := 0x02, dst := 5, a := 7, b := 0, pred := 2, psense := false, imm := 100 } := by decide +kernel

/-- 07_emitter_drive.md, the soft-start of a cold bank: envelopes, drive code and MON_EXP at k = 0, 2 and 4. -/
theorem test_soft_start :
    let s := T [(R.DRV_SOFT.SOFT_START 0, 128), (R.DRV_SOFT.SOFT_LINES 0, 4)]
    s.envelope 0 (some 0) = 128 ∧ s.envelope 0 (some 2) = 192 ∧ s.envelope 0 none = 256 := by decide +kernel

/-- 07_emitter_drive.md, the window of MON after line 6, and 08_emission_guard.md, MON_EXP of a value of 355. -/
theorem test_mon_window :
    let s := (T [(R.BANK_MON.MON_GAIN 0 12, 3200), (R.BANK_MON.MON_TOL 0 12, 26), (R.BANK_MON.MON_FLOOR 0 12, 16)])
    let a := s.setBank 0 12 { reqPrev := 639 }
    a.monExp 0 12 = 499 ∧ a.monOk 0 12 512 = true ∧ a.monOk 0 12 430 = false ∧
      (s.setBank 0 12 { reqPrev := 355 }).monExp 0 12 = 277 := by decide +kernel

/-- 08_emission_guard.md, the widths of family 0, code 0 at PW 40. -/
theorem test_widths : cutWidths 40 [0, 4, 12, 15, 26, 36, 47, 50] = [24, 40, 16, 40, 40, 40, 16, 40] := by decide

/-- 10_trunk.md R260, CRC-32C of the ASCII string 123456789. -/
theorem test_crc32c : crc32c [0x31, 0x32, 0x33, 0x34, 0x35, 0x36, 0x37, 0x38, 0x39] = 0xE3069283 := by decide +kernel

/-- 14_housekeeping.md, Pt100 at 25 °C against 400 Ω: the same x at 500 µA. -/
theorem test_pt100 : spRaw 1 1097347 4000000 0 = (2301303, false) := by decide +kernel

/-- 15_thermal_calibration.md, thermal_cap at 1,921 and 1,944 in level 2. -/
theorem test_thermal_cap : thermalCap 2 1921 = 4058 ∧ thermalCap 2 1944 = 3217 ∧ thermalCap 1 1944 = 4095 := by decide

/-- FIPS 180-4's digest of "abc", which 16_security_ledger.md R367 names by its standard. -/
theorem test_sha512 : (sha512 [0x61, 0x62, 0x63]).take 8 = [0xDD, 0xAF, 0x35, 0xA1, 0x93, 0x61, 0x7A, 0xBA] := by decide +kernel

/-- RFC 8032's first test vector: its public key, and its signature of the empty message, each a little-endian number. -/
def rfcKey : Nat := 0x1A5107F7681A02AF2523A6DAF372E10E3A0764C9D3FE4BD5B70AB18201985AD7
def rfcSignature : Nat :=
  0xB107A8E4341516524BE5B59F0F55BD26BB4F91C70391EC6AC3BA3901582B85F * 2 ^ 256
    + 0x5501492265E073D874D9E5B81E7F87848A826E80CCE2869072AC60C3004356E5

theorem test_ed25519 : edVerify rfcKey rfcSignature [] = true := by decide +kernel

/-- 06_salrad.md R179's example: 81.9 pulses are needed. -/
theorem test_policy_pulses : pulsesSuffice 82 4 128 64 5120 = true ∧ pulsesSuffice 81 4 128 64 5120 = false := by decide

/-- 18_electrical_package.md's example: the balls of channel 1000, FIRE_B[27] and TRK9. -/
theorem test_balls :
    let f := ballAt (fun _ => true)
    f 54 19 = .chan 1000 true ∧ f 54 20 = .chan 1000 false ∧ f 54 27 = .gnd ∧ f 54 36 = .vana ∧
    f 47 34 = .fire 1 27 true ∧ f 47 36 = .gnd ∧ f 52 66 = .lane 9 true false ∧ f 53 68 = .lane 9 false true := by decide +kernel

/-- 17_startup_faults.md R383 and 18_electrical_package.md R403: every falling threshold lies below the operating range. -/
theorem test_limits : (Limits.conditions.map (fun l => l.holds 800000)).take 3 = [true, true, false] ∧
    (Limits.undervoltage.all (fun x => decide (x.2.2 < x.2.1))) = true := by decide

end Examples

/-! What meets the hypotheses of the statements. Each conjunct is one clause. -/

/-! The statements over every command. -/

namespace Infrastructure

theorem wit_StepRunsFront : State.reset.pending = [] := by decide +kernel

/-- Memory with a byte, a register set, and a command that waits. -/
def canonState : State := { T [(⟨R.PACE_CFG.addr 3, 0, 10⟩, 77)] with mem := [(dataBase, 7)], pending := [.eventStart 640 5] }

theorem wit_CanonicalKept : canonState.Canon ∧ ∃ u, step canonState = .next u :=
  ⟨by unfold State.Canon; decide +kernel, _, rfl⟩

def powerOff : State := { State.reset with su := { noSupply := true } }

theorem wit_ClockNeverRunsBack :
    ((∀ t p, Instr.eventStart 640 5 ≠ .powerOnReset ⟨t, p⟩) ∧ ∃ u, exec (.eventStart 640 5) State.reset = .next u) ∧
    (powerOff.su.noSupply = true ∧ ∃ u, exec (.powerOnReset ⟨640, true⟩) powerOff = .next u) :=
  ⟨⟨fun _ _ h => by injection h, _, rfl⟩, by decide +kernel, _, rfl⟩

theorem wit_BlocksIsolated :
    let c := Instr.add 640 2
    (c.writesRegisters = false ∧ c.resets = false ∧ ∃ u, exec c State.reset = .next u) ∧
    (c.movesChannels = false ∧ c.movesTimeBase = false ∧ c.movesPoints = false ∧ c.movesMotion = false ∧
      c.movesCapture = false ∧ c.movesHousekeeping = false ∧ c.movesThermal = false ∧ c.movesSecurity = false) :=
  ⟨⟨rfl, rfl, _, rfl⟩, rfl, rfl, rfl, rfl, rfl, rfl, rfl, rfl⟩

theorem wit_BytesKept :
    (Instr.add 640 2).storesBytes = false ∧ (∃ u, exec (.add 640 2) State.reset = .next u) ∧ dramBase - 1 < dramBase :=
  ⟨rfl, ⟨_, rfl⟩, by decide⟩

/-- A die that counts for the part's pace, as PartPaceIsLowest has it. -/
def countsForPace (s : State) (d : Nat) : Prop :=
  d < 8 ∧ (d = 0 ∨ s.dieFitted d = true ∧ s.dieDark d = false) ∧ s.flag (R.PACE_STATUS.PACE_VALID d) = true

def paced : State := T [(R.PACE_STATUS.PACE_VALID 7, 1)]

theorem wit_PartPaceIsLowest : (∃ d, countsForPace paced d) ∧ (∀ d, ¬ countsForPace State.reset d) := by
  refine ⟨⟨7, by unfold countsForPace; decide +kernel⟩, fun d h => ?_⟩
  have a : ∀ d < 8, State.reset.flag (R.PACE_STATUS.PACE_VALID d) = false := by decide +kernel
  exact absurd h.2.2 (by simp [a d h.1])

theorem class_shown (a : Nat) (c : FieldClass)
    (h : ((regHit a).any fun x => x.def_.fields.any fun g => decide (g.cls = c)) = true) :
    ∃ x g, regHit a = some x ∧ g ∈ x.def_.fields ∧ g.cls = c := by
  simp only [Option.any_eq_true, List.any_eq_true, decide_eq_true_eq] at h
  obtain ⟨x, h1, g, h2, h3⟩ := h
  exact ⟨x, g, h1, h2, h3⟩

/-- A register field of each class. -/
theorem wit_RegisterClasses :
    ∀ p ∈ [(R.CH_CFG.addr 7 191, FieldClass.static), (R.CH_THR.addr 7 191, .live), (R.CH_STATUS.addr 1 0, .w1c),
        (R.CH_EVT_COUNT.addr 7 191, .readOnly), (R.PACE_CFG.addr 7, .action), (R.HEAD_CTL.addr 1, .latched)],
      ∃ x g, regHit p.1 = some x ∧ g ∈ x.def_.fields ∧ g.cls = p.2 := by
  have a : ∀ p ∈ [(R.CH_CFG.addr 7 191, FieldClass.static), (R.CH_THR.addr 7 191, .live), (R.CH_STATUS.addr 1 0, .w1c),
      (R.CH_EVT_COUNT.addr 7 191, .readOnly), (R.PACE_CFG.addr 7, .action), (R.HEAD_CTL.addr 1, .latched)],
      ((regHit p.1).any fun x => x.def_.fields.any fun g => decide (g.cls = p.2)) = true := by decide +kernel
  exact fun p h => class_shown _ _ (a p h)

/-- A learnt entry at range 1,000 with PIN and SCREEN, and a class 3 echo there, which sets RETRO under the settings of reset. -/
def learnt : Nat := 1000 + 2 ^ 89 + 2 ^ 91

theorem wit_LearningKeepsFlags :
    (learnt < 2 ^ 256 ∧ 2 ^ 64 - 1 < 2 ^ 64) ∧
    (lget learnt L.retro = 0 ∧ lget (observed (2 ^ 64 - 1) 0x24204054 [(3, 1000, 5)] learnt) L.retro = 1) ∧
    lget (learnt + 2 ^ 88) L.retro = 1 := by decide +kernel

end Infrastructure

/-! The pace of a die whose rings all run at their references, which are free constants. -/

namespace RingPace

theorem least_of_four (f : Nat → Nat) : ∃ r, r < 4 ∧ ∀ k, k < 4 → f r ≤ f k := by
  have h (a b : Nat) (ha : a < 4) (hb : b < 4) : ∃ r, r < 4 ∧ f r ≤ f a ∧ f r ≤ f b := by
    rcases Nat.le_total (f a) (f b) with h | h
    · exact ⟨a, ha, Nat.le_refl _, h⟩
    · exact ⟨b, hb, h, Nat.le_refl _⟩
  obtain ⟨x, hx, h0, h1⟩ := h 0 1 (by decide) (by decide)
  obtain ⟨y, hy, h2, h3⟩ := h 2 3 (by decide) (by decide)
  obtain ⟨r, hr, hx', hy'⟩ := h x y hx hy
  refine ⟨r, hr, fun k hk => ?_⟩
  match k, hk with
  | 0, _ => omega
  | 1, _ => omega
  | 2, _ => omega
  | 3, _ => omega

def atReference : List Nat := [Config.ringRef 28, Config.ringRef 29, Config.ringRef 30, Config.ringRef 31]

theorem wit_PaceAndDarkDies_rings :
    ∃ r, 7 < 8 ∧ r < 4 ∧ ringFault 7 r (atReference.getD r 0) = false ∧
      ∀ k, k < 4 → ringFault 7 k (atReference.getD k 0) = false →
        min 1023 (256 * atReference.getD r 0 / Config.ringRef (4 * 7 + r)) ≤
          min 1023 (256 * atReference.getD k 0 / Config.ringRef (4 * 7 + k)) := by
  obtain ⟨r, h, g⟩ := least_of_four (fun r => min 1023 (256 * atReference.getD r 0 / Config.ringRef (4 * 7 + r)))
  refine ⟨r, by decide, h, ?_, fun k hk _ => g k hk⟩
  have e : ∀ k, k < 4 → atReference.getD k 0 = Config.ringRef (4 * 7 + k) := by
    intro k hk
    match k, hk with
    | 0, _ => rfl
    | 1, _ => rfl
    | 2, _ => rfl
    | 3, _ => rfl
  rw [e r h]
  simp only [ringFault, decide_eq_false_iff_not]
  omega

end RingPace

/-! A signature that the neutral point verifies over any message, so that the messages that hold free values are verified. -/

namespace Signatures

/-- A point with X = T = 0 and Y = Z: a spelling of the neutral point. -/
def neutral (p : EdPoint) : Prop := p.x = 0 ∧ p.t = 0 ∧ p.y = p.z

theorem edMul_zero (n : Nat) (p : EdPoint) : edMul n 0 p = edZero := by
  induction n generalizing p with
  | zero => rfl
  | succ n ih => simp [edMul, ih]

theorem fsub_self (a : Nat) : fsub a a = 0 := by
  unfold fsub
  rw [Nat.add_comm, Nat.add_sub_cancel, Nat.mod_self]

theorem edAdd_neutral (p q : EdPoint) (hp : neutral p) (hq : neutral q) : neutral (edAdd p q) := by
  obtain ⟨a, b, c⟩ := hp
  obtain ⟨d, e, f⟩ := hq
  have h0 (y : Nat) : fsub y 0 = y % edP := by simp [fsub]
  have h1 (y : Nat) (h : y < edP) : fsub y 0 = y := by rw [h0, Nat.mod_eq_of_lt h]
  have hP : 0 < edP := by decide
  have m : p.y % edP * (q.y % edP) % edP = p.y * q.y % edP := (Nat.mul_mod _ _ _).symm
  have g : (p.y * q.y % edP + p.y * q.y % edP) % edP = p.z * 2 * q.z % edP := by
    rw [← c, ← f, ← Nat.add_mod, ← Nat.two_mul, Nat.mul_comm p.y 2, Nat.mul_assoc]
  refine ⟨?_, ?_, ?_⟩
  · simp [edAdd, a, d, h0, m, fsub_self]
  · simp [edAdd, a, d, h0, m, fsub_self]
  · simp only [edAdd, a, b, d, e, h0, m, Nat.add_zero, Nat.zero_mul, Nat.zero_mod, Nat.mod_mod, g]

theorem edMul_neutral (n k : Nat) (p : EdPoint) (h : neutral p) : neutral (edMul n k p) := by
  induction n generalizing k p with
  | zero => exact ⟨rfl, rfl, rfl⟩
  | succ n ih =>
    have g := ih (k / 2) (edAdd p p) (edAdd_neutral p p h h)
    simp only [edMul]
    split
    · exact edAdd_neutral _ _ g h
    · exact g

theorem edSame_neutral (q : EdPoint) (h : neutral q) : edSame edZero q = true := by
  obtain ⟨a, _, c⟩ := h
  simp [edSame, edZero, a, c]

/-- The neutral point as the key, and as the signature's R with S = 0, verify every message. -/
theorem neutral_verifies (msg : List Nat) : edVerify 1 1 msg = true := by
  have d : edDecode 1 = some ⟨0, 1, 1, 0⟩ := by decide +kernel
  have z : neutral ⟨0, 1, 1, 0⟩ := ⟨rfl, rfl, rfl⟩
  have r : (1 : Nat) % 2 ^ 256 = 1 := by decide
  have q : (1 : Nat) / 2 ^ 256 = 0 := by decide
  simp only [edVerify, r, q, d, edMul_zero]
  generalize leNat (sha512 (bytesOf 32 1 ++ bytesOf 32 1 ++ msg)) % edL = k
  rw [edSame_neutral _ (edAdd_neutral _ _ z (edMul_neutral 256 k _ z))]
  decide

/-- A session of Service that holds such a signature. -/
def signedIn : State :=
  { State.reset with sec := { keys := [(10, 1)], sessions := [(2, { authRole := 3, sig := 1 })] } }

theorem wit_RecordsQuotesAndChanges_auth :
    Ready signedIn ∧ 2 ≤ 2 ∧ ((signedIn.tick 640).sess 2).authRole < 4 ∧ (signedIn.tick 640).roleKey 3 ≠ 0 ∧
      ∀ msg, edVerify ((signedIn.tick 640).roleKey 3) ((signedIn.tick 640).sess 2).sig msg = true := by
  refine ⟨ready_of _ (by decide +kernel), by decide, by decide +kernel, by decide +kernel, fun msg => ?_⟩
  have a : (signedIn.tick 640).roleKey 3 = 1 := by decide +kernel
  have b : ((signedIn.tick 640).sess 2).sig = 1 := by decide +kernel
  rw [a, b]
  exact neutral_verifies msg

/-- A change request for CODE_FAMILY, value 63, by Integrator, whose serial and hash are operands. -/
def requestOf (d h : Nat) : Nat :=
  0x4748434C + 2 ^ 32 * (5 + 256) + 2 ^ 64 * 4 + 2 ^ 128 * d + 2 ^ 192 * h + 2 ^ 704

theorem requestOf_word (d h i : Nat) : word32 (requestOf d h) i = requestOf d h / 2 ^ (32 * i) % 2 ^ 32 := by
  simp only [word32, bits, Nat.shiftRight_eq_div_pow]

theorem requestOf_slice (d h i n : Nat) : slice (requestOf d h) i n = requestOf d h / 2 ^ (8 * i) % 2 ^ (8 * n) := by
  simp only [slice, bits, Nat.shiftRight_eq_div_pow]

theorem requestOf_words (d h : Nat) (hd : d < 2 ^ 64) (hh : h < 2 ^ 512) :
    word32 (requestOf d h) 0 = 0x4748434C ∧ word32 (requestOf d h) 1 = 261 ∧ word32 (requestOf d h) 2 = 4 ∧
      word32 (requestOf d h) 3 = 0 ∧ word32 (requestOf d h) 38 = 0 ∧ word32 (requestOf d h) 39 = 0 ∧
      slice (requestOf d h) 24 64 = h ∧ slice (requestOf d h) 16 8 = d ∧ slice (requestOf d h) 88 64 = 1 := by
  simp only [requestOf_word, requestOf_slice]
  unfold requestOf
  refine ⟨?_, ?_, ?_, ?_, ?_, ?_, ?_, ?_, ?_⟩ <;> omega

/-- A part with 31 of CODE_FAMILY's 32 fuses burnt, and a request in its staging window. -/
def requestStaged (h : Nat) : State :=
  ({ State.reset with sec := { keys := [(8, 1)], fuses := [(5, 31)] } }.store (stagingBase + 160) 4 63).store stagingBase 160 h

theorem store_keeps (s : State) (k n v : Nat) : (s.store k n v).sec = s.sec ∧ (s.store k n v).regs = s.regs := by
  induction n generalizing s k v with
  | zero => exact ⟨rfl, rfl⟩
  | succ n ih =>
    obtain ⟨a, b⟩ := ih (s.setByte k (BitVec.ofNat 8 v)) (k + 1) (v / 256)
    exact ⟨a, b⟩

theorem request_passes (d h : Nat) (s : State) (hd : d < 2 ^ 64) (hh : h < 2 ^ 512) (e : d = devSerial)
    (f : h = hashNat 4 63) (k : s.roleKey 1 = 1) (n : s.ledgerCount = 0) (u : s.sec.fuses.get 0 5 = 31)
    (r0 : s.running 0 = false) (r1 : s.running 1 = false) : s.ledgTest (requestOf d h) 63 = 0 := by
  obtain ⟨w0, w1, w2, w3, w38, w39, s1, s2, s3⟩ := requestOf_words d h hd hh
  have b0 : bits 261 0 8 = 5 := by decide
  have b1 : bits 261 8 2 = 1 := by decide
  have b2 : bits 261 10 22 = 0 := by decide
  unfold State.ledgTest
  simp only [w0, w1, w2, w3, w38, w39, s1, s2, s3, b0, b1, b2, ← e, ← f, n]
  have sk : settingKnown 5 = true := by decide
  have sl : settingLen 5 = 4 := by decide
  have sr : settingRole 5 1 = true := by decide
  have sm : settingLimit 5 = some 32 := by decide
  have v : s.valueOk 5 63 = true := rfl
  simp [k, u, r0, r1, neutral_verifies, sk, sl, sr, sm, v]

theorem wit_RecordsQuotesAndChanges_request :
    ∃ s : State, s.flag R.SEC_STATUS.LEDG_BUSY = false ∧
      s.ledgTest (s.load stagingBase 160) (s.load (stagingBase + 160) (min 16224 (word32 (s.load stagingBase 160) 2))) = 0 ∧
      settingLimit (bits (word32 (s.load stagingBase 160) 1) 0 8) = some 32 := by
  have hd : devSerial < 2 ^ 64 := Config.devSerial.isLt
  have hh : hashNat 4 63 < 2 ^ 512 := by decide +kernel
  obtain ⟨d, ed⟩ : ∃ d, d = devSerial := ⟨_, rfl⟩
  obtain ⟨h, eh⟩ : ∃ h, h = hashNat 4 63 := ⟨_, rfl⟩
  rw [← ed] at hd
  rw [← eh] at hh
  have w := requestOf_words d h hd hh
  have lt : requestOf d h < 256 ^ 160 := by unfold requestOf; omega
  have kept := fun (s : State) (k n v : Nat) => store_keeps s k n v
  have sec : (requestStaged (requestOf d h)).sec = { keys := [(8, 1)], fuses := [(5, 31)] } := by
    unfold requestStaged; rw [(kept _ _ _ _).1, (kept _ _ _ _).1]
  have regs : (requestStaged (requestOf d h)).regs = [] := by
    unfold requestStaged; rw [(kept _ _ _ _).2, (kept _ _ _ _).2]; rfl
  have get (f : Field) : (requestStaged (requestOf d h)).get f = State.reset.get f := by
    simp only [State.get, State.reg, regs]; rfl
  have l0 : (requestStaged (requestOf d h)).load stagingBase 160 = requestOf d h := by
    unfold requestStaged; rw [State.load_store, Nat.mod_eq_of_lt lt]
  have l1 : (requestStaged (requestOf d h)).load (stagingBase + 160) 4 = 63 := by
    have a (s : State) (g : Nat) : (s.store stagingBase 160 g).load (stagingBase + 160) 4 = s.load (stagingBase + 160) 4 := by
      simp only [State.load]
      rw [State.byte_store _ _ _ _ _ (by decide), State.byte_store _ _ _ _ _ (by decide),
        State.byte_store _ _ _ _ _ (by decide), State.byte_store _ _ _ _ _ (by decide)]
    unfold requestStaged
    exact (a _ _).trans ((State.load_store _ _ _ _).trans (by decide))
  refine ⟨requestStaged (requestOf d h), ?_, ?_, ?_⟩
  · simp only [State.flag, get]; decide +kernel
  · rw [l0, w.2.2.1, show min 16224 4 = 4 from rfl, l1]
    refine request_passes d h _ hd hh ed eh ?_ ?_ ?_ ?_ ?_
    · simp only [State.roleKey, sec]; decide
    · simp only [State.ledgerCount, get]; decide +kernel
    · rw [sec]; decide
    · simp only [State.running, State.flag, get]; decide +kernel
    · simp only [State.running, State.flag, get]; decide +kernel
  · rw [l0, w.2.1]; decide

end Signatures

/-! A signed image, sequencer instructions by opcode, an op that bins an event. -/

namespace Further

/-- Program and data of a signed image. -/
def imageBody : List Nat := [1, 2, 3, 4, 5, 6, 7, 8, 9, 10]

/-- The image for SQ7, at the last instruction and the last two data bytes, signed under a key of Operator. -/
def image : List Byte :=
  (bytesOf 192 (0x44524C53 + 2 ^ 32 * (1 + 2 ^ 16 * 0x80) + 2 ^ 64 * 131071 + 2 ^ 96 * 1 + 2 ^ 128 * 4194302 + 2 ^ 160 * 2
    + 2 ^ 416 * 131071 + 2 ^ 480 * (2 + 16 * 7) + 2 ^ 512 * leNat (sha512 imageBody) + 2 ^ 1024) ++ imageBody).map
    (BitVec.ofNat 8)

def imageState : State := { State.reset with sec := { keys := [(9, 1)], sessions := [(0, { role := some 2 })] } }

theorem wit_SequencersControlled_image :
    Ready imageState ∧ (imageState.tick 640).roleOf 0 = some 2 ∧ 1 ≤ 2 ∧ 2 ≤ 3 ∧
      (imageState.tick 640).imageOk false (image.map BitVec.toNat) = true :=
  ⟨ready_of _ (by decide +kernel), by decide +kernel⟩

/-- An instruction word, and SQ2 running at it at address 3 of its span, with general registers given. -/
def insWord (i : Ins) : Nat :=
  i.opc * 2 ^ 56 + i.dst * 2 ^ 51 + i.a * 2 ^ 46 + i.b * 2 ^ 41 + i.pred * 2 ^ 38 + (if i.psense then 2 ^ 37 else 0) + i.imm
def ins (opc dst a b imm : Nat) : Ins := { opc := opc, dst := dst, a := a, b := b, pred := 0, psense := false, imm := imm }
def running (i : Ins) (l : List (Nat × Nat)) : State :=
  ((T ([(R.SQ_STATUS.STATE 2, 2), (R.SQ_SPAN_HI.SPAN_HI 2, 15), (R.SQ_PC.PC 2, 3)] ++
    l.map (fun p => (R.SQ_GREG.GREG 2 p.1, p.2)))).store (progBase + 24) 8 (insWord i)).setSeq 2 { role := 2 }

/-- Every opcode of ArithmeticInstructions, on 0x80000000 and 0 and with the immediate 0xFFFFFFFF. -/
theorem wit_ArithmeticInstructions :
    (∀ i ∈ ([0x01, 0x03, 0x04, 0x06, 0x08, 0x0A, 0x0C, 0x0E, 0x10, 0x11, 0x12, 0x13, 0x14, 0x15, 0x16].map
        (fun o => ins o 5 6 7 0) ++
      [0x02, 0x05, 0x07, 0x09, 0x0B, 0x0D, 0x0F, 0x18].map (fun o => ins o 5 6 0 0xFFFFFFFF) ++
      [ins 0x17 5 0 0 0xFFFFFFFF, ins 0x00 0 0 0 0]),
      let s := running i [(6, 0x80000000), (7, 0)]
      Ready s ∧ Executes (s.tick 640) 2 i.opc i) := by
  have a : ∀ i ∈ ([0x01, 0x03, 0x04, 0x06, 0x08, 0x0A, 0x0C, 0x0E, 0x10, 0x11, 0x12, 0x13, 0x14, 0x15, 0x16].map
        (fun o => ins o 5 6 7 0) ++
      [0x02, 0x05, 0x07, 0x09, 0x0B, 0x0D, 0x0F, 0x18].map (fun o => ins o 5 6 0 0xFFFFFFFF) ++
      [ins 0x17 5 0 0 0xFFFFFFFF, ins 0x00 0 0 0 0]),
      let s := running i [(6, 0x80000000), (7, 0)]
      (s.su.power = .running ∧ s.su.wantSafe = false) ∧ (atInstr (s.tick 640) 2 i.opc i && (s.tick 640).executes 2 i &&
        (s.tick 640).inSpan 2 ((s.tick 640).sqPc 2 + 1)) = true := by decide +kernel
  exact fun i h => ⟨(a i h).1, executes_of _ _ _ _ (a i h).2⟩

/-- Every opcode of PredicatesWritten. -/
theorem wit_PredicatesWritten :
    (∀ i ∈ ([0x20, 0x21, 0x22, 0x23, 0x24, 0x25].map (fun o => ins o 3 6 7 0) ++
      [0x26, 0x27, 0x28, 0x29, 0x2A].map (fun o => ins o 3 6 0 0xFFFFFFFF) ++
      [ins 0x2F 3 6 0 31, ins 0x2C 3 1 2 0, ins 0x2D 3 1 2 0, ins 0x2E 3 1 0 0]),
      let s := running i [(6, 0x80000000), (7, 0)]
      Ready s ∧ Executes (s.tick 640) 2 i.opc i) ∧ 0 < 8 ∧ 7 < 8 := by
  have a : ∀ i ∈ ([0x20, 0x21, 0x22, 0x23, 0x24, 0x25].map (fun o => ins o 3 6 7 0) ++
      [0x26, 0x27, 0x28, 0x29, 0x2A].map (fun o => ins o 3 6 0 0xFFFFFFFF) ++
      [ins 0x2F 3 6 0 31, ins 0x2C 3 1 2 0, ins 0x2D 3 1 2 0, ins 0x2E 3 1 0 0]),
      let s := running i [(6, 0x80000000), (7, 0)]
      (s.su.power = .running ∧ s.su.wantSafe = false) ∧ (atInstr (s.tick 640) 2 i.opc i && (s.tick 640).executes 2 i &&
        (s.tick 640).inSpan 2 ((s.tick 640).sqPc 2 + 1)) = true := by decide +kernel
  exact ⟨fun i h => ⟨(a i h).1, executes_of _ _ _ _ (a i h).2⟩, by decide, by decide⟩

/-- The one open op of channel 5, and an event in the channel's FIFO. -/
def binOp : Op := { w0 := 5 * 2 ^ 19, w1 := 0, w2 := 0, v0 := 1, st := .accumulating, fires := [(0, 100)] }
def binState : State := (State.reset.setChan 5 { fifo := [⟨700, 0, 0⟩] }).setOp 1 3 (some binOp)

theorem wit_EventsKeptAndBinned_op :
    Ready binState ∧ ((binState.tick 900).chan 5).fifo = [⟨700, 0, 0⟩] ∧ (binState.tick 900).opKeys = [(1, 3)] ∧ 3 < 2048 ∧
      (takeWaiting 5 (binState.tick 900)).op 1 3 = some binOp ∧ binOp.chan = 5 ∧ binOp.open_ = true ∧ binOp.st ≠ .settling :=
  ⟨ready_of _ (by decide +kernel), by decide +kernel⟩

/-! A sensor port's pulse without a wire break. The converter's range is a free constant of 2 µV or more. -/

/-- 50 µs of 1 µV on both pairs; SP7 at KIND 0 with a reference of 0.01 Ω, whose nominal V_F rounds to 0. -/
def quiet : Pulse := ⟨List.replicate 50 (1, 1), true⟩
def portState (change : Option Nat) : State :=
  { T [(R.SP_CFG.PORT_EN 7, 1), (R.SP_CFG.GAIN 7, 7), (R.SP_REF.REF_CENTI 7, 1)] with hk := { ports := [(7, { change := change })] } }

/-- At a level at which 2 % of the nominal V_F lies below 1 µV, the pulse shows no break. -/
theorem quiet_whole (s : State) (n : Nat) (hs : s.spSums n quiet = (50, 50, 50)) (hn : s.spNominal n = 0)
    (hk : s.get (R.SP_CFG.KIND n) = 0) : s.spBroken n quiet = false := by
  have a : ¬ 95 * ((Config.portRange (s.get (R.SP_CFG.GAIN n)) * 50 : Nat) : Int) < 100 * 50 := by
    unfold Config.portRange; omega
  simp only [State.spBroken, hs, hn, hk]
  simp [quiet] at a ⊢
  omega

theorem wit_HousekeepingMeasures_pulse :
    let w := fun (c : Option Nat) => (portState c).tick 128000
    (∀ c, (portState c).su.power = .running ∧ (portState c).su.wantSafe = false) ∧ (w none).flag (R.SP_CFG.PORT_EN 7) = true ∧
    ((w (some 999)).sport 7).change = some 999 ∧ (w (some 999)).ns < 999 + (w (some 999)).spPulse 7 ∧
    (∀ c, c = none ∨ c = some 999 → ((w c).setSport 7 { (w c).sport 7 with level := 0 }).spBroken 7 quiet = false) ∧
    (w none).get (R.SP_CFG.EXC_LEVEL 7) = 0 ∧ ((w none).spSums 7 quiet).2.1 ≠ 0 := by
  refine ⟨fun c => ⟨rfl, rfl⟩, by decide +kernel, by decide +kernel, by decide +kernel, fun c h => ?_, by decide +kernel, by decide +kernel⟩
  rcases h with rfl | rfl <;> exact quiet_whole _ _ (by decide +kernel) (by decide +kernel) (by decide +kernel)

/-! A record that waits, and one whose turn an observation still waiting holds up. -/

def recordState (l : List (NvRecord × Nat)) (at_ : Option Nat) : State :=
  { State.reset with now := 1280, sec := { toWrite := l }, pts := { obs := at_.toList.map (fun a => { cell := 77, head := 0, at_ := a, echoes := [] }) } }

theorem wit_RecordsQuotesAndChanges_queue :
    (∃ a, (NvRecord.reference, a) ∈ (recordState [(.reference, 3)] none).sec.toWrite) ∧
    (let s := recordState [] (some 9)
     (¬ ∃ a, (NvRecord.reference, a) ∈ s.sec.toWrite) ∧ s.sec.toWrite = [] ∧ ∃ x l, s.pts.obs = x :: l ∧ x.at_ < s.ns) ∧
    (let s := recordState [] (some 10)
     s.sec.toWrite = [] ∧ s.sec.programming = none ∧ ¬ ∃ x l, s.pts.obs = x :: l ∧ x.at_ < s.ns) := by
  refine ⟨⟨3, by decide +kernel⟩, ⟨fun ⟨_, h⟩ => (nomatch h), rfl, _, _, rfl, by decide +kernel⟩, rfl, rfl, ?_⟩
  rintro ⟨x, l, h, g⟩
  obtain ⟨rfl, -⟩ := List.cons.inj h
  exact absurd g (by decide +kernel)

/-! Errors, and the change being made. -/

def openErr (cls sev time : Nat) : ErrEntry :=
  { cls := cls, sev := sev, escalated := false, depth := 0, detail := 0, bit := 0, src := 0, eseq := 0, time := time }
def errState (l : List (Field × Nat)) (es : List ErrEntry) : State := { T l with su := { errs := es } }

/-- A fatal error that finds an open entry of its class; one that finds the queue full; a fatal entry just old enough. -/
theorem wit_ErrorsEscalate :
    (17 < 18 ∧ (errState [] [openErr 17 1 0]).su.wantSafe = false ∧ (errState [] [openErr 17 1 0]).su.errs.length < 64) ∧
    (0 < 18 ∧ 64 ≤ (errState [] (List.replicate 64 (openErr 0 1 0))).su.errs.length) ∧
    (let s := errState [(R.ERR_CLASS_CFG.AUTO 3, 1), (R.ERR_CFG.FATAL_MS, 0), (R.ERR_CFG.AUTO_ACK_MS, 0)] [openErr 3 2 5]
     Ready s ∧ (s.tick (128 * 1000005)).su.errs[0]? = some (openErr 3 2 5) ∧
      (∃ e ∈ (s.tick (128 * 1000005)).su.openErrs, e.sev = 2 ∧
        e.time + 1000000 * max 1 ((s.tick (128 * 1000005)).get R.ERR_CFG.FATAL_MS) ≤ (s.tick (128 * 1000005)).ns) ∧
      (∀ e ∈ (s.tick (128 * 1000004)).su.openErrs, ¬ (e.sev = 2 ∧
        e.time + 1000000 * max 1 ((s.tick (128 * 1000004)).get R.ERR_CFG.FATAL_MS) ≤ (s.tick (128 * 1000004)).ns)) ∧
      Admits (s.tick 640) 4 R.ERR_CTL.addr) ∧
    { State.reset with su := { wantSafe := true } : State }.su.wantSafe = true := by
  refine ⟨by decide +kernel, by decide +kernel, ⟨ready_of _ (by decide +kernel), by decide +kernel, by decide +kernel,
    by decide +kernel, admits_core _ _ (by decide +kernel)⟩, rfl⟩

/-- A change of a limited setting being made, and a quote that is complete. -/
def busyState : State :=
  { State.reset with sec := { quote := some 5, change := some { setting := 5, role := 1, len := 4, val := 63, hash := 2 ^ 512 - 1,
                                                                signer := 1, entry := 0 } } }

theorem wit_RecordsQuotesAndChanges_done :
    (Ready busyState ∧ (busyState.tick 640).sec.quote = some 5 ∧ ∃ c, (busyState.tick 640).sec.change = some c ∧
      c.hash < 2 ^ 512) ∧
    (Ready State.reset ∧ (State.reset.tick 640).sec.change = none ∧ (State.reset.tick 640).sec.quote = none ∧ 2 < 3) ∧
    ((T [(R.SEC_STATUS.LEDG_BUSY, 1)]).flag R.SEC_STATUS.LEDG_BUSY = true ∧
      State.reset.flag R.SEC_STATUS.LEDG_BUSY = false ∧ State.reset.ledgTest 0 0 ≠ 0) ∧
    ((T [(R.SEC_STATUS.ATT_BUSY, 1)]).flag R.SEC_STATUS.ATT_BUSY = true ∧ State.reset.flag R.SEC_STATUS.ATT_BUSY = false) :=
  ⟨⟨ready_of _ (by decide +kernel), by decide +kernel, _, rfl, by decide +kernel⟩,
   ⟨ready_of _ (by decide +kernel), by decide +kernel⟩, by decide +kernel, by decide +kernel⟩

/-! Resets and start-up. -/

def lowState (noSupply : Bool) (p : Power) : State :=
  { State.reset with su := { noSupply := noSupply, power := p, nrst := false, nrstFell := 5, porAt := 9 } }
def stuckState : State := { T [(R.RST_STATUS.NRST_STUCK, 1)] with su := { nrstRose := 4 } }
def roleTwo : State := { State.reset with sec := { sessions := [(2, { role := some 3 })] } }
def atStage (n : Nat) : State := T [(R.RST_STATUS.BOOT_STAGE, n)]

theorem wit_ResetsAndStartup :
    (ledgerBase ≤ ledgerBase + 0x1FFFFF ∧ ledgerBase + 0x1FFFFF < ledgerBase + 0x200000 ∧
      (dataBase ≤ egressBase - 1 ∧ egressBase - 1 < egressBase) ∧ captureBase ≤ sramEnd - 1) ∧
    ((lowState true .inReset).su.noSupply = true ∧ (lowState false .inReset).su.noSupply = false) ∧
    (let w := (lowState false .running).tick (5 + 103680)
     w.su.nrst = false ∧ w.flag R.RST_STATUS.NRST_STUCK = false ∧ w.su.noSupply = false ∧ w.su.power ≠ .inReset ∧
      w.su.nrstFell + 103680 ≤ w.now) ∧
    (let w := (lowState false .running).tick (5 + 103679)
     ¬ (w.su.nrstFell + 103680 ≤ w.now)) ∧
    (let w := (lowState false .inReset).tick (9 + fineMs 10000)
     w.su.nrst = false ∧ w.su.noSupply = false ∧ w.su.power = .inReset ∧
      max w.su.nrstFell w.su.porAt + fineMs 10000 ≤ w.now) ∧
    (let w := (lowState false .inReset).tick (8 + fineMs 10000)
     ¬ (max w.su.nrstFell w.su.porAt + fineMs 10000 ≤ w.now)) ∧
    (let w := stuckState.tick (4 + fineMs 100)
     w.flag R.RST_STATUS.NRST_STUCK = true ∧ w.su.nrst = true ∧ w.su.nrstRose + fineMs 100 ≤ w.now) ∧
    (Ready roleTwo ∧ Admits (roleTwo.tick 640) 2 R.RST_CTL.addr ∧ 2 < 4 ∧ Ready State.reset ∧ Admits (State.reset.tick 640) 4 R.RST_CTL.addr) ∧
    (∀ n, 1 ≤ n → n ≤ 8 → Ready (atStage n) ∧ ((atStage n).tick 640).stage = n ∧
      ((atStage n).tick 640).flag R.RST_STATUS.BOOT_RECOVERY = false ∧
      ((atStage n).tick 640).flag R.RST_STATUS.STARTUP_DONE = false) := by
  refine ⟨by decide +kernel, by decide +kernel, by decide +kernel, by decide +kernel, by decide +kernel, by decide +kernel,
    by decide +kernel, ⟨ready_of _ (by decide +kernel), admits_role _ _ _ 3 (by decide +kernel), by decide,
      ready_of _ (by decide +kernel), admits_core _ _ (by decide +kernel)⟩, fun n h g => ?_⟩
  have a : ∀ n < 9, 1 ≤ n → ((atStage n).su.power = .running ∧ (atStage n).su.wantSafe = false) ∧
      ((atStage n).tick 640).stage = n ∧ ((atStage n).tick 640).flag R.RST_STATUS.BOOT_RECOVERY = false ∧
      ((atStage n).tick 640).flag R.RST_STATUS.STARTUP_DONE = false := by decide +kernel
  exact a n (by omega) h

end Further

/-! Time base, reads with an effect, anchors. -/

namespace TimeBase

def W1 := T [(R.TB_STATUS.LOCK_LOSS_COUNT, 3)]
def W2 := T [(R.TB_STATUS.LOCKED, 1)]
def W3 : State := { T [(R.IU_STATUS.IU_STATE, 3), (R.IU_STATUS.IU_OWNER, 1)] with tb := { syncFifo := [(2 ^ 64 + 2 ^ 33 + 5, true), (7, false)] }, hk := { rq := [(5, 6), (7, 8)] }, now := 2 ^ 45 }
def W4 : State := { T [(R.ANCHOR_LABEL_LO.LABEL_LO, 9), (R.ANCHOR_AT_LO.AT_LO, 7)] with tb := { anchors := [⟨1, 4⟩, ⟨2, 7⟩, ⟨3, 90⟩] } }
def W5 : State := { T [(R.ANCHOR_CTL.ANCHOR_REJ_COUNT, 65535)] with tb := { anchors := List.replicate 8 ⟨1, 4⟩ } }

theorem wit_LockFollowed :
    (let w := (T []).tick 5; (T []).su.wantSafe = false ∧ w.flag R.TB_STATUS.LOCKED = false ∧
      w.get R.TB_STATUS.LOCK_LOSS_COUNT = 0) ∧
    (let w := W1.tick 5; Ready W1 ∧ w.flag R.TB_STATUS.LOCKED = false ∧ 0 < w.get R.TB_STATUS.LOCK_LOSS_COUNT) ∧
    (W2.su.power = Power.running ∧ (W2.tick 5).flag R.TB_STATUS.LOCKED = true) :=
  ⟨(by decide +kernel),
   ⟨ready_of _ (by decide +kernel), by decide +kernel⟩,
   (by decide +kernel)⟩

theorem wit_ReadsThatAct :
    (Ready W3) := (ready_of _ (by decide +kernel))

theorem wit_AnchorsQueued :
    (let w := W4.tick 640; Ready W4 ∧ Admits w 4 R.ANCHOR_CTL.addr ∧ w.tb.anchors.length < 8) ∧
    (let w := W5.tick 640; Ready W5 ∧ Admits w 4 R.ANCHOR_CTL.addr ∧ 8 ≤ w.tb.anchors.length) ∧
    (let w := W4.tick 512; Ready W4 ∧
      w.tb.anchors = [{ label := 1, at_ := 4 : Anchor }, { label := 2, at_ := 7 : Anchor }, { label := 3, at_ := 90 : Anchor }] ∧
      { label := 1, at_ := 4 : Anchor }.at_ ≤ w.ns) :=
  ⟨⟨ready_of _ (by decide +kernel), admits_core _ _ (by decide +kernel), by decide +kernel⟩,
   ⟨ready_of _ (by decide +kernel), admits_core _ _ (by decide +kernel), by decide +kernel⟩,
   ⟨ready_of _ (by decide +kernel), by decide +kernel⟩⟩

end TimeBase

/-! SYNC, the interval unit, the frequency unit. -/

namespace SyncAndIntervals

def S0 (ref : Option Nat) (good missed : Nat) : State := { T [(R.SYNC_CFG.SYNC_EN, 1), (R.SYNC_NOM.value, 1000), (R.SYNC_TOL.value, 10), (R.SYNC_CFG.SYNC_DIV, 1), (R.SYNC_STATUS.SYNC_QUAL, 2)] with tb := { syncDiv := 1, syncRef := ref, syncGood := good, syncMissed := missed, syncFifo := [(3, false)] } }
def W1 := S0 none 2 1
def W2 := S0 (some 1000) 3 1
def W3 := S0 (some 1000) 0 1
def W4 := { S0 none 2 1 with tb := { syncDiv := 0 } }
def W6 := T [(R.IU_STATUS.IU_STATE, 3), (R.IU_CTL.IU_START_SRC, 9), (R.IU_STATUS.IU_VALID, 1), (R.IU_STATUS.IU_OWNER, 1)]
def W8 := { T [(R.IU_STATUS.IU_STATE, 2), (R.IU_CTL.IU_START_SRC, 3), (R.IU_CTL.IU_STOP_SRC, 9)] with tb := { iuStart := 7, iuArmed := 6 } }
def W9 := T [(R.IU_STATUS.IU_STATE, 1), (R.IU_CTL.IU_START_SRC, 1), (R.IU_CTL.IU_STOP_SRC, 1), (R.IU_CTL.STOP_EDGE, 1), (R.IU_TIMEOUT.value, 50)]
def W10 := { T [(R.IU_STATUS.IU_STATE, 2), (R.IU_CTL.IU_START_SRC, 1), (R.IU_CTL.IU_STOP_SRC, 1), (R.IU_CTL.STOP_EDGE, 1), (R.IU_TIMEOUT.value, 50)] with tb := { iuStart := 7, iuArmed := 6 } }
def W11 := T [(R.FU_CTL.FU_GATE_SEL, 1), (R.FU_GATE_LEN.value, 0)]
def W12 := T [(R.FU_CTL.FU_GATE_POL, 1)]
def G1 : Gate := { n := 5, first := 100, sumT := 10, sumIT := 20, sumTT := 30, ends := some 1000 }
def W13 : State := { T [(R.FU_CTL.FU_SRC, 3), (R.FU_CTL.MAINS_AUX, 2)] with tb := { gate := some G1 } }
def G2 : Gate := { n := 5, first := 100, sumT := 1000, sumIT := 3000, sumTT := 300000, ends := some 1000, open_ := false }
def W14 : State := { T [(R.FU_CTL.FU_SRC, 3), (R.FU_STATUS.FU_BUSY, 1)] with tb := { gate := some G2 } }

theorem wit_SyncGraded :
    (let w := W1.tick (5000 + fineNs 20); Ready W1 ∧ fineNs 20 ≤ 2560 ∧ w.flag R.SYNC_CFG.SYNC_EN = true ∧
      true ≠ w.flag R.SYNC_CFG.SYNC_EDGE ∧ w.get R.SYNC_CFG.SYNC_DIV ≤ w.tb.syncDiv ∧ w.tb.syncFifo.length < 16 ∧
      w.tb.syncRef = none) ∧
    (let w := W2.tick (5000 + fineNs 20); Ready W2 ∧ fineNs 20 ≤ 2560 ∧ w.flag R.SYNC_CFG.SYNC_EN = true ∧
      true ≠ w.flag R.SYNC_CFG.SYNC_EDGE ∧ w.get R.SYNC_CFG.SYNC_DIV ≤ w.tb.syncDiv ∧ w.tb.syncFifo.length < 16 ∧
      w.tb.syncRef = some 1000 ∧ 5000 - 1000 + fineNs (w.get R.SYNC_TOL.value) < fineNs (w.get R.SYNC_NOM.value)) ∧
    (let w := W2.tick (1000 + 128 * 990 + fineNs 20); Ready W2 ∧ fineNs 20 ≤ 2560 ∧ w.flag R.SYNC_CFG.SYNC_EN = true ∧
      true ≠ w.flag R.SYNC_CFG.SYNC_EDGE ∧ w.get R.SYNC_CFG.SYNC_DIV ≤ w.tb.syncDiv ∧ w.tb.syncFifo.length < 16 ∧
      w.tb.syncRef = some 1000 ∧
      fineNs (w.get R.SYNC_NOM.value) ≤ 1000 + 128 * 990 - 1000 + fineNs (w.get R.SYNC_TOL.value) ∧
      1000 + 128 * 990 ≤ 1000 + fineNs (w.get R.SYNC_NOM.value + w.get R.SYNC_TOL.value) ∧ 0 < 1000 + 128 * 990) ∧
    (Ready W1 ∧ 2559 < fineNs 20) ∧
    (Ready W1 ∧ fineNs 20 ≤ 2560 ∧ false = W1.flag R.SYNC_CFG.SYNC_EDGE) ∧
    (Ready W4 ∧ fineNs 20 ≤ 2560 ∧ true ≠ W4.flag R.SYNC_CFG.SYNC_EDGE ∧ W4.flag R.SYNC_CFG.SYNC_EN = true ∧
      W4.tb.syncDiv < W4.get R.SYNC_CFG.SYNC_DIV) ∧
    (let w := W3.tick (1000 + 128 * 1010); Ready W3 ∧ w.tb.syncRef = some 1000 ∧
      1000 + fineNs (w.get R.SYNC_NOM.value + w.get R.SYNC_TOL.value) ≤ w.now) :=
  ⟨⟨ready_of _ (by decide +kernel), by decide +kernel⟩,
   ⟨ready_of _ (by decide +kernel), by decide +kernel⟩,
   ⟨ready_of _ (by decide +kernel), by decide +kernel⟩,
   ⟨ready_of _ (by decide +kernel), by decide +kernel⟩,
   ⟨ready_of _ (by decide +kernel), by decide +kernel⟩,
   ⟨ready_of _ (by decide +kernel), by decide +kernel⟩,
   ⟨ready_of _ (by decide +kernel), by decide +kernel⟩⟩

theorem wit_IntervalsAndFrequencyMeasured :
    (let w := W6.tick 99; Ready W6 ∧ Admits w 4 R.IU_CTL.addr ∧
      (w.get R.IU_STATUS.IU_STATE = 0 ∨ w.get R.IU_STATUS.IU_STATE = 3)) ∧
    (let w := W8.tick 99; Ready W8 ∧ Admits w 4 R.IU_CTL.addr ∧
      (w.get R.IU_STATUS.IU_STATE = 1 ∨ w.get R.IU_STATUS.IU_STATE = 2) ∧
      w.now ≤ w.tb.iuArmed + fineNs (w.get R.IU_TIMEOUT.value)) ∧
    (let w := W8.tick 99; Ready W8 ∧ Admits w 4 R.IU_CTL.addr ∧ w.iuHost 2 = true ∧ w.get R.IU_CTL.IU_STOP_SRC = 9 ∧
      w.now ≤ w.tb.iuArmed + fineNs (w.get R.IU_TIMEOUT.value)) ∧
    (let w := W9.tick 99; Ready W9 ∧ w.iuHost 1 = true ∧ w.now ≤ w.tb.iuArmed + fineNs (w.get R.IU_TIMEOUT.value) ∧
      w.iuMatch (w.get R.IU_CTL.IU_START_SRC) (w.flag R.IU_CTL.START_EDGE) 1 true ↑0 = true) ∧
    (let w := W10.tick 99; Ready W10 ∧ w.iuHost 2 = true ∧ w.now ≤ w.tb.iuArmed + fineNs (w.get R.IU_TIMEOUT.value) ∧
      w.iuMatch (w.get R.IU_CTL.IU_STOP_SRC) (w.flag R.IU_CTL.STOP_EDGE) 1 false ↑0 = true ∧
      (1 = w.get R.IU_CTL.IU_START_SRC → w.now ≠ w.tb.iuStart)) ∧
    (let w := W10.tick (6 + 128 * 50); Ready W10 ∧ (w.get R.IU_STATUS.IU_STATE = 1 ∨ w.get R.IU_STATUS.IU_STATE = 2) ∧
      w.flag R.IU_STATUS.IU_OWNER = false ∧ w.tb.iuArmed + fineNs (w.get R.IU_TIMEOUT.value) ≤ w.now) ∧
    (let w := W10.tick (7 + 128 * 50); Ready W10 ∧ (w.get R.IU_STATUS.IU_STATE = 1 ∨ w.get R.IU_STATUS.IU_STATE = 2) ∧
      w.flag R.IU_STATUS.IU_OWNER = false ∧ w.tb.iuArmed + fineNs (w.get R.IU_TIMEOUT.value) < w.now) ∧
    (let w := W11.tick 9; Ready W11 ∧ Admits w 4 R.FU_CTL.addr ∧ w.flag R.FU_CTL.FU_GATE_SEL = true ∧
      w.flag R.FU_STATUS.FU_BUSY = false) ∧
    (let w := W12.tick 9; Ready W12 ∧ w.flag R.FU_CTL.FU_GATE_SEL = false ∧ false ≠ w.flag R.FU_CTL.FU_GATE_POL ∧
      w.flag R.FU_STATUS.FU_BUSY = false) ∧
    (let w := W13.tick 400; Ready W13 ∧ w.tb.gate = some G1 ∧ 3 = w.get R.FU_CTL.FU_SRC ∧
      (3 ≠ 3 ∨ 2 = w.get R.FU_CTL.MAINS_AUX) ∧ G1.open_ = true ∧ (∀ (e : Nat), G1.ends = some e → w.now < e) ∧
      G1.n < 2 ^ 32 - 1) ∧
    (let w := W13.tick 1000; Ready W13 ∧ w.tb.gate = some G1 ∧ (G1.ends = none ∧
      false = w.flag R.FU_CTL.FU_GATE_POL ∨ ∃ e, G1.ends = some e ∧ e ≤ w.now)) ∧
    (let w := W13.tick 1000; Ready W13 ∧ (w.tb.gate = none ∨ 2 ≠ w.get R.FU_CTL.FU_SRC ∨ 2 = 3 ∧
      0 ≠ w.get R.FU_CTL.MAINS_AUX)) ∧
    (Ready W14 ∧ (W14.tick 1000).tb.gate = some G2 ∧ G2.open_ = false) :=
  ⟨⟨ready_of _ (by decide +kernel), admits_core _ _ (by decide +kernel), by decide +kernel⟩,
   ⟨ready_of _ (by decide +kernel), admits_core _ _ (by decide +kernel), by decide +kernel⟩,
   ⟨ready_of _ (by decide +kernel), admits_core _ _ (by decide +kernel), by decide +kernel⟩,
   ⟨ready_of _ (by decide +kernel), by decide +kernel⟩,
   ⟨ready_of _ (by decide +kernel), by decide +kernel⟩,
   ⟨ready_of _ (by decide +kernel), by decide +kernel⟩,
   ⟨ready_of _ (by decide +kernel), by decide +kernel⟩,
   ⟨ready_of _ (by decide +kernel), admits_core _ _ (by decide +kernel), by decide +kernel⟩,
   ⟨ready_of _ (by decide +kernel), by decide +kernel⟩,
   ⟨ready_of _ (by decide +kernel), by decide +kernel⟩,
   ⟨ready_of _ (by decide +kernel), by decide +kernel⟩,
   ⟨ready_of _ (by decide +kernel), by decide +kernel⟩,
   ⟨ready_of _ (by decide +kernel), by decide +kernel⟩⟩

end SyncAndIntervals

/-! The fabric, pace, dark dies. -/

namespace Fabric

def hx : RegHit := match regHit R.SUP_DWELL.addr with | some h => h | none => ⟨⟨.DIE_ID, 0, [], 0, []⟩, []⟩
def hz : RegHit := match regHit (R.SP_CFG.addr 3) with | some h => h | none => ⟨⟨.DIE_ID, 0, [], 0, []⟩, []⟩
def W2 := T [(R.FAB_STATUS.UNMAPPED, 1), (R.FAB_STATUS.DIES_DARK, 8), (R.FAB_UNMAPPED_COUNT.UNMAPPED_COUNT, 2^32-1)]
def W3 := T [(R.PACE_STATUS.PACE_MIN 0, 5), (R.PACE_STATUS.PACE_NOW 3, 77), (R.PACE_CFG.PACE_LOW_THR 0, 90)]
def W4 := T [(R.TB_STATUS.LOCKED, 1), (R.PACE_STATUS.PACE_VALID 0, 1), (R.PACE_CFG.PACE_DWELL 0, 0), (R.PACE_CFG.PACE_LOW_THR 0, 300), (R.PACE_STATUS.PACE_NOW 0, 299)]

theorem wit_WritesReachTheirTarget :
    (let w := (T []).tick 5; Ready (T []) ∧ Admits w 4 R.SUP_DWELL.addr ∧
      w.target R.SUP_DWELL.addr 4 = Target.register hx ∧ hx.def_.id ≠ RegId.CH_THR ∧ hx.def_.id ≠ RegId.SETPOINT ∧
      w.regRefused R.SUP_DWELL.addr hx (65529 % 2 ^ 32) = false) ∧
    (let w := (T [(R.SP_CFG.PORT_EN 3, 1), (R.SP_CFG.KIND 3, 1)]).tick 5;
      Ready (T [(R.SP_CFG.PORT_EN 3, 1), (R.SP_CFG.KIND 3, 1)]) ∧ Admits w 4 (R.SP_CFG.addr 3) ∧
      w.target (R.SP_CFG.addr 3) 4 = Target.register hz ∧ hz.def_.id ≠ RegId.CH_THR ∧ hz.def_.id ≠ RegId.SETPOINT ∧
      w.regRefused (R.SP_CFG.addr 3) hz (9 % 2 ^ 32) = true) ∧
    (let w := (T []).tick 5; Ready (T []) ∧ Admits w 4 273678352 ∧ w.target 273678352 8 = Target.sram) ∧
    (let w := (T []).tick 5; Ready (T []) ∧ Admits w 4 egressBase ∧
      w.target egressBase 8 ∈ [Target.words true, Target.reserved, Target.dark, Target.egress]) ∧
    (Ready (T []) ∧ ((T []).tick 5).target 273678353 8 = Target.unmapped) ∧
    (let w := (T []).tick 5; Ready (T []) ∧ w.target 273678352 8 ≠ Target.unmapped ∧
      w.mayWrite 2 273678352 65529 = false) ∧
    (let w := ((T [(R.TW_STATUS.TW_STATE, 3)]).setSess 2 { role := some 2 : Session }).tick 5;
      Ready ((T [(R.TW_STATUS.TW_STATE, 3)]).setSess 2 { role := some 2 : Session }) ∧
      w.target dataBase 8 ≠ Target.unmapped ∧ w.mayWrite 2 dataBase 65529 = true ∧ w.follower = true ∧
      roleTested 2 = true ∧ shared dataBase = true) ∧
    (let w := ((T [(R.TW_STATUS.TW_STATE, 4), (R.TW_PARTNER.P_STATE, 3)]).setSess 2 { role := some 2 : Session }).tick 5;
      Ready ((T [(R.TW_STATUS.TW_STATE, 4), (R.TW_PARTNER.P_STATE, 3)]).setSess 2 { role := some 2 : Session }) ∧
      w.target (dataBase + 8) 8 ≠ Target.unmapped ∧ w.mayWrite 2 (dataBase + 8) 65529 = true ∧ w.follower = false ∧
      w.forwards (dataBase + 8) = true ∧ w.accepts (dataBase + 8) 8 65529 = true) ∧
    (let w := W2.tick 5; Ready W2 ∧ Admits w 4 R.FAB_STATUS.addr ∧ w.flag R.FAB_STATUS.UNMAPPED = true) ∧
    (Ready W3 ∧ Admits (W3.tick 5) 4 (R.PACE_CFG.addr 0)) :=
  ⟨⟨ready_of _ (by decide +kernel), admits_core _ _ (by decide +kernel), by decide +kernel⟩,
   ⟨ready_of _ (by decide +kernel), admits_core _ _ (by decide +kernel), by decide +kernel⟩,
   ⟨ready_of _ (by decide +kernel), admits_core _ _ (by decide +kernel), by decide +kernel⟩,
   ⟨ready_of _ (by decide +kernel), admits_core _ _ (by decide +kernel), by decide +kernel⟩,
   ⟨ready_of _ (by decide +kernel), by decide +kernel⟩,
   ⟨ready_of _ (by decide +kernel), by decide +kernel⟩,
   ⟨ready_of _ (by decide +kernel), by decide +kernel⟩,
   ⟨ready_of _ (by decide +kernel), by decide +kernel⟩,
   ⟨ready_of _ (by decide +kernel), admits_core _ _ (by decide +kernel), by decide +kernel⟩,
   ⟨ready_of _ (by decide +kernel), admits_core _ _ (by decide +kernel)⟩⟩

theorem wit_PaceAndDarkDies :
    (let w := W4.tick 9; Ready W4 ∧ (w.flag R.TB_STATUS.LOCKED = true ∨ w.get R.TB_STATUS.LOCK_LOSS_COUNT ≠ 0)) ∧
    (Ready W4 ∧ (W4.tick 9).dieUp 1 = true) :=
  ⟨⟨ready_of _ (by decide +kernel), by decide +kernel⟩,
   ⟨ready_of _ (by decide +kernel), by decide +kernel⟩⟩

end Fabric

/-! Channels and their events. -/

namespace Channels

def E1 : OpenEvent := { lr := 640, hr := some 700, late := false }
def ch1 (f : Chan → Chan) : State := (T [(R.CH_CFG.CH_EN 1 5, 1), (R.TB_STATUS.LOCKED, 1), (R.CH_CFG.WALK_EN 1 5, 1)]).setChan 5 (f {})
def W1 := ch1 (fun c => c)
def W2 := ch1 (fun c => { c with low := true, ev := some E1, lowSince := 640 })
def W2b := ch1 (fun c => { c with low := true, high := true, ev := some E1, lowSince := 640 })
def W3 := ch1 (fun c => { c with low := true, rearming := true, blind := 800 })
def EV : Event := ⟨700, 0, 0⟩
def W4 := ch1 (fun c => { c with fifo := List.replicate 16 EV })
def W5 := ch1 (fun c => { c with fifo := [EV, ⟨800, 1, 4⟩] })
def W7 := T [(R.CH_STATUS.STUCK_HIGH 1 5, 1), (R.CH_STATUS.FIFO_OVF 1 5, 1), (R.CH_DROP_COUNT.DROP_COUNT 1 5, 8)]

theorem wit_EventsComposed :
    (let w := W1.tick 640; Ready W1 ∧ w.chFitted 5 = true ∧ (w.chan 5).low = false) ∧
    (let w := W2.tick 700; Ready W2 ∧ w.chFitted 5 = true ∧ (w.chan 5).high ≠ true ∧ (w.chan 5).ev = some E1) ∧
    (let w := W2.tick 700; Ready W2 ∧ (w.chan 5).low = true ∧ (w.chan 5).ev = some E1 ∧ w.now < E1.lr + fineNs 128) ∧
    (let w := W2b.tick (640 + 128 * 128); Ready W2b ∧ (w.chan 5).ev = some E1 ∧ E1.lr + fineNs 128 ≤ w.now) ∧
    (let w := W1.tick 700; Ready W1 ∧ w.chFitted 5 = true ∧ (w.chan 5).high ≠ true ∧ (w.chan 5).ev = none) ∧
    (let w := (ch1 fun c => { c with low := true, blocked := true : Chan }).tick (640 + 128 * 130);
      Ready (ch1 fun c => { c with low := true, blocked := true : Chan }) ∧ (w.chan 5).low = true ∧
      (w.chan 5).ev = none) ∧
    (let w := W3.tick 800; Ready W3 ∧ (w.chan 5).rearming = true ∧ (w.chan 5).blind ≤ w.now) :=
  ⟨⟨ready_of _ (by decide +kernel), by decide +kernel⟩,
   ⟨ready_of _ (by decide +kernel), by decide +kernel⟩,
   ⟨ready_of _ (by decide +kernel), by decide +kernel⟩,
   ⟨ready_of _ (by decide +kernel), by decide +kernel⟩,
   ⟨ready_of _ (by decide +kernel), by decide +kernel⟩,
   ⟨ready_of _ (by decide +kernel), by decide +kernel⟩,
   ⟨ready_of _ (by decide +kernel), by decide +kernel⟩⟩

theorem wit_EventsKeptAndBinned :
    (W2.capState = 0 ∧ (W2.chan 5).fifo.length < 16) ∧
    (W4.capState = 0 ∧ 16 ≤ (W4.chan 5).fifo.length) ∧
    (Ready W5 ∧ ((W5.tick 900).chan 5).fifo = [EV, { lr := 800, word := 1, w := 4 : Event }]) :=
  ⟨(by decide +kernel),
   (by decide +kernel),
   ⟨ready_of _ (by decide +kernel), by decide +kernel⟩⟩

theorem wit_ChannelRegisters :
    (let w := (ch1 fun c => { c with low := true : Chan }).tick (128 * 10000 + 1);
      Ready (ch1 fun c => { c with low := true : Chan }) ∧ ((timeoutClose 5 w).chan 5).low = true ∧
      ((timeoutClose 5 w).chan 5).lowSince + fineUs 10 < (timeoutClose 5 w).now ∧
      (timeoutClose 5 w).dieUp (chDie 5) = true ∧ ((timeoutClose 5 w).chan 5).stuck = false) ∧
    (let w := W7.tick 9; Ready W7 ∧ Admits w 4 (R.CH_STATUS.addr (chDie 5) (chLocal 5)) ∧ w.dieUp (chDie 5) = true ∧
      W7.variant ≤ 7) ∧
    (let w := W7.tick 9; Ready W7 ∧ Admits w 4 (R.CH_DROP_COUNT.addr (chDie 5) (chLocal 5)) ∧ w.dieUp (chDie 5) = true ∧
      W7.variant ≤ 7) ∧
    (let w := W7.tick 9; Ready W7 ∧ Admits w 4 (R.CH_THR.addr (chDie 5) (chLocal 5)) ∧ w.dieUp (chDie 5) = true ∧
      W7.variant ≤ 7 ∧ bits (3 + 2 ^ 16 * 4) 0 10 < bits (3 + 2 ^ 16 * 4) 16 10) ∧
    (let w := W7.tick 9; Ready W7 ∧ Admits w 4 (R.CH_CFG.addr (chDie 5) (chLocal 5)) ∧ w.dieUp (chDie 5) = true ∧
      W7.variant ≤ 7) ∧
    (let w := W7.tick 9; Ready W7 ∧ Admits w 4 (R.CH_THR.addr (chDie 5) (chLocal 5)) ∧ w.dieUp (chDie 5) = true ∧
      W7.variant ≤ 7 ∧ bits (4 + 2 ^ 16 * 4) 16 10 ≤ bits (4 + 2 ^ 16 * 4) 0 10) :=
  ⟨⟨ready_of _ (by decide +kernel), by decide +kernel⟩,
   ⟨ready_of _ (by decide +kernel), admits_core _ _ (by decide +kernel), by decide +kernel⟩,
   ⟨ready_of _ (by decide +kernel), admits_core _ _ (by decide +kernel), by decide +kernel⟩,
   ⟨ready_of _ (by decide +kernel), admits_core _ _ (by decide +kernel), by decide +kernel⟩,
   ⟨ready_of _ (by decide +kernel), admits_core _ _ (by decide +kernel), by decide +kernel⟩,
   ⟨ready_of _ (by decide +kernel), admits_core _ _ (by decide +kernel), by decide +kernel⟩⟩

end Channels

/-! Ranging operations. -/

namespace Ranging

def V1 : Visit := { shoot := true, cell := 77, ch := 5, line := 0, v := 1000, w1 := 3, w2 := 1000, phase := 0, chase := 0, frond := 0, gen := 0, torn := false, frondTorn := false, lenses := [40], endNs := 20000, base := 1000 }
def base24 : State := T [(R.CH_CFG.CH_EN 1 5, 1), (R.TB_STATUS.LOCKED, 1), (⟨R.HEAD_GROUPS_A.addr 0, 0, 32⟩, 1), (R.FRAME_COUNT.value 0, 9)]
def W1 : State := base24.setHead 0 { opened := true, visits := [V1] }
def O1 : Op := { w0 := 77 + 5 * 2 ^ 19, w1 := 3 + 256, w2 := 1000, v0 := 500, vs := [500], ends := [some 20000], frame := some 9, st := .accumulating }
def W2 : State := W1.setOp 1 3 (some O1)
def W1d : State := base24.setHead 0 { opened := true, visits := [V1], declined := [77] }
def W1b : State := W1.setSeq 2 { probes := [{ w0 := 76 + 5 * 2 ^ 19, w1 := 3, w2 := 1000, w3 := 0, v0 := 1000, bank := 3, lenses := [0, 40], info := ⟨2, some 1, 5000, false⟩ }] }
def o1 : Op := { w0 := 77 + 5 * 2 ^ 19, w1 := 3, w2 := 1000, v0 := 1000, vs := [1000], ends := [some 20000], frame := some 9 }
def PR : ProbeReq := { w0 := 77 + 5 * 2 ^ 19, w1 := 3, w2 := 1000, w3 := 0, v0 := 1000, bank := 3, lenses := [0, 40], info := ⟨2, some 1, 5000, false⟩ }
def W3 : State := base24.setSeq 2 { probes := [PR] }
def W3b : State := (base24.setSeq 2 { probes := [PR] }).setSeq 3 { probes := [{ PR with w0 := 76 + 5 * 2 ^ 19 }] }
def base2 := base24.clrFlag R.TB_STATUS.LOCKED
def base3 := base24.setFlag (⟨R.FAB_STATUS.DIES_DARK.addr, R.FAB_STATUS.DIES_DARK.lo + 1, 1⟩)
def base4 := base24.clrFlag (R.CH_CFG.CH_EN 1 5)
def base5 := base24.setGroup 1 0 { free := 0 }
def fireable : State := ((T [(R.CH_CFG.CH_EN 1 5, 1), (R.TB_STATUS.LOCKED, 1), (⟨R.HEAD_GROUPS_A.addr 0, 0, 32⟩, 1), (R.DRV_CTL.DRV_EN 0, 1), (R.DRV_STATUS.DRV_READY 0, 1), (R.TW_STATUS.OWN_HELD, 1), (R.GUARD_STATUS.LIM_PERMIT, 1), (R.GUARD_STATUS.PROC_PERMIT, 1), (R.GUARD_STATUS.MOTION_OK, 3), (R.GUARD_STATUS.STATE, 2)]))
def O2 : Op := { O1 with lfsr := 1, st := .issued, ends := [some 400] }
def W4 := fireable.setOp 1 3 (some O2)
def O3 : Op := { O1 with lfsr := 1, st := .issued, ends := [some 20000] }
def W5 := fireable.setOp 1 3 (some O3)
def W5s := ((fireable.setOp 1 3 (some { O3 with shadow := true })).put R.TW_STATUS.TW_STATE 3)
def O3w : Op := { O3 with waiting := [(0, 700)] }
def O3f : Op := { O3w with fires := (List.range 64).map (fun i => (i, 700)) }
def O4 : Op := { O1 with st := .accumulating, fired := 8, noMore := true, vs := [500, 600], ends := [none, none], pulses := 8 }
def W7 := fireable.setOp 1 3 (some O4)
def O5 : Op := { O4 with st := .settling, hist := [(30, 9), (31, 20), (32, 4)], queued := true }
def W8 := (fireable.setOp 1 3 (some O5)).setDie 1 { corrQueue := [3] }
def O6 : Op := { O4 with st := .reducing, extra := 2, echoes := [] }
def W9 := (fireable.setOp 1 3 (some O6)).setDie 1 { engines := [4, 3], handoff := [9] }
def W10 := (fireable.setOp 1 3 (some { O5 with ageEnd := 899 })).setDie 1 { corrQueue := [3, 4], engines := [4, 3], handoff := [9, 3] }
def W11 := fireable.setGroup 1 2 { free := 3, clearing := 1 }
def base6 := base24.setHead 0 { lines := 4, calLine := some (3, [0], 0) }
def base7 := (List.range 128).foldl (fun s k => s.setOp 1 k (some O1)) base24

theorem wit_CellsDecided :
    (let w := W1.tick (128 * 1000); Ready W1 ∧ w.nextVisit ↑0 = some V1 ∧ 128 * w.visitAt (↑0) V1 ≤ w.now ∧
      (w.head ↑0).opened = true ∧ w.scanOp (↑0) V1.cell = none ∧
      w.decisionBefore (w.visitAt (↑0) V1) V1.ch V1.cell = false ∧
      (w.modHead ↑0 fun x => { x with visits := List.filter (fun y => decide (y ≠ V1)) x.visits : Head }).scanOp (↑0) V1.cell = none ∧
      (w.modHead ↑0 fun x => { x with visits := List.filter (fun y => decide (y ≠ V1)) x.visits : Head }).twin.missed = [] ∧
      V1.shoot = true ∧
      ((w.modHead ↑0 fun x => { x with visits := List.filter (fun y => decide (y ≠ V1)) x.visits : Head }).head ↑0).declined.contains V1.cell = false) ∧
    (let w := W2.tick (128 * 1000); Ready W2 ∧ w.nextVisit ↑0 = some V1 ∧ 128 * w.visitAt (↑0) V1 ≤ w.now ∧
      (w.head ↑0).opened = true ∧ w.scanOp (↑0) V1.cell = some (1, 3, O1) ∧
      (w.modHead ↑0 fun x => { x with visits := List.filter (fun y => decide (y ≠ V1)) x.visits : Head }).scanOp (↑0) V1.cell = some (1, 3, O1)) ∧
    (let w := W1d.tick (128 * 1000); Ready W1d ∧ w.nextVisit ↑0 = some V1 ∧ 128 * w.visitAt (↑0) V1 ≤ w.now ∧
      (w.head ↑0).opened = true ∧ w.scanOp (↑0) V1.cell = none ∧
      w.decisionBefore (w.visitAt (↑0) V1) V1.ch V1.cell = false ∧
      (w.modHead ↑0 fun x => { x with visits := List.filter (fun y => decide (y ≠ V1)) x.visits : Head }).scanOp (↑0) V1.cell = none ∧
      (w.modHead ↑0 fun x => { x with visits := List.filter (fun y => decide (y ≠ V1)) x.visits : Head }).twin.missed = [] ∧
      (V1.shoot = false ∨ ((w.modHead ↑0 fun x => { x with visits := List.filter (fun y => decide (y ≠ V1)) x.visits : Head }).head ↑0).declined.contains V1.cell = true)) ∧
    (let w := W1b.tick (128 * 1000); Ready W1b ∧ w.nextVisit ↑0 = some V1 ∧ 128 * w.visitAt (↑0) V1 ≤ w.now ∧
      (w.head ↑0).opened = true ∧ w.scanOp (↑0) V1.cell = none ∧
      w.decisionBefore (w.visitAt (↑0) V1) V1.ch V1.cell = true) ∧
    (let w := W3.tick (128 * 1000); Ready W3 ∧ (w.seq ↑2).probes = [PR] ∧ 128 * PR.v0 ≤ w.now ∧
      w.decisionBefore PR.v0 (bits PR.w0 19 11) (bits PR.w0 0 19) = false) ∧
    (let w := W3b.tick (128 * 1000); Ready W3b ∧ (w.seq ↑2).probes = [PR] ∧ 128 * PR.v0 ≤ w.now ∧
      w.decisionBefore PR.v0 (bits PR.w0 19 11) (bits PR.w0 0 19) = true) ∧
    (base24.chFitted o1.chan = true ∧ base24.variant ≤ 7 ∧
      base24.declineReason { o1 with code := base24.codeOf o1 : Op } (false || base24.badDesc { o1 with code := base24.codeOf o1 : Op }) false = none) ∧
    (base24.chFitted o1.chan = true ∧ base24.variant ≤ 7 ∧
      base24.declineReason { o1 with code := base24.codeOf o1 : Op } (true || base24.badDesc { o1 with code := base24.codeOf o1 : Op }) false = some 4) ∧
    (base3.dieDark (chDie o1.chan) = true) ∧
    (base2.dieDark (chDie o1.chan) = false ∧ base2.flag R.TB_STATUS.LOCKED = false) ∧
    (base24.dieDark (chDie o1.chan) = false ∧ base24.flag R.TB_STATUS.LOCKED = true ∧
      base24.calHolds o1.head (o1.chan / 12) = false ∧ base24.chEn o1.chan = true ∧ false = false ∧ true = true) ∧
    (base4.dieDark (chDie o1.chan) = false ∧ base4.flag R.TB_STATUS.LOCKED = true ∧
      base4.calHolds o1.head (o1.chan / 12) = false ∧ base4.chEn o1.chan = false) ∧
    (base5.dieDark (chDie o1.chan) = false ∧ base5.flag R.TB_STATUS.LOCKED = true ∧
      base5.calHolds o1.head (o1.chan / 12) = false ∧ base5.chEn o1.chan = true ∧ false = false ∧
      base5.freeSlot (chDie o1.chan) (chGroup o1.chan) ≠ none) ∧
    (base6.dieDark (chDie o1.chan) = false ∧ base6.flag R.TB_STATUS.LOCKED = true ∧
      base6.calHolds o1.head (o1.chan / 12) = true) ∧
    (base7.dieDark (chDie o1.chan) = false ∧ base7.flag R.TB_STATUS.LOCKED = true ∧
      base7.calHolds o1.head (o1.chan / 12) = false ∧ base7.chEn o1.chan = true ∧ false = false ∧
      base7.freeSlot (chDie o1.chan) (chGroup o1.chan) = none) :=
  ⟨⟨ready_of _ (by decide +kernel), by decide +kernel⟩,
   ⟨ready_of _ (by decide +kernel), by decide +kernel⟩,
   ⟨ready_of _ (by decide +kernel), by decide +kernel⟩,
   ⟨ready_of _ (by decide +kernel), by decide +kernel⟩,
   ⟨ready_of _ (by decide +kernel), by decide +kernel⟩,
   ⟨ready_of _ (by decide +kernel), by decide +kernel⟩,
   (by decide +kernel),
   (by decide +kernel),
   (by decide +kernel),
   (by decide +kernel),
   (by decide +kernel),
   (by decide +kernel),
   (by decide +kernel),
   (by decide +kernel),
   (by decide +kernel)⟩

theorem wit_PulsesFired :
    (let w := W4.tick (128 * 3000); Ready W4 ∧ w.op 1 3 = some O2 ∧
      (O2.st = OpState.issued ∨ O2.st = OpState.accumulating) ∧ O2.pulses < O2.pulsesVisited ∧
      128 * O2.nextFire.fst ≤ w.now ∧ O2.ends.getD O2.nextFire.snd none = some 400 ∧ 400 < O2.nextFire.fst) ∧
    (let w := W5.tick (128 * 3000); Ready W5 ∧ w.op 1 3 = some O3 ∧
      (O3.st = OpState.issued ∨ O3.st = OpState.accumulating) ∧ O3.pulses < O3.pulsesVisited ∧
      128 * O3.nextFire.fst ≤ w.now ∧ (∀ (e : Nat), O3.ends.getD O3.nextFire.snd none = some e → O3.nextFire.fst ≤ e) ∧
      (O3.shadow = false ∨ w.standby = false)) ∧
    (let w := W5s.tick (128 * 3000); Ready W5s ∧ w.op 1 3 = some { O3 with shadow := true : Op } ∧
      ({ O3 with shadow := true : Op }.st = OpState.issued ∨ { O3 with shadow := true : Op }.st = OpState.accumulating) ∧
      { O3 with shadow := true : Op }.pulses < { O3 with shadow := true : Op }.pulsesVisited ∧
      128 * { O3 with shadow := true : Op }.nextFire.fst ≤ w.now ∧
      (∀ (e : Nat), { O3 with shadow := true : Op }.ends.getD { O3 with shadow := true : Op }.nextFire.snd none = some e → { O3 with shadow := true : Op }.nextFire.fst ≤ e) ∧
      { O3 with shadow := true : Op }.shadow = true ∧ w.standby = true) ∧
    (W5.op 1 3 = some O3) ∧
    ((∀ (x : Nat × Nat × Op), x ∈ W5.chanOps O3.chan → x.snd.snd.waiting = []) ∧ O3.waiting = [] ∧
      W5.now < O3.opens 700) ∧
    (O3w.waiting = [(0, 700)] ∧ W5.windowsOpen 5 (O3w.opens (0, 700).snd) < 64) ∧
    (O3f.waiting = [(0, 700)] ∧ 64 ≤ (fireable.setOp 1 3 (some O3f)).windowsOpen 5 (O3f.opens (0, 700).snd)) :=
  ⟨⟨ready_of _ (by decide +kernel), by decide +kernel⟩,
   ⟨ready_of _ (by decide +kernel), by decide +kernel⟩,
   ⟨ready_of _ (by decide +kernel), by decide +kernel⟩,
   (by decide +kernel),
   (by decide +kernel),
   (by decide +kernel),
   (by decide +kernel)⟩

theorem wit_OpsReducedAndReleased :
    (let w := W7.tick 900; Ready W7 ∧ w.op 1 3 = some O4 ∧ (takeWaiting O4.chan w).op 1 3 = some O4 ∧
      (takeWaiting O4.chan w).accumulated O4 = true) ∧
    (let w := W8.tick 900; Ready W8 ∧ (w.die 1).corrQueue = [3] ∧ (w.die 1).engines.length < 16 ∧ w.op 1 3 = some O5) ∧
    (let w := W9.tick 900; Ready W9 ∧ w.op 1 3 = some O6 ∧ (w.die 1).engines.contains 3 = true) ∧
    (let w := W10.tick 900; Ready W10 ∧ w.op 1 3 = some { O5 with ageEnd := 899 : Op } ∧
      { O5 with ageEnd := 899 : Op }.st ≠ OpState.reducing ∧ { O5 with ageEnd := 899 : Op }.ageEnd < w.now) ∧
    (Ready W11 ∧ 0 < ((W11.tick 900).group 1 2).clearing) :=
  ⟨⟨ready_of _ (by decide +kernel), by decide +kernel⟩,
   ⟨ready_of _ (by decide +kernel), by decide +kernel⟩,
   ⟨ready_of _ (by decide +kernel), by decide +kernel⟩,
   ⟨ready_of _ (by decide +kernel), by decide +kernel⟩,
   ⟨ready_of _ (by decide +kernel), by decide +kernel⟩⟩

end Ranging

/-! Echo extraction, points, lichen. -/

namespace Points

def EV0 : OpenEvent := { lr := 2 ^ 40 + 123456789, hr := some (2 ^ 40 + 123456789 + 1500), hf := some (2 ^ 40 + 123456789 + 1500 + 3000), multi := true, late := true }
def EC : Echo := { d := 60000, g := 0, nNum := 60, nDen := 1, conf := 70, qNum := 1, qDen := 1, ext := 3, sat := false, bin := 30 }
def OH : Op := { w0 := 77 + 5 * 2 ^ 19, w1 := 3 + 256, w2 := 1000, v0 := 500, vs := [500], ends := [some 20000], frame := some 9, st := .reducing, reduced := true, echoes := [EC] }
def H1 : State := ((T [(R.CH_CFG.CH_EN 1 5, 1), (R.TB_STATUS.LOCKED, 1), (⟨R.HEAD_GROUPS_A.addr 0, 0, 32⟩, 1), (R.PP_HEAD_CFG.LEARN_EN 0, 1)]).setOp 1 3 (some OH)).setDie 1 { handoff := [3, 4] }
def OB : Obs := { cell := 77, head := 0, at_ := 5, echoes := [(0, 100, 5)] }
def H3 : State := { H1 with pts := { obs := [OB, { OB with cell := 9 }] } }
def FA : FrameAcc := { ended := true, issued := 5, completed := 4, abandoned := 1, torn := true }
def H5 : State := (H1.setFrame 0 9 (some FA))

theorem wit_LayoutsHold :
    (EV0.lr ≤ 2 ^ 40 + 123456789 + 16383 ∧ 2 ^ 40 + 123456789 + 16383 - EV0.lr < 2 ^ 14) ∧
    ({ EV0 with hr := none, hf := none : OpenEvent }.lr ≤ 2 ^ 40 + 123456789 + 9000 ∧
      2 ^ 40 + 123456789 + 9000 - { EV0 with hr := none, hf := none : OpenEvent }.lr < 2 ^ 14 ∧
      { EV0 with hr := none, hf := none : OpenEvent }.hr = none) ∧
    (524287 < 2 ^ 19 ∧ 1048575 < 2 ^ 20 ∧ 4095 < 2 ^ 12 ∧ 2047 < 2 ^ 11 ∧ 16777215 < 2 ^ 24) :=
  ⟨(by decide +kernel),
   (by decide +kernel),
   (by decide +kernel)⟩

theorem wit_PointsHandedOff :
    (let w := H1.tick 900; Ready H1 ∧ (w.die 1).handoff = [3, 4] ∧ w.op 1 3 = some OH) ∧
    (H1.op 1 3 = some OH) ∧
    (let w := H3.tick 900; Ready H3 ∧ w.pts.obs = [OB, { OB with cell := 9 : Obs }] ∧ lget (w.lichen OB.cell) L.pin = 0) ∧
    (let w := ({ H3 with pts := { obs := [OB] : Points } : State }.setLichen 77 (2 ^ 91)).tick 900;
      Ready ({ H3 with pts := { obs := [OB] : Points } : State }.setLichen 77 (2 ^ 91)) ∧ w.pts.obs = [OB] ∧
      lget (w.lichen OB.cell) L.pin ≠ 0) ∧
    ((lichenBase + 32 * 77 + 32 < lichenBase + 32 * 77 ∨ lichenBase + 32 * 77 + 32 ≤ lichenBase + 32 * 77 + 32)) ∧
    (let w := H5.tick 900; Ready H5 ∧ w.frame (↑0) 9 = some FA ∧ FA.ended = true ∧
      FA.issued = FA.completed + FA.abandoned ∧ w.frameHeld (↑0) 9 = false) :=
  ⟨⟨ready_of _ (by decide +kernel), by decide +kernel⟩,
   (by decide +kernel),
   ⟨ready_of _ (by decide +kernel), by decide +kernel⟩,
   ⟨ready_of _ (by decide +kernel), by decide +kernel⟩,
   (by decide +kernel),
   ⟨ready_of _ (by decide +kernel), by decide +kernel⟩⟩

end Points

/-! Scan-out. -/

namespace ScanOut

def f1 : ScanFormat := ⟨360000000, 672, 2, 192, 4, 37500, true⟩
def G672 : List (Field × Nat) := [(⟨R.HEAD_GROUPS_A.addr 0, 0, 32⟩, 0xFFFFFFFF), (⟨R.HEAD_GROUPS_A.addr 1, 0, 32⟩, 0xFFFFFF)]
def B26 (h : Nat) : State := T ([(R.HEAD_CTL.FORMAT h, 1), (R.TB_STATUS.LOCKED, 1)] ++ G672)
def R26 : State := match exec (.scanStart (128 * 1000) 4 0) (B26 0) with | .next u => u | _ => B26 0
def n0 : Nat := ((R26.head 0).next9).getD 0
def tO : Nat := 128 * (n0 / 9)
def CM (lo : Nat) : State := R26.put (R.FROND_ADDR_LO.ADDR_LO 1 3) lo |>.put (R.FROND_GEN_EXP.GEN_EXP 1 3) 65535
def F26 : State := match exec (.frameOpen tO 0) R26 with | .next u => u | _ => B26 0
def F4l : State := ((((F26.setHead 1 { F26.head 0 with lines := 4 }).put (R.HEAD_STATUS.RUNNING 1) 1).put (R.HEAD_STATUS.FORMAT_NOW 1) 1).put R.SO_CFG.HEAD_LOCK 1).clrFlag (R.HEAD_STATUS.IN_FLYBACK 1)
def F4 : State := (F26.modHead 0 (fun x => { x with lines := 4 })).clrFlag (R.HEAD_STATUS.IN_FLYBACK 0)
def C26 : State := F26.modHead 0 (fun x => { x with cHc := 5, cCol := 191, cLine := 1 , lines := 1})

theorem wit_ScanStartsAndStops :
    (let w := (B26 0).tick (128 * 1000); Ready (B26 0) ∧ Admits w 4 (R.HEAD_CTL.addr ↑0) ∧ w.running ↑0 = false ∧
      w.safe = false ∧ w.flag R.THERM_STATUS.ORDERLY_STOP = false ∧ (w.headLock = false ∨ 0 = 0) ∧
      scanFormat (w.get (R.HEAD_CTL.FORMAT ↑0)) = some f1) ∧
    (let w := ((B26 0).put (R.HEAD_CTL.FORMAT 0) 0).tick (128 * 1000); Ready ((B26 0).put (R.HEAD_CTL.FORMAT 0) 0) ∧
      Admits w 4 (R.HEAD_CTL.addr ↑0) ∧ w.running ↑0 = false ∧ w.safe = false ∧
      w.flag R.THERM_STATUS.ORDERLY_STOP = false ∧ (w.headLock = false ∨ 0 = 0) ∧
      scanFormat (w.get (R.HEAD_CTL.FORMAT ↑0)) = none) ∧
    (let w := ((B26 0).put R.SO_CFG.HEAD_LOCK 1).tick (128 * 1000); Ready ((B26 0).put R.SO_CFG.HEAD_LOCK 1) ∧
      Admits w 4 (R.HEAD_CTL.addr 1) ∧ w.running 1 = false ∧ w.headLock = true) ∧
    (let w := R26.tick (128 * 2000); Ready R26 ∧ Admits w 4 (R.HEAD_CTL.addr ↑0) ∧ w.running ↑0 = true ∧
      (w.head ↑0).stopping = false ∧ (w.headLock = false ∨ 0 = 0 ∧ w.running 1 = false)) ∧
    (let w := (CM (frondBase / 64)).tick (128 * 2000); Ready (CM (frondBase / 64)) ∧
      Admits w 4 (R.FROND_COMMIT.addr ↑1 ↑3) ∧
      w.frondAddrOk (64 * w.get (R.FROND_ADDR_LO.ADDR_LO ↑1 ↑3) + 2 ^ 32 * w.get (R.FROND_ADDR_HI.ADDR_HI ↑1 ↑3)) = true ∧
      (64 * w.get (R.FROND_ADDR_LO.ADDR_LO ↑1 ↑3) + 2 ^ 32 * w.get (R.FROND_ADDR_HI.ADDR_HI ↑1 ↑3) < dramBase ∨ w.forwards (64 * w.get (R.FROND_ADDR_LO.ADDR_LO ↑1 ↑3) + 2 ^ 32 * w.get (R.FROND_ADDR_HI.ADDR_HI ↑1 ↑3)) = false)) ∧
    (let w := (CM 0).tick (128 * 2000); Ready (CM 0) ∧ Admits w 4 (R.FROND_COMMIT.addr ↑1 ↑3) ∧
      w.frondAddrOk (64 * w.get (R.FROND_ADDR_LO.ADDR_LO ↑1 ↑3) + 2 ^ 32 * w.get (R.FROND_ADDR_HI.ADDR_HI ↑1 ↑3)) = false) :=
  ⟨⟨ready_of _ (by decide +kernel), admits_core _ _ (by decide +kernel), by decide +kernel⟩,
   ⟨ready_of _ (by decide +kernel), admits_core _ _ (by decide +kernel), by decide +kernel⟩,
   ⟨ready_of _ (by decide +kernel), admits_core _ _ (by decide +kernel), by decide +kernel⟩,
   ⟨ready_of _ (by decide +kernel), admits_core _ _ (by decide +kernel), by decide +kernel⟩,
   ⟨ready_of _ (by decide +kernel), admits_core _ _ (by decide +kernel), by decide +kernel⟩,
   ⟨ready_of _ (by decide +kernel), admits_core _ _ (by decide +kernel), by decide +kernel⟩⟩

theorem wit_FramesRun :
    (let w := R26.tick tO; Ready R26 ∧ w.fmt ↑0 = some f1 ∧ (w.head ↑0).next9 = some n0 ∧ w.running ↑0 = true ∧
      (w.head ↑0).stopping = false ∧ w.due9 n0 = true ∧ ((w.head ↑0).opened = true → (w.head ↑0).latched = true) ∧
      (w.headLock = false ∨ 0 = 0 ∨ (w.head 0).opened = true ∧ n0 ≤ (w.head 0).open9 + 9 * w.get R.LINE_OFS.value)) ∧
    (R26.headLock = false ∧ R26.standby = false ∧ R26.tb.last = none ∧
      (R26.get (R.HEAD_STATUS.LOCK_STATE ↑0) = 0 ∨ R26.get (R.HEAD_STATUS.LOCK_STATE ↑0) = 3)) ∧
    (let w := F26.tick tO; Ready F26 ∧ w.fmt ↑0 = some f1 ∧ w.running ↑0 = true ∧ (w.head ↑0).opened = true ∧
      (w.head ↑0).lines < (w.head ↑0).len ∧ w.due9 ((w.head ↑0).open9 + (w.head ↑0).lines * f1.tl9) = true) ∧
    (let w := F4.tick (tO + 128 * 40000000); Ready F4 ∧ w.fmt ↑0 = some f1 ∧ w.running ↑0 = true ∧
      (w.head ↑0).opened = true ∧ (w.head ↑0).len ≤ (w.head ↑0).lines ∧ w.due9 (w.latch9 (↑0) f1) = true ∧
      w.flag (R.HEAD_STATUS.IN_FLYBACK ↑0) = false ∧ (w.headLock = false ∨ 0 = 0)) ∧
    (let w := F4l.tick (tO + 128 * 40000000); Ready F4l ∧ w.fmt ↑1 = some f1 ∧ w.running ↑1 = true ∧
      (w.head ↑1).opened = true ∧ (w.head ↑1).len ≤ (w.head ↑1).lines ∧ w.due9 (w.latch9 (↑1) f1) = true ∧
      w.flag (R.HEAD_STATUS.IN_FLYBACK ↑1) = false ∧ w.headLock = true ∧ 1 = 1) :=
  ⟨⟨ready_of _ (by decide +kernel), by decide +kernel⟩,
   (by decide +kernel),
   ⟨ready_of _ (by decide +kernel), by decide +kernel⟩,
   ⟨ready_of _ (by decide +kernel), by decide +kernel⟩,
   ⟨ready_of _ (by decide +kernel), by decide +kernel⟩⟩

theorem wit_LinesPrefetchedAndComposed :
    (let w := F26.tick tO; Ready F26 ∧ w.fmt ↑0 = some f1 ∧ w.lineOf (↑0) 0 = some ((F26.head 0).open9, 0, false) ∧
      w.running ↑0 = true ∧ (w.head ↑0).stopping = false ∧ (w.head ↑0).lines ≤ 0 + 1 ∧
      0 < (w.head ↑0).lines + (w.get (R.HEAD_CTL.PF_LINES ↑0) + 1) ∧
      (0 < (w.head ↑0).len ∨ (w.head ↑0).opened = false ∨ (w.head ↑0).latched = true) ∧ (w.head ↑0).begun 0 = false) ∧
    (let w := C26.tick tO; Ready C26 ∧ w.fmt ↑0 = some f1 ∧
      w.lineOf (↑0) (w.head ↑0).cLine = some ((C26.head 0).open9, 1, false) ∧ w.running ↑0 = true ∧
      (w.head ↑0).stopping = false ∧ (w.head ↑0).cLine ≤ (w.head ↑0).lines ∧
      ((w.head ↑0).opened = false ∨ (w.head ↑0).cLine < (w.head ↑0).len ∨ (w.head ↑0).latched = true)) :=
  ⟨⟨ready_of _ (by decide +kernel), by decide +kernel⟩,
   ⟨ready_of _ (by decide +kernel), by decide +kernel⟩⟩

end ScanOut

/-! Sequencers: control, predicates, flow, waits. -/

namespace Salrad

def enc (i : Ins) : Nat := i.opc * 2^56 + i.dst * 2^51 + i.a * 2^46 + i.b * 2^41 + i.pred * 2^38 + (if i.psense then 2^37 else 0) + i.imm
def I (opc dst a b imm : Nat) : Ins := { opc := opc, dst := dst, a := a, b := b, pred := 0, psense := false, imm := imm }
def SQ (i : Ins) (l : List (Nat × Nat)) : State :=
  ((T ([(R.SQ_STATUS.STATE 2, 2), (R.SQ_SPAN_HI.SPAN_HI 2, 15), (R.SQ_PC.PC 2, 3)] ++ l.map (fun p => (R.SQ_GREG.GREG 2 p.1, p.2)))).store (progBase + 24) 8 (enc i)).setSeq 2 { role := 2 }
def tt : Nat := 128 * 5000
def C1 : State := ((T [(R.SQ_STATUS.STATE 2, 5), (R.SQ_STATUS.FAULT_CAUSE 2, 4), (R.SQ_ENTRY.ENTRY 2, 131071), (R.SQ_STATUS.STATE 3, 2)]).setSeq 2 { cq := [(1,2,3,4)], tags := [0, 1], outstanding := [1], role := 2 })
def C2 : State := (T [(R.SQ_STATUS.STATE 2, 3), (R.SQ_CTL.WD_EN 2, 1), (R.SQ_CTL.WD_US 2, 5)])
def C3 : State := C1.setSess 0 { role := some 2 }
def iN : Ins := { I 1 2 3 4 0 with pred := 7 }
def iX : Ins := I 0x55 0 0 0 0
def iL : Ins := I 0x01 5 6 7 1
def WP (i : Ins) (l : List (Nat × Nat)) (p : Nat) : State := (SQ i l).setPend 2 p
def fs (i : Ins) (l : List Nat) : State := (SQ i []).setSeq 2 { outstanding := l }
def we (x : Wait) (p : Nat) : State := ((T [(R.SQ_STATUS.STATE 2, 3), (R.SQ_SPAN_HI.SPAN_HI 2, 15), (R.SQ_PC.PC 2, 3)]).setPend 2 p).setSeq 2 { wait := some x, outstanding := [4, 5] }

theorem wit_SequencersControlled :
    (let w := C1.tick tt; Ready C1 ∧ Admits w 4 (R.SQ_CTL.addr ↑2) ∧ w.sqStopped ↑2 = true ∧ w.safe = false ∧
      w.follower = false ∧ w.policyHolds ↑2 = false) ∧
    (let w := C1.tick tt; Ready C1 ∧ Admits w 4 (R.SQ_CTL.addr ↑3) ∧ w.sqLive ↑3 = true) ∧
    (Ready C1 ∧ Admits (C1.tick tt) 4 R.EV_SOFT.addr) ∧
    (let w := C2.tick (128 * 5000); Ready C2 ∧ w.sqLive ↑2 = true ∧ w.flag (R.SQ_CTL.WD_EN ↑2) = true ∧
      (w.seq ↑2).kick + fineUs (max 1 (w.get (R.SQ_CTL.WD_US ↑2))) ≤ w.now) ∧
    (let w := C3.tick tt; Ready C3 ∧ w.roleOf 0 = some 2 ∧
      w.imageOk false (List.map BitVec.toNat ([1, 2, 3] : List Byte)) = false) ∧
    (Ready C1 ∧ (C1.tick tt).roleOf 0 = none) :=
  ⟨⟨ready_of _ (by decide +kernel), admits_core _ _ (by decide +kernel), by decide +kernel⟩,
   ⟨ready_of _ (by decide +kernel), admits_core _ _ (by decide +kernel), by decide +kernel⟩,
   ⟨ready_of _ (by decide +kernel), admits_core _ _ (by decide +kernel)⟩,
   ⟨ready_of _ (by decide +kernel), by decide +kernel⟩,
   ⟨ready_of _ (by decide +kernel), by decide +kernel⟩,
   ⟨ready_of _ (by decide +kernel), by decide +kernel⟩⟩

theorem wit_PredicatesDecide :
    ({ (I 1 2 3 4 0) with pred := 7, psense := true : Ins }.pred < 8) ∧
    (let w := (SQ iN []).tick tt; Ready (SQ iN []) ∧ AtInstr w (↑2) 1 iN ∧ (Instr.add tt 2).seqOp = some (tt, 2, 1) ∧
      w.executes (↑2) iN = false ∧ w.inSpan (↑2) (w.sqPc ↑2 + 1) = true) :=
  ⟨(by decide +kernel),
   ⟨ready_of _ (by decide +kernel), at_of _ _ _ _ (by decide +kernel), by decide +kernel⟩⟩

theorem wit_SequencerFaults :
    (let w := ((SQ iN []).put (R.SQ_PC.PC 2) 16).tick tt; Ready ((SQ iN []).put (R.SQ_PC.PC 2) 16) ∧
      (Instr.add tt 2).seqOp = some (tt, 2, 1) ∧ w.policyHolds ↑2 = false ∧ w.sqState ↑2 = 2 ∧
      w.inSpan (↑2) (w.sqPc ↑2) = false) ∧
    (let w := (SQ iX []).tick tt; Ready (SQ iX []) ∧ (Instr.add tt 2).seqOp = some (tt, 2, 1) ∧
      w.policyHolds ↑2 = false ∧ w.sqState ↑2 = 2 ∧ w.inSpan (↑2) (w.sqPc ↑2) = true ∧ layoutOf (w.insAt ↑2).opc = none) ∧
    (let w := (SQ iL []).tick tt; Ready (SQ iL []) ∧ (Instr.add tt 2).seqOp = some (tt, 2, 1) ∧
      w.policyHolds ↑2 = false ∧ w.sqState ↑2 = 2 ∧ w.inSpan (↑2) (w.sqPc ↑2) = true ∧ (w.insAt ↑2).opc = 1 ∧
      layoutOf 1 = some { dst := Use.greg 1, a := Use.greg 1, b := Use.greg 1 : Layout } ∧
      (w.insAt ↑2).legal { dst := Use.greg 1, a := Use.greg 1, b := Use.greg 1 : Layout } = false) ∧
    (let w := (SQ iL []).tick tt; Ready (SQ iL []) ∧ (Instr.sub tt 2).seqOp = some (tt, 2, 3) ∧
      w.inSpan (↑2) (w.sqPc ↑2) = true ∧
      layoutOf (w.insAt ↑2).opc = some { dst := Use.greg 1, a := Use.greg 1, b := Use.greg 1 : Layout } ∧
      (w.insAt ↑2).opc ≠ 3) ∧
    (let w := C2.tick tt; Ready C2 ∧ (Instr.add tt 2).seqOp = some (tt, 2, 1) ∧
      (w.sqState ↑2 ≠ 2 ∨ w.policyHolds ↑2 = true)) ∧
    ((SQ iN []).su.errs.length < 64) :=
  ⟨⟨ready_of _ (by decide +kernel), by decide +kernel⟩,
   ⟨ready_of _ (by decide +kernel), by decide +kernel⟩,
   ⟨ready_of _ (by decide +kernel), by decide +kernel⟩,
   ⟨ready_of _ (by decide +kernel), by decide +kernel⟩,
   ⟨ready_of _ (by decide +kernel), by decide +kernel⟩,
   (by decide +kernel)⟩

theorem wit_FlowOfControl :
    (let w := (SQ (I 48 0 0 0 15) []).tick tt; Ready (SQ (I 48 0 0 0 15) []) ∧ AtInstr w (↑2) 48 (I 48 0 0 0 15) ∧
      w.executes (↑2) (I 48 0 0 0 15) = true ∧ w.inSpan (↑2) ((I 48 0 0 0 15).imm % 2 ^ 17) = true) ∧
    (let w := (SQ (I 48 0 0 0 16) []).tick tt; Ready (SQ (I 48 0 0 0 16) []) ∧ AtInstr w (↑2) 48 (I 48 0 0 0 16) ∧
      w.executes (↑2) (I 48 0 0 0 16) = true ∧ w.inSpan (↑2) ((I 48 0 0 0 16).imm % 2 ^ 17) = false) ∧
    (let w := (SQ (I 49 0 6 0 0) [(6, 4294836227)]).tick tt; Ready (SQ (I 49 0 6 0 0) [(6, 4294836227)]) ∧
      AtInstr w (↑2) 49 (I 49 0 6 0 0) ∧ w.executes (↑2) (I 49 0 6 0 0) = true ∧
      w.inSpan (↑2) (w.greg (↑2) (I 49 0 6 0 0).a % 2 ^ 17) = true) ∧
    (let w := (SQ (I 49 0 6 0 0) [(6, 4294967295)]).tick tt; Ready (SQ (I 49 0 6 0 0) [(6, 4294967295)]) ∧
      AtInstr w (↑2) 49 (I 49 0 6 0 0) ∧ w.executes (↑2) (I 49 0 6 0 0) = true ∧
      w.inSpan (↑2) (w.greg (↑2) (I 49 0 6 0 0).a % 2 ^ 17) = false) ∧
    (let w := (SQ (I 50 0 0 0 1) []).tick tt; Ready (SQ (I 50 0 0 0 1) []) ∧ AtInstr w (↑2) 50 (I 50 0 0 0 1) ∧
      w.executes (↑2) (I 50 0 0 0 1) = true ∧ w.inSpan (↑2) ((I 50 0 0 0 1).imm % 2 ^ 17) = true) ∧
    (let w := (SQ (I 50 0 0 0 131071) []).tick tt; Ready (SQ (I 50 0 0 0 131071) []) ∧
      AtInstr w (↑2) 50 (I 50 0 0 0 131071) ∧ w.executes (↑2) (I 50 0 0 0 131071) = true ∧
      w.inSpan (↑2) ((I 50 0 0 0 131071).imm % 2 ^ 17) = false) ∧
    (let w := (SQ (I 51 0 0 0 0) [(31, 9)]).tick tt; Ready (SQ (I 51 0 0 0 0) [(31, 9)]) ∧
      AtInstr w (↑2) 51 (I 51 0 0 0 0) ∧ w.executes (↑2) (I 51 0 0 0 0) = true ∧
      w.inSpan (↑2) (w.greg (↑2) 31 % 2 ^ 17) = true) ∧
    (let w := (SQ (I 51 0 0 0 0) [(31, 99)]).tick tt; Ready (SQ (I 51 0 0 0 0) [(31, 99)]) ∧
      AtInstr w (↑2) 51 (I 51 0 0 0 0) ∧ w.executes (↑2) (I 51 0 0 0 0) = true ∧
      w.inSpan (↑2) (w.greg (↑2) 31 % 2 ^ 17) = false) ∧
    (let w := (SQ (I 52 0 6 0 2) [(6, 2)]).tick tt; Ready (SQ (I 52 0 6 0 2) [(6, 2)]) ∧
      AtInstr w (↑2) 52 (I 52 0 6 0 2) ∧ (w.greg (↑2) (I 52 0 6 0 2).a + (2 ^ 32 - 1)) % 2 ^ 32 ≠ 0 ∧
      w.executes (↑2) (I 52 0 6 0 2) = true ∧ w.inSpan (↑2) ((I 52 0 6 0 2).imm % 2 ^ 17) = true) ∧
    (let w := (SQ (I 52 0 6 0 20) [(6, 2)]).tick tt; Ready (SQ (I 52 0 6 0 20) [(6, 2)]) ∧
      AtInstr w (↑2) 52 (I 52 0 6 0 20) ∧ (w.greg (↑2) (I 52 0 6 0 20).a + (2 ^ 32 - 1)) % 2 ^ 32 ≠ 0 ∧
      w.executes (↑2) (I 52 0 6 0 20) = true ∧ w.inSpan (↑2) ((I 52 0 6 0 20).imm % 2 ^ 17) = false) ∧
    (let w := (SQ (I 52 0 6 0 20) [(6, 1)]).tick tt; Ready (SQ (I 52 0 6 0 20) [(6, 1)]) ∧
      Executes w (↑2) 52 (I 52 0 6 0 20) ∧ (w.greg (↑2) (I 52 0 6 0 20).a + (2 ^ 32 - 1)) % 2 ^ 32 = 0) ∧
    (let w := (SQ (I 53 0 0 0 0) [(6, 1)]).tick tt; Ready (SQ (I 53 0 0 0 0) [(6, 1)]) ∧
      AtInstr w (↑2) 53 (I 53 0 0 0 0) ∧ w.executes (↑2) (I 53 0 0 0 0) = true) ∧
    (Ready (SQ (I 54 0 0 0 0) [(6, 1)]) ∧ Executes ((SQ (I 54 0 0 0 0) [(6, 1)]).tick tt) (↑2) 54 (I 54 0 0 0 0)) ∧
    (Ready (SQ (I 56 30 0 0 0) [(6, 1)]) ∧ Executes ((SQ (I 56 30 0 0 0) [(6, 1)]).tick tt) (↑2) 56 (I 56 30 0 0 0)) ∧
    (Ready (SQ (I 57 30 0 0 31) [(6, 1)]) ∧ Executes ((SQ (I 57 30 0 0 31) [(6, 1)]).tick tt) (↑2) 57 (I 57 30 0 0 31)) :=
  ⟨⟨ready_of _ (by decide +kernel), at_of _ _ _ _ (by decide +kernel), by decide +kernel⟩,
   ⟨ready_of _ (by decide +kernel), at_of _ _ _ _ (by decide +kernel), by decide +kernel⟩,
   ⟨ready_of _ (by decide +kernel), at_of _ _ _ _ (by decide +kernel), by decide +kernel⟩,
   ⟨ready_of _ (by decide +kernel), at_of _ _ _ _ (by decide +kernel), by decide +kernel⟩,
   ⟨ready_of _ (by decide +kernel), at_of _ _ _ _ (by decide +kernel), by decide +kernel⟩,
   ⟨ready_of _ (by decide +kernel), at_of _ _ _ _ (by decide +kernel), by decide +kernel⟩,
   ⟨ready_of _ (by decide +kernel), at_of _ _ _ _ (by decide +kernel), by decide +kernel⟩,
   ⟨ready_of _ (by decide +kernel), at_of _ _ _ _ (by decide +kernel), by decide +kernel⟩,
   ⟨ready_of _ (by decide +kernel), at_of _ _ _ _ (by decide +kernel), by decide +kernel⟩,
   ⟨ready_of _ (by decide +kernel), at_of _ _ _ _ (by decide +kernel), by decide +kernel⟩,
   ⟨ready_of _ (by decide +kernel), executes_of _ _ _ _ (by decide +kernel), by decide +kernel⟩,
   ⟨ready_of _ (by decide +kernel), at_of _ _ _ _ (by decide +kernel), by decide +kernel⟩,
   ⟨ready_of _ (by decide +kernel), executes_of _ _ _ _ (by decide +kernel)⟩,
   ⟨ready_of _ (by decide +kernel), executes_of _ _ _ _ (by decide +kernel)⟩,
   ⟨ready_of _ (by decide +kernel), executes_of _ _ _ _ (by decide +kernel)⟩⟩

theorem wit_WaitsAndEvents :
    (let w := (WP (I 64 5 6 7 10) [(6, 5), (7, 8)] (2 ^ 35 + 7)).tick tt;
      Ready (WP (I 64 5 6 7 10) [(6, 5), (7, 8)] (2 ^ 35 + 7)) ∧ Executes w (↑2) 64 (I 64 5 6 7 10) ∧
      w.pend ↑2 &&& w.greg (↑2) (I 64 5 6 7 10).a + 2 ^ 32 * w.greg (↑2) (I 64 5 6 7 10).b ≠ 0) ∧
    (let w := (WP (I 64 5 6 7 0) [(6, 5), (7, 8)] 10).tick tt; Ready (WP (I 64 5 6 7 0) [(6, 5), (7, 8)] 10) ∧
      Executes w (↑2) 64 (I 64 5 6 7 0) ∧
      w.pend ↑2 &&& w.greg (↑2) (I 64 5 6 7 0).a + 2 ^ 32 * w.greg (↑2) (I 64 5 6 7 0).b = 0) ∧
    (let w := (WP (I 65 5 0 0 63) [] (2 ^ 63 + 1)).tick tt; Ready (WP (I 65 5 0 0 63) [] (2 ^ 63 + 1)) ∧
      Executes w (↑2) 65 (I 65 5 0 0 63) ∧ (w.pend ↑2).testBit ((I 65 5 0 0 63).imm % 64) = true) ∧
    (let w := (WP (I 65 5 0 0 (62 + 64 * 9)) [] (2 ^ 63 + 1)).tick tt;
      Ready (WP (I 65 5 0 0 (62 + 64 * 9)) [] (2 ^ 63 + 1)) ∧ Executes w (↑2) 65 (I 65 5 0 0 (62 + 64 * 9)) ∧
      (w.pend ↑2).testBit ((I 65 5 0 0 (62 + 64 * 9)).imm % 64) = false) ∧
    (Ready (WP (I 55 0 0 0 0) [] (2 ^ 63 + 1)) ∧
      Executes ((WP (I 55 0 0 0 0) [] (2 ^ 63 + 1)).tick tt) (↑2) 55 (I 55 0 0 0 0) ∧ (I 55 0 0 0 0).imm % 2 ^ 24 = 0) ∧
    (Ready (WP (I 55 0 0 0 16777215) [] (2 ^ 63 + 1)) ∧
      Executes ((WP (I 55 0 0 0 16777215) [] (2 ^ 63 + 1)).tick tt) (↑2) 55 (I 55 0 0 0 16777215) ∧
      (I 55 0 0 0 16777215).imm % 2 ^ 24 ≠ 0) ∧
    (let w := (fs (I 114 0 0 0 2) [4, 255]).tick tt; Ready (fs (I 114 0 0 0 2) [4, 255]) ∧
      Executes w (↑2) 114 (I 114 0 0 0 2) ∧ (I 114 0 0 0 2).imm.testBit 8 = false ∧
      (w.seq ↑2).outstanding.length ≤ (I 114 0 0 0 2).imm % 256) ∧
    (let w := (fs (I 114 0 0 0 1) [4, 255]).tick tt; Ready (fs (I 114 0 0 0 1) [4, 255]) ∧
      Executes w (↑2) 114 (I 114 0 0 0 1) ∧ (I 114 0 0 0 1).imm.testBit 8 = false ∧
      (I 114 0 0 0 1).imm % 256 < (w.seq ↑2).outstanding.length) ∧
    (let w := (fs (I 114 0 0 0 (256 + 254)) [4, 255]).tick tt; Ready (fs (I 114 0 0 0 (256 + 254)) [4, 255]) ∧
      Executes w (↑2) 114 (I 114 0 0 0 (256 + 254)) ∧ (I 114 0 0 0 (256 + 254)).imm.testBit 8 = true ∧
      (¬(I 114 0 0 0 (256 + 254)).imm % 256 ∈ (w.seq ↑2).outstanding)) ∧
    (let w := (fs (I 114 0 0 0 (256 + 255)) [4, 255]).tick tt; Ready (fs (I 114 0 0 0 (256 + 255)) [4, 255]) ∧
      Executes w (↑2) 114 (I 114 0 0 0 (256 + 255)) ∧ (I 114 0 0 0 (256 + 255)).imm.testBit 8 = true ∧
      (I 114 0 0 0 (256 + 255)).imm % 256 ∈ (w.seq ↑2).outstanding) ∧
    (Ready (fs (I 82 0 0 0 0) [4, 255]) ∧ Executes ((fs (I 82 0 0 0 0) [4, 255]).tick tt) (↑2) 82 (I 82 0 0 0 0)) ∧
    (Ready (fs (I 66 0 0 0 15) [4, 255]) ∧ Executes ((fs (I 66 0 0 0 15) [4, 255]).tick tt) (↑2) 66 (I 66 0 0 0 15)) ∧
    (Ready (WP (I 67 0 6 7 0) [(6, 5), (7, 8)] (2 ^ 35 + 7)) ∧
      Executes ((WP (I 67 0 6 7 0) [(6, 5), (7, 8)] (2 ^ 35 + 7)).tick tt) (↑2) 67 (I 67 0 6 7 0)) ∧
    (let w := (we (Wait.mask 5 6 none) 6).tick tt; Ready (we (Wait.mask 5 6 none) 6) ∧ w.sqState ↑2 = 3 ∧
      (w.seq ↑2).wait = some (Wait.mask 5 6 none) ∧ Wait.mask 5 6 none = Wait.mask 5 6 none ∧ w.pend ↑2 &&& 5 ≠ 0) ∧
    (let w := (we (Wait.line 63 6 none) (2 ^ 63)).tick tt; Ready (we (Wait.line 63 6 none) (2 ^ 63)) ∧
      w.sqState ↑2 = 3 ∧ (w.seq ↑2).wait = some (Wait.line 63 6 none) ∧ Wait.line 63 6 none = Wait.line 63 6 none ∧
      (w.pend ↑2).testBit 63 = true) ∧
    (let w := (we (Wait.mask 5 6 (some tt)) 8).tick tt; Ready (we (Wait.mask 5 6 (some tt)) 8) ∧ w.sqState ↑2 = 3 ∧
      (w.seq ↑2).wait = some (Wait.mask 5 6 (some tt)) ∧ Wait.mask 5 6 (some tt) = Wait.mask 5 6 (some tt) ∧
      tt ≤ w.now ∧ w.pend ↑2 &&& 5 = 0) ∧
    (let w := (we (Wait.line 5 6 (some tt)) 8).tick tt; Ready (we (Wait.line 5 6 (some tt)) 8) ∧ w.sqState ↑2 = 3 ∧
      (w.seq ↑2).wait = some (Wait.line 5 6 (some tt)) ∧ Wait.line 5 6 (some tt) = Wait.line 5 6 (some tt) ∧
      tt ≤ w.now ∧ (w.pend ↑2).testBit 5 = false) ∧
    (let w := (we (Wait.sleep tt) 8).tick tt; Ready (we (Wait.sleep tt) 8) ∧ w.sqState ↑2 = 3 ∧
      (w.seq ↑2).wait = some (Wait.sleep tt) ∧ Wait.sleep tt = Wait.sleep tt ∧ tt ≤ w.now) ∧
    (let w := (we (Wait.outstanding 2) 8).tick tt; Ready (we (Wait.outstanding 2) 8) ∧ w.sqState ↑2 = 3 ∧
      (w.seq ↑2).wait = some (Wait.outstanding 2) ∧ w.fenceMet (↑2) (Wait.outstanding 2) = true) ∧
    (let w := (we Wait.stores 8).tick tt; Ready (we Wait.stores 8) ∧ w.sqState ↑2 = 3 ∧
      (w.seq ↑2).wait = some Wait.stores ∧ Wait.stores = Wait.stores) ∧
    ((we Wait.stores 8).sqPc ↑2 < 2 ^ 17 - 1) :=
  ⟨⟨ready_of _ (by decide +kernel), executes_of _ _ _ _ (by decide +kernel), by decide +kernel⟩,
   ⟨ready_of _ (by decide +kernel), executes_of _ _ _ _ (by decide +kernel), by decide +kernel⟩,
   ⟨ready_of _ (by decide +kernel), executes_of _ _ _ _ (by decide +kernel), by decide +kernel⟩,
   ⟨ready_of _ (by decide +kernel), executes_of _ _ _ _ (by decide +kernel), by decide +kernel⟩,
   ⟨ready_of _ (by decide +kernel), executes_of _ _ _ _ (by decide +kernel), by decide +kernel⟩,
   ⟨ready_of _ (by decide +kernel), executes_of _ _ _ _ (by decide +kernel), by decide +kernel⟩,
   ⟨ready_of _ (by decide +kernel), executes_of _ _ _ _ (by decide +kernel), by decide +kernel⟩,
   ⟨ready_of _ (by decide +kernel), executes_of _ _ _ _ (by decide +kernel), by decide +kernel⟩,
   ⟨ready_of _ (by decide +kernel), executes_of _ _ _ _ (by decide +kernel), by decide +kernel⟩,
   ⟨ready_of _ (by decide +kernel), executes_of _ _ _ _ (by decide +kernel), by decide +kernel⟩,
   ⟨ready_of _ (by decide +kernel), executes_of _ _ _ _ (by decide +kernel)⟩,
   ⟨ready_of _ (by decide +kernel), executes_of _ _ _ _ (by decide +kernel)⟩,
   ⟨ready_of _ (by decide +kernel), executes_of _ _ _ _ (by decide +kernel)⟩,
   ⟨ready_of _ (by decide +kernel), by decide +kernel⟩,
   ⟨ready_of _ (by decide +kernel), by decide +kernel⟩,
   ⟨ready_of _ (by decide +kernel), by decide +kernel⟩,
   ⟨ready_of _ (by decide +kernel), by decide +kernel⟩,
   ⟨ready_of _ (by decide +kernel), by decide +kernel⟩,
   ⟨ready_of _ (by decide +kernel), by decide +kernel⟩,
   ⟨ready_of _ (by decide +kernel), by decide +kernel⟩,
   (by decide +kernel)⟩

end Salrad

/-! Sequencers: memory and steering. -/

namespace SalradMemory

def enc (i : Ins) : Nat := i.opc * 2^56 + i.dst * 2^51 + i.a * 2^46 + i.b * 2^41 + i.pred * 2^38 + (if i.psense then 2^37 else 0) + i.imm
def I (opc dst a b imm : Nat) : Ins := { opc := opc, dst := dst, a := a, b := b, pred := 0, psense := false, imm := imm }
def SQ (i : Ins) (l : List (Nat × Nat)) : State :=
  ((T ([(R.SQ_STATUS.STATE 2, 2), (R.SQ_SPAN_HI.SPAN_HI 2, 15), (R.SQ_PC.PC 2, 3)] ++ l.map (fun p => (R.SQ_GREG.GREG 2 p.1, p.2)))).store (progBase + 24) 8 (enc i)).setSeq 2 { role := 2 }
def tt : Nat := 128 * 5000
def ls0 (i : Ins) (l : List (Nat × Nat)) : State := (SQ i l).setFlag R.TB_STATUS.LOCKED
def im (sp size ofs : Nat) (sx : Nat := 0) : Nat := ofs + sp * 2^24 + size * 2^27 + sx * 2^29
def LI1 : Ins := I 0x50 5 6 0 (im 1 1 8 1)
def LS1 : State := (ls0 LI1 [(6, 2)]).store (dataBase + 8) 8 0x8877A655F4332211
def LA (i : Ins) (s : State) : Nat := (s.effAddr 2 i).getD 0
def LI2 : Ins := I 0x50 5 6 0 (im 1 3 8 0)
def LS2 : State := (ls0 LI2 []).store (dataBase + 8) 8 0x8877A655F4332211
def LI4 : Ins := I 0x50 5 6 0 (im 1 2 9 0)
def LS4 : State := (ls0 LI4 [])
def LI5 : Ins := I 0x51 0 6 7 (im 1 2 9 0)
def LI6 : Ins := I 0x54 5 6 7 (im 0 2 9 0)
def LI7 : Ins := I 0x51 0 6 7 (im 5 2 8 0)
def LI9 : Ins := I 0x51 0 6 30 (im 0 3 8 0)
def LI11 : Ins := I 0x54 5 6 7 (im 0 2 8 0)
def FI : Ins := I 0x60 0 6 7 200
def FS : State := (((ls0 FI [(6, 64), (7, 12 + 65536 * 30), (8, 0 + 65536 * 8)]).store (frondBase + 64 + 4) 4 (10 + 65536 * 20)).store (frondBase + 64 + 8) 4 (5 + 65536 * 14))
def D31 (i : Ins) (l : List (Nat × Nat)) : State :=
  let s := ls0 i l
  (((s.put R.MEM_STATUS.MEM_READY 1).put R.MEM_STATUS.PORTS_USED 1).put R.MEM_STATUS.CAP_GB 16).put (R.SQ_DBASE.DBASE 2) 0x20
def FD : Ins := I 0x60 0 6 7 (200 + 256)
def FDS : State := (((D31 FD [(6, 64), (7, 12 + 65536 * 30), (8, 0 + 65536 * 8)]).store (dramBase + 64 + 4) 4 (10 + 65536 * 20)).store (dramBase + 64 + 8) 4 (5 + 65536 * 14))
def HA : HeldAccess := ⟨10, 64, 8, false, 0, 0⟩
def DLI : Ins := I 0x50 5 6 0 (im 4 2 64)
def st (i : Ins) (l : List (Nat × Nat)) (q : Seq) : State := (ls0 i l).setSeq 2 { q with role := 2 }
def pI : Ins := I 0x70 5 8 12 3
def pL : List (Nat × Nat) := [(8, 77 + 5 * 2^19), (9, 3), (10, 1000), (11, 9), (12, 40), (13, 0), (14, 100), (15, 77)]
def cI : Ins := I 0x71 28 0 0 0
def wI : Ins := I 0x64 0 6 7 (3 + 4 + 8 * 255 + 2^11 + 2^12)
def fI (k : Nat) : Ins := I 0x61 5 6 7 k
def hI (k : Nat) : Ins := I 0x63 5 6 0 k
def eI (k : Nat) : Ins := I 0x80 0 6 0 k
def oI (k a : Nat) : Ins := I 0x81 0 a 0 k
def aI : Ins := I 0xA0 5 6 8 0
def tI : Ins := I 0xA1 0 6 0 1
def kI : Ins := I 0xB0 5 0 0 15
def sI : Ins := I 0xC0 0 6 0 7
def rI : Ins := I 0xC1 5 0 0 (7 + 8 * 15)

theorem wit_LoadsAndStores :
    (let w := LS1.tick tt; Ready LS1 ∧ Executes w (↑2) 80 LI1 ∧ w.effAddr (↑2) LI1 = some (LA LI1 LS1) ∧
      w.readHeld (8 + ↑2) (LA LI1 LS1) LI1.size = false ∧ LI1.size < 8) ∧
    (let w := LS1.tick tt; Ready LS1 ∧ w.effAddr (↑2) LI1 = some (LA LI1 LS1) ∧
      w.readHeld (8 + ↑2) (LA LI1 LS1) LI1.size = false ∧ w.target (LA LI1 LS1) LI1.size = Target.sram) ∧
    (let w := LS1.tick tt; Ready LS1 ∧ LI1.imm.testBit 8 = false ∧ frondBase + w.greg (↑2) LI1.a + 64 ≤ lichenBase ∧
      bits (w.load (frondBase + w.greg (↑2) LI1.a) 4) 16 2 = 0 ∧
      (w.fillArea (frondBase + w.greg (↑2) LI1.a) (w.greg (↑2) LI1.b) (w.greg (↑2) (LI1.b + 1))).fits (frondBase + w.greg (↑2) LI1.a) lichenBase = true ∧
      (∀ (k : Nat), k < (w.fillArea (frondBase + w.greg (↑2) LI1.a) (w.greg (↑2) LI1.b) (w.greg (↑2) (LI1.b + 1))).rows → ¬((w.fillArea (frondBase + w.greg (↑2) LI1.a) (w.greg (↑2) LI1.b) (w.greg (↑2) (LI1.b + 1))).at_ (frondBase + w.greg (↑2) LI1.a) k ≤ LA LI1 LS1 ∧
      LA LI1 LS1 < (w.fillArea (frondBase + w.greg (↑2) LI1.a) (w.greg (↑2) LI1.b) (w.greg (↑2) (LI1.b + 1))).at_ (frondBase + w.greg (↑2) LI1.a) k + (w.fillArea (frondBase + w.greg (↑2) LI1.a) (w.greg (↑2) LI1.b) (w.greg (↑2) (LI1.b + 1))).cols))) ∧
    (let w := LS2.tick tt; Ready LS2 ∧ Executes w (↑2) 80 LI2 ∧ w.effAddr (↑2) LI2 = some (LA LI2 LS2) ∧
      w.readHeld (8 + ↑2) (LA LI2 LS2) LI2.size = false ∧ LI2.size = 8) ∧
    (let w := LS4.tick tt; Ready LS4 ∧ Executes w (↑2) 80 LI4 ∧ w.effAddr (↑2) LI4 = none) ∧
    (let w := (ls0 LI5 []).tick tt; Ready (ls0 LI5 []) ∧ Executes w (↑2) 81 LI5 ∧ w.effAddr (↑2) LI5 = none ∧
      LI5.space ≠ 2 ∧ LI5.space ≠ 5) ∧
    (let w := (ls0 LI6 []).tick tt; Ready (ls0 LI6 []) ∧ Executes w (↑2) 84 LI6 ∧ w.effAddr (↑2) LI6 = none) ∧
    (Ready (ls0 LI7 []) ∧ Executes ((ls0 LI7 []).tick tt) (↑2) 81 LI7 ∧ (LI7.space = 2 ∨ LI7.space = 5)) ∧
    (let w := (ls0 LI9 [(30, 7), (31, 4294967295)]).tick tt; Ready (ls0 LI9 [(30, 7), (31, 4294967295)]) ∧
      Executes w (↑2) 81 LI9 ∧ w.effAddr (↑2) LI9 = some (LA LI9 (ls0 LI9 [])) ∧ LI9.space ≠ 2 ∧ LI9.space ≠ 5) ∧
    (let w := ((ls0 LI11 [(7, 4294967295)]).store (dataBase + 8) 4 5).tick tt;
      Ready ((ls0 LI11 [(7, 4294967295)]).store (dataBase + 8) 4 5) ∧ Admits w (8 + ↑2) (LA LI11 (ls0 LI11 [])) ∧
      Executes w (↑2) 84 LI11 ∧ w.effAddr (↑2) LI11 = some (LA LI11 (ls0 LI11 [])) ∧
      w.target (LA LI11 (ls0 LI11 [])) 4 = Target.sram) ∧
    (let w := (ls0 (I 83 0 6 0 0) [(6, 319)]).tick tt; Ready (ls0 (I 83 0 6 0 0) [(6, 319)]) ∧
      Executes w (↑2) 83 (I 83 0 6 0 0) ∧ 32 ≤ w.greg (↑2) (I 83 0 6 0 0).a % 256 ∧
      w.greg (↑2) (I 83 0 6 0 0).a % 256 ≤ 63) ∧
    (let w := (ls0 (I 83 0 6 0 0) [(6, 64)]).tick tt; Ready (ls0 (I 83 0 6 0 0) [(6, 64)]) ∧
      Executes w (↑2) 83 (I 83 0 6 0 0) ∧
      (w.greg (↑2) (I 83 0 6 0 0).a % 256 < 32 ∨ 63 < w.greg (↑2) (I 83 0 6 0 0).a % 256)) ∧
    (Ready ((ls0 (I 144 24 6 0 0) [(6, 4294967295)]).setLichen 524287 (2 ^ 255 + 12345)) ∧
      Executes (((ls0 (I 144 24 6 0 0) [(6, 4294967295)]).setLichen 524287 (2 ^ 255 + 12345)).tick tt) (↑2) 144 (I 144 24 6 0 0)) ∧
    (Ready ((ls0 (I 145 0 24 6 0) [(6, 4294967295), (24, 3), (31, 4294967295)]).setLichen 524287 (2 ^ 255 + 12345)) ∧
      Executes (((ls0 (I 145 0 24 6 0) [(6, 4294967295), (24, 3), (31, 4294967295)]).setLichen 524287 (2 ^ 255 + 12345)).tick tt) (↑2) 145 (I 145 0 24 6 0)) ∧
    (Ready ((ls0 (I 146 5 6 0 243) [(6, 77)]).setLichen 77 (2 ^ 255 + 12345 + 2 ^ 89)) ∧
      Executes (((ls0 (I 146 5 6 0 243) [(6, 77)]).setLichen 77 (2 ^ 255 + 12345 + 2 ^ 89)).tick tt) (↑2) 146 (I 146 5 6 0 243)) ∧
    (let w := FS.tick tt; Ready FS ∧ Executes w (↑2) 96 FI ∧ FI.imm.testBit 8 = false ∧
      frondBase + w.greg (↑2) FI.a + 64 ≤ lichenBase ∧ bits (w.load (frondBase + w.greg (↑2) FI.a) 4) 16 2 = 0 ∧
      (w.fillArea (frondBase + w.greg (↑2) FI.a) (w.greg (↑2) FI.b) (w.greg (↑2) (FI.b + 1))).fits (frondBase + w.greg (↑2) FI.a) lichenBase = true) ∧
    (let w := FDS.tick tt; Ready FDS ∧ Executes w (↑2) 96 FD ∧ FD.imm.testBit 8 = true ∧ w.dbaseOk ↑2 = true ∧
      w.dbaseAddr (↑2) (w.greg (↑2) FD.a) + 64 ≤ dramEnd ∧
      w.dramMapped (w.dbaseAddr (↑2) (w.greg (↑2) FD.a) - dramBase) = true ∧
      bits (w.load (w.dbaseAddr (↑2) (w.greg (↑2) FD.a)) 4) 16 2 = 0 ∧
      (w.fillArea (w.dbaseAddr (↑2) (w.greg (↑2) FD.a)) (w.greg (↑2) FD.b) (w.greg (↑2) (FD.b + 1))).fits (w.dbaseAddr (↑2) (w.greg (↑2) FD.a)) dramEnd = true ∧
      w.fillHeld (8 + ↑2) (w.dbaseAddr (↑2) (w.greg (↑2) FD.a)) (w.fillArea (w.dbaseAddr (↑2) (w.greg (↑2) FD.a)) (w.greg (↑2) FD.b) (w.greg (↑2) (FD.b + 1))) = false) ∧
    (let w := (FDS.store (dramBase + 64) 4 (2 ^ 16)).tick tt; Ready (FDS.store (dramBase + 64) 4 (2 ^ 16)) ∧
      Executes w (↑2) 96 FD ∧ FD.imm.testBit 8 = true ∧ w.dbaseOk ↑2 = true ∧
      w.dbaseAddr (↑2) (w.greg (↑2) FD.a) + 64 ≤ dramEnd ∧
      w.dramMapped (w.dbaseAddr (↑2) (w.greg (↑2) FD.a) - dramBase) = true ∧
      bits (w.load (w.dbaseAddr (↑2) (w.greg (↑2) FD.a)) 4) 16 2 ≠ 0) ∧
    (let w := (FDS.put R.MEM_STATUS.CAP_GB 0).tick tt; Ready (FDS.put R.MEM_STATUS.CAP_GB 0) ∧ Executes w (↑2) 96 FD ∧
      FD.imm.testBit 8 = true ∧ w.dbaseOk ↑2 = true ∧ w.dbaseAddr (↑2) (w.greg (↑2) FD.a) + 64 ≤ dramEnd ∧
      w.dramMapped (w.dbaseAddr (↑2) (w.greg (↑2) FD.a) - dramBase) = false) ∧
    (let w := (FDS.put (R.SQ_DBASE.DBASE 2) 0).tick tt; Ready (FDS.put (R.SQ_DBASE.DBASE 2) 0) ∧ Executes w (↑2) 96 FD ∧
      FD.imm.testBit 8 = true ∧ w.dbaseOk ↑2 = false) ∧
    (let w := (FDS.setDram { waiting := [HA] : Mem }).tick tt; Ready (FDS.setDram { waiting := [HA] : Mem }) ∧
      Executes w (↑2) 96 FD ∧ FD.imm.testBit 8 = true ∧ w.dbaseOk ↑2 = true ∧
      w.dbaseAddr (↑2) (w.greg (↑2) FD.a) + 64 ≤ dramEnd ∧
      w.dramMapped (w.dbaseAddr (↑2) (w.greg (↑2) FD.a) - dramBase) = true ∧
      bits (w.load (w.dbaseAddr (↑2) (w.greg (↑2) FD.a)) 4) 16 2 = 0 ∧
      (w.fillArea (w.dbaseAddr (↑2) (w.greg (↑2) FD.a)) (w.greg (↑2) FD.b) (w.greg (↑2) (FD.b + 1))).fits (w.dbaseAddr (↑2) (w.greg (↑2) FD.a)) dramEnd = true ∧
      w.fillHeld (8 + ↑2) (w.dbaseAddr (↑2) (w.greg (↑2) FD.a)) (w.fillArea (w.dbaseAddr (↑2) (w.greg (↑2) FD.a)) (w.greg (↑2) FD.b) (w.greg (↑2) (FD.b + 1))) = true) ∧
    (let w := ((D31 DLI []).setDram { waiting := [HA] : Mem }).tick tt;
      Ready ((D31 DLI []).setDram { waiting := [HA] : Mem }) ∧ Executes w (↑2) 80 DLI ∧
      w.effAddr (↑2) DLI = some (LA DLI (D31 DLI [])) ∧ w.readHeld (8 + ↑2) (LA DLI (D31 DLI [])) DLI.size = true) :=
  ⟨⟨ready_of _ (by decide +kernel), executes_of _ _ _ _ (by decide +kernel), by decide +kernel⟩,
   ⟨ready_of _ (by decide +kernel), by decide +kernel⟩,
   ⟨ready_of _ (by decide +kernel), by decide +kernel⟩,
   ⟨ready_of _ (by decide +kernel), executes_of _ _ _ _ (by decide +kernel), by decide +kernel⟩,
   ⟨ready_of _ (by decide +kernel), executes_of _ _ _ _ (by decide +kernel), by decide +kernel⟩,
   ⟨ready_of _ (by decide +kernel), executes_of _ _ _ _ (by decide +kernel), by decide +kernel⟩,
   ⟨ready_of _ (by decide +kernel), executes_of _ _ _ _ (by decide +kernel), by decide +kernel⟩,
   ⟨ready_of _ (by decide +kernel), executes_of _ _ _ _ (by decide +kernel), by decide +kernel⟩,
   ⟨ready_of _ (by decide +kernel), executes_of _ _ _ _ (by decide +kernel), by decide +kernel⟩,
   ⟨ready_of _ (by decide +kernel), admits_role _ _ _ 2 (by decide +kernel), executes_of _ _ _ _ (by decide +kernel), by decide +kernel⟩,
   ⟨ready_of _ (by decide +kernel), executes_of _ _ _ _ (by decide +kernel), by decide +kernel⟩,
   ⟨ready_of _ (by decide +kernel), executes_of _ _ _ _ (by decide +kernel), by decide +kernel⟩,
   ⟨ready_of _ (by decide +kernel), executes_of _ _ _ _ (by decide +kernel)⟩,
   ⟨ready_of _ (by decide +kernel), executes_of _ _ _ _ (by decide +kernel)⟩,
   ⟨ready_of _ (by decide +kernel), executes_of _ _ _ _ (by decide +kernel)⟩,
   ⟨ready_of _ (by decide +kernel), executes_of _ _ _ _ (by decide +kernel), by decide +kernel⟩,
   ⟨ready_of _ (by decide +kernel), executes_of _ _ _ _ (by decide +kernel), by decide +kernel⟩,
   ⟨ready_of _ (by decide +kernel), executes_of _ _ _ _ (by decide +kernel), by decide +kernel⟩,
   ⟨ready_of _ (by decide +kernel), executes_of _ _ _ _ (by decide +kernel), by decide +kernel⟩,
   ⟨ready_of _ (by decide +kernel), executes_of _ _ _ _ (by decide +kernel), by decide +kernel⟩,
   ⟨ready_of _ (by decide +kernel), executes_of _ _ _ _ (by decide +kernel), by decide +kernel⟩,
   ⟨ready_of _ (by decide +kernel), executes_of _ _ _ _ (by decide +kernel), by decide +kernel⟩⟩

theorem wit_SteeringInstructions :
    (let w := ((ls0 (I 97 5 6 7 7) [(6, 64), (7, 65535)]).setDram { waiting := [HA] : Mem }).tick tt;
      Ready ((ls0 (I 97 5 6 7 7) [(6, 64), (7, 65535)]).setDram { waiting := [HA] : Mem }) ∧
      Executes w (↑2) 97 (I 97 5 6 7 7) ∧ ((I 97 5 6 7 7).imm.testBit 3 = false ∨ w.dbaseOk ↑2 = true) ∧
      w.dramWaits (8 + ↑2) = true) ∧
    (let w := (st pI pL { tags := List.range 256, outstanding := List.range 256 : Machine.Seq }).tick tt;
      Ready (st pI pL { tags := List.range 256, outstanding := List.range 256 : Machine.Seq }) ∧
      Executes w (↑2) 112 pI ∧ 256 ≤ (w.seq ↑2).cq.length + (w.seq ↑2).outstanding.length) ∧
    (let w := (st pI pL { tags := [0, 1], outstanding := [1] : Machine.Seq }).tick tt;
      Ready (st pI pL { tags := [0, 1], outstanding := [1] : Machine.Seq }) ∧ Executes w (↑2) 112 pI ∧
      (w.seq ↑2).cq.length + (w.seq ↑2).outstanding.length < 256) ∧
    (let w := (st cI pL { : Machine.Seq }).tick tt; Ready (st cI pL { : Machine.Seq }) ∧ Executes w (↑2) 113 cI ∧
      (w.seq ↑2).cq = []) ∧
    (let w := (st cI pL { cq := [(7, 1, 2, 3), (9, 1, 2, 3)], tags := [7, 8] : Machine.Seq }).tick tt;
      Ready (st cI pL { cq := [(7, 1, 2, 3), (9, 1, 2, 3)], tags := [7, 8] : Machine.Seq }) ∧ Executes w (↑2) 113 cI ∧
      (w.seq ↑2).cq = [(7, 1, 2, 3), (9, 1, 2, 3)]) ∧
    (Ready (st wI [(6, 4294901761), (7, 65538)] { : Machine.Seq }) ∧
      Executes ((st wI [(6, 4294901761), (7, 65538)] { : Machine.Seq }).tick tt) (↑2) 100 wI) ∧
    (Ready (st wI [(6, 4294901761), (7, 65538)] { : Machine.Seq }) ∧ wI.imm.testBit 7 = true) ∧
    (let w := (st (fI 7) [(6, 64), (7, 65535)] { : Machine.Seq }).tick tt;
      Ready (st (fI 7) [(6, 64), (7, 65535)] { : Machine.Seq }) ∧ Executes w (↑2) 97 (fI 7) ∧
      ((fI 7).imm.testBit 3 = false ∨ w.dbaseOk ↑2 = true) ∧ w.dramWaits (8 + ↑2) = false ∧
      (((w.put (R.FROND_ADDR_LO.ADDR_LO ((fI 7).imm % 2) ((fI 7).imm / 2 % 4)) ((if (fI 7).imm.testBit 3 = true then w.dbaseAddr (↑2) (w.greg (↑2) (fI 7).a) else frondBase + w.greg (↑2) (fI 7).a) / 64)).put (R.FROND_ADDR_HI.ADDR_HI ((fI 7).imm % 2) ((fI 7).imm / 2 % 4)) ((if (fI 7).imm.testBit 3 = true then w.dbaseAddr (↑2) (w.greg (↑2) (fI 7).a) else frondBase + w.greg (↑2) (fI 7).a) / 2 ^ 32)).put (R.FROND_GEN_EXP.GEN_EXP ((fI 7).imm % 2) ((fI 7).imm / 2 % 4)) (w.greg (↑2) (fI 7).b)).frondAddrOk (if (fI 7).imm.testBit 3 = true then w.dbaseAddr (↑2) (w.greg (↑2) (fI 7).a) else frondBase + w.greg (↑2) (fI 7).a) = true) ∧
    (let w := (st (fI 7) [(6, 60), (7, 65536)] { : Machine.Seq }).tick tt;
      Ready (st (fI 7) [(6, 60), (7, 65536)] { : Machine.Seq }) ∧ Executes w (↑2) 97 (fI 7) ∧
      ((fI 7).imm.testBit 3 = false ∨ w.dbaseOk ↑2 = true) ∧ w.dramWaits (8 + ↑2) = false ∧
      (((w.put (R.FROND_ADDR_LO.ADDR_LO ((fI 7).imm % 2) ((fI 7).imm / 2 % 4)) ((if (fI 7).imm.testBit 3 = true then w.dbaseAddr (↑2) (w.greg (↑2) (fI 7).a) else frondBase + w.greg (↑2) (fI 7).a) / 64)).put (R.FROND_ADDR_HI.ADDR_HI ((fI 7).imm % 2) ((fI 7).imm / 2 % 4)) ((if (fI 7).imm.testBit 3 = true then w.dbaseAddr (↑2) (w.greg (↑2) (fI 7).a) else frondBase + w.greg (↑2) (fI 7).a) / 2 ^ 32)).put (R.FROND_GEN_EXP.GEN_EXP ((fI 7).imm % 2) ((fI 7).imm / 2 % 4)) (w.greg (↑2) (fI 7).b)).frondAddrOk (if (fI 7).imm.testBit 3 = true then w.dbaseAddr (↑2) (w.greg (↑2) (fI 7).a) else frondBase + w.greg (↑2) (fI 7).a) = false) ∧
    (let w := (st (fI 8) [(6, 60), (7, 65536)] { : Machine.Seq }).tick tt;
      Ready (st (fI 8) [(6, 60), (7, 65536)] { : Machine.Seq }) ∧ Executes w (↑2) 97 (fI 8) ∧
      (fI 8).imm.testBit 3 = true ∧ w.dbaseOk ↑2 = false) ∧
    (Ready ((st (I 98 0 0 0 (1 + 2 * 16 + 64)) [] { : Machine.Seq }).setFlag (R.HEAD_CTL.SCAN_EN 1)) ∧
      Executes (((st (I 98 0 0 0 (1 + 2 * 16 + 64)) [] { : Machine.Seq }).setFlag (R.HEAD_CTL.SCAN_EN 1)).tick tt) (↑2) 98 (I 98 0 0 0 (1 + 2 * 16 + 64)) ∧
      (I 98 0 0 0 (1 + 2 * 16 + 64)).imm.testBit 8 = false ∧ (I 98 0 0 0 (1 + 2 * 16 + 64)).imm / 2 % 32 ≤ 16) ∧
    (Ready (st (I 98 0 0 0 (1 + 2 * 16 + 64 + 256)) [] { : Machine.Seq }) ∧
      Executes ((st (I 98 0 0 0 (1 + 2 * 16 + 64 + 256)) [] { : Machine.Seq }).tick tt) (↑2) 98 (I 98 0 0 0 (1 + 2 * 16 + 64 + 256)) ∧
      (I 98 0 0 0 (1 + 2 * 16 + 64 + 256)).imm.testBit 8 = true) ∧
    (let w := (st (hI 1) [(6, 4294967295)] { : Machine.Seq }).tick tt;
      Ready (st (hI 1) [(6, 4294967295)] { : Machine.Seq }) ∧ Executes w (↑2) 99 (hI 1) ∧ w.anyHead = false) ∧
    (let w := ((st (hI 1) [(6, 7)] { : Machine.Seq }).setFlag (R.HEAD_STATUS.RUNNING 1)).tick tt;
      Ready ((st (hI 1) [(6, 7)] { : Machine.Seq }).setFlag (R.HEAD_STATUS.RUNNING 1)) ∧ Executes w (↑2) 99 (hI 1) ∧
      w.anyHead = true ∧ w.get R.SO_CFG.HEAD_LOCK ≠ (hI 1).imm % 2) ∧
    (Ready (st (eI 63) [(6, 7)] { : Machine.Seq }) ∧
      Executes ((st (eI 63) [(6, 7)] { : Machine.Seq }).tick tt) (↑2) 128 (eI 63) ∧ (eI 63).imm / 2 % 64 < 32) ∧
    (Ready (st (eI 127) [(6, 7)] { : Machine.Seq }) ∧
      Executes ((st (eI 127) [(6, 7)] { : Machine.Seq }).tick tt) (↑2) 128 (eI 127) ∧ (eI 127).imm / 2 % 64 = 63) ∧
    (Ready (st (eI 65) [(6, 7)] { : Machine.Seq }) ∧
      Executes ((st (eI 65) [(6, 7)] { : Machine.Seq }).tick tt) (↑2) 128 (eI 65) ∧ 32 ≤ (eI 65).imm / 2 % 64 ∧
      (eI 65).imm / 2 % 64 < 63) ∧
    (Ready (st (oI 127 6) [(6, 15)] { : Machine.Seq }) ∧
      Executes ((st (oI 127 6) [(6, 15)] { : Machine.Seq }).tick tt) (↑2) 129 (oI 127 6) ∧
      (oI 127 6).imm.testBit 7 = false) ∧
    (let w := ((st (oI 191 0) [] { : Machine.Seq }).put R.HOP_CFG.HOP_MASK 0).tick tt;
      Ready ((st (oI 191 0) [] { : Machine.Seq }).put R.HOP_CFG.HOP_MASK 0) ∧ Executes w (↑2) 129 (oI 191 0) ∧
      (oI 191 0).imm.testBit 7 = true ∧
      nextCode (w.get R.HOP_CFG.HOP_MASK) (w.get (regionField true ((oI 191 0).imm / 64 % 2) ((oI 191 0).imm % 64))) = none) ∧
    (let w := (st aI [(6, 7), (8, 9)] { : Machine.Seq }).tick tt; Ready (st aI [(6, 7), (8, 9)] { : Machine.Seq }) ∧
      Executes w (↑2) 160 aI ∧ w.tb.anchors.length < 8) ∧
    (let w := { (st aI [(6, 7), (8, 9)] { : Machine.Seq }) with tb := { anchors := List.replicate 8 { label := 3, at_ := 4 : Anchor } : TimeBase } : State }.tick tt;
      Ready { (st aI [(6, 7), (8, 9)] { : Machine.Seq }) with tb := { anchors := List.replicate 8 { label := 3, at_ := 4 : Anchor } : TimeBase } : State } ∧
      Executes w (↑2) 160 aI ∧ 8 ≤ w.tb.anchors.length) ∧
    (Ready (st tI [(6, 7), (8, 9)] { : Machine.Seq }) ∧
      Executes ((st tI [(6, 7), (8, 9)] { : Machine.Seq }).tick tt) (↑2) 161 tI) ∧
    (Ready (st kI [(6, 7), (8, 9)] { : Machine.Seq }) ∧
      Executes ((st kI [(6, 7), (8, 9)] { : Machine.Seq }).tick tt) (↑2) 176 kI) ∧
    (Ready (st sI [(6, 7), (8, 9)] { : Machine.Seq }) ∧
      Executes ((st sI [(6, 7), (8, 9)] { : Machine.Seq }).tick tt) (↑2) 192 sI) ∧
    (Ready (st rI [(6, 7), (8, 9)] { : Machine.Seq }) ∧
      Executes ((st rI [(6, 7), (8, 9)] { : Machine.Seq }).tick tt) (↑2) 193 rI) :=
  ⟨⟨ready_of _ (by decide +kernel), executes_of _ _ _ _ (by decide +kernel), by decide +kernel⟩,
   ⟨ready_of _ (by decide +kernel), executes_of _ _ _ _ (by decide +kernel), by decide +kernel⟩,
   ⟨ready_of _ (by decide +kernel), executes_of _ _ _ _ (by decide +kernel), by decide +kernel⟩,
   ⟨ready_of _ (by decide +kernel), executes_of _ _ _ _ (by decide +kernel), by decide +kernel⟩,
   ⟨ready_of _ (by decide +kernel), executes_of _ _ _ _ (by decide +kernel), by decide +kernel⟩,
   ⟨ready_of _ (by decide +kernel), executes_of _ _ _ _ (by decide +kernel)⟩,
   ⟨ready_of _ (by decide +kernel), by decide +kernel⟩,
   ⟨ready_of _ (by decide +kernel), executes_of _ _ _ _ (by decide +kernel), by decide +kernel⟩,
   ⟨ready_of _ (by decide +kernel), executes_of _ _ _ _ (by decide +kernel), by decide +kernel⟩,
   ⟨ready_of _ (by decide +kernel), executes_of _ _ _ _ (by decide +kernel), by decide +kernel⟩,
   ⟨ready_of _ (by decide +kernel), executes_of _ _ _ _ (by decide +kernel), by decide +kernel⟩,
   ⟨ready_of _ (by decide +kernel), executes_of _ _ _ _ (by decide +kernel), by decide +kernel⟩,
   ⟨ready_of _ (by decide +kernel), executes_of _ _ _ _ (by decide +kernel), by decide +kernel⟩,
   ⟨ready_of _ (by decide +kernel), executes_of _ _ _ _ (by decide +kernel), by decide +kernel⟩,
   ⟨ready_of _ (by decide +kernel), executes_of _ _ _ _ (by decide +kernel), by decide +kernel⟩,
   ⟨ready_of _ (by decide +kernel), executes_of _ _ _ _ (by decide +kernel), by decide +kernel⟩,
   ⟨ready_of _ (by decide +kernel), executes_of _ _ _ _ (by decide +kernel), by decide +kernel⟩,
   ⟨ready_of _ (by decide +kernel), executes_of _ _ _ _ (by decide +kernel), by decide +kernel⟩,
   ⟨ready_of _ (by decide +kernel), executes_of _ _ _ _ (by decide +kernel), by decide +kernel⟩,
   ⟨ready_of _ (by decide +kernel), executes_of _ _ _ _ (by decide +kernel), by decide +kernel⟩,
   ⟨ready_of _ (by decide +kernel), executes_of _ _ _ _ (by decide +kernel), by decide +kernel⟩,
   ⟨ready_of _ (by decide +kernel), executes_of _ _ _ _ (by decide +kernel)⟩,
   ⟨ready_of _ (by decide +kernel), executes_of _ _ _ _ (by decide +kernel)⟩,
   ⟨ready_of _ (by decide +kernel), executes_of _ _ _ _ (by decide +kernel)⟩,
   ⟨ready_of _ (by decide +kernel), executes_of _ _ _ _ (by decide +kernel)⟩⟩

end SalradMemory

/-! Emitter drive. -/

namespace Drive

def tt : Nat := 128 * 5000
def D0 : State := T [(R.TW_STATUS.OWN_HELD, 1), (R.TB_STATUS.LOCKED, 1), (R.DRV_CTL.RAMP_LINES 1, 4), (R.DRV_CTL.RAMP_START 1, 16)]
def D1 : State := D0.setFlag (R.DRV_CTL.DRV_EN 1)
def D2 : State := D1.setFlag (R.DRV_STATUS.DRV_READY 1)
def ti : Nat := 128 * 100000
def D3 : State := D2.put (R.DRV_IDLE.IDLE_XCHG 1) 0
def X0 : Exchange := { phi := tt, kind := .regular }
def DX (x : Exchange) : State := ((D2.put (R.BANK_AMP.REQ 1 31) 4095).put (R.BANK_CAL.SLOPE 1 31) 65535).put (R.BANK_CAL.THRESH 1 31) 100 |>.setDrv 1 { x := some x, up := some 2 }
def X1 : Exchange := { X0 with retry := true }
def X2 : Exchange := { X0 with sent := true }
def X3 : Exchange := { X2 with mark := some (tt + 228000), timed := some 31, judged := true }
def X5 : Exchange := { X2 with mark := some (tt + 228000), timed := some 31 }
def DE : State := ((DX X5).put R.IU_STATUS.IU_STATE 2).setFlag R.IU_STATUS.IU_OWNER
def rep (sof seq mon stat cap : Nat) : BitVec 80 := let w := sof + 2^8 * seq + 2^12 * mon + 2^24 * stat + 2^32 * cap; BitVec.ofNat 80 (w + 2^72 * crc8 (bytesOf 9 w))
def capw : Nat := 1 + 16 * 80 + 2^12 + 2^16 + 2^24
def XR : Exchange := { X5 with result := some 60000 }
def DR : State := ((DX XR).setBank 1 31 { echo := true, seq := 3 })
def DA : State := (List.range 32).foldl (fun s b => s.setBank 1 b { replied := true }) (DX X5)
def X6 : Exchange := { X5 with retry := true }
def D6 : State := ((DX X6).setBank 1 0 { inRetry := true })
def SL : State := (T [(R.TW_STATUS.TW_STATE, 3), (R.DRV_CTL.DRV_EN 1, 1), (R.TB_STATUS.LOCKED, 1), (R.DRV_CABLE_CFG.CABLE_JUMP_THR 1, 50), (R.DRV_CABLE_CFG.CABLE_SHIFT 1, 2)]).setBank 1 31 { capSet := true }
def SV (v : Nat) (j : Nat) : State := ((SL.setFlag (R.BANK_CABLE.CABLE_VALID 1 31)).put (R.BANK_CABLE.CABLE_DLY 1 31) v).setBank 1 31 { jumps := j }
def RH (x : Head) : State := ((D3.put (R.HEAD_STATUS.RUNNING 1) 1).put (R.HEAD_STATUS.FORMAT_NOW 1) 1).setHead 1 x

theorem wit_DriveExchanges :
    (let w := D0.tick tt; Ready D0 ∧ Admits w 4 (R.DRV_CTL.addr ↑1) ∧ w.running ↑1 = false ∧ w.drvEn ↑1 = false) ∧
    (D1.drvEn ↑1 = true ∧ D1.ownHeld = true) ∧
    ((D1.clrFlag R.TW_STATUS.OWN_HELD).drvEn ↑1 = true ∧ (D1.clrFlag R.TW_STATUS.OWN_HELD).ownHeld = false) ∧
    (let w := D2.tick tt; Ready D2 ∧ Admits w 4 (R.DRV_CTL.addr ↑1) ∧ w.drvEn ↑1 = true ∧ (w.drv ↑1).down = none) ∧
    (let w := D3.tick ti; Ready D3 ∧ w.phiDue ↑1 = some ti ∧ w.running ↑1 = false) ∧
    (D3.drvEn ↑1 = true ∧ D3.drvReady ↑1 = true ∧ D3.ownHeld = true ∧ (D3.drv ↑1).x = none) ∧
    ((((D3.clrFlag R.TW_STATUS.OWN_HELD).drv ↑1).x ≠ none ∨ (D3.clrFlag R.TW_STATUS.OWN_HELD).ownHeld = false ∨ (D3.clrFlag R.TW_STATUS.OWN_HELD).drvEn ↑1 = false ∨ (D3.clrFlag R.TW_STATUS.OWN_HELD).drvReady ↑1 = false)) ∧
    (let w := (DX X0).tick (tt + 128000); Ready (DX X0) ∧ (w.drv ↑1).x = some X0 ∧ X0.sent = false ∧
      (X0.phi + 128000 * if X0.retry = true then 11 else 1) ≤ w.now ∧ X0.retry = false ∧ w.softEnds ↑1 = false) ∧
    (let w := ((DX X0).setDrv 1 { x := some X0, down := some 4 : DriveHead }).tick (tt + 128000);
      Ready ((DX X0).setDrv 1 { x := some X0, down := some 4 : DriveHead }) ∧ (w.drv ↑1).x = some X0 ∧ X0.sent = false ∧
      (X0.phi + 128000 * if X0.retry = true then 11 else 1) ≤ w.now ∧ X0.retry = false ∧ w.softEnds ↑1 = true) ∧
    (let w := ((DX X1).setBank 1 5 { inRetry := true : Bank }).tick (tt + 128000 * 11);
      Ready ((DX X1).setBank 1 5 { inRetry := true : Bank }) ∧ (w.drv ↑1).x = some X1 ∧ X1.sent = false ∧
      (X1.phi + 128000 * if X1.retry = true then 11 else 1) ≤ w.now ∧ X1.retry = true) ∧
    (let w := (DX X2).tick (tt + 371200); Ready (DX X2) ∧ (w.drv ↑1).x = some X2 ∧ X2.sent = true ∧ X2.mark = none ∧
      (X2.phi + 128 * if X2.retry = true then 12900 else 2900) ≤ w.now) ∧
    (let w := ((DX X3).setBank 1 5 { inRetry := true : Bank }).tick (tt + 1280000);
      Ready ((DX X3).setBank 1 5 { inRetry := true : Bank }) ∧ (w.drv ↑1).x = some X3 ∧ X3.judged = true ∧
      (X3.phi + 128000 * if X3.retry = true then 20 else 10) ≤ w.now ∧ X3.retry = false ∧
      (w.ownHeld && (List.range 32).any fun b => (w.bank (↑1) b).inRetry) = true) ∧
    (let w := (DX X3).tick (tt + 1280000); Ready (DX X3) ∧ (w.drv ↑1).x = some X3 ∧ X3.judged = true ∧
      (X3.phi + 128000 * if X3.retry = true then 20 else 10) ≤ w.now ∧
      (X3.retry = true ∨ (w.ownHeld && (List.range 32).any fun b => (w.bank (↑1) b).inRetry) = false)) ∧
    (let w := (RH { opened := true, lines := 1 : Head }).tick (128 * 50000000);
      Ready (RH { opened := true, lines := 1 : Head }) ∧ w.phiDue ↑1 = some 921600000 ∧ w.running ↑1 = true ∧
      (w.head ↑1).opened = true ∧ (w.head ↑1).startPhi = false) ∧
    (let w := (RH { startPhi := true : Head }).tick (128 * 50000000); Ready (RH { startPhi := true : Head }) ∧
      w.phiDue ↑1 = some (128 * 50000000) ∧ w.running ↑1 = true ∧ (w.head ↑1).startPhi = true) :=
  ⟨⟨ready_of _ (by decide +kernel), admits_core _ _ (by decide +kernel), by decide +kernel⟩,
   (by decide +kernel),
   (by decide +kernel),
   ⟨ready_of _ (by decide +kernel), admits_core _ _ (by decide +kernel), by decide +kernel⟩,
   ⟨ready_of _ (by decide +kernel), by decide +kernel⟩,
   (by decide +kernel),
   (by decide +kernel),
   ⟨ready_of _ (by decide +kernel), by decide +kernel⟩,
   ⟨ready_of _ (by decide +kernel), by decide +kernel⟩,
   ⟨ready_of _ (by decide +kernel), by decide +kernel⟩,
   ⟨ready_of _ (by decide +kernel), by decide +kernel⟩,
   ⟨ready_of _ (by decide +kernel), by decide +kernel⟩,
   ⟨ready_of _ (by decide +kernel), by decide +kernel⟩,
   ⟨ready_of _ (by decide +kernel), by decide +kernel⟩,
   ⟨ready_of _ (by decide +kernel), by decide +kernel⟩⟩

theorem wit_RepliesJudged :
    (let w := DE.tick (tt + 228000 + 25600); Ready DE ∧ (w.drv ↑1).x = some X5 ∧ X5.mark = some (tt + 228000) ∧
      w.inAttempt (↑1) (↑31) X5 = true ∧ (w.bank ↑1 ↑31).echo = false ∧ (w.bank ↑1 ↑31).replied = false ∧
      tt + 228000 + 25600 ≤ w.now ∧ w.now ≤ tt + 228000 + 166400 ∧ (X5.timed = some ↑31 ∧ X5.timedRetry = X5.retry ∧
      w.flag R.IU_STATUS.IU_OWNER = true ∧ w.get R.IU_STATUS.IU_STATE = 2)) ∧
    (let w := DE.tick (tt + 228000 + 166400); Ready DE ∧ (w.drv ↑1).x = some X5 ∧ X5.mark = some (tt + 228000) ∧
      w.inAttempt (↑1) (↑30) X5 = true ∧ (w.bank ↑1 ↑30).echo = false ∧ (w.bank ↑1 ↑30).replied = false ∧
      tt + 228000 + 25600 ≤ w.now ∧ w.now ≤ tt + 228000 + 166400 ∧ (¬(X5.timed = some ↑30 ∧ X5.timedRetry = X5.retry ∧
      w.flag R.IU_STATUS.IU_OWNER = true ∧ w.get R.IU_STATUS.IU_STATE = 2))) ∧
    (let w := DE.tick (tt + 228000 + 25599); Ready DE ∧ (w.drv ↑1).x = some X5 ∧ X5.mark = some (tt + 228000) ∧
      (w.now < tt + 228000 + 25600 ∨ tt + 228000 + 166400 < w.now ∨ w.inAttempt (↑1) (↑31) X5 = false ∨ (w.bank ↑1 ↑31).echo = true ∨ (w.bank ↑1 ↑31).replied = true)) ∧
    (let w := DR.tick (tt + 228000 + 448000); Ready DR ∧ (w.drv ↑1).x = some XR ∧ XR.mark = some (tt + 228000) ∧
      XR.judged = false ∧ w.inAttempt (↑1) (↑31) XR = true ∧ (w.bank ↑1 ↑31).echo = true ∧
      (w.bank ↑1 ↑31).replied = false ∧ w.now ≤ tt + 228000 + 448000 ∧
      (rep 91 3 1000 12 (capw + 2 ^ 40 * 0)).toNat % 256 = 91 ∧
      (rep 91 3 1000 12 (capw + 2 ^ 40 * 0)).toNat / 2 ^ 8 % 16 = (w.bank ↑1 ↑31).seq ∧
      (rep 91 3 1000 12 (capw + 2 ^ 40 * 0)).toNat / 2 ^ 72 = crc8 (bytesOf 9 (rep 91 3 1000 12 (capw + 2 ^ 40 * 0)).toNat) ∧
      (rep 91 3 1000 12 (capw + 2 ^ 40 * 0)).toNat.testBit 28 = false) ∧
    (let w := DR.tick (tt + 228000 + 448000); Ready DR ∧ (w.drv ↑1).x = some XR ∧ XR.mark = some (tt + 228000) ∧
      XR.judged = false ∧ w.inAttempt (↑1) (↑31) XR = true ∧ (w.bank ↑1 ↑31).echo = true ∧
      (w.bank ↑1 ↑31).replied = false ∧ w.now ≤ tt + 228000 + 448000 ∧
      ((rep 91 2 1000 1 capw).toNat % 256 ≠ 91 ∨ (rep 91 2 1000 1 capw).toNat / 2 ^ 8 % 16 ≠ (w.bank ↑1 ↑31).seq ∨ (rep 91 2 1000 1 capw).toNat / 2 ^ 72 ≠ crc8 (bytesOf 9 (rep 91 2 1000 1 capw).toNat) ∨ (rep 91 2 1000 1 capw).toNat.testBit 28 = true)) ∧
    (let w := DA.tick (tt + 228000 + 448000); Ready DA ∧ (w.drv ↑1).x = some X5 ∧ X5.mark = some (tt + 228000) ∧
      X5.judged = false ∧ tt + 228000 + 448000 ≤ w.now ∧
      (∀ (b : Nat), b < 32 → w.inAttempt (↑1) b X5 = true → (w.bank (↑1) b).replied = true)) ∧
    (let w := DE.tick (tt + 228000 + 448000); Ready DE ∧ (w.drv ↑1).x = some X5 ∧ X5.mark = some (tt + 228000) ∧
      X5.judged = false ∧ tt + 228000 + 448000 ≤ w.now ∧ X5.retry = false ∧ X5.kind ≠ XKind.takeOver ∧
      (w.bank (↑1) 31).replied = false ∧ (∀ (k : Nat), k < 32 → (w.bank (↑1) k).mute = false)) ∧
    (let w := D6.tick (tt + 228000 + 448000); Ready D6 ∧ (w.drv ↑1).x = some X6 ∧ X6.mark = some (tt + 228000) ∧
      X6.judged = false ∧ tt + 228000 + 448000 ≤ w.now) ∧
    (D6.flag R.DRV_FAIL.FAILED = false ∧ D6.guardState ≠ 4) ∧
    ((D6.put R.GUARD_STATUS.STATE 4).flag R.DRV_FAIL.FAILED = false) ∧
    (((DR.bank ↑1 ↑31).firedPrev = false ∨ DR.monOk (↑1) (↑31) 1000 = true) ∧ 0 % 4 = 0 ∧
      5 ≠ DR.get (R.BANK_CAP.CAP ↑1 ↑31)) ∧
    (((DR.bank ↑1 ↑31).firedPrev = false ∨ DR.monOk (↑1) (↑31) 1000 = true) ∧ Nat.testBit 3 0 = true) ∧
    (((DR.bank ↑1 ↑31).firedPrev = false ∨ DR.monOk (↑1) (↑31) 1000 = true) ∧ Nat.testBit 2 0 = false ∧
      Nat.testBit 2 1 = true) ∧
    (((DR.setBank 1 31 { reqPrev := 9, firedPrev := true : Bank }).bank ↑1 ↑31).firedPrev = true ∧
      (DR.setBank 1 31 { reqPrev := 9, firedPrev := true : Bank }).monOk (↑1) (↑31) 1000 = false) ∧
    (let w := SL.tick (128 * 6000); Ready SL ∧ ((w.standby = true ∨ w.twState = 2) ∧ w.ownHeld = false ∧
      w.drvEn ↑1 = true)) ∧
    (SL.flag (R.BANK_CABLE.CABLE_VALID ↑1 ↑31) = false) ∧
    ((SV 65490 1).flag (R.BANK_CABLE.CABLE_VALID ↑1 ↑31) = true ∧
      (SV 65490 1).get (R.BANK_CABLE.CABLE_DLY ↑1 ↑31) ≤ 65535 ∧
      65535 - (SV 65490 1).get (R.BANK_CABLE.CABLE_DLY ↑1 ↑31) ≤ (SV 65490 1).get (R.DRV_CABLE_CFG.CABLE_JUMP_THR ↑1)) ∧
    ((SV 65535 1).flag (R.BANK_CABLE.CABLE_VALID ↑1 ↑31) = true ∧
      65490 ≤ (SV 65535 1).get (R.BANK_CABLE.CABLE_DLY ↑1 ↑31) ∧
      (SV 65535 1).get (R.BANK_CABLE.CABLE_DLY ↑1 ↑31) - 65490 ≤ (SV 65535 1).get (R.DRV_CABLE_CFG.CABLE_JUMP_THR ↑1)) ∧
    ((SV 65535 1).flag (R.BANK_CABLE.CABLE_VALID ↑1 ↑31) = true ∧
      ((SV 65535 1).get (R.DRV_CABLE_CFG.CABLE_JUMP_THR ↑1) < 65440 - (SV 65535 1).get (R.BANK_CABLE.CABLE_DLY ↑1 ↑31) ∨ (SV 65535 1).get (R.DRV_CABLE_CFG.CABLE_JUMP_THR ↑1) < (SV 65535 1).get (R.BANK_CABLE.CABLE_DLY ↑1 ↑31) - 65440)) ∧
    ((-1 < 0 ∨ 65535 < -1)) ∧
    (let w := (SL.put R.TW_STATUS.TW_STATE 1).tick (128 * 6000); Ready (SL.put R.TW_STATUS.TW_STATE 1) ∧
      (¬((w.standby = true ∨ w.twState = 2) ∧ w.ownHeld = false ∧ w.drvEn ↑1 = true))) :=
  ⟨⟨ready_of _ (by decide +kernel), by decide +kernel⟩,
   ⟨ready_of _ (by decide +kernel), by decide +kernel⟩,
   ⟨ready_of _ (by decide +kernel), by decide +kernel⟩,
   ⟨ready_of _ (by decide +kernel), by decide +kernel⟩,
   ⟨ready_of _ (by decide +kernel), by decide +kernel⟩,
   ⟨ready_of _ (by decide +kernel), by decide +kernel⟩,
   ⟨ready_of _ (by decide +kernel), by decide +kernel⟩,
   ⟨ready_of _ (by decide +kernel), by decide +kernel⟩,
   (by decide +kernel),
   (by decide +kernel),
   (by decide +kernel),
   (by decide +kernel),
   (by decide +kernel),
   (by decide +kernel),
   ⟨ready_of _ (by decide +kernel), by decide +kernel⟩,
   (by decide +kernel),
   (by decide +kernel),
   (by decide +kernel),
   (by decide +kernel),
   (by decide +kernel),
   ⟨ready_of _ (by decide +kernel), by decide +kernel⟩⟩

end Drive

/-! The emission guard. -/

namespace Guard

def tt : Nat := 128 * 5000
def G0 : State := { T [(R.TW_STATUS.OWN_HELD, 1), (R.TW_STATUS.TW_STATE, 4), (R.GUARD_STATUS.STATE, 2), (R.GUARD_STATUS.LIM_PERMIT, 1), (R.GUARD_STATUS.PROC_PERMIT, 1), (R.GIN_CFG_NOW.USED, 15), (R.GIN_CFG_NOW.AUTO, 1)] with guard := { State.reset.guard with gin := [(0, { a := true, b := false }), (1, { a := true, b := false }), (2, { a := true, b := false }), (3, { a := true, b := false })] } }
def Gd : State := G0.setGin 3 { a := true, b := true, disFrom := some 7 }
def td : Nat := 7 + 128000000 * Gd.ginDisc 3 + 128000
def Ga : State := (G0.setGin 3 { a := true, b := false, disFrom := some 7, agreeFrom := some 256007 }).put R.GUARD_STATUS.STATE 1 |>.clrFlag R.GUARD_STATUS.LIM_PERMIT |>.clrFlag R.GUARD_STATUS.PROC_PERMIT
def Ga1 : State := { Ga with guard := { Ga.guard with holds := [(2, 3)], demanded := [3] } }
def Ga2 : State := { Ga with guard := { Ga.guard with holds := [(2, 3)], demanded := [0] } }
def M0 : State := { G0 with guard := { G0.guard with table := { polyMin := 5, polyIdxMax := 100, elevSpan := 0, elevWin := 3 }, motion := [(0, { windows := [5, 6, 7], lastIdx := some 5 })] } }
def M0w (k i : Nat) : State := M0.setProof 0 { edges := k, windows := [5, 6, 7], procWindows := [5, 6, 7], lastIdx := some i, pos := -k }
def B0 (e : Nat) : State := { (G0.setFlag R.GUARD_STATUS.TABLE_VALID) with guard := { G0.guard with table := { budgets := [((32 + 31) * 16, { b10 := 1000, bline := 100, b1s := 10})] }, reports := [(63, [⟨e, 4⟩])] } }
def PID : Identity := { variant := 8, unit := true, fw := 1, cfg := 0, pair := 0, family := 0, seed := 0 }
def P0 : State := { G0 with twin := { G0.twin with partner := some PID, identAt := 0 } }
def R0 : State := { (((G0.put R.GUARD_STATUS.STATE 3).clrFlag R.GUARD_STATUS.LIM_PERMIT).clrFlag R.GUARD_STATUS.PROC_PERMIT) with guard := { G0.guard with rampDue := true } }
def F0 : State := { (R0.put R.GUARD_STATUS.STATE 4) with guard := { R0.guard with selfTest := true, latched := [(3, 1), (6, 40)], limShots := [(1, [⟨3, 4⟩])] } }
def F1 : State := { F0 with guard := { F0.guard with latched := [(11, 0)] } }

theorem wit_GuardInputsAndStates :
    (let w := G0.tick (tt + 25600); Ready G0 ∧ w.ginUsed ↑3 = true ∧ w.guardState = 2 ∧ w.safe = false ∧
      (false = false ∨ true = true)) ∧
    (Ready (G0.put R.GIN_CFG_NOW.USED 7) ∧ ((G0.put R.GIN_CFG_NOW.USED 7).tick (tt + 25600)).ginUsed ↑3 = false) ∧
    (let w := G0.tick (tt + 25600); Ready G0 ∧ w.ginUsed ↑3 = true ∧ w.guardState = 2 ∧ w.safe = false ∧ true = true ∧
      false = false ∧ (w.ginp ↑3).disFrom = none ∧
      (w.partnerValid = false ∨ w.guard.twinGin = none ∨ ∀ (l : List (Bool × Bool)), w.guard.twinGin = some l → ∀ (k : Nat), k < 4 → w.ginUsed k = true → l.getD k (false, false) = if k = ↑3 then (true, false) else ((w.ginp k).a, (w.ginp k).b))) ∧
    (let w := Gd.tick (td - 25600 + 25600); Ready Gd ∧ w.ginUsed ↑3 = true ∧ w.guardState = 2 ∧ w.safe = false ∧
      false = false ∧ (w.ginp ↑3).disFrom = some 7 ∧ 7 + 128000000 * w.ginDisc ↑3 + 128000 ≤ w.now) ∧
    ({ G0 with su := { G0.su with power := Power.shutdown : Startup } : State }.su.power ≠ Power.running) ∧
    (let w := Gd.tick td; Ready Gd ∧ w.ginUsed ↑3 = true ∧ (w.ginp ↑3).disFrom = some 7 ∧
      (w.ginp ↑3).a = (w.ginp ↑3).b ∧ 7 + 128000000 * w.ginDisc ↑3 + 128000 ≤ w.now) ∧
    (let w := G0.tick tt; Ready G0 ∧
      (w.ginUsed ↑3 = false ∨ (w.ginp ↑3).disFrom = none ∨ (w.ginp ↑3).a ≠ (w.ginp ↑3).b)) ∧
    (let w := G0.tick tt; Ready G0 ∧ (w.ginUsed ↑3 = false ∨ (w.ginp ↑3).disFrom = none ∨ (w.ginp ↑3).agreeFrom = none)) ∧
    (let w := Gd.tick (td - 1); Ready Gd ∧ w.ginUsed ↑3 = true ∧ (w.ginp ↑3).disFrom = some 7 ∧
      (w.ginp ↑3).a = (w.ginp ↑3).b ∧ w.now < 7 + 128000000 * w.ginDisc ↑3 + 128000) ∧
    (let w := Ga1.tick (256007 + 128000000); Ready Ga1 ∧ w.ginUsed ↑3 = true ∧ (w.ginp ↑3).disFrom = some 7 ∧
      (w.ginp ↑3).agreeFrom = some 256007 ∧ 256007 + 128000000 ≤ w.now) ∧
    (G0.get R.GUARD_CAUSE.CAUSE = 0) ∧
    (G0.guardState ≠ 4) ∧
    (((G0.put R.GUARD_STATUS.STATE 4).put R.GUARD_CAUSE.CAUSE 5).get R.GUARD_CAUSE.CAUSE ≠ 0) ∧
    (G0.guardState = 2) ∧
    (Ga2.guardState ≠ 2) ∧
    (Ga2.guardState = 1 ∧ (∀ (k : Nat × Nat), k ∈ Ga2.guard.holds → k = (2, 3))) ∧
    (Ga1.guardState = 1 ∧ (∃ k, k ∈ Ga1.guard.holds ∧ k ≠ (2, 1))) ∧
    (G0.guardState ≠ 1) :=
  ⟨⟨ready_of _ (by decide +kernel), by decide +kernel⟩,
   ⟨ready_of _ (by decide +kernel), by decide +kernel⟩,
   ⟨ready_of _ (by decide +kernel), by decide +kernel⟩,
   ⟨ready_of _ (by decide +kernel), by decide +kernel⟩,
   (by decide +kernel),
   ⟨ready_of _ (by decide +kernel), by decide +kernel⟩,
   ⟨ready_of _ (by decide +kernel), by decide +kernel⟩,
   ⟨ready_of _ (by decide +kernel), by decide +kernel⟩,
   ⟨ready_of _ (by decide +kernel), by decide +kernel⟩,
   ⟨ready_of _ (by decide +kernel), by decide +kernel⟩,
   (by decide +kernel),
   (by decide +kernel),
   (by decide +kernel),
   (by decide +kernel),
   (by decide +kernel),
   (by decide +kernel),
   (by decide +kernel),
   (by decide +kernel)⟩

theorem wit_GuardChannels :
    (let w := M0.tick (128 * 100000); Ready M0 ∧
      (false && decide ((w.proof ↑0).winEnd + 12800000 ≤ w.now) || true && decide ((w.proof ↑0).procEnd + 12800000 ≤ w.now)) = true ∧
      (w.setProof ↑0 { (w.proof ↑0) with edges := if (false && decide ((w.proof ↑0).winEnd + 12800000 ≤ w.now)) = true then 0 else (w.proof ↑0).edges, windows := if (false && decide ((w.proof ↑0).winEnd + 12800000 ≤ w.now)) = true then List.take 4 ((w.proof ↑0).edges :: (w.proof ↑0).windows) else (w.proof ↑0).windows, pos := if (true && decide ((w.proof ↑0).procEnd + 12800000 ≤ w.now)) = true then w.geti (R.ENC_POS.value ↑0) else (w.proof ↑0).pos, procWindows := if (true && decide ((w.proof ↑0).procEnd + 12800000 ≤ w.now)) = true then List.take 4 ((sgn 32 (ofInt 32 (w.geti (R.ENC_POS.value ↑0) - (w.proof ↑0).pos))).natAbs :: (w.proof ↑0).procWindows) else (w.proof ↑0).procWindows, winEnd := if (false && decide ((w.proof ↑0).winEnd + 12800000 ≤ w.now)) = true then w.now else (w.proof ↑0).winEnd, procEnd := if (true && decide ((w.proof ↑0).procEnd + 12800000 ≤ w.now)) = true then w.now else (w.proof ↑0).procEnd : MotionProof }).proofOk ↑0 = bit (w.get R.GUARD_STATUS.MOTION_OK) ↑0) ∧
    (let w := M0.tick (128 * 99999); Ready M0 ∧ (true && decide ((w.proof ↑0).winEnd + 12800000 ≤ w.now)) = false ∧
      (true && decide ((w.proof ↑0).procEnd + 12800000 ≤ w.now)) = false) ∧
    (let w := (M0w 5 0).tick (128 * 100000); Ready (M0w 5 0) ∧
      (true && decide ((w.proof ↑0).winEnd + 12800000 ≤ w.now) || true && decide ((w.proof ↑0).procEnd + 12800000 ≤ w.now)) = true ∧
      (w.setProof ↑0 { (w.proof ↑0) with edges := if (true && decide ((w.proof ↑0).winEnd + 12800000 ≤ w.now)) = true then 0 else (w.proof ↑0).edges, windows := if (true && decide ((w.proof ↑0).winEnd + 12800000 ≤ w.now)) = true then List.take 4 ((w.proof ↑0).edges :: (w.proof ↑0).windows) else (w.proof ↑0).windows, pos := if (true && decide ((w.proof ↑0).procEnd + 12800000 ≤ w.now)) = true then w.geti (R.ENC_POS.value ↑0) else (w.proof ↑0).pos, procWindows := if (true && decide ((w.proof ↑0).procEnd + 12800000 ≤ w.now)) = true then List.take 4 ((sgn 32 (ofInt 32 (w.geti (R.ENC_POS.value ↑0) - (w.proof ↑0).pos))).natAbs :: (w.proof ↑0).procWindows) else (w.proof ↑0).procWindows, winEnd := if (true && decide ((w.proof ↑0).winEnd + 12800000 ≤ w.now)) = true then w.now else (w.proof ↑0).winEnd, procEnd := if (true && decide ((w.proof ↑0).procEnd + 12800000 ≤ w.now)) = true then w.now else (w.proof ↑0).procEnd : MotionProof }).proofOk ↑0 ≠ bit (w.get R.GUARD_STATUS.MOTION_OK) ↑0) ∧
    ((∃ n, n < 4 ∧
      ∃ d, { G0 with now := 128 * 10 ^ 9, guard := { G0.guard with twinDiffer := [(2, some 5)] : Guard } : State }.guard.twinDiffer.get none n = some d ∧
      d + 128000000 * { G0 with now := 128 * 10 ^ 9, guard := { G0.guard with twinDiffer := [(2, some 5)] : Guard } : State }.ginDisc n < { G0 with now := 128 * 10 ^ 9, guard := { G0.guard with twinDiffer := [(2, some 5)] : Guard } : State }.now)) ∧
    (Ready { G0 with guard := { G0.guard with missProc := 3 : Guard } : State }) ∧
    (Ready (B0 4) ∧ (∀ (p : Shot), p ∈ ((B0 4).tick tt).guard.reports.get [] (32 * ↑1 + ↑30) → p.at_ ≠ 4)) ∧
    (let w := (B0 1020).tick tt; Ready (B0 1020) ∧
      w.guard.reports.get [] (32 * ↑1 + ↑31) = [] ++ [{ at_ := 1020, eu := 4 : Shot }] ∧
      (∀ (q : Shot), q ∈ [] → q.at_ ≠ { at_ := 1020, eu := 4 : Shot }.at_) ∧
      (¬(102 * (w.budgets ↑1 ↑31).fst < 100 * (sums (recent (w.guard.procShots.get [] (32 * ↑1 + ↑31)) w.ns ++ [{ at_ := 1020, eu := 4 : Shot }]) (w.lineNs ↑1) w.ns).fst ∨ 102 * (w.budgets ↑1 ↑31).snd.fst < 100 * (sums (recent (w.guard.procShots.get [] (32 * ↑1 + ↑31)) w.ns ++ [{ at_ := 1020, eu := 4 : Shot }]) (w.lineNs ↑1) w.ns).snd.fst ∨ 102 * (w.budgets ↑1 ↑31).snd.snd < 100 * (sums (recent (w.guard.procShots.get [] (32 * ↑1 + ↑31)) w.ns ++ [{ at_ := 1020, eu := 4 : Shot }]) (w.lineNs ↑1) w.ns).snd.snd))) ∧
    (let w := { (B0 4) with guard := { (B0 4).guard with reports := [(63, [{ at_ := 3, eu := 1021 : Shot }, { at_ := 4, eu := 1021 : Shot }, { at_ := 4, eu := 1021 : Shot }])] : Guard } : State }.tick tt;
      Ready { (B0 4) with guard := { (B0 4).guard with reports := [(63, [{ at_ := 3, eu := 1021 : Shot }, { at_ := 4, eu := 1021 : Shot }, { at_ := 4, eu := 1021 : Shot }])] : Guard } : State } ∧
      w.guard.reports.get [] (32 * ↑1 + ↑31) = [{ at_ := 3, eu := 1021 : Shot }] ++ [{ at_ := 4, eu := 1021 : Shot }, { at_ := 4, eu := 1021 : Shot }] ∧
      (∀ (q : Shot), q ∈ [{ at_ := 3, eu := 1021 : Shot }] → q.at_ ≠ { at_ := 4, eu := 1021 : Shot }.at_) ∧
      (102 * (w.budgets ↑1 ↑31).fst < 100 * (sums (recent (w.guard.procShots.get [] (32 * ↑1 + ↑31)) w.ns ++ [{ at_ := 4, eu := 1021 : Shot }]) (w.lineNs ↑1) w.ns).fst ∨ 102 * (w.budgets ↑1 ↑31).snd.fst < 100 * (sums (recent (w.guard.procShots.get [] (32 * ↑1 + ↑31)) w.ns ++ [{ at_ := 4, eu := 1021 : Shot }]) (w.lineNs ↑1) w.ns).snd.fst ∨ 102 * (w.budgets ↑1 ↑31).snd.snd < 100 * (sums (recent (w.guard.procShots.get [] (32 * ↑1 + ↑31)) w.ns ++ [{ at_ := 4, eu := 1021 : Shot }]) (w.lineNs ↑1) w.ns).snd.snd)) ∧
    (let w := { G0 with guard := { G0.guard with differFrom := some 7 : Guard } : State }.tick (tt + 128000000);
      Ready { G0 with guard := { G0.guard with differFrom := some 7 : Guard } : State } ∧
      (¬∃ d, w.guard.differFrom = some d ∧ d + 128000000 < w.now ∧
      w.flag R.GUARD_STATUS.LIM_PERMIT ≠ w.flag R.GUARD_STATUS.PROC_PERMIT)) ∧
    (let w := ({ G0 with guard := { G0.guard with differFrom := some 7 : Guard } : State }.clrFlag R.GUARD_STATUS.LIM_PERMIT).tick (tt + 128000000);
      Ready ({ G0 with guard := { G0.guard with differFrom := some 7 : Guard } : State }.clrFlag R.GUARD_STATUS.LIM_PERMIT) ∧
      (∃ d, w.guard.differFrom = some d ∧ d + 128000000 < w.now ∧
      w.flag R.GUARD_STATUS.LIM_PERMIT ≠ w.flag R.GUARD_STATUS.PROC_PERMIT)) ∧
    (let w := G0.tick tt; Ready G0 ∧
      (w.putb R.GUARD_STATUS.EMEN_H_OUT !w.flag R.GUARD_STATUS.LIM_PERMIT) = w.putb R.GUARD_STATUS.EMEN_H_OUT !w.flag R.GUARD_STATUS.LIM_PERMIT) ∧
    (let w := G0.tick tt; Ready G0 ∧
      (w.putb R.GUARD_STATUS.EMEN_H_OUT !w.flag R.GUARD_STATUS.LIM_PERMIT) = w.putb R.GUARD_STATUS.EMEN_P_OUT !w.flag R.GUARD_STATUS.PROC_PERMIT) ∧
    (Ready G0 ∧ (G0.tick tt).partnerValid = false) ∧
    (let w := P0.tick tt; Ready P0 ∧ w.partnerValid = true ∧ w.safe = false ∧ true = true) ∧
    (let w := P0.tick tt; Ready P0 ∧ w.partnerValid = true ∧ w.safe = false ∧ false = false ∧
      (∀ (n : Nat), n < 4 → w.guard.twinDiffer.get none n = none)) ∧
    (let w := G0.tick tt; Ready G0 ∧ (∀ (v : Nat), v.testBit 0 = false → w.mayWrite 4 R.GUARD_CTL.addr v = true) ∧
      w.guardState = 2) ∧
    (let w := R0.tick tt; Ready R0 ∧ (∀ (v : Nat), v.testBit 0 = false → w.mayWrite 4 R.GUARD_CTL.addr v = true) ∧
      w.guardState = 3 ∧ (w.guard.holds = [] ∧ ∀ (n : Nat), n < 4 → w.ginUsed n = true → (w.ginp n).run = true)) ∧
    (let w := (R0.setGin 2 { : Gin }).tick tt; Ready (R0.setGin 2 { : Gin }) ∧
      (∀ (v : Nat), v.testBit 0 = false → w.mayWrite 4 R.GUARD_CTL.addr v = true) ∧ w.guardState ≠ 2 ∧
      (¬(w.guardState = 3 ∧ w.guard.holds = [] ∧ ∀ (n : Nat), n < 4 → w.ginUsed n = true → (w.ginp n).run = true))) ∧
    (let w := F0.tick tt; Ready F0 ∧ (∀ (v : Nat), v.testBit 1 = false → w.mayWrite 4 R.GUARD_CTL.addr v = true) ∧
      w.guardState = 4 ∧
      (∀ (c : Nat × Nat), c ∈ w.guard.latched → (guardRetest (w.asked 4 R.GUARD_CTL.GUARD_RESET 1)).causeGone c = true)) ∧
    (let w := F1.tick tt; Ready F1 ∧ (∀ (v : Nat), v.testBit 1 = false → w.mayWrite 4 R.GUARD_CTL.addr v = true) ∧
      (¬(w.guardState = 4 ∧
      ∀ (c : Nat × Nat), c ∈ w.guard.latched → (guardRetest (w.asked 4 R.GUARD_CTL.GUARD_RESET 1)).causeGone c = true))) ∧
    ({ F0 with guard := { F0.guard with latched := [(12, 1), (10, 0)], selfTest := false, readP := false : Guard } : State }.guard.readH = true) ∧
    (F0.guard.readP = true) ∧
    ((∀ (c : Nat × Nat), c ∈ F0.guard.latched → c.fst ≠ 8 ∧ c.fst ≠ 9 ∧ c.fst ≠ 12)) ∧
    ((¬∃ n, n < 4 ∧ ∃ d, G0.guard.twinDiffer.get none n = some d ∧ d + 128000000 * G0.ginDisc n < G0.now)) ∧
    (G0.guardState ≠ 4) :=
  ⟨⟨ready_of _ (by decide +kernel), by decide +kernel⟩,
   ⟨ready_of _ (by decide +kernel), by decide +kernel⟩,
   ⟨ready_of _ (by decide +kernel), by decide +kernel⟩,
   (by decide +kernel),
   (ready_of _ (by decide +kernel)),
   ⟨ready_of _ (by decide +kernel), by decide +kernel⟩,
   ⟨ready_of _ (by decide +kernel), by decide +kernel⟩,
   ⟨ready_of _ (by decide +kernel), by decide +kernel⟩,
   ⟨ready_of _ (by decide +kernel), by decide +kernel⟩,
   ⟨ready_of _ (by decide +kernel), by decide +kernel⟩,
   ⟨ready_of _ (by decide +kernel), by decide +kernel⟩,
   ⟨ready_of _ (by decide +kernel), by decide +kernel⟩,
   ⟨ready_of _ (by decide +kernel), by decide +kernel⟩,
   ⟨ready_of _ (by decide +kernel), by decide +kernel⟩,
   ⟨ready_of _ (by decide +kernel), by decide +kernel⟩,
   ⟨ready_of _ (by decide +kernel), fun _ _ => rfl, by decide +kernel⟩,
   ⟨ready_of _ (by decide +kernel), fun _ _ => rfl, by decide +kernel⟩,
   ⟨ready_of _ (by decide +kernel), fun _ _ => rfl, by decide +kernel⟩,
   ⟨ready_of _ (by decide +kernel), fun _ _ => rfl, by decide +kernel⟩,
   ⟨ready_of _ (by decide +kernel), fun _ _ => rfl, by decide +kernel⟩,
   (by decide +kernel),
   (by decide +kernel),
   (by decide +kernel),
   (by decide +kernel),
   (by decide +kernel)⟩

end Guard

/-! Scanner control. -/

namespace Motion

def tt : Nat := 128 * 25300
def L0 (mode : Nat) (l : List (Field × Nat)) : State := T ([(R.TB_STATUS.LOCKED, 1), (R.LOOP_STATUS.MODE_NOW 3, mode), (R.LOOP_CTL.MODE 3, mode)] ++ l)
def iN : Nat := 128 * 23000
def LL (g y : Int) : State := ((L0 3 [(R.LOOP_CTL.FB_SRC 2, 2), (R.KP.value 2 0, 2^32 - 50000), (R.KI.value 2 0, 70000), (R.KD.value 2 0, 3), (R.KF.value 2 0, 70000), (R.I_LIM.value 2 0, 1000), (R.U_LIM.U_MIN 2 0, 2^16 - 2000), (R.U_LIM.U_MAX 2 0, 1500), (R.LOOP_STATUS.MODE_NOW 2, 3)]).setLoop 2 { gen := { v := g * 65536 + 7, r := -70000 }, yPrev := 3, i := 123456 })
def CA (u : Option Int) : State := (L0 3 []).setLoop 3 { cmds := [(u, 640), (some 4, 999)] }
def EN : State := T [(R.ENC_CFG.DIR 1, 1), (R.ENC_POS.value 1, 2^31), (R.ENC_CFG.CPR 1, 100), (R.ENC_STATUS.QUAD_ERR_COUNT 1, 65535)]
def LC : State := L0 3 [(R.LOOP_CTL.FB_SRC 3, 4), (R.LOOP_CTL.FB_AUX 3, 1)]
def TR0 : State := (T [(R.TR_STATUS.TR_RUN, 1), (R.TR_WPTR.value, 65535), (R.TR_STATUS.TR_DONE, 1), (R.TR_CTL.TR_MODE, 1), (R.TR_POST.value, 0)])
def OS0 : OrderlyStop := { at_ := 1000 }
def OSs (x : OrderlyStop) : State := { (L0 3 []) with therm := { State.reset.therm with stop := some x } }
def SF0 : State := { (L0 3 [(R.RST_STATUS.SAFE, 1)]) with su := { State.reset.su with safeAt := some 77 } }
def OP : OrderlyStop := { OS0 with parkAt := some 5000 }
def APK : State := (List.range 8).foldl (fun s n => s.setFlag (R.LOOP_STATUS.PARKED n)) ((OSs OP).put R.MC_STATUS.PARKED_ALL 255)

theorem wit_LoopsSampled :
    (let w := (L0 3 []).tick tt; Ready (L0 3 []) ∧ w.sampleInst ↑3 = some iN ∧ (w.loop ↑3).sampled ≤ iN) ∧
    (let w := ((L0 3 []).setLoop 3 { sampled := iN + 1 : Loop }).tick tt;
      Ready ((L0 3 []).setLoop 3 { sampled := iN + 1 : Loop }) ∧ w.sampleInst ↑3 = some iN ∧ iN < (w.loop ↑3).sampled) ∧
    ((LL 10 0).loopMode ↑2 = 3 ∧ (LL 10 0).loopEnc ↑2 = some ↑2 ∧ ((LL 10 0).loop ↑2).blend = none ∧
      (LL 10 0).get (R.FOLLOW_MAX.value ↑2) = 0) ∧
    (let w := (CA (some (-5))).tick 639; Ready (CA (some (-5))) ∧ (w.loop ↑3).cmds = [(some (-5), 640), (some 4, 999)] ∧
      w.now < 640) ∧
    (let w := (CA (some (-5))).tick 640; Ready (CA (some (-5))) ∧ (w.loop ↑3).cmds = [(some (-5), 640), (some 4, 999)] ∧
      640 ≤ w.now ∧ (true = true ∨ some (-5) = none)) ∧
    (let w := (CA (some (-5))).tick 640; Ready (CA (some (-5))) ∧ (w.loop ↑3).cmds = [(some (-5), 640), (some 4, 999)] ∧
      some (-5) = some (-5) ∧ 640 ≤ w.now ∧ false = false) ∧
    (let w := EN.tick tt; Ready EN ∧ (w.enc ↑1).a ≠ true ∧ (w.enc ↑1).b ≠ true) ∧
    (let w := EN.tick tt; Ready EN ∧ ((w.enc ↑1).a ≠ true ∧ (w.enc ↑1).b = false ∨ (w.enc ↑1).a = true ∧
      (w.enc ↑1).b ≠ false)) ∧
    (let w := EN.tick tt; Ready EN ∧ (w.enc ↑1).a = false ∧ (w.enc ↑1).b = false) ∧
    (Ready EN ∧ (EN.tick tt).flag (R.ENC_CFG.IDX_POL ↑1) = false) ∧
    (let w := EN.tick tt; Ready EN ∧ w.flag (R.ENC_CFG.IDX_POL ↑1) = !true ∧ w.flag (R.ENC_STATUS.IDX_ERR ↑1) = false) ∧
    (Ready LC ∧ (LC.tick tt).loopConverts ↑3 = true) ∧
    (Ready LC ∧ (LC.tick tt).loopConverts ↑5 = false) ∧
    (Ready (L0 3 []) ∧ ((L0 3 []).tick (128 * 2999)).sampleInst ↑3 = none) ∧
    (-2 ^ 63 ≤ -70001 ∧ -70001 < 2 ^ 63) ∧
    (Ready (L0 3 []) ∧ (((L0 3 []).tick tt).loop ↑3).cmds = []) :=
  ⟨⟨ready_of _ (by decide +kernel), by decide +kernel⟩,
   ⟨ready_of _ (by decide +kernel), by decide +kernel⟩,
   (by decide +kernel),
   ⟨ready_of _ (by decide +kernel), by decide +kernel⟩,
   ⟨ready_of _ (by decide +kernel), by decide +kernel⟩,
   ⟨ready_of _ (by decide +kernel), by decide +kernel⟩,
   ⟨ready_of _ (by decide +kernel), by decide +kernel⟩,
   ⟨ready_of _ (by decide +kernel), by decide +kernel⟩,
   ⟨ready_of _ (by decide +kernel), by decide +kernel⟩,
   ⟨ready_of _ (by decide +kernel), by decide +kernel⟩,
   ⟨ready_of _ (by decide +kernel), by decide +kernel⟩,
   ⟨ready_of _ (by decide +kernel), by decide +kernel⟩,
   ⟨ready_of _ (by decide +kernel), by decide +kernel⟩,
   ⟨ready_of _ (by decide +kernel), by decide +kernel⟩,
   (by decide +kernel),
   ⟨ready_of _ (by decide +kernel), by decide +kernel⟩⟩

theorem wit_MovesTracesAndParks :
    (let w := (L0 3 []).tick tt; Ready (L0 3 []) ∧ Admits w 4 (R.SETPOINT.addr ↑3) ∧
      ((w.loopMode ↑3 = 1 ∨ w.loopMode ↑3 = 2 ∨ w.loopMode ↑3 = 3) ∧ w.flag R.MC_STATUS.PARK_REQ = false)) ∧
    (let w := (L0 4 []).tick tt; Ready (L0 4 []) ∧ Admits w 4 (R.SETPOINT.addr ↑3) ∧
      (¬((w.loopMode ↑3 = 1 ∨ w.loopMode ↑3 = 2 ∨ w.loopMode ↑3 = 3) ∧ w.flag R.MC_STATUS.PARK_REQ = false))) ∧
    (let w := (L0 3 []).tick tt; Ready (L0 3 []) ∧ Admits w 4 (R.LOOP_CTL.addr ↑3) ∧
      ((w.asked 4 (R.LOOP_CTL.RC_CLEAR ↑3) 1).reg (R.LOOP_CTL.addr ↑3) = w.reg (R.LOOP_CTL.addr ↑3) ∨ (w.asked 4 (R.LOOP_CTL.RC_CLEAR ↑3) 1).tooManyConversions = false)) ∧
    (Ready TR0 ∧ Admits (TR0.tick tt) 4 R.TR_CTL.addr) ∧
    (TR0.flag R.TR_STATUS.TR_RUN = true ∧ TR0.flag R.TR_STATUS.TR_TRIGGERED = false ∧ TR0.get R.TR_CTL.TR_TRIG = 0) ∧
    (let w := (OSs OS0).tick (128 * 201000); Ready (OSs OS0) ∧ w.therm.stop = some OS0 ∧ OS0.parkAt = none ∧
      OS0.at_ + 200000 ≤ w.ns) ∧
    (let w := SF0.tick (77 + 25600000); Ready SF0 ∧ w.therm.stop = none ∧ w.su.safeAt = some 77 ∧
      w.flag R.MC_STATUS.PARK_REQ = false ∧ 77 + 25600000 ≤ w.now) ∧
    (((L0 3 []).loopRuns ↑0 = false ∨ (L0 3 []).get (R.LOOP_STATUS.FAULT_CAUSE ↑0) ≠ 0)) ∧
    ((L0 3 []).loopRuns ↑3 = true ∧ (L0 3 []).get (R.LOOP_STATUS.FAULT_CAUSE ↑3) = 0 ∧
      ((L0 3 []).get (R.AMAX.value (↑3) 15) = 0 ∨ (L0 3 []).get (R.JMAX.value (↑3) 15) = 0)) ∧
    ((L0 3 [(R.AMAX.value 3 15, 2), (R.JMAX.value 3 15, 2), (R.TARGET.value 3 15, 2 ^ 32 - 5)]).loopRuns ↑3 = true ∧
      (L0 3 [(R.AMAX.value 3 15, 2), (R.JMAX.value 3 15, 2), (R.TARGET.value 3 15, 2 ^ 32 - 5)]).get (R.LOOP_STATUS.FAULT_CAUSE ↑3) = 0 ∧
      (L0 3 [(R.AMAX.value 3 15, 2), (R.JMAX.value 3 15, 2), (R.TARGET.value 3 15, 2 ^ 32 - 5)]).get (R.AMAX.value (↑3) 15) ≠ 0 ∧
      (L0 3 [(R.AMAX.value 3 15, 2), (R.JMAX.value 3 15, 2), (R.TARGET.value 3 15, 2 ^ 32 - 5)]).get (R.JMAX.value (↑3) 15) ≠ 0) ∧
    (let w := APK.tick (128 * 201000); Ready APK ∧ w.therm.stop = some OP ∧ OP.parkAt = some 5000 ∧
      (w.allParked = true ∨ 5000 + 1000000 * w.get R.THERM_CFG.PARK_MAX ≤ w.ns)) ∧
    (let w := ((OSs OP).put R.THERM_CFG.PARK_MAX 1).tick (128 * 5100); Ready ((OSs OP).put R.THERM_CFG.PARK_MAX 1) ∧
      w.therm.stop = some OP ∧ OP.parkAt = some 5000 ∧
      (¬(w.allParked = true ∨ 5000 + 1000000 * w.get R.THERM_CFG.PARK_MAX ≤ w.ns))) ∧
    (let w := ((SF0.put R.THERM_CFG.PARK_MAX 1).setFlag R.MC_STATUS.PARK_REQ).tick (128 * 1205000);
      Ready ((SF0.put R.THERM_CFG.PARK_MAX 1).setFlag R.MC_STATUS.PARK_REQ) ∧ w.therm.stop = none ∧
      w.su.safeAt = some 77 ∧ w.flag R.MC_STATUS.PARK_REQ = true ∧ (w.stream 1).closed = false ∧
      (w.allParked = true ∨ 77 / 128 + 200000 + 1000000 * w.get R.THERM_CFG.PARK_MAX ≤ w.ns)) ∧
    (let w := (OSs OP).tick (128 * 201000); Ready (OSs OP) ∧ w.therm.stop = some OP ∧
      (OP.parkAt ≠ none ∨ w.ns < OP.at_ + 200000)) ∧
    (let w := (L0 3 []).tick (128 * 100); Ready (L0 3 []) ∧ w.therm.stop = none ∧
      (w.su.safeAt = none ∨ w.flag R.MC_STATUS.PARK_REQ = true)) :=
  ⟨⟨ready_of _ (by decide +kernel), admits_core _ _ (by decide +kernel), by decide +kernel⟩,
   ⟨ready_of _ (by decide +kernel), admits_core _ _ (by decide +kernel), by decide +kernel⟩,
   ⟨ready_of _ (by decide +kernel), admits_core _ _ (by decide +kernel), by decide +kernel⟩,
   ⟨ready_of _ (by decide +kernel), admits_core _ _ (by decide +kernel)⟩,
   (by decide +kernel),
   ⟨ready_of _ (by decide +kernel), by decide +kernel⟩,
   ⟨ready_of _ (by decide +kernel), by decide +kernel⟩,
   (by decide +kernel),
   (by decide +kernel),
   (by decide +kernel),
   ⟨ready_of _ (by decide +kernel), by decide +kernel⟩,
   ⟨ready_of _ (by decide +kernel), by decide +kernel⟩,
   ⟨ready_of _ (by decide +kernel), by decide +kernel⟩,
   ⟨ready_of _ (by decide +kernel), by decide +kernel⟩,
   ⟨ready_of _ (by decide +kernel), by decide +kernel⟩⟩

end Motion

/-! The trunk: lanes. -/

namespace Lanes

def tt : Nat := 128 * 25300
def rnd (n seed : Nat) : List Bool := Id.run do
  let mut s := seed
  let mut r := []
  for _ in [0:n] do
    s := (s * 6364136223846793005 + 1442695040888963407) % 2^64
    -- biased: long runs
    r := (if (s / 2^40) % 40 = 0 then !(r.headD true) else r.headD true) :: r
  return r
def ls (st : Nat) (l : List (Field × Nat)) : State := T ([(R.TB_STATUS.LOCKED, 1), (R.LANE_STATUS.LSTATE 11, st), (R.LANE_STATUS.LSTATE 15, st)] ++ l)
def rx0 (l : Lane) : State := (ls 1 [(R.LANE_CTL.LANE_EN 11, 1)]).setLane 11 l
def pl : List Bool := rnd 256 5
def tb : State := rx0 { rxBits := true :: false :: (pl ++ [true]), hdrs := List.replicate 63 true }
def cap1 : Nat := 0x20 + 2^8 + 2^16 + 2^17 + 2^32 * 5 + 2^48 * 64 + 2^64 * 0x123456789ABCDEF0
def sl : State := (ls 3 [(R.LANE_CTL.TX_SLEEP_EN 11, 1), (R.LANE_CTL.LANE_EN 11, 1), (R.LANE_CTL.DEEP_EN 11, 1), (R.LANE_CTL.LANE_EN 10, 1), (R.LANE_STATUS.LSTATE 10, 3), (R.TRK_SLEEP.TX_SLEEP_IDLE, 1), (R.TRK_SLEEP.AWAKE_MIN, 1), (R.LANE_CTL.PORT 11, 1), (R.LANE_CTL.PORT 10, 1)]).setLane 11 { partnerDeep := true }
def P7 : Parcel := { stream := 3, sseq := 1, key := {}, time := 4, recs := [⟨16, 5⟩] }
def wk : State := ((ls 3 [(R.LANE_STATUS.TX_PWR 11, 2), (R.TRK_WAKE.WAKE_BYTES, 0)]).setPort 0 { win := 64 }).setStream 1 { egress := [{ P7 with stream := 1 }], credit := 9 }
def pb (r : Nat) (errs : List Nat) (bits : Nat) : State := (ls 5 [(R.LANE_STATUS.PRBS_LOCK 11, 1)]).setLane 11 { prbs := BitVec.ofNat 31 r, prbsSeed := 31, prbsErrs := errs, prbsBits := bits }

theorem wit_LineCodingAgrees :
    ({ last := true, run := 29 : Coder }.run < 30) := (by decide +kernel)

theorem wit_LanesBroughtUp :
    (let w := (ls 0 []).tick tt; Ready (ls 0 []) ∧ Admits w 4 (R.LANE_CTL.addr ↑15) ∧
      w.flag (R.LANE_CTL.LANE_EN ↑15) = false) ∧
    (let w := ((ls 3 [(R.LANE_CTL.LANE_EN 11, 1)]).setLane 11 { unacked := [(3, { stream := 3, sseq := 1, key := { : ParcelKey }, time := 4, recs := [] : Parcel })], lseq := 9 : Lane }).tick tt;
      Ready ((ls 3 [(R.LANE_CTL.LANE_EN 11, 1)]).setLane 11 { unacked := [(3, { stream := 3, sseq := 1, key := { : ParcelKey }, time := 4, recs := [] : Parcel })], lseq := 9 : Lane }) ∧
      Admits w 4 (R.LANE_CTL.addr ↑11) ∧ w.flag (R.LANE_CTL.LANE_EN ↑11) = true) ∧
    (Ready (ls 0 []) ∧ ((ls 0 []).tick tt).rxAwake ↑11 = false) ∧
    (let w := (rx0 { rx := { last := true, run := 30 : Coder }, rxBits := List.replicate 100 true : Lane }).tick tt;
      Ready (rx0 { rx := { last := true, run := 30 : Coder }, rxBits := List.replicate 100 true : Lane }) ∧
      w.rxAwake ↑11 = true ∧
      ((w.lane ↑11).rxBits ++ (unstuff (w.lane ↑11).rx (List.replicate 99 true)).fst).length < 258) ∧
    ((tb.lane ↑11).rxBits = true :: false :: (pl ++ [true]) ∧ pl.length = 256 ∧ true ≠ false ∧
      tb.flag (R.LANE_STATUS.BLOCK_LOCK ↑11) = false ∧ tb.get (R.LANE_STATUS.LSTATE ↑11) = 1 ∧
      (tb.lane ↑11).hdrs.length = 63 ∧ (∀ (h : Bool), h ∈ (tb.lane ↑11).hdrs → h = true)) ∧
    (((rx0 { hdrs := List.replicate 62 true, rxBits := true :: false :: (pl ++ [true]) : Lane }).lane ↑11).rxBits = true :: false :: (pl ++ [true]) ∧
      pl.length = 256 ∧ true ≠ false ∧
      (rx0 { hdrs := List.replicate 62 true, rxBits := true :: false :: (pl ++ [true]) : Lane }).flag (R.LANE_STATUS.BLOCK_LOCK ↑11) = false ∧
      (rx0 { hdrs := List.replicate 62 true, rxBits := true :: false :: (pl ++ [true]) : Lane }).get (R.LANE_STATUS.LSTATE ↑11) = 1 ∧
      ((rx0 { hdrs := List.replicate 62 true, rxBits := true :: false :: (pl ++ [true]) : Lane }).lane ↑11).hdrs.length < 63) ∧
    (Ready (ls 1 []) ∧ ((ls 1 []).tick tt).get (R.LANE_STATUS.LSTATE ↑11) ≠ 2) ∧
    (let w := (ls 2 []).tick tt; Ready (ls 2 []) ∧ w.get (R.LANE_STATUS.LSTATE ↑11) = 2 ∧
      (capValid (↑11) (cap1 + 2 ^ 48) = false ∨ w.linkUp (w.lanePort ↑11) = true ∧
      ((cap1 + 2 ^ 48) / 2 ^ 64 % 2 ^ 64 ≠ (w.port (w.lanePort ↑11)).id ∨ w.lanePort ↑11 < 2 ∧
      ((cap1 + 2 ^ 48) / 2 ^ 48 % 2 ^ 16 ≠ (w.port (w.lanePort ↑11)).win ∨ (cap1 + 2 ^ 48) / 2 ^ 128 % 2 ^ 16 ≠ (w.port (w.lanePort ↑11)).credit)))) ∧
    (let w := (ls 2 []).tick tt; Ready (ls 2 []) ∧ w.get (R.LANE_STATUS.LSTATE ↑11) = 2 ∧ capValid (↑11) cap1 = true ∧
      (¬(w.linkUp (w.lanePort ↑11) = true ∧
      (cap1 / 2 ^ 64 % 2 ^ 64 ≠ (w.port (w.lanePort ↑11)).id ∨ w.lanePort ↑11 < 2 ∧
      (cap1 / 2 ^ 48 % 2 ^ 16 ≠ (w.port (w.lanePort ↑11)).win ∨ cap1 / 2 ^ 128 % 2 ^ 16 ≠ (w.port (w.lanePort ↑11)).credit)))) ∧
      cap1.testBit 17 = true) ∧
    (let w := (ls 2 []).tick tt; Ready (ls 2 []) ∧ w.get (R.LANE_STATUS.LSTATE ↑11) = 2 ∧
      capValid (↑11) (cap1 - 2 ^ 17) = true ∧ (¬(w.linkUp (w.lanePort ↑11) = true ∧
      ((cap1 - 2 ^ 17) / 2 ^ 64 % 2 ^ 64 ≠ (w.port (w.lanePort ↑11)).id ∨ w.lanePort ↑11 < 2 ∧
      ((cap1 - 2 ^ 17) / 2 ^ 48 % 2 ^ 16 ≠ (w.port (w.lanePort ↑11)).win ∨ (cap1 - 2 ^ 17) / 2 ^ 128 % 2 ^ 16 ≠ (w.port (w.lanePort ↑11)).credit)))) ∧
      (cap1 - 2 ^ 17).testBit 17 = false) ∧
    (let w := (ls 1 []).tick 128000000; Ready (ls 1 []) ∧ (w.get (R.LANE_STATUS.LSTATE ↑11) = 1 ∧
      (w.lane ↑11).since + 128000000 ≤ w.now ∨ w.get (R.LANE_STATUS.LSTATE ↑11) = 2 ∧
      (w.lane ↑11).since + 1280000000 ≤ w.now)) ∧
    (let w := (ls 2 []).tick (1280000000 - 1); Ready (ls 2 []) ∧ (¬(w.get (R.LANE_STATUS.LSTATE ↑15) = 1 ∧
      (w.lane ↑15).since + 128000000 ≤ w.now ∨ w.get (R.LANE_STATUS.LSTATE ↑15) = 2 ∧
      (w.lane ↑15).since + 1280000000 ≤ w.now))) ∧
    (let w := ((ls 4 []).setLane 11 { failedAt := some 7 : Lane }).tick 128000007;
      Ready ((ls 4 []).setLane 11 { failedAt := some 7 : Lane }) ∧ (w.lane ↑11).failedAt = some 7 ∧
      w.get (R.LANE_STATUS.LSTATE ↑11) = 4 ∧ 7 + 128000000 ≤ w.now) ∧
    (let w := ((ls 4 []).setLane 11 { failedAt := some 7 : Lane }).tick 128000006;
      Ready ((ls 4 []).setLane 11 { failedAt := some 7 : Lane }) ∧ (w.lane ↑11).failedAt = some 7 ∧
      w.get (R.LANE_STATUS.LSTATE ↑11) = 4 ∧ w.now < 7 + 128000000) ∧
    (let w := ((ls 3 []).setLane 11 { signalAt := some 7 : Lane }).tick 128000007;
      Ready ((ls 3 []).setLane 11 { signalAt := some 7 : Lane }) ∧ (w.lane ↑11).signalAt = some 7 ∧
      w.laneUp ↑11 = true ∧ w.flag (R.LANE_STATUS.BLOCK_LOCK ↑11) = false ∧ 7 + 128000000 ≤ w.now) ∧
    (let w := ((ls 3 []).setLane 11 { signalAt := some 7 : Lane }).tick 128000006;
      Ready ((ls 3 []).setLane 11 { signalAt := some 7 : Lane }) ∧ (w.lane ↑11).signalAt = some 7 ∧
      w.laneUp ↑11 = true ∧ w.flag (R.LANE_STATUS.BLOCK_LOCK ↑11) = false ∧ w.now < 7 + 128000000) ∧
    (((rx0 { hdrs := List.replicate 62 true, rxBits := true :: true :: pl : Lane }).lane ↑11).rxBits = true :: true :: pl ∧
      (rx0 { hdrs := List.replicate 62 true, rxBits := true :: true :: pl : Lane }).flag (R.LANE_STATUS.BLOCK_LOCK ↑11) = false) ∧
    (let w := (ls 3 []).tick tt; Ready (ls 3 []) ∧
      ((w.lane ↑11).failedAt = none ∨ w.get (R.LANE_STATUS.LSTATE ↑11) ≠ 4)) ∧
    (let w := (ls 3 []).tick tt; Ready (ls 3 []) ∧
      ((w.lane ↑11).signalAt = none ∨ w.laneUp ↑11 = false ∨ w.flag (R.LANE_STATUS.BLOCK_LOCK ↑11) = true)) ∧
    (Ready (ls 3 []) ∧ ((ls 3 []).tick tt).get (R.LANE_STATUS.LSTATE ↑11) ≠ 2) :=
  ⟨⟨ready_of _ (by decide +kernel), admits_core _ _ (by decide +kernel), by decide +kernel⟩,
   ⟨ready_of _ (by decide +kernel), admits_core _ _ (by decide +kernel), by decide +kernel⟩,
   ⟨ready_of _ (by decide +kernel), by decide +kernel⟩,
   ⟨ready_of _ (by decide +kernel), by decide +kernel⟩,
   (by decide +kernel),
   (by decide +kernel),
   ⟨ready_of _ (by decide +kernel), by decide +kernel⟩,
   ⟨ready_of _ (by decide +kernel), by decide +kernel⟩,
   ⟨ready_of _ (by decide +kernel), by decide +kernel⟩,
   ⟨ready_of _ (by decide +kernel), by decide +kernel⟩,
   ⟨ready_of _ (by decide +kernel), by decide +kernel⟩,
   ⟨ready_of _ (by decide +kernel), by decide +kernel⟩,
   ⟨ready_of _ (by decide +kernel), by decide +kernel⟩,
   ⟨ready_of _ (by decide +kernel), by decide +kernel⟩,
   ⟨ready_of _ (by decide +kernel), by decide +kernel⟩,
   ⟨ready_of _ (by decide +kernel), by decide +kernel⟩,
   (by decide +kernel),
   ⟨ready_of _ (by decide +kernel), by decide +kernel⟩,
   ⟨ready_of _ (by decide +kernel), by decide +kernel⟩,
   ⟨ready_of _ (by decide +kernel), by decide +kernel⟩⟩

theorem wit_LanesSleepAndAreTested :
    (Ready (ls 3 [(R.LANE_CTL.DEEP_EN 11, 1), (R.LANE_STATUS.BLOCK_LOCK 11, 1)]) ∧
      ((ls 3 [(R.LANE_CTL.DEEP_EN 11, 1), (R.LANE_STATUS.BLOCK_LOCK 11, 1)]).tick tt).laneUp ↑11 = true) ∧
    (Ready (ls 2 []) ∧ ((ls 2 []).tick tt).laneUp ↑15 = false) ∧
    (let w := (ls 3 [(R.LANE_STATUS.RX_PWR 15, 2)]).tick tt; Ready (ls 3 [(R.LANE_STATUS.RX_PWR 15, 2)]) ∧
      w.laneUp ↑15 = true ∧ w.get (R.LANE_STATUS.RX_PWR ↑15) ≠ 0) ∧
    (let w := (ls 3 []).tick tt; Ready (ls 3 []) ∧ w.laneUp ↑15 = true ∧ w.get (R.LANE_STATUS.RX_PWR ↑15) = 0) ∧
    (let w := sl.tick tt; Ready sl ∧ (w.laneUp ↑11 = true ∧ w.flag (R.LANE_CTL.TX_SLEEP_EN ↑11) = true ∧
      w.get (R.LANE_STATUS.TX_PWR ↑11) = 0 ∧ (w.lane ↑11).busyAt + 128000 * w.get R.TRK_SLEEP.TX_SLEEP_IDLE ≤ w.now ∧
      (w.lane ↑11).sending = [] ∧ (w.lane ↑11).unacked = [] ∧
      max 1 (w.get R.TRK_SLEEP.AWAKE_MIN) ≤ (List.filter (fun k => decide (k ≠ ↑11) && decide (w.get (R.LANE_STATUS.TX_PWR k) = 0)) (w.linkLanes (w.lanePort ↑11))).length)) ∧
    (let w := (ls 3 []).tick tt; Ready (ls 3 []) ∧ (¬(w.laneUp ↑11 = true ∧ w.flag (R.LANE_CTL.TX_SLEEP_EN ↑11) = true ∧
      w.get (R.LANE_STATUS.TX_PWR ↑11) = 0 ∧ (w.lane ↑11).busyAt + 128000 * w.get R.TRK_SLEEP.TX_SLEEP_IDLE ≤ w.now ∧
      (w.lane ↑11).sending = [] ∧ (w.lane ↑11).unacked = [] ∧
      max 1 (w.get R.TRK_SLEEP.AWAKE_MIN) ≤ (List.filter (fun k => decide (k ≠ ↑11) && decide (w.get (R.LANE_STATUS.TX_PWR k) = 0)) (w.linkLanes (w.lanePort ↑11))).length))) ∧
    (let w := wk.tick tt; Ready wk ∧ (w.laneUp ↑11 = true ∧ w.get (R.LANE_STATUS.TX_PWR ↑11) ≠ 0 ∧
      w.get R.TRK_WAKE.WAKE_BYTES < w.readyBytes (w.lanePort ↑11))) ∧
    (let w := (ls 3 []).tick tt; Ready (ls 3 []) ∧ (¬(w.laneUp ↑11 = true ∧ w.get (R.LANE_STATUS.TX_PWR ↑11) ≠ 0 ∧
      w.get R.TRK_WAKE.WAKE_BYTES < w.readyBytes (w.lanePort ↑11)))) ∧
    (let w := ((ls 3 []).setLane 11 { holdUntil := some 640 : Lane }).tick 640;
      Ready ((ls 3 []).setLane 11 { holdUntil := some 640 : Lane }) ∧ (w.lane ↑11).holdUntil = some 640 ∧ 640 ≤ w.now) ∧
    (let w := ((ls 3 []).setLane 11 { holdUntil := some 640 : Lane }).tick 639;
      Ready ((ls 3 []).setLane 11 { holdUntil := some 640 : Lane }) ∧ (w.lane ↑11).holdUntil = some 640 ∧ w.now < 640) ∧
    (Ready (ls 3 []) ∧ (97 = 0 ∨ 97 = 16 ∨ 97 = 32 ∨ 97 = 48 ∨ 97 = 56 ∨ 97 = 80 ∨ 12 ≤ ↑15 ∧ (97 = 96 ∨ 97 = 97))) ∧
    (Ready (ls 3 []) ∧ (¬(97 = 0 ∨ 97 = 16 ∨ 97 = 32 ∨ 97 = 48 ∨ 97 = 56 ∨ 97 = 80 ∨ 12 ≤ ↑11 ∧ (97 = 96 ∨ 97 = 97)))) ∧
    (let w := (pb 5 [] (2 ^ 64 - 1)).tick tt; Ready (pb 5 [] (2 ^ 64 - 1)) ∧ w.get (R.LANE_STATUS.LSTATE ↑11) = 5 ∧
      w.flag (R.LANE_STATUS.PRBS_LOCK ↑11) = true ∧
      (prbsPoly (w.get (R.LANE_CTL.PRBS_SEL ↑11))).fst ≤ (w.lane ↑11).prbsSeed) ∧
    (Ready (pb 5 [] (2 ^ 64 - 1)) ∧ Admits ((pb 5 [] (2 ^ 64 - 1)).tick tt) 4 (R.LANE_CTL.addr ↑11)) ∧
    (Ready (ls 3 []) ∧ ((ls 3 []).tick tt).get (R.LANE_STATUS.LSTATE ↑11) ≠ 5) ∧
    (let w := ((ls 5 []).setLane 11 { prbsSeed := 3 : Lane }).tick tt;
      Ready ((ls 5 []).setLane 11 { prbsSeed := 3 : Lane }) ∧ w.get (R.LANE_STATUS.LSTATE ↑11) = 5 ∧
      (w.lane ↑11).prbsSeed < (prbsPoly (w.get (R.LANE_CTL.PRBS_SEL ↑11))).fst) ∧
    (let w := ((ls 5 []).setLane 11 { prbs := 5, prbsSeed := 31, prbsGood := 63 : Lane }).tick tt;
      Ready ((ls 5 []).setLane 11 { prbs := 5, prbsSeed := 31, prbsGood := 63 : Lane }) ∧
      w.get (R.LANE_STATUS.LSTATE ↑11) = 5 ∧ (prbsPoly (w.get (R.LANE_CTL.PRBS_SEL ↑11))).fst ≤ (w.lane ↑11).prbsSeed ∧
      w.flag (R.LANE_STATUS.PRBS_LOCK ↑11) = false) :=
  ⟨⟨ready_of _ (by decide +kernel), by decide +kernel⟩,
   ⟨ready_of _ (by decide +kernel), by decide +kernel⟩,
   ⟨ready_of _ (by decide +kernel), by decide +kernel⟩,
   ⟨ready_of _ (by decide +kernel), by decide +kernel⟩,
   ⟨ready_of _ (by decide +kernel), by decide +kernel⟩,
   ⟨ready_of _ (by decide +kernel), by decide +kernel⟩,
   ⟨ready_of _ (by decide +kernel), by decide +kernel⟩,
   ⟨ready_of _ (by decide +kernel), by decide +kernel⟩,
   ⟨ready_of _ (by decide +kernel), by decide +kernel⟩,
   ⟨ready_of _ (by decide +kernel), by decide +kernel⟩,
   ⟨ready_of _ (by decide +kernel), by decide +kernel⟩,
   ⟨ready_of _ (by decide +kernel), by decide +kernel⟩,
   ⟨ready_of _ (by decide +kernel), by decide +kernel⟩,
   ⟨ready_of _ (by decide +kernel), admits_core _ _ (by decide +kernel)⟩,
   ⟨ready_of _ (by decide +kernel), by decide +kernel⟩,
   ⟨ready_of _ (by decide +kernel), by decide +kernel⟩,
   ⟨ready_of _ (by decide +kernel), by decide +kernel⟩⟩

end Lanes

/-! The trunk: parcels and control requests. -/

namespace Parcels

def tt : Nat := 128 * 25300
def ls (st : Nat) (l : List (Field × Nat)) : State := T ([(R.TB_STATUS.LOCKED, 1), (R.LANE_STATUS.LSTATE 11, st), (R.LANE_STATUS.LSTATE 15, st)] ++ l)
def mkHd (k lseq len : Nat) (bs : List Nat) : Nat := let h := 0x50 + 2^8 * k + 2^16 * len + 2^32 * lseq + 2^64 * 77; h + 2^224 * crc32c (bytesOf 28 h ++ bytesOf len (blocksVal bs))
def asm0 : Lane := { asm := some (0x50 + 2^16 * 64, []) }
def pay2 : List Nat := [1 + 2^128 * 2]
def rxp (l : Fin 16) (hd : Nat) (bs : List Nat) (z : List (Nat × List Nat)) (x : Lane) : State := (ls 3 []).setLane l { x with rxParcels := (hd, bs) :: z }
def po (n : Nat) (e : List (Nat × Nat × List Nat)) : Port := { rx := [(0, n)], early := e }
def PQ (k : Nat) : Parcel := { stream := 1, sseq := k, key := {}, time := 4, recs := [⟨16, 5⟩] }
def ua : State := (ls 3 [(R.LANE_CTL.LANE_EN 11, 1)]).setLane 11 { unacked := [(65535, PQ 5), (0, PQ 6), (1, PQ 7)], resend := [(0, PQ 6)], replays := 3 }
def ua2 : State := ua.modLane 11 (fun x => { x with replays := 8 })
def slp : State := ls 3 [(R.LANE_CTL.LANE_EN 11, 1), (R.LANE_STATUS.TX_PWR 11, 1)]
def tr : State := ls 1 [(R.LANE_CTL.LANE_EN 11, 1)]
def sd (x : Lane) : State := (ls 3 [(R.LANE_CTL.LANE_EN 11, 1)]).setLane 11 x
def dueV (s : State) : State := ((dueBlock 11 s).getD (s, 0)).1
def dueB (s : State) : Nat := ((dueBlock 11 s).getD (s, 0)).2
def tkV (s : State) : State := ((takeParcel 11 s).getD (s, 0)).1
def tkB (s : State) : Nat := ((takeParcel 11 s).getD (s, 0)).2
def tkS : State := ((sd {}).setPort 0 { win := 64 }).setStream 1 { egress := [PQ 5], credit := 9 }
def SO : OpenParcel := { key := {}, since := 100, recs := [⟨48, 7⟩, ⟨48, 9⟩] }
def so (k : Nat) (st : Stream) : State := (ls 3 []).setStream k { st with open_ := some SO }
def lb (k : Nat) : State := (ls 3 []).setStream k { layby := [PQ 5, PQ 6] }
def LS : Loss := { first := 5, last := 9, parcels := 3, records := 4, bytes := 500 }
def lo (k : Nat) : State := (ls 3 [(R.TRK_GAP_SPLIT.GAP_SPLIT, 1)]).setStream k { loss := some LS }
def rq (op : Nat) (a d : Nat) : Nat := op + 2^16 * 0xBEEF + 2^32 * a + 2^96 * d
def cp (p : Nat) (op : Nat) : State := ((ls 3 []).setPort p { reqs := [(3, rq op R.TRK_GAP_SPLIT.addr 5), (4, 9)] }).setSess (1 + p) { role := some 2 }
def a0 : Nat := dramBase + 0x12345678
def dh0 : State := (cp 0 1).setPort 0 { reqs := [(3, rq 1 a0 5), (4, 9)] }
def dhr : State := ((dh0.put R.MEM_STATUS.MEM_READY 1).put R.MEM_STATUS.PORTS_USED 15).put R.MEM_STATUS.CAP_GB 16
def dhs : State := { dhr with dram := { holds := [(65536 * 1 + dhr.bankKey 0x12345678, tt + 1)] } }

theorem wit_ParcelsCarried :
    ((80 + 2 ^ 16 * 33) % 256 = 80 ∧ { : Lane }.asm = none ∧ 0 < (80 + 2 ^ 16 * 33) / 2 ^ 16 % 2 ^ 14) ∧
    (asm0.asm = some (80 + 2 ^ 16 * 64, []) ∧
      ([] : List Nat).length + 1 < ((80 + 2 ^ 16 * 64) / 2 ^ 16 % 2 ^ 14 + 31) / 32) ∧
    ({ asm0 with asm := some (80 + 2 ^ 16 * 64, [3]) : Lane }.asm = some (80 + 2 ^ 16 * 64, [3]) ∧
      ((80 + 2 ^ 16 * 64) / 2 ^ 16 % 2 ^ 14 + 31) / 32 ≤ [3].length + 1) ∧
    (asm0.asm = some (80 + 2 ^ 16 * 64, []) ∧ (80 + 2 ^ 16 * 16) % 256 = 80 ∧ 0 < (80 + 2 ^ 16 * 16) / 2 ^ 16 % 2 ^ 14) ∧
    (let w := (ls 3 []).tick tt; Ready (ls 3 []) ∧ (w.laneUp ↑11 = false ∨ (w.lane ↑11).rxParcels.head? ≠ some (9, []))) ∧
    (let w := (rxp 11 (mkHd 0 65535 32 pay2) pay2 [] { rxLseq := 65535, nakDue := true : Lane }).tick tt;
      Ready (rxp 11 (mkHd 0 65535 32 pay2) pay2 [] { rxLseq := 65535, nakDue := true : Lane }) ∧ w.laneUp ↑11 = true ∧
      (w.lane ↑11).rxParcels = [(mkHd 0 65535 32 pay2, pay2)] ∧
      (pay2.length = (mkHd 0 65535 32 pay2 / 2 ^ 16 % 2 ^ 14 + 31) / 32 ∧
      crc32c (bytesOf 28 (mkHd 0 65535 32 pay2) ++ bytesOf (mkHd 0 65535 32 pay2 / 2 ^ 16 % 2 ^ 14) (blocksVal pay2)) = mkHd 0 65535 32 pay2 / 2 ^ 224 % 2 ^ 32) ∧
      mkHd 0 65535 32 pay2 / 2 ^ 32 % 2 ^ 16 = (w.lane ↑11).rxLseq) ∧
    (let w := (rxp 11 (mkHd 0 3 32 pay2) pay2 [] { rxLseq := 4 : Lane }).tick tt;
      Ready (rxp 11 (mkHd 0 3 32 pay2) pay2 [] { rxLseq := 4 : Lane }) ∧ w.laneUp ↑11 = true ∧
      (w.lane ↑11).rxParcels = [(mkHd 0 3 32 pay2, pay2)] ∧
      (pay2.length = (mkHd 0 3 32 pay2 / 2 ^ 16 % 2 ^ 14 + 31) / 32 ∧
      crc32c (bytesOf 28 (mkHd 0 3 32 pay2) ++ bytesOf (mkHd 0 3 32 pay2 / 2 ^ 16 % 2 ^ 14) (blocksVal pay2)) = mkHd 0 3 32 pay2 / 2 ^ 224 % 2 ^ 32) ∧
      mkHd 0 3 32 pay2 / 2 ^ 32 % 2 ^ 16 ≠ (w.lane ↑11).rxLseq) ∧
    (let w := (rxp 11 (mkHd 0 4 32 pay2 + 2 ^ 240) pay2 [] { rxLseq := 4 : Lane }).tick tt;
      Ready (rxp 11 (mkHd 0 4 32 pay2 + 2 ^ 240) pay2 [] { rxLseq := 4 : Lane }) ∧ w.laneUp ↑11 = true ∧
      (w.lane ↑11).rxParcels = [(mkHd 0 4 32 pay2 + 2 ^ 240, pay2)] ∧
      (¬(pay2.length = ((mkHd 0 4 32 pay2 + 2 ^ 240) / 2 ^ 16 % 2 ^ 14 + 31) / 32 ∧
      crc32c (bytesOf 28 (mkHd 0 4 32 pay2 + 2 ^ 240) ++ bytesOf ((mkHd 0 4 32 pay2 + 2 ^ 240) / 2 ^ 16 % 2 ^ 14) (blocksVal pay2)) = (mkHd 0 4 32 pay2 + 2 ^ 240) / 2 ^ 224 % 2 ^ 32))) ∧
    (2 ^ 32 - 1 = (po (2 ^ 32 - 1) []).rx.get 0 0 ∧ (po (2 ^ 32 - 1) []).early = []) ∧
    (6 ≠ (po 7 []).rx.get 0 0 ∧ before32 6 ((po 7 []).rx.get 0 0) = true) ∧
    (9 ≠ (po 7 []).rx.get 0 0 ∧ before32 9 ((po 7 []).rx.get 0 0) = false ∧
      (∀ (e : Nat × Nat × List Nat), e ∈ (po 7 []).early → e.fst = 0 → e.snd.fst ≠ 9)) ∧
    (7 = (po 7 [(0, 8, [1])]).rx.get 0 0) ∧
    (let w := ((ls 3 []).setLane 11 { gotParcel := true : Lane }).tick tt;
      Ready ((ls 3 []).setLane 11 { gotParcel := true : Lane }) ∧ w.laneUp ↑11 = true ∧ (w.lane ↑11).gotParcel = true) ∧
    (let w := (ls 3 []).tick tt; Ready (ls 3 []) ∧ (w.laneUp ↑11 = false ∨ (w.lane ↑11).gotParcel = false)) ∧
    (Ready ua ∧ (ua.tick tt).laneUp ↑11 = true) ∧
    (Ready (ls 2 []) ∧ ((ls 2 []).tick tt).laneUp ↑11 = false) ∧
    ((ua.lane ↑11).unacked = [(65535, PQ 5)] ++ [({ lane := 11, nak := false, lseq := 0 : AckEntry }.lseq, PQ 6), (1, PQ 7)] ∧
      (∀ (y : Nat × Parcel), y ∈ [(65535, PQ 5)] → y.fst ≠ { lane := 11, nak := false, lseq := 0 : AckEntry }.lseq) ∧
      { lane := 11, nak := false, lseq := 0 : AckEntry }.nak = false) ∧
    ((ua.lane ↑11).unacked = [(65535, PQ 5)] ++ [({ lane := 11, nak := true, lseq := 0 : AckEntry }.lseq, PQ 6), (1, PQ 7)] ∧
      (∀ (y : Nat × Parcel), y ∈ [(65535, PQ 5)] → y.fst ≠ { lane := 11, nak := true, lseq := 0 : AckEntry }.lseq) ∧
      { lane := 11, nak := true, lseq := 0 : AckEntry }.nak = true ∧
      (ua.lane ↑11).replays < max 1 (ua.get R.TRK_CFG.RETRY_MAX)) ∧
    (((ua.modLane 11 fun x => { x with replays := 8 : Lane }).lane ↑11).unacked = [(65535, PQ 5)] ++ [({ lane := 11, nak := true, lseq := 0 : AckEntry }.lseq, PQ 6), (1, PQ 7)] ∧
      (∀ (y : Nat × Parcel), y ∈ [(65535, PQ 5)] → y.fst ≠ { lane := 11, nak := true, lseq := 0 : AckEntry }.lseq) ∧
      { lane := 11, nak := true, lseq := 0 : AckEntry }.nak = true ∧
      max 1 ((ua.modLane 11 fun x => { x with replays := 8 : Lane }).get R.TRK_CFG.RETRY_MAX) ≤ ((ua.modLane 11 fun x => { x with replays := 8 : Lane }).lane ↑11).replays) ∧
    ((∀ (y : Nat × Parcel), y ∈ (ua.lane ↑11).unacked → y.fst ≠ { lane := 11, nak := true, lseq := 9 : AckEntry }.lseq)) ∧
    (Ready (ls 3 []) ∧ ((ls 3 []).tick tt).laneUp ↑11 = true) ∧
    (Ready (ls 0 []) ∧ ((ls 0 []).tick tt).laneUp ↑11 = false) ∧
    (let w := ua.tick 2560000; Ready ua ∧ (w.lane ↑11).unacked = [(65535, PQ 5), (0, PQ 6), (1, PQ 7)] ∧
      w.laneUp ↑11 = true ∧ (w.lane ↑11).ackMoved + 128000 * max 1 (w.get R.TRK_CFG.ACK_TIMEOUT) ≤ w.now ∧
      (w.lane ↑11).replays < max 1 (w.get R.TRK_CFG.RETRY_MAX)) ∧
    (let w := ua2.tick 2560000; Ready ua2 ∧ (w.lane ↑11).unacked = [(65535, PQ 5), (0, PQ 6), (1, PQ 7)] ∧
      w.laneUp ↑11 = true ∧ (w.lane ↑11).ackMoved + 128000 * max 1 (w.get R.TRK_CFG.ACK_TIMEOUT) ≤ w.now ∧
      max 1 (w.get R.TRK_CFG.RETRY_MAX) ≤ (w.lane ↑11).replays) ∧
    (let w := (ls 3 []).tick 2559999; Ready (ls 3 []) ∧
      ((w.lane ↑11).unacked = [] ∨ w.laneUp ↑11 = false ∨ w.now < (w.lane ↑11).ackMoved + 128000 * max 1 (w.get R.TRK_CFG.ACK_TIMEOUT))) ∧
    (Ready (ls 0 []) ∧ ((ls 0 []).tick tt).flag (R.LANE_CTL.LANE_EN ↑11) = false) ∧
    (let w := (ls 5 [(R.LANE_CTL.LANE_EN 11, 1), (R.LANE_CTL.PRBS_SEL 11, 1)]).tick tt;
      Ready (ls 5 [(R.LANE_CTL.LANE_EN 11, 1), (R.LANE_CTL.PRBS_SEL 11, 1)]) ∧ w.flag (R.LANE_CTL.LANE_EN ↑11) = true ∧
      w.get (R.LANE_STATUS.LSTATE ↑11) = 5) ∧
    (let w := slp.tick tt; Ready slp ∧ w.flag (R.LANE_CTL.LANE_EN ↑11) = true ∧ w.get (R.LANE_STATUS.LSTATE ↑11) ≠ 5 ∧
      slotBlock (↑11) w = none) ∧
    (let w := tr.tick tt; Ready tr ∧ w.flag (R.LANE_CTL.LANE_EN ↑11) = true ∧ w.get (R.LANE_STATUS.LSTATE ↑11) ≠ 5 ∧
      slotBlock (↑11) w = some (tr.tick tt, true, 0, false)) ∧
    (tr.get (R.LANE_STATUS.LSTATE ↑11) = 1) ∧
    ((ls 2 []).get (R.LANE_STATUS.LSTATE ↑11) = 2) ∧
    ((ls 3 []).get (R.LANE_STATUS.LSTATE ↑11) = 3) ∧
    ((ls 4 []).get (R.LANE_STATUS.LSTATE ↑11) ≠ 1 ∧ (ls 4 []).get (R.LANE_STATUS.LSTATE ↑11) ≠ 2 ∧
      (ls 4 []).get (R.LANE_STATUS.LSTATE ↑11) ≠ 3) ∧
    (((sd { runData := 30, sending := [7, 8] : Lane }).lane ↑11).sending = [7, 8] ∧
      ((sd { runData := 30, sending := [7, 8] : Lane }).lane ↑11).runData < 31) ∧
    (((sd { gotParcel := true, ackDue := true : Lane }).lane ↑11).sending = [] ∧
      ((sd { gotParcel := true, ackDue := true : Lane }).lane ↑11).holdUntil = none ∧
      dueBlock (↑11) (sd { gotParcel := true, ackDue := true : Lane }) = some (dueV (sd { gotParcel := true, ackDue := true : Lane }), dueB (sd { gotParcel := true, ackDue := true : Lane }))) ∧
    ((tkS.lane ↑11).sending = [] ∧ (tkS.lane ↑11).holdUntil = none ∧ dueBlock (↑11) tkS = none ∧
      takeParcel (↑11) tkS = some (tkV tkS, tkB tkS)) ∧
    (((sd { : Lane }).lane ↑11).sending = [] ∧ ((sd { : Lane }).lane ↑11).holdUntil = none ∧
      dueBlock (↑11) (sd { : Lane }) = none ∧ takeParcel (↑11) (sd { : Lane }) = none) ∧
    (let w := (so 1 { : Machine.Stream }).tick 6400100; Ready (so 1 { : Machine.Stream }) ∧
      (w.stream ↑1).open_ = some SO ∧ SO.since + 128000 * max 1 (w.get R.TRK_CFG.PARCEL_TIMEOUT) ≤ w.now) ∧
    (let w := (so 1 { : Machine.Stream }).tick 6400099; Ready (so 1 { : Machine.Stream }) ∧
      (w.stream ↑1).open_ = some SO ∧ (¬SO.since + 128000 * max 1 (w.get R.TRK_CFG.PARCEL_TIMEOUT) ≤ w.now)) ∧
    (Ready (ls 3 []) ∧ (((ls 3 []).tick 6400099).stream ↑1).open_ = none) ∧
    (Ready (ls 3 []) ∧ (((ls 3 []).tick 6400099).stream ↑1).layby = []) ∧
    (Ready (ls 3 []) ∧ (((ls 3 []).tick 6400099).stream ↑1).loss = none) ∧
    (let w := (lb 1).tick tt; Ready (lb 1) ∧ (w.stream ↑1).layby = [PQ 5, PQ 6] ∧
      ((PQ 5).outside = true ∨ w.egqBytes ↑1 + recsLen (PQ 5).recs ≤ w.egqQuota ↑1)) ∧
    (let w := ((lb 1).put (R.EGQ_QUOTA.value 1) 8191).tick tt; Ready ((lb 1).put (R.EGQ_QUOTA.value 1) 8191) ∧
      (w.stream ↑1).layby = [PQ 5, PQ 6] ∧
      (¬((PQ 5).outside = true ∨ w.egqBytes ↑1 + recsLen (PQ 5).recs ≤ w.egqQuota ↑1))) ∧
    (let w := (lo 3).tick (128 * 1000005); Ready (lo 3) ∧ (w.stream ↑3).loss = some LS ∧ w.lossExpired LS = true ∧
      ↑3 ≠ 1) ∧
    (let w := (lo 1).tick (128 * 1000005); Ready (lo 1) ∧ (w.stream ↑1).loss = some LS ∧ w.lossExpired LS = true ∧
      ↑1 = 1) ∧
    (let w := (lo 1).tick (128 * 1000004); Ready (lo 1) ∧ (w.stream ↑1).loss = some LS ∧ w.lossExpired LS = false) ∧
    ((lo 1).msMuted 5 = false) :=
  ⟨(by decide +kernel),
   (by decide +kernel),
   (by decide +kernel),
   (by decide +kernel),
   ⟨ready_of _ (by decide +kernel), by decide +kernel⟩,
   ⟨ready_of _ (by decide +kernel), by decide +kernel⟩,
   ⟨ready_of _ (by decide +kernel), by decide +kernel⟩,
   ⟨ready_of _ (by decide +kernel), by decide +kernel⟩,
   (by decide +kernel),
   (by decide +kernel),
   (by decide +kernel),
   (by decide +kernel),
   ⟨ready_of _ (by decide +kernel), by decide +kernel⟩,
   ⟨ready_of _ (by decide +kernel), by decide +kernel⟩,
   ⟨ready_of _ (by decide +kernel), by decide +kernel⟩,
   ⟨ready_of _ (by decide +kernel), by decide +kernel⟩,
   (by decide +kernel),
   (by decide +kernel),
   (by decide +kernel),
   (by decide +kernel),
   ⟨ready_of _ (by decide +kernel), by decide +kernel⟩,
   ⟨ready_of _ (by decide +kernel), by decide +kernel⟩,
   ⟨ready_of _ (by decide +kernel), by decide +kernel⟩,
   ⟨ready_of _ (by decide +kernel), by decide +kernel⟩,
   ⟨ready_of _ (by decide +kernel), by decide +kernel⟩,
   ⟨ready_of _ (by decide +kernel), by decide +kernel⟩,
   ⟨ready_of _ (by decide +kernel), by decide +kernel⟩,
   ⟨ready_of _ (by decide +kernel), by decide +kernel⟩,
   ⟨ready_of _ (by decide +kernel), by decide +kernel⟩,
   (by decide +kernel),
   (by decide +kernel),
   (by decide +kernel),
   (by decide +kernel),
   (by decide +kernel),
   (by decide +kernel),
   (by decide +kernel),
   (by decide +kernel),
   ⟨ready_of _ (by decide +kernel), by decide +kernel⟩,
   ⟨ready_of _ (by decide +kernel), by decide +kernel⟩,
   ⟨ready_of _ (by decide +kernel), by decide +kernel⟩,
   ⟨ready_of _ (by decide +kernel), by decide +kernel⟩,
   ⟨ready_of _ (by decide +kernel), by decide +kernel⟩,
   ⟨ready_of _ (by decide +kernel), by decide +kernel⟩,
   ⟨ready_of _ (by decide +kernel), by decide +kernel⟩,
   ⟨ready_of _ (by decide +kernel), by decide +kernel⟩,
   ⟨ready_of _ (by decide +kernel), by decide +kernel⟩,
   ⟨ready_of _ (by decide +kernel), by decide +kernel⟩,
   (by decide +kernel)⟩

theorem wit_ParcelsPlaced :
    (((so 1 { sseq := 2 ^ 32 - 1 : Machine.Stream }).stream ↑1).open_ = some SO ∧
      (((so 1 { sseq := 2 ^ 32 - 1 : Machine.Stream }).stream ↑1).layby = [] ∧
      (SO.room = true ∨ (so 1 { sseq := 2 ^ 32 - 1 : Machine.Stream }).egqBytes ↑1 + recsLen SO.recs ≤ (so 1 { sseq := 2 ^ 32 - 1 : Machine.Stream }).egqQuota ↑1))) ∧
    ((((so 1 { sseq := 3, layby := [PQ 1] : Machine.Stream }).put (R.LAYBY_QUOTA.value 1) 1).stream ↑1).open_ = some SO ∧
      (¬((((so 1 { sseq := 3, layby := [PQ 1] : Machine.Stream }).put (R.LAYBY_QUOTA.value 1) 1).stream ↑1).layby = [] ∧
      (SO.room = true ∨ ((so 1 { sseq := 3, layby := [PQ 1] : Machine.Stream }).put (R.LAYBY_QUOTA.value 1) 1).egqBytes ↑1 + recsLen SO.recs ≤ ((so 1 { sseq := 3, layby := [PQ 1] : Machine.Stream }).put (R.LAYBY_QUOTA.value 1) 1).egqQuota ↑1))) ∧
      (¬(((so 1 { sseq := 3, layby := [PQ 1] : Machine.Stream }).put (R.LAYBY_QUOTA.value 1) 1).flag (R.STREAM_CFG.SPILL_EN (streamReg ↑1)) = true ∧
      ((so 1 { sseq := 3, layby := [PQ 1] : Machine.Stream }).put (R.LAYBY_QUOTA.value 1) 1).laybyBytes ↑1 + recsLen SO.recs ≤ ((so 1 { sseq := 3, layby := [PQ 1] : Machine.Stream }).put (R.LAYBY_QUOTA.value 1) 1).laybyQuota ↑1)) ∧
      ↑1 ≠ 6 ∧ SO.room = false) ∧
    (((((so 1 { sseq := 3, layby := [PQ 1] : Machine.Stream }).put (R.LAYBY_QUOTA.value 1) 1).put R.MEM_STATUS.MEM_READY 1).stream ↑1).open_ = some SO ∧
      (¬(((((so 1 { sseq := 3, layby := [PQ 1] : Machine.Stream }).put (R.LAYBY_QUOTA.value 1) 1).put R.MEM_STATUS.MEM_READY 1).stream ↑1).layby = [] ∧
      (SO.room = true ∨ (((so 1 { sseq := 3, layby := [PQ 1] : Machine.Stream }).put (R.LAYBY_QUOTA.value 1) 1).put R.MEM_STATUS.MEM_READY 1).egqBytes ↑1 + recsLen SO.recs ≤ (((so 1 { sseq := 3, layby := [PQ 1] : Machine.Stream }).put (R.LAYBY_QUOTA.value 1) 1).put R.MEM_STATUS.MEM_READY 1).egqQuota ↑1))) ∧
      ((((so 1 { sseq := 3, layby := [PQ 1] : Machine.Stream }).put (R.LAYBY_QUOTA.value 1) 1).put R.MEM_STATUS.MEM_READY 1).flag (R.STREAM_CFG.SPILL_EN (streamReg ↑1)) = true ∧
      (((so 1 { sseq := 3, layby := [PQ 1] : Machine.Stream }).put (R.LAYBY_QUOTA.value 1) 1).put R.MEM_STATUS.MEM_READY 1).laybyBytes ↑1 + recsLen SO.recs ≤ (((so 1 { sseq := 3, layby := [PQ 1] : Machine.Stream }).put (R.LAYBY_QUOTA.value 1) 1).put R.MEM_STATUS.MEM_READY 1).laybyQuota ↑1)) ∧
    (((so 6 { sseq := 3, layby := [PQ 1] : Machine.Stream }).stream ↑6).open_ = some SO ∧
      (¬(((so 6 { sseq := 3, layby := [PQ 1] : Machine.Stream }).stream ↑6).layby = [] ∧
      (SO.room = true ∨ (so 6 { sseq := 3, layby := [PQ 1] : Machine.Stream }).egqBytes ↑6 + recsLen SO.recs ≤ (so 6 { sseq := 3, layby := [PQ 1] : Machine.Stream }).egqQuota ↑6))) ∧
      (¬((so 6 { sseq := 3, layby := [PQ 1] : Machine.Stream }).flag (R.STREAM_CFG.SPILL_EN (streamReg ↑6)) = true ∧
      (so 6 { sseq := 3, layby := [PQ 1] : Machine.Stream }).laybyBytes ↑6 + recsLen SO.recs ≤ (so 6 { sseq := 3, layby := [PQ 1] : Machine.Stream }).laybyQuota ↑6)) ∧
      (↑6 = 6 ∨ SO.room = true) ∧ ((so 6 { sseq := 3, layby := [PQ 1] : Machine.Stream }).stream ↑6).layby ≠ []) ∧
    ((((so 6 { sseq := 3 : Machine.Stream }).put (R.EGQ_QUOTA.value 6) 0).stream ↑6).open_ = some SO ∧
      (¬((((so 6 { sseq := 3 : Machine.Stream }).put (R.EGQ_QUOTA.value 6) 0).stream ↑6).layby = [] ∧
      (SO.room = true ∨ ((so 6 { sseq := 3 : Machine.Stream }).put (R.EGQ_QUOTA.value 6) 0).egqBytes ↑6 + recsLen SO.recs ≤ ((so 6 { sseq := 3 : Machine.Stream }).put (R.EGQ_QUOTA.value 6) 0).egqQuota ↑6))) ∧
      (¬(((so 6 { sseq := 3 : Machine.Stream }).put (R.EGQ_QUOTA.value 6) 0).flag (R.STREAM_CFG.SPILL_EN (streamReg ↑6)) = true ∧
      ((so 6 { sseq := 3 : Machine.Stream }).put (R.EGQ_QUOTA.value 6) 0).laybyBytes ↑6 + recsLen SO.recs ≤ ((so 6 { sseq := 3 : Machine.Stream }).put (R.EGQ_QUOTA.value 6) 0).laybyQuota ↑6)) ∧
      (↑6 = 6 ∨ SO.room = true) ∧
      (((so 6 { sseq := 3 : Machine.Stream }).put (R.EGQ_QUOTA.value 6) 0).stream ↑6).layby = []) :=
  ⟨(by decide +kernel),
   (by decide +kernel),
   (by decide +kernel),
   (by decide +kernel),
   (by decide +kernel)⟩

theorem wit_ControlRequestsServed :
    (let w := (cp 1 1).tick tt; Ready (cp 1 1) ∧ (w.port ↑1).reqs = [(3, rq 1 R.TRK_GAP_SPLIT.addr 5), (4, 9)] ∧
      w.ctrlHeld (↑1) (rq 1 R.TRK_GAP_SPLIT.addr 5) = false ∧ rq 1 R.TRK_GAP_SPLIT.addr 5 % 256 = 1) ∧
    (let w := (cp 1 1).tick tt; Ready (cp 1 1) ∧ (w.port ↑1).reqs = [(3, rq 1 R.TRK_GAP_SPLIT.addr 5), (4, 9)] ∧
      w.ctrlHeld (↑1) (rq 1 R.TRK_GAP_SPLIT.addr 5) = false ∧ rq 1 R.TRK_GAP_SPLIT.addr 5 % 256 ≠ 2) ∧
    (let w := (cp 1 1).tick tt; Ready (cp 1 1) ∧ (w.port ↑1).reqs = [(3, rq 1 R.TRK_GAP_SPLIT.addr 5), (4, 9)] ∧
      w.ctrlHeld (↑1) (rq 1 R.TRK_GAP_SPLIT.addr 5) = false ∧
      (rq 1 R.TRK_GAP_SPLIT.addr 5 % 256 = 1 ∨ rq 1 R.TRK_GAP_SPLIT.addr 5 % 256 = 2)) ∧
    (let w := (cp 1 2).tick tt; Ready (cp 1 2) ∧ (w.port ↑1).reqs = [(3, rq 2 R.TRK_GAP_SPLIT.addr 5), (4, 9)] ∧
      w.ctrlHeld (↑1) (rq 2 R.TRK_GAP_SPLIT.addr 5) = false ∧ rq 2 R.TRK_GAP_SPLIT.addr 5 % 256 = 2 ∧
      ((w.setPort ↑1 { (w.port ↑1) with reqs := [(4, 9)], creditDue := true : Port }).target (rq 2 R.TRK_GAP_SPLIT.addr 5 / 2 ^ 32 % 2 ^ 40) 4 = Target.unmapped ∨ (w.setPort ↑1 { (w.port ↑1) with reqs := [(4, 9)], creditDue := true : Port }).mayWrite (1 + ↑1) (rq 2 R.TRK_GAP_SPLIT.addr 5 / 2 ^ 32 % 2 ^ 40) (rq 2 R.TRK_GAP_SPLIT.addr 5 / 2 ^ 96 % 2 ^ 32) = true)) ∧
    (let w := (cp 1 2).tick tt; Ready (cp 1 2) ∧ (w.port ↑1).reqs = [(3, rq 2 R.TRK_GAP_SPLIT.addr 5), (4, 9)] ∧
      w.ctrlHeld (↑1) (rq 2 R.TRK_GAP_SPLIT.addr 5) = false ∧ rq 2 R.TRK_GAP_SPLIT.addr 5 % 256 ≠ 1) ∧
    (let w := ((cp 0 2).setSess 1 { : Session }).tick tt; Ready ((cp 0 2).setSess 1 { : Session }) ∧
      (w.port ↑0).reqs = [(3, rq 2 R.TRK_GAP_SPLIT.addr 5), (4, 9)] ∧
      w.ctrlHeld (↑0) (rq 2 R.TRK_GAP_SPLIT.addr 5) = false ∧ rq 2 R.TRK_GAP_SPLIT.addr 5 % 256 = 2 ∧
      (w.setPort ↑0 { (w.port ↑0) with reqs := [(4, 9)], creditDue := true : Port }).target (rq 2 R.TRK_GAP_SPLIT.addr 5 / 2 ^ 32 % 2 ^ 40) 4 ≠ Target.unmapped ∧
      (w.setPort ↑0 { (w.port ↑0) with reqs := [(4, 9)], creditDue := true : Port }).mayWrite (1 + ↑0) (rq 2 R.TRK_GAP_SPLIT.addr 5 / 2 ^ 32 % 2 ^ 40) (rq 2 R.TRK_GAP_SPLIT.addr 5 / 2 ^ 96 % 2 ^ 32) = false) ∧
    (let w := (cp 0 3).tick tt; Ready (cp 0 3) ∧ (w.port ↑0).reqs = [(3, rq 3 R.TRK_GAP_SPLIT.addr 5), (4, 9)] ∧
      w.ctrlHeld (↑0) (rq 3 R.TRK_GAP_SPLIT.addr 5) = false ∧ rq 3 R.TRK_GAP_SPLIT.addr 5 % 256 ≠ 1 ∧
      rq 3 R.TRK_GAP_SPLIT.addr 5 % 256 ≠ 2) ∧
    (Ready (ls 3 []) ∧ (((ls 3 []).tick tt).port ↑1).reqs = []) ∧
    (let w := dhs.tick tt; Ready dhs ∧ (w.port ↑0).reqs = [(3, rq 1 a0 5), (4, 9)] ∧ w.ctrlHeld (↑0) (rq 1 a0 5) = true) :=
  ⟨⟨ready_of _ (by decide +kernel), by decide +kernel⟩,
   ⟨ready_of _ (by decide +kernel), by decide +kernel⟩,
   ⟨ready_of _ (by decide +kernel), by decide +kernel⟩,
   ⟨ready_of _ (by decide +kernel), by decide +kernel⟩,
   ⟨ready_of _ (by decide +kernel), by decide +kernel⟩,
   ⟨ready_of _ (by decide +kernel), by decide +kernel⟩,
   ⟨ready_of _ (by decide +kernel), by decide +kernel⟩,
   ⟨ready_of _ (by decide +kernel), by decide +kernel⟩,
   ⟨ready_of _ (by decide +kernel), by decide +kernel⟩⟩

end Parcels

/-! Twin units. -/

namespace TwinUnits

def tt : Nat := 128 * 25300
def PID : Identity := { variant := 8, unit := true, fw := 2^50 + 1, cfg := 2^40+5, pair := 2^63 + 9, family := 0, seed := 0 }
def b45 (x : Twin) (l : List (Field × Nat)) : State := { T ([(R.TB_STATUS.LOCKED, 1), (R.LANE_STATUS.LSTATE 13, 3), (R.LANE_CTL.LANE_EN 13, 1), (R.TW_PAIR_ID_LO.PAIR_ID_LO, 9), (R.TW_PAIR_ID_HI.PAIR_ID_HI, 2^31)] ++ l) with twin := x, variant := 8 }
def te : State := (b45 {} [(R.TW_STATUS.TW_STATE, 1)])
def te2 (s : State) : State := s.setFlag R.TW_CTL.TWIN_EN
def ow (x : Twin) (l : List (Field × Nat)) : State := (b45 x ([(R.TW_STATUS.OWN_HELD, 1), (R.TW_STATUS.TW_STATE, 4)] ++ l)).setDrv 1 { x := some { phi := 4, kind := .regular } }
def cl (st : Nat) (l : List (Field × Nat)) : State := (b45 { keeper := some (tt - 511999), ownSince := tt - 256000 } ([(R.TW_STATUS.TW_STATE, st), (R.GUARD_STATUS.STATE, 2), (R.DRV_CTL.DRV_EN 1, 1)] ++ l))
def st3 : State := { cl 3 [] with twin := { (cl 3 []).twin with released := true } }
def sb : State := b45 {} [(R.TW_STATUS.TW_STATE, 3)]
def sbo : State := (sb.setOp 1 3 (some { w0 := 77 + 5 * 2 ^ 19, fires := [(2, 700), (3, 900)], frame := some 0 })).setFrame 0 0 (some { issued := 1 })
def ND : ShadowNotice := .decision 0 77 5 3 1000 [40] 5000 2 1 0
def al (e : Nat) (c : Bool) : State := b45 { epoch := e, complete := c, partner := some PID } [(R.TW_STATUS.TW_STATE, 2)]
def ac : State := b45 { partner := some PID } [(R.TW_STATUS.TW_STATE, 4), (R.TW_PARTNER.P_STATE, 1)]
def cb : List Byte := [1, 0, 7, 255]
def crcb : Nat := crc32c (cb.map BitVec.toNat)
def alm : State := { al 28 false with twin := { (al 28 false).twin with mirrored := [(lichenBase + 15 * 2^20, 4, 0x55667788), (dramBase, 1, 2)] } }
def cb0 : List Byte := ((wordsNat [R.LINE_OFS.addr, 7]) |> bytesOf 8).map (BitVec.ofNat 8)
def noc (st : Nat) (d : Option Nat) (b : Nat) : State := { b45 { cwyDown := d, copying := true, complete := true } [(R.TW_STATUS.TW_STATE, st), (R.TW_STATUS.PATH_B_OK, b)] with trk := State.reset.trk } |>.put (R.LANE_STATUS.LSTATE 13) 0
def clB (a : Option Nat) (st : Nat) (l : List (Field × Nat)) : State := { (cl st ([(R.TW_STATUS.UNIT, 1)] ++ l)) with twin := { (cl st []).twin with claimAt := a } }

theorem wit_TwinHeard :
    (let w := (b45 { healthy := true, lastSend := some (tt - 256000) : Twin } [(R.TW_STATUS.TW_STATE, 4)]).tick tt;
      Ready (b45 { healthy := true, lastSend := some (tt - 256000) : Twin } [(R.TW_STATUS.TW_STATE, 4)]) ∧
      ((unitItems w).twin.healthy = true ∧ ∀ (l : Nat), (unitItems w).twin.lastSend = some l → l + 256000 ≤ w.now)) ∧
    (let w := (b45 { healthy := true, lastSend := some (tt - 255999) : Twin } []).tick tt;
      Ready (b45 { healthy := true, lastSend := some (tt - 255999) : Twin } []) ∧ (¬((unitItems w).twin.healthy = true ∧
      ∀ (l : Nat), (unitItems w).twin.lastSend = some l → l + 256000 ≤ w.now))) ∧
    (Ready (b45 { cwyDown := some 5 : Twin } []) ∧ ((b45 { cwyDown := some 5 : Twin } []).tick tt).cwyLanes ≠ []) ∧
    (Ready (b45 { lastA := some (tt - 383999) : Twin } []) ∧
      ((b45 { lastA := some (tt - 383999) : Twin } []).tick tt).laneUp (12 + ↑1) = true) ∧
    (Ready (b45 { : Twin } []) ∧ ((b45 { : Twin } []).tick tt).laneUp (12 + ↑3) = false) ∧
    (Ready (b45 { lastB := some (tt - 383999) : Twin } [])) ∧
    (let w := (b45 { lastA := some 7, heard := true : Twin } [(R.TW_STATUS.PATH_A_OK, 1), (R.TW_STATUS.PATH_B_OK, 1)]).tick 1024007;
      Ready (b45 { lastA := some 7, heard := true : Twin } [(R.TW_STATUS.PATH_A_OK, 1), (R.TW_STATUS.PATH_B_OK, 1)]) ∧
      (if ↑0 = 0 then w.twin.lastA else w.twin.lastB) = some 7 ∧
      w.flag (if ↑0 = 0 then R.TW_STATUS.PATH_A_OK else R.TW_STATUS.PATH_B_OK) = true ∧ 7 + 1024000 ≤ w.now ∧
      w.flag (if ↑0 = 0 then R.TW_STATUS.PATH_B_OK else R.TW_STATUS.PATH_A_OK) = true) ∧
    (let w := (b45 { lastA := some 7, heard := true : Twin } [(R.TW_STATUS.PATH_A_OK, 1), (R.TW_STATUS.TW_STATE, 4)]).tick 1024007;
      Ready (b45 { lastA := some 7, heard := true : Twin } [(R.TW_STATUS.PATH_A_OK, 1), (R.TW_STATUS.TW_STATE, 4)]) ∧
      (if ↑0 = 0 then w.twin.lastA else w.twin.lastB) = some 7 ∧
      w.flag (if ↑0 = 0 then R.TW_STATUS.PATH_A_OK else R.TW_STATUS.PATH_B_OK) = true ∧ 7 + 1024000 ≤ w.now ∧
      w.flag (if ↑0 = 0 then R.TW_STATUS.PATH_B_OK else R.TW_STATUS.PATH_A_OK) = false ∧ w.twState = 4) ∧
    (let w := (b45 { lastA := some 7, heard := true : Twin } [(R.TW_STATUS.PATH_A_OK, 1), (R.TW_STATUS.TW_STATE, 2)]).tick 1024007;
      Ready (b45 { lastA := some 7, heard := true : Twin } [(R.TW_STATUS.PATH_A_OK, 1), (R.TW_STATUS.TW_STATE, 2)]) ∧
      (if ↑0 = 0 then w.twin.lastA else w.twin.lastB) = some 7 ∧
      w.flag (if ↑0 = 0 then R.TW_STATUS.PATH_A_OK else R.TW_STATUS.PATH_B_OK) = true ∧ 7 + 1024000 ≤ w.now ∧
      w.flag (if ↑0 = 0 then R.TW_STATUS.PATH_B_OK else R.TW_STATUS.PATH_A_OK) = false ∧ w.twState = 2 ∧
      w.flag R.TW_STATUS.CFG_MATCH = false) ∧
    (let w := (b45 { lastA := some 7, heard := true : Twin } [(R.TW_STATUS.PATH_A_OK, 1), (R.TW_STATUS.TW_STATE, 2)]).tick 1024006;
      Ready (b45 { lastA := some 7, heard := true : Twin } [(R.TW_STATUS.PATH_A_OK, 1), (R.TW_STATUS.TW_STATE, 2)]) ∧
      (if ↑0 = 0 then w.twin.lastA else w.twin.lastB) = some 7 ∧
      w.flag (if ↑0 = 0 then R.TW_STATUS.PATH_A_OK else R.TW_STATUS.PATH_B_OK) = true ∧ w.now < 7 + 1024000) ∧
    (Ready (b45 { : Twin } []) ∧ ((b45 { : Twin } []).tick tt).twinEn = false) ∧
    (Ready (te2 te) ∧ ((te2 te).tick tt).twinEn = true ∧ PID.variant < 16) ∧
    (PID.variant = te.variant ∧
      PID.pair = te.get R.TW_PAIR_ID_LO.PAIR_ID_LO + 2 ^ 32 * te.get R.TW_PAIR_ID_HI.PAIR_ID_HI ∧
      PID.unit = !te.flag R.TW_STATUS.UNIT) ∧
    ({ PID with unit := false : Identity }.variant = te.variant ∧
      { PID with unit := false : Identity }.pair = te.get R.TW_PAIR_ID_LO.PAIR_ID_LO + 2 ^ 32 * te.get R.TW_PAIR_ID_HI.PAIR_ID_HI ∧
      { PID with unit := false : Identity }.unit = te.flag R.TW_STATUS.UNIT) ∧
    ({ PID with variant := 7 : Identity }.variant ≠ te.variant) ∧
    ({ PID with pair := 7 : Identity }.variant = te.variant ∧
      { PID with pair := 7 : Identity }.pair ≠ te.get R.TW_PAIR_ID_LO.PAIR_ID_LO + 2 ^ 32 * te.get R.TW_PAIR_ID_HI.PAIR_ID_HI) ∧
    ((b45 { : Twin } [(R.TW_STATUS.TW_STATE, 1)]).twinEn = false) ∧
    (let w := (te2 te).tick tt; w.twinEn = true ∧ w.cwyLanes ≠ [] ∧
      (∀ (l : Nat), w.twin.identSent = some l → l + 128000000 ≤ w.now)) ∧
    (let w := (noc 4 none 0).tick tt; Ready (noc 4 none 0) ∧ w.cwyLanes = [] ∧
      w.now < w.twin.cwyDown.getD w.now + 1024000) ∧
    (let w := (noc 4 (some 5) 0).tick 1024005; Ready (noc 4 (some 5) 0) ∧ w.cwyLanes = [] ∧
      w.twin.cwyDown.getD w.now + 1024000 ≤ w.now ∧ w.twState = 4) ∧
    (let w := (noc 3 (some 5) 1).tick 1024005; Ready (noc 3 (some 5) 1) ∧ w.cwyLanes = [] ∧
      w.twin.cwyDown.getD w.now + 1024000 ≤ w.now ∧ w.twState = 3 ∧ w.flag R.TW_STATUS.PATH_B_OK = true) ∧
    (let w := (noc 3 (some 5) 0).tick 1024005; Ready (noc 3 (some 5) 0) ∧ w.cwyLanes = [] ∧
      w.twin.cwyDown.getD w.now + 1024000 ≤ w.now ∧ w.twState ≠ 4 ∧
      (w.twState ≠ 3 ∨ w.flag R.TW_STATUS.PATH_B_OK = false)) ∧
    (let w := te.tick tt; Ready te ∧
      ((if ↑1 = 0 then w.twin.lastA else w.twin.lastB) = none ∨ w.flag (if ↑1 = 0 then R.TW_STATUS.PATH_A_OK else R.TW_STATUS.PATH_B_OK) = false)) ∧
    (let w := (b45 { lastA := some 7, heard := true : Twin } [(R.TW_STATUS.PATH_A_OK, 1), (R.TW_STATUS.TW_STATE, 2), (R.TW_STATUS.CFG_MATCH, 1)]).tick 1024007;
      Ready (b45 { lastA := some 7, heard := true : Twin } [(R.TW_STATUS.PATH_A_OK, 1), (R.TW_STATUS.TW_STATE, 2), (R.TW_STATUS.CFG_MATCH, 1)]) ∧
      (if ↑0 = 0 then w.twin.lastA else w.twin.lastB) = some 7 ∧
      w.flag (if ↑0 = 0 then R.TW_STATUS.PATH_A_OK else R.TW_STATUS.PATH_B_OK) = true ∧ 7 + 1024000 ≤ w.now ∧
      w.flag (if ↑0 = 0 then R.TW_STATUS.PATH_B_OK else R.TW_STATUS.PATH_A_OK) = false ∧ w.twState ≠ 4 ∧
      (w.twState ≠ 2 ∨ w.flag R.TW_STATUS.CFG_MATCH = true)) ∧
    (let w := te.tick tt; Ready te ∧ (¬(w.twin.hbSent ≠ [] ∧ ([] : List Nat).length = w.twin.hbSent.length ∧
      w.twin.hbSeen.length = ([] : List Nat).length ∧ ([] : List Nat).length = ([] : List Nat).length))) ∧
    (let w := (b45 { hbSent := [300], hbSeen := [507] : Twin } []).tick tt;
      Ready (b45 { hbSent := [300], hbSeen := [507] : Twin } []) ∧ (w.twin.hbSent ≠ [] ∧
      [700].length = w.twin.hbSent.length ∧ w.twin.hbSeen.length = [500].length ∧ [500].length = [700].length)) :=
  ⟨⟨ready_of _ (by decide +kernel), by decide +kernel⟩,
   ⟨ready_of _ (by decide +kernel), by decide +kernel⟩,
   ⟨ready_of _ (by decide +kernel), by decide +kernel⟩,
   ⟨ready_of _ (by decide +kernel), by decide +kernel⟩,
   ⟨ready_of _ (by decide +kernel), by decide +kernel⟩,
   (ready_of _ (by decide +kernel)),
   ⟨ready_of _ (by decide +kernel), by decide +kernel⟩,
   ⟨ready_of _ (by decide +kernel), by decide +kernel⟩,
   ⟨ready_of _ (by decide +kernel), by decide +kernel⟩,
   ⟨ready_of _ (by decide +kernel), by decide +kernel⟩,
   ⟨ready_of _ (by decide +kernel), by decide +kernel⟩,
   ⟨ready_of _ (by decide +kernel), by decide +kernel⟩,
   (by decide +kernel),
   (by decide +kernel),
   (by decide +kernel),
   (by decide +kernel),
   (by decide +kernel),
   (by decide +kernel),
   ⟨ready_of _ (by decide +kernel), by decide +kernel⟩,
   ⟨ready_of _ (by decide +kernel), by decide +kernel⟩,
   ⟨ready_of _ (by decide +kernel), by decide +kernel⟩,
   ⟨ready_of _ (by decide +kernel), by decide +kernel⟩,
   ⟨ready_of _ (by decide +kernel), by decide +kernel⟩,
   ⟨ready_of _ (by decide +kernel), by decide +kernel⟩,
   ⟨ready_of _ (by decide +kernel), by decide +kernel⟩,
   ⟨ready_of _ (by decide +kernel), by decide +kernel⟩⟩

theorem wit_TwinOwnsAndShadows :
    (let w := (ow { ownHigh := false, keeper := some 9 : Twin } []).tick 512009;
      (ow { ownHigh := false, keeper := some 9 : Twin } []).su.wantSafe = false ∧ w.ownHeld = true ∧
      (∀ (k : Nat), w.twin.keeper = some k → k + 512000 ≤ w.now)) ∧
    (let w := (ow { ownHigh := false, keeper := some 9 : Twin } []).tick 512008;
      (ow { ownHigh := false, keeper := some 9 : Twin } []).su.wantSafe = false ∧
      (w.ownHeld = false ∨ ¬∀ (k : Nat), w.twin.keeper = some k → k + 512000 ≤ w.now)) ∧
    ((ow { : Twin } []).su.wantSafe = false ∧ ((ow { : Twin } []).tick tt).ownHeld = true) ∧
    ((b45 { ownHigh := false, bar := 1, yielded := true : Twin } []).su.wantSafe = false ∧
      ((b45 { ownHigh := false, bar := 1, yielded := true : Twin } []).tick tt).ownHeld = false) ∧
    (let w := (cl 1 []).tick tt; Ready (cl 1 []) ∧ w.claimDue = true ∧ w.claimState = true ∧ w.claimFails = 0 ∧
      w.flag R.TW_STATUS.UNIT = false) ∧
    (let w := st3.tick tt; Ready st3 ∧ w.claimDue = true ∧ w.claimState = true ∧ w.claimFails ≠ 0 ∧
      (w.twState = 2 ∨ w.twState = 3)) ∧
    (let w := (cl 1 [(R.RST_STATUS.NRST_STUCK, 1)]).tick tt; Ready (cl 1 [(R.RST_STATUS.NRST_STUCK, 1)]) ∧
      w.claimDue = true ∧ w.claimState = true ∧ w.claimFails ≠ 0 ∧ w.twState ≠ 2 ∧ w.twState ≠ 3) ∧
    (let w := (cl 4 []).tick tt; Ready (cl 4 []) ∧ (w.claimDue = false ∨ w.claimState = false)) ∧
    (st3.ownHeld = false) ∧
    (((cl 2 []).tick tt).claimDue = true) ∧
    (((cl 2 []).tick tt).twState = 2) ∧
    (((cl 4 []).tick tt).claimFails = 0) ∧
    (((cl 4 []).tick tt).twState = 4) ∧
    (Ready (ow { : Twin } []) ∧ Admits ((ow { : Twin } []).tick tt) 4 R.TW_CTL.addr) ∧
    ((ow { : Twin } []).ownHeld = true ∧ 1 = 1) ∧
    (Ready te ∧ (te.tick tt).standby = false) ∧
    (Ready sbo ∧ (sbo.tick tt).standby = true ∧ ND = ShadowNotice.decision 0 77 5 3 1000 [40] 5000 2 1 0) ∧
    (Ready sbo ∧ (sbo.tick tt).standby = true ∧ ShadowNotice.pulses 0 77 3 [2] = ShadowNotice.pulses 0 77 3 [2]) ∧
    (Ready sbo ∧ (sbo.tick tt).standby = true ∧ ShadowNotice.egress 0 77 3 4 5 6 = ShadowNotice.egress 0 77 3 4 5 6) ∧
    (Ready sb ∧ (sb.tick tt).standby = true) ∧
    (let w := (al 6 false).tick tt; Ready (al 6 false) ∧ w.twState = 2 ∧
      (w.twin.complete = true ∨ mirrorEpoch (frondBase + 5) < w.twin.epoch ∧ mirrorEpoch (frondBase + 5) < 29)) ∧
    (let w := (al 5 false).tick tt; Ready (al 5 false) ∧ w.twState = 2 ∧
      (¬(w.twin.complete = true ∨ mirrorEpoch (frondBase + 5) < w.twin.epoch ∧ mirrorEpoch (frondBase + 5) < 29))) ∧
    (let w := te.tick tt; Ready te ∧ w.twState ≠ 2 ∧ w.twState ≠ 3) ∧
    (let w := ac.tick tt; Ready ac ∧ (w.twState = 4 ∧ w.partnerValid = true ∧
      (w.get R.TW_PARTNER.P_STATE = 1 ∨ w.get R.TW_PARTNER.P_STATE = 2) ∧ w.twin.copying = false ∧ w.cwyLanes ≠ [])) ∧
    (let w := te.tick tt; Ready te ∧ (¬(w.twState = 4 ∧ w.partnerValid = true ∧
      (w.get R.TW_PARTNER.P_STATE = 1 ∨ w.get R.TW_PARTNER.P_STATE = 2) ∧ w.twin.copying = false ∧ w.cwyLanes ≠ []))) ∧
    (let w := (al 6 false).tick tt; Ready (al 6 false) ∧ (¬(w.partnerValid = true ∧ (w.twState = 1 ∧
      5 = 0 ∨ w.twState = 2 ∧ (5 = 0 ∨ 5 = w.twin.epoch)) ∧ cb.length = 4 ∧ crc32c (List.map BitVec.toNat cb) = crcb))) ∧
    (let w := alm.tick tt; Ready alm ∧ (w.partnerValid = true ∧ (w.twState = 1 ∧ 28 = 0 ∨ w.twState = 2 ∧
      (28 = 0 ∨ 28 = w.twin.epoch)) ∧ cb.length = 4 ∧ crc32c (List.map BitVec.toNat cb) = crcb)) ∧
    (let w := { te with twin := { partner := some PID : Twin } : State }.tick tt;
      Ready { te with twin := { partner := some PID : Twin } : State } ∧ (w.partnerValid = true ∧ (w.twState = 1 ∧
      0 = 0 ∨ w.twState = 2 ∧ (0 = 0 ∨ 0 = w.twin.epoch)) ∧ cb0.length = 8 ∧
      crc32c (List.map BitVec.toNat cb0) = crc32c (List.map BitVec.toNat cb0)) ∧ 0 = 0) ∧
    ([1, 0, 7, 255].length ≤ 2 ^ 20 ∧ (∀ (b : Nat), b ∈ [1, 0, 7, 255] → b < 256) ∧
      (¬(epochBase 28 ≤ lichenBase + 15 * 2 ^ 20 + 4 ∧
      lichenBase + 15 * 2 ^ 20 + 4 < epochBase 28 + [1, 0, 7, 255].length))) ∧
    (let w := (clB none 1 []).tick tt; Ready (clB none 1 []) ∧ w.claimDue = true ∧ w.claimState = true ∧
      w.claimFails = 0 ∧ w.flag R.TW_STATUS.UNIT = true ∧ w.twin.claimAt = none) ∧
    (let w := (clB (some (tt - 512000)) 1 []).tick tt; Ready (clB (some (tt - 512000)) 1 []) ∧ w.claimDue = true ∧
      w.claimState = true ∧ w.claimFails = 0 ∧ w.flag R.TW_STATUS.UNIT = true ∧ w.twin.claimAt = some (tt - 512000) ∧
      tt - 512000 + 512000 ≤ w.now) ∧
    (let w := (clB (some (tt - 511999)) 1 []).tick tt; Ready (clB (some (tt - 511999)) 1 []) ∧ w.claimDue = true ∧
      w.claimState = true ∧ w.claimFails = 0 ∧ w.flag R.TW_STATUS.UNIT = true ∧ w.twin.claimAt = some (tt - 511999) ∧
      w.now < tt - 511999 + 512000) ∧
    (((cl 3 []).tick tt).twState = 3) ∧
    (((cl 5 []).tick tt).twState = 5) ∧
    (let w := (cl 1 []).tick tt; (w.twState = 0 ∨ w.twState = 1)) ∧
    (let w := (al 29 false).tick tt; Ready (al 29 false) ∧ (w.partnerValid = true ∧ (w.twState = 1 ∧
      29 = 0 ∨ w.twState = 2 ∧ (29 = 0 ∨ 29 = w.twin.epoch)) ∧ cb.length = 4 ∧
      crc32c (List.map BitVec.toNat cb) = crcb)) ∧
    (let w := (al 31 false).tick tt; Ready (al 31 false) ∧ (w.partnerValid = true ∧ (w.twState = 1 ∧
      31 = 0 ∨ w.twState = 2 ∧ (31 = 0 ∨ 31 = w.twin.epoch)) ∧ ([] : List Nat).length = 0 ∧
      crc32c (List.map BitVec.toNat ([] : List Byte)) = crc32c []) ∧ 0 = 0) ∧
    (let w := (cl 3 []).tick tt; (w.clrFlag (R.DRV_CTL.DRV_EN 1)).claimFails = 0 ∧
      ((w.clrFlag (R.DRV_CTL.DRV_EN 1)).twState = 2 ∨ (w.clrFlag (R.DRV_CTL.DRV_EN 1)).twState = 3)) :=
  ⟨(by decide +kernel),
   (by decide +kernel),
   (by decide +kernel),
   (by decide +kernel),
   ⟨ready_of _ (by decide +kernel), by decide +kernel⟩,
   ⟨ready_of _ (by decide +kernel), by decide +kernel⟩,
   ⟨ready_of _ (by decide +kernel), by decide +kernel⟩,
   ⟨ready_of _ (by decide +kernel), by decide +kernel⟩,
   (by decide +kernel),
   (by decide +kernel),
   (by decide +kernel),
   (by decide +kernel),
   (by decide +kernel),
   ⟨ready_of _ (by decide +kernel), admits_core _ _ (by decide +kernel)⟩,
   (by decide +kernel),
   ⟨ready_of _ (by decide +kernel), by decide +kernel⟩,
   ⟨ready_of _ (by decide +kernel), by decide +kernel⟩,
   ⟨ready_of _ (by decide +kernel), by decide +kernel⟩,
   ⟨ready_of _ (by decide +kernel), by decide +kernel⟩,
   ⟨ready_of _ (by decide +kernel), by decide +kernel⟩,
   ⟨ready_of _ (by decide +kernel), by decide +kernel⟩,
   ⟨ready_of _ (by decide +kernel), by decide +kernel⟩,
   ⟨ready_of _ (by decide +kernel), by decide +kernel⟩,
   ⟨ready_of _ (by decide +kernel), by decide +kernel⟩,
   ⟨ready_of _ (by decide +kernel), by decide +kernel⟩,
   ⟨ready_of _ (by decide +kernel), by decide +kernel⟩,
   ⟨ready_of _ (by decide +kernel), by decide +kernel⟩,
   ⟨ready_of _ (by decide +kernel), by decide +kernel⟩,
   (by decide +kernel),
   ⟨ready_of _ (by decide +kernel), by decide +kernel⟩,
   ⟨ready_of _ (by decide +kernel), by decide +kernel⟩,
   ⟨ready_of _ (by decide +kernel), by decide +kernel⟩,
   (by decide +kernel),
   (by decide +kernel),
   (by decide +kernel),
   ⟨ready_of _ (by decide +kernel), by decide +kernel⟩,
   ⟨ready_of _ (by decide +kernel), by decide +kernel⟩,
   (by decide +kernel)⟩

end TwinUnits

/-! Stream memory. -/

namespace Memory

def tt : Nat := 128 * 25300
def d46 (l : List (Field × Nat)) (m : Mem) : State := { T ([(R.TB_STATUS.LOCKED, 1), (R.MEM_STATUS.MEM_READY, 1), (R.MEM_STATUS.PORTS_USED, 15), (R.MEM_STATUS.CAP_GB, 16), (R.MEM_CFG.LINK_ECC, 1), (R.MEM_CFG.BANK_XOR, 1)] ++ l) with dram := m }
def a0 : Nat := dramBase + 0x12345678
def k0 : Nat := (d46 [] {}).bankKey 0x12345678
def hd46 : State := d46 [] { holds := [(65536 * 9 + k0, tt + 1)] }
def sr : State := d46 [(R.SR_CFG.SR_EN, 1), (R.HEAD_STATUS.RUNNING 0, 1), (R.LTR_NOW.value 0, 50)] {}
def rp : State := d46 [(R.REPLAY_CFG.REPLAY_EN, 1), (R.REPLAY_IDX.REPLAY_IDX_BASE, 3), (R.REPLAY_IDX.REPLAY_IDX_SIZE, 1), (R.REPLAY_SIZE.value, 1)] { staged := [({ stream := 1, time := 30, ofs := 0, len := 64 }, 2^500 + 7)], indexWr := 65536 }
def rd : Reader := { start := 0, end_ := 50, streams := 7, tag := 3, next := 0, aborted := true }
def rr : State := ({ rp with dram := { rp.dram with reader := some rd } }).setFlag R.REQ_STATUS.REQ_BUSY
def rc46 : Reader := { start := 0, end_ := 50, streams := 7, tag := 3, next := 0, aborted := false }
def cp46 : ReplayCopy := { stream := 1, time := 30, ofs := 0, len := 64 }
def rc : State := (({ rp with dram := { rp.dram with reader := some rc46, staged := [], ring := [cp46] } }).setFlag R.REQ_STATUS.REQ_BUSY).setStream 6 { credit := 4 }
def sr2 : State := d46 [(R.SR_CFG.SR_EN, 1)] {}
def rch : State := { rc with dram := { rc.dram with holds := (List.range 4).flatMap (fun _ => (List.range 70).map (fun i => (65536 * 0x1B + rc.bankKey (64 * i + 2 ^ 20 * rc.get R.REPLAY_BASE.value), tt + 1))) } }

theorem wit_DramServedAndReplayed :
    (let w := hd46.tick tt; Ready hd46 ∧ dramBase ≤ a0 ∧ a0 < dramEnd ∧ w.target a0 4 = Target.dram ∧
      w.mayWrite 9 a0 5 = true ∧ w.dramHeld 9 (a0 - dramBase) = true) ∧
    (let w := hd46.tick tt; Ready hd46 ∧ dramBase ≤ a0 ∧ a0 < dramEnd ∧ w.target a0 4 = Target.dram ∧
      w.dram.staged = []) ∧
    (let w := (d46 [] { : Mem }).tick tt; Ready (d46 [] { : Mem }) ∧ dramBase ≤ a0 ∧ a0 < dramEnd ∧
      w.target a0 4 = Target.dram ∧ w.mayWrite 9 a0 5 = true ∧ w.dramHeld 9 (a0 - dramBase) = false) ∧
    (let w := (d46 [(R.REPLAY_CFG.REPLAY_EN, 1), (R.PORT_TRAIN.SR_NOW 2, 1)] { : Mem }).tick tt;
      Ready (d46 [(R.REPLAY_CFG.REPLAY_EN, 1), (R.PORT_TRAIN.SR_NOW 2, 1)] { : Mem }) ∧ dramBase ≤ a0 ∧ a0 < dramEnd ∧
      w.target a0 8 = Target.dram ∧ w.dramHeld 26 (a0 - dramBase) = false) ∧
    ((d46 [] { acts := [(k0, 2047)] : Mem }).dramPort 305419896 < 4 ∧
      (d46 [] { acts := [(k0, 2047)] : Mem }).dram.rows.get 0 ((d46 [] { acts := [(k0, 2047)] : Mem }).bankKey 305419896) ≠ (d46 [] { acts := [(k0, 2047)] : Mem }).dramRow 305419896 + 1 ∧
      (d46 [] { acts := [(k0, 2047)] : Mem }).get R.TOLL_CFG.TOLL_ACT ≤ (d46 [] { acts := [(k0, 2047)] : Mem }).dram.acts.get 0 ((d46 [] { acts := [(k0, 2047)] : Mem }).bankKey 305419896) + 1 ∧
      (d46 [] { acts := [(k0, 2047)] : Mem }).flag R.TOLL_CFG.TOLL_EN = true ∧ tollExempt 9 = false) ∧
    ((d46 [] { acts := [(k0, 2047)] : Mem }).dramPort 305419896 < 4 ∧
      (d46 [] { acts := [(k0, 2047)] : Mem }).dram.rows.get 0 ((d46 [] { acts := [(k0, 2047)] : Mem }).bankKey 305419896) ≠ (d46 [] { acts := [(k0, 2047)] : Mem }).dramRow 305419896 + 1 ∧
      (d46 [] { acts := [(k0, 2047)] : Mem }).get R.TOLL_CFG.TOLL_ACT ≤ (d46 [] { acts := [(k0, 2047)] : Mem }).dram.acts.get 0 ((d46 [] { acts := [(k0, 2047)] : Mem }).bankKey 305419896) + 1 ∧
      ((d46 [] { acts := [(k0, 2047)] : Mem }).flag R.TOLL_CFG.TOLL_EN = false ∨ tollExempt 16 = true)) ∧
    ((d46 [] { acts := [(k0, 2046)] : Mem }).dramPort 305419896 < 4 ∧
      (d46 [] { acts := [(k0, 2046)] : Mem }).dram.rows.get 0 ((d46 [] { acts := [(k0, 2046)] : Mem }).bankKey 305419896) ≠ (d46 [] { acts := [(k0, 2046)] : Mem }).dramRow 305419896 + 1 ∧
      (d46 [] { acts := [(k0, 2046)] : Mem }).dram.acts.get 0 ((d46 [] { acts := [(k0, 2046)] : Mem }).bankKey 305419896) + 1 < (d46 [] { acts := [(k0, 2046)] : Mem }).get R.TOLL_CFG.TOLL_ACT) ∧
    ((d46 [] { acts := [(k0, 2047)], rows := [(k0, (d46 [] { : Mem }).dramRow 305419896 + 1)] : Mem }).dramPort 305419896 < 4 ∧
      (d46 [] { acts := [(k0, 2047)], rows := [(k0, (d46 [] { : Mem }).dramRow 305419896 + 1)] : Mem }).dram.rows.get 0 ((d46 [] { acts := [(k0, 2047)], rows := [(k0, (d46 [] { : Mem }).dramRow 305419896 + 1)] : Mem }).bankKey 305419896) = (d46 [] { acts := [(k0, 2047)], rows := [(k0, (d46 [] { : Mem }).dramRow 305419896 + 1)] : Mem }).dramRow 305419896 + 1) ∧
    ((d46 [] { : Mem }).dramPort 305419896 < 4 ∧ (d46 [] { : Mem }).flag R.MEM_CFG.LINK_ECC = true) ∧
    ((d46 [(R.MEM_CFG.LINK_ECC, 0)] { : Mem }).dramPort 305419896 < 4 ∧
      (d46 [(R.MEM_CFG.LINK_ECC, 0)] { : Mem }).flag R.MEM_CFG.LINK_ECC = false) ∧
    (Ready (d46 [] { acts := [(k0, 2046), (k0 + 1, 4), (k0, 7)] : Mem })) ∧
    (let w := hd46.tick (tt + 1); Ready hd46 ∧ w.dram.holds.get 0 (65536 * 9 + k0) ≤ w.now) ∧
    (let w := hd46.tick tt; Ready hd46 ∧ w.now < w.dram.holds.get 0 (65536 * 9 + k0)) ∧
    (let w := sr.tick tt; Ready sr ∧ (¬(w.flag R.SR_CFG.SR_EN = true ∧ w.flag R.MEM_STATUS.MEM_READY = true ∧
      (w.get R.MEM_STATUS.PORTS_USED).testBit ↑3 = true ∧ w.flag (R.PORT_TRAIN.SR_NOW ↑3) = false ∧
      w.dram.lastAccess.get 0 ↑3 + 128000 * w.get R.SR_CFG.SR_IDLE ≤ w.now ∧ w.srTolerance = true))) ∧
    (let w := (d46 [(R.MEM_CFG.TRACK_THR, 8)] { dqsMoved := [(7, 3)] : Mem }).tick tt;
      Ready (d46 [(R.MEM_CFG.TRACK_THR, 8)] { dqsMoved := [(7, 3)] : Mem }) ∧ (w.flag R.MEM_STATUS.MEM_READY = true ∧
      w.get R.MEM_CFG.TRACK_THR < (-9).natAbs)) ∧
    (let w := (d46 [(R.MEM_CFG.TRACK_THR, 8)] { dqsMoved := [(7, 3)] : Mem }).tick tt;
      Ready (d46 [(R.MEM_CFG.TRACK_THR, 8)] { dqsMoved := [(7, 3)] : Mem }) ∧ (¬(w.flag R.MEM_STATUS.MEM_READY = true ∧
      w.get R.MEM_CFG.TRACK_THR < Int.natAbs 8))) ∧
    (let w := (d46 [] { : Mem }).tick tt; Ready (d46 [] { : Mem }) ∧ (¬(w.flag R.REPLAY_CFG.REPLAY_EN = true ∧
      w.flag R.MEM_STATUS.MEM_READY = true ∧ 0 < w.replayIdxRoom))) ∧
    (let w := rp.tick tt; Ready rp ∧ (w.flag R.REPLAY_CFG.REPLAY_EN = true ∧ w.flag R.MEM_STATUS.MEM_READY = true ∧
      0 < w.replayIdxRoom)) ∧
    (Ready rp ∧ Admits (rp.tick tt) 4 R.REQ_CTL.addr) ∧
    ((rp.put R.REQ_END_LO.END_LO 99).flag R.REQ_STATUS.REQ_BUSY = false) ∧
    ((rp.put R.REQ_END_LO.END_LO 99).dram.reader = none) ∧
    (((rp.put R.REQ_END_LO.END_LO 99).setFlag R.REQ_STATUS.REQ_BUSY).flag R.REQ_STATUS.REQ_BUSY = true) ∧
    (let w := rr.tick tt; Ready rr ∧ w.dram.reader = some rd ∧ w.replayCredit = false) ∧
    (let w := (rr.setStream 6 { credit := 4 : Machine.Stream }).tick tt;
      Ready (rr.setStream 6 { credit := 4 : Machine.Stream }) ∧ w.dram.reader = some rd ∧ w.replayCredit = true ∧
      (rd.aborted = true ∨ List.find? (fun c => decide ({ rd with next := max rd.next (replayStore w).replayFirst, skipped := rd.skipped + ((replayStore w).replayFirst - rd.next) : Reader }.next ≤ c.ofs ∧
      c.time ≤ { rd with next := max rd.next (replayStore w).replayFirst, skipped := rd.skipped + ((replayStore w).replayFirst - rd.next) : Reader }.end_ ∧
      { rd with next := max rd.next (replayStore w).replayFirst, skipped := rd.skipped + ((replayStore w).replayFirst - rd.next) : Reader }.start ≤ c.time) && bit { rd with next := max rd.next (replayStore w).replayFirst, skipped := rd.skipped + ((replayStore w).replayFirst - rd.next) : Reader }.streams (c.stream - 1)) (if (replayStore w).replayFirst - rd.next = 0 then replayStore w else (replayStore w).setFlag R.REQ_STATUS.OVERRUN).dram.ring = none)) ∧
    (Ready rp ∧ (rp.tick tt).dram.reader = none) ∧
    (let w := (d46 [] { staged := [({ stream := 1, time := 30, ofs := 0, len := 64 : ReplayCopy }, 7)] : Mem }).tick tt;
      Ready (d46 [] { staged := [({ stream := 1, time := 30, ofs := 0, len := 64 : ReplayCopy }, 7)] : Mem }) ∧
      dramBase ≤ a0 ∧ a0 < dramEnd ∧ w.target a0 4 = Target.dram ∧ w.dram.staged ≠ []) ∧
    (Ready (d46 [] { : Mem }) ∧ (5 < dramBase ∨ dramEnd ≤ 5)) ∧
    (Ready (T []) ∧ dramBase ≤ a0 ∧ a0 < dramEnd ∧ ((T []).tick tt).target a0 4 ≠ Target.dram) ∧
    (let w := rc.tick tt; Ready rc ∧ w.dram.reader = some rc46 ∧ w.replayCredit = true ∧
      (List.find? (fun c => decide ({ rc46 with next := max rc46.next (replayStore w).replayFirst, skipped := rc46.skipped + ((replayStore w).replayFirst - rc46.next) : Reader }.next ≤ c.ofs ∧
      c.time ≤ { rc46 with next := max rc46.next (replayStore w).replayFirst, skipped := rc46.skipped + ((replayStore w).replayFirst - rc46.next) : Reader }.end_ ∧
      { rc46 with next := max rc46.next (replayStore w).replayFirst, skipped := rc46.skipped + ((replayStore w).replayFirst - rc46.next) : Reader }.start ≤ c.time) && bit { rc46 with next := max rc46.next (replayStore w).replayFirst, skipped := rc46.skipped + ((replayStore w).replayFirst - rc46.next) : Reader }.streams (c.stream - 1)) (if (replayStore w).replayFirst - rc46.next = 0 then replayStore w else (replayStore w).setFlag R.REQ_STATUS.OVERRUN).dram.ring = some cp46) ∧
      rc46.aborted = false ∧
      (if (replayStore w).replayFirst - rc46.next = 0 then replayStore w else (replayStore w).setFlag R.REQ_STATUS.OVERRUN).ringHeld 27 (2 ^ 20 * (if (replayStore w).replayFirst - rc46.next = 0 then replayStore w else (replayStore w).setFlag R.REQ_STATUS.OVERRUN).get R.REPLAY_BASE.value) (2 ^ 20 * (if (replayStore w).replayFirst - rc46.next = 0 then replayStore w else (replayStore w).setFlag R.REQ_STATUS.OVERRUN).get R.REPLAY_SIZE.value) cp46.ofs cp46.len = false) ∧
    (let w := (d46 [] { : Mem }).tick tt; Ready (d46 [] { : Mem }) ∧ dramBase ≤ a0 ∧ a0 < dramEnd ∧
      w.target a0 4 = Target.dram ∧ w.mayWrite 1 a0 5 = false) ∧
    (let w := sr2.tick tt; Ready sr2 ∧ (w.flag R.SR_CFG.SR_EN = true ∧ w.flag R.MEM_STATUS.MEM_READY = true ∧
      (w.get R.MEM_STATUS.PORTS_USED).testBit ↑3 = true ∧ w.flag (R.PORT_TRAIN.SR_NOW ↑3) = false ∧
      w.dram.lastAccess.get 0 ↑3 + 128000 * w.get R.SR_CFG.SR_IDLE ≤ w.now ∧ w.srTolerance = true)) ∧
    ((sr2.put R.SR_CFG.SR_MIN 50).srTolerance = true ∧ 0 < (sr2.put R.SR_CFG.SR_MIN 50).get R.SR_CFG.SR_MIN) ∧
    (let w := rch.tick tt; Ready rch ∧ w.dram.reader = some rc46 ∧ w.replayCredit = true ∧
      (List.find? (fun c => decide ({ rc46 with next := max rc46.next (replayStore w).replayFirst, skipped := rc46.skipped + ((replayStore w).replayFirst - rc46.next) : Reader }.next ≤ c.ofs ∧
      c.time ≤ { rc46 with next := max rc46.next (replayStore w).replayFirst, skipped := rc46.skipped + ((replayStore w).replayFirst - rc46.next) : Reader }.end_ ∧
      { rc46 with next := max rc46.next (replayStore w).replayFirst, skipped := rc46.skipped + ((replayStore w).replayFirst - rc46.next) : Reader }.start ≤ c.time) && bit { rc46 with next := max rc46.next (replayStore w).replayFirst, skipped := rc46.skipped + ((replayStore w).replayFirst - rc46.next) : Reader }.streams (c.stream - 1)) (if (replayStore w).replayFirst - rc46.next = 0 then replayStore w else (replayStore w).setFlag R.REQ_STATUS.OVERRUN).dram.ring = some cp46) ∧
      rc46.aborted = false ∧
      (if (replayStore w).replayFirst - rc46.next = 0 then replayStore w else (replayStore w).setFlag R.REQ_STATUS.OVERRUN).ringHeld 27 (2 ^ 20 * (if (replayStore w).replayFirst - rc46.next = 0 then replayStore w else (replayStore w).setFlag R.REQ_STATUS.OVERRUN).get R.REPLAY_BASE.value) (2 ^ 20 * (if (replayStore w).replayFirst - rc46.next = 0 then replayStore w else (replayStore w).setFlag R.REQ_STATUS.OVERRUN).get R.REPLAY_SIZE.value) cp46.ofs cp46.len = true) :=
  ⟨⟨ready_of _ (by decide +kernel), by decide +kernel⟩,
   ⟨ready_of _ (by decide +kernel), by decide +kernel⟩,
   ⟨ready_of _ (by decide +kernel), by decide +kernel⟩,
   ⟨ready_of _ (by decide +kernel), by decide +kernel⟩,
   (by decide +kernel),
   (by decide +kernel),
   (by decide +kernel),
   (by decide +kernel),
   (by decide +kernel),
   (by decide +kernel),
   (ready_of _ (by decide +kernel)),
   ⟨ready_of _ (by decide +kernel), by decide +kernel⟩,
   ⟨ready_of _ (by decide +kernel), by decide +kernel⟩,
   ⟨ready_of _ (by decide +kernel), by decide +kernel⟩,
   ⟨ready_of _ (by decide +kernel), by decide +kernel⟩,
   ⟨ready_of _ (by decide +kernel), by decide +kernel⟩,
   ⟨ready_of _ (by decide +kernel), by decide +kernel⟩,
   ⟨ready_of _ (by decide +kernel), by decide +kernel⟩,
   ⟨ready_of _ (by decide +kernel), admits_core _ _ (by decide +kernel)⟩,
   (by decide +kernel),
   (by decide +kernel),
   (by decide +kernel),
   ⟨ready_of _ (by decide +kernel), by decide +kernel⟩,
   ⟨ready_of _ (by decide +kernel), by decide +kernel⟩,
   ⟨ready_of _ (by decide +kernel), by decide +kernel⟩,
   ⟨ready_of _ (by decide +kernel), by decide +kernel⟩,
   ⟨ready_of _ (by decide +kernel), by decide +kernel⟩,
   ⟨ready_of _ (by decide +kernel), by decide +kernel⟩,
   ⟨ready_of _ (by decide +kernel), by decide +kernel⟩,
   ⟨ready_of _ (by decide +kernel), by decide +kernel⟩,
   ⟨ready_of _ (by decide +kernel), by decide +kernel⟩,
   (by decide +kernel),
   ⟨ready_of _ (by decide +kernel), by decide +kernel⟩⟩

end Memory

/-! Capture. -/

namespace Capturing

def tt : Nat := 128 * 25300
def c0 (st : Nat) (l : List (Field × Nat)) (x : Capture) : State := { T ([(R.TB_STATUS.LOCKED, 1), (R.CAP_STATUS.CAP_STATE, st), (R.CAP_STATUS.SETUP_NOW, 5), (R.CS_CTL.SETUP_VALID 5, 1), (R.CS_SLOT.SRC_KIND 5 2, 3), (R.CS_SLOT.SRC_SEL 5 2, 3), (R.CS_SLOT.SRC_KIND 5 1, 1), (R.CS_SLOT.SRC_SEL 5 1, 3), (R.CS_PRE.PRE 5, 3), (R.CS_POST.POST 5, 4)] ++ l) with cap := x }
def SM : Sample := { at_ := 2^33 + 70, data := 2^64 - 5 }
def fs (k : Nat) (his : List (Nat × Nat)) (st : Nat) : State := (c0 1 [] { stored := st, his := his }).setCslot k { fifo := [SM, { SM with at_ := 5 }] }
def av (st : Nat) (e : Nat) : State := (c0 st [(R.CS_CTL.AVG_US 5, 7)] { stored := 9, his := [(3, 1)] }).setCslot 2 { avg := some (2^33, 65535, -9), avgEnd := e }
def tmo (st : Nat) (l : List (Field × Nat)) : State := c0 st ([(R.TC_CTL.KIND 5 3, 3), (R.TC_CTL.TC_SLOT 5 3, 2), (R.TC_A.A 5 3, 5000)] ++ l) { stored := 9, samples := 9, his := [(0, 0)], conds := [(3, { run := some 20300, timer := 20400 })], next := some (32, 6, none) }
def GT : CapTrig := { mask := 2, cause := 1, pos := 6, before := 5, upto := 6, time := 25000, met := 25000 }
def tg (st : Nat) (r : Option CapTrig) : State := ((c0 st [] { stored := 9, samples := 9, his := [(0, 0)], report := r }).store (captureBase + 64) 8 2).store (captureBase + 64 + 16 * 4) 8 1
def clp : State := c0 2 [] { stored := 1048580, startRec := 10, samples := 9, his := [(0, 0)], isClipped := true, clipped := 4, trig := some GT }
def tmn (l : List (Field × Nat)) : State := { tmo 1 l with cap := { (tmo 1 l).cap with next := none } }

theorem wit_CaptureArmedTriggeredRead :
    ((c0 3 [(R.CAP_LOST.LOST, 8)] { stored := 7, next := some (1, 2, none) : Capture }).capLoaded 5 = true ∧
      (¬((c0 3 [(R.CAP_LOST.LOST, 8)] { stored := 7, next := some (1, 2, none) : Capture }).capState = 1 ∨ (c0 3 [(R.CAP_LOST.LOST, 8)] { stored := 7, next := some (1, 2, none) : Capture }).capState = 2 ∨ (c0 3 [(R.CAP_LOST.LOST, 8)] { stored := 7, next := some (1, 2, none) : Capture }).capState = 4))) ∧
    ((c0 4 [] { : Capture }).capLoaded 5 = true ∧
      ((c0 4 [] { : Capture }).capState = 1 ∨ (c0 4 [] { : Capture }).capState = 2 ∨ (c0 4 [] { : Capture }).capState = 4)) ∧
    ((c0 0 [] { : Capture }).capLoaded 15 = false) ∧
    (Ready (fs 1 [] 0) ∧ (((fs 1 [] 0).tick tt).cslot ↑7).fifo = []) ∧
    (let w := ((fs 1 [] 0).put R.CAP_STATUS.CAP_STATE 3).tick tt; Ready ((fs 1 [] 0).put R.CAP_STATUS.CAP_STATE 3) ∧
      w.capState ≠ 1 ∧ w.capState ≠ 2) ∧
    (let w := (fs 1 [] 0).tick tt; Ready (fs 1 [] 0) ∧ (w.cslot ↑1).fifo = [SM, { SM with at_ := 5 : Sample }] ∧
      (w.capState = 1 ∨ w.capState = 2) ∧ w.get (R.CS_SLOT.SRC_KIND w.capSetup ↑1) = 1) ∧
    (let w := (fs 1 [] 0).tick tt; Ready (fs 1 [] 0) ∧ (w.cap.his = [] ∨ ∃ i l, w.cap.his = (i, SM.at_ / 2 ^ 32) :: l) ∧
      (w.cslot ↑1).fifo = [SM, { SM with at_ := 5 : Sample }] ∧ w.capState = 1 ∧ w.cap.trig = none ∧
      w.cap.report = none ∧ w.cap.next = none ∧ SM.met = 0 ∧ (w.cslot ↑1).lost = 0 ∧
      (w.get (R.CS_SLOT.SRC_KIND w.capSetup ↑1) = 1 ∨ w.get (R.CS_CTL.AVG_US w.capSetup) = 0)) ∧
    (let w := (fs 2 [(3, 2)] 1048571).tick tt; Ready (fs 2 [(3, 2)] 1048571) ∧
      (w.cslot ↑2).fifo = [SM, { SM with at_ := 5 : Sample }] ∧ (w.capState = 1 ∨ w.capState = 2) ∧
      (¬w.get (R.CS_SLOT.SRC_KIND w.capSetup ↑2) = 1) ∧ (¬w.get (R.CS_CTL.AVG_US w.capSetup) ≠ 0)) ∧
    (let w := (fs 2 [(3, 1)] 1048571).tick tt; Ready (fs 2 [(3, 1)] 1048571) ∧
      (w.cslot ↑2).fifo = [SM, { SM with at_ := 5 : Sample }] ∧ w.capState = 1 ∧ w.cap.trig = none ∧
      w.cap.report = none ∧ w.cap.next = none ∧ SM.met = 0 ∧ (w.cslot ↑2).lost = 0 ∧
      (w.get (R.CS_SLOT.SRC_KIND w.capSetup ↑2) = 1 ∨ w.get (R.CS_CTL.AVG_US w.capSetup) = 0) ∧ w.cap.his = [(3, 1)] ∧
      1 ≠ SM.at_ / 2 ^ 32) ∧
    (let w := (av 1 25301).tick tt; Ready (av 1 25301) ∧
      (w.get (R.CS_CTL.AVG_US w.capSetup) = 0 ∨ w.ns < (w.cslot ↑2).avgEnd)) ∧
    (let w := (av 0 2).tick tt; Ready (av 0 2) ∧ w.capState ≠ 1 ∧ w.capState ≠ 2) ∧
    (let w := (av 1 25300).tick tt; Ready (av 1 25300) ∧
      (∀ (m : Sample) (r : List Sample), (w.cslot ↑2).fifo = m :: r → (w.cslot ↑2).avgEnd ≤ m.at_) ∧
      (w.cslot ↑2).avg = some (2 ^ 33, 65535, -9) ∧ w.capState = 1 ∧ w.cap.trig = none ∧ w.cap.report = none ∧
      w.cap.next = none ∧ (w.cslot ↑2).lost = 0 ∧ 0 < w.get (R.CS_CTL.AVG_US w.capSetup) ∧ (w.cslot ↑2).avgEnd ≤ w.ns) ∧
    (let w := (tmo 1 []).tick (tt - 128); Ready (tmo 1 []) ∧
      ((w.ns < match (w.cap.conds.get { : CapCond } ↑3).run with | some r => min ((w.cap.conds.get { : CapCond } ↑3).timer + w.get (R.TC_A.A w.capSetup ↑3)) (r + w.get (R.TC_A.A w.capSetup ↑3)) | none => (w.cap.conds.get { : CapCond } ↑3).timer + w.get (R.TC_A.A w.capSetup ↑3)) ∨ w.get (R.TC_CTL.KIND w.capSetup ↑3) ≠ 3)) ∧
    (let w := (tmo 1 []).tick tt; Ready (tmo 1 []) ∧
      (match (w.cap.conds.get { : CapCond } ↑3).run with | some r => min ((w.cap.conds.get { : CapCond } ↑3).timer + w.get (R.TC_A.A w.capSetup ↑3)) (r + w.get (R.TC_A.A w.capSetup ↑3)) | none => (w.cap.conds.get { : CapCond } ↑3).timer + w.get (R.TC_A.A w.capSetup ↑3)) ≤ w.ns ∧
      w.get (R.TC_CTL.KIND w.capSetup ↑3) = 3 ∧ (w.capState = 1 ∨ w.capState = 2)) ∧
    (let w := (tg 1 none).tick tt; Ready (tg 1 none) ∧ (w.cap.report = none ∨ w.capState ≠ 1)) ∧
    (let w := (tg 1 (some GT)).tick tt; Ready (tg 1 (some GT)) ∧ w.cap.report = some GT ∧ w.capState = 1) ∧
    (Ready (tg 1 (some GT)) ∧ Admits ((tg 1 (some GT)).tick tt) 4 R.CAP_CTL.addr) ∧
    ((((tg 1 none).setFlag (R.CS_CTL.FORCE_EN 5)).capState = 1 ∧
      ((tg 1 none).setFlag (R.CS_CTL.FORCE_EN 5)).flag (R.CS_CTL.FORCE_EN ((tg 1 none).setFlag (R.CS_CTL.FORCE_EN 5)).capSetup) = true ∧
      ((tg 1 none).setFlag (R.CS_CTL.FORCE_EN 5)).cap.next = none)) ∧
    ((¬((tg 1 none).capState = 1 ∧ (tg 1 none).flag (R.CS_CTL.FORCE_EN (tg 1 none).capSetup) = true ∧
      (tg 1 none).cap.next = none))) ∧
    (((tg 1 none).capState = 1 ∨ (tg 1 none).capState = 2) ∧ (tg 1 none).flag R.CAP_CTL.AUTO_READ = false ∧
      (tg 1 none).cap.isClipped = false) ∧
    ((clp.capState = 1 ∨ clp.capState = 2) ∧ clp.flag R.CAP_CTL.AUTO_READ = false) ∧
    ((tg 4 none).capState ≠ 1 ∧ (tg 4 none).capState ≠ 2) ∧
    ((tg 4 none).capState ≠ 3) ∧
    ((tg 3 none).capState = 3) ∧
    (let w := ((tg 1 none).setFlag (R.CS_CTL.XTRIG_IN 5)).tick tt; Ready ((tg 1 none).setFlag (R.CS_CTL.XTRIG_IN 5)) ∧
      (w.capState = 1 ∧ w.flag (R.CS_CTL.XTRIG_IN w.capSetup) = true ∧ w.cap.next = none)) ∧
    (let w := (tg 1 none).tick tt; Ready (tg 1 none) ∧ (¬(w.capState = 1 ∧
      w.flag (R.CS_CTL.XTRIG_IN w.capSetup) = true ∧ w.cap.next = none))) ∧
    (Ready (c0 0 [] { : Capture }) ∧ Admits ((c0 0 [] { : Capture }).tick tt) 4 R.CAP_ARM.addr) ∧
    (let w := ((fs 2 [] 0).put (R.CS_CTL.AVG_US 5) 7).tick tt; Ready ((fs 2 [] 0).put (R.CS_CTL.AVG_US 5) 7) ∧
      (w.cslot ↑2).fifo = [SM, { SM with at_ := 5 : Sample }] ∧ (w.capState = 1 ∨ w.capState = 2) ∧
      (¬w.get (R.CS_SLOT.SRC_KIND w.capSetup ↑2) = 1) ∧ w.get (R.CS_CTL.AVG_US w.capSetup) ≠ 0) ∧
    (let w := (tmo 0 []).tick tt; Ready (tmo 0 []) ∧ w.capState ≠ 1 ∧ w.capState ≠ 2) ∧
    (let w := (tmn []).tick tt; Ready (tmn []) ∧
      (match (w.cap.conds.get { : CapCond } ↑3).run with | some r => min ((w.cap.conds.get { : CapCond } ↑3).timer + w.get (R.TC_A.A w.capSetup ↑3)) (r + w.get (R.TC_A.A w.capSetup ↑3)) | none => (w.cap.conds.get { : CapCond } ↑3).timer + w.get (R.TC_A.A w.capSetup ↑3)) ≤ w.ns ∧
      w.get (R.TC_CTL.KIND w.capSetup ↑3) = 3 ∧ (w.capState = 1 ∨ w.capState = 2) ∧ w.capState = 1 ∧ w.cap.trig = none ∧
      w.cap.report = none ∧ w.cap.next = none) :=
  ⟨(by decide +kernel),
   (by decide +kernel),
   (by decide +kernel),
   ⟨ready_of _ (by decide +kernel), by decide +kernel⟩,
   ⟨ready_of _ (by decide +kernel), by decide +kernel⟩,
   ⟨ready_of _ (by decide +kernel), by decide +kernel⟩,
   ⟨ready_of _ (by decide +kernel), Or.inl (by decide +kernel), by decide +kernel⟩,
   ⟨ready_of _ (by decide +kernel), by decide +kernel⟩,
   ⟨ready_of _ (by decide +kernel), by decide +kernel⟩,
   ⟨ready_of _ (by decide +kernel), by decide +kernel⟩,
   ⟨ready_of _ (by decide +kernel), by decide +kernel⟩,
   ⟨ready_of _ (by decide +kernel), fun _ _ e => absurd (e.symm.trans (by decide +kernel)) (List.cons_ne_nil _ _), by decide +kernel⟩,
   ⟨ready_of _ (by decide +kernel), by decide +kernel⟩,
   ⟨ready_of _ (by decide +kernel), by decide +kernel⟩,
   ⟨ready_of _ (by decide +kernel), by decide +kernel⟩,
   ⟨ready_of _ (by decide +kernel), by decide +kernel⟩,
   ⟨ready_of _ (by decide +kernel), admits_core _ _ (by decide +kernel)⟩,
   (by decide +kernel),
   (by decide +kernel),
   (by decide +kernel),
   (by decide +kernel),
   (by decide +kernel),
   (by decide +kernel),
   (by decide +kernel),
   ⟨ready_of _ (by decide +kernel), by decide +kernel⟩,
   ⟨ready_of _ (by decide +kernel), by decide +kernel⟩,
   ⟨ready_of _ (by decide +kernel), admits_core _ _ (by decide +kernel)⟩,
   ⟨ready_of _ (by decide +kernel), by decide +kernel⟩,
   ⟨ready_of _ (by decide +kernel), by decide +kernel⟩,
   ⟨ready_of _ (by decide +kernel), by decide +kernel⟩⟩

end Capturing

/-! Housekeeping. -/

namespace Housekeeping_

def tt : Nat := 128 * 25300
def h0 (l : List (Field × Nat)) (x : Housekeeping) : State := { T ([(R.TB_STATUS.LOCKED, 1)] ++ l) with hk := x }
def sq (l : List (Field × Nat)) (x : Housekeeping) : State := h0 ([(R.HK_CTL.SEQ_EN, 1), (R.HK_CTL.SEQ_LAST, 3), (R.HK_STATUS.SEQ_POS, 3), (R.SEQ_ENTRY.INPUT 3, 31), (R.SEQ_ENTRY.REPEAT_M1 3, 2), (R.SEQ_ENTRY.DELAY 3, 4)] ++ l) x
def sp (l : List (Field × Nat)) (x : SensorPort) : State := h0 ([(R.SP_CFG.PORT_EN 7, 1), (R.SP_CFG.GAIN 7, 7)] ++ l) { ports := [(7, x)] }
def sq0 (l : List (Field × Nat)) (x : Housekeeping) (w : Nat) : State := sq l { x with seqWord := w }
def sqp (w : Nat) : State := sq0 [(R.SP_OUT.OUT 7, 2^32-5)] { ports := [(7, { made := true, tags := 768, at_ := 77000999 })], seqAt := 4000 } w
def pe : State := h0 [(R.SP_STATUS.WIREBREAK 7, 1), (R.SP_STATUS.SETTLING 7, 1)] { ports := [(7, { made := true, tags := 768, at_ := 77000999, hist := [(3, true)], change := some 4, broken := true })] }
def pe2 : State := (pe.put (R.SP_CFG.CURVE 7) 7).setFlag (R.SP_CFG.PORT_EN 7)
def pvs : List Int := List.replicate 100 (-7)
def pvf : List Int := List.replicate 100 1
def sp1 (l : List (Field × Nat)) (x : SensorPort) : State := sp ([(R.SP_REF.REF_CENTI 7, 1)] ++ l) x
def spBk (x : SensorPort) (l : List (Field × Nat)) : State := sp1 l { x with good := -7, hist := [(3, true)], made := true }

theorem wit_ResultQueueNeverOverwrites :
    (256 ≤ { (T [(R.RQ_DROP_COUNT.DROPS, 2 ^ 32 - 1)]) with hk := { rq := List.replicate 256 (1, 2) : Housekeeping } : State }.hk.rq.length) ∧
    ({ (T []) with hk := { rq := List.replicate 255 (1, 2), gap := true : Housekeeping } : State }.hk.rq.length < 256) ∧
    (5 + 2048 < 2 ^ 32 ∧ bit 5 11 = false) :=
  ⟨(by decide +kernel),
   (by decide +kernel),
   (by decide +kernel)⟩

theorem wit_HousekeepingMeasures :
    (let w := (h0 [(R.HK_CTL.SUP_EN, 0)] { : Housekeeping }).tick tt;
      Ready (h0 [(R.HK_CTL.SUP_EN, 0)] { : Housekeeping }) ∧ w.capState ≠ 1 ∧ w.capState ≠ 2 ∧
      w.flag R.HK_CTL.SUP_EN = false) ∧
    (let w := (h0 [(R.SUP_STATUS.SUP_NOW, 255), (R.SUP_WIN.SUP_LO 7, 2000)] { : Housekeeping }).tick tt;
      Ready (h0 [(R.SUP_STATUS.SUP_NOW, 255), (R.SUP_WIN.SUP_LO 7, 2000)] { : Housekeeping }) ∧ w.capState ≠ 1 ∧
      w.capState ≠ 2 ∧ w.flag R.HK_CTL.SUP_EN = true ∧ (¬↑2000 < w.get (R.SUP_WIN.SUP_LO ↑7) ∧
      ↑2000 ≤ w.get (R.SUP_WIN.SUP_HI ↑7))) ∧
    (let w := (h0 [(R.SUP_WIN.SUP_LO 7, 2000)] { : Housekeeping }).tick tt;
      Ready (h0 [(R.SUP_WIN.SUP_LO 7, 2000)] { : Housekeeping }) ∧ w.capState ≠ 1 ∧ w.capState ≠ 2 ∧
      w.flag R.HK_CTL.SUP_EN = true ∧ (¬(¬↑1999 < w.get (R.SUP_WIN.SUP_LO ↑7) ∧ ↑1999 ≤ w.get (R.SUP_WIN.SUP_HI ↑7))) ∧
      w.hk.outside.get 0 ↑7 + 1 < max 1 (w.get R.SUP_DWELL.value)) ∧
    (let w := (h0 [(R.SUP_WIN.SUP_LO 7, 2000), (R.SUP_STATUS.SUP_NOW, 255)] { outside := [(7, 3)] : Housekeeping }).tick tt;
      Ready (h0 [(R.SUP_WIN.SUP_LO 7, 2000), (R.SUP_STATUS.SUP_NOW, 255)] { outside := [(7, 3)] : Housekeeping }) ∧
      w.capState ≠ 1 ∧ w.capState ≠ 2 ∧ w.flag R.HK_CTL.SUP_EN = true ∧ (¬(¬↑1999 < w.get (R.SUP_WIN.SUP_LO ↑7) ∧
      ↑1999 ≤ w.get (R.SUP_WIN.SUP_HI ↑7))) ∧ max 1 (w.get R.SUP_DWELL.value) ≤ w.hk.outside.get 0 ↑7 + 1 ∧
      bit (w.get R.SUP_STATUS.SUP_NOW) ↑7 = true) ∧
    (let w := (h0 [(R.SUP_WIN.SUP_LO 7, 2000)] { outside := [(7, 3)] : Housekeeping }).tick tt;
      Ready (h0 [(R.SUP_WIN.SUP_LO 7, 2000)] { outside := [(7, 3)] : Housekeeping }) ∧ w.capState ≠ 1 ∧ w.capState ≠ 2 ∧
      w.flag R.HK_CTL.SUP_EN = true ∧ (¬(¬↑1999 < w.get (R.SUP_WIN.SUP_LO ↑7) ∧ ↑1999 ≤ w.get (R.SUP_WIN.SUP_HI ↑7))) ∧
      max 1 (w.get R.SUP_DWELL.value) ≤ w.hk.outside.get 0 ↑7 + 1 ∧ bit (w.get R.SUP_STATUS.SUP_NOW) ↑7 = false) ∧
    (let w := (h0 [(R.HK_STATUS.SEQ_POS, 5)] { : Housekeeping }).tick tt;
      Ready (h0 [(R.HK_STATUS.SEQ_POS, 5)] { : Housekeeping }) ∧ Admits w 4 R.HK_CTL.addr ∧
      w.flag R.HK_CTL.SEQ_EN = false) ∧
    ((spRaw 1 1097347 4000000 9).snd = false) ∧
    ((spRaw 7 (-1097347) 4000000 9).snd = true) ∧
    (let w := (h0 [(R.SP_CFG.KIND 7, 2)] { : Housekeeping }).tick tt;
      Ready (h0 [(R.SP_CFG.KIND 7, 2)] { : Housekeeping }) ∧ Admits w 4 (R.SP_CFG.addr ↑7) ∧
      (¬(w.get (R.SP_CFG.MLEN ↑7) = 3 ∧ w.get (R.SP_CFG.Q_M1 ↑7) = 2))) ∧
    ((h0 [] { : Housekeeping }).get (R.SP_CFG.CURVE 7) = 0) ∧
    ((h0 [(R.SP_CFG.CURVE 7, 7)] { : Housekeeping }).get (R.SP_CFG.CURVE 7) ≠ 0 ∧
      (((h0 [(R.SP_CFG.CURVE 7, 7)] { : Housekeeping }).get (R.SP_CFG.CURVE 7) = 1 ∨ (h0 [(R.SP_CFG.CURVE 7, 7)] { : Housekeeping }).get (R.SP_CFG.CURVE 7) = 2 ∨ (h0 [(R.SP_CFG.CURVE 7, 7)] { : Housekeeping }).get (R.SP_CFG.CURVE 7) = 7) ∧
      ((h0 [(R.SP_CFG.CURVE 7, 7)] { : Housekeeping }).get (R.SP_CFG.KIND 7) ≠ 0 ∨ (h0 [(R.SP_CFG.CURVE 7, 7)] { : Housekeeping }).get (R.SP_REF.REF_CENTI 7) = 0) ∨ (3 ≤ (h0 [(R.SP_CFG.CURVE 7, 7)] { : Housekeeping }).get (R.SP_CFG.CURVE 7) ∧
      (h0 [(R.SP_CFG.CURVE 7, 7)] { : Housekeeping }).get (R.SP_CFG.CURVE 7) ≤ 6) ∧
      (h0 [(R.SP_CFG.CURVE 7, 7)] { : Housekeeping }).get (R.SP_CFG.KIND 7) ≠ 2)) ∧
    ((h0 [(R.SP_CFG.CURVE 7, 7), (R.SP_REF.REF_CENTI 7, 7)] { : Housekeeping }).get (R.SP_CFG.CURVE 7) ≠ 0 ∧
      (¬(((h0 [(R.SP_CFG.CURVE 7, 7), (R.SP_REF.REF_CENTI 7, 7)] { : Housekeeping }).get (R.SP_CFG.CURVE 7) = 1 ∨ (h0 [(R.SP_CFG.CURVE 7, 7), (R.SP_REF.REF_CENTI 7, 7)] { : Housekeeping }).get (R.SP_CFG.CURVE 7) = 2 ∨ (h0 [(R.SP_CFG.CURVE 7, 7), (R.SP_REF.REF_CENTI 7, 7)] { : Housekeeping }).get (R.SP_CFG.CURVE 7) = 7) ∧
      ((h0 [(R.SP_CFG.CURVE 7, 7), (R.SP_REF.REF_CENTI 7, 7)] { : Housekeeping }).get (R.SP_CFG.KIND 7) ≠ 0 ∨ (h0 [(R.SP_CFG.CURVE 7, 7), (R.SP_REF.REF_CENTI 7, 7)] { : Housekeeping }).get (R.SP_REF.REF_CENTI 7) = 0) ∨ (3 ≤ (h0 [(R.SP_CFG.CURVE 7, 7), (R.SP_REF.REF_CENTI 7, 7)] { : Housekeeping }).get (R.SP_CFG.CURVE 7) ∧
      (h0 [(R.SP_CFG.CURVE 7, 7), (R.SP_REF.REF_CENTI 7, 7)] { : Housekeeping }).get (R.SP_CFG.CURVE 7) ≤ 6) ∧
      (h0 [(R.SP_CFG.CURVE 7, 7), (R.SP_REF.REF_CENTI 7, 7)] { : Housekeeping }).get (R.SP_CFG.KIND 7) ≠ 2))) ∧
    (Ready (h0 [] { : Housekeeping }) ∧ ((h0 [] { : Housekeeping }).tick tt).flag (R.SP_STATUS.CURVE_BUSY ↑7) = false) ∧
    (let w := (sq0 [] { seqTail := [(31, 24301), (3, 30000)] : Housekeeping } 31).tick tt;
      Ready (sq0 [] { seqTail := [(31, 24301), (3, 30000)] : Housekeeping } 31) ∧
      w.hk.seqTail = [(31, 24301), (3, 30000)] ∧ w.ns < 24301 + 1000) ∧
    (let w := (sq0 [] { seqTail := [(31, 24300), (3, 30000)] : Housekeeping } 31).tick tt;
      Ready (sq0 [] { seqTail := [(31, 24300), (3, 30000)] : Housekeeping } 31) ∧
      w.hk.seqTail = [(31, 24300), (3, 30000)] ∧ 24300 + 1000 ≤ w.ns) ∧
    (let w := (h0 [] { : Housekeeping }).tick tt; Ready (h0 [] { : Housekeeping }) ∧ w.hk.seqTail = [] ∧
      w.flag R.HK_CTL.SEQ_EN = false) ∧
    (let w := (sq0 [] { seqLeft := 1, seqAt := 24301 : Housekeeping } 31).tick tt;
      Ready (sq0 [] { seqLeft := 1, seqAt := 24301 : Housekeeping } 31) ∧ w.hk.seqTail = [] ∧
      w.flag R.HK_CTL.SEQ_EN = true ∧ w.hk.seqWord % 64 < 32 ∧ w.ns < w.seqStartAt 128 w.hk.seqAt + 1000) ∧
    (let w := (sq0 [] { seqLeft := 1, seqAt := 4000 : Housekeeping } 31).tick tt;
      Ready (sq0 [] { seqLeft := 1, seqAt := 4000 : Housekeeping } 31) ∧ w.hk.seqTail = [] ∧
      w.flag R.HK_CTL.SEQ_EN = true ∧ w.hk.seqWord % 64 < 32 ∧ w.seqStartAt 128 w.hk.seqAt + 1000 ≤ w.ns) ∧
    (let w := (sq0 [] { seqAt := 4000 : Housekeeping } 39).tick (128 * 3999);
      Ready (sq0 [] { seqAt := 4000 : Housekeeping } 39) ∧ w.hk.seqTail = [] ∧ w.flag R.HK_CTL.SEQ_EN = true ∧
      32 ≤ w.hk.seqWord % 64 ∧ w.ns < w.hk.seqAt) ∧
    (let w := (sq0 [] { seqAt := 4000 : Housekeeping } 40).tick (128 * 4000);
      Ready (sq0 [] { seqAt := 4000 : Housekeeping } 40) ∧ w.hk.seqTail = [] ∧ w.flag R.HK_CTL.SEQ_EN = true ∧
      40 ≤ w.hk.seqWord % 64 ∧ w.hk.seqAt ≤ w.ns) ∧
    (let w := (sqp 39).tick (128 * 4000); Ready (sqp 39) ∧ w.hk.seqTail = [] ∧ w.flag R.HK_CTL.SEQ_EN = true ∧
      w.hk.seqWord % 64 = 32 + 7 ∧ w.hk.seqAt ≤ w.ns) ∧
    (let w := pe.tick tt; Ready pe ∧ Admits w 4 (R.SP_CFG.addr ↑7) ∧ (¬(w.get (R.SP_CFG.MLEN ↑7) = 3 ∧
      w.get (R.SP_CFG.Q_M1 ↑7) = 2)) ∧ w.flag (R.SP_CFG.PORT_EN ↑7) = false) ∧
    (let w := pe2.tick tt; Ready pe2 ∧ Admits w 4 (R.SP_CFG.addr ↑7) ∧ (¬(w.get (R.SP_CFG.MLEN ↑7) = 3 ∧
      w.get (R.SP_CFG.Q_M1 ↑7) = 2)) ∧ w.flag (R.SP_CFG.PORT_EN ↑7) = true) ∧
    (Ready (h0 [] { : Housekeeping }) ∧ ((h0 [] { : Housekeeping }).tick tt).flag (R.SP_CFG.PORT_EN ↑7) = false) ∧
    (let w := (spBk { : SensorPort } []).tick tt; Ready (spBk { : SensorPort } []) ∧
      w.flag (R.SP_CFG.PORT_EN ↑7) = true ∧ ((∃ c, (w.sport ↑7).change = some c ∧
      w.ns < c + w.spPulse ↑7) → (w.setSport ↑7 (w.sport ↑7)).spBroken ↑7 { volts := pvs.zip pvf, comply := false : Pulse } = true) ∧
      ((¬∃ c, (w.sport ↑7).change = some c ∧
      w.ns < c + w.spPulse ↑7) → (w.setSport ↑7 { (w.sport ↑7) with level := w.get (R.SP_CFG.EXC_LEVEL ↑7) : SensorPort }).spBroken ↑7 { volts := pvs.zip pvf, comply := false : Pulse } = true)) :=
  ⟨⟨ready_of _ (by decide +kernel), by decide +kernel⟩,
   ⟨ready_of _ (by decide +kernel), by decide +kernel⟩,
   ⟨ready_of _ (by decide +kernel), by decide +kernel⟩,
   ⟨ready_of _ (by decide +kernel), by decide +kernel⟩,
   ⟨ready_of _ (by decide +kernel), by decide +kernel⟩,
   ⟨ready_of _ (by decide +kernel), admits_core _ _ (by decide +kernel), by decide +kernel⟩,
   (by decide +kernel),
   (by decide +kernel),
   ⟨ready_of _ (by decide +kernel), admits_core _ _ (by decide +kernel), by decide +kernel⟩,
   (by decide +kernel),
   (by decide +kernel),
   (by decide +kernel),
   ⟨ready_of _ (by decide +kernel), by decide +kernel⟩,
   ⟨ready_of _ (by decide +kernel), by decide +kernel⟩,
   ⟨ready_of _ (by decide +kernel), by decide +kernel⟩,
   ⟨ready_of _ (by decide +kernel), by decide +kernel⟩,
   ⟨ready_of _ (by decide +kernel), by decide +kernel⟩,
   ⟨ready_of _ (by decide +kernel), by decide +kernel⟩,
   ⟨ready_of _ (by decide +kernel), by decide +kernel⟩,
   ⟨ready_of _ (by decide +kernel), by decide +kernel⟩,
   ⟨ready_of _ (by decide +kernel), by decide +kernel⟩,
   ⟨ready_of _ (by decide +kernel), admits_core _ _ (by decide +kernel), by decide +kernel⟩,
   ⟨ready_of _ (by decide +kernel), admits_core _ _ (by decide +kernel), by decide +kernel⟩,
   ⟨ready_of _ (by decide +kernel), by decide +kernel⟩,
   ⟨ready_of _ (by decide +kernel), by decide +kernel⟩⟩

end Housekeeping_

/-! Temperature and calibration. -/

namespace ThermalAndCal

def tt : Nat := 128 * 25300
def th (l : List (Field × Nat)) (x : Thermal) : State := { T ([(R.TB_STATUS.LOCKED, 1)] ++ l) with therm := x }
def pw (p : Power) (s : State) : State := { s with su := { s.su with power := p } }
def rds : List (Nat × Nat × Int) := [(0, 0, 1500), (0, 23, -32768), (1, 15, 1600), (3, 0, 32767)]
def tp : State := rds.foldl (fun s r => takeReading r s) (th [] {})
def tl : Nat := 128 * 10000005
def lv (l : List (Field × Nat)) (x : Thermal) : State := (th ([(R.PART_TEMP.T_PART, 2031)] ++ l) x).put R.GUARD_STATUS.STATE 2 |>.setFlag R.GUARD_STATUS.EMEN_P_OUT
def rs (n : Bool) (c : Nat) : State := let s := pw .shutdown (lv [(R.FRAME_COUNT.value 0, 77), (R.SHUT_COUNT.SHUTS, 9)] { mayRestart := true, coolSince := some c }); { s with su := { s.su with nrst := n, errs := [{ cls := 1, sev := 1, escalated := false, depth := 0, detail := 0, bit := 0, src := 0, eseq := 0, time := 0 }] } }
def cg (x : CalDie) (l : List (Field × Nat)) : State := th l { cal := [(7, x)] }
def cr (h : Nat) (phi : Nat) (l : List (Field × Nat)) (x : CalDie) : State := (th ([(R.HEAD_STATUS.RUNNING h, 1), (⟨R.HEAD_GROUPS_A.addr 3, 0, 32⟩, 0xFFFF), (R.TW_STATUS.OWN_HELD, 1)] ++ l) { cal := [(7, x)] }).setDrv h { phi := phi }
def rl0 : State := (cr 0 5 [] { due := some 4 }).tick (5 + 2560000)
def cA (gd : Nat) : CalDie := { due := some 4, active := [(15, 5300, 25300), (3, 25300, 45300)] }
def cB (gd : Nat) : State := cg (cA gd) [(R.DIE_CAL.GROUPS_DONE 7, gd)]
def c7 : Nat := 6 * 192 + 12 * 15 + 11
def tr (k : Nat) (aim : Int) : State := th [] { targets := [(k, some aim)] }
def ro (h : Nat) (l : List (Field × Nat)) : State := cr h 256 ([(R.THERM_CTL.REF_CAL_EN, 1), (R.REF_CFG.REF_CHAN h, c7), (R.REF_CFG.REF_K h, 9), (R.CH_CFG.CH_EN 7 191, 1), (R.TB_STATUS.LOCKED, 1), (R.REF_CFG.REF_BANK h, 3)] ++ l) {}
def rfs (l : List Int) (e : Nat) : State := th [(R.THERM_CTL.REF_CAL_EN, e), (R.REF_STATUS.REF_OFS 1, 65535)] { residuals := [(1, l)] }

theorem wit_TemperaturesSupervised :
    (((pw Power.inReset (th [] { : Thermal })).tick tt).su.power = Power.inReset) ∧
    (0 ∈ (th [] { : Thermal }).sensorDies ∧ 23 < sensorCount 0 ∧ -32768 ≤ -32768 ∧ -32768 ≤ 32767) ∧
    ((∀ (x : Nat × Nat × Int), x ∈ tp.validReadings tp.sensorDies → -32768 ≤ x.snd.snd ∧ x.snd.snd ≤ 32767) ∧
      tp.validReadings tp.sensorDies ≠ []) ∧
    (let w := (lv [] { enter := [(2, some 5)] : Thermal }).tick (tl - 128);
      Ready (lv [] { enter := [(2, some 5)] : Thermal }) ∧
      w.levelNext (w.get R.THERM_STATUS.LEVEL) = w.get R.THERM_STATUS.LEVEL) ∧
    (let w := (lv [] { enter := [(2, some 5)] : Thermal }).tick tl; Ready (lv [] { enter := [(2, some 5)] : Thermal }) ∧
      w.levelNext (w.get R.THERM_STATUS.LEVEL) ≠ w.get R.THERM_STATUS.LEVEL ∧
      w.levelNext (w.get R.THERM_STATUS.LEVEL) < 4 ∧ (¬(w.levelNext (w.get R.THERM_STATUS.LEVEL) = 3 ∧
      w.get R.THERM_STATUS.LEVEL < 3))) ∧
    (let w := (lv [] { enter := [(3, some 5)] : Thermal }).tick tl; Ready (lv [] { enter := [(3, some 5)] : Thermal }) ∧
      w.levelNext (w.get R.THERM_STATUS.LEVEL) = 3 ∧ w.get R.THERM_STATUS.LEVEL < 3 ∧ w.therm.stop = none) ∧
    (let w := (lv [] { enter := [(3, some 5), (4, some 5)] : Thermal }).tick tl;
      Ready (lv [] { enter := [(3, some 5), (4, some 5)] : Thermal }) ∧ w.levelNext (w.get R.THERM_STATUS.LEVEL) = 4 ∧
      w.get R.THERM_STATUS.LEVEL ≠ 4) ∧
    (Ready (lv [] { stop := some { at_ := 5, parked := true : OrderlyStop } : Thermal }) ∧
      ((lv [] { stop := some { at_ := 5, parked := true : OrderlyStop } : Thermal }).tick tl).therm.stop = some { at_ := 5, parked := true : OrderlyStop } ∧
      { at_ := 5, parked := true : OrderlyStop }.parked = true) ∧
    (let w := (lv [] { : Thermal }).tick tl; Ready (lv [] { : Thermal }) ∧
      (w.therm.stop = none ∨ ∃ x, w.therm.stop = some x ∧ x.parked = false)) ∧
    (let w := (rs true 5).tick (128 * 2000000004); (¬(w.su.power = Power.shutdown ∧ w.therm.mayRestart = true ∧
      ∃ c, w.therm.coolSince = some c ∧ c + 2000000000 ≤ w.ns))) ∧
    (let w := (rs true 5).tick (128 * 2000000005); (w.su.power = Power.shutdown ∧ w.therm.mayRestart = true ∧
      ∃ c, w.therm.coolSince = some c ∧ c + 2000000000 ≤ w.ns)) ∧
    (let w := ((lv [] { enter := [(3, some 5)], stop := some { at_ := 5 : OrderlyStop } : Thermal }).put R.THERM_STATUS.LEVEL 2).tick tl;
      Ready ((lv [] { enter := [(3, some 5)], stop := some { at_ := 5 : OrderlyStop } : Thermal }).put R.THERM_STATUS.LEVEL 2) ∧
      w.levelNext (w.get R.THERM_STATUS.LEVEL) = 3 ∧ w.get R.THERM_STATUS.LEVEL < 3 ∧ w.therm.stop.isSome = true) :=
  ⟨(by decide +kernel),
   (by decide +kernel),
   (by decide +kernel),
   ⟨ready_of _ (by decide +kernel), by decide +kernel⟩,
   ⟨ready_of _ (by decide +kernel), by decide +kernel⟩,
   ⟨ready_of _ (by decide +kernel), by decide +kernel⟩,
   ⟨ready_of _ (by decide +kernel), by decide +kernel⟩,
   ⟨ready_of _ (by decide +kernel), by decide +kernel⟩,
   ⟨ready_of _ (by decide +kernel), by decide +kernel⟩,
   (by decide +kernel),
   (by decide +kernel),
   ⟨ready_of _ (by decide +kernel), by decide +kernel⟩⟩

theorem wit_CalibrationRuns :
    (Ready (th [] { : Thermal }) ∧ Admits ((th [] { : Thermal }).tick tt) 4 R.THERM_CTL.addr) ∧
    ((th [] { : Thermal }).dieUp 7 = true ∧ ((th [] { : Thermal }).calDie 7).due = none) ∧
    (((th [] { cal := [(7, { due := some 4 : CalDie })] : Thermal }).dieUp 7 = false ∨ ((th [] { cal := [(7, { due := some 4 : CalDie })] : Thermal }).calDie 7).due.isSome = true)) ∧
    (Ready (th [] { : Thermal }) ∧ ((th [] { : Thermal }).tick tt).calRuns 7 = false) ∧
    (let w := (cg { due := some 4 : CalDie } []).tick tt; Ready (cg { due := some 4 : CalDie } []) ∧
      w.calRuns 7 = true ∧ w.running 0 = false ∧ w.running 1 = false ∧ (w.calDie 7).active = [] ∧
      (w.head 0).calLine = none ∧ (w.head 1).calLine = none) ∧
    (let w := rl0.tick (128 * 50000);
      (w.running 0 = false ∨ w.now < (w.drv 0).phi + fineUs 20 ∨ (w.drv 0).phi + fineUs 40 < w.now ∨ (w.calDie 7).used.get none 0 = some (w.drv 0).phi)) ∧
    (Ready (cB 0) ∧ chDie (c7 - 12) = 7 ∧ chGroup (c7 - 12) = 14 ∧
      List.find? (fun a => decide (a.fst = 14)) (((cB 0).tick tt).calDie 7).active = none) ∧
    (let w := (cB 0).tick (tt - 128); Ready (cB 0) ∧ chDie c7 = 7 ∧ chGroup c7 = 15 ∧
      List.find? (fun a => decide (a.fst = 15)) (w.calDie 7).active = some (15, 5300, 25300) ∧
      w.ns < (15, 5300, 25300).snd.snd) ∧
    (let w := (cB 7).tick tt; Ready (cB 7) ∧ chDie c7 = 7 ∧ chGroup c7 = 15 ∧
      List.find? (fun a => decide (a.fst = 15)) (w.calDie 7).active = some (15, 5300, 25300) ∧
      (15, 5300, 25300).snd.snd ≤ w.ns) ∧
    (Ready (th [] { : Thermal }) ∧ (((th [] { : Thermal }).tick tt).calDie 7).due = none) ∧
    (let w := (cB 0).tick tt; Ready (cB 0) ∧ (w.calDie 7).due = some 4 ∧
      (w.calRuns 7 = false ∨ w.ns < 4 + 1000000 * w.get R.THERM_CTL.CAL_URGENT)) ∧
    (let w := (cr 0 5 [] { due := some 4 : CalDie }).tick (128 * 1000000004);
      Ready (cr 0 5 [] { due := some 4 : CalDie }) ∧ (w.calDie 7).due = some 4 ∧ w.calRuns 7 = true ∧
      4 + 1000000 * w.get R.THERM_CTL.CAL_URGENT ≤ w.ns) ∧
    (Ready (cr 0 5 [] { : CalDie }) ∧ ((cr 0 5 [] { : CalDie }).tick tt).running ↑0 = true) ∧
    (Ready (cr 0 5 [] { : CalDie }) ∧ ((cr 0 5 [] { : CalDie }).tick tt).flag R.THERM_CTL.INTERP_CAL_EN = true) ∧
    (Ready (tr 3 5) ∧ ((tr 3 5).tick tt).running ↑0 = false) ∧
    ((tr 3 5).therm.targets.get none 4 = none) ∧
    ((tr (4 * 1343 + 1) (-5)).therm.targets.get none (4 * 1343 + 1) = some (-5) ∧ (4 * 1343 + 1) % 4 < 2) ∧
    ((tr (4 * 1343 + 3) (-600)).therm.targets.get none (4 * 1343 + 3) = some (-600) ∧ 2 ≤ (4 * 1343 + 3) % 4) ∧
    (3 = 3) ∧
    (-3 ≠ 3) ∧
    (let w := (th [] { : Thermal }).tick tt; Ready (th [] { : Thermal }) ∧ (¬(w.flag R.THERM_CTL.REF_CAL_EN = true ∧
      w.running ↑0 = true ∧ (w.drv ↑0).phi + fineUs 60 ≤ w.now ∧ w.therm.refPhi.get none ↑0 ≠ some (w.drv ↑0).phi))) ∧
    (let w := (ro 0 []).tick (256 + 7680000); Ready (ro 0 []) ∧ (w.flag R.THERM_CTL.REF_CAL_EN = true ∧
      w.running ↑0 = true ∧ (w.drv ↑0).phi + fineUs 60 ≤ w.now ∧ w.therm.refPhi.get none ↑0 ≠ some (w.drv ↑0).phi)) ∧
    (Ready (th [(R.THERM_CTL.INTERP_CAL_EN, 0)] { : Thermal }) ∧
      ((th [(R.THERM_CTL.INTERP_CAL_EN, 0)] { : Thermal }).tick tt).flag R.THERM_CTL.INTERP_CAL_EN = false) ∧
    (Ready (th [(R.THERM_CTL.INTERP_CAL_EN, 1)] { : Thermal }) ∧
      ((th [(R.THERM_CTL.INTERP_CAL_EN, 1)] { : Thermal }).tick tt).flag R.THERM_CTL.INTERP_CAL_EN = true ∧
      [(5, -9)] = [(5, -9)]) ∧
    (((tr 7 (-9)).clrFlag R.THERM_CTL.INTERP_CAL_EN).therm.targets = [(7, some (-9))] ∧
      ((tr 7 (-9)).clrFlag R.THERM_CTL.INTERP_CAL_EN).flag R.THERM_CTL.INTERP_CAL_EN = false) ∧
    ((th [(R.THERM_CTL.INTERP_CAL_EN, 1)] { interp := [(4097, -8)], interpTo := [(4097, -9)] : Thermal }).therm.targets = [] ∧
      (th [(R.THERM_CTL.INTERP_CAL_EN, 1)] { interp := [(4097, -8)], interpTo := [(4097, -9)] : Thermal }).therm.interpTo = [(4097, -9)] ∧
      (th [(R.THERM_CTL.INTERP_CAL_EN, 1)] { interp := [(4097, -8)], interpTo := [(4097, -9)] : Thermal }).flag R.THERM_CTL.INTERP_CAL_EN = true) ∧
    (((rfs [5, -8, 3] 0).flag R.THERM_CTL.REF_CAL_EN = false ∨ (rfs [5, -8, 3] 0).therm.residuals.get [] 1 = [])) ∧
    ((rfs [5, -8, 3, 2] 1).flag R.THERM_CTL.REF_CAL_EN = true ∧ (rfs [5, -8, 3, 2] 1).therm.residuals.get [] 1 ≠ [] ∧
      1 = roundDiv ((rfs [5, -8, 3, 2] 1).therm.residuals.get [] 1).sum ((rfs [5, -8, 3, 2] 1).therm.residuals.get [] 1).length ∧
      -32768 ≤ 1) :=
  ⟨⟨ready_of _ (by decide +kernel), admits_core _ _ (by decide +kernel)⟩,
   (by decide +kernel),
   (by decide +kernel),
   ⟨ready_of _ (by decide +kernel), by decide +kernel⟩,
   ⟨ready_of _ (by decide +kernel), by decide +kernel⟩,
   (by decide +kernel),
   ⟨ready_of _ (by decide +kernel), by decide +kernel⟩,
   ⟨ready_of _ (by decide +kernel), by decide +kernel⟩,
   ⟨ready_of _ (by decide +kernel), by decide +kernel⟩,
   ⟨ready_of _ (by decide +kernel), by decide +kernel⟩,
   ⟨ready_of _ (by decide +kernel), by decide +kernel⟩,
   ⟨ready_of _ (by decide +kernel), by decide +kernel⟩,
   ⟨ready_of _ (by decide +kernel), by decide +kernel⟩,
   ⟨ready_of _ (by decide +kernel), by decide +kernel⟩,
   ⟨ready_of _ (by decide +kernel), by decide +kernel⟩,
   (by decide +kernel),
   (by decide +kernel),
   (by decide +kernel),
   (by decide +kernel),
   (by decide +kernel),
   ⟨ready_of _ (by decide +kernel), by decide +kernel⟩,
   ⟨ready_of _ (by decide +kernel), by decide +kernel⟩,
   ⟨ready_of _ (by decide +kernel), by decide +kernel⟩,
   ⟨ready_of _ (by decide +kernel), by decide +kernel⟩,
   (by decide +kernel),
   (by decide +kernel),
   (by decide +kernel),
   (by decide +kernel)⟩

end ThermalAndCal

/-! Security and the ledger. -/

namespace Stored

def tt : Nat := 128 * 25300
def L (l : List (Field × Nat)) (x : Sec) : State := { T l with sec := x }
def sE : State := L [] {}
def N6 : Nat := 360 * 128000000000
def OB0 (a : Nat) : Obs := { cell := 77, head := 0, at_ := a, echoes := [] }
def oS (a : Nat) : State := { L [] {} with now := 1280, pts := { obs := [OB0 a] } }
def vs (q : Nat) : NvSlot := nvSlot 0x40 q 4 5
def pgS : State := L [] { programming := some (0x40, true, vs 9), records := [(0x40, { a := vs 8 })] }

theorem wit_RecordsQuotesAndChanges :
    (let w := (L [] { hoursAt := 5 : Sec }).tick (5 + N6 - 1); Ready (L [] { hoursAt := 5 : Sec }) ∧
      w.now < w.sec.hoursAt + 360 * 128000000000) ∧
    (let w := (L [(R.POWERED_HOURS.value, 2 ^ 32 - 1)] { hoursAt := 5 : Sec }).tick (5 + N6);
      Ready (L [(R.POWERED_HOURS.value, 2 ^ 32 - 1)] { hoursAt := 5 : Sec }) ∧
      w.sec.hoursAt + 360 * 128000000000 ≤ w.now) ∧
    (let w := sE.tick tt; Ready sE ∧
      (¬match NvRecord.comparator 8 with | NvRecord.comparator d => w.dieFitted d = true | NvRecord.interpolator d => d = 0 ∨ w.dieFitted d = true | x => True)) ∧
    (let w := sE.tick tt; Ready sE ∧
      (match NvRecord.interpolator 0 with | NvRecord.comparator d => w.dieFitted d = true | NvRecord.interpolator d => d = 0 ∨ w.dieFitted d = true | x => True)) ∧
    ((oS 10).sec.toWrite = [] ∧ (oS 10).sec.programming = none) ∧
    (Ready sE ∧ (sE.tick tt).sec.programming = none) ∧
    (let w := pgS.tick tt; Ready pgS ∧ w.sec.programming = some (64, true, vs 9) ∧ w.sec.toWrite = []) :=
  ⟨⟨ready_of _ (by decide +kernel), by decide +kernel⟩,
   ⟨ready_of _ (by decide +kernel), by decide +kernel⟩,
   ⟨ready_of _ (by decide +kernel), by decide +kernel⟩,
   ⟨ready_of _ (by decide +kernel), by decide +kernel⟩,
   (by decide +kernel),
   ⟨ready_of _ (by decide +kernel), by decide +kernel⟩,
   ⟨ready_of _ (by decide +kernel), by decide +kernel⟩⟩

end Stored



end Sys2Proof.Tests
end

/-! The register classes of 00_scope.md R9 to R13. A write puts a word together field by field, so each field's outcome
stands in the word because no two fields of a register share a bit, and because no outcome is wider than its field. -/

namespace Sys2Proof.Machine

/-! ### One field of a write -/

theorem FieldDef.of_lt (f : FieldDef) (v : Nat) : f.of v < 2 ^ f.w := Nat.mod_lt _ (Nat.two_pow_pos f.w)

/-- What a field holds after a write fits into it, whatever its class. -/
theorem FieldDef.next_lt (f : FieldDef) (old v : Nat) : f.next (f.of old) (f.of v) < 2 ^ f.w := by
  have hold := f.of_lt old
  have hnew := f.of_lt v
  have hzero : 0 < 2 ^ f.w := Nat.two_pow_pos f.w
  unfold FieldDef.next
  cases f.cls with
  | static | live | latched => dsimp only; split <;> assumption
  | readOnly => exact hold
  | action => exact hzero
  | w1c =>
    dsimp only
    split
    · split <;> assumption
    · exact Nat.lt_of_le_of_lt (Nat.sub_le _ _) hold

/-! ### The fields of a word -/

/-- Two fields that share no bit. -/
abbrev FieldDef.Apart (f g : FieldDef) : Prop := f.lo + f.w ≤ g.lo ∨ g.lo + g.w ≤ f.lo

/-- No two fields of the register share a bit. -/
abbrev RegDef.FieldsApart (d : RegDef) : Prop := d.fields.Pairwise FieldDef.Apart

/-- Where no two fields of a list share a bit, each holds what its own class makes of its own old and written values. -/
theorem FieldDef.of_word (old v : Nat) (g : FieldDef) (l : List FieldDef) (hl : l.Pairwise FieldDef.Apart) (hg : g ∈ l) :
    g.of (FieldDef.word old v l) = g.next (g.of old) (g.of v) := by
  induction l with
  | nil => exact absurd hg List.not_mem_nil
  | cons f r ih =>
    obtain ⟨hf, hr⟩ := List.pairwise_cons.mp hl
    rcases List.mem_cons.mp hg with rfl | hgr
    · calc g.of (FieldDef.word old v (g :: r))
          = g.next (g.of old) (g.of v) % 2 ^ g.w := bits_withField _ _ _ _
        _ = g.next (g.of old) (g.of v) := Nat.mod_eq_of_lt (g.next_lt old v)
    · calc g.of (FieldDef.word old v (f :: r))
          = g.of (FieldDef.word old v r) := bits_withField_beside _ _ _ _ _ _ (hf g hgr)
        _ = g.next (g.of old) (g.of v) := ih hr hgr

/-! ### The registers of the map -/

/-- The blocks of the register map, the hub's and then a ranging die's. -/
def RegMap.blocks : List (List RegDef) :=
  [regMap_fabricHub, regMap_startup, regMap_timeBase, regMap_rangingCtl, regMap_scanOut, regMap_sequencers, regMap_drive,
    regMap_guard, regMap_motion, regMap_points, regMap_lanes, regMap_trunkCommon, regMap_streams, regMap_causeway,
    regMap_twin, regMap_memory, regMap_capture, regMap_housekeeping, regMap_thermal, regMap_security,
    regMap_fabricDie, regMap_channels, regMap_opBlock, regMap_extractor, regMap_dieThermal]

theorem RegMap.blocks_fieldsApart : ∀ l ∈ RegMap.blocks, ∀ d ∈ l, d.FieldsApart := by decide +kernel

theorem RegMap.hubBlock_mem_blocks (off : Nat) : RegMap.hubBlock off ∈ RegMap.blocks := by
  unfold RegMap.hubBlock
  repeat' refine iteInduction (motive := (· ∈ RegMap.blocks)) (fun _ => ?_) (fun _ => ?_)
  all_goals simp only [RegMap.blocks, List.mem_cons, true_or, or_true]

theorem RegMap.dieBlock_mem_blocks (off : Nat) : RegMap.dieBlock off ∈ RegMap.blocks := by
  unfold RegMap.dieBlock
  repeat' refine iteInduction (motive := (· ∈ RegMap.blocks)) (fun _ => ?_) (fun _ => ?_)
  all_goals simp only [RegMap.blocks, List.mem_cons, true_or, or_true]

/-- A search finds a definition of the list it looks through. -/
theorem RegDef.search_mem (l : List RegDef) (off : Nat) (x : RegDef × List Nat) (hx : RegDef.search l off = some x) :
    x.1 ∈ l := by
  induction l with
  | nil => exact absurd hx (by simp [RegDef.search])
  | cons d r ih =>
    unfold RegDef.search at hx
    split at hx
    · split at hx
      · cases hx; exact List.mem_cons_self
      · exact List.mem_cons_of_mem _ (ih hx)
    · exact List.mem_cons_of_mem _ (ih hx)

/-- A register that an address hits is defined in one of the blocks. -/
theorem RegMap.find_def (a : Nat) (h : RegHit) (hh : RegMap.find a = some h) : ∃ l ∈ RegMap.blocks, h.def_ ∈ l := by
  unfold RegMap.find at hh
  dsimp only at hh
  split at hh
  · obtain ⟨x, hx, rfl⟩ := Option.map_eq_some_iff.mp hh
    exact ⟨_, RegMap.hubBlock_mem_blocks _, RegDef.search_mem _ _ x hx⟩
  · split at hh
    · obtain ⟨x, hx, rfl⟩ := Option.map_eq_some_iff.mp hh
      exact ⟨_, RegMap.dieBlock_mem_blocks _, RegDef.search_mem _ _ x hx⟩
    · exact absurd hh (by simp)

/-- The numbering of the causeway's lanes changes a register's indices alone, never its definition. -/
theorem regHit_def (a : Nat) (h : RegHit) (hh : regHit a = some h) : ∃ k, RegMap.find a = some k ∧ h.def_ = k.def_ := by
  obtain ⟨k, hk, rfl⟩ := Option.map_eq_some_iff.mp hh
  exact ⟨k, hk, by split <;> rfl⟩

/-- No two fields of a register of the map share a bit. -/
theorem regHit_fieldsApart (a : Nat) (h : RegHit) (hh : regHit a = some h) : h.def_.FieldsApart := by
  obtain ⟨k, hk, hd⟩ := regHit_def a h hh
  obtain ⟨l, hl, hmem⟩ := RegMap.find_def a k hk
  rw [hd]
  exact RegMap.blocks_fieldsApart l hl _ hmem

/-! ### The statement -/

/-- Settles O14 (00_scope.md R9 to R13): the fields of a register of the map share no bit, so each holds what
`FieldDef.next` gives for its class. -/
theorem registerClasses : Obligations.RegisterClasses := by
  unfold Obligations.RegisterClasses
  intro a h old v g hh hg
  rw [FieldDef.of_word old v g _ (regHit_fieldsApart a h hh) hg]
  unfold FieldDef.next
  cases g.cls <;> rfl

end Sys2Proof.Machine

/-! Every command and every step (O1, O4, O7): the laws of the meanings, gathered over the commands of the table. -/

namespace Sys2Proof.Machine

/-- What any command may do: it changes fields of the state, and keeps memory and the register file in canonical form. The
mask is that of all the fields. -/
theorem exec_touch {c : Instr} {s u : State} (e : exec c s = .next u) : Touch (2 ^ 26 - 1) s u := by
  cases c with
  | registerWrite => exact execRegisterWrite_touch rfl .refl e
  | unmappedClear => exact execUnmappedClear_touch rfl .refl e
  | paceMinRestart => exact execPaceMinRestart_touch rfl .refl e
  | paceWindowEnd => exact execPaceWindowEnd_touch rfl .refl e
  | dieLinkStall => exact execDieLinkStall_touch rfl .refl e
  | lateResultDiscard _ _ unit => exact execLateResultDiscard_touch (_unit := unit) rfl .refl e
  | dramRefreshDue => exact execDramRefreshDue_touch rfl .refl e
  | eventStart => exact execEventStart_touch rfl .refl e
  | highComparatorEdge => exact execHighComparatorEdge_touch rfl .refl e
  | eventEnd => exact execEventEnd_touch rfl .refl e
  | eventTimeoutClose => exact execEventTimeoutClose_touch rfl .refl e
  | rearmEnd => exact execRearmEnd_touch rfl .refl e
  | stuckHighTimeout => exact execStuckHighTimeout_touch rfl .refl e
  | stuckHighClear => exact execStuckHighClear_touch rfl .refl e
  | dropCountClear => exact execDropCountClear_touch rfl .refl e
  | chThrWrite => exact execChThrWrite_touch rfl .refl e
  | channelDisable => exact execChannelDisable_touch rfl .refl e
  | eventBin => exact execEventBin_touch rfl .refl e
  | timebaseLock => exact execTimebaseLock_touch rfl .refl e
  | timebaseLockLoss => exact execTimebaseLockLoss_touch rfl .refl e
  | devtimeSnapshot => exact execDevtimeSnapshot_touch rfl .refl e
  | poweredHoursWrite => exact execPoweredHoursWrite_touch rfl .refl e
  | anchorGo => exact execAnchorGo_touch rfl .refl e
  | anchorTakeEffect => exact execAnchorTakeEffect_touch rfl .refl e
  | syncEdge => exact execSyncEdge_touch rfl .refl e
  | syncMiss => exact execSyncMiss_touch rfl .refl e
  | syncFifoPop => exact execSyncFifoPop_touch rfl .refl e
  | iuArm => exact execIuArm_touch rfl .refl e
  | iuStartEdge => exact execIuStartEdge_touch rfl .refl e
  | iuStopEdge => exact execIuStopEdge_touch rfl .refl e
  | iuSwstop => exact execIuSwstop_touch rfl .refl e
  | iuTimeout => exact execIuTimeout_touch rfl .refl e
  | iuAbort => exact execIuAbort_touch rfl .refl e
  | iuResultRead => exact execIuResultRead_touch rfl .refl e
  | fuStart => exact execFuStart_touch rfl .refl e
  | fuGateOpen => exact execFuGateOpen_touch rfl .refl e
  | fuGateEnd => exact execFuGateEnd_touch rfl .refl e
  | fuResult => exact execFuResult_touch rfl .refl e
  | cellDecision => exact execCellDecision_touch rfl .refl e
  | pulseFire => exact execPulseFire_touch rfl .refl e
  | accumulationEnd => exact execAccumulationEnd_touch rfl .refl e
  | correlatorTake => exact execCorrelatorTake_touch rfl .refl e
  | reductionEnd => exact execReductionEnd_touch rfl .refl e
  | handoff => exact execHandoff_touch rfl .refl e
  | lichenObservation => exact execLichenObservation_touch rfl .refl e
  | opAbandon => exact execOpAbandon_touch rfl .refl e
  | pageClearDone => exact execPageClearDone_touch rfl .refl e
  | frameClosed => exact execFrameClosed_touch rfl .refl e
  | lineStart => exact execLineStart_touch rfl .refl e
  | latchPoint => exact execLatchPoint_touch rfl .refl e
  | frameOpen => exact execFrameOpen_touch rfl .refl e
  | linePrefetch => exact execLinePrefetch_touch rfl .refl e
  | visitCompose => exact execVisitCompose_touch rfl .refl e
  | frondCommit => exact execFrondCommit_touch rfl .refl e
  | scanStart => exact execScanStart_touch rfl .refl e
  | scanStop => exact execScanStop_touch rfl .refl e
  | sqRun => exact execSqRun_touch rfl .refl e
  | sqStop => exact execSqStop_touch rfl .refl e
  | sqUnload => exact execSqUnload_touch rfl .refl e
  | evSoft => exact execEvSoft_touch rfl .refl e
  | imageLoad => exact execImageLoad_touch rfl .refl e
  | watchdogExpiry => exact execWatchdogExpiry_touch rfl .refl e
  | waitWake => exact execWaitWake_touch rfl .refl e
  | waitTimeout => exact execWaitTimeout_touch rfl .refl e
  | sleepEnd => exact execSleepEnd_touch rfl .refl e
  | fenceDone => exact execFenceDone_touch rfl .refl e
  | mfenceDone => exact execMfenceDone_touch rfl .refl e
  | nop => exact execNop_touch rfl .refl e
  | add => exact execAdd_touch rfl .refl e
  | addi => exact execAddi_touch rfl .refl e
  | sub => exact execSub_touch rfl .refl e
  | and => exact execAnd_touch rfl .refl e
  | andi => exact execAndi_touch rfl .refl e
  | or => exact execOr_touch rfl .refl e
  | ori => exact execOri_touch rfl .refl e
  | xor => exact execXor_touch rfl .refl e
  | xori => exact execXori_touch rfl .refl e
  | shl => exact execShl_touch rfl .refl e
  | shli => exact execShli_touch rfl .refl e
  | shr => exact execShr_touch rfl .refl e
  | shri => exact execShri_touch rfl .refl e
  | sar => exact execSar_touch rfl .refl e
  | sari => exact execSari_touch rfl .refl e
  | mul => exact execMul_touch rfl .refl e
  | mulhu => exact execMulhu_touch rfl .refl e
  | mulhs => exact execMulhs_touch rfl .refl e
  | divu => exact execDivu_touch rfl .refl e
  | remu => exact execRemu_touch rfl .refl e
  | min => exact execMin_touch rfl .refl e
  | max => exact execMax_touch rfl .refl e
  | movi => exact execMovi_touch rfl .refl e
  | muli => exact execMuli_touch rfl .refl e
  | cmpeq => exact execCmpeq_touch rfl .refl e
  | cmpne => exact execCmpne_touch rfl .refl e
  | cmplt => exact execCmplt_touch rfl .refl e
  | cmpltu => exact execCmpltu_touch rfl .refl e
  | cmpge => exact execCmpge_touch rfl .refl e
  | cmpgeu => exact execCmpgeu_touch rfl .refl e
  | cmpeqi => exact execCmpeqi_touch rfl .refl e
  | cmplti => exact execCmplti_touch rfl .refl e
  | cmpltui => exact execCmpltui_touch rfl .refl e
  | cmpgei => exact execCmpgei_touch rfl .refl e
  | cmpgeui => exact execCmpgeui_touch rfl .refl e
  | pand => exact execPand_touch rfl .refl e
  | por => exact execPor_touch rfl .refl e
  | pnot => exact execPnot_touch rfl .refl e
  | tstbit => exact execTstbit_touch rfl .refl e
  | br => exact execBr_touch rfl .refl e
  | brr => exact execBrr_touch rfl .refl e
  | call => exact execCall_touch rfl .refl e
  | ret => exact execRet_touch rfl .refl e
  | loop => exact execLoop_touch rfl .refl e
  | halt => exact execHalt_touch rfl .refl e
  | kick => exact execKick_touch rfl .refl e
  | sleep => exact execSleep_touch rfl .refl e
  | time => exact execTime_touch rfl .refl e
  | fstat => exact execFstat_touch rfl .refl e
  | wait => exact execWait_touch rfl .refl e
  | wait1 => exact execWait1_touch rfl .refl e
  | sig => exact execSig_touch rfl .refl e
  | evclr => exact execEvclr_touch rfl .refl e
  | ld => exact execLd_touch rfl .refl e
  | st => exact execSt_touch rfl .refl e
  | mfence => exact execMfence_touch rfl .refl e
  | dbase => exact execDbase_touch rfl .refl e
  | amoadd => exact execAmoadd_touch rfl .refl e
  | ffill => exact execFfill_touch rfl .refl e
  | fcommit => exact execFcommit_touch rfl .refl e
  | fmt => exact execFmt_touch rfl .refl e
  | hlock => exact execHlock_touch rfl .refl e
  | watch => exact execWatch_touch rfl .refl e
  | probe => exact execProbe_touch rfl .refl e
  | cqpop => exact execCqpop_touch rfl .refl e
  | fence => exact execFence_touch rfl .refl e
  | energy => exact execEnergy_touch rfl .refl e
  | hop => exact execHop_touch rfl .refl e
  | lread => exact execLread_touch rfl .refl e
  | lwrite => exact execLwrite_touch rfl .refl e
  | lflag => exact execLflag_touch rfl .refl e
  | anchor => exact execAnchor_touch rfl .refl e
  | emit => exact execEmit_touch rfl .refl e
  | carm => exact execCarm_touch rfl .refl e
  | mset => exact execMset_touch rfl .refl e
  | mprof => exact execMprof_touch rfl .refl e
  | driveEnable => exact execDriveEnable_touch rfl .refl e
  | exchangeStart => exact execExchangeStart_touch rfl .refl e
  | exchangeCommand => exact execExchangeCommand_touch rfl .refl e
  | exchangeMark => exact execExchangeMark_touch rfl .refl e
  | echoEdge => exact execEchoEdge_touch rfl .refl e
  | replyFrame => exact execReplyFrame_touch rfl .refl e
  | replyDeadline => exact execReplyDeadline_touch rfl .refl e
  | exchangeWindowEnd => exact execExchangeWindowEnd_touch rfl .refl e
  | softStop => exact execSoftStop_touch rfl .refl e
  | standbyCableListen => exact execStandbyCableListen_touch rfl .refl e
  | ginChange => exact execGinChange_touch rfl .refl e
  | ginDiscrepancyTimeout => exact execGinDiscrepancyTimeout_touch rfl .refl e
  | ginAgreementEnd => exact execGinAgreementEnd_touch rfl .refl e
  | guardRestart => exact execGuardRestart_touch rfl .refl e
  | guardReset => exact execGuardReset_touch rfl .refl e
  | motionWindowEnd => exact execMotionWindowEnd_touch rfl .refl e
  | guardHeartbeat => exact execGuardHeartbeat_touch rfl .refl e
  | firedPulseReport => exact execFiredPulseReport_touch rfl .refl e
  | channelDisagreeTimeout => exact execChannelDisagreeTimeout_touch rfl .refl e
  | emenReadbackFault => exact execEmenReadbackFault_touch rfl .refl e
  | twinGuardState => exact execTwinGuardState_touch rfl .refl e
  | loopSample => exact execLoopSample_touch rfl .refl e
  | commandApply => exact execCommandApply_touch rfl .refl e
  | encEdge => exact execEncEdge_touch rfl .refl e
  | encIndex => exact execEncIndex_touch rfl .refl e
  | setpointWrite => exact execSetpointWrite_touch rfl .refl e
  | rcClear => exact execRcClear_touch rfl .refl e
  | parkRequest => exact execParkRequest_touch rfl .refl e
  | parkEnd => exact execParkEnd_touch rfl .refl e
  | trStart => exact execTrStart_touch rfl .refl e
  | trStop => exact execTrStop_touch rfl .refl e
  | laneEnable => exact execLaneEnable_touch rfl .refl e
  | blockReceive => exact execBlockReceive_touch rfl .refl e
  | capSend => exact execCapSend_touch rfl .refl e
  | capReceive => exact execCapReceive_touch rfl .refl e
  | capTimeout => exact execCapTimeout_touch rfl .refl e
  | ackReceive => exact execAckReceive_touch rfl .refl e
  | creditReceive => exact execCreditReceive_touch rfl .refl e
  | sleepReceive => exact execSleepReceive_touch rfl .refl e
  | controlBlockUnknown => exact execControlBlockUnknown_touch rfl .refl e
  | parcelReceive => exact execParcelReceive_touch rfl .refl e
  | ackSend => exact execAckSend_touch rfl .refl e
  | transmitSlot => exact execTransmitSlot_touch rfl .refl e
  | ackTimeout => exact execAckTimeout_touch rfl .refl e
  | laneRestart => exact execLaneRestart_touch rfl .refl e
  | parcelTimeout => exact execParcelTimeout_touch rfl .refl e
  | laybyDrain => exact execLaybyDrain_touch rfl .refl e
  | gapSplitExpiry => exact execGapSplitExpiry_touch rfl .refl e
  | ctrlRead => exact execCtrlRead_touch rfl .refl e
  | ctrlWrite => exact execCtrlWrite_touch rfl .refl e
  | ctrlUnknownOp => exact execCtrlUnknownOp_touch rfl .refl e
  | txSleepEnter => exact execTxSleepEnter_touch rfl .refl e
  | txWake => exact execTxWake_touch rfl .refl e
  | wakeResume => exact execWakeResume_touch rfl .refl e
  | prbsBitsCapture _ req _ => exact execPrbsBitsCapture_touch (_req := req) rfl .refl e
  | chkClear => exact execChkClear_touch rfl .refl e
  | injBit => exact execInjBit_touch rfl .refl e
  | injBurst => exact execInjBurst_touch rfl .refl e
  | injCrc => exact execInjCrc_touch rfl .refl e
  | beatSend => exact execBeatSend_touch rfl .refl e
  | healthCheck => exact execHealthCheck_touch rfl .refl e
  | beatReceive _ _ _ time => exact execBeatReceive_touch (_time := time) rfl .refl e
  | hbInPulse => exact execHbInPulse_touch rfl .refl e
  | pathLost => exact execPathLost_touch rfl .refl e
  | ownKeeperLapse => exact execOwnKeeperLapse_touch rfl .refl e
  | ownClaim => exact execOwnClaim_touch rfl .refl e
  | ownRelease => exact execOwnRelease_touch rfl .refl e
  | identityReceive => exact execIdentityReceive_touch rfl .refl e
  | tofsUpdate => exact execTofsUpdate_touch rfl .refl e
  | shadowSchedule => exact execShadowSchedule_touch rfl .refl e
  | mirroredWrite => exact execMirroredWrite_touch rfl .refl e
  | alignStart => exact execAlignStart_touch rfl .refl e
  | epochReceive => exact execEpochReceive_touch rfl .refl e
  | dqsTrack => exact execDqsTrack_touch rfl .refl e
  | dramAccess => exact execDramAccess_touch rfl .refl e
  | tollHoldEnd => exact execTollHoldEnd_touch rfl .refl e
  | selfRefreshEnter => exact execSelfRefreshEnter_touch rfl .refl e
  | selfRefreshExit => exact execSelfRefreshExit_touch rfl .refl e
  | replayIndexWrite => exact execReplayIndexWrite_touch rfl .refl e
  | replayStart => exact execReplayStart_touch rfl .refl e
  | replayAbort => exact execReplayAbort_touch rfl .refl e
  | replaySend => exact execReplaySend_touch rfl .refl e
  | captureArm => exact execCaptureArm_touch rfl .refl e
  | captureStore => exact execCaptureStore_touch rfl .refl e
  | captureTimeoutExpiry => exact execCaptureTimeoutExpiry_touch rfl .refl e
  | captureAvgIntervalEnd => exact execCaptureAvgIntervalEnd_touch rfl .refl e
  | captureTriggerReport => exact execCaptureTriggerReport_touch rfl .refl e
  | capForce => exact execCapForce_touch rfl .refl e
  | xtrigReceive _ setup mask cause => exact execXtrigReceive_touch (_setup := setup) (_mask := mask) (_cause := cause) rfl .refl e
  | capStop => exact execCapStop_touch rfl .refl e
  | readout => exact execReadout_touch rfl .refl e
  | loopConversion => exact execLoopConversion_touch rfl .refl e
  | supplyConversion => exact execSupplyConversion_touch rfl .refl e
  | seqEntryRun => exact execSeqEntryRun_touch rfl .refl e
  | seqStart => exact execSeqStart_touch rfl .refl e
  | rqPop => exact execRqPop_touch rfl .refl e
  | spSample => exact execSpSample_touch rfl .refl e
  | portEnable => exact execPortEnable_touch rfl .refl e
  | curveExpand => exact execCurveExpand_touch rfl .refl e
  | curveExpandDone => exact execCurveExpandDone_touch rfl .refl e
  | sensorConversion => exact execSensorConversion_touch rfl .refl e
  | thermalLevelChange => exact execThermalLevelChange_touch rfl .refl e
  | orderlyStopRecords => exact execOrderlyStopRecords_touch rfl .refl e
  | thermalRestart => exact execThermalRestart_touch rfl .refl e
  | refOpIssue => exact execRefOpIssue_touch rfl .refl e
  | calGroup => exact execCalGroup_touch rfl .refl e
  | calNow => exact execCalNow_touch rfl .refl e
  | calUrgent => exact execCalUrgent_touch rfl .refl e
  | nvRecordWrite => exact execNvRecordWrite_touch rfl .refl e
  | attGo => exact execAttGo_touch rfl .refl e
  | attDone => exact execAttDone_touch rfl .refl e
  | authGo => exact execAuthGo_touch rfl .refl e
  | sessEnd => exact execSessEnd_touch rfl .refl e
  | ledgGo => exact execLedgGo_touch rfl .refl e
  | ledgerChangeDone => exact execLedgerChangeDone_touch rfl .refl e
  | powerOnReset => exact execPowerOnReset_touch rfl .refl e
  | undervoltageTrip _ supply => exact execUndervoltageTrip_touch (_supply := supply) rfl .refl e
  | pinReset => exact execPinReset_touch rfl .refl e
  | nrstRelease => exact execNrstRelease_touch rfl .refl e
  | nrstStuck => exact execNrstStuck_touch rfl .refl e
  | nrstStuckEnd => exact execNrstStuckEnd_touch rfl .refl e
  | startupStage => exact execStartupStage_touch rfl .refl e
  | errorAutoAck => exact execErrorAutoAck_touch rfl .refl e
  | fatalTimeout => exact execFatalTimeout_touch rfl .refl e
  | errPop => exact execErrPop_touch rfl .refl e
  | recover => exact execRecover_touch rfl .refl e
  | trimStepNoFormat => exact execTrimStepNoFormat_touch rfl .refl e
  | fuInputEdge => exact execFuInputEdge_touch rfl .refl e
  | rxSignalDetect => exact execRxSignalDetect_touch rfl .refl e
  | rxWakeLockTimeout => exact execRxWakeLockTimeout_touch rfl .refl e
  | prbsBitCheck => exact execPrbsBitCheck_touch rfl .refl e
  | ownLineChange => exact execOwnLineChange_touch rfl .refl e
  | nvProgramDone => exact execNvProgramDone_touch rfl .refl e
  | calGroupStart => exact execCalGroupStart_touch rfl .refl e
  | nrstFall => exact execNrstFall_touch rfl .refl e

/-- A command outside the list of those that store bytes leaves every byte below the DRAM as it was. -/
theorem exec_sram {c : Instr} {s u : State} (hc : c.storesBytes = false) (e : exec c s = .next u) : Sram s u := by
  cases c with
  | paceWindowEnd => exact execPaceWindowEnd_sram .refl e
  | dieLinkStall => exact execDieLinkStall_sram .refl e
  | lateResultDiscard _ _ unit => exact execLateResultDiscard_sram (_unit := unit) .refl e
  | dramRefreshDue => exact execDramRefreshDue_sram .refl e
  | eventStart => exact execEventStart_sram .refl e
  | highComparatorEdge => exact execHighComparatorEdge_sram .refl e
  | eventEnd => exact execEventEnd_sram .refl e
  | eventTimeoutClose => exact execEventTimeoutClose_sram .refl e
  | rearmEnd => exact execRearmEnd_sram .refl e
  | stuckHighTimeout => exact execStuckHighTimeout_sram .refl e
  | eventBin => exact execEventBin_sram .refl e
  | timebaseLock => exact execTimebaseLock_sram .refl e
  | timebaseLockLoss => exact execTimebaseLockLoss_sram .refl e
  | devtimeSnapshot => exact execDevtimeSnapshot_sram .refl e
  | poweredHoursWrite => exact execPoweredHoursWrite_sram .refl e
  | anchorTakeEffect => exact execAnchorTakeEffect_sram .refl e
  | syncEdge => exact execSyncEdge_sram .refl e
  | syncMiss => exact execSyncMiss_sram .refl e
  | syncFifoPop => exact execSyncFifoPop_sram .refl e
  | iuStartEdge => exact execIuStartEdge_sram .refl e
  | iuStopEdge => exact execIuStopEdge_sram .refl e
  | iuTimeout => exact execIuTimeout_sram .refl e
  | iuResultRead => exact execIuResultRead_sram .refl e
  | fuGateOpen => exact execFuGateOpen_sram .refl e
  | fuGateEnd => exact execFuGateEnd_sram .refl e
  | fuResult => exact execFuResult_sram .refl e
  | pulseFire => exact execPulseFire_sram .refl e
  | accumulationEnd => exact execAccumulationEnd_sram .refl e
  | correlatorTake => exact execCorrelatorTake_sram .refl e
  | reductionEnd => exact execReductionEnd_sram .refl e
  | opAbandon => exact execOpAbandon_sram .refl e
  | pageClearDone => exact execPageClearDone_sram .refl e
  | lineStart => exact execLineStart_sram .refl e
  | latchPoint => exact execLatchPoint_sram .refl e
  | linePrefetch => exact execLinePrefetch_sram .refl e
  | visitCompose => exact execVisitCompose_sram .refl e
  | watchdogExpiry => exact execWatchdogExpiry_sram .refl e
  | waitWake => exact execWaitWake_sram .refl e
  | waitTimeout => exact execWaitTimeout_sram .refl e
  | sleepEnd => exact execSleepEnd_sram .refl e
  | fenceDone => exact execFenceDone_sram .refl e
  | mfenceDone => exact execMfenceDone_sram .refl e
  | nop => exact execNop_sram .refl e
  | add => exact execAdd_sram .refl e
  | addi => exact execAddi_sram .refl e
  | sub => exact execSub_sram .refl e
  | and => exact execAnd_sram .refl e
  | andi => exact execAndi_sram .refl e
  | or => exact execOr_sram .refl e
  | ori => exact execOri_sram .refl e
  | xor => exact execXor_sram .refl e
  | xori => exact execXori_sram .refl e
  | shl => exact execShl_sram .refl e
  | shli => exact execShli_sram .refl e
  | shr => exact execShr_sram .refl e
  | shri => exact execShri_sram .refl e
  | sar => exact execSar_sram .refl e
  | sari => exact execSari_sram .refl e
  | mul => exact execMul_sram .refl e
  | mulhu => exact execMulhu_sram .refl e
  | mulhs => exact execMulhs_sram .refl e
  | divu => exact execDivu_sram .refl e
  | remu => exact execRemu_sram .refl e
  | min => exact execMin_sram .refl e
  | max => exact execMax_sram .refl e
  | movi => exact execMovi_sram .refl e
  | muli => exact execMuli_sram .refl e
  | cmpeq => exact execCmpeq_sram .refl e
  | cmpne => exact execCmpne_sram .refl e
  | cmplt => exact execCmplt_sram .refl e
  | cmpltu => exact execCmpltu_sram .refl e
  | cmpge => exact execCmpge_sram .refl e
  | cmpgeu => exact execCmpgeu_sram .refl e
  | cmpeqi => exact execCmpeqi_sram .refl e
  | cmplti => exact execCmplti_sram .refl e
  | cmpltui => exact execCmpltui_sram .refl e
  | cmpgei => exact execCmpgei_sram .refl e
  | cmpgeui => exact execCmpgeui_sram .refl e
  | pand => exact execPand_sram .refl e
  | por => exact execPor_sram .refl e
  | pnot => exact execPnot_sram .refl e
  | tstbit => exact execTstbit_sram .refl e
  | br => exact execBr_sram .refl e
  | brr => exact execBrr_sram .refl e
  | call => exact execCall_sram .refl e
  | ret => exact execRet_sram .refl e
  | loop => exact execLoop_sram .refl e
  | halt => exact execHalt_sram .refl e
  | kick => exact execKick_sram .refl e
  | sleep => exact execSleep_sram .refl e
  | time => exact execTime_sram .refl e
  | fstat => exact execFstat_sram .refl e
  | wait => exact execWait_sram .refl e
  | wait1 => exact execWait1_sram .refl e
  | sig => exact execSig_sram .refl e
  | evclr => exact execEvclr_sram .refl e
  | ld => exact execLd_sram .refl e
  | mfence => exact execMfence_sram .refl e
  | dbase => exact execDbase_sram .refl e
  | fcommit => exact execFcommit_sram .refl e
  | hlock => exact execHlock_sram .refl e
  | watch => exact execWatch_sram .refl e
  | probe => exact execProbe_sram .refl e
  | cqpop => exact execCqpop_sram .refl e
  | fence => exact execFence_sram .refl e
  | hop => exact execHop_sram .refl e
  | lread => exact execLread_sram .refl e
  | anchor => exact execAnchor_sram .refl e
  | emit => exact execEmit_sram .refl e
  | carm => exact execCarm_sram .refl e
  | mprof => exact execMprof_sram .refl e
  | exchangeStart => exact execExchangeStart_sram .refl e
  | exchangeCommand => exact execExchangeCommand_sram .refl e
  | exchangeMark => exact execExchangeMark_sram .refl e
  | echoEdge => exact execEchoEdge_sram .refl e
  | replyFrame => exact execReplyFrame_sram .refl e
  | replyDeadline => exact execReplyDeadline_sram .refl e
  | exchangeWindowEnd => exact execExchangeWindowEnd_sram .refl e
  | standbyCableListen => exact execStandbyCableListen_sram .refl e
  | ginChange => exact execGinChange_sram .refl e
  | ginDiscrepancyTimeout => exact execGinDiscrepancyTimeout_sram .refl e
  | ginAgreementEnd => exact execGinAgreementEnd_sram .refl e
  | motionWindowEnd => exact execMotionWindowEnd_sram .refl e
  | guardHeartbeat => exact execGuardHeartbeat_sram .refl e
  | firedPulseReport => exact execFiredPulseReport_sram .refl e
  | channelDisagreeTimeout => exact execChannelDisagreeTimeout_sram .refl e
  | emenReadbackFault => exact execEmenReadbackFault_sram .refl e
  | twinGuardState => exact execTwinGuardState_sram .refl e
  | commandApply => exact execCommandApply_sram .refl e
  | encEdge => exact execEncEdge_sram .refl e
  | encIndex => exact execEncIndex_sram .refl e
  | parkEnd => exact execParkEnd_sram .refl e
  | blockReceive => exact execBlockReceive_sram .refl e
  | capSend => exact execCapSend_sram .refl e
  | capReceive => exact execCapReceive_sram .refl e
  | capTimeout => exact execCapTimeout_sram .refl e
  | ackReceive => exact execAckReceive_sram .refl e
  | creditReceive => exact execCreditReceive_sram .refl e
  | sleepReceive => exact execSleepReceive_sram .refl e
  | controlBlockUnknown => exact execControlBlockUnknown_sram .refl e
  | parcelReceive => exact execParcelReceive_sram .refl e
  | ackSend => exact execAckSend_sram .refl e
  | transmitSlot => exact execTransmitSlot_sram .refl e
  | ackTimeout => exact execAckTimeout_sram .refl e
  | laneRestart => exact execLaneRestart_sram .refl e
  | parcelTimeout => exact execParcelTimeout_sram .refl e
  | laybyDrain => exact execLaybyDrain_sram .refl e
  | gapSplitExpiry => exact execGapSplitExpiry_sram .refl e
  | ctrlRead => exact execCtrlRead_sram .refl e
  | ctrlUnknownOp => exact execCtrlUnknownOp_sram .refl e
  | txSleepEnter => exact execTxSleepEnter_sram .refl e
  | txWake => exact execTxWake_sram .refl e
  | wakeResume => exact execWakeResume_sram .refl e
  | prbsBitsCapture _ req _ => exact execPrbsBitsCapture_sram (_req := req) .refl e
  | beatSend => exact execBeatSend_sram .refl e
  | healthCheck => exact execHealthCheck_sram .refl e
  | beatReceive _ _ _ time => exact execBeatReceive_sram (_time := time) .refl e
  | hbInPulse => exact execHbInPulse_sram .refl e
  | pathLost => exact execPathLost_sram .refl e
  | ownKeeperLapse => exact execOwnKeeperLapse_sram .refl e
  | identityReceive => exact execIdentityReceive_sram .refl e
  | tofsUpdate => exact execTofsUpdate_sram .refl e
  | shadowSchedule => exact execShadowSchedule_sram .refl e
  | alignStart => exact execAlignStart_sram .refl e
  | dqsTrack => exact execDqsTrack_sram .refl e
  | selfRefreshEnter => exact execSelfRefreshEnter_sram .refl e
  | selfRefreshExit => exact execSelfRefreshExit_sram .refl e
  | replaySend => exact execReplaySend_sram .refl e
  | xtrigReceive _ setup mask cause => exact execXtrigReceive_sram (_setup := setup) (_mask := mask) (_cause := cause) .refl e
  | loopConversion => exact execLoopConversion_sram .refl e
  | supplyConversion => exact execSupplyConversion_sram .refl e
  | seqEntryRun => exact execSeqEntryRun_sram .refl e
  | rqPop => exact execRqPop_sram .refl e
  | spSample => exact execSpSample_sram .refl e
  | curveExpandDone => exact execCurveExpandDone_sram .refl e
  | sensorConversion => exact execSensorConversion_sram .refl e
  | thermalLevelChange => exact execThermalLevelChange_sram .refl e
  | orderlyStopRecords => exact execOrderlyStopRecords_sram .refl e
  | refOpIssue => exact execRefOpIssue_sram .refl e
  | calGroup => exact execCalGroup_sram .refl e
  | calUrgent => exact execCalUrgent_sram .refl e
  | nvRecordWrite => exact execNvRecordWrite_sram .refl e
  | powerOnReset => exact execPowerOnReset_sram .refl e
  | nrstRelease => exact execNrstRelease_sram .refl e
  | nrstStuck => exact execNrstStuck_sram .refl e
  | nrstStuckEnd => exact execNrstStuckEnd_sram .refl e
  | errorAutoAck => exact execErrorAutoAck_sram .refl e
  | fatalTimeout => exact execFatalTimeout_sram .refl e
  | trimStepNoFormat => exact execTrimStepNoFormat_sram .refl e
  | fuInputEdge => exact execFuInputEdge_sram .refl e
  | rxSignalDetect => exact execRxSignalDetect_sram .refl e
  | rxWakeLockTimeout => exact execRxWakeLockTimeout_sram .refl e
  | prbsBitCheck => exact execPrbsBitCheck_sram .refl e
  | ownLineChange => exact execOwnLineChange_sram .refl e
  | nvProgramDone => exact execNvProgramDone_sram .refl e
  | calGroupStart => exact execCalGroupStart_sram .refl e
  | nrstFall => exact execNrstFall_sram .refl e
  | _ => exact Bool.noConfusion hc

/-- Settles O1, by the definition of the step. -/
theorem stepRunsFront : Obligations.StepRunsFront := by
  unfold Obligations.StepRunsFront
  refine ⟨fun c q s => rfl, fun s hq => ?_⟩
  unfold step
  rw [hq]

/-- Settles O4: the command at the front of the queue keeps the canonical form (`exec_touch`), which taking it off the queue
does not touch. -/
theorem canonicalKept : Obligations.CanonicalKept := by
  unfold Obligations.CanonicalKept
  intro s u hs e
  cases hq : s.pending with
  | nil =>
    rw [stepRunsFront.2 s hq] at e
    cases e
    exact hs
  | cons c q =>
    have hstep : step s = exec c { s with pending := q } := by
      unfold step
      rw [hq]
    rw [hstep] at e
    exact (exec_touch e).canon hs

/-- Settles O7, from the frame of each command that stores no byte. -/
theorem bytesKept : Obligations.BytesKept := by
  unfold Obligations.BytesKept
  intro c s u a hc e ha
  exact exec_sram hc e a ha

end Sys2Proof.Machine

/-! The pace of the part (O13): PART_PACE is a least value over a list of dies. -/

namespace Sys2Proof.Machine

/-! ### The least value over a list -/

/-- The running minimum of a function over a list that is not empty is the least of its values. -/
theorem min?_map_cons (f : Nat → Nat) (d : Nat) (r : List Nat) :
    ((d :: r).map f).min? = some (r.foldl (fun m k => min m (f k)) (f d)) := by
  rw [List.map_cons, List.min?_cons', List.foldl_map]

/-- The least of a function's values over a list: one of them, and at most each of them. -/
theorem min?_map_eq_some {f : Nat → Nat} {l : List Nat} {p : Nat} :
    (l.map f).min? = some p ↔ (∃ d ∈ l, p = f d) ∧ ∀ d ∈ l, p ≤ f d := by
  rw [List.min?_eq_some_iff, List.forall_mem_map, List.mem_map]
  simp only [eq_comm]

/-! ### PART_PACE -/

/-- The dies that count for the pace of the part (R18): the hub and the ranging dies in service, with PACE_VALID. -/
def State.pacedDies (s : State) : List Nat :=
  (List.range 8).filter (fun d => (d = 0 || s.dieUp d) && s.flag (R.PACE_STATUS.PACE_VALID d))

theorem State.mem_pacedDies {s : State} {d : Nat} :
    d ∈ s.pacedDies ↔
      d < 8 ∧ (d = 0 ∨ s.dieFitted d = true ∧ s.dieDark d = false) ∧ s.flag (R.PACE_STATUS.PACE_VALID d) = true := by
  simp [State.pacedDies, State.dieUp]

theorem State.partPace_eq_min? (s : State) :
    s.partPace = ((s.pacedDies.map (fun d => s.get (R.PACE_STATUS.PACE_NOW d))).min?).getD 0 := by
  unfold State.partPace State.pacedDies
  dsimp only
  split
  · next hnil => rw [hnil]; rfl
  · next d r hcons => rw [hcons, min?_map_cons]; rfl

/-- A read of PART_PACE has no effect and answers the pace of the part. -/
theorem busRead_partPace (req : Nat) (s : State) : busRead req R.PART_PACE.addr 4 s = (s.partPace, s) := by
  have hhit : regHit R.PART_PACE.addr = some ⟨⟨.PART_PACE, 0x10, [], 0x0, [⟨0, 10, .readOnly, []⟩]⟩, []⟩ := by
    decide +kernel
  have htarget := target_hub s R.PART_PACE.addr _ (by decide) (by decide) (by decide) hhit (by decide) (by decide)
  unfold busRead
  rw [htarget]
  rfl

/-- Settles O13: PART_PACE is the least PACE_NOW of the dies that count, 0 where the list of them is empty. -/
theorem partPaceIsLowest : Obligations.PartPaceIsLowest := by
  unfold Obligations.PartPaceIsLowest
  intro s req
  simp only [show R.PART_PACE.value.addr = R.PART_PACE.addr from rfl, busRead_partPace, ← State.mem_pacedDies]
  rw [State.partPace_eq_min?]
  refine ⟨trivial, ?_⟩
  cases hmin : (s.pacedDies.map (fun d => s.get (R.PACE_STATUS.PACE_NOW d))).min? with
  | none =>
    have hempty : s.pacedDies = [] := by simpa using hmin
    simp [hempty]
  | some p =>
    obtain ⟨⟨d, hd, hp⟩, hle⟩ := min?_map_eq_some.mp hmin
    exact ⟨hle, fun _ => ⟨d, hd, hp⟩, fun hnone => absurd hd (hnone d)⟩

end Sys2Proof.Machine

/-! Pace windows, stalled die links and late results (O16). -/

namespace Sys2Proof.Machine

/-! ### Commands of a part that is ready -/

/-- A command of a part that is out of reset: its effect at its instant, then the entry to the safe state where one is due. -/
theorem act_ready {s : State} {t : Nat} {f : State → State} (h : Ready s) : act t f s = .next (settle (f (s.tick t))) := by
  have hpower : (s.tick t).su.power = .running := h.1
  unfold act
  dsimp only
  rw [if_pos hpower]

/-! ### Flags -/

theorem State.flag_put (s : State) (f : Field) (v : Nat) (h : f.lo + f.w ≤ 32) : (s.put f v).flag f = decide (v % 2 ^ f.w ≠ 0) := by
  rw [State.flag, State.get_put _ _ _ h]

theorem State.flag_put_beside (s : State) (f g : Field) (v : Nat) (h : f.lo + f.w ≤ g.lo ∨ g.lo + g.w ≤ f.lo) :
    (s.put f v).flag g = s.flag g := by
  rw [State.flag, State.get_put_beside _ _ _ _ h, State.flag]

/-! ### The pace of a die (R16, R17) -/

/-- The pace that a ring's count in a window stands for (R16). -/
def ringPace (d : Nat) (counts : List Nat) (r : Nat) : Nat := min 1023 (256 * counts.getD r 0 / Config.ringRef (4 * d + r))

/-- The rings of a die that are not in fault, by their counts in a window (R17). -/
def soundRings (d : Nat) (counts : List Nat) : List Nat := (List.range 4).filter (fun r => !ringFault d r (counts.getD r 0))

theorem mem_soundRings {d : Nat} {counts : List Nat} {r : Nat} :
    r ∈ soundRings d counts ↔ r < 4 ∧ ringFault d r (counts.getD r 0) = false := by
  simp [soundRings]

theorem diePace_eq_min? (d : Nat) (counts : List Nat) :
    (diePace d counts).2 = ((soundRings d counts).map (ringPace d counts)).min? := by
  unfold diePace soundRings
  dsimp only
  split
  · next hnil => rw [hnil]; rfl
  · next r l hcons => rw [hcons, min?_map_cons]; rfl

/-- What a window leaves in a die's PACE_STATUS where some ring is not in fault, but for PACE_MIN. -/
def State.paced (s : State) (d bad p : Nat) : State :=
  ((s.put (R.PACE_STATUS.RING_FAULT d) bad).put (R.PACE_STATUS.PACE_NOW d) p).setFlag (R.PACE_STATUS.PACE_VALID d)

theorem State.paced_paceNow (s : State) (d bad p : Nat) (hp : p ≤ 1023) :
    (s.paced d bad p).get (R.PACE_STATUS.PACE_NOW d) = p := by
  unfold State.paced State.setFlag
  rw [State.get_put_beside _ _ _ _ (of_decide_eq_true rfl), State.get_put _ _ _ (of_decide_eq_true rfl)]
  exact Nat.mod_eq_of_lt (Nat.lt_succ_of_le hp)

theorem State.paced_paceMin (s : State) (d bad p : Nat) :
    (s.paced d bad p).get (R.PACE_STATUS.PACE_MIN d) = s.get (R.PACE_STATUS.PACE_MIN d) := by
  unfold State.paced State.setFlag
  rw [State.get_put_beside _ _ _ _ (of_decide_eq_true rfl), State.get_put_beside _ _ _ _ (of_decide_eq_true rfl),
    State.get_put_beside _ _ _ _ (of_decide_eq_true rfl)]

theorem State.paced_paceValid (s : State) (d bad p : Nat) : (s.paced d bad p).flag (R.PACE_STATUS.PACE_VALID d) = true :=
  State.flag_put _ _ _ (of_decide_eq_true rfl)

theorem State.paced_regsBut (s : State) (d bad p : Nat) : RegsBut [R.PACE_STATUS.addr d] s (s.paced d bad p) := by
  intro a ha
  have hne : a ≠ R.PACE_STATUS.addr d := fun h => ha (by simp [h])
  unfold State.paced State.setFlag
  rw [State.reg_put_other _ _ _ _ hne, State.reg_put_other _ _ _ _ hne, State.reg_put_other _ _ _ _ hne]

/-- A window of a die of which some ring is not in fault. -/
theorem paceDie_of_some {d p : Nat} {counts : List Nat} (s : State) (h : (diePace d counts).2 = some p) :
    paceDie d counts s =
      if p < s.get (R.PACE_STATUS.PACE_MIN d) then (s.paced d (diePace d counts).1 p).put (R.PACE_STATUS.PACE_MIN d) p
      else s.paced d (diePace d counts).1 p := by
  rw [← State.paced_paceMin s d (diePace d counts).1 p]
  unfold paceDie
  dsimp only
  rw [h]
  rfl

/-- What a window leaves of a die whose slowest ring not in fault has a pace `p` (R16). -/
theorem paceDie_spec {d p : Nat} {counts : List Nat} (s : State) (hp : p ≤ 1023) (h : (diePace d counts).2 = some p) :
    let u := paceDie d counts s
    u = { s with regs := u.regs } ∧ RegsBut [R.PACE_STATUS.addr d] s u ∧ u.get (R.PACE_STATUS.PACE_NOW d) = p ∧
    u.flag (R.PACE_STATUS.PACE_VALID d) = true ∧
    u.get (R.PACE_STATUS.PACE_MIN d) = min (s.get (R.PACE_STATUS.PACE_MIN d)) p := by
  dsimp only
  rw [paceDie_of_some s h]
  split
  · next hlow =>
    refine ⟨rfl, fun a ha => ?_, ?_, ?_, ?_⟩
    · rw [State.reg_put_other _ _ _ _ (fun h => ha (by simp [h, R.PACE_STATUS.PACE_MIN]))]
      exact State.paced_regsBut _ _ _ _ a ha
    · rw [State.get_put_beside _ _ _ _ (of_decide_eq_true rfl), State.paced_paceNow _ _ _ _ hp]
    · rw [State.flag_put_beside _ _ _ _ (of_decide_eq_true rfl), State.paced_paceValid]
    · rw [State.get_put _ _ _ (of_decide_eq_true rfl), Nat.min_eq_right (Nat.le_of_lt hlow)]
      exact Nat.mod_eq_of_lt (Nat.lt_succ_of_le hp)
  · next hlow =>
    refine ⟨rfl, State.paced_regsBut _ _ _ _, State.paced_paceNow _ _ _ _ hp, State.paced_paceValid _ _ _ _, ?_⟩
    rw [State.paced_paceMin, Nat.min_eq_left (Nat.le_of_not_lt hlow)]

/-! ### Registers of the hub's fabric block

An abandoned op and an error write to no register below 0x800 (01_architecture.md, Fabric and pace registers). -/

section FabricBlock
variable {k : Nat}

theorem upTo_reg {n : Nat} {f : Nat → State → State} (hf : ∀ i t, (f i t).reg k = t.reg k) (s : State) :
    (upTo n f s).reg k = s.reg k := by
  induction n with
  | zero => rfl
  | succ n ih => exact (hf n _).trans ih

theorem forAll_reg {β : Type} {l : List β} {f : β → State → State} (hf : ∀ x t, (f x t).reg k = t.reg k) (s : State) :
    (forAll l f s).reg k = s.reg k := by
  induction l generalizing s with
  | nil => rfl
  | cons x r ih => exact (ih (f x s)).trans (hf x s)

/-- A write of a field whose register lies at 0x800 or above. -/
theorem State.put_fabric (hk : k < 0x800) (s : State) (f : Field) (v : Nat) (hf : 0x800 ≤ f.addr) : (s.put f v).reg k = s.reg k :=
  State.reg_put_other _ _ _ _ (by omega)

theorem State.setPend_fabric (hk : k < 0x800) (s : State) (n v : Nat) : (s.setPend n v).reg k = s.reg k := by
  unfold State.setPend
  rw [State.put_fabric hk _ _ _ (by simp only [R.SQ_EV_PEND_HI.PEND_HI, R.SQ_EV_PEND_HI.addr]; omega),
    State.put_fabric hk _ _ _ (by simp only [R.SQ_EV_PEND_LO.PEND_LO, R.SQ_EV_PEND_LO.addr]; omega)]

theorem raiseEv_fabric (hk : k < 0x800) (n : Nat) (s : State) : (raiseEv n s).reg k = s.reg k := by
  refine upTo_reg (fun i t => ?_) s
  unfold raiseAt
  split
  · split
    · exact State.put_fabric hk _ _ _ (by simp only [R.SQ_EV_MERGED.EV_MERGED, R.SQ_EV_MERGED.addr]; omega)
    · exact State.setPend_fabric hk _ _ _
  · rfl

theorem levels_fabric (hk : k < 0x800) (s : State) : (levels s).reg k = s.reg k := by
  refine upTo_reg (fun i t => upTo_reg (fun j u => ?_) t) s
  unfold levelAt
  split
  · exact State.setPend_fabric hk _ _ _
  · rfl

theorem enterErr_fabric (hk : k < 0x800) (cls detail : Nat) (f : Field) (s : State) : (enterErr cls detail f s).reg k = s.reg k := by
  have hcount (t : State) (g : Field) (v : Nat) (hg : g.addr = R.ERR_COUNT.addr cls) : (t.addSat g v).reg k = t.reg k :=
    State.put_fabric hk _ _ _ (by rw [hg, R.ERR_COUNT.addr]; omega)
  unfold enterErr
  dsimp only
  split
  · exact (State.put_fabric hk _ _ _ (by decide)).trans ((hcount _ _ _ rfl).trans (hcount _ _ _ rfl))
  · exact (raiseEv_fabric hk _ _).trans (hcount _ _ _ rfl)

theorem takeWaitingN_fabric (hk : k < 0x800) (ch n : Nat) (s : State) : (takeWaitingN ch n s).reg k = s.reg k := by
  induction n generalizing s with
  | zero => rfl
  | succ n ih =>
    unfold takeWaitingN
    split
    · refine (ih _).trans ?_
      unfold openFirst
      split
      · rfl
      · split
        · rfl
        · exact State.put_fabric hk _ _ _ (by simp only [R.OPS_UNBINNED.UNBINNED, R.OPS_UNBINNED.addr]; omega)
    · rfl

theorem cqProbe_fabric (hk : k < 0x800) (p : ProbeInfo) (mk : Nat → Nat × Nat × Nat × Nat) (s : State) :
    (cqProbe p mk s).reg k = s.reg k := by
  unfold cqProbe
  split
  · rfl
  · exact levels_fabric hk _

theorem modFrame_reg (s : State) (h f : Nat) (g : FrameAcc → FrameAcc) : (s.modFrame h f g).reg k = s.reg k := by
  unfold State.modFrame
  split <;> rfl

theorem releaseOp_reg (d slot : Nat) (s : State) : (releaseOp d slot s).reg k = s.reg k := by
  unfold releaseOp
  split <;> rfl

theorem abandonOp_fabric (hk : k < 0x800) (d slot : Nat) (s : State) : (abandonOp d slot s).reg k = s.reg k := by
  unfold abandonOp
  split
  · rfl
  · next o _ =>
    extract_lets s1 s2 s3 s4 x s5
    have h1 : s1.reg k = s.reg k := takeWaitingN_fabric hk _ _ _
    have h2 : s2.reg k = s1.reg k :=
      State.put_fabric hk _ _ _ (by simp only [R.OPS_ABANDONED.ABANDONED, R.OPS_ABANDONED.addr]; omega)
    have h3 : s3.reg k = s2.reg k := by
      unfold s3
      split
      · exact modFrame_reg _ _ _ _
      · rfl
    have h4 : s4.reg k = s3.reg k := by
      unfold s4
      split
      · exact cqProbe_fabric hk _ _ _
      · rfl
    calc (releaseOp d slot s5).reg k
        = s4.reg k := releaseOp_reg d slot s5
      _ = s.reg k := by rw [h4, h3, h2, h1]

theorem abandonWhere_fabric (hk : k < 0x800) (p : Nat → Op → Bool) (s : State) : (abandonWhere p s).reg k = s.reg k := by
  refine forAll_reg (fun x t => ?_) s
  split
  · split
    · exact abandonOp_fabric hk _ _ _
    · rfl
  · rfl

end FabricBlock

/-! ### A die that goes dark (R24, R25) -/

theorem bit_or_two_pow (x i : Nat) : bit (x ||| 2 ^ i) i = true := by
  rw [bit_testBit, Nat.testBit_or, Nat.testBit_two_pow_self, Bool.or_true]

theorem dieDark_of_up {s : State} {d : Nat} (h : s.dieUp d = true) :
    dieDark d s = enterErr 2 d R.FAB_STATUS.DIES_DARK (abandonWhere (fun e o => decide (e = d) && o.withdrawable)
      (s.put R.FAB_STATUS.DIES_DARK (s.get R.FAB_STATUS.DIES_DARK ||| 2 ^ d))) := by
  obtain ⟨hfit, hlit⟩ : s.dieFitted d = true ∧ s.dieDark d = false := by simpa [State.dieUp] using h
  unfold dieDark
  rw [hfit, hlit]
  rfl

/-- A die in service that goes dark is dark afterwards. -/
theorem dieDark_dark {s : State} {d : Nat} (h : s.dieUp d = true) (hd : d < 8) : (dieDark d s).dieDark d = true := by
  have hfab : R.FAB_STATUS.addr < 0x800 := by decide
  have hget : (dieDark d s).get R.FAB_STATUS.DIES_DARK = (s.get R.FAB_STATUS.DIES_DARK ||| 2 ^ d) % 2 ^ 8 := by
    rw [dieDark_of_up h]
    exact (congrArg R.FAB_STATUS.DIES_DARK.read ((enterErr_fabric hfab _ _ _ _).trans (abandonWhere_fabric hfab _ _))).trans
      (State.get_put s _ _ (by decide))
  rw [State.dieDark, hget, bit_testBit, Nat.testBit_mod_two_pow, decide_eq_true hd, Bool.true_and, ← bit_testBit,
    bit_or_two_pow]

/-- Once its link is down, a dark die's DIE_ID no longer answers (R25). -/
theorem target_dieId_dark {s : State} {d : Nat} (hd : d < 8) (hfit : s.dieFitted d = true) (hdark : s.dieDark d = true)
    (hlink : bit s.pts.linkDown d = true) : s.target (0x1000000 * d) 4 = .dark := by
  have hpos : d ≠ 0 := by
    have := of_decide_eq_true hfit
    omega
  have hdie : 0x1000000 * d / 0x1000000 = d := by omega
  have hofs : 0x1000000 * d % 0x1000000 = 0 := by omega
  have hgap : channelGap 0 = false := by decide
  unfold State.target
  rw [if_pos (by omega), if_pos ⟨rfl, by omega⟩]
  unfold State.regTarget
  simp only [hdie, hofs]
  rw [if_neg hpos, hfit, hgap, hdark, hlink]
  rfl

theorem busRead_stalled {s : State} {d : Nat} (hd : d < 8) (h : s.dieUp d = true) (hlink : bit s.pts.linkDown d = true)
    (req : Nat) : (busRead req (0x1000000 * d) 4 (dieDark d s)).1 = 0 := by
  have htouch : Touch 33566468 s (dieDark d s) := dieDark_touch rfl .refl
  have hfit : (dieDark d s).dieFitted d = true := by
    rw [State.dieFitted, htouch.variant (by decide)]
    exact (Bool.and_eq_true_iff.mp h).1
  have hdown : bit (dieDark d s).pts.linkDown d = true := by rwa [htouch.pts (by decide)]
  unfold busRead
  rw [target_dieId_dark hd hfit (dieDark_dark h hd) hdown]

/-- The link of a die in service stalls: the die goes dark. -/
theorem linkStall_of_up {s : State} {d : Nat} (h : s.dieUp d = true) :
    linkStall d s = dieDark d { s with pts := { s.pts with linkDown := s.pts.linkDown ||| 2 ^ d } } := by
  unfold linkStall
  rw [(Bool.and_eq_true_iff.mp h).1]
  rfl

/-! ### A window of the part (R19) -/

/-- The rings of the hub and of the dies in service are judged. -/
def State.ringsJudged (s : State) (counts : List (List Nat)) : State :=
  upTo 8 (fun d v => if d = 0 || v.dieUp d then paceDie d (counts.getD d []) v else v) s

/-- Windows in a row below PACE_LOW_THR, up to 8; 9 stands for a fall that has raised its event. -/
def State.windowsBelow (s : State) : Nat :=
  if s.partPace < s.get (R.PACE_CFG.PACE_LOW_THR 0) then min 9 (s.pts.paceBelow + 1) else 0

/-- A fall has lasted the dwell and has not yet raised its event (R19). -/
abbrev State.fallSeen (s : State) : Prop := s.windowsBelow < 9 ∧ 2 ^ s.get (R.PACE_CFG.PACE_DWELL 0) ≤ s.windowsBelow

/-- The count of windows below the threshold after this one. -/
def State.fallCounted (s : State) : State :=
  { s with pts := { s.pts with paceBelow := if s.fallSeen then 9 else s.windowsBelow } }

theorem paceWindow_of_locked {s : State} (counts : List (List Nat))
    (h : s.flag R.TB_STATUS.LOCKED = true ∨ s.get R.TB_STATUS.LOCK_LOSS_COUNT ≠ 0) :
    paceWindow counts s =
      if (s.ringsJudged counts).fallSeen then
        policyPace 1 (policyPace 0 (raiseEv 9 ((s.ringsJudged counts).fallCounted.setFlag (R.PACE_STATUS.PACE_LOW 0))))
      else (s.ringsJudged counts).fallCounted := by
  have hrun : ¬ (!s.flag R.TB_STATUS.LOCKED && decide (s.get R.TB_STATUS.LOCK_LOSS_COUNT = 0)) = true := by
    rcases h with h | h <;> simp [h]
  unfold paceWindow
  rw [if_neg hrun]
  extract_lets v p need n hit pts x
  have hjudged : v = s.ringsJudged counts := rfl
  have hseen : hit = true ↔ v.fallSeen := decide_eq_true_iff
  have hbelow : (if hit then 9 else n) = if v.fallSeen then 9 else v.windowsBelow :=
    ite_congr (propext hseen) (fun _ => rfl) (fun _ => rfl)
  have hcounted : x = v.fallCounted := by
    unfold x State.fallCounted
    rw [hbelow]
  rw [← hjudged, hcounted]
  exact ite_congr (propext hseen) (fun _ => rfl) (fun _ => rfl)

/-! ### The statement -/

/-- Settles O16: the window's rule branch by branch, the slowest ring as a least value, the registers that going dark leaves. -/
theorem paceAndDarkDies : Obligations.PaceAndDarkDies := by
  unfold Obligations.PaceAndDarkDies
  refine ⟨fun t counts s hready => ?window, fun d r counts s hd hr hsound => ?slowest, fun t d s hready => ?stall,
    fun t unit island s hready => ?late⟩
  case window =>
    intro w hlocked v n seen x
    show act t (paceWindow counts) s = _
    rw [act_ready hready, paceWindow_of_locked counts hlocked, show (s.tick t).ringsJudged counts = v from rfl]
    clear_value v
    rfl
  case slowest =>
    intro p hleast
    have hpace : (diePace d counts).2 = some (p r) := by
      rw [diePace_eq_min?]
      exact min?_map_eq_some.mpr ⟨⟨r, mem_soundRings.mpr ⟨hr, hsound⟩, rfl⟩,
        fun k hk => hleast k (mem_soundRings.mp hk).1 (mem_soundRings.mp hk).2⟩
    exact paceDie_spec s (Nat.min_le_left _ _) hpace
  case stall =>
    intro w hup x
    refine ⟨?_, fun hd req => @busRead_stalled x d hd hup (bit_or_two_pow _ _) req⟩
    show act t (linkStall d) s = _
    rw [act_ready hready, linkStall_of_up hup]
    congr 2
    exact dieDark_of_up hup
  case late =>
    intro w
    exact act_next (f := fun s => { s with pts := { s.pts with late := s.pts.late.put 0 island (s.pts.late.get 0 island + 1) } })
      hready.1 hready.2

end Sys2Proof.Machine

/-! Writes of a requester, unmapped accesses, and the two requests of the fabric block (O15). -/

namespace Sys2Proof.Machine

/-! ### Fields read from a register word -/

theorem Field.read_eq_bits (f : Field) (x : BitVec 32) : f.read x = bits x.toNat f.lo f.w := by
  apply Nat.eq_of_testBit_eq
  intro i
  rw [Field.read_testBit, bits_testBit, BitVec.testBit_toNat]

/-- A field of a register that has been given a word. -/
theorem State.get_setReg_self (s : State) (f : Field) (v : Nat) (h : f.lo + f.w ≤ 32) :
    (s.setReg f.addr (BitVec.ofNat 32 v)).get f = bits v f.lo f.w := by
  rw [State.get, State.reg_setReg_self, Field.read_eq_bits, BitVec.toNat_ofNat, bits_mod _ _ _ h]

/-- A saturating counter that moves up. -/
theorem State.get_addSat (s : State) (f : Field) (n : Nat) (h : f.lo + f.w ≤ 32) :
    (s.addSat f n).get f = min (2 ^ f.w - 1) (s.get f + n) := by
  have hpos : 0 < 2 ^ f.w := Nat.two_pow_pos f.w
  rw [State.addSat, State.get_put _ _ _ h]
  exact Nat.mod_eq_of_lt (by omega)

/-! ### The word that writes one field -/

/-- A field beside every place that is written. -/
theorem bits_withFields_beside (l : List (Nat × Nat × Nat)) (w k m : Nat)
    (h : ∀ p ∈ l, p.1 + p.2.1 ≤ k ∨ k + m ≤ p.1) : bits (withFields w l) k m = bits w k m := by
  induction l generalizing w with
  | nil => rfl
  | cons p r ih =>
    obtain ⟨hp, hr⟩ := List.forall_mem_cons.mp h
    exact (ih (withFields w [p]) hr).trans (bits_withField_beside w p.1 p.2.1 p.2.2 k m hp)

/-- Fields that share no bit, each copied from a word. -/
theorem bits_withFields_copied (l : List FieldDef) (hl : l.Pairwise FieldDef.Apart) (g : FieldDef) (hg : g ∈ l) (w x : Nat) :
    g.of (withFields w (l.map (fun f => (f.lo, f.w, bits x f.lo f.w)))) = g.of x := by
  induction l generalizing w with
  | nil => exact absurd hg List.not_mem_nil
  | cons f r ih =>
    obtain ⟨hf, hr⟩ := List.pairwise_cons.mp hl
    rcases List.mem_cons.mp hg with rfl | hgr
    · have hbeside : ∀ p ∈ r.map (fun f => (f.lo, f.w, bits x f.lo f.w)), p.1 + p.2.1 ≤ g.lo ∨ g.lo + g.w ≤ p.1 := by
        intro p hp
        obtain ⟨f, hfr, rfl⟩ := List.mem_map.mp hp
        exact (hf f hfr).symm
      calc g.of (withFields (withFields w [(g.lo, g.w, g.of x)]) (r.map (fun f => (f.lo, f.w, bits x f.lo f.w))))
          = g.of (withFields w [(g.lo, g.w, g.of x)]) := bits_withFields_beside _ _ _ _ hbeside
        _ = g.of x % 2 ^ g.w := bits_withField _ _ _ _
        _ = g.of x := Nat.mod_eq_of_lt (g.of_lt x)
    · exact ih hr hgr _

/-- A field that a requester does not name keeps in the written word what the requester reads of it. -/
theorem fieldWord_kept (s : State) (req : Nat) (f : Field) (h : RegHit) (v : Nat) (g : FieldDef) (hh : regHit f.addr = some h)
    (hg : g ∈ h.def_.fields) (hcls : g.cls = .static ∨ g.cls = .live ∨ g.cls = .latched) (hw : g.lo + g.w ≤ 32)
    (hf : f.lo + f.w ≤ g.lo ∨ g.lo + g.w ≤ f.lo) :
    g.of (s.fieldWord req f h v % 2 ^ 32) = g.of (s.regValue req f.addr h) := by
  have hkeep : g ∈ h.def_.fields.filter (fun g => g.cls = .static || g.cls = .live || g.cls = .latched) :=
    List.mem_filter.mpr ⟨hg, by simpa [or_assoc] using hcls⟩
  exact (bits_mod _ _ _ hw).trans ((bits_withField_beside _ _ _ _ _ _ hf).trans
    (bits_withFields_copied _ ((regHit_fieldsApart _ _ hh).filter _) g hkeep _ _))

/-- What each field of a register holds once a requester has written one of them. -/
theorem State.get_asked (s : State) (req : Nat) (f : Field) (v : Nat) (h : RegHit) (g : FieldDef) (hh : regHit f.addr = some h)
    (hg : g ∈ h.def_.fields) (hw : g.lo + g.w ≤ 32) :
    (s.asked req f v).get ⟨f.addr, g.lo, g.w⟩ =
      g.next (s.get ⟨f.addr, g.lo, g.w⟩)
        (g.of (s.adjust h.def_.id h.ix (s.reg f.addr).toNat (s.fieldWord req f h v % 2 ^ 32))) := by
  have hold : s.get ⟨f.addr, g.lo, g.w⟩ = g.of (s.reg f.addr).toNat := Field.read_eq_bits _ _
  rw [asked_eq _ _ _ _ _ hh, hold]
  exact (State.get_setReg_self s ⟨f.addr, g.lo, g.w⟩ _ hw).trans (FieldDef.of_word _ _ g _ (regHit_fieldsApart _ _ hh) hg)

/-! ### The branches of a write -/

section Writes
variable {s : State} {req a n v : Nat}

theorem writeTarget_register {h : RegHit} (ht : s.target a n = .register h) :
    writeTarget req a n v s = regWrite req a h (v % 2 ^ 32) s := by
  unfold writeTarget
  rw [ht]

theorem writeTarget_sram (ht : s.target a n = .sram) : writeTarget req a n v s = s.store a n v := by
  unfold writeTarget
  rw [ht]

/-- Read-only windows, reserved offsets, dark dies and the egress window take no write. -/
theorem writeTarget_ignored (ht : s.target a n ∈ [.words true, .reserved, .dark, .egress]) : writeTarget req a n v s = s := by
  unfold writeTarget
  simp only [List.mem_cons, List.not_mem_nil, or_false] at ht
  rcases ht with ht | ht | ht | ht <;> rw [ht]
  rfl

theorem regWrite_refused {h : RegHit} (h0 : h.def_.id ≠ .CH_THR) (h1 : h.def_.id ≠ .SETPOINT) (hr : s.regRefused a h v = true) :
    regWrite req a h v s = rejected h.def_.id h.ix s := by
  unfold regWrite
  split
  · next k _ => exact absurd k h0
  · next k _ => exact absurd k h1
  · rw [if_pos hr]

theorem busWrite_unmapped (ht : s.target a n = .unmapped) : busWrite req a n v s = unmapped req a s := by
  unfold busWrite
  rw [if_pos ht]

theorem busWrite_roleless (ht : s.target a n ≠ .unmapped) (hm : s.mayWrite req a v = false) :
    busWrite req a n v s = roleReject req s := by
  unfold busWrite
  rw [if_neg ht, hm]
  rfl

theorem busWrite_standby (ht : s.target a n ≠ .unmapped) (hm : s.mayWrite req a v = true) (hf : s.follower = true)
    (hr : roleTested req = true) (hs : shared a = true) : busWrite req a n v s = standbyReject a s := by
  unfold busWrite
  rw [if_neg ht, hm, hf, hr, hs]
  rfl

theorem busWrite_forwarded (ht : s.target a n ≠ .unmapped) (hm : s.mayWrite req a v = true) (hf : s.follower = false)
    (hw : s.forwards a = true) (ha : s.accepts a n v = true) :
    busWrite req a n v s = forward a n v (writeTarget req a n v s) := by
  unfold busWrite
  rw [if_neg ht, hm, hf, hw, ha]
  rfl

end Writes

/-! ### What a rejected write leaves -/

theorem State.store_su (s : State) (a n v : Nat) : (s.store a n v).su = s.su := by
  induction n generalizing s a v with
  | zero => rfl
  | succ n ih => exact ih _ _ _

theorem State.setFlag_same (s : State) (f : Field) :
    s.setFlag f = { s with regs := (s.setFlag f).regs, fresh := (s.setFlag f).fresh } := rfl

theorem rejected_same (id : RegId) (ix : List Nat) (s : State) :
    rejected id ix s = { s with regs := (rejected id ix s).regs, fresh := (rejected id ix s).fresh } := by
  unfold rejected
  split
  · rfl
  · split <;> rfl

theorem rejected_of_field {id : RegId} {ix : List Nat} {f : Field} (s : State) (h : rejectField id ix = some f) :
    rejected id ix s = s.setFlag f := by
  unfold rejected
  rw [h]

theorem standbyReject_same (a : Nat) (s : State) :
    standbyReject a s = { s with regs := (standbyReject a s).regs, fresh := (standbyReject a s).fresh } := by
  unfold standbyReject
  split
  · exact State.setFlag_same s _
  · split
    · exact rejected_same _ _ _
    · rfl

/-! ### Unmapped accesses (R27) -/

/-- An unmapped access is recorded and counted. -/
def State.unmappedCounted (s : State) : State :=
  (s.setFlag R.FAB_STATUS.UNMAPPED).bumpSat R.FAB_UNMAPPED_COUNT.UNMAPPED_COUNT

theorem State.unmappedCounted_flag (s : State) : s.unmappedCounted.flag R.FAB_STATUS.UNMAPPED = true := by
  have hget : s.unmappedCounted.get R.FAB_STATUS.UNMAPPED = 1 :=
    (State.get_put_addr _ _ _ _ (by decide)).trans (State.get_put s _ 1 (by decide))
  rw [State.flag, hget]
  rfl

theorem State.unmappedCounted_count (s : State) :
    s.unmappedCounted.get R.FAB_UNMAPPED_COUNT.UNMAPPED_COUNT =
      min (2 ^ 32 - 1) (s.get R.FAB_UNMAPPED_COUNT.UNMAPPED_COUNT + 1) := by
  have hget : (s.setFlag R.FAB_STATUS.UNMAPPED).get R.FAB_UNMAPPED_COUNT.UNMAPPED_COUNT =
      s.get R.FAB_UNMAPPED_COUNT.UNMAPPED_COUNT := State.get_put_addr _ _ _ _ (by decide)
  rw [← hget, State.unmappedCounted, State.bumpSat, State.get_addSat _ _ _ (by decide),
    show R.FAB_UNMAPPED_COUNT.UNMAPPED_COUNT.w = 32 from rfl]

theorem State.unmappedCounted_regsBut (s : State) :
    RegsBut [R.FAB_STATUS.addr, R.FAB_UNMAPPED_COUNT.addr] s s.unmappedCounted := by
  intro a ha
  simp only [List.mem_cons, List.not_mem_nil, or_false, not_or] at ha
  exact (State.reg_put_other _ _ _ _ ha.2).trans (State.reg_put_other _ _ _ _ ha.1)

/-- The address and the requester of an unmapped access are latched. -/
def State.unmappedLatched (s : State) (req a : Nat) : State :=
  ((s.put R.FAB_UNMAPPED_ADDR_LO.UNMAPPED_ADDR_LO a).put R.FAB_UNMAPPED_ADDR_HI.UNMAPPED_ADDR_HI (a / 2 ^ 32)).put
    R.FAB_UNMAPPED_ADDR_HI.UNMAPPED_REQ req

theorem State.unmappedLatched_get (s : State) (req a : Nat) (f : Field) (h0 : f.addr ≠ R.FAB_UNMAPPED_ADDR_LO.addr)
    (h1 : f.addr ≠ R.FAB_UNMAPPED_ADDR_HI.addr) : (s.unmappedLatched req a).get f = s.get f := by
  unfold State.unmappedLatched
  rw [State.get_put_addr _ _ _ _ h1, State.get_put_addr _ _ _ _ h1, State.get_put_addr _ _ _ _ h0]

theorem State.unmappedLatched_spec (s : State) (req a : Nat) :
    (s.unmappedLatched req a).get R.FAB_UNMAPPED_ADDR_LO.UNMAPPED_ADDR_LO = a % 2 ^ 32 ∧
    (s.unmappedLatched req a).get R.FAB_UNMAPPED_ADDR_HI.UNMAPPED_ADDR_HI = a / 2 ^ 32 % 256 ∧
    (s.unmappedLatched req a).get R.FAB_UNMAPPED_ADDR_HI.UNMAPPED_REQ = req % 256 := by
  unfold State.unmappedLatched
  refine ⟨?_, ?_, State.get_put _ _ _ (by decide)⟩
  · rw [State.get_put_addr _ _ _ _ (by decide), State.get_put_addr _ _ _ _ (by decide)]
    exact State.get_put _ _ _ (by decide)
  · rw [State.get_put_beside _ _ _ _ (by decide)]
    exact State.get_put _ _ _ (by decide)

theorem unmapped_first {s : State} (req a : Nat) (h : s.flag R.FAB_STATUS.UNMAPPED = false) :
    unmapped req a s = s.unmappedCounted.unmappedLatched req a := by
  unfold unmapped
  rw [h]
  rfl

theorem unmapped_again {s : State} (req a : Nat) (h : s.flag R.FAB_STATUS.UNMAPPED = true) :
    unmapped req a s = s.unmappedCounted := by
  unfold unmapped
  rw [h]
  rfl

/-- What an unmapped access leaves (R27). -/
theorem unmapped_spec (req a : Nat) (s : State) :
    let u := unmapped req a s
    u = { s with regs := u.regs } ∧ u.flag R.FAB_STATUS.UNMAPPED = true ∧
    u.get R.FAB_UNMAPPED_COUNT.UNMAPPED_COUNT = min (2 ^ 32 - 1) (s.get R.FAB_UNMAPPED_COUNT.UNMAPPED_COUNT + 1) ∧
    (s.flag R.FAB_STATUS.UNMAPPED = false → u.get R.FAB_UNMAPPED_ADDR_LO.UNMAPPED_ADDR_LO = a % 2 ^ 32 ∧
      u.get R.FAB_UNMAPPED_ADDR_HI.UNMAPPED_ADDR_HI = a / 2 ^ 32 % 256 ∧
      u.get R.FAB_UNMAPPED_ADDR_HI.UNMAPPED_REQ = req % 256) ∧
    (s.flag R.FAB_STATUS.UNMAPPED = true → RegsBut [R.FAB_STATUS.addr, R.FAB_UNMAPPED_COUNT.addr] s u) := by
  cases hflag : s.flag R.FAB_STATUS.UNMAPPED with
  | false =>
    rw [unmapped_first req a hflag]
    refine ⟨rfl, ?_, ?_, fun _ => State.unmappedLatched_spec _ req a, nofun⟩
    · rw [State.flag, State.unmappedLatched_get _ _ _ _ (by decide) (by decide)]
      exact s.unmappedCounted_flag
    · rw [State.unmappedLatched_get _ _ _ _ (by decide) (by decide), State.unmappedCounted_count]
  | true =>
    rw [unmapped_again req a hflag]
    exact ⟨rfl, s.unmappedCounted_flag, s.unmappedCounted_count, nofun, fun _ => s.unmappedCounted_regsBut⟩

/-! ### UNMAPPED_CLEAR (R27) -/

/-- FAB_STATUS in the register map. -/
def fabStatusHit : RegHit := ⟨⟨.FAB_STATUS, 0xC, [], 0x0, [⟨0, 8, .readOnly, []⟩, ⟨16, 1, .w1c, []⟩]⟩, []⟩

theorem regHit_fabStatus : regHit R.FAB_STATUS.addr = some fabStatusHit := by decide +kernel

/-- The request clears UNMAPPED and leaves DIES_DARK. -/
theorem asked_unmappedClear (s : State) (req : Nat) :
    (s.asked req R.FAB_STATUS.UNMAPPED 1).get R.FAB_STATUS.UNMAPPED = 0 ∧
    (s.asked req R.FAB_STATUS.UNMAPPED 1).get R.FAB_STATUS.DIES_DARK = s.get R.FAB_STATUS.DIES_DARK := by
  have hone : bits (s.fieldWord req R.FAB_STATUS.UNMAPPED fabStatusHit 1 % 2 ^ 32) 16 1 = 1 :=
    fieldWord_bits s req R.FAB_STATUS.UNMAPPED fabStatusHit 1 (by decide)
  have hold : s.get R.FAB_STATUS.UNMAPPED < 2 := State.get_lt s _
  refine ⟨?_, State.get_asked s req _ 1 fabStatusHit ⟨0, 8, .readOnly, []⟩ regHit_fabStatus (by decide) (by decide)⟩
  refine (State.get_asked s req _ 1 fabStatusHit ⟨16, 1, .w1c, []⟩ regHit_fabStatus (by decide) (by decide)).trans ?_
  show s.get R.FAB_STATUS.UNMAPPED - (s.get R.FAB_STATUS.UNMAPPED &&&
    bits (s.fieldWord req R.FAB_STATUS.UNMAPPED fabStatusHit 1 % 2 ^ 32) 16 1) = 0
  rw [hone]
  generalize s.get R.FAB_STATUS.UNMAPPED = x at hold
  match x, hold with
  | 0, _ => rfl
  | 1, _ => rfl

theorem writeHook_fabStatus (req : Nat) (ix : List Nat) (old new v : Nat) (s : State) :
    writeHook req .FAB_STATUS ix old new v s =
      when_ (bit old 16 && !bit new 16) (fun s => s.put R.FAB_UNMAPPED_COUNT.UNMAPPED_COUNT 0) s := rfl

/-- A flag is a bit of its register. -/
theorem State.bit_reg (s : State) (f : Field) (hw : f.w = 1) : bit (s.reg f.addr).toNat f.lo = s.flag f := by
  have hlt := State.get_lt s f
  have hget : s.get f = bits (s.reg f.addr).toNat f.lo 1 := by rw [State.get, Field.read_eq_bits, hw]
  rw [hget, hw] at hlt
  rw [State.flag, hget]
  show decide (bits _ f.lo 1 = 1) = _
  exact decide_eq_decide.mpr (by omega)

/-- A flag of a register that a requester has written a field of is a bit of the word the register takes. -/
theorem State.bit_regNew (s : State) (req : Nat) (f : Field) (v : Nat) (h : RegHit) (hh : regHit f.addr = some h) (hw : f.w = 1)
    (hlo : f.lo < 32) : bit (s.regNew f.addr h (s.fieldWord req f h v % 2 ^ 32)) f.lo = (s.asked req f v).flag f := by
  rw [← State.bit_reg _ f hw, asked_eq s req f v h hh, State.reg_setReg_self, BitVec.toNat_ofNat, bit_mod _ _ hlo]

/-- The request's effect where UNMAPPED is set: the bit is cleared, and the count with it. -/
theorem busField_unmappedClear {s : State} {req : Nat} (ha : Admits s req R.FAB_STATUS.addr)
    (hset : s.flag R.FAB_STATUS.UNMAPPED = true) :
    busField req R.FAB_STATUS.UNMAPPED 1 s =
      (s.asked req R.FAB_STATUS.UNMAPPED 1).put R.FAB_UNMAPPED_COUNT.UNMAPPED_COUNT 0 := by
  have htarget := target_hub s R.FAB_STATUS.addr fabStatusHit (by decide) (by decide) (by decide) regHit_fabStatus
    (by decide) (by decide)
  have hold := (State.bit_reg s R.FAB_STATUS.UNMAPPED rfl).trans hset
  have hnew := (State.bit_regNew s req R.FAB_STATUS.UNMAPPED 1 fabStatusHit regHit_fabStatus rfl (by decide)).trans
    (show _ = false by rw [State.flag, (asked_unmappedClear s req).1]; rfl)
  refine (busField_asked s req _ 1 fabStatusHit regHit_fabStatus htarget ha (by decide) (by decide) (.inr rfl)
    (fun _ => rfl)).trans ?_
  refine (writeHook_fabStatus _ _ _ _ _ _).trans ?_
  rw [show (16 : Nat) = R.FAB_STATUS.UNMAPPED.lo from rfl, hold, hnew]
  rfl

/-- What UNMAPPED_CLEAR leaves where UNMAPPED was set (R27). -/
theorem unmappedClear_spec {s : State} {req : Nat} (ha : Admits s req R.FAB_STATUS.addr)
    (hset : s.flag R.FAB_STATUS.UNMAPPED = true) :
    let u := busField req R.FAB_STATUS.UNMAPPED 1 s
    u = { s with regs := u.regs } ∧ u.flag R.FAB_STATUS.UNMAPPED = false ∧
    u.get R.FAB_UNMAPPED_COUNT.UNMAPPED_COUNT = 0 ∧ u.get R.FAB_STATUS.DIES_DARK = s.get R.FAB_STATUS.DIES_DARK ∧
    RegsBut [R.FAB_STATUS.addr, R.FAB_UNMAPPED_COUNT.addr] s u := by
  obtain ⟨hflag, hdark⟩ := asked_unmappedClear s req
  rw [busField_unmappedClear ha hset]
  refine ⟨?_, ?_, State.get_put _ _ _ (by decide), ?_, fun a hmem => ?_⟩
  · rw [asked_same]
    rfl
  · rw [State.flag, State.get_put_addr _ _ _ _ (by decide), hflag]
    rfl
  · rw [State.get_put_addr _ _ _ _ (by decide), hdark]
  · simp only [List.mem_cons, List.not_mem_nil, or_false, not_or] at hmem
    rw [State.reg_put_other _ _ _ _ hmem.2, asked_beside _ _ _ _ _ hmem.1]

/-! ### PACE_MIN_RESTART (R16) -/

/-- The hub's PACE_CFG in the register map. -/
def paceCfgHit : RegHit :=
  ⟨⟨.PACE_CFG, 0x8, [], 0x900, [⟨0, 10, .live, []⟩, ⟨10, 2, .live, []⟩, ⟨12, 1, .action, []⟩]⟩, [0]⟩

theorem regHit_paceCfg : regHit (R.PACE_CFG.addr 0) = some paceCfgHit := by decide +kernel

theorem writeHook_paceCfg (req old new v : Nat) (s : State) :
    writeHook req .PACE_CFG [0] old new v s = when_ (decide (0 = 0) && bit v 12) paceMinRestart s := rfl

theorem busField_paceMinRestart {s : State} {req : Nat} (ha : Admits s req (R.PACE_CFG.addr 0)) :
    busField req (R.PACE_CFG.PACE_MIN_RESTART 0) 1 s = paceMinRestart (s.asked req (R.PACE_CFG.PACE_MIN_RESTART 0) 1) := by
  have htarget := target_hub s (R.PACE_CFG.addr 0) paceCfgHit (by decide) (by decide) (by decide) regHit_paceCfg
    (by decide) (by decide)
  have hbit := fieldWord_set s req (R.PACE_CFG.PACE_MIN_RESTART 0) paceCfgHit 12 (by decide) rfl rfl
  refine (busField_asked s req _ 1 paceCfgHit regHit_paceCfg htarget ha (by decide) (by decide) (.inr rfl)
    (fun _ => rfl)).trans ?_
  refine (writeHook_paceCfg _ _ _ _ _).trans ?_
  rw [hbit]
  rfl

/-- The request keeps the two settings beside it: a requester reads them as they stand. -/
theorem asked_paceMinRestart (s : State) (req : Nat) :
    (s.asked req (R.PACE_CFG.PACE_MIN_RESTART 0) 1).get (R.PACE_CFG.PACE_LOW_THR 0) = s.get (R.PACE_CFG.PACE_LOW_THR 0) ∧
    (s.asked req (R.PACE_CFG.PACE_MIN_RESTART 0) 1).get (R.PACE_CFG.PACE_DWELL 0) = s.get (R.PACE_CFG.PACE_DWELL 0) := by
  have hkept (g : FieldDef) (hg : g ∈ paceCfgHit.def_.fields) (hlive : g.cls = .live ∧ g.resv = []) (hlo : g.lo + g.w ≤ 12) :
      (s.asked req (R.PACE_CFG.PACE_MIN_RESTART 0) 1).get ⟨R.PACE_CFG.addr 0, g.lo, g.w⟩ =
        s.get ⟨R.PACE_CFG.addr 0, g.lo, g.w⟩ := by
    have hvalue : s.regValue req (R.PACE_CFG.addr 0) paceCfgHit = (s.reg (R.PACE_CFG.addr 0)).toNat := rfl
    have hread : g.of (s.regValue req (R.PACE_CFG.addr 0) paceCfgHit) = s.get ⟨R.PACE_CFG.addr 0, g.lo, g.w⟩ := by
      rw [hvalue, State.get, Field.read_eq_bits, FieldDef.of]
    have hword := fieldWord_kept s req (R.PACE_CFG.PACE_MIN_RESTART 0) paceCfgHit 1 g regHit_paceCfg hg (.inr (.inl hlive.1))
      (by omega) (.inr hlo)
    refine (State.get_asked s req _ 1 paceCfgHit g regHit_paceCfg hg (by omega)).trans ?_
    refine Eq.trans ?_ (hword.trans hread)
    simp only [FieldDef.next, hlive.1, FieldDef.reserved, hlive.2, List.any_nil, Bool.false_eq_true, if_false]
    rfl
  exact ⟨hkept ⟨0, 10, .live, []⟩ (by decide) ⟨rfl, rfl⟩ (by decide),
    hkept ⟨10, 2, .live, []⟩ (by decide) ⟨rfl, rfl⟩ (by decide)⟩

theorem paceMinRestart_same (s : State) : paceMinRestart s = { s with regs := (paceMinRestart s).regs } := by
  have hupTo (n : Nat) : ∃ r, upTo n (fun d s => s.put (R.PACE_STATUS.PACE_MIN d) 1023) s = { s with regs := r } := by
    induction n with
    | zero => exact ⟨s.regs, rfl⟩
    | succ n ih =>
      obtain ⟨r, hr⟩ := ih
      rw [upTo, hr]
      exact ⟨_, rfl⟩
  obtain ⟨r, hr⟩ := hupTo 8
  rw [paceMinRestart, hr]

theorem paceMinRestart_regsBut (s : State) : RegsBut ((List.range 8).map R.PACE_STATUS.addr) s (paceMinRestart s) := by
  intro a ha
  have hne (d : Nat) (hd : d < 8) : a ≠ R.PACE_STATUS.addr d :=
    fun h => ha (List.mem_map.mpr ⟨d, List.mem_range.mpr hd, h.symm⟩)
  have hupTo (n : Nat) (hn : n ≤ 8) : (upTo n (fun d s => s.put (R.PACE_STATUS.PACE_MIN d) 1023) s).reg a = s.reg a := by
    induction n with
    | zero => rfl
    | succ n ih => exact (State.reg_put_other _ _ _ _ (hne n hn)).trans (ih (Nat.le_of_succ_le hn))
  exact hupTo 8 (Nat.le_refl 8)

/-- A field that lies beside the bits of PACE_MIN. -/
theorem paceMinRestart_beside (s : State) (g : Field) (hg : 20 ≤ g.lo ∨ g.lo + g.w ≤ 10) :
    (paceMinRestart s).get g = s.get g := by
  have hupTo (n : Nat) : (upTo n (fun d s => s.put (R.PACE_STATUS.PACE_MIN d) 1023) s).get g = s.get g := by
    induction n with
    | zero => rfl
    | succ n ih => exact (State.get_put_beside _ (R.PACE_STATUS.PACE_MIN n) g _ hg).trans ih
  exact hupTo 8

theorem paceMinRestart_paceMin (s : State) (d : Nat) (hd : d < 8) :
    (paceMinRestart s).get (R.PACE_STATUS.PACE_MIN d) = 1023 := by
  have hupTo (n : Nat) (hn : d < n) :
      (upTo n (fun d s => s.put (R.PACE_STATUS.PACE_MIN d) 1023) s).get (R.PACE_STATUS.PACE_MIN d) = 1023 := by
    induction n with
    | zero => exact absurd hn (Nat.not_lt_zero d)
    | succ n ih =>
      by_cases hdn : d = n
      · subst hdn
        exact State.get_put _ _ _ (of_decide_eq_true rfl)
      · have hother : R.PACE_STATUS.addr d ≠ R.PACE_STATUS.addr n := by
          simp only [R.PACE_STATUS.addr]
          omega
        exact (State.get_put_addr _ _ _ _ hother).trans (ih (by omega))
  exact hupTo 8 hd

/-- What PACE_MIN_RESTART leaves (R16). -/
theorem paceMinRestart_spec {s : State} {req : Nat} (ha : Admits s req (R.PACE_CFG.addr 0)) :
    let u := busField req (R.PACE_CFG.PACE_MIN_RESTART 0) 1 s
    u = { s with regs := u.regs } ∧
    RegsBut (R.PACE_CFG.addr 0 :: (List.range 8).map R.PACE_STATUS.addr) s u ∧
    (∀ d, d < 8 → u.get (R.PACE_STATUS.PACE_MIN d) = 1023 ∧
      u.get (R.PACE_STATUS.PACE_NOW d) = s.get (R.PACE_STATUS.PACE_NOW d) ∧
      u.get (R.PACE_STATUS.RING_FAULT d) = s.get (R.PACE_STATUS.RING_FAULT d) ∧
      u.flag (R.PACE_STATUS.PACE_VALID d) = s.flag (R.PACE_STATUS.PACE_VALID d) ∧
      u.flag (R.PACE_STATUS.PACE_LOW d) = s.flag (R.PACE_STATUS.PACE_LOW d)) ∧
    u.get (R.PACE_CFG.PACE_LOW_THR 0) = s.get (R.PACE_CFG.PACE_LOW_THR 0) ∧
    u.get (R.PACE_CFG.PACE_DWELL 0) = s.get (R.PACE_CFG.PACE_DWELL 0) := by
  obtain ⟨hthr, hdwell⟩ := asked_paceMinRestart s req
  have hbeside (d : Nat) (g : Field) (hg : 20 ≤ g.lo ∨ g.lo + g.w ≤ 10) (haddr : g.addr = R.PACE_STATUS.addr d) :
      (paceMinRestart (s.asked req (R.PACE_CFG.PACE_MIN_RESTART 0) 1)).get g = s.get g := by
    have hne : g.addr ≠ R.PACE_CFG.addr 0 := by
      rw [haddr, R.PACE_STATUS.addr, R.PACE_CFG.addr]
      omega
    rw [paceMinRestart_beside _ _ hg, State.get, asked_beside _ _ _ _ _ hne, State.get]
  have hcfg (f : Field) (hf : f.addr = R.PACE_CFG.addr 0) :
      (paceMinRestart (s.asked req (R.PACE_CFG.PACE_MIN_RESTART 0) 1)).get f =
        (s.asked req (R.PACE_CFG.PACE_MIN_RESTART 0) 1).get f := by
    have hreg := paceMinRestart_regsBut (s.asked req (R.PACE_CFG.PACE_MIN_RESTART 0) 1) (R.PACE_CFG.addr 0) (by decide)
    rw [State.get, State.get, hf, hreg]
  rw [busField_paceMinRestart ha]
  refine ⟨?_, fun a hmem => ?_, fun d hd => ⟨paceMinRestart_paceMin _ d hd, ?_, ?_, ?_, ?_⟩, ?_, ?_⟩
  · rw [paceMinRestart_same, asked_same]
  · obtain ⟨hne, hstatus⟩ := not_or.mp (fun h => hmem (List.mem_cons.mpr h))
    rw [paceMinRestart_regsBut _ a hstatus, asked_beside _ _ _ _ _ hne]
  · exact hbeside d _ (of_decide_eq_true rfl) rfl
  · exact hbeside d _ (of_decide_eq_true rfl) rfl
  · rw [State.flag, hbeside d _ (of_decide_eq_true rfl) rfl, State.flag]
  · rw [State.flag, hbeside d _ (of_decide_eq_true rfl) rfl, State.flag]
  · rw [hcfg _ rfl, hthr]
  · rw [hcfg _ rfl, hdwell]

/-! ### The statement -/

/-- A command of a ready part whose effect leaves the start-up block as it was. -/
theorem act_calm {s : State} {t : Nat} {f : State → State} (h : Ready s) (hf : (f (s.tick t)).su = (s.tick t).su) :
    act t f s = .next (f (s.tick t)) := act_next h.1 (by rw [hf]; exact h.2)

/-- Settles O15, branch by branch of the path of a write. -/
theorem writesReachTheirTarget : Obligations.WritesReachTheirTarget := by
  unfold Obligations.WritesReachTheirTarget
  refine ⟨?register, ?memory, ?unmapped, ?turnedAway, ?unmappedClear, ?paceMinRestart⟩
  case register =>
    intro t req a v h s hready w ha ht h0 h1 new
    have hwrite : busWrite req a 4 v w = regWrite req a h (v % 2 ^ 32) w :=
      (busWrite_admits _ _ _ _ _ ha).trans (writeTarget_register ht)
    refine ⟨fun hr => ?_, fun hr => ?_⟩
    · refine (act_ready hready).trans ?_
      rw [hwrite, regWrite_takes _ _ _ _ _ h0 h1 hr]
    · have heq := hwrite.trans (regWrite_refused h0 h1 hr)
      have hsu : (busWrite req a 4 v w).su = w.su := by rw [heq, rejected_same]
      exact ⟨_, (act_calm hready hsu).trans (congrArg _ heq), rejected_same _ _ w, fun f hf => rejected_of_field w hf⟩
  case memory =>
    intro t req a n v s hready w ha
    have hwrite : busWrite req a n v w = writeTarget req a n v w := busWrite_admits _ _ _ _ _ ha
    refine ⟨fun ht => ?_, fun ht => ?_⟩
    · have heq := hwrite.trans (writeTarget_sram ht)
      have hsu : (busWrite req a n v w).su = w.su := by rw [heq, State.store_su]
      exact (act_calm hready hsu).trans (congrArg _ heq)
    · have heq := hwrite.trans (writeTarget_ignored ht)
      exact (act_calm hready (congrArg State.su heq)).trans (congrArg _ heq)
  case unmapped =>
    intro t req a n v s hready w ht
    have heq : busWrite req a n v w = unmapped req a w := busWrite_unmapped ht
    have hspec := unmapped_spec req a w
    have hsu : (busWrite req a n v w).su = w.su := by rw [heq, hspec.1]
    exact ⟨_, (act_calm hready hsu).trans (congrArg _ heq), hspec⟩
  case turnedAway =>
    intro t req a n v s hready w ht
    refine ⟨fun hm => ?_, fun hm hf hr hs => ?_, fun hm hf hw hacc => ?_⟩
    · have heq : busWrite req a n v w = roleReject req w := busWrite_roleless ht hm
      have hsu : (busWrite req a n v w).su = w.su := by
        rw [heq, roleReject]
        split <;> rfl
      exact (act_calm hready hsu).trans (congrArg _ heq)
    · have heq : busWrite req a n v w = standbyReject a w := busWrite_standby ht hm hf hr hs
      have hsu : (busWrite req a n v w).su = w.su := by rw [heq, standbyReject_same]
      exact ⟨_, (act_calm hready hsu).trans (congrArg _ heq), standbyReject_same a w⟩
    · refine (act_ready hready).trans ?_
      rw [busWrite_forwarded ht hm hf hw hacc]
  case unmappedClear =>
    intro t req s hready w ha hset
    have hspec := unmappedClear_spec ha hset
    have hsu : (busField req R.FAB_STATUS.UNMAPPED 1 w).su = w.su := by rw [hspec.1]
    exact ⟨_, act_calm hready hsu, hspec⟩
  case paceMinRestart =>
    intro t req s hready w ha
    have hspec := paceMinRestart_spec ha
    have hsu : (busField req (R.PACE_CFG.PACE_MIN_RESTART 0) 1 w).su = w.su := by rw [hspec.1]
    exact ⟨_, act_calm hready hsu, hspec⟩

end Sys2Proof.Machine

/-! Slots, windows and counters of ranging operations (03_ranging_operations.md R61, R63, R68, R72, R73): the rules of the
state's tables that O20, O21 and O22 share. -/

namespace Sys2Proof

/-- A key that does not read as an unlisted one is listed with what it reads as. -/
theorem SMap.mem_of_get_ne {α : Type} {m : SMap α} {d : α} {k : Nat} (h : SMap.get m d k ≠ d) : (k, SMap.get m d k) ∈ m := by
  induction m with
  | nil => exact absurd rfl h
  | cons p r ih =>
    obtain ⟨j, v⟩ := p
    simp only [SMap.get] at h ⊢
    split
    · next hj => exact hj ▸ List.mem_cons_self
    · next hj => exact List.mem_cons_of_mem _ (ih (by rwa [if_neg hj] at h))

end Sys2Proof

namespace Sys2Proof.Machine

section Slots
variable {s : State} {d slot : Nat} {o : Op}

/-! ### A table of the state after a write to it -/

@[simp] theorem State.op_setOp_self (s : State) (d slot : Nat) (o : Option Op) : (s.setOp d slot o).op d slot = o :=
  SMap.get_put_self _ _ _ _

theorem State.op_setOp (s : State) (d slot d' slot' : Nat) (o : Option Op) :
    (s.setOp d slot o).op d' slot' = if opKey d' slot' = opKey d slot then o else s.op d' slot' :=
  SMap.get_put s.ops none (opKey d slot) (opKey d' slot') o

@[simp] theorem State.group_setGroup_self (s : State) (d g : Nat) (x : Group) : (s.setGroup d g x).group d g = x :=
  SMap.get_put_self _ _ _ _

@[simp] theorem State.die_setDie_self (s : State) (d : Nat) (x : Die) : (s.setDie d x).die d = x := SMap.get_put_self _ _ _ _

@[simp] theorem State.seq_setSeq_self (s : State) (n : Nat) (x : Seq) : (s.setSeq n x).seq n = x := SMap.get_put_self _ _ _ _

/-- The account of an open frame after a change to it. -/
theorem State.frame_modFrame {h f : Nat} {a : FrameAcc} (hs : s.frame h f = some a) (g : FrameAcc → FrameAcc) :
    (s.modFrame h f g).frame h f = some (g a) := by
  unfold State.modFrame
  rw [hs]
  exact SMap.get_put_self s.frames none (frameKey h f) (some (g a))

theorem State.op_of_ops {t : State} (h : t.ops = s.ops) : t.op d slot = s.op d slot := by unfold State.op; rw [h]
theorem State.group_of_groups {t : State} {g : Nat} (h : t.groups = s.groups) : t.group d g = s.group d g := by
  unfold State.group; rw [h]
theorem State.die_of_dies {t : State} (h : t.dies = s.dies) : t.die d = s.die d := by unfold State.die; rw [h]
theorem State.frame_of_frames {t : State} {h f : Nat} (hf : t.frames = s.frames) : t.frame h f = s.frame h f := by
  unfold State.frame; rw [hf]
theorem State.seq_of_seqs {t : State} {n : Nat} (h : t.seqs = s.seqs) : t.seq n = s.seq n := by unfold State.seq; rw [h]

/-- Below 2,048 a slot's key names its die and its slot. -/
theorem opKey_inj {d' slot' : Nat} (h : slot < 2048) (h' : slot' < 2048) (hk : opKey d' slot' = opKey d slot) :
    (d', slot') = (d, slot) := by
  unfold opKey at hk
  exact Prod.ext (by dsimp only; omega) (by dsimp only; omega)

/-! ### Counters that wrap -/

theorem State.get_add (s : State) (f : Field) (n : Nat) (h : f.lo + f.w ≤ 32) :
    (s.add f n).get f = (s.get f + n) % 2 ^ f.w := State.get_put s f _ h

theorem State.reg_add_other (s : State) (f : Field) (n : Nat) {a : Nat} (h : a ≠ f.addr) : (s.add f n).reg a = s.reg a :=
  State.reg_put_other _ _ _ _ h

theorem State.get_of_reg {s t : State} {f : Field} (h : t.reg f.addr = s.reg f.addr) : t.get f = s.get f :=
  congrArg f.read h

theorem State.reg_of_regs {s t : State} {a : Nat} (h : t.regs = s.regs) : t.reg a = s.reg a := by unfold State.reg; rw [h]

theorem State.get_of_regs {s t : State} {f : Field} (h : t.regs = s.regs) : t.get f = s.get f :=
  State.get_of_reg (State.reg_of_regs h)

/-- `t` differs from `s` in registers at most. -/
def State.RegsOnly (s t : State) : Prop := ∃ r, t = { s with regs := r }

theorem State.RegsOnly.trans {t u : State} (h : s.RegsOnly t) (k : t.RegsOnly u) : s.RegsOnly u := by
  obtain ⟨r, rfl⟩ := h
  obtain ⟨q, rfl⟩ := k
  exact ⟨q, rfl⟩

theorem State.regsOnly_put (s : State) (f : Field) (v : Nat) : s.RegsOnly (s.put f v) := ⟨_, rfl⟩

theorem State.regsOnly_add (s : State) (f : Field) (n : Nat) : s.RegsOnly (s.add f n) := State.regsOnly_put s f _

/-! ### The slots that ops hold -/

theorem State.mem_opKeys_of_op (hs : slot < 2048) (ho : s.op d slot = some o) : (d, slot) ∈ s.opKeys := by
  have hmem : (opKey d slot, some o) ∈ s.ops := ho ▸ SMap.mem_of_get_ne (show s.op d slot ≠ none by simp [ho])
  refine List.mem_filterMap.mpr ⟨_, hmem, ?_⟩
  have hd : opKey d slot / 2048 = d := by unfold opKey; omega
  have hslot : opKey d slot % 2048 = slot := by unfold opKey; omega
  simp [hd, hslot]

theorem State.slot_lt_of_mem_opKeys (h : (d, slot) ∈ s.opKeys) : slot < 2048 := by
  obtain ⟨p, _, hp⟩ := List.mem_filterMap.mp h
  obtain ⟨_, _, heq⟩ := Option.map_eq_some_iff.mp hp
  have hslot : p.1 % 2048 = slot := congrArg Prod.snd heq
  omega

/-- The ops of a channel are those of its slots, each under its die and slot. -/
theorem State.mem_chanOps {ch : Nat} : (d, slot, o) ∈ s.chanOps ch ↔ slot < 2048 ∧ s.op d slot = some o ∧ o.chan = ch := by
  unfold State.chanOps
  rw [List.mem_filterMap]
  constructor
  · rintro ⟨⟨e, k⟩, hk, hx⟩
    dsimp only at hx
    split at hx
    · next p hp =>
      split at hx
      · next hch =>
        cases hx
        exact ⟨State.slot_lt_of_mem_opKeys hk, hp, hch⟩
      · cases hx
    · cases hx
  · rintro ⟨hlt, ho, hch⟩
    exact ⟨(d, slot), State.mem_opKeys_of_op hlt ho, by simp [ho, hch]⟩

/-! ### Windows that open (R73) -/

/-- When the window of the op's first waiting pulse opens; 0 where none waits. -/
def Op.firstOpening (o : Op) : Nat := match o.waiting with | f :: _ => o.opens f.2 | [] => 0

/-- Of two ops, the one whose first waiting window opens earlier. -/
def earlierOpening (m y : Nat × Nat × Op) : Nat × Nat × Op := if y.2.2.firstOpening < m.2.2.firstOpening then y else m

theorem State.nextWindow_eq (s : State) (ch : Nat) : s.nextWindow ch =
    match (s.chanOps ch).filter (fun x => !x.2.2.waiting.isEmpty) with
    | [] => none
    | x :: r => if (r.foldl earlierOpening x).2.2.firstOpening ≤ s.now then some (r.foldl earlierOpening x) else none := by
  unfold State.nextWindow
  rfl

/-- One of the ops is the earliest. -/
theorem foldl_earlierOpening_mem (x : Nat × Nat × Op) (r : List (Nat × Nat × Op)) : r.foldl earlierOpening x ∈ x :: r := by
  refine List.foldlRecOn (motive := (· ∈ x :: r)) r _ List.mem_cons_self (fun m hm z hz => ?_)
  unfold earlierOpening
  split
  · exact List.mem_cons_of_mem _ hz
  · exact hm

/-- The next window to open is that of a pulse that waits, of an op of the channel, and its instant has come. -/
theorem State.nextWindow_some {ch : Nat} {x : Nat × Nat × Op} (h : s.nextWindow ch = some x) :
    x ∈ s.chanOps ch ∧ x.2.2.waiting ≠ [] ∧ x.2.2.firstOpening ≤ s.now := by
  rw [State.nextWindow_eq] at h
  split at h
  · cases h
  · next y r hl =>
    split at h
    · next hnow =>
      cases h
      have hmem := foldl_earlierOpening_mem y r
      rw [← hl, List.mem_filter] at hmem
      exact ⟨hmem.1, by simpa using hmem.2, hnow⟩
    · cases h

/-- Where no window of a channel has come to its opening, none opens. -/
theorem takeWaitingN_of_none {ch : Nat} (n : Nat) (h : s.nextWindow ch = none) : takeWaitingN ch n s = s := by
  cases n with
  | zero => rfl
  | succ n =>
    unfold takeWaitingN
    rw [h]

/-- A window that opens, or stays shut, leaves every op in its slot with its descriptor. -/
theorem openFirst_op {ch e k : Nat} {p : Op} (hp : s.op e k = some p) (ho : s.op d slot = some o) :
    ∃ q, (openFirst ch e k p s).op d slot = some q ∧ q.w0 = o.w0 ∧ q.w1 = o.w1 := by
  have hput (q : Op) (hw0 : q.w0 = p.w0) (hw1 : q.w1 = p.w1) :
      ∃ r, (s.setOp e k (some q)).op d slot = some r ∧ r.w0 = o.w0 ∧ r.w1 = o.w1 := by
    rw [State.op_setOp]
    split
    · next hkey =>
      have hpo : p = o := Option.some.inj (hp.symm.trans ((congrArg (SMap.get s.ops none) hkey.symm).trans ho))
      exact ⟨q, rfl, hpo ▸ hw0, hpo ▸ hw1⟩
    · exact ⟨o, ho, rfl, rfl⟩
  unfold openFirst
  split
  · exact ⟨o, ho, rfl, rfl⟩
  · split
    · exact hput _ rfl rfl
    · rw [State.op_of_ops State.bump_ops]
      exact hput _ rfl rfl

theorem takeWaitingN_op (ch n : Nat) (ho : s.op d slot = some o) :
    ∃ q, (takeWaitingN ch n s).op d slot = some q ∧ q.w0 = o.w0 ∧ q.w1 = o.w1 := by
  induction n generalizing s o with
  | zero => exact ⟨o, ho, rfl, rfl⟩
  | succ n ih =>
    unfold takeWaitingN
    split
    · next x hx =>
      obtain ⟨_, hp, _⟩ := State.mem_chanOps.mp (State.nextWindow_some hx).1
      obtain ⟨q, hq, hq0, hq1⟩ := openFirst_op (ch := ch) hp ho
      obtain ⟨r, hr, hr0, hr1⟩ := ih hq
      exact ⟨r, hr, hr0.trans hq0, hr1.trans hq1⟩
    · exact ⟨o, ho, rfl, rfl⟩

theorem takeWaiting_op (ch : Nat) (ho : s.op d slot = some o) :
    ∃ q, (takeWaiting ch s).op d slot = some q ∧ q.w0 = o.w0 ∧ q.w1 = o.w1 := takeWaitingN_op ch _ ho

end Slots

/-! ### Registers that these operations leave -/

section Registers
variable {k : Nat}

/-- Windows that open count no pulse but the unbinned ones. -/
theorem takeWaitingN_reg (hk : ∀ d, k ≠ (R.OPS_UNBINNED.UNBINNED d).addr) (ch n : Nat) (s : State) :
    (takeWaitingN ch n s).reg k = s.reg k := by
  induction n generalizing s with
  | zero => rfl
  | succ n ih =>
    unfold takeWaitingN
    split
    · refine (ih _).trans ?_
      unfold openFirst
      split
      · rfl
      · split
        · rfl
        · exact State.reg_add_other _ _ _ (hk _)
    · rfl

theorem takeWaiting_reg (hk : ∀ d, k ≠ (R.OPS_UNBINNED.UNBINNED d).addr) (ch : Nat) (s : State) :
    (takeWaiting ch s).reg k = s.reg k := takeWaitingN_reg hk ch _ s

/-- A state change over 0, 1, …, n - 1 leaves a register that each of them leaves. -/
theorem upTo_reg_of_lt {n : Nat} {f : Nat → State → State} (hf : ∀ i < n, ∀ t, (f i t).reg k = t.reg k) (s : State) :
    (upTo n f s).reg k = s.reg k := by
  induction n with
  | zero => rfl
  | succ n ih => exact (hf n (Nat.lt_succ_self n) _).trans (ih fun i hi => hf i (Nat.lt_succ_of_lt hi))

/-- The level lines stand in the sequencers' registers, below 0xC000 (06_salrad.md R182). -/
theorem levels_reg_above (hk : 0xC000 ≤ k) (s : State) : (levels s).reg k = s.reg k := by
  refine upTo_reg_of_lt (fun i hi t => upTo_reg_of_lt (fun j _ u => ?_) t) s
  have hlo : k ≠ (R.SQ_EV_PEND_LO.PEND_LO i).addr := by
    simp only [R.SQ_EV_PEND_LO.PEND_LO, R.SQ_EV_PEND_LO.addr]
    omega
  have hhi : k ≠ (R.SQ_EV_PEND_HI.PEND_HI i).addr := by
    simp only [R.SQ_EV_PEND_HI.PEND_HI, R.SQ_EV_PEND_HI.addr]
    omega
  unfold levelAt State.setPend
  split
  · rw [State.reg_put_other _ _ _ _ hhi, State.reg_put_other _ _ _ _ hlo]
  · rfl

theorem cqProbe_reg_above (hk : 0xC000 ≤ k) (p : ProbeInfo) (mk : Nat → Nat × Nat × Nat × Nat) (s : State) :
    (cqProbe p mk s).reg k = s.reg k := by
  unfold cqProbe
  split
  · rfl
  · exact levels_reg_above hk _

end Registers

/-- The completion queue of a probe's sequencer takes the probe's entry (06_salrad.md R156). -/
theorem cqProbe_cq {p : ProbeInfo} {tag : Nat} (h : p.tag = some tag) (mk : Nat → Nat × Nat × Nat × Nat) (s : State) :
    ((cqProbe p mk s).seq p.sq).cq = (s.seq p.sq).cq ++ [mk tag] := by
  unfold cqProbe cqAdd
  rw [h]
  dsimp only
  have hseqs (t : State) : (levels t).seq p.sq = t.seq p.sq :=
    State.seq_of_seqs ((levels_touch (m := 4) rfl .refl).seqs (by decide))
  rw [hseqs, State.seq_setSeq_self, State.seq_setSeq_self]

end Sys2Proof.Machine

/-! Accumulation, reduction, abandonment and the clearing of pages (O22). -/

namespace Sys2Proof.Machine

section Abandonment
variable {s : State} {d slot : Nat} {o : Op}

/-! ### The end of an op (R63, R68) -/

theorem releaseOp_of_op (ho : s.op d slot = some o) : releaseOp d slot s =
    (s.setOp d slot none).setGroup d (chGroup o.chan)
      { s.group d (chGroup o.chan) with clearing := (s.group d (chGroup o.chan)).clearing + o.pages } := by
  unfold releaseOp
  rw [ho]

/-- An op's channel and pages are those of its descriptor. -/
theorem Op.chan_of_w0 {o p : Op} (h : p.w0 = o.w0) : p.chan = o.chan := congrArg (bits · 19 11) h
theorem Op.pages_of_w1 {o p : Op} (h : p.w1 = o.w1) : p.pages = o.pages := congrArg (2 ^ bits · 13 2) h

/-- The die's queues without a slot. -/
def Die.without (x : Die) (slot : Nat) : Die :=
  { x with corrQueue := x.corrQueue.filter (· ≠ slot), engines := x.engines.filter (· ≠ slot),
           handoff := x.handoff.filter (· ≠ slot) }

/-- The op is counted as abandoned on its die. -/
def State.abandonBumped (s : State) (d : Nat) (o : Op) : State := (takeWaiting o.chan s).bump (R.OPS_ABANDONED.ABANDONED d)

/-- The op is counted in its frame too. -/
def State.abandonFramed (s : State) (d : Nat) (o : Op) : State :=
  match o.frame with
  | some f => (s.abandonBumped d o).modFrame o.head f (fun a => { a with abandoned := a.abandoned + 1 })
  | none => s.abandonBumped d o

/-- A probe is entered in its sequencer's completion queue too: what an abandoned op leaves before its slot is released. -/
def State.abandonTold (s : State) (d : Nat) (o : Op) : State :=
  match o.probe with
  | some p => cqProbe p (fun tag => (cqWord0 tag 1 0 0 o.head false, cqWord1 o.cell o.chan, 0, 0)) (s.abandonFramed d o)
  | none => s.abandonFramed d o

theorem abandonOp_of_op (ho : s.op d slot = some o) : abandonOp d slot s =
    releaseOp d slot ((s.abandonTold d o).setDie d (((s.abandonTold d o).die d).without slot)) := by
  unfold abandonOp
  rw [ho]
  rfl

theorem State.abandonFramed_touch : Touch 2048 (s.abandonBumped d o) (s.abandonFramed d o) := by
  unfold State.abandonFramed
  split
  · exact State.modFrame_touch rfl .refl
  · exact .refl

theorem State.abandonTold_touch : Touch 8196 (s.abandonFramed d o) (s.abandonTold d o) := by
  unfold State.abandonTold
  split
  · exact cqProbe_touch rfl .refl
  · exact .refl

theorem State.abandonBumped_touch : Touch 260 s (s.abandonBumped d o) :=
  State.bump_touch rfl (takeWaiting_touch rfl .refl)

/-- Counting an abandoned op leaves it in its slot. -/
theorem State.abandonTold_op (ho : s.op d slot = some o) :
    ∃ p, (s.abandonTold d o).op d slot = some p ∧ p.w0 = o.w0 ∧ p.w1 = o.w1 := by
  obtain ⟨p, hp, hw0, hw1⟩ := takeWaiting_op o.chan ho
  have hbumped : (s.abandonBumped d o).ops = (takeWaiting o.chan s).ops := State.bump_ops
  have hops : (s.abandonTold d o).op d slot = (takeWaiting o.chan s).op d slot :=
    State.op_of_ops ((State.abandonTold_touch.ops (by decide)).trans
      ((State.abandonFramed_touch.ops (by decide)).trans hbumped))
  exact ⟨p, hops.trans hp, hw0, hw1⟩

theorem State.abandonTold_abandoned : (s.abandonTold d o).get (R.OPS_ABANDONED.ABANDONED d) =
    (s.get (R.OPS_ABANDONED.ABANDONED d) + 1) % 2 ^ 32 := by
  have hunbinned : ∀ e, (R.OPS_ABANDONED.ABANDONED d).addr ≠ (R.OPS_UNBINNED.UNBINNED e).addr := by
    intro e
    simp only [R.OPS_UNBINNED.UNBINNED, R.OPS_ABANDONED.ABANDONED, R.OPS_ABANDONED.addr, R.OPS_UNBINNED.addr]
    omega
  have htold : (s.abandonTold d o).get (R.OPS_ABANDONED.ABANDONED d) = (s.abandonFramed d o).get (R.OPS_ABANDONED.ABANDONED d) := by
    refine State.get_of_reg ?_
    unfold State.abandonTold
    split
    · refine cqProbe_reg_above ?_ _ _ _
      simp only [R.OPS_ABANDONED.ABANDONED, R.OPS_ABANDONED.addr]
      omega
    · rfl
  have hframed : (s.abandonFramed d o).get (R.OPS_ABANDONED.ABANDONED d) = (s.abandonBumped d o).get (R.OPS_ABANDONED.ABANDONED d) :=
    State.get_of_regs (State.abandonFramed_touch.regs (by decide))
  have htaken : (takeWaiting o.chan s).get (R.OPS_ABANDONED.ABANDONED d) = s.get (R.OPS_ABANDONED.ABANDONED d) :=
    State.get_of_reg (takeWaiting_reg hunbinned _ _)
  rw [htold, hframed, ← htaken]
  exact State.get_add _ _ _ (of_decide_eq_true rfl)

/-- A probe's sequencer has the probe's entry (06_salrad.md R156, R157). -/
theorem State.abandonTold_cq {p : ProbeInfo} {tag : Nat} (hp : o.probe = some p) (htag : p.tag = some tag) :
    ((s.abandonTold d o).seq p.sq).cq =
      (s.seq p.sq).cq ++ [(cqWord0 tag 1 0 0 o.head false, cqWord1 o.cell o.chan, 0, 0)] := by
  have hseq : (s.abandonFramed d o).seq p.sq = s.seq p.sq :=
    State.seq_of_seqs ((State.abandonFramed_touch.seqs (by decide)).trans (State.abandonBumped_touch.seqs (by decide)))
  unfold State.abandonTold
  rw [hp, ← hseq]
  exact cqProbe_cq htag _ _

/-- An op that is abandoned leaves its slot, the die's queues and its pages, and is counted; memory is as it was. -/
theorem abandonOp_spec (ho : s.op d slot = some o) :
    let u := abandonOp d slot s
    u.op d slot = none ∧ u.mem = s.mem ∧
    u.group d (chGroup o.chan) =
      { s.group d (chGroup o.chan) with clearing := (s.group d (chGroup o.chan)).clearing + o.pages } ∧
    u.die d = (s.die d).without slot ∧
    u.get (R.OPS_ABANDONED.ABANDONED d) = (s.get (R.OPS_ABANDONED.ABANDONED d) + 1) % 2 ^ 32 ∧
    (∀ p tag, o.probe = some p → p.tag = some tag → (u.seq p.sq).cq =
      (s.seq p.sq).cq ++ [(cqWord0 tag 1 0 0 o.head false, cqWord1 o.cell o.chan, 0, 0)]) := by
  intro u
  obtain ⟨p, hp, hw0, hw1⟩ := State.abandonTold_op ho
  have hmem : u.mem = s.mem := (abandonOp_touch (m := 12036) rfl .refl).mem (by decide)
  have hu : u = _ := (abandonOp_of_op ho).trans (releaseOp_of_op hp)
  rw [Op.chan_of_w0 hw0, Op.pages_of_w1 hw1] at hu
  have hgroup : (s.abandonTold d o).group d (chGroup o.chan) = s.group d (chGroup o.chan) :=
    State.group_of_groups ((State.abandonTold_touch.groups (by decide)).trans
      ((State.abandonFramed_touch.groups (by decide)).trans (State.abandonBumped_touch.groups (by decide))))
  have hdie : (s.abandonTold d o).die d = s.die d :=
    State.die_of_dies ((State.abandonTold_touch.dies (by decide)).trans
      ((State.abandonFramed_touch.dies (by decide)).trans (State.abandonBumped_touch.dies (by decide))))
  clear_value u
  subst hu
  refine ⟨?_, hmem, ?_, ?_, ?_, fun q tag hq htag => ?_⟩
  · rw [State.op_of_ops State.setGroup_ops, State.op_setOp_self]
  · rw [State.group_setGroup_self, ← hgroup]
    rfl
  · rw [← hdie, State.die_of_dies State.setGroup_dies, State.die_of_dies State.setOp_dies, State.die_setDie_self]
  · rw [State.setGroup_get, State.setOp_get, State.setDie_get, State.abandonTold_abandoned]
  · rw [State.seq_of_seqs State.setGroup_seqs, State.seq_of_seqs State.setOp_seqs, State.seq_of_seqs State.setDie_seqs]
    exact State.abandonTold_cq hq htag

theorem Die.not_mem_without (x : Die) (slot : Nat) :
    slot ∉ (x.without slot).corrQueue ∧ slot ∉ (x.without slot).engines ∧ slot ∉ (x.without slot).handoff := by
  simp [Die.without]

end Abandonment

/-! ### The end of accumulation, reduction, pages -/

section Reduction
variable {s : State} {d slot : Nat} {o : Op}

theorem accumulationEnd_of_accumulated {p : Op} (ho : s.op d slot = some o) (hp : (takeWaiting o.chan s).op d slot = some p)
    (h : (takeWaiting o.chan s).accumulated p = true) : accumulationEnd d slot s =
      noticePulses p p.pulses [] (queueSettled d slot ((takeWaiting o.chan s).setOp d slot (some { p with st := .settling }))) := by
  unfold accumulationEnd
  rw [ho]
  dsimp only
  rw [hp]
  dsimp only
  rw [if_pos h]

theorem ageOut_of_old (ho : s.op d slot = some o) (hst : o.st ≠ .reducing) (hage : o.ageEnd < s.now) :
    ageOut d slot s = abandonOp d slot s := by
  unfold ageOut
  rw [ho]
  simp [Op.withdrawable, hst, hage]

theorem clearPage_of_pos {g : Nat} (h : 0 < (s.group d g).clearing) : clearPage d g s =
    s.setGroup d g { s.group d g with clearing := (s.group d g).clearing - 1, free := (s.group d g).free + 1 } := by
  unfold clearPage
  dsimp only
  rw [if_neg (by omega)]

/-- The op at the head of the die's queue, as it enters REDUCING. -/
def State.opReducing (s : State) (o : Op) : Op :=
  let p := reduceOp s o (fun i => (Config.freeWord (s.fresh + i)).toNat)
  { p with st := .reducing, excCfg := (s.reg R.EXCERPT_CFG.addr).toNat, excHit := s.excerptHit p }

theorem correlatorTake_of_op {r : List Nat} (hq : (s.die d).corrQueue = slot :: r) (he : (s.die d).engines.length < 16)
    (ho : s.op d slot = some o) : correlatorTake d s =
      (({ s with fresh := s.fresh + 6 }).setOp d slot (some (s.opReducing o))).setDie d
        { s.die d with corrQueue := r, engines := (s.die d).engines ++ [slot] } := by
  unfold correlatorTake
  dsimp only
  rw [hq]
  dsimp only
  rw [if_neg (by omega), ho]
  rfl

/-- The records of an op's excerpts, where it is due for one (04_echoes_and_points.md R111). -/
def State.dueExcerpts (s : State) (d : Nat) (o : Op) : List (Nat × ParcelKey × Rec) :=
  if o.excerptDue ((s.die d).excCount + 1) then s.excerpts o else []

/-- The die whose engine a reduction frees; the op waits there for its hand-off. -/
def State.dieReduced (s : State) (d slot : Nat) (o : Op) : Die :=
  { s.die d with engines := (s.die d).engines.filter (· ≠ slot), handoff := (s.die d).handoff ++ [slot],
                 excCount := if o.excMode = 1 ∧ o.excN ≤ (s.die d).excCount + 1 then 0 else (s.die d).excCount + 1 }

/-- The op whose reduction has ended; a standby's holds its excerpts. -/
def State.opReduced (s : State) (d : Nat) (o : Op) : Op :=
  { o with reduced := true, excRecs := if s.standby then s.dueExcerpts d o else [] }

/-- The die and the op as a reduction's end leaves them. -/
def State.reductionMoved (s : State) (d slot : Nat) (o : Op) : State :=
  (s.setDie d (s.dieReduced d slot o)).setOp d slot (some (s.opReduced d o))

/-- What a reduction's end counts on the die. -/
def reductionCounted (d : Nat) (o : Op) (s : State) : State :=
  let t := (s.add (R.EXTRA_ECHO_COUNT.EXTRA d) o.extra).add (R.LENS_HIT_COUNT.HITS d)
    (o.echoes.filter (fun e => e.lens.isSome)).length
  if o.firSat then t.setFlag (R.OPS_STATUS.FIR_SAT_SEEN d) else t

/-- The state in which a reduction has ended, before its excerpts are sent. -/
def State.reductionDone (s : State) (d slot : Nat) (o : Op) : State := reductionCounted d o (s.reductionMoved d slot o)

/-- Counting writes to registers alone. -/
theorem reductionCounted_regsOnly (d : Nat) (o : Op) (s : State) : s.RegsOnly (reductionCounted d o s) := by
  unfold reductionCounted
  dsimp only
  split
  · exact ((s.regsOnly_add _ _).trans (State.regsOnly_add _ _ _)).trans (State.regsOnly_put _ _ _)
  · exact (s.regsOnly_add _ _).trans (State.regsOnly_add _ _ _)

/-- Counting writes to three registers of the die. -/
theorem reductionCounted_reg {a : Nat} (hextra : a ≠ (R.EXTRA_ECHO_COUNT.EXTRA d).addr)
    (hhits : a ≠ (R.LENS_HIT_COUNT.HITS d).addr) (hstatus : a ≠ (R.OPS_STATUS.FIR_SAT_SEEN d).addr) (s : State) :
    (reductionCounted d o s).reg a = s.reg a := by
  unfold reductionCounted
  dsimp only
  split
  · rw [State.setFlag, State.reg_put_other _ _ _ _ hstatus, State.reg_add_other _ _ _ hhits, State.reg_add_other _ _ _ hextra]
  · rw [State.reg_add_other _ _ _ hhits, State.reg_add_other _ _ _ hextra]

theorem reductionCounted_extra (s : State) : (reductionCounted d o s).get (R.EXTRA_ECHO_COUNT.EXTRA d) =
    (s.get (R.EXTRA_ECHO_COUNT.EXTRA d) + o.extra) % 2 ^ 32 := by
  have hhits : (R.EXTRA_ECHO_COUNT.EXTRA d).addr ≠ (R.LENS_HIT_COUNT.HITS d).addr := by
    simp only [R.EXTRA_ECHO_COUNT.EXTRA, R.EXTRA_ECHO_COUNT.addr, R.LENS_HIT_COUNT.HITS, R.LENS_HIT_COUNT.addr]
    omega
  have hstatus : (R.EXTRA_ECHO_COUNT.EXTRA d).addr ≠ (R.OPS_STATUS.FIR_SAT_SEEN d).addr := by
    simp only [R.EXTRA_ECHO_COUNT.EXTRA, R.EXTRA_ECHO_COUNT.addr, R.OPS_STATUS.FIR_SAT_SEEN, R.OPS_STATUS.addr]
    omega
  have hadd (m n : Nat) : ((s.add (R.EXTRA_ECHO_COUNT.EXTRA d) m).add (R.LENS_HIT_COUNT.HITS d) n).get
      (R.EXTRA_ECHO_COUNT.EXTRA d) = (s.get (R.EXTRA_ECHO_COUNT.EXTRA d) + m) % 2 ^ 32 :=
    (State.get_put_addr _ _ _ _ hhits).trans (State.get_add _ _ _ (of_decide_eq_true rfl))
  unfold reductionCounted
  dsimp only
  split
  · rw [State.setFlag, State.get_put_addr _ _ _ _ hstatus, hadd]
  · rw [hadd]

theorem reductionCounted_hits (s : State) : (reductionCounted d o s).get (R.LENS_HIT_COUNT.HITS d) =
    (s.get (R.LENS_HIT_COUNT.HITS d) + (o.echoes.filter (fun e => e.lens.isSome)).length) % 2 ^ 32 := by
  have hextra : (R.LENS_HIT_COUNT.HITS d).addr ≠ (R.EXTRA_ECHO_COUNT.EXTRA d).addr := by
    simp only [R.EXTRA_ECHO_COUNT.EXTRA, R.EXTRA_ECHO_COUNT.addr, R.LENS_HIT_COUNT.HITS, R.LENS_HIT_COUNT.addr]
    omega
  have hstatus : (R.LENS_HIT_COUNT.HITS d).addr ≠ (R.OPS_STATUS.FIR_SAT_SEEN d).addr := by
    simp only [R.LENS_HIT_COUNT.HITS, R.LENS_HIT_COUNT.addr, R.OPS_STATUS.FIR_SAT_SEEN, R.OPS_STATUS.addr]
    omega
  have hadd (m n : Nat) : ((s.add (R.EXTRA_ECHO_COUNT.EXTRA d) m).add (R.LENS_HIT_COUNT.HITS d) n).get
      (R.LENS_HIT_COUNT.HITS d) = (s.get (R.LENS_HIT_COUNT.HITS d) + n) % 2 ^ 32 := by
    rw [State.get_add _ _ _ (of_decide_eq_true rfl), State.add, State.get_put_addr _ _ _ _ hextra]
    rfl
  unfold reductionCounted
  dsimp only
  split
  · rw [State.setFlag, State.get_put_addr _ _ _ _ hstatus, hadd]
  · rw [hadd]

theorem State.reductionDone_standby : (s.reductionDone d slot o).standby = s.standby := by
  have hreg : (s.reductionDone d slot o).reg R.TW_STATUS.addr = (s.reductionMoved d slot o).reg R.TW_STATUS.addr := by
    refine reductionCounted_reg ?_ ?_ ?_ _
    all_goals
      simp only [R.TW_STATUS.addr, R.EXTRA_ECHO_COUNT.EXTRA, R.EXTRA_ECHO_COUNT.addr, R.LENS_HIT_COUNT.HITS,
        R.LENS_HIT_COUNT.addr, R.OPS_STATUS.FIR_SAT_SEEN, R.OPS_STATUS.addr]
      omega
  exact congrArg (fun n => decide (n = 3)) (State.get_of_reg (f := R.TW_STATUS.TW_STATE) hreg)

/-- A reduction's end changes registers, ops and dies alone. -/
theorem State.reductionDone_same : s.reductionDone d slot o =
    { s with regs := (s.reductionDone d slot o).regs, ops := (s.reductionDone d slot o).ops,
             dies := (s.reductionDone d slot o).dies } := by
  obtain ⟨r, hr⟩ := reductionCounted_regsOnly d o (s.reductionMoved d slot o)
  rw [State.reductionDone, hr]
  rfl

theorem State.reductionDone_op : (s.reductionDone d slot o).op d slot = some (s.opReduced d o) := by
  obtain ⟨r, hr⟩ := reductionCounted_regsOnly d o (s.reductionMoved d slot o)
  rw [State.reductionDone, hr]
  exact SMap.get_put_self s.ops none (opKey d slot) (some (s.opReduced d o))

theorem State.reductionDone_die : (s.reductionDone d slot o).die d = s.dieReduced d slot o := by
  obtain ⟨r, hr⟩ := reductionCounted_regsOnly d o (s.reductionMoved d slot o)
  rw [State.reductionDone, hr]
  exact SMap.get_put_self s.dies {} d _

theorem reductionEnd_of_engine (ho : s.op d slot = some o) (he : (s.die d).engines.contains slot = true) :
    reductionEnd d slot s = if s.standby then s.reductionDone d slot o
      else forAll (s.dueExcerpts d o) (fun r s => pushStream r.1 r.2.1 r.2.2 s) (s.reductionDone d slot o) := by
  rw [← State.reductionDone_standby (s := s) (d := d) (slot := slot) (o := o)]
  unfold reductionEnd
  dsimp only
  rw [ho]
  dsimp only
  rw [if_pos he]
  rfl

end Reduction

/-! ### The statement -/

/-- Settles O22, command by command: what each leaves of the op, its die's queues and its group's pages. -/
theorem opsReducedAndReleased : Obligations.OpsReducedAndReleased := by
  unfold Obligations.OpsReducedAndReleased
  refine ⟨?accumulationEnd, ?correlatorTake, ?reductionEnd, ?opAbandon, ?pageClearDone⟩
  case accumulationEnd =>
    intro t d slot o s hready w v ho p hp hacc
    have hsu : (accumulationEnd d slot w).su = w.su := (accumulationEnd_touch (m := 17668) rfl .refl).su (by decide)
    exact (act_calm hready hsu).trans (congrArg _ (accumulationEnd_of_accumulated ho hp hacc))
  case correlatorTake =>
    intro t d slot r o s hready w x hq he ho
    have hsu : (correlatorTake d w).su = w.su := (correlatorTake_touch (m := 1296) rfl .refl).su (by decide)
    exact (act_calm hready hsu).trans (congrArg _ (correlatorTake_of_op hq he ho))
  case reductionEnd =>
    intro t d slot o s hready w x ho he recs
    have hsu : (reductionEnd d slot w).su = w.su := (reductionEnd_touch (m := 52492) rfl .refl).su (by decide)
    refine ⟨w.reductionDone d slot o, State.reductionDone_same, State.reductionDone_op, ?_, ?_, ?_, reductionCounted_extra _, ?_, ?_⟩
    · rw [State.reductionDone_die]; rfl
    · rw [State.reductionDone_die]; rfl
    · rw [State.reductionDone_die]; rfl
    · exact reductionCounted_hits _
    · exact (act_calm hready hsu).trans (congrArg _ (reductionEnd_of_engine ho he))
  case opAbandon =>
    intro t d slot o s hready w ho hst hage
    have hsu : (ageOut d slot w).su = w.su := (ageOut_touch (m := 12036) rfl .refl).su (by decide)
    obtain ⟨hop, hmem, hgroup, hdie, hcount, hcq⟩ := abandonOp_spec ho
    obtain ⟨hcorr, heng, hhand⟩ := Die.not_mem_without (w.die d) slot
    rw [← hdie] at hcorr heng hhand
    exact ⟨_, (act_calm hready hsu).trans (congrArg _ (ageOut_of_old ho hst hage)), hop, hmem, hgroup, hcorr, heng, hhand,
      hcount, hcq⟩
  case pageClearDone =>
    intro t d g s hready w x hpos
    have hsu : (clearPage d g w).su = w.su := (clearPage_touch (m := 512) rfl .refl).su (by decide)
    exact (act_calm hready hsu).trans (congrArg _ (clearPage_of_pos hpos))
end Sys2Proof.Machine

/-! Pulses that are fired, suppressed or counted by a standby, and the windows that open (O21). -/

namespace Sys2Proof.Machine

section Firing
variable {s : State} {d slot : Nat} {o : Op}

/-! ### The pulse that is due (R69, R121) -/

/-- The instant of the op's next pulse falls after the active part of the line of its pass (R121). -/
def Op.pastLine (o : Op) : Bool :=
  match o.ends.getD o.nextFire.2 none with
  | some e => decide (e < o.nextFire.1)
  | none => false

theorem Op.pastLine_of_some {e : Nat} (he : o.ends.getD o.nextFire.2 none = some e) (h : e < o.nextFire.1) :
    o.pastLine = true := by
  unfold Op.pastLine
  rw [he]
  exact decide_eq_true h

theorem Op.pastLine_eq_false (h : ∀ e, o.ends.getD o.nextFire.2 none = some e → o.nextFire.1 ≤ e) : o.pastLine = false := by
  unfold Op.pastLine
  split
  · next e he => exact decide_eq_false (Nat.not_lt.mpr (h e he))
  · rfl

/-- What becomes of a pulse that is due. -/
theorem pulseFire_due (ho : s.op d slot = some o) (hst : o.st = .issued ∨ o.st = .accumulating)
    (hp : o.pulses < o.pulsesVisited) (hnow : 128 * o.nextFire.1 ≤ s.now) : pulseFire d slot s =
      if o.pastLine then suppress d slot (o.k - o.pulses % o.k) s
      else if o.shadow && s.standby then
        if o.notFired.contains o.pulses then suppress d slot 1 s
        else openWindow d slot o o.nextFire.1 (limiterShadow o o.nextFire.1 s)
      else if s.mayNotFire o (s.offsets o) o.nextFire.1 then suppress d slot 1 s
      else fireBank d slot o o.nextFire.1 s := by
  have hnot : ¬ ((o.st ≠ .issued ∧ o.st ≠ .accumulating) ∨ o.pulsesVisited ≤ o.pulses ∨ s.now < 128 * o.nextFire.1) := by
    rintro (⟨hi, ha⟩ | hv | hlt)
    · exact hst.elim hi ha
    · omega
    · omega
  unfold pulseFire
  rw [ho]
  dsimp only
  rw [if_neg hnot]
  rfl

/-! ### Suppressed pulses (R72) -/

/-- Suppressing pulses of an op, its notice to a standby apart (11_twin.md R283). -/
theorem suppress_of_op (n : Nat) (ho : s.op d slot = some o) : suppress d slot n s =
    ((noticePulses o (o.pulses + n) ((List.range n).map (o.pulses + ·)) s).setOp d slot (some { o with
      suppressed := o.suppressed + n, pulses := o.pulses + n, lfsr := lfsrAfter n o.lfsr })).add
      (R.OPS_SUPPRESSED.SUPPRESSED d) n := by
  unfold suppress
  rw [ho]

theorem noticePulses_ops (upto : Nat) (l : List Nat) : (noticePulses o upto l s).ops = s.ops :=
  (noticePulses_touch (m := 16384) rfl .refl).ops (by decide)

theorem suppress_op_self (n : Nat) (ho : s.op d slot = some o) : (suppress d slot n s).op d slot =
    some { o with suppressed := o.suppressed + n, pulses := o.pulses + n, lfsr := lfsrAfter n o.lfsr } := by
  rw [suppress_of_op n ho, State.op_of_ops State.add_ops, State.op_setOp_self]

theorem suppress_op_other (n : Nat) {d' slot' : Nat} (ho : s.op d slot = some o) (h : slot < 2048) (h' : slot' < 2048)
    (hne : (d', slot') ≠ (d, slot)) : (suppress d slot n s).op d' slot' = s.op d' slot' := by
  rw [suppress_of_op n ho, State.op_of_ops State.add_ops, State.op_setOp, if_neg (fun hk => hne (opKey_inj h h' hk)),
    State.op_of_ops (noticePulses_ops _ _)]

theorem suppress_count (n : Nat) (ho : s.op d slot = some o) : (suppress d slot n s).get (R.OPS_SUPPRESSED.SUPPRESSED d) =
    (s.get (R.OPS_SUPPRESSED.SUPPRESSED d) + n) % 2 ^ 32 := by
  have hregs : (noticePulses o (o.pulses + n) ((List.range n).map (o.pulses + ·)) s).regs = s.regs :=
    (noticePulses_touch (m := 16384) rfl .refl).regs (by decide)
  rw [suppress_of_op n ho, State.get_add _ _ _ (of_decide_eq_true rfl), State.setOp_get, State.get_of_regs hregs]
  rfl

theorem suppress_su (n : Nat) : (suppress d slot n s).su = s.su := (suppress_touch (m := 16644) rfl .refl).su (by decide)

/-! ### Windows of fired pulses (R73) -/

/-- The op once it has fired a pulse at `f` ns. -/
def Op.afterFire (o : Op) (f : Nat) : Op :=
  { o with
      st := .accumulating, waiting := o.waiting ++ [(o.pulses, f)], fired := o.fired + 1,
      lastClose := max o.lastClose (o.closes f), pulses := o.pulses + 1, lfsr := lfsr8 o.lfsr }

/-- Where no other window of the channel waits and this one is still to come, none opens. -/
theorem State.nextWindow_afterFire {f : Nat} (hothers : ∀ x ∈ s.chanOps o.chan, x.2.2.waiting = []) (hnone : o.waiting = [])
    (hlater : s.now < o.opens f) : (s.setOp d slot (some (o.afterFire f))).nextWindow o.chan = none := by
  rw [Option.eq_none_iff_forall_ne_some]
  rintro ⟨e, k, p⟩ hx
  obtain ⟨hmem, hwaits, hcome⟩ := State.nextWindow_some hx
  obtain ⟨hk, hp, hch⟩ := State.mem_chanOps.mp hmem
  rw [State.op_setOp] at hp
  split at hp
  · obtain rfl := Option.some.inj hp
    have hfirst : (o.afterFire f).firstOpening = o.opens f := by
      unfold Op.firstOpening Op.afterFire
      dsimp only
      rw [hnone]
      rfl
    rw [hfirst] at hcome
    exact absurd hlater (Nat.not_lt.mpr hcome)
  · exact hwaits (hothers _ (State.mem_chanOps.mpr ⟨hk, hp, hch⟩))

theorem openWindow_op {f : Nat} (hothers : ∀ x ∈ s.chanOps o.chan, x.2.2.waiting = []) (hnone : o.waiting = [])
    (hlater : s.now < o.opens f) : (openWindow d slot o f s).op d slot = some (o.afterFire f) := by
  have hopen : openWindow d slot o f s = s.setOp d slot (some (o.afterFire f)) :=
    takeWaitingN_of_none _ (State.nextWindow_afterFire hothers hnone hlater)
  rw [hopen, State.op_setOp_self]

theorem openFirst_of_room {ch : Nat} {p : Nat × Nat} {r : List (Nat × Nat)} (hw : o.waiting = p :: r)
    (h : s.windowsOpen ch (o.opens p.2) < 64) : openFirst ch d slot o s =
      s.setOp d slot (some { o with waiting := r, fires := o.fires ++ [p] }) := by
  unfold openFirst
  rw [hw]
  exact if_pos h

theorem openFirst_of_full {ch : Nat} {p : Nat × Nat} {r : List (Nat × Nat)} (hw : o.waiting = p :: r)
    (h : 64 ≤ s.windowsOpen ch (o.opens p.2)) : openFirst ch d slot o s =
      (s.setOp d slot (some { o with waiting := r, unbinned := o.unbinned + 1 })).bump (R.OPS_UNBINNED.UNBINNED d) := by
  unfold openFirst
  rw [hw]
  exact if_neg (Nat.not_lt.mpr h)

end Firing

/-! ### The statement -/

/-- Settles O21: the branches of a pulse that is due, and what suppression and a window's opening leave of the op. -/
theorem pulsesFired : Obligations.PulsesFired := by
  unfold Obligations.PulsesFired
  refine ⟨?due, ?suppressed, ?waiting, ?opening⟩
  case due =>
    intro t d slot o s hready w ho hst hp hnow
    have hexec : exec (.pulseFire t d slot) s = .next (settle (pulseFire d slot w)) := act_ready hready
    have hcalm {u : State} (hu : u.su = w.su) : settle u = u := settle_calm (by rw [hu]; exact hready.2)
    rw [hexec, pulseFire_due ho hst hp hnow]
    refine ⟨fun e he hlt => ?_, fun hline hshadow hstandby => ?_, fun hline hown => ?_⟩
    · rw [if_pos (Op.pastLine_of_some he hlt), hcalm (suppress_su _)]
    · rw [if_neg (by simp [Op.pastLine_eq_false hline]), if_pos (by simp [hshadow, hstandby])]
      refine congrArg _ (hcalm ?_)
      split
      · exact suppress_su _
      · exact (openWindow_touch (m := 16777476) rfl (limiterShadow_touch rfl .refl)).su (by decide)
    · rw [if_neg (by simp [Op.pastLine_eq_false hline]), if_neg (by rcases hown with h | h <;> simp [h])]
      split
      · rw [hcalm (suppress_su _)]
      · rfl
  case suppressed =>
    exact fun d slot n o s ho =>
      ⟨suppress_op_self n ho, suppress_count n ho, fun d' slot' h h' hne => suppress_op_other n ho h h' hne⟩
  case waiting =>
    intro d slot f o s hothers hnone hlater
    rw [openWindow_op hothers hnone hlater, Op.afterFire, hnone]
    rfl
  case opening =>
    intro ch d slot p r o s hwaits u
    refine ⟨fun hroom => ?_, fun hfull => ?_⟩
    · have hu : u = s.setOp d slot (some { o with waiting := r, fires := o.fires ++ [p] }) := openFirst_of_room hwaits hroom
      rw [hu, State.op_setOp_self]
      exact ⟨rfl, State.setOp_regs⟩
    · have hu : u = _ := openFirst_of_full hwaits hfull
      rw [hu, State.op_of_ops State.bump_ops, State.op_setOp_self]
      exact ⟨rfl, State.get_add _ _ _ (of_decide_eq_true rfl)⟩

end Sys2Proof.Machine

/-! Decisions of visits and probes: an op in a free slot, or a decline (O20). -/

namespace Sys2Proof.Machine

section Decision
variable {s : State} {o : Op} {bad late : Bool}

/-! ### Free slots (R61) -/

theorem chGroup_lt (n : Nat) : chGroup n < 16 := by
  unfold chGroup
  omega

/-- A free slot of a group is one of its 128, and no op holds it. -/
theorem State.freeSlot_some {d g k : Nat} (hg : g < 16) (h : s.freeSlot d g = some k) : k < 128 ∧ s.op d (128 * g + k) = none := by
  unfold State.freeSlot at h
  dsimp only at h
  have hk : k < 128 := List.mem_range.mp (List.mem_of_find?_eq_some h)
  have hfree : k ∉ s.groupOps d g := by simpa using List.find?_some h
  refine ⟨hk, Option.eq_none_iff_forall_ne_some.mpr fun p hp => hfree ?_⟩
  have hdiv : (128 * g + k) / 128 = g := by omega
  have hmod : (128 * g + k) % 128 = k := by omega
  exact List.mem_filterMap.mpr ⟨(d, 128 * g + k), State.mem_opKeys_of_op (by omega) hp, by simp [hdiv, hmod]⟩

/-! ### The reason of a decline (R64) -/

/-- What the reasons of a decline test, in their order: dark die, holdover, displaced by calibration, channel not enabled,
invalid descriptor, late descriptor, no free slot, too few free pages. -/
def State.declineTests (s : State) (o : Op) (bad late : Bool) : List Bool :=
  let d := chDie o.chan
  let g := chGroup o.chan
  [s.dieDark d, !s.flag R.TB_STATUS.LOCKED, s.calHolds o.head (o.chan / 12), !s.chEn o.chan, bad, late,
   (s.freeSlot d g).isNone, decide ((s.group d g).free < o.pages)]

/-- The place of the first truth value that holds. -/
theorem findIdx?_id_cons (b : Bool) (l : List Bool) :
    (b :: l).findIdx? id = if b then some 0 else (l.findIdx? id).map (· + 1) := List.findIdx?_cons

/-- The reason is the number of the first test that is met. -/
theorem declineReason_eq_findIdx? : s.declineReason o bad late = (s.declineTests o bad late).findIdx? id := by
  unfold State.declineReason State.declineTests
  dsimp only
  simp only [findIdx?_id_cons, List.findIdx?_nil, apply_ite (Option.map _), Option.map_some, Option.map_none, decide_eq_true_eq]

theorem declineReason_lt {r : Nat} (h : s.declineReason o bad late = some r) : r < 8 := by
  rw [declineReason_eq_findIdx?, List.findIdx?_eq_some_iff_getElem] at h
  exact h.1

/-- An op that nothing declines has a free slot. -/
theorem freeSlot_of_not_declined (h : s.declineReason o bad late = none) :
    ∃ k, s.freeSlot (chDie o.chan) (chGroup o.chan) = some k := by
  rw [declineReason_eq_findIdx?, List.findIdx?_eq_none_iff] at h
  refine Option.isSome_iff_exists.mp ?_
  simpa using h (s.freeSlot (chDie o.chan) (chGroup o.chan)).isNone (by simp [State.declineTests])

/-! ### An op that is issued (R61, R66) -/

/-- The op as it takes slot k of its group. -/
def State.opIssued (s : State) (o : Op) (lenses : List Nat) (k : Nat) : Op :=
  { o with
    st := .issued, groupSlot := k, lfsr := s.seedOf o, ageEnd := s.ageOf o,
    lenses := (lenses.filter o.lensFits).map (fun p => { p := p }) }

/-- The op is in its slot, its pages are taken. -/
def State.slotTaken (s : State) (o : Op) (lenses : List Nat) (k : Nat) : State :=
  let d := chDie o.chan
  let g := chGroup o.chan
  (s.setOp d (128 * g + k) (some (s.opIssued o lenses k))).setGroup d g
    { s.group d g with free := (s.group d g).free - o.pages }

/-- The issue is counted on the die, and a standby hears of it. -/
def State.issueNoticed (s : State) (o : Op) (lenses : List Nat) (k : Nat) : State :=
  noticeDecision (s.opIssued o lenses k) lenses 0 ((s.slotTaken o lenses k).bump (R.OPS_ISSUED.ISSUED (chDie o.chan)))

theorem issue_of_freeSlot {k : Nat} (lenses : List Nat) (h : s.freeSlot (chDie o.chan) (chGroup o.chan) = some k) :
    issue o lenses s = match o.frame with
      | some f => (s.issueNoticed o lenses k).modFrame o.head f (fun a => { a with issued := a.issued + 1 })
      | none => s.issueNoticed o lenses k := by
  unfold issue
  dsimp only
  rw [h]
  rfl

/-- The count in the frame changes nothing but the frames. -/
theorem issue_touch_frames {k : Nat} (lenses : List Nat) (h : s.freeSlot (chDie o.chan) (chGroup o.chan) = some k) :
    Touch 2048 (s.issueNoticed o lenses k) (issue o lenses s) := by
  rw [issue_of_freeSlot lenses h]
  split
  · exact State.modFrame_touch rfl .refl
  · exact .refl

theorem State.issueNoticed_touch (lenses : List Nat) (k : Nat) : Touch 16388 (s.slotTaken o lenses k) (s.issueNoticed o lenses k) :=
  noticeDecision_touch rfl (State.bump_touch rfl .refl)

theorem State.issueNoticed_count (lenses : List Nat) (k : Nat) :
    (s.issueNoticed o lenses k).get (R.OPS_ISSUED.ISSUED (chDie o.chan)) =
      (s.get (R.OPS_ISSUED.ISSUED (chDie o.chan)) + 1) % 2 ^ 32 := by
  have hnotice (t : State) : (noticeDecision (s.opIssued o lenses k) lenses 0 t).regs = t.regs :=
    (noticeDecision_touch (m := 16384) rfl .refl).regs (by decide)
  rw [State.issueNoticed, State.get_of_regs (hnotice _), State.bump, State.get_add _ _ _ (of_decide_eq_true rfl),
    State.slotTaken, State.setGroup_get, State.setOp_get]
  rfl

/-- An op that is issued is in its slot, its group's pages and the counts have moved, memory is as it was. -/
theorem issue_spec {k : Nat} (lenses : List Nat) (h : s.freeSlot (chDie o.chan) (chGroup o.chan) = some k) :
    let d := chDie o.chan
    let g := chGroup o.chan
    let u := issue o lenses s
    u.op d (128 * g + k) = some (s.opIssued o lenses k) ∧ (u.group d g).free = (s.group d g).free - o.pages ∧
    u.get (R.OPS_ISSUED.ISSUED d) = (s.get (R.OPS_ISSUED.ISSUED d) + 1) % 2 ^ 32 ∧ u.mem = s.mem ∧
    (∀ f a, o.frame = some f → s.frame o.head f = some a → u.frame o.head f = some { a with issued := a.issued + 1 }) := by
  intro d g u
  have hframes : Touch 2048 (s.issueNoticed o lenses k) u := issue_touch_frames lenses h
  have hnotice := s.issueNoticed_touch (o := o) lenses k
  refine ⟨?_, ?_, ?_, (issue_touch (m := 19204) rfl .refl).mem (by decide), fun f a hf ha => ?_⟩
  · rw [State.op_of_ops ((hframes.ops (by decide)).trans (hnotice.ops (by decide))), State.slotTaken,
      State.op_of_ops State.setGroup_ops, State.op_setOp_self]
  · rw [State.group_of_groups ((hframes.groups (by decide)).trans (hnotice.groups (by decide))), State.slotTaken,
      State.group_setGroup_self]
  · rw [State.get_of_regs (hframes.regs (by decide)), State.issueNoticed_count]
  · have hold : (s.issueNoticed o lenses k).frame o.head f = some a := by
      rw [State.frame_of_frames (hnotice.frames (by decide)), State.slotTaken, State.frame_of_frames State.setGroup_frames,
        State.frame_of_frames State.setOp_frames, ha]
    have hu : u = (s.issueNoticed o lenses k).modFrame o.head f (fun a => { a with issued := a.issued + 1 }) := by
      unfold u
      rw [issue_of_freeSlot lenses h, hf]
    rw [hu, State.frame_modFrame hold]

/-! ### An op that is declined (R64) -/

/-- The decline is counted on the die. -/
def State.declineBumped (s : State) (o : Op) (r : Nat) : State := s.bump (R.DECL_COUNT.DECL (chDie o.chan) r)

/-- It is counted in the op's frame too. -/
def State.declineFramed (s : State) (o : Op) (r : Nat) : State :=
  match o.frame with
  | some f => (s.declineBumped o r).modFrame o.head f
      (fun a => { a with declined := a.declined + 1, displaced := a.displaced || decide (r = 2) })
  | none => s.declineBumped o r

/-- A cell that calibration displaced is counted on its line (15_thermal_calibration.md R361). -/
def State.declineDisplaced (s : State) (o : Op) (r : Nat) : State :=
  if r = 2 then (s.declineFramed o r).modHead o.head
    (fun x => { x with calLine := x.calLine.map (fun c => (c.1, c.2.1, c.2.2 + 1)) })
  else s.declineFramed o r

/-- A probe's sequencer, or a standby, hears of it: the state in which the decline's record is made. -/
def State.declineTold (s : State) (o : Op) (r : Nat) : State :=
  match o.probe with
  | some p => cqProbe p (fun tag => (cqWord0 tag 2 r 0 o.head false, cqWord1 o.cell o.chan, 0, 0)) (s.declineDisplaced o r)
  | none => noticeDecision o [] (1 + r)
      ((s.declineDisplaced o r).modHead o.head (fun x => { x with declined := x.declined ++ [o.cell] }))

/-- The record of a decline (R64; 04_echoes_and_points.md R107, R109). -/
def declineRecord (o : Op) (r : Nat) : Rec :=
  pointRec o.cell 0 r 0 7 o.chan (recTime o.frame o.frameT0 o.v0) 0 (2 ^ 7 + 2 ^ 5 * b2n o.frondTorn) o.head o.frond o.frondGen

theorem decline_of_fitted {r : Nat} (hfit : s.chFitted o.chan = true) : decline o r s =
    if (s.declineTold o r).flag (R.OPS_CFG.DECL_REPORT (chDie o.chan)) = true ∧ (s.declineTold o r).standby = false then
      pushPoint o.head o.frame (2 ^ 7 + 2 ^ 5 * b2n o.frondTorn) (declineRecord o r) (serveUrgent (s.declineTold o r))
    else s.declineTold o r := by
  have hreport (b c : Bool) : (true && b && !c) = true ↔ b = true ∧ c = false := by simp
  unfold decline
  rw [hfit]
  exact ite_congr (propext (hreport _ _)) (fun _ => rfl) (fun _ => rfl)

theorem State.declineBumped_touch (r : Nat) : Touch 4 s (s.declineBumped o r) := State.bump_touch rfl .refl

theorem State.declineFramed_touch (r : Nat) : Touch 2048 (s.declineBumped o r) (s.declineFramed o r) := by
  unfold State.declineFramed
  split
  · exact State.modFrame_touch rfl .refl
  · exact .refl

theorem State.declineDisplaced_touch (r : Nat) : Touch 65536 (s.declineFramed o r) (s.declineDisplaced o r) := by
  unfold State.declineDisplaced
  split
  · exact State.modHead_touch rfl .refl
  · exact .refl

theorem State.declineTold_touch (r : Nat) : Touch 90116 (s.declineDisplaced o r) (s.declineTold o r) := by
  unfold State.declineTold
  split
  · exact cqProbe_touch rfl .refl
  · exact noticeDecision_touch rfl (State.modHead_touch rfl .refl)

theorem State.declineTold_reg {a : Nat} (ha : 0xC000 ≤ a) (r : Nat) : (s.declineTold o r).reg a = (s.declineDisplaced o r).reg a := by
  unfold State.declineTold
  split
  · exact cqProbe_reg_above ha _ _ _
  · exact State.reg_of_regs ((noticeDecision_touch (m := 81920) rfl (State.modHead_touch rfl .refl)).regs (by decide))

theorem State.declineTold_count (r : Nat) : (s.declineTold o r).get (R.DECL_COUNT.DECL (chDie o.chan) r) =
    (s.get (R.DECL_COUNT.DECL (chDie o.chan) r) + 1) % 2 ^ 32 := by
  have habove : 0xC000 ≤ (R.DECL_COUNT.DECL (chDie o.chan) r).addr := by
    simp only [R.DECL_COUNT.DECL, R.DECL_COUNT.addr]
    omega
  rw [State.get_of_reg (State.declineTold_reg habove r), State.get_of_regs ((s.declineDisplaced_touch r).regs (by decide)),
    State.get_of_regs ((s.declineFramed_touch r).regs (by decide))]
  exact State.get_add _ _ _ (of_decide_eq_true rfl)

theorem State.declineTold_frame {r f : Nat} {a : FrameAcc} (hf : o.frame = some f) (ha : s.frame o.head f = some a) :
    (s.declineTold o r).frame o.head f =
      some { a with declined := a.declined + 1, displaced := a.displaced || decide (r = 2) } := by
  have hbumped : (s.declineBumped o r).frame o.head f = some a :=
    (State.frame_of_frames ((s.declineBumped_touch r).frames (by decide))).trans ha
  rw [State.frame_of_frames ((s.declineTold_touch r).frames (by decide)),
    State.frame_of_frames ((s.declineDisplaced_touch r).frames (by decide)), State.declineFramed, hf,
    State.frame_modFrame hbumped]

/-! ### The decision (R61) -/

/-- The op with the code it uses (R82). -/
def State.coded (s : State) (o : Op) : Op := { o with code := s.codeOf o }

theorem decideOp_of_reason {r : Nat} (lenses : List Nat) (hfit : s.chFitted o.chan = true)
    (h : s.declineReason (s.coded o) (bad || s.badDesc (s.coded o)) late = some r) :
    decideOp o lenses bad late s = decline (s.coded o) r s := by
  unfold State.coded at h
  unfold decideOp
  refine (if_neg (show ¬ (!s.chFitted o.chan) = true by simp [hfit])).trans ?_
  rw [h]
  rfl

theorem decideOp_of_no_reason (lenses : List Nat) (hfit : s.chFitted o.chan = true)
    (h : s.declineReason (s.coded o) (bad || s.badDesc (s.coded o)) late = none) :
    decideOp o lenses bad late s = issue (s.coded o) lenses s := by
  unfold State.coded at h
  unfold decideOp
  refine (if_neg (show ¬ (!s.chFitted o.chan) = true by simp [hfit])).trans ?_
  rw [h]
  rfl

theorem decideOp_su (lenses : List Nat) : (decideOp o lenses bad late s).su = s.su :=
  (decideOp_touch (m := 8518412) rfl .refl).su (by decide)

end Decision

section Visits
variable {s : State} {h : Nat} {late : Bool} {v : Visit}

/-! ### Scan visits (R62, R67, R127 to R129) -/

/-- The visit has been taken off the head's visits. -/
def State.visitTaken (s : State) (h : Nat) (v : Visit) : State :=
  s.modHead h (fun x => { x with visits := x.visits.filter (fun y => decide (y ≠ v)) })

/-- The op that a visit at its cell asks for. -/
def State.visitOp (s : State) (h : Nat) (v : Visit) : Op :=
  { w0 := v.cell + 2 ^ 19 * v.ch + 2 ^ 30 * h, w1 := v.w1, w2 := v.w2, v0 := v.v, vs := [v.v],
    ends := [some v.endNs], noMore := s.lastVisit h v.line, frame := some (s.frameCount h), frameNow := s.frameCount h,
    frameT0 := (match s.frame h (s.frameCount h) with | some a => a.t0 | none => 0),
    bank := (match s.chanBank h v.ch with | some b => b | none => 0),
    torn := v.torn, frondTorn := v.frondTorn, frond := v.frond, frondGen := v.gen, phase := v.phase,
    shadow := s.standby, cols := (match s.fmt h with | some f => f.cols | none => 0) }

theorem State.visitOp_cell : (s.visitOp h v).cell % 2 ^ 19 = v.cell % 2 ^ 19 := by
  show (v.cell + 2 ^ 19 * v.ch + 2 ^ 30 * h) >>> 0 % 2 ^ 19 % 2 ^ 19 = v.cell % 2 ^ 19
  rw [Nat.shiftRight_zero]
  omega

/-- A visit that finds no op of its cell waits for a decision that comes first (R62). -/
theorem scanVisit_waits (hv : s.nextVisit h = some v) (hnone : s.scanOp h v.cell = none)
    (hbefore : s.decisionBefore (s.visitAt h v) v.ch v.cell = true) : scanVisit h late s = s := by
  unfold scanVisit
  rw [hv]
  dsimp only
  rw [if_pos (Or.inr (Or.inr ⟨by rw [hnone]; rfl, hbefore⟩))]

/-- A visit of a cell without an op: a pass of an op that its active holds and this unit has no slot for, a decision, or
nothing (11_twin.md R287; R127). -/
def visitUnheld (h : Nat) (v : Visit) (at_ : Nat) (late : Bool) (s : State) : State :=
  match s.twin.missed.find? (fun o => o.head = h && o.cell = v.cell && o.frame = some (s.frameCount h)) with
  | some o => if o.vs.length < o.passes then missedPass o at_ s else s
  | none =>
    if v.shoot && !(s.head h).declined.contains v.cell then decideOp (s.visitOp h v) v.lenses false late s else s

theorem visitUnheld_of_pass {at_ : Nat} (hmissed : s.twin.missed = [])
    (hpass : v.shoot = false ∨ (s.head h).declined.contains v.cell = true) : visitUnheld h v at_ late s = s := by
  unfold visitUnheld
  rw [hmissed]
  refine if_neg ?_
  rcases hpass with hs | hd
  · simp [hs]
  · rw [hd]
    simp

theorem visitUnheld_of_shoot {at_ : Nat} (hmissed : s.twin.missed = []) (hs : v.shoot = true)
    (hd : (s.head h).declined.contains v.cell = false) :
    visitUnheld h v at_ late s = decideOp (s.visitOp h v) v.lenses false late s := by
  unfold visitUnheld
  rw [hmissed]
  refine if_pos ?_
  rw [hs, hd]
  rfl

/-- What becomes of a visit that is due and waits for no other decision. -/
theorem scanVisit_due (hv : s.nextVisit h = some v) (hnow : 128 * s.visitAt h v ≤ s.now) (hopen : (s.head h).opened = true)
    (hfirst : s.scanOp h v.cell = none → s.decisionBefore (s.visitAt h v) v.ch v.cell = false) :
    scanVisit h late s =
      match (s.visitTaken h v).scanOp h v.cell with
      | some (d, slot, o) => serveVisit h v (s.visitAt h v) d slot o (s.visitTaken h v)
      | none => visitUnheld h v (s.visitAt h v) late (s.visitTaken h v) := by
  have hdue : ¬ (s.now < 128 * s.visitAt h v ∨ (!(s.head h).opened) = true ∨
      (s.scanOp h v.cell).isNone = true ∧ s.decisionBefore (s.visitAt h v) v.ch v.cell = true) := by
    rintro (hlt | hclosed | ⟨hnone, hbefore⟩)
    · omega
    · simp [hopen] at hclosed
    · rw [hfirst (Option.isNone_iff_eq_none.mp hnone)] at hbefore
      cases hbefore
  unfold scanVisit
  rw [hv]
  exact if_neg hdue

theorem scanVisit_su : (scanVisit h late s).su = s.su := (scanVisit_touch (m := 25819916) rfl .refl).su (by decide)

/-! ### Probes (R62; 06_salrad.md R153 to R155) -/

/-- The probe has been taken off its sequencer's probes. -/
def State.probeTaken (s : State) (n : Nat) (rest : List ProbeReq) : State := s.setSeq n { s.seq n with probes := rest }

/-- A probe's descriptor. -/
def ProbeReq.descr (r : ProbeReq) : Op :=
  { w0 := r.w0, w1 := r.w1, w2 := r.w2, w3 := r.w3, v0 := r.v0, probe := some r.info, frond := 3 }

/-- The bank a probe names, or that of its channel. -/
def State.probeBank (s : State) (r : ProbeReq) : Nat :=
  if r.bank = 63 then (match s.bankOf r.descr.chan with | some b => b | none => 63) else r.bank

/-- The op that a probe asks for. -/
def State.probeOp (s : State) (r : ProbeReq) : Op :=
  let o := r.descr
  { o with
    vs := (List.range o.passes).map (fun q => r.v0 + q * r.info.interval), ends := List.replicate o.passes none,
    frame := s.frameNowOf o.head, frameNow := s.frameCount o.head, bank := s.probeBank r % 32,
    frameT0 := (match (s.frameNowOf o.head).bind (s.frame o.head) with | some a => a.t0 | none => 0) }

theorem probeDecision_waits {n : Nat} {r : ProbeReq} {rest : List ProbeReq} (hp : (s.seq n).probes = r :: rest)
    (hbefore : s.decisionBefore r.v0 (bits r.w0 19 11) (bits r.w0 0 19) = true) : probeDecision n late s = s := by
  unfold probeDecision
  dsimp only
  rw [hp]
  exact if_pos (Or.inr hbefore)

theorem probeDecision_due {n : Nat} {r : ProbeReq} {rest : List ProbeReq} (hp : (s.seq n).probes = r :: rest)
    (hnow : 128 * r.v0 ≤ s.now) (hbefore : s.decisionBefore r.v0 (bits r.w0 19 11) (bits r.w0 0 19) = false) :
    probeDecision n late s =
      decideOp ((s.probeTaken n rest).probeOp r) (r.lenses.filter (fun p => decide (p ≠ 0)))
        ((s.probeTaken n rest).badProbe ((s.probeTaken n rest).probeOp r) r.info ((s.probeTaken n rest).probeBank r)) late
        (s.probeTaken n rest) := by
  have hdue : ¬ (s.now < 128 * r.v0 ∨ s.decisionBefore r.v0 (bits r.w0 19 11) (bits r.w0 0 19) = true) := by
    rw [hbefore]
    rintro (hlt | hfalse)
    · omega
    · cases hfalse
  unfold probeDecision
  dsimp only
  rw [hp]
  exact if_neg hdue

theorem probeDecision_su {n : Nat} : (probeDecision n late s).su = s.su :=
  (probeDecision_touch (m := 8518412) rfl .refl).su (by decide)

end Visits

/-! ### The statement -/

/-- Settles O20: a visit and a probe branch by branch, then the two outcomes of a decision, and the order of the reasons. -/
theorem cellsDecided : Obligations.CellsDecided := by
  unfold Obligations.CellsDecided
  refine ⟨?visit, ?probe, ?outcome, ?order⟩
  case visit =>
    intro t h late v s hready w hv hnow hopen x
    have hexec : exec (.cellDecision t (.scan h) late) s = .next (scanVisit h late w) := act_calm hready scanVisit_su
    rw [hexec]
    refine ⟨fun d slot o hop hop' => ?_, fun hnone hbefore => ?_,
      fun hnone hbefore hnone' hmissed => ⟨fun hpass => ?_, fun hshoot hnew => ?_⟩⟩
    · have hheld : w.scanOp h v.cell = none → w.decisionBefore (w.visitAt h v) v.ch v.cell = false := by
        rw [hop]
        intro hno
        cases hno
      rw [scanVisit_due hv hnow hopen hheld, show (w.visitTaken h v).scanOp h v.cell = some (d, slot, o) from hop']
      rfl
    · rw [scanVisit_waits hv hnone hbefore]
    · rw [scanVisit_due hv hnow hopen fun _ => hbefore, show (w.visitTaken h v).scanOp h v.cell = none from hnone']
      exact congrArg _ (visitUnheld_of_pass hmissed hpass)
    · refine ⟨x.visitOp h v, State.visitOp_cell, rfl, rfl, rfl, rfl, rfl, rfl, rfl, rfl, rfl, rfl, rfl, rfl, rfl, ?_⟩
      rw [scanVisit_due hv hnow hopen fun _ => hbefore, show (w.visitTaken h v).scanOp h v.cell = none from hnone']
      exact congrArg _ (visitUnheld_of_shoot hmissed hshoot hnew)
  case probe =>
    intro t n late r rest s hready w hp hnow before x
    have hexec : exec (.cellDecision t (.probe n) late) s = .next (probeDecision n late w) := act_calm hready probeDecision_su
    rw [hexec]
    refine ⟨fun hbefore => ?_, fun hbefore => ?_⟩
    · rw [probeDecision_waits hp hbefore]
    · exact ⟨x.probeOp r, rfl, rfl, rfl, rfl, rfl, rfl, rfl, rfl, x.probeBank r, congrArg _ (probeDecision_due hp hnow hbefore)⟩
  case outcome =>
    intro o lenses bad late s hfit _ o' d g u
    refine ⟨fun hnone => ?_, fun r hr => ?_⟩
    · obtain ⟨k, hk⟩ := freeSlot_of_not_declined hnone
      obtain ⟨hlt, hfree⟩ := State.freeSlot_some (chGroup_lt _) hk
      obtain ⟨hop, hpages, hcount, hmem, hframe⟩ := issue_spec lenses hk
      have hu : u = issue o' lenses s := decideOp_of_no_reason lenses hfit hnone
      rw [hu]
      exact ⟨k, _, hlt, hfree, hop, rfl, rfl, rfl, rfl, rfl, hpages, hcount, hmem, hframe⟩
    · have hu : u = decline o' r s := decideOp_of_reason lenses hfit hr
      have htouch : Touch 8517644 s (decline o' r s) := decline_touch rfl .refl
      refine ⟨declineReason_lt hr, hu ▸ htouch.ops (by decide), hu ▸ htouch.groups (by decide), s.declineTold o' r,
        State.declineTold_count r, fun f a hf ha => State.declineTold_frame hf ha, hu.trans (decline_of_fitted hfit)⟩
  case order =>
    intro o bad late s
    simp only [declineReason_eq_findIdx?, State.declineTests, findIdx?_id_cons]
    refine ⟨fun hdark => ?_, fun hlit hlock => ?_, fun hlit hlock hcal => ?_, fun hlit hlock hcal =>
      ⟨fun hch => ?_, fun hch hbad => ?_, fun hch hbad hlate => ?_, fun hch hbad hlate => ⟨fun hslot => ?_, fun hslot => ?_⟩⟩⟩
    · simp [hdark]
    · simp [hlit, hlock]
    · simp [hlit, hlock, hcal]
    · simp [hlit, hlock, hcal, hch]
    · simp [hlit, hlock, hcal, hch, hbad]
    · simp [hlit, hlock, hcal, hch, hbad, hlate]
    · simp [hlit, hlock, hcal, hch, hbad, hlate, hslot]
    · simp [hlit, hlock, hcal, hch, hbad, hlate, hslot]

end Sys2Proof.Machine

/-! Fields of a lichen entry, and what an observation leaves of them (O24; 04_echoes_and_points.md R100, R102, R103). -/

namespace Sys2Proof.Machine

section Entry
variable {e now cfg : Nat} {l : List (Nat × Nat × Nat)} {f : Nat × Nat}

/-! ### A field of an entry after a write to it (R100) -/

/-- Two fields of an entry that share no bit. -/
abbrev L.Apart (f g : Nat × Nat) : Prop := f.1 + f.2 ≤ g.1 ∨ g.1 + g.2 ≤ f.1

/-- A field of an entry is replaced as one of a memory word is. -/
theorem setBits_eq_withFields (x lo w v : Nat) : setBits x lo w v = withFields x [(lo, w, v)] := rfl

theorem lget_lset_self (e : Nat) (f : Nat × Nat) (v : Nat) : lget (lset e f v) f = v % 2 ^ f.2 := by
  rw [lset, setBits_eq_withFields]
  exact bits_withField _ _ _ _

theorem lget_lset_apart {g : Nat × Nat} (h : L.Apart f g) (e v : Nat) : lget (lset e g v) f = lget e f := by
  rw [lset, setBits_eq_withFields]
  exact bits_withField_beside _ _ _ _ _ _ h.symm

/-! ### What an observation writes (R102) -/

/-- The fields that an observation writes, whatever it finds. -/
def L.learnt : List (Nat × Nat) := [L.staticRange, L.sigma, L.reflect, L.missRun, L.unlearnt, L.tChange]

/-- The field shares no bit with those that any observation writes. -/
abbrev L.Spared (f : Nat × Nat) : Prop := ∀ g ∈ L.learnt, L.Apart f g

theorem lget_lset_spared {g : Nat × Nat} (hf : L.Spared f) (hg : g ∈ L.learnt) (e v : Nat) : lget (lset e g v) f = lget e f :=
  lget_lset_apart (hf g hg) e v

theorem lget_learnEntry (hf : L.Spared f) : lget (learnEntry now l e) f = lget e f := by
  have hkeep {g : Nat × Nat} (hg : g ∈ L.learnt) (e v : Nat) : lget (lset e g v) f = lget e f := lget_lset_spared hf hg e v
  unfold learnEntry
  dsimp only
  rw [hkeep (by decide), hkeep (by decide), hkeep (by decide), hkeep (by decide), hkeep (by decide), hkeep (by decide)]

/-- An entry whose observation matches nothing: one more miss, or the entry learnt anew after enough of them. -/
def entryMissed (now cfg : Nat) (l : List (Nat × Nat × Nat)) (e : Nat) : Nat :=
  let run := min 65535 (lget e L.missRun + 1)
  if R.LICHEN_CFG.RELEARN_N.of_ cfg * 64 ≤ run then learnEntry now l e else lset e L.missRun run

theorem lget_entryMissed (hf : L.Spared f) : lget (entryMissed now cfg l e) f = lget e f := by
  unfold entryMissed
  dsimp only
  split
  · exact lget_learnEntry hf
  · exact lget_lset_spared hf (by decide) _ _

/-- An entry drawn toward the echo that it matches, its flags and T_CHANGE aside. -/
def entryDrawn (cfg : Nat) (x : Nat × Nat × Nat) (e : Nat) : Nat :=
  let st := lget e L.staticRange
  let sh := R.LICHEN_CFG.LEARN_SHIFT.of_ cfg
  let dev := min 4095 ((x.2.1 : Int) - st).natAbs
  let e' := lset (lset e L.staticRange (moveBy st x.2.1 sh)) L.sigma (moveBy (lget e L.sigma) dev sh)
  lset (lset e' L.reflect (moveBy (lget e L.reflect) x.2.2 sh)) L.missRun 0

/-- RETRO is set where the matching echo is of class 3 (R103). -/
def entryFlagged (cfg : Nat) (x : Nat × Nat × Nat) (e : Nat) : Nat :=
  if x.1 = 3 then lset (entryDrawn cfg x e) L.retro 1 else entryDrawn cfg x e

/-- An entry whose observation matches an echo: T_CHANGE is the instant where the range, its spread or RETRO changed. -/
def entryMatched (now cfg : Nat) (x : Nat × Nat × Nat) (e : Nat) : Nat :=
  if bits (entryFlagged cfg x e) 0 32 = bits e 0 32 ∧ lget (entryFlagged cfg x e) L.retro = lget e L.retro then
    entryFlagged cfg x e
  else lset (entryFlagged cfg x e) L.tChange now

/-- What an observation can make of an entry (R102): it learns it, notes that nothing was seen, misses, or matches an echo. -/
theorem observed_cases (now cfg : Nat) (l : List (Nat × Nat × Nat)) (e : Nat) :
    observed now cfg l e = learnEntry now l e ∨ observed now cfg l e = lset e L.missRun 0 ∨
    observed now cfg l e = entryMissed now cfg l e ∨
    ∃ i x, matchCfg cfg l e = some i ∧ l[i]? = some x ∧ observed now cfg l e = entryMatched now cfg x e := by
  unfold observed
  dsimp only
  split
  · exact Or.inl rfl
  · split
    · split
      · exact Or.inr (Or.inr (Or.inl rfl))
      · exact Or.inr (Or.inl rfl)
    · split
      · exact Or.inr (Or.inr (Or.inl rfl))
      · next x hx =>
        obtain ⟨i, hi, hli⟩ := Option.bind_eq_some_iff.mp hx
        exact Or.inr (Or.inr (Or.inr ⟨i, x, hi, hli, rfl⟩))

/-! ### What a match leaves (R103) -/

variable {x : Nat × Nat × Nat}

theorem lget_entryDrawn (hf : L.Spared f) : lget (entryDrawn cfg x e) f = lget e f := by
  have hkeep {g : Nat × Nat} (hg : g ∈ L.learnt) (e v : Nat) : lget (lset e g v) f = lget e f := lget_lset_spared hf hg e v
  unfold entryDrawn
  dsimp only
  rw [hkeep (by decide), hkeep (by decide), hkeep (by decide), hkeep (by decide)]

theorem lget_entryFlagged (hf : L.Spared f) (hretro : L.Apart f L.retro) : lget (entryFlagged cfg x e) f = lget e f := by
  unfold entryFlagged
  split
  · rw [lget_lset_apart hretro, lget_entryDrawn hf]
  · exact lget_entryDrawn hf

theorem entryFlagged_retro : lget (entryFlagged cfg x e) L.retro = if x.1 = 3 then 1 else lget e L.retro := by
  unfold entryFlagged
  split
  · exact lget_lset_self _ _ _
  · exact lget_entryDrawn (by decide)

/-- T_CHANGE aside, a matched entry holds what the flagged one does. -/
theorem lget_entryMatched (htime : L.Apart f L.tChange) : lget (entryMatched now cfg x e) f = lget (entryFlagged cfg x e) f := by
  unfold entryMatched
  split
  · rfl
  · exact lget_lset_apart htime _ _

/-- A match that changes RETRO takes the instant as T_CHANGE. -/
theorem entryMatched_tChange (hnow : now < 2 ^ 64) (h : lget (entryFlagged cfg x e) L.retro ≠ lget e L.retro) :
    lget (entryMatched now cfg x e) L.tChange = now := by
  unfold entryMatched
  rw [if_neg (fun hsame => h hsame.2), lget_lset_self]
  exact Nat.mod_eq_of_lt hnow

/-! ### What an observation leaves (R103) -/

/-- Either an observation leaves every field that it spares, or it is a match. -/
theorem observed_spares_or_matches (now cfg : Nat) (l : List (Nat × Nat × Nat)) (e : Nat) :
    (∀ f, L.Spared f → lget (observed now cfg l e) f = lget e f) ∨
    ∃ i x, matchCfg cfg l e = some i ∧ l[i]? = some x ∧ observed now cfg l e = entryMatched now cfg x e := by
  rcases observed_cases now cfg l e with h | h | h | h
  · exact Or.inl fun f hf => h ▸ lget_learnEntry hf
  · exact Or.inl fun f hf => h ▸ lget_lset_spared hf (by decide) _ _
  · exact Or.inl fun f hf => h ▸ lget_entryMissed hf
  · exact Or.inr h

theorem lget_observed (hf : L.Spared f) (hretro : L.Apart f L.retro) : lget (observed now cfg l e) f = lget e f := by
  rcases observed_spares_or_matches now cfg l e with h | ⟨i, x, _, _, h⟩
  · exact h f hf
  · rw [h, lget_entryMatched (hf L.tChange (by decide)), lget_entryFlagged hf hretro]

/-- No observation clears RETRO. -/
theorem observed_keeps_retro (h : lget e L.retro = 1) : lget (observed now cfg l e) L.retro = 1 := by
  rcases observed_spares_or_matches now cfg l e with hkeep | ⟨i, x, _, _, hu⟩
  · rw [hkeep L.retro (by decide), h]
  · rw [hu, lget_entryMatched (by decide), entryFlagged_retro, h, ite_self]

/-- An observation that sets RETRO matches an echo of class 3, and takes its instant as T_CHANGE. -/
theorem observed_gains_retro (hnow : now < 2 ^ 64) (h0 : lget e L.retro = 0) (h1 : lget (observed now cfg l e) L.retro = 1) :
    lget (observed now cfg l e) L.tChange = now ∧ ∃ i x, matchCfg cfg l e = some i ∧ l[i]? = some x ∧ x.1 = 3 := by
  rcases observed_spares_or_matches now cfg l e with hkeep | ⟨i, x, hi, hx, hu⟩
  · rw [hkeep L.retro (by decide), h0] at h1
    cases h1
  · rw [hu, lget_entryMatched (by decide)] at h1
    have hclass : x.1 = 3 := by
      refine Decidable.byContradiction fun hne => ?_
      rw [entryFlagged_retro, if_neg hne, h0] at h1
      cases h1
    refine ⟨?_, i, x, hi, hx, hclass⟩
    rw [hu]
    refine entryMatched_tChange hnow ?_
    rw [h1, h0]
    exact Nat.one_ne_zero

end Entry

/-! ### The statement -/

/-- Settles O24: every field but RETRO by the places of the fields that an observation writes; RETRO by the one case that
writes it, a match of an echo of class 3. -/
theorem learningKeepsFlags : Obligations.LearningKeepsFlags := by
  unfold Obligations.LearningKeepsFlags
  intro now cfg e l _ hnow u
  exact ⟨lget_observed (by decide) (by decide), lget_observed (by decide) (by decide), observed_keeps_retro,
    observed_gains_retro hnow, lget_observed (by decide) (by decide), lget_observed (by decide) (by decide),
    lget_observed (by decide) (by decide), lget_observed (by decide) (by decide)⟩

end Sys2Proof.Machine

/-! The hand-off of an op, the maintenance queue and the close of a frame (O25; 04_echoes_and_points.md R86, R105, R114). -/

namespace Sys2Proof.Machine

section Points
variable {s : State} {d slot : Nat} {o : Op}

/-! ### Hand-off (R86) -/

/-- The op has been taken off its die's queue, and is counted as completed. -/
def State.opCompleted (s : State) (d : Nat) (r : List Nat) : State :=
  (s.setDie d { s.die d with handoff := r }).bump (R.OPS_COMPLETED.COMPLETED d)

/-- What the point processor does with a completed op: a reference op's residual, or the echoes of any other. -/
def pointsDone (d : Nat) (o : Op) (s : State) : State :=
  match o.ref with
  | some h => refHandoff h o s
  | none => pointHandoff d o (serveUrgent s)

/-- How far a wrapping counter of records has moved since `s`. -/
def State.recordsSince (s t : State) : Nat := (t.get R.PP_RECORDS.RECORDS + 2 ^ 32 - s.get R.PP_RECORDS.RECORDS) % 2 ^ 32

theorem handoff_of_op {r : List Nat} (hq : (s.die d).handoff = slot :: r) (ho : s.op d slot = some o) :
    handoff d s = noticeEgress o (s.recordsSince (pointsDone d o (s.opCompleted d r)))
      (releaseOp d slot (pointsDone d o (s.opCompleted d r))) := by
  have ho' : (s.setDie d { s.die d with handoff := r }).op d slot = some o := ho
  unfold handoff
  dsimp only
  rw [hq]
  dsimp only
  rw [ho']
  rfl

/-- A released slot holds no op, and the op's pages wait to be cleared (03_ranging_operations.md R63). -/
theorem releaseOp_spec (ho : s.op d slot = some o) :
    (releaseOp d slot s).op d slot = none ∧ (releaseOp d slot s).group d (chGroup o.chan) =
      { s.group d (chGroup o.chan) with clearing := (s.group d (chGroup o.chan)).clearing + o.pages } := by
  rw [releaseOp_of_op ho]
  refine ⟨?_, State.group_setGroup_self _ _ _ _⟩
  rw [State.op_of_ops State.setGroup_ops, State.op_setOp_self]

/-! ### The maintenance queue (R105) -/

/-- The maintenance queue holds the observations that are left. -/
def State.obsTaken (s : State) (r : List Obs) : State := { s with pts := { s.pts with obs := r } }

theorem serveObs_of_cons {x : Obs} {r : List Obs} (h : s.pts.obs = x :: r) : serveObs s = nvBegin (learnObs x (s.obsTaken r)) := by
  unfold serveObs
  rw [h]
  rfl

theorem learnObs_of_unpinned {x : Obs} (h : lget (s.lichen x.cell) L.pin = 0) :
    learnObs x s = s.setLichen x.cell (observed s.ns x.cfg x.echoes (s.lichen x.cell)) := if_pos h

theorem learnObs_of_pinned {x : Obs} (h : lget (s.lichen x.cell) L.pin ≠ 0) : learnObs x s = s := if_neg h

/-- The turn of a non-volatile record changes the security block alone, which holds the records. -/
theorem nvBegin_sec_only (s : State) : nvBegin s = { s with sec := (nvBegin s).sec } := by
  unfold nvBegin
  split
  · split
    · rfl
    · rfl
  · rfl

/-- A write of an entry is seen at no byte outside it: its forwarding to a standby stores none. -/
theorem State.byte_setLichen {cell e a : Nat} (h : a < lichenBase + 32 * cell ∨ lichenBase + 32 * cell + 32 ≤ a) :
    (s.setLichen cell e).byte a = s.byte a := by
  have hmem : (s.setLichen cell e).mem = (s.store (lichenBase + 32 * cell) 32 e).mem :=
    (forward_touch (m := 16384) rfl .refl).mem (by decide)
  calc (s.setLichen cell e).byte a
      = (s.store (lichenBase + 32 * cell) 32 e).byte a := by unfold State.byte; rw [hmem]
    _ = s.byte a := State.byte_store _ _ _ _ _ h

/-! ### The close of a frame (R114) -/

theorem closeFrame_of_finished {h frame : Nat} {a : FrameAcc} (hf : s.frame h frame = some a) (hended : a.ended = true)
    (hops : a.issued = a.completed + a.abandoned) (hheld : s.frameHeld h frame = false) :
    let p7 := b2n a.torn + 2 * b2n a.frondTorn + 4 * b2n a.displaced + 8 * b2n a.lost
    let x := milestone 0x02 h frame
      [a.issued, a.completed, a.declined, a.abandoned, s.extinct a, a.records, a.suppressed, p7] s
    closeFrame h frame s = stopDone h frame (policyFrame h (a.classes.get 0 0) (a.classes.get 0 1) (a.classes.get 0 2)
      (hopRegions h a (raiseEv (4 + h) (setFstat h frame a (s.extinct a) (x.setFrame h frame none))))) := by
  intro p7 x
  unfold closeFrame
  rw [hf]
  exact if_pos ⟨hended, hops, by rw [hheld]; rfl⟩

end Points

/-! ### The statement -/

/-- Settles O25, command by command: each runs on a part that its effect leaves running, so its effect is the outcome. -/
theorem pointsHandedOff : Obligations.PointsHandedOff := by
  unfold Obligations.PointsHandedOff
  refine ⟨?handoff, fun d slot o s ho => releaseOp_spec ho, ?observation, nvBegin_sec_only,
    fun s cell e a h => State.byte_setLichen h, ?close⟩
  case handoff =>
    intro t d slot r o s hready w hq ho x y
    have hsu : (handoff d w).su = w.su := (handoff_touch (m := 13172508) rfl .refl).su (by decide)
    exact (act_calm hready hsu).trans (congrArg _ (handoff_of_op hq ho))
  case observation =>
    intro t x r s hready w hq v
    have hsu : (serveObs w).su = w.su := (serveObs_touch (m := 8409096) rfl .refl).su (by decide)
    have hexec : exec (.lichenObservation t) s = .next (nvBegin (learnObs x v)) :=
      (act_calm hready hsu).trans (congrArg _ (serveObs_of_cons hq))
    refine ⟨fun hpin => ?_, fun hpin => ?_⟩
    · rw [hexec, learnObs_of_unpinned (s := v) hpin]
      rfl
    · rw [hexec, learnObs_of_pinned (s := v) hpin]
  case close =>
    intro t frame h a s hready w hf hended hops hheld p7 x
    have hsu : (closeFrame h frame w).su = w.su := (closeFrame_touch (m := 120844) rfl .refl).su (by decide)
    exact (act_calm hready hsu).trans (congrArg _ (closeFrame_of_finished hf hended hops hheld))

end Sys2Proof.Machine
